-- ==== Sys2Proof/Word.lean ====
section
/-! DEFINITION. The plainest arithmetic of words: a register value is a `Nat` below the power of two of its width, and
a byte string is a list of `Nat`s below 256, least significant byte first (00_scope.md R4). -/

namespace Sys2Proof

/-- The low `w` bits of `v`. -/
abbrev low (w v : Nat) : Nat := v % 2 ^ w

/-- Bits `lo` to `lo + w - 1` of `v`. -/
abbrev bits (v lo w : Nat) : Nat := v / 2 ^ lo % 2 ^ w

/-- Bit `i` of `v`. -/
abbrev bit (v i : Nat) : Bool := v / 2 ^ i % 2 == 1

end Sys2Proof
end

