-- ==== Sys2Proof/Config.lean ====
section
/-! DEFINITION. What the spec leaves open or leaves outside itself: constants with no body, of which nothing can be
proved and nothing can be evaluated. A statement of the model holds whatever they are. -/

namespace Sys2Proof.Config

/-- A value the spec states no rule for: the `n`-th one the machine needs. `n` is `State.freeCtr`, which each use
advances (notes/assumptions/3.md). -/
opaque freeValue : Nat → Nat

/-- SHA-384 of a byte string, as a 384-bit number (FIPS 180-4, outside the spec; notes/assumptions/4.md). -/
opaque sha384 : List Nat → Nat

/-- ECDSA P-384 verification of a signature (r then s) over a digest under a public key
(outside the spec; notes/assumptions/4.md). -/
opaque ecdsaVerify : (key : List Nat) → (digest : Nat) → (sig : List Nat) → Bool

/-- ECDSA P-384 verification of a signature against the owner key whose SHA-384 hash is in OTP; a standing profile's
signature section names the slot and carries no key (09_ecrax_protocol.md R233; notes/assumptions/4.md). -/
opaque profileVerify : (keyHash : Nat) → (digest : Nat) → (sig : List Nat) → Bool

/-- ECDSA P-384 signature, r then s, with the private scalar `d` and the per-signature value `k` over a digest
(outside the spec; notes/assumptions/4.md). -/
opaque ecdsaSign : (d k digest : Nat) → List Nat

/-- The uncompressed public key of the private scalar `d` (97 bytes; outside the spec, notes/assumptions/4.md). -/
opaque publicKey : (d : Nat) → List Nat

/-- The order of the P-384 group (FIPS 186, PRESUMED; 15_security_and_debug.md R358 names it; notes/assumptions/4.md). -/
def p384Order : Nat :=
  0xFFFFFFFFFFFFFFFFFFFFFFFFFFFFFFFFFFFFFFFFFFFFFFFFC7634D81F4372DDF581A0DB248B0A77AECEC196ACCC52973

/-- The SEC random source: the `n`-th draw, of which the low bits wanted are taken. -/
opaque random : Nat → Nat

/-- The message authentication code of a saved retention list (13_power_domains.md R316): sealing key, domain, save
count and the contents' digest. -/
opaque sealCode : Nat → Nat → Nat → Nat → Nat

/-- The temperature in 0.1 °C that the difference of a diode's forward voltages at 10 µA and 100 µA, in µV, stands for;
the spec names the method and not the formula (03_feeds.md R78; notes/assumptions/138.md). -/
opaque diodeTenths : Nat → Int

/-- The temperature in 0.1 °C of an NTC from its voltage in µV at 50 µA, `NTC_RNOM` and `NTC_BETA`; the spec names the
three and not the formula (03_feeds.md R78; notes/assumptions/138.md). -/
opaque ntcTenths : (uv rnom beta : Nat) → Int

/-- One 20 µs update of pole 0, 1 or 2 of a port's thermal model at a dissipation, from its rise in 0.1 °C; the constants
are fixed in silicon and the spec states none (04_port_power.md R86; notes/assumptions/138.md). -/
opaque portPole : (pole dissipation : Nat) → (rise : Int) → Int

/-- R_ON of a port switch at a junction temperature in 0.1 °C; the spec bounds it and does not state it (R80, R86; notes/assumptions/138.md). -/
opaque portOnResistance : (tj : Int) → Nat

/-- The number of store-and-forward pages of one DRAM channel; the spec gives the size of a page and not the fitted DRAM
(07_shuttle_engines.md R164; notes/assumptions/89.md). -/
opaque dramPages : Nat

/-- What the boot flash holds once bytes have been written to it, the `n`-th time: it may fail to read back
(10_ecrax_opcodes.md R243; notes/assumptions/151.md). -/
opaque flashHolds : (n : Nat) → List Nat → List Nat

/-- The time in ns that one transaction takes on a bus: the speed of the bus and of the device (where they differ, a split
transaction on the bus of the hub), the endpoint's type, its direction and its bytes; it is that of USB 2.0, which the spec
does not restate (07_shuttle_engines.md R147, R148; notes/assumptions/32.md). -/
opaque busTime : (bus speed typ : Nat) → (isIn : Bool) → (bytes : Nat) → Nat

/-- The Container ID that the hub's two personalities and the Loom function share, 16 bytes, from the identity of the device
with the serial number given; the spec states no value (06_transparent_hub.md R128, 08_loom_function.md R179; notes/assumptions/30.md). -/
opaque containerId : (serial : Nat) → List Nat

/-- What a SuperSpeed capability says of low and full speed and of the lowest speed with full function, and the exit
latencies of the SuperSpeed hub; the spec does not state them (06_transparent_hub.md R128, 08_loom_function.md R179;
notes/assumptions/30.md). -/
opaque ssSpeeds : Nat
opaque ssLowest : Nat
opaque hubU1Lat : Nat
opaque hubU2Lat : Nat

end Sys2Proof.Config
end

