-- ==== Sys2Proof/Syntax.lean ====
section
/-! DEFINITION. The commands the block takes (spec/opcode_table.json, one constructor per row) and the records that
stand in them as operands. An event that the device times or measures itself carries the unit and the quantity
measured; the spec's condition for it is checked in its meaning. -/

namespace Sys2Proof.Machine

/-- The channels of Ecrax packets (09_ecrax_protocol.md R217), codes 0 to 3 in this order. -/
inductive Chan where
  | loom | mailbox | hierarchy | profile
  deriving DecidableEq, Repr

/-- The register access paths, each with a window and shadows of its own (17_registers.md R393, R394). -/
inductive Path where
  | mgmt | ecrax | debug
  deriving DecidableEq, Repr

/-- An Ecrax command packet after its framing was read (09_ecrax_protocol.md R211): the channel it came on, the
device it came through (255 local), its header fields and its parameter bytes. -/
structure Packet where
  chan    : Chan
  origin  : Nat := 255
  opcode  : Nat
  tag     : Nat
  cls     : Nat
  seq     : Nat
  noReply : Bool := false
  params  : List Nat
  deriving DecidableEq, Repr

/-- The strap balls at the `PORST_N` release, bit 0 first (02_package_and_balls.md R45 to R47): each driven low or high by
the board, or open. -/
structure Straps where
  idx      : List (Option Bool)
  mgmtAddr : List (Option Bool)
  boot     : List (Option Bool)
  prefHalf : Option Bool
  mgrElig  : Option Bool
  deriving DecidableEq, Repr

/-- The two voltages of a feed that both sides of its switch have at one instant: VIN and the rail (03_feeds.md R64). -/
structure FeedVolts where
  vinMv  : Nat
  railMv : Nat
  deriving DecidableEq, Repr

/-- What a feed measures at one instant: its voltages and that of its shunt (03_feeds.md R64, R74). -/
structure FeedSense extends FeedVolts where
  shuntUv : Int
  deriving DecidableEq, Repr

/-- A charge of the cooldown pin (03_feeds.md R71): the time it took to 2.45 V and its level 5 ms after the start. -/
structure CdlyCharge where
  riseNs : Nat
  at5Ms  : Nat
  deriving DecidableEq, Repr

/-- What an update of a port's thermal model starts from (04_port_power.md R86): the current and the substrate sensor in
0.1 °C. -/
structure PortHeat where
  iMa       : Int
  substrate : Int
  deriving DecidableEq, Repr

/-- The descriptors that a device answers with after a reset (07_shuttle_engines.md R174): its device descriptor and its
configuration 1. -/
structure DevDescs where
  device : List Nat
  config : List Nat
  deriving DecidableEq, Repr

/-- An error of a fault source: its kind and unit-local address (14_faults_and_takeover.md R330). -/
structure Failure where
  src  : Nat
  kind : Nat
  addr : Nat
  deriving DecidableEq, Repr

/-- The outcomes of the collector's self test (14_faults_and_takeover.md R334, source 0x00). -/
inductive SelfCheck where
  | pass | outvoted | failed
  deriving DecidableEq, Repr

/-- What a debugger's access asks for (15_security_and_debug.md R362, R366, R367). -/
inductive DebugWhat where
  | read | write (value : Nat) | halt | resume | scan (extest : Bool) | hbMask (on : Bool)
  deriving DecidableEq, Repr

/-- The kinds of place a debugger may reach (15_security_and_debug.md R367). -/
inductive DebugWhere where
  | register | dataMemory | secretRegion | secDbg | core
  deriving DecidableEq, Repr

/-- One debugger access (15_security_and_debug.md R367): the domain it is for, the kind of place and, for a register,
its `IND_ADDR` value or its direct address. -/
structure DebugAccess where
  domain : Nat
  place  : DebugWhere
  what   : DebugWhat
  ind    : Bool
  addr   : Nat
  deriving DecidableEq, Repr

/-- How a downstream transaction ended (07_shuttle_engines.md R152, R167). `inData` is a data packet acknowledged,
`outAck` a packet of so many bytes accepted, `setupAck` the SETUP stage and `statusOk` the status stage of a control
transfer; the hub results come from an external hub's status endpoint (R158); a start split taken by the transaction
translator of a high-speed hub, and its answer that the result is not there yet (R147). -/
inductive Txn where
  | inData (data : List Nat) | outAck (n : Nat) | setupAck | statusOk | nak | stall | babble | error
  | isoMissed | hubConnect (hubPort : Nat) | hubDisconnect (hubPort : Nat) | startSplit | nyet
  deriving DecidableEq, Repr

/-- A CAN frame (11_can_controllers.md R256). -/
structure CanFrame where
  id   : Nat
  ide  : Bool
  fdf  : Bool
  brs  : Bool
  rtr  : Bool
  esi  : Bool
  dlc  : Nat
  data : List Nat
  deriving DecidableEq, Repr

/-- The end of a transmission attempt (11_can_controllers.md R266): acknowledged, lost arbitration, no acknowledgement
(the flag says whether a dominant bit was seen in the passive error flag, R271), or another error with its `LEC` code and
how many times ISO 11898-1 raises `TEC` by 8 for it: 1, 0 under its arbitration exception, more for a long dominant run. -/
inductive TxEnd where
  | ok | lost | noAck (dominant : Bool) | err (lec : Nat) (dataPhase : Bool) (eights : Nat)
  deriving DecidableEq, Repr

/-- A hierarchy message as it arrives (12_hierarchy.md R282): its bus, its identifier fields, its payload and its SOF
stamp (11_can_controllers.md R268). -/
structure HMsg where
  bus   : Nat
  src   : Nat
  dst   : Nat
  seg   : Nat
  data  : List Nat
  stamp : Nat
  deriving DecidableEq, Repr

/-- What two Type-C CC pins show (05_port_lifecycle.md R114). -/
inductive CcPat where
  | opened | sink (onCc2 : Bool) | debugAcc | audioAcc | other
  deriving DecidableEq, Repr

/-- The link power state requests of the host (08_loom_function.md R180, 06_transparent_hub.md R137). -/
inductive LinkPm where
  | u1 | u2 | u0 | l1 | l0 | portL1 (hubPort : Nat) | portL0 (hubPort : Nat)
  deriving DecidableEq, Repr

/-- The functions with descriptors: the two personalities of the hub, the Loom function and the DFU function of the boot ROM
(06_transparent_hub.md R128, 08_loom_function.md R179, 16_start_up.md R379). -/
inductive UsbFn where
  | hub2 | hubSs | loom | dfu
  deriving DecidableEq, Repr

/-- Standard requests to the USB 2.0 hub, a descriptor read from it or from a function behind it (06_transparent_hub.md
R128), and the split transactions that the host starts and completes through it, `slot` the microframe of a periodic one
(R134 to R136). -/
inductive HubReq where
  | setAddress (a : Nat) | setConfiguration (c : Nat) | remoteWake (on : Bool)
  | getDescriptor (fn : UsbFn) (typ ix len : Nat)
  | startSplit (hubPort dev ep : Nat) (slot : Option Nat) (data : List Nat)
  | completeSplit (hubPort dev ep : Nat) (slot : Option Nat)
  | statusPoll
  deriving DecidableEq, Repr

end Sys2Proof.Machine

namespace Sys2Proof

open Sys2Proof.Machine

/-- The commands of the block: one constructor per row of the table of operations and events. -/
inductive Instr where
  /-- `PORST_N_ASSERT` (R41). A low level on PORST_N resets the loom die including AON, and the skeins are held while it lasts. -/
  | porstNAssert (lowNs : Nat)
  /-- `PORST_N_RELEASE` (R374). Release of PORST_N starts a cold start at DT 0. -/
  | porstNRelease (straps : Straps) (valid : Bool)
  /-- `STRAP_PULL_DISABLE` (R46). At DT 50 µs the strap pulls and strap input buffers are disabled. -/
  | strapPullDisable
  /-- `WARM_N_RELEASE` (R41). Release of a WARM_N that was held low through the PORST_N release lets the cold start continue. -/
  | warmNRelease
  /-- `WARM_N_LOW` (R381). A recognised WARM_N low level starts a warm restart, unless the safe-hold latch is set. -/
  | warmNLow (lowNs : Nat)
  /-- `WARM_RESTART_BEGIN` (R242). After a WARM_RESTART command, the restart begins once its reply is read or 5 ms after the reply is ready. -/
  | warmRestartBegin
  /-- `VDD_AON_REMOVAL` (R350). Removal of VDD_AON clears the safe-hold latch and releases FAULT_N. -/
  | vddAonRemoval
  /-- `XSPI_RESET_RELEASE` (R48). At DT 100 µs the device drives XSPI_RESET_N high. -/
  | xspiResetRelease
  /-- `REFERENCE_LOCKED` (R374). The 25 MHz crystal has started and the PLLs have locked, so DT moves to the 40 MHz clock. -/
  | referenceLocked
  /-- `OTP_READ_COMPLETE` (R353). The OTP has been read, and the lifecycle rows are compared and decoded, completing or flagging an interrupted transition. -/
  | otpReadComplete
  /-- `DRAM_INIT_COMPLETE` (R374). DRAM initialisation and training complete during start-up. -/
  | dramInitComplete
  /-- `IMAGE_VERIFIED` (R373). Verification of a boot image slot ends; the device then boots it, tries the other slot, or enters DFU recovery. -/
  | imageVerified (slot : Nat)
  /-- `HALF_BOOT_COMPLETE` (R361). A controller half has loaded its image and checked its digest, and then runs or stays in reset. -/
  | halfBootComplete (half : Nat) (digestOk : Bool)
  /-- `TOKEN_GRANT` (R376). The arbiter grants the token when both halves have requested it, or 50 ms after the first request. -/
  | tokenGrant
  /-- `TOKEN_ARBITRATION_TIMEOUT` (R376). No half has requested the token by 2 s, so GRAVE is raised on source 0x03. -/
  | tokenArbitrationTimeout
  /-- `SELF_TEST_COMPLETE` (R377). The lead half's self test ends, raising faults for failures and releasing the skeins that pass their check. -/
  | selfTestComplete (failed : List Failure)
  /-- `STANDING_PROFILE_APPLY` (R378). At step 11 the standing profile is checked and applied, and ready is then reported. -/
  | standingProfileApply
  /-- `XTAL32_START` (R51). After 512 consecutive crystal cycles, the slow clock changes from the RC oscillator to the crystal. -/
  | xtal32Start (cycles : Nat)
  /-- `XTAL32_ABANDON` (R51). The crystal has not started by DT 2 s, so the RC oscillator is kept for the power cycle. -/
  | xtal32Abandon
  /-- `DFU_CONNECT` (R379). In DFU recovery, once VBUS has been present for 10 ms, the USB 2.0 hub connects with the DFU-mode function on port 97. -/
  | dfuConnect (vbusNs : Nat)
  /-- `DFU_DNLOAD` (R380). A DFU download block is stored in DRAM. -/
  | dfuDnload (block : List Nat)
  /-- `DFU_MANIFEST` (R380). The zero-length download checks the image and enters dfuMANIFEST-WAIT-RESET or dfuERROR. -/
  | dfuManifest
  /-- `DFU_BUS_RESET` (R380). The host's bus reset after manifestation withdraws the pull-up and continues the boot from the DRAM copy with connect permitted. -/
  | dfuBusReset
  /-- `SKEIN_AON_POWER_UP` (R372). A skein's always-on section powers up: registers reset, feeds start in WAITING or COOLDOWN_INHERITED, and ports start OFF and DISABLED. -/
  | skeinAonPowerUp (skein : Nat) (vinA : Nat) (vinB : Nat) (cdlyA : Nat) (cdlyB : Nat)
  /-- `SKEIN_AON_POWER_DOWN` (R372). Both feed inputs fall below 3.3 V, so the skein always-on section powers down. -/
  | skeinAonPowerDown (skein : Nat) (vinA : Nat) (vinB : Nat)
  /-- `HOLD_LINE_ASSERT` (R18). The hold line asserts, and the skein freezes its power state and rejects power commands. -/
  | holdLineAssert (skein : Nat)
  /-- `HOLD_LINE_DEASSERT` (R18). The hold line deasserts, and a configuration check is due within 1 ms. -/
  | holdLineDeassert (skein : Nat)
  /-- `LINK_SILENT_TIMEOUT` (R18). A die-to-die link silent for 100 µs is treated as an asserted hold line. -/
  | linkSilentTimeout (skein : Nat) (silentNs : Nat)
  /-- `CONFIG_CHECK_START` (R18). The lead half starts the configuration check of a skein. -/
  | configCheckStart (skein : Nat)
  /-- `CONFIG_CHECK_DONE` (R18). A configuration check ends: on a pass the skein leaves hold and an allocation pass follows; on a failure LANE or LINK is raised. -/
  | configCheckDone (skein : Nat) (pass : Bool) (link : Bool)
  /-- `TRAINING_COMPLETE` (R338). Retraining run by a fault clear ends for a DRAM channel or a link, clearing the gecko bit on a pass. -/
  | trainingComplete (src : Nat) (pass : Bool)
  /-- `FEED_INPUT_QUALIFIED` (R55). VIN has been in range for 10 ms, so a waiting feed enters INRUSH or JOINING, or keeps waiting. -/
  | feedInputQualified (feed : Nat) (vin : Nat) (forNs : Nat)
  /-- `RAIL_REACHED` (R57). The rail is within 50 mV of VIN during INRUSH, so the gate is driven to full drive. -/
  | railReached (feed : Nat) (vin : Nat) (rail : Nat)
  /-- `FULL_ENHANCEMENT` (R55). GATE-SRC reaches VGS_FE after the rail is reached, so the feed enters ON with reverse blocking and sharing. -/
  | fullEnhancement (feed : Nat) (vgsMv : Nat)
  /-- `SHARE_REACHED` (R59). A joining feed reaches its share or full drive and enters ON. -/
  | shareReached (feed : Nat) (ownUv : Int) (mateUv : Int) (fullDrive : Bool)
  /-- `FEED_CURRENT_LIMIT` (R60). The shunt voltage reaches ILIM_MV, so the feed enters LIMIT and its fault timer runs. -/
  | feedCurrentLimit (feed : Nat) (shuntUv : Int)
  /-- `FEED_LIMIT_EXIT` (R62). The shunt voltage has been below ILIM_MV for 1 ms, so the feed returns to its previous state with its timer reset. -/
  | feedLimitExit (feed : Nat) (belowNs : Nat)
  /-- `FEED_FAULT_TIMER_EXPIRY` (R62). The feed fault timer reaches FTIME_MS and the feed trips; with it the thermal update and the sensor reading that fall in the same tick. -/
  | feedFaultTimerExpiry (feed : Nat) (model : Option FeedSense) (sensorUv : Option Nat)
  /-- `INRUSH_TIMEOUT` (R55). Insertion is not complete in 50 ms, so the feed trips with INRUSH_TIMEOUT. -/
  | inrushTimeout (feed : Nat)
  /-- `FEED_THERMAL_MODEL_UPDATE` (R76). The 10 µs Cauer ladder update of the feed's modelled Tj trips the feed at TJ_TRIP. -/
  | feedThermalModelUpdate (feed : Nat) (volts : FeedVolts) (shuntUv : Int)
  /-- `FEED_SENSOR_READ` (R78). The 10 ms reading of the direct sensor corrects T3, or trips the feed at TS_TRIP. -/
  | feedSensorRead (feed : Nat) (uv : Nat)
  /-- `FEED_REVERSE_BLOCK` (R64). V_DS falls below -5 mV, so the gate is pulled to SRC within 1 µs and the feed enters BLOCKED. -/
  | feedReverseBlock (feed : Nat) (sense : FeedSense)
  /-- `FEED_INPUT_OUT_OF_RANGE` (R64). VIN leaves [UV, OV), so an ON or JOINING feed enters BLOCKED within 5 µs. -/
  | feedInputOutOfRange (feed : Nat) (vin : Nat)
  /-- `FEED_BLOCKED_REJOIN` (R55). A blocked feed whose input is back in range and above the rail enters JOINING. -/
  | feedBlockedRejoin (feed : Nat) (vin : Nat) (rail : Nat)
  /-- `INPUT_LOST` (R65). A blocked feed's input has been out of range for 10 ms, so the feed latches with a UNIT fault. -/
  | inputLost (feed : Nat) (vin : Nat) (forNs : Nat)
  /-- `CDLY_COOLDOWN_END` (R71). CDLY falls below 0.4 V and the cooldown ends, to WAITING or OFF. -/
  | cdlyCooldownEnd (feed : Nat)
  /-- `CDLY_CHECK_MISSING` (R71). CDLY reaches 2.45 V within 20 µs of a charge, so the capacitor is missing and the feed latches. -/
  | cdlyCheckMissing (feed : Nat)
  /-- `CDLY_CHECK_SHORTED` (R71). CDLY is still below 0.4 V 5 ms after a charge, so the capacitor is shorted and the feed latches. -/
  | cdlyCheckShorted (feed : Nat)
  /-- `CDLY_TEST_CHARGE` (R71). The test charge made by a gecko clear ends, and it releases the latch to COOLDOWN or keeps CDLY_FAULT. -/
  | cdlyTestCharge (feed : Nat) (charge : CdlyCharge)
  /-- `FEED_STOPPED` (R55). A STOPPING feed with its gate off for 100 ms enters OFF and runs any deferred enable. -/
  | feedStopped (feed : Nat) (vgsMv : Nat)
  /-- `FEED_RETRY_RELOAD` (R55). After 60 s in ON with no trip, RETRY_LEFT is reloaded. -/
  | feedRetryReload (feed : Nat)
  /-- `FEED_STUCK_ON` (R55). Shunt current above 1 A, 100 µs after the gate was switched off, raises GRAVE and safe hold. -/
  | feedStuckOn (feed : Nat) (shuntUv : Int)
  /-- `FEED_SAMPLE` (R74). The 100 kS/s feed sample adds positive power to the energy counter; `controlled` says that slew or limit control has the gate. -/
  | feedSample (feed : Nat) (vinMv : Nat) (shuntUv : Int) (railMv : Nat) (vgsMv : Nat) (controlled : Bool)
  /-- `MEASUREMENT_WINDOW_END` (R74). At the end of each 1 ms DT window the feed, skein and port averages are updated. -/
  | measurementWindowEnd
  /-- `SHARE_LIMIT_SET` (R67). The share ratio error has exceeded 5 % at the gate floor for 20 ms, so SHARE_LIMIT is set and raised. -/
  | shareLimitSet (feed : Nat) (forNs : Nat)
  /-- `SHARE_LIMIT_CLEAR` (R67). The share error has been within 5 % for 20 ms, so the SHARE_LIMIT status clears. -/
  | shareLimitClear (feed : Nat) (forNs : Nat)
  /-- `POWER_GOOD_SETTLED` (R68). The 2 ms settle window completes and SKPG_N is driven low. -/
  | powerGoodSettled (skein : Nat)
  /-- `FEED_CFG_WRITE` (R73). A register write that changes EN acts as FEED_ENABLE or FEED_DISABLE, or is refused with RANGE. -/
  | feedCfgWrite (path : Path) (feed : Nat) (value : Nat)
  /-- `SOFTSTART_COMPLETE` (R83). VBUS is within 100 mV of the rail, so the port enters ON at full drive. -/
  | softstartComplete (port : Nat) (vbus : Nat) (rail : Nat)
  /-- `SS_TIMEOUT` (R83). The soft-start timeout expires and the port trips. -/
  | ssTimeout (port : Nat)
  /-- `PORT_CURRENT_LIMIT` (R83). Port current reaches the effective limit, so the port enters LIMIT and its fault timer runs. -/
  | portCurrentLimit (port : Nat) (iMa : Int)
  /-- `PORT_LIMIT_EXIT` (R81). Current has been below the limit for 1 ms, so the port returns to its previous state with its timer reset. -/
  | portLimitExit (port : Nat) (belowNs : Nat)
  /-- `PORT_FAULT_TIMER_EXPIRY` (R81). The port fault timer reaches FTIME and the port trips; with it the current, the sensor reading and the model update that fall in the same tick. -/
  | portFaultTimerExpiry (port : Nat) (shortMa : Option Int) (sensor : Option Int) (model : Option PortHeat)
  /-- `SHORT_CIRCUIT_TRIP` (R80). Port current reaches 7 A, so the switch opens within 1 µs and the port trips. -/
  | shortCircuitTrip (port : Nat) (iMa : Int)
  /-- `PORT_SENSOR_READ` (R86). The 1 ms junction sensor reading trips the port at 160 °C. -/
  | portSensorRead (port : Nat) (reading : Int)
  /-- `PORT_MODEL_UPDATE` (R86). The 20 µs thermal model update trips the port when its prediction reaches 150 °C. -/
  | portModelUpdate (port : Nat) (heat : PortHeat)
  /-- `PORT_REVERSE_BLOCK` (R83). VBUS at least 20 mV above the rail opens the switch and sets BLOCKED. -/
  | portReverseBlock (port : Nat) (vbus : Nat) (rail : Nat)
  /-- `PORT_REVERSE_RELEASE` (R83). VBUS has been below rail + 5 mV for 100 µs, so the switch closes again. -/
  | portReverseRelease (port : Nat) (vbus : Nat) (rail : Nat) (forNs : Nat)
  /-- `DISCHARGE_COMPLETE` (R83). VBUS is below 0.8 V and 100 ms have passed, so the port enters OFF and runs any deferred enable. -/
  | dischargeComplete (port : Nat) (vbus : Nat)
  /-- `DISCHARGE_DISCONNECT` (R83). VBUS has been below 0.8 V for 10 ms, so the discharge resistor is disconnected. -/
  | dischargeDisconnect (port : Nat) (belowNs : Nat)
  /-- `RETRY_PERIOD_EXPIRY` (R88). The port's retry period timer expires. -/
  | retryPeriodExpiry (port : Nat)
  /-- `RETRY_END` (R83). At the first tick after expiry in which VBUS, off-time and temperature conditions hold, the port leaves RETRY for OFF. -/
  | retryEnd (port : Nat) (vbus : Nat)
  /-- `PORT_RETRY_RELOAD` (R83). After 60 s in ON with no trip, the port's RETRY_LEFT is reloaded. -/
  | portRetryReload (port : Nat)
  /-- `PORT_STUCK_ON` (R83). Forward switch current above 100 mA, 100 µs after switch-off, raises GRAVE and safe hold. -/
  | portStuckOn (port : Nat) (iMa : Int)
  /-- `PORT_SAMPLE` (R103). The 50 kS/s port sample of VBUS and current accumulates energy. -/
  | portSample (port : Nat) (vbus : Nat) (iMa : Int)
  /-- `PWR_CFG_WRITE` (R82). A register write to PWR_CFG acts as PORT_VBUS_ON or PORT_VBUS_OFF, or is refused with RANGE or HELD. -/
  | pwrCfgWrite (path : Path) (port : Nat) (value : Nat)
  /-- `ALLOCATION_PASS` (R97). The skein budget logic grants every attached port an allocation and sets the Rp levels. -/
  | allocationPass (skein : Nat)
  /-- `RP_LEVEL_APPLIED` (R94). A new Rp level reaches both CC pins, at t_c. -/
  | rpLevelApplied (port : Nat)
  /-- `SHED_HOLD_END` (R99). 100 ms after a lowering, the shed hold ends and shedding resumes. -/
  | shedHoldEnd (skein : Nat)
  /-- `SHED_CAP_RESTORE` (R101). After 1 s of headroom, one shed cap step is removed. -/
  | shedCapRestore (skein : Nat)
  /-- `COMPLIANCE_CHECK` (R102). The first window at or after t_c + 60 ms is checked, and NONCOMPLY is counted if the port is above the threshold. -/
  | complianceCheck (port : Nat)
  /-- `SINK_LIMIT_IMPOSED` (R102). At t_c + 100 ms a non-compliant sink gets its effective limit set to the threshold. -/
  | sinkLimitImposed (port : Nat)
  /-- `CC_OVERVOLTAGE` (R400). A CC pin above 5.5 V stops the port's Rp source until both pins have been below 5.5 V for 1 ms. -/
  | ccOvervoltage (port : Nat) (mv : Nat) (belowNs : Nat)
  /-- `VBUS_BACKFEED_CLEAR` (R400). Pn_VBUS has been below 6.0 V for 1 ms, so the discharge path may reconnect. -/
  | vbusBackfeedClear (port : Nat) (belowNs : Nat)
  /-- `CC_SAMPLE` (R114). The 100 µs CC sample starts, breaks or continues a Type-C debounce window. -/
  | ccSample (port : Nat) (pat : CcPat)
  /-- `TYPEC_DEBOUNCE_COMPLETE` (R114). The 120 ms Type-C debounce completes with a constant pattern. -/
  | typecDebounceComplete (port : Nat)
  /-- `TYPEA_DETECT` (R116). Current of at least 50 mA or a D+/D- pull-up starts a Type-A debounce window. -/
  | typeaDetect (port : Nat) (iMa : Int) (pullup : Bool)
  /-- `TYPEA_DEBOUNCE_COMPLETE` (R116). The Type-A debounce completes at the first 1 ms evaluation at or after 100 ms. -/
  | typeaDebounceComplete (port : Nat)
  /-- `TYPEC_DETACH` (R115). The Rd pin has read open for 10 ms, so the sink is detached and the power request withdrawn. -/
  | typecDetach (port : Nat) (openNs : Nat)
  /-- `TYPEA_DETACH` (R116). A Type-A device detaches after a 10 ms disconnect, or after 5 s below 10 mA. -/
  | typeaDetach (port : Nat) (forNs : Nat)
  /-- `TYPEA_PULLUP_SEEN` (R116). A pull-up appears on a Type-A port attached by current, which is then marked as attached by data line. -/
  | typeaPullupSeen (port : Nat)
  /-- `QUALIFY_COMPLETE` (R118). The qualify window completes, moving the port to CHARGING, PRESENTED or ENUMERATE. -/
  | qualifyComplete (port : Nat)
  /-- `LOGICAL_DETACH_COMPLETE` (R110). A logical detach completes and LOGICAL_DETACH is raised. -/
  | logicalDetachComplete (port : Nat)
  /-- `MODE_CHANGE_COMPLETE` (R112). A mode change completes, raising MODE_DONE and starting any pending or recomputed mode. -/
  | modeChangeComplete (port : Nat)
  /-- `UPSTREAM_VBUS_QUALIFIED` (R122). USP_VBUSDET has shown VBUS for 10 ms. -/
  | upstreamVbusQualified (presentNs : Nat)
  /-- `UPSTREAM_CONNECT` (R122). With ready, permission and VBUS all holding, the pull-up and SuperSpeed terminations are applied. -/
  | upstreamConnect
  /-- `UPSTREAM_VBUS_ABSENT` (R123). VBUS has been absent for 1 ms, so the pull-up and terminations are withdrawn. -/
  | upstreamVbusAbsent (absentNs : Nat)
  /-- `DISCONNECT_HOLDOFF_END` (R123). The 100 ms after DISCONNECT end, and a deferred CONNECT acts. -/
  | disconnectHoldoffEnd
  /-- `SET_PORT_POWER` (R132). SetPortFeature(PORT_POWER) sets PWR_EN, or is ignored while the skein is held. -/
  | setPortPower (hubPort : Nat)
  /-- `CLEAR_PORT_POWER` (R133). ClearPortFeature(PORT_POWER) clears PWR_EN and records HOST_PWR_OFF. -/
  | clearPortPower (hubPort : Nat)
  /-- `SET_PORT_RESET` (R132). The hub drives a port reset of 10 ms to 20 ms. -/
  | setPortReset (hubPort : Nat)
  /-- `PORT_RESET_END` (R132). The hub port reset ends and the port is enabled at the detected speed. -/
  | portResetEnd (hubPort : Nat) (speed : Nat)
  /-- `CLEAR_PORT_ENABLE` (R132). The hub port is disabled, with power unchanged. -/
  | clearPortEnable (hubPort : Nat)
  /-- `SET_PORT_SUSPEND` (R137). The hub port is selectively suspended. -/
  | setPortSuspend (hubPort : Nat)
  /-- `CLEAR_PORT_SUSPEND` (R132). The selectively suspended hub port is resumed. -/
  | clearPortSuspend (hubPort : Nat)
  /-- `SET_PORT_TEST` (R132). A USB 2.0 test mode is entered on the hub port. -/
  | setPortTest (hubPort : Nat) (mode : Nat)
  /-- `SET_PORT_INDICATOR` (R132). SetPortFeature(PORT_INDICATOR) is answered with STALL. -/
  | setPortIndicator (hubPort : Nat)
  /-- `CLEAR_TT_BUFFER` (R136). The matching non-periodic TT buffer is cleared. -/
  | clearTtBuffer (hubPort : Nat) (dev : Nat) (ep : Nat)
  /-- `RESET_TT` (R136). The port's transaction translator buffers are cleared. -/
  | resetTt (hubPort : Nat)
  /-- `STOP_TT` (R136). The port's TT halts until the next ResetTT. -/
  | stopTt (hubPort : Nat)
  /-- `GET_TT_STATE` (R132). GetTTState is answered with STALL. -/
  | getTtState (hubPort : Nat)
  /-- `GET_PORT_STATUS` (R131). The hub returns wPortStatus derived from the port state. -/
  | getPortStatus (hubPort : Nat)
  /-- `HUB_SET_INTERFACE` (R135). A change of hub alternate setting selects single or multiple TTs and clears every TT buffer. -/
  | hubSetInterface (alt : Nat)
  /-- `UPSTREAM_RESET` (R140). An upstream reset returns the USB 2.0 hub to Default, disabling ports and clearing TTs. -/
  | upstreamReset
  /-- `HUB_GLOBAL_SUSPEND` (R137). After 3 ms of upstream idle the hub enters global suspend. -/
  | hubGlobalSuspend (idleNs : Nat)
  /-- `HOST_RESUME` (R139). The host's resume opens the resume window and the hub resumes. -/
  | hostResume (eop : Bool)
  /-- `DOWNSTREAM_REMOTE_WAKE` (R138). A remote wake or connect change on a suspended hub drives K upstream, or is absorbed. -/
  | downstreamRemoteWake (hubPort : Nat) (signal : Bool)
  /-- `PORT_RESUME_END` (R138). The 20 ms resume of a waking port ends and C_PORT_SUSPEND is set. -/
  | portResumeEnd (hubPort : Nat)
  /-- `MICROFRAME_BOUNDARY` (R147). At each 125 µs boundary each Shuttle sends SOF and serves, fetches and writes back contexts by schedule; `late` is how many of the fetches DRAM does not deliver in time. -/
  | microframeBoundary (shuttle : Nat) (late : Nat)
  /-- `DOWNSTREAM_TRANSACTION` (R167). A downstream USB transaction ends and its data and transfer state are committed before the handshake. -/
  | downstreamTransaction (ctx : Nat) (txn : Txn)
  /-- `ENUM_RESET_END` (R154). The 50 ms enumeration bus reset ends and the speed is known. -/
  | enumResetEnd (port : Nat) (route : Nat) (speed : Nat)
  /-- `ENUM_RECOVERY_END` (R154). The 10 ms reset recovery ends and the first GET_DESCRIPTOR is issued. -/
  | enumRecoveryEnd (port : Nat) (route : Nat)
  /-- `ENUM_REQUEST_COMPLETE` (R154). An enumeration request ends, and the next request follows or the attempt fails. -/
  | enumRequestComplete (port : Nat) (route : Nat) (status : Nat) (data : List Nat)
  /-- `ENUM_REQUEST_TIMEOUT` (R154). An enumeration request is not complete in 500 ms, so the attempt fails. -/
  | enumRequestTimeout (port : Nat) (route : Nat)
  /-- `SET_ADDRESS_TIMEOUT` (R154). SET_ADDRESS is not complete in 50 ms, so the attempt fails. -/
  | setAddressTimeout (port : Nat) (route : Nat)
  /-- `ENUM_ATTEMPT_TIMEOUT` (R154). An attempt is not at step 7 within 2 s, so it fails. -/
  | enumAttemptTimeout (port : Nat) (route : Nat)
  /-- `ENUM_RETRY_WAIT_END` (R154). The 100 ms wait after a failed attempt ends and the next attempt starts. -/
  | enumRetryWaitEnd (port : Nat) (route : Nat)
  /-- `ENUMERATION_COMPLETE` (R156). Step 7 allocates contexts and caches descriptors, and the device is presented or the port waits for contexts. -/
  | enumerationComplete (port : Nat) (route : Nat)
  /-- `CONTEXT_RELEASE` (R161). A context returns to the pool once none of its IN records remains unacknowledged. -/
  | contextRelease (ctx : Nat)
  /-- `SPARE_LOADED` (R168). SH12 has loaded the moved group's committed state. -/
  | spareLoaded (shuttle : Nat)
  /-- `TAKEOVER_CONFIRM` (R168). Firmware confirms a Shuttle move, and the TAKEN_OVER and SERVING_SPARE events are raised. -/
  | takeoverConfirm (shuttle : Nat)
  /-- `TREE_IDLE_TIMEOUT` (R171). The idle timeout of a port tree expires, and the tree is suspended unless it cannot be. -/
  | treeIdleTimeout (port : Nat)
  /-- `DEVICE_RESUME_SIGNAL` (R172). A device drives resume on a suspended tree. -/
  | deviceResumeSignal (port : Nat)
  /-- `TREE_RESUME_END` (R172). The 20 ms tree resume ends and SOF restarts. -/
  | treeResumeEnd (port : Nat)
  /-- `TREE_RECOVERY_END` (R172). The 10 ms recovery ends and TREE_RESUMED is raised. -/
  | treeRecoveryEnd (port : Nat)
  /-- `DEVICE_RESET_COMPLETE` (R174). A downstream device reset ends, its state is restored, and its descriptors are compared. -/
  | deviceResetComplete (port : Nat) (route : Nat) (descs : DevDescs)
  /-- `MIRROR_REBUILD_COMPLETE` (R347). The DRAM mirror copy completes and MIRROR_DEGRADED clears. -/
  | mirrorRebuildComplete
  /-- `LANE_OUT_TRANSFER` (R182). A lane OUT transfer ends and its buffer passes to the DMA, with framing checked. -/
  | laneOutTransfer (lane : Nat) (bytes : List Nat)
  /-- `OUT_DMA_COMPLETE` (R182). The DMA has stored the lane buffer, the buffer returns, and ERDY is sent. -/
  | outDmaComplete (lane : Nat)
  /-- `HOST_DATA_RECORD` (R193). A host DATA record is checked and stored, or refused. -/
  | hostDataRecord (lane : Nat)
  /-- `SETUP_RECORD` (R155). A SETUP record on an EP0 handle is answered from the cache or sent downstream. -/
  | setupRecord (lane : Nat) (cfg : List Nat)
  /-- `STATUS_RECORD` (R200). A host STATUS query is answered with a device STATUS record. -/
  | statusRecord (lane : Nat)
  /-- `ABORT_RECORD` (R199). An ABORT record ends the handle's transfer in progress. -/
  | abortRecord (lane : Nat)
  /-- `HOST_ACK_RECORD` (R192). A host ACK frees acknowledged IN records. -/
  | hostAckRecord (lane : Nat)
  /-- `HOST_CREDIT_RECORD` (R197). A host CREDIT sets the IN credit limit of a handle. -/
  | hostCreditRecord (lane : Nat)
  /-- `OUT_RECORD_COMPLETE` (R192). A host record completes downstream, and an ACK and CREDIT follow within 100 µs. -/
  | outRecordComplete (handle : Nat)
  /-- `LANE_IN_TRANSFER` (R202). The device packs an IN transfer on a lane in priority order. -/
  | laneInTransfer (lane : Nat)
  /-- `EP2_IN_TRANSFER` (R231). Up to 32 event records are delivered on EP2. -/
  | ep2InTransfer
  /-- `LINK_RESET` (R204). A warm or hot reset, disconnect or rate change clears the Loom buffers and keeps the records. -/
  | linkReset (lost : Bool)
  /-- `LOOM_SET_CONFIGURATION` (R205). Configuration of the Loom function, or SetConfiguration(0), re-opens or holds the lanes. -/
  | loomSetConfiguration (value : Nat)
  /-- `LOOM_SET_INTERFACE` (R204). SetInterface on the Loom function selects EP11 or clears it. -/
  | loomSetInterface (alt : Nat)
  /-- `LOOM_CLEAR_HALT` (R204). ClearFeature(ENDPOINT_HALT) on a lane clears its buffers and resyncs it. -/
  | loomClearHalt (lane : Nat)
  /-- `FUNCTION_SUSPEND` (R207). The host suspends the Loom function while the Shuttles keep serving. -/
  | functionSuspend (suspend : Bool) (u3 : Bool) (wake : Bool)
  /-- `HOST_U3_EXIT` (R209). The host's U3 exit completes, and a pending wake notification is sent or absorbed. -/
  | hostU3Exit (done : Bool)
  /-- `WAKE_NOTIFY_REPEAT` (R209). The Function Wake notification is repeated every 2.5 s until the host accesses the function. -/
  | wakeNotifyRepeat
  /-- `U1_INITIATE` (R180). After 2 µs of buffer idle, the Loom function initiates U1. -/
  | u1Initiate (idleNs : Nat)
  /-- `LINK_TRAINED` (R178). Link training reaches a SuperSpeed rate, or the function falls back to port 97. -/
  | linkTrained (rate : Nat)
  /-- `LOOM_PACKET_RECEIVED` (R214). An Ecrax packet received on a channel is checked, journaled and queued, or refused. -/
  | loomPacketReceived (chan : Chan) (origin : Nat) (bytes : List Nat)
  /-- `IN_RING` (R220). A write of IN_RING submits the inbound mailbox window as a packet. -/
  | inRing
  /-- `MAILBOX_PACKET_TAKEN` (R220). The packet is taken into the channel queue and IN_BUSY clears. -/
  | mailboxPacketTaken
  /-- `OUT_DONE` (R220). A write of OUT_DONE frees the outbound window for the next reply or event block. -/
  | outDone
  /-- `FORWARD_TIMEOUT` (R219). No worker reply arrives within the class bound, so the manager answers TIMEOUT. -/
  | forwardTimeout (tag : Nat) (chan : Chan)
  /-- `DEVICE_INFO` (R241). Returns the device identity, straps and firmware versions. -/
  | deviceInfo (p : Packet)
  /-- `DEVICE_STATUS` (R241). Returns ready, safe hold, lead, lifecycle, debug and DT. -/
  | deviceStatus (p : Packet)
  /-- `CONNECT` (R123). Sets the upstream connect permission, deferred during the holdoff. -/
  | connect (p : Packet)
  /-- `DISCONNECT` (R123). Clears the permission and withdraws the upstream connection within 1 ms. -/
  | disconnect (p : Packet)
  /-- `WARM_RESTART` (R242). Commits a warm restart request with guard bytes. -/
  | warmRestart (p : Packet)
  /-- `JOURNAL_READ` (R230). Returns journal entries by channel and tag. -/
  | journalRead (p : Packet)
  /-- `CHANNEL_MASK` (R227). Withdraws opcode groups from the Loom and hierarchy channels. -/
  | channelMask (p : Packet)
  /-- `PROFILE_WRITE` (R243). Stages a profile piece, or with LAST writes and verifies it in flash. -/
  | profileWrite (p : Packet)
  /-- `PROFILE_READ` (R241). Returns bytes of a standing profile copy. -/
  | profileRead (p : Packet)
  /-- `PROFILE_ERASE` (R232). Erases both standing profile copies. -/
  | profileErase (p : Packet)
  /-- `PORT_MODE_SET` (R112). Sets a port's configured mode and PUBLIC, starting or deferring a mode change. -/
  | portModeSet (p : Packet)
  /-- `PORT_DATA_ENABLE` (R108). Sets DATA_EN on a port with a sink attached. -/
  | portDataEnable (p : Packet)
  /-- `PORT_DATA_DISABLE` (R108). Clears DATA_EN. -/
  | portDataDisable (p : Packet)
  /-- `PORT_VBUS_ON` (R91). Sets PWR_EN, or defers or refuses by port state. -/
  | portVbusOn (p : Packet)
  /-- `PORT_VBUS_OFF` (R91). Clears PWR_EN and discharges a conducting port, even while held. -/
  | portVbusOff (p : Packet)
  /-- `PORT_LATCH_CLEAR` (R91). Releases a latched port to DISCHARGE with retries reloaded. -/
  | portLatchClear (p : Packet)
  /-- `PORT_PWR_CONFIG` (R244). Applies masked PWR_CFG and PWR_LIMIT fields atomically. -/
  | portPwrConfig (p : Packet)
  /-- `PORT_STATUS` (R244). Returns a port's power, mode, detection and lifecycle registers. -/
  | portStatus (p : Packet)
  /-- `PORT_RESCAN` (R117). Restarts enumeration of an ENUM_FAILED port and re-examines refused hub ports. -/
  | portRescan (p : Packet)
  /-- `FEED_ENABLE` (R73). Enables a feed, or defers or refuses by feed state. -/
  | feedEnable (p : Packet)
  /-- `FEED_DISABLE` (R73). Disables a feed, needing FORCE for the last conducting feed. -/
  | feedDisable (p : Packet)
  /-- `FEED_CONFIG` (R246). Writes the masked FEED registers atomically after range and ladder checks. -/
  | feedConfig (p : Packet)
  /-- `SKEIN_CONFIG` (R245). Writes the SKN_CFG image of a skein. -/
  | skeinConfig (p : Packet)
  /-- `SKEIN_BUDGET` (R96). Sets a skein budget and returns the effective budget. -/
  | skeinBudget (p : Packet)
  /-- `POWER_STATUS` (R245). Returns the skein and feed status and measurements. -/
  | powerStatus (p : Packet)
  /-- `MEAS_PORTS` (R247). Returns the latest complete 1 ms port averages. -/
  | measPorts (p : Packet)
  /-- `MEAS_FEEDS` (R247). Returns the latest complete 1 ms feed averages. -/
  | measFeeds (p : Packet)
  /-- `SNAP_TRIGGER` (R395). Starts a counter snapshot capture and returns SNAP_DT once it is complete. -/
  | snapTrigger (p : Packet)
  /-- `COUNTERS_READ` (R247). Returns live or snapshot per-port counters. -/
  | countersRead (p : Packet)
  /-- `ENERGY_READ` (R247). Returns the device, skein and feed energies. -/
  | energyRead (p : Packet)
  /-- `DOMAIN_SET` (R312). Requests a domain state under the pending-slot rule. -/
  | domainSet (p : Packet)
  /-- `DOMAIN_GET` (R248). Returns the state of every domain. -/
  | domainGet (p : Packet)
  /-- `IDLE_POLICY_SET` (R313). Sets a domain's idle state and idle time. -/
  | idlePolicySet (p : Packet)
  /-- `WAKE_CONFIG` (R248). Sets the wake source enable mask. -/
  | wakeConfig (p : Packet)
  /-- `ALARM_SET` (R248). Sets or cancels a DT alarm. -/
  | alarmSet (p : Packet)
  /-- `FAULT_STATUS` (R249). Returns the gecko bits, the highest class and the reaction count. -/
  | faultStatus (p : Packet)
  /-- `FAULT_CLEAR` (R337). Clears a gecko bit under its clear condition, running any repair or training. -/
  | faultClear (p : Packet)
  /-- `FAULT_LOG_READ` (R249). Returns fault log event records. -/
  | faultLogRead (p : Packet)
  /-- `FAULT_INJECT` (R249). Drives a source's error pair as a real fault. -/
  | faultInject (p : Packet)
  /-- `HIER_ROLE_SET` (R278). Records the hierarchy role and rank in AON. -/
  | hierRoleSet (p : Packet)
  /-- `HIER_STATUS` (R250). Returns the hierarchy state, members and elections. -/
  | hierStatus (p : Packet)
  /-- `POOL_DEFINE` (R295). Defines or deletes a power pool on the manager. -/
  | poolDefine (p : Packet)
  /-- `POOL_STATUS` (R250). Returns a pool's capacity and loans. -/
  | poolStatus (p : Packet)
  /-- `TIME_GET` (R250). Returns DT and the synchronisation state. -/
  | timeGet (p : Packet)
  /-- `TIME_SET` (R302). Steps the manager's DT forward. -/
  | timeSet (p : Packet)
  /-- `CAN_ASSIGN` (R262). Requests a CAN controller's use. -/
  | canAssign (p : Packet)
  /-- `SHUTTLE_DEV_INFO` (R157). Returns a device's port, route, speed and handle table. -/
  | shuttleDevInfo (p : Packet)
  /-- `SHUTTLE_SHARE_SET` (R164). Sets a handle's DRAM share. -/
  | shuttleShareSet (p : Packet)
  /-- `SHUTTLE_RETURN` (R170). Returns a relieved Shuttle to service and moves its group back. -/
  | shuttleReturn (p : Packet)
  /-- `SHUTTLE_RESET_DEVICE` (R174). Starts a downstream device reset. -/
  | shuttleResetDevice (p : Packet)
  /-- `SHUTTLE_IDLE_SET` (R171). Sets a port tree's idle timeout. -/
  | shuttleIdleSet (p : Packet)
  /-- `HANDLE_MAP` (R189). Moves a handle to another lane with a LANE_MOVED event. -/
  | handleMap (p : Packet)
  /-- `SHUTTLE_STATUS` (R251). Returns the Shuttle states, the pool and the free pages. -/
  | shuttleStatus (p : Packet)
  /-- `IDENTITY_REPORT` (R358). Returns the lifecycle, key state, serial and identity public key. -/
  | identityReport (p : Packet)
  /-- `ATTEST` (R358). Returns a signed attestation over the nonce and device state. -/
  | attest (p : Packet)
  /-- `LIFECYCLE_ADVANCE` (R357). Advances the lifecycle state by authorised fuse transitions and their effects. -/
  | lifecycleAdvance (p : Packet)
  /-- `CHALLENGE` (R252). Issues a challenge for debug, lifecycle or revocation. -/
  | challenge (p : Packet)
  /-- `DEBUG_UNLOCK` (R363). Starts an authorised debug session at the granted level. -/
  | debugUnlock (p : Packet)
  /-- `DEBUG_END` (R363). Ends the debug session. -/
  | debugEnd (p : Packet)
  /-- `KEY_REVOKE` (R356). Blows an owner slot's revocation fuse. -/
  | keyRevoke (p : Packet)
  /-- `FW_WRITE` (R253). Writes image bytes to the inactive flash slot. -/
  | fwWrite (p : Packet)
  /-- `FW_VERIFY` (R360). Verifies the inactive slot's image. -/
  | fwVerify (p : Packet)
  /-- `FW_ACTIVATE` (R345). Starts a hitless activation, or marks the slot for the next PORST_N. -/
  | fwActivate (p : Packet)
  /-- `FW_COMMIT` (R253). Raises the anti-rollback counter to the active image's security version. -/
  | fwCommit (p : Packet)
  /-- `FW_STATUS` (R253). Returns the firmware versions, slots and activation phase. -/
  | fwStatus (p : Packet)
  /-- `FW_BROADCAST` (R303). Starts sending the inactive image to workers over CAN. -/
  | fwBroadcast (p : Packet)
  /-- `REG_READ` (R254). Reads words by direct or indirect address. -/
  | regRead (p : Packet)
  /-- `REG_WRITE` (R254). Writes, sets, clears or toggles words, stopping at the first failure. -/
  | regWrite (p : Packet)
  /-- `STANDBY_UPDATED` (R345). The standby has booted the new image and is hot again. -/
  | standbyUpdated (verified : Bool) (booted : Bool)
  /-- `HANDOVER` (R345). The lead reaches a commit point, writes its final heartbeat, and the token moves. -/
  | handover
  /-- `NEW_LEAD_RUNNING` (R345). The new lead runs the new image and device event 4 is raised. -/
  | newLeadRunning
  /-- `FORMER_LEAD_UPDATED` (R345). The former lead becomes hot standby on the new image, and FW_DONE reports OK. -/
  | formerLeadUpdated
  /-- `ACTIVATION_TIMEOUT` (R345). Step 2 is not complete in 1 s, so the standby reboots the running image and FW_DONE reports failure. -/
  | activationTimeout
  /-- `CAN_MODE_WRITE` (R261). A write of CAN_CTL.MODE requests a controller mode. -/
  | canModeWrite (can : Nat) (mode : Nat)
  /-- `CAN_MODE_CHANGE` (R261). The controller enters the requested mode at the end of the frame or at idle. -/
  | canModeChange (can : Nat)
  /-- `CAN_SYNCED` (R261). After 11 recessive bits the controller is synchronised to the bus. -/
  | canSynced (can : Nat) (recessiveBits : Nat)
  /-- `CAN_TIMING_WRITE` (R259). A write to CAN_NBT, CAN_DBT or CAN_TDC is accepted only in INIT and within range. -/
  | canTimingWrite (can : Nat) (off : Nat) (data : Nat)
  /-- `TX_REQUEST` (R264). A REQ bit makes a transmit buffer PENDING, or is refused. -/
  | txRequest (can : Nat) (mask : Nat)
  /-- `TX_ABORT` (R267). An ABORT bit aborts a pending, LONE_WAIT or active buffer. -/
  | txAbort (can : Nat) (mask : Nat) (req : Nat)
  /-- `TXB_WRITE` (R264). A write to a transmit buffer's frame fields is refused while the buffer is busy. -/
  | txbWrite (can : Nat) (buf : Nat) (off : Nat) (data : Nat)
  /-- `TX_CHOICE` (R265). At intermission end, or on a request at idle, the next buffer is chosen. -/
  | txChoice (can : Nat)
  /-- `CAN_TX_ATTEMPT_END` (R266). A transmission attempt ends as DONE, PENDING, FAILED or LONE_WAIT. -/
  | canTxAttemptEnd (can : Nat) (stamp : Nat) (loopDelay : Nat) (fin : TxEnd)
  /-- `LONE_SLOT` (R272). A LONE slot window allows one attempt at the first idle. -/
  | loneSlot (can : Nat)
  /-- `CAN_FRAME_RECEIVED` (R269). A valid frame is filtered, stamped and stored in the FIFO or discarded. -/
  | canFrameReceived (can : Nat) (frame : CanFrame) (stamp : Nat)
  /-- `FIFO_POP` (R270). A write of POP advances the receive FIFO head. -/
  | fifoPop (can : Nat)
  /-- `BUSOFF_RECOVERY` (R271). After 128 occurrences of 11 recessive bits, bus-off recovers. -/
  | busoffRecovery (can : Nat) (occurrences : Nat)
  /-- `CAN_USE_CHANGE` (R262). After the frame in progress the controller takes its new use and empties its buffers. -/
  | canUseChange (can : Nat)
  /-- `LISTEN_WINDOW_END` (R284). The 20 ms listen window ends, and the device sends JOIN or becomes manager. -/
  | listenWindowEnd
  /-- `JOIN_TIMEOUT` (R284). No heartbeat is heard by tj + 1 s, so an election starts or the device becomes an island. -/
  | joinTimeout
  /-- `HEARTBEAT_SEND` (R285). The manager sends HEARTBEAT at each 10 ms multiple. -/
  | heartbeatSend
  /-- `HEARTBEAT` (R284). A received HEARTBEAT resets the worker's windows, names the active bus, or demotes a manager. -/
  | heartbeat (m : HMsg)
  /-- `HEARTBEAT_LOSS` (R285). The third missed heartbeat window freezes loans and starts an election. -/
  | heartbeatLoss
  /-- `ELECT` (R288). A received ELECT makes a worse candidate withdraw. -/
  | elect (m : HMsg)
  /-- `ELECTION_WINDOW_END` (R288). The remaining candidate becomes manager and sends ANNOUNCE, or the device becomes an island. -/
  | electionWindowEnd
  /-- `ELECTION_RETRY` (R284). No ANNOUNCE by tL + 30 ms starts a new election. -/
  | electionRetry
  /-- `ANNOUNCE` (R284). A received ANNOUNCE makes its sender manager and triggers WSTATUS. -/
  | announce (m : HMsg)
  /-- `JOIN` (R286). The manager accepts or refuses a joining device and sends POOL_SYNC. -/
  | join (m : HMsg)
  /-- `JOIN_ACK` (R284). An accepted JOIN_ACK makes the device a worker. -/
  | joinAck (m : HMsg)
  /-- `LEAVE` (R285). The manager marks the member absent and raises LEFT. -/
  | leave (m : HMsg)
  /-- `WSTATUS_SEND` (R285). A worker sends WSTATUS at its slot every 100 ms. -/
  | wstatusSend
  /-- `WSTATUS` (R295). The manager records a worker's budgets and wants. -/
  | wstatus (m : HMsg)
  /-- `MEMBER_ABSENT` (R285). No WSTATUS in 300 ms marks the member absent. -/
  | memberAbsent (idx : Nat)
  /-- `TSYNC_SEND` (R299). The manager sends TSYNC at each 125 ms multiple. -/
  | tsyncSend
  /-- `TSYNC` (R299). A worker stamps a received TSYNC at t2. -/
  | tsync (m : HMsg)
  /-- `TFOLLOW_SEND` (R299). The manager sends TFOLLOW carrying its SOF stamp of the TSYNC. -/
  | tfollowSend (bus : Nat)
  /-- `TFOLLOW` (R301). A worker computes its offset and slews, steps or locks its DT. -/
  | tfollow (m : HMsg)
  /-- `DREQ_SEND` (R300). A worker sends DREQ 2 ms after its TFOLLOW. -/
  | dreqSend
  /-- `DREQ` (R300). The manager stamps a DREQ, answers DRESP, and steps if the worker is ahead. -/
  | dreq (m : HMsg) (aheadNs : Nat)
  /-- `DRESP` (R300). A worker computes its path delay and offset from DRESP. -/
  | dresp (m : HMsg)
  /-- `TIME_UNLOCK_TIMEOUT` (R301). No TFOLLOW for 500 ms loses the lock. -/
  | timeUnlockTimeout
  /-- `CMD_SEGMENT` (R292). A CMD segment builds a forwarded packet into the hierarchy channel. -/
  | cmdSegment (m : HMsg) (cls : Nat)
  /-- `RPL_SEGMENT` (R291). An RPL segment builds a worker reply for return. -/
  | rplSegment (m : HMsg) (cls : Nat)
  /-- `SEGMENT_TIMEOUT` (R292). A partial packet with no segment for 5 ms is discarded. -/
  | segmentTimeout (reply : Bool) (src : Nat) (cls : Nat)
  /-- `EVENT_FRAME` (R293). The manager delivers a worker's event record unchanged. -/
  | eventFrame (m : HMsg)
  /-- `LOAN_COMPUTE` (R296). Every 100 ms the manager computes pool loans. -/
  | loanCompute
  /-- `LOAN` (R298). A worker sets SKN_LOAN, or refuses held skeins, and acknowledges. -/
  | loan (m : HMsg)
  /-- `LOAN_ACK` (R298). The manager records an applied loan generation. -/
  | loanAck (m : HMsg)
  /-- `LOAN_RESEND` (R298). An unacknowledged LOAN is sent again after 50 ms. -/
  | loanResend (idx : Nat)
  /-- `LOAN_RAISE` (R298). 100 ms after the lowerings are acknowledged, the manager sends the raises. -/
  | loanRaise
  /-- `POOL_SYNC` (R297). A member keeps the pool image with the highest generation. -/
  | poolSync (m : HMsg)
  /-- `POOL_SYNC_PERIODIC` (R297). The manager resends the pool image every 10 s. -/
  | poolSyncPeriodic
  /-- `FW_CTRL` (R304). A worker handles a firmware START, CHUNK, END or ABORT. -/
  | fwCtrl (m : HMsg)
  /-- `FW_DATA` (R304). A worker gathers a firmware data segment. -/
  | fwData (m : HMsg)
  /-- `FW_NACK` (R303). The manager gathers missing chunks or a worker's result. -/
  | fwNack (m : HMsg)
  /-- `FW_NACK_WINDOW_END` (R303). After 100 ms the manager starts the next round or finishes. -/
  | fwNackWindowEnd
  /-- `DOMAIN_STEP_READY` (R317). A bring-up step's ready signal ends the step, and the domain may reach ON. -/
  | domainStepReady (domain : Nat) (sealOk : Bool)
  /-- `DOMAIN_STEP_TIMEOUT` (R318). A step fails twice, so the domain is held OFF with STEP_TIMEOUT. -/
  | domainStepTimeout (domain : Nat)
  /-- `DOMAIN_ENTRY_COMPLETE` (R315). Quiesce, save, isolate and lower complete, and any pending request starts. -/
  | domainEntryComplete (domain : Nat)
  /-- `IDLE_TIMEOUT` (R313). A domain's idle time expires and its idle state is requested. -/
  | idleTimeout (domain : Nat)
  /-- `DOM_REQ_WRITE` (R311). A write of DOM_REQ requests a domain state without reply. -/
  | domReqWrite (domain : Nat) (value : Nat)
  /-- `AVS_ACK` (R320). An AVSBus request is acknowledged with the voltage read back. -/
  | avsAck (readMv : Nat)
  /-- `AVS_NO_ACK` (R320). An attempt is not acknowledged in 200 µs; it is retried, or fallback follows after the last attempt. -/
  | avsNoAck
  /-- `AVS_RETRY` (R320). Every 10 s in fallback the nominal request is repeated. -/
  | avsRetry
  /-- `ADDRESS_MATCH` (R322). A management-port address match wakes MIF, holding SCL or NACKing. -/
  | addressMatch (addr : Nat) (i3c : Bool)
  /-- `UPSTREAM_RESUME_DETECT` (R321). Upstream resume or LFPS requests HUB or LOOM ON. -/
  | upstreamResumeDetect (lfps : Bool)
  /-- `WAKE_IN_EDGE` (R42). A WAKE_IN rising edge wakes the hierarchy CAN controllers. -/
  | wakeInEdge (highNs : Nat)
  /-- `ALARM_FIRE` (R321). A DT alarm fires once and raises ALARM. -/
  | alarmFire (alarm : Nat)
  /-- `ALARM_ARM_WRITE` (R326). A write to the alarm high word arms the alarm. -/
  | alarmArmWrite (path : Path) (alarm : Nat) (high : Nat)
  /-- `DBG_EN_RISE` (R43). DBG_EN high lets the TAP run. -/
  | dbgEnRise
  /-- `DBG_EN_FALL` (R43). DBG_EN falling ends the debug session and resets the TAP. -/
  | dbgEnFall
  /-- `ERROR_PAIR_SET` (R335). An error pair reads 10, so the gecko bit is set, the unit fenced and the reaction window opened. -/
  | errorPairSet (src : Nat) (kind : Nat) (addr : Nat)
  /-- `CODED_MESSAGE` (R330). A coded fault message is checked and taken, and a NOTICE is counted or the class set. -/
  | codedMessage (word : Nat)
  /-- `CODED_MESSAGE_REPEAT` (R330). An unacknowledged coded message is resent after 10 µs, up to 8 sends. -/
  | codedMessageRepeat (word : Nat)
  /-- `LINK_MESSAGE_TIMEOUT` (R331). No valid message within 10 µs of a skein pair error is taken as LINK. -/
  | linkMessageTimeout (skein : Nat)
  /-- `PAIR_BROKEN` (R329). A pair at 00 or 11 for 3 clocks is a TAKEOVER PAIR_BROKEN fault. -/
  | pairBroken (src : Nat) (clocks : Nat)
  /-- `PAIR_WHOLE` (R329). A pair showing 01 for 1 ms is whole again. -/
  | pairWhole (src : Nat) (forNs : Nat)
  /-- `FAULT_NOTIFICATION` (R335). The lead half is notified, the window closes, and one fault event is formed. -/
  | faultNotification
  /-- `GECKO_CLEAR_WRITE` (R337). Writing 1 to a gecko bit clears it under its clear condition. -/
  | geckoClearWrite (reg : Nat) (mask : Nat)
  /-- `FLT_HB` (R340). The lead half writes a heartbeat sequence to FLT_HB. -/
  | fltHb (half : Nat) (seq : Nat) (handover : Bool)
  /-- `LEAD_HEARTBEAT_TIMEOUT` (R340). Three missed 100 µs windows raise TIMEOUT on the lead half. -/
  | leadHeartbeatTimeout
  /-- `TOKEN_RECORD_MISMATCH` (R342). Disagreeing token copies are rewritten, or the token is granted by PREFHALF. -/
  | tokenRecordMismatch (c0 : Nat) (c1 : Nat) (c2 : Nat)
  /-- `SHARED_WRITE_REFUSED` (R343). A shared write from the non-holder is refused and that half interrupted. -/
  | sharedWriteRefused (half : Nat)
  /-- `STATE_COPY_COMPLETE` (R337). A cleared half finishes its state copy and is hot standby. -/
  | stateCopyComplete
  /-- `TAKEOVER_COMPLETE` (R344). The new lead has applied the journal or rebuilt its state and runs. -/
  | takeoverComplete
  /-- `REFERENCE_ABSENT_TIMEOUT` (R334). The reference absent for 10 µs raises UNIT on 0x0C and stops the data paths. -/
  | referenceAbsentTimeout (absentNs : Nat)
  /-- `REFERENCE_STABLE` (R334). The reference has oscillated stably for 10 ms, so its fault may clear. -/
  | referenceStable (stableNs : Nat)
  /-- `OTP_PROGRAM` (R354). SEC_OTP_CMD GO programs an owner key slot. -/
  | otpProgram (slot : Nat)
  /-- `OTP_PROGRAM_DONE` (R354). OTP programming ends with a result and OTP_DONE. -/
  | otpProgramDone (readBackOk : Bool)
  /-- `CHALLENGE_EXPIRY` (R252). A challenge stops being current 60 s after issue. -/
  | challengeExpiry
  /-- `DEBUG_ACCESS` (R367). A debugger access is served by the lifecycle and level matrix. -/
  | debugAccess (acc : DebugAccess)
  /-- `DEBUG_WAKE_REQUEST` (R364). A debug wake request is a cause-4 domain request. -/
  | debugWakeRequest (domain : Nat) (state : Nat)
  /-- `MGMT_WRITE` (R384). A management-port write sets the pointer and writes words. -/
  | mgmtWrite (i3c : Bool) (bytes : List Nat)
  /-- `MGMT_READ` (R384). A management-port read returns words from the pointer. -/
  | mgmtRead (i3c : Bool) (count : Nat)
  /-- `ENEC` (R382). The CCC ENEC enables target events. -/
  | enec (events : Nat)
  /-- `DISEC` (R382). The CCC DISEC disables target events. -/
  | disec (events : Nat)
  /-- `RSTDAA` (R382). The CCC RSTDAA resets the dynamic address. -/
  | rstdaa
  /-- `ENTDAA` (R382). The CCC ENTDAA assigns a dynamic address. -/
  | entdaa (addr : Nat)
  /-- `SETDASA` (R382). The CCC SETDASA assigns a dynamic address from the static address. -/
  | setdasa (static : Nat) (addr : Nat)
  /-- `SETNEWDA` (R382). The CCC SETNEWDA changes the dynamic address. -/
  | setnewda (addr : Nat)
  /-- `SETMWL` (R382). The CCC SETMWL sets the maximum write length. -/
  | setmwl (len : Nat)
  /-- `SETMRL` (R382). The CCC SETMRL sets the maximum read length. -/
  | setmrl (len : Nat)
  /-- `GETMWL` (R382). The CCC GETMWL returns the maximum write length. -/
  | getmwl
  /-- `GETMRL` (R382). The CCC GETMRL returns the maximum read length. -/
  | getmrl
  /-- `GETPID` (R382). The CCC GETPID returns the provisioned ID. -/
  | getpid
  /-- `GETBCR` (R382). The CCC GETBCR returns BCR 0x0E. -/
  | getbcr
  /-- `GETDCR` (R382). The CCC GETDCR returns DCR 0x00. -/
  | getdcr
  /-- `GETSTATUS` (R382). The CCC GETSTATUS returns the target status. -/
  | getstatus
  /-- `IBI_RETRY` (R397). A NACKed IBI is repeated at the next START. -/
  | ibiRetry (acked : Bool)
  /-- `IND_ADDR_WRITE` (R390). A write of IND_ADDR sets the target and fetches it when RD_AHEAD is 1. -/
  | indAddrWrite (path : Path) (value : Nat)
  /-- `IND_DATA_READ` (R390). A read of IND_DATA returns the fetched word and advances and fetches. -/
  | indDataRead (path : Path)
  /-- `IND_DATA_WRITE` (R390). A write of IND_DATA writes the target word. -/
  | indDataWrite (path : Path) (value : Nat)
  /-- `IND_SET` (R390). Sets bits in the target word. -/
  | indSet (path : Path) (value : Nat)
  /-- `IND_CLR` (R390). Clears bits in the target word. -/
  | indClr (path : Path) (value : Nat)
  /-- `IND_TGL` (R390). Toggles bits in the target word. -/
  | indTgl (path : Path) (value : Nat)
  /-- `IND_FETCH` (R390). A write of FETCH starts a fetch of the target word. -/
  | indFetch (path : Path)
  /-- `FETCH_COMPLETE` (R391). A fetch or target write completes with a RESULT and BUSY clears. -/
  | fetchComplete (path : Path)
  /-- `ALIAS_SET` (R387). A write at offset + 0x4000 sets bits atomically. -/
  | aliasSet (path : Path) (addr : Nat) (value : Nat)
  /-- `ALIAS_CLEAR` (R387). A write at offset + 0x8000 clears bits atomically. -/
  | aliasClear (path : Path) (addr : Nat) (value : Nat)
  /-- `ALIAS_TOGGLE` (R387). A write at offset + 0xC000 inverts bits atomically. -/
  | aliasToggle (path : Path) (addr : Nat) (value : Nat)
  /-- `REGISTER_WRITE` (R386). A write to a register without behaviour of its own, range-checked. -/
  | registerWrite (path : Path) (addr : Nat) (value : Nat)
  /-- `RC_READ` (R7). A read of an RC register returns and clears it. -/
  | rcRead (path : Path) (addr : Nat)
  /-- `LOW_WORD_READ` (R394). A read of a 64-bit low word latches the high word into the path's shadow. -/
  | lowWordRead (path : Path) (addr : Nat)
  /-- `SNAP_CTL_TRIGGER` (R395). A write of TRIGGER starts a capture, or sets TRIG_LOST. -/
  | snapCtlTrigger (path : Path)
  /-- `SNAP_LATCH` (R395). Every bank latches its counters at SNAP_DT. -/
  | snapLatch
  /-- `SNAP_COMPLETE` (R395). The holding registers are complete and BUSY clears. -/
  | snapComplete
  /-- `DOWNSTREAM_CONNECT_CHANGE` (R131). A device pull-up appears on, or leaves, the data lines of a TRANSPARENT hub port with its connect gate open, changing PORT_CONNECTION and setting C_PORT_CONNECTION, and a disconnect clears the port's TT buffers. -/
  | downstreamConnectChange (hubPort : Nat) (pullup : Bool)
  /-- `LINK_POWER_STATE_REQUEST` (R180). The host requests U1 or U2 entry or exit, or LPM L1 entry or exit, on the upstream link or on a hub port. -/
  | linkPowerStateRequest (pm : LinkPm)
  /-- `U2_INACTIVITY_TIMEOUT` (R180). The inactivity timeout set by the host expires, and the Loom function initiates U2 when U2_INIT is 1. -/
  | u2InactivityTimeout
  /-- `HUB_STANDARD_REQUEST` (R128). The USB 2.0 hub executes a standard device request such as SetAddress, SetConfiguration or Set/ClearFeature(DEVICE_REMOTE_WAKEUP), changing U2_STATE, U2_ADDR and RWAKE_EN. -/
  | hubStandardRequest (req : HubReq)
  /-- `ENUM_WAIT_END` (R154). The 2 ms recovery after SET_ADDRESS, or the bPwrOn2PwrGood wait after a downstream hub's ports are powered, ends, and enumeration goes on to its next request or to step 7. -/
  | enumWaitEnd (port : Nat) (route : Nat)
  /-- `EP1_REPLY_TRANSFER` (R217). The host's EP1 IN transfer takes an Ecrax reply from the Loom channel, freeing the buffer for the next reply and counting as the reply being read for WARM_RESTART. -/
  | ep1ReplyTransfer
  /-- `DOMAIN_CLOCK_STOP` (R307). An idle ON domain stops its own clock, and when no running clock still needs them, the reference, PLLs and time clock stop, DT moves to the slow clock, and the low rail is requested. -/
  | domainClockStop (domain : Nat)
  /-- `COLLECTOR_SELF_TEST` (R334). The collector's periodic comparator self-test and copy vote run, raising a CORRECTED NOTICE for an outvoted copy or SELF_CHECK GRAVE on failure. -/
  | collectorSelfTest (outcome : SelfCheck)
  /-- `XTAL32_STOP` (R334). The 32.768 kHz crystal stops after use, so the slow clock falls back to the RC oscillator, AON_CLK.XTAL_STOPPED is set, and a NOTICE is raised on source 0x0C. -/
  | xtal32Stop
  /-- `CAN_RX_ERROR` (R271). The controller detects an error in a frame it is receiving, or sees an error frame, raising REC and PROTO_ERR and possibly changing ESTATE. -/
  | canRxError (can : Nat) (lec : Nat) (dataPhase : Bool) (eights : Nat)
  /-- `WORKER_IMAGE_WRITTEN` (R303). A worker finishes writing a gathered firmware image to its inactive slot and checking it, then sends FW_NACK with its result and raises FW_RECEIVED or FW_FAILED. -/
  | workerImageWritten
  deriving DecidableEq, Repr

end Sys2Proof
end

