-- ==== Sys2Proof/Decode.lean ====
section
/-! DEFINITION. The words of the table's rows. spec/opcode_table.json gives no row any bits: a command reaches the block
as an event, a register access or a packet, never as a word, so no word spells a command. -/

namespace Sys2Proof

/-- The command that a word of `nbits` bits spells by the table's bits: none, for the table gives none. -/
def decodeTableWord (_nbits _w : Nat) : Option Instr := none

end Sys2Proof
end

