-- ==== Sys2Proof/Machine/Bits.lean ====
section
/-! DEFINITION. Bit fields, byte order, saturating counters and the two checksums of the spec. -/

namespace Sys2Proof.Machine

/-- Replace bits `lo` to `lo + w - 1` of `v` by the low `w` bits of `x`. -/
def putBits (v lo w x : Nat) : Nat :=
  v - bits v lo w * 2 ^ lo + low w x * 2 ^ lo

/-- Bitwise OR, AND-NOT and XOR of two naturals. -/
def bitOr (a b : Nat) : Nat := a ||| b

/-- The bits of `a` that are not in `b`. -/
def bitClear (a b : Nat) : Nat := a - (a &&& b)

/-- `a + n` held at `m` (a counter that saturates). -/
def satAdd (a n m : Nat) : Nat := min (a + n) m

/-- The `n` bytes of `v`, least significant first (00_scope.md R4). -/
def toLE : Nat → Nat → List Nat
  | 0, _ => []
  | n + 1, v => v % 256 :: toLE n (v / 256)

/-- The number a byte string spells, least significant byte first (00_scope.md R4). -/
def ofLE : List Nat → Nat
  | [] => 0
  | b :: r => b + 256 * ofLE r

/-- `n` bytes of a byte string from offset `i`, as a number; bytes past the end read 0. -/
def leAt (bs : List Nat) (i n : Nat) : Nat := ofLE ((bs.drop i).take n)

/-- A signed value in two's complement of `w` bits. -/
def ofInt (w : Nat) (x : Int) : Nat := (x % (2 ^ w : Nat)).toNat

/-- The signed reading of `w` bits. -/
def toInt (w v : Nat) : Int := if v < 2 ^ (w - 1) then v else (v : Int) - (2 ^ w : Nat)

/-- One bit of the reflected CRC-32 of 09_ecrax_protocol.md R212. -/
def crc32Bit (c : Nat) : Nat := if c % 2 = 1 then Nat.xor (c / 2) 0xEDB88320 else c / 2

/-- One byte of the reflected CRC-32. -/
def crc32Byte (c b : Nat) : Nat :=
  let c := Nat.xor c (b % 256)
  crc32Bit (crc32Bit (crc32Bit (crc32Bit (crc32Bit (crc32Bit (crc32Bit (crc32Bit c)))))))

/-- CRC-32, polynomial 0x04C1_1DB7 reflected, initial and final 0xFFFF_FFFF (09_ecrax_protocol.md R212). -/
def crc32 (bs : List Nat) : Nat := Nat.xor (bs.foldl crc32Byte 0xFFFFFFFF) 0xFFFFFFFF

/-- One bit of the CRC-8 of 14_faults_and_takeover.md R330, most significant bit first. -/
def crc8Bit (c : Nat) : Nat := if 128 ≤ c then Nat.xor (c * 2 % 256) 0x07 else c * 2 % 256

/-- CRC-8, polynomial 0x07, initial 0, no reflection (14_faults_and_takeover.md R330). -/
def crc8 (bs : List Nat) : Nat :=
  bs.foldl (fun c b =>
    crc8Bit (crc8Bit (crc8Bit (crc8Bit (crc8Bit (crc8Bit (crc8Bit (crc8Bit (Nat.xor c (b % 256)))))))))) 0

/-- Insert into a list sorted by a comparison, after the entries that are not greater. -/
def insertBy {α : Type} (lt : α → α → Bool) (x : α) : List α → List α
  | [] => [x]
  | y :: r => if lt x y then x :: y :: r else y :: insertBy lt x r

/-- Sort a list by a comparison; entries that compare equal keep their order. -/
def sortBy {α : Type} (lt : α → α → Bool) (l : List α) : List α := l.foldl (fun a x => insertBy lt x a) []

end Sys2Proof.Machine
end

