-- ==== Sys2Proof/Machine/Fields.lean ====
section
/-! DEFINITION. The register fields of the LN9664: one constructor per field of the spec's field maps
(02 to 17, collected by the register index, 17_registers.md R398), with its place, width, access type (R7),
retention class (R8), reset value and stated range. A 64-bit register is one field of 64 bits (R394); a register
whose bits are numbered copies of one thing (gecko bits, alarm slots, transmit buffers) is one field with `cnt`
elements `step` bits apart. A reset value that differs by unit is given by `Fld.reset`. -/

namespace Sys2Proof.Machine

/-- The blocks and indirect spaces of 17_registers.md R385 and R389 that hold register fields. -/
inductive Space where
  | SYS | AON | PWRD | FLT | TIME | IND | SNAP | CAN | HUBS | LOOMS | SEC | INTC | MBOX
  | PORT | SKEIN | FEED | SHUTTLE | SHF | DOMAIN
  deriving DecidableEq, Repr

/-- Access types (00_scope.md R7). -/
inductive Acc where
  | RW | RO | WO | W1C | RC
  deriving DecidableEq, Repr

/-- Retention classes (00_scope.md R8). -/
inductive Kept where
  | KEPT | LOST | AON
  deriving DecidableEq, Repr

/-- One constructor per register field, named as the spec names the register and the field. -/
inductive Fld where
  /-- 17_registers.md R398, SYS 0x0 bit 0, 16 bits. -/
  | SYS_ID_PART
  /-- 17_registers.md R398, SYS 0x0 bit 16, 8 bits. -/
  | SYS_ID_REV
  /-- 17_registers.md R398, SYS 0x4 bit 0, 6 bits. -/
  | SYS_STRAP_IDX
  /-- 17_registers.md R398, SYS 0x4 bit 6, 2 bits. -/
  | SYS_STRAP_MGMT_ADDR
  /-- 17_registers.md R398, SYS 0x4 bit 8, 2 bits. -/
  | SYS_STRAP_BOOT
  /-- 17_registers.md R398, SYS 0x4 bit 10, 1 bits. -/
  | SYS_STRAP_PREFHALF
  /-- 17_registers.md R398, SYS 0x4 bit 11, 1 bits. -/
  | SYS_STRAP_MGR_ELIG
  /-- 17_registers.md R398, SYS 0x8 bit 0, 1 bits. -/
  | SYS_STAT_READY
  /-- 17_registers.md R398, SYS 0x8 bit 1, 1 bits. -/
  | SYS_STAT_SAFE_HOLD
  /-- 17_registers.md R398, SYS 0x8 bit 2, 1 bits. -/
  | SYS_STAT_LEAD
  /-- 17_registers.md R398, SYS 0x8 bit 3, 1 bits. -/
  | SYS_STAT_STANDBY_HOT
  /-- 17_registers.md R398, SYS 0x8 bit 4, 1 bits. -/
  | SYS_STAT_UP_CONN
  /-- 17_registers.md R398, SYS 0x8 bit 5, 1 bits. -/
  | SYS_STAT_CONN_PERMIT
  /-- 17_registers.md R398, SYS 0xc bit 0, 3 bits. -/
  | SYS_START_CAUSE
  /-- 17_registers.md R398, SYS 0xc bit 8, 8 bits. -/
  | SYS_START_WARM_CNT
  /-- 17_registers.md R398, SYS 0x10 bit 0, 1 bits. -/
  | SYS_ERR_ALIGN
  /-- 17_registers.md R398, SYS 0x10 bit 1, 1 bits. -/
  | SYS_ERR_PARTIAL
  /-- 17_registers.md R398, SYS 0x10 bit 2, 1 bits. -/
  | SYS_ERR_RESERVED
  /-- 17_registers.md R398, SYS 0x10 bit 3, 1 bits. -/
  | SYS_ERR_ASLEEP
  /-- 17_registers.md R398, SYS 0x10 bit 4, 1 bits. -/
  | SYS_ERR_FENCED
  /-- 17_registers.md R398, SYS 0x10 bit 5, 1 bits. -/
  | SYS_ERR_RANGE
  /-- 17_registers.md R398, SYS 0x10 bit 6, 1 bits. -/
  | SYS_ERR_OVERRUN
  /-- 17_registers.md R398, SYS 0x10 bit 16, 16 bits. -/
  | SYS_ERR_ERR_CNT
  /-- 17_registers.md R398, SYS 0x14 bit 0, 24 bits. -/
  | SYS_ERR_ADDR_ADDR
  /-- 17_registers.md R398, SYS 0x18 bit 0, 64 bits. -/
  | SYS_E
  /-- 17_registers.md R398, AON 0x0 bit 0, 1 bits. -/
  | AON_CLK_SLOW_SRC
  /-- 17_registers.md R398, AON 0x0 bit 1, 1 bits. -/
  | AON_CLK_XTAL_ABANDONED
  /-- 17_registers.md R398, AON 0x0 bit 2, 1 bits. -/
  | AON_CLK_XTAL_STOPPED
  /-- 17_registers.md R398, AON 0x4 bit 0, 1 bits. -/
  | AON_CONN_PERMIT
  /-- 17_registers.md R398, AON 0x4 bit 1, 1 bits. -/
  | AON_CONN_AUTO
  /-- 17_registers.md R398, AON 0x4 bit 2, 1 bits. -/
  | AON_CONN_VBUS_OK
  /-- 17_registers.md R398, AON 0x4 bit 3, 1 bits. -/
  | AON_CONN_HOLDOFF
  /-- 17_registers.md R398, AON 0x8 bit 0, 1 bits. -/
  | AON_HIER_ROLE
  /-- 17_registers.md R398, AON 0x8 bit 1, 6 bits. -/
  | AON_HIER_RANK
  /-- 17_registers.md R398, AON 0x8 bit 16, 16 bits. -/
  | AON_HIER_CHMASK
  /-- 17_registers.md R398, AON 0xc bit 0, 5 bits. -/
  | AON_JHEAD_NEWEST
  /-- 17_registers.md R398, AON 0xc bit 5, 6 bits. -/
  | AON_JHEAD_COUNT
  /-- 17_registers.md R398, AON 0x20 bit 0, 32 bits. -/
  | AON_SCRATCH
  /-- 13_power_domains.md R326, PWRD 0x0 bit 0, 2 bits. -/
  | PWRD_STATE
  /-- 13_power_domains.md R326, PWRD 0xc bit 0, 1 bits. -/
  | PWRD_FENCED
  /-- 13_power_domains.md R326, PWRD 0x14 bit 0, 1 bits. -/
  | PWRD_WAKE_EN_ADDR_MATCH
  /-- 13_power_domains.md R326, PWRD 0x14 bit 1, 5 bits. -/
  | PWRD_WAKE_EN_SRC_EN
  /-- 13_power_domains.md R326, PWRD 0x14 bit 8, 1 bits. -/
  | PWRD_WAKE_EN_I2C_WAKE_NACK
  /-- 13_power_domains.md R326, PWRD 0x18 bit 0, 6 bits. -/
  | PWRD_WAKE_LAST_SRC
  /-- 13_power_domains.md R326, PWRD 0x18 bit 16, 16 bits. -/
  | PWRD_WAKE_LAST_WAKE_CNT
  /-- 13_power_domains.md R326, PWRD 0x1c bit 0, 7 bits. -/
  | PWRD_EVT
  /-- 13_power_domains.md R326, PWRD 0x20 bit 0, 10 bits. -/
  | PWRD_AVS_TARGET_MV
  /-- 13_power_domains.md R326, PWRD 0x20 bit 10, 10 bits. -/
  | PWRD_AVS_LAST_ACK_MV
  /-- 13_power_domains.md R326, PWRD 0x20 bit 20, 1 bits. -/
  | PWRD_AVS_LOW_RAIL
  /-- 13_power_domains.md R326, PWRD 0x20 bit 21, 1 bits. -/
  | PWRD_AVS_FALLBACK
  /-- 13_power_domains.md R326, PWRD 0x20 bit 24, 8 bits. -/
  | PWRD_AVS_RETRY_CNT
  /-- 13_power_domains.md R326, PWRD 0x24 bit 0, 5 bits. -/
  | PWRD_AVS_CFG_TRIM
  /-- 13_power_domains.md R326, PWRD 0x24 bit 5, 1 bits. -/
  | PWRD_AVS_CFG_LOW_RAIL_EN
  /-- 13_power_domains.md R326, PWRD 0x28 bit 0, 1 bits. -/
  | PWRD_CLK_REF_RUN
  /-- 13_power_domains.md R326, PWRD 0x28 bit 1, 1 bits. -/
  | PWRD_CLK_TCLK_RUN
  /-- 13_power_domains.md R326, PWRD 0x28 bit 2, 1 bits. -/
  | PWRD_CLK_REF_KEEP
  /-- 13_power_domains.md R326, PWRD 0x30 bit 0, 64 bits. -/
  | PWRD_ALARM
  /-- 13_power_domains.md R326, PWRD 0x50 bit 0, 16 bits. -/
  | PWRD_RETMEM_LIST_BYTES
  /-- 13_power_domains.md R326, PWRD 0x50 bit 16, 1 bits. -/
  | PWRD_RETMEM_SECRET_OK
  /-- 13_power_domains.md R326, PWRD 0x50 bit 24, 8 bits. -/
  | PWRD_RETMEM_SEAL_FAIL_CNT
  /-- 14_faults_and_takeover.md R351, FLT 0x0 bit 0, 1 bits. -/
  | FLT_GECKO
  /-- 14_faults_and_takeover.md R351, FLT 0xc bit 0, 1 bits. -/
  | FLT_PAIR
  /-- 14_faults_and_takeover.md R351, FLT 0x18 bit 0, 3 bits. -/
  | FLT_STAT_CLASS_MAX
  /-- 14_faults_and_takeover.md R351, FLT 0x18 bit 3, 1 bits. -/
  | FLT_STAT_REACTING
  /-- 14_faults_and_takeover.md R351, FLT 0x18 bit 4, 1 bits. -/
  | FLT_STAT_SAFE_HOLD
  /-- 14_faults_and_takeover.md R351, FLT 0x18 bit 5, 1 bits. -/
  | FLT_STAT_HOLD_PORST
  /-- 14_faults_and_takeover.md R351, FLT 0x18 bit 6, 1 bits. -/
  | FLT_STAT_MIRROR_DEGRADED
  /-- 14_faults_and_takeover.md R351, FLT 0x18 bit 7, 1 bits. -/
  | FLT_STAT_REBUILDING
  /-- 14_faults_and_takeover.md R351, FLT 0x18 bit 16, 16 bits. -/
  | FLT_STAT_REACT_CNT
  /-- 14_faults_and_takeover.md R351, FLT 0x1c bit 0, 1 bits. -/
  | FLT_TOKEN_HOLDER
  /-- 14_faults_and_takeover.md R351, FLT 0x1c bit 1, 1 bits. -/
  | FLT_TOKEN_VALID
  /-- 14_faults_and_takeover.md R351, FLT 0x1c bit 2, 1 bits. -/
  | FLT_TOKEN_STANDBY_HOT
  /-- 14_faults_and_takeover.md R351, FLT 0x1c bit 3, 1 bits. -/
  | FLT_TOKEN_PREF_USED
  /-- 14_faults_and_takeover.md R351, FLT 0x1c bit 8, 8 bits. -/
  | FLT_TOKEN_REFUSED_CNT
  /-- 14_faults_and_takeover.md R351, FLT 0x1c bit 24, 8 bits. -/
  | FLT_TOKEN_TKO_CNT
  /-- 14_faults_and_takeover.md R351, FLT 0x20 bit 0, 16 bits. -/
  | FLT_HB_SEQ
  /-- 14_faults_and_takeover.md R351, FLT 0x20 bit 16, 1 bits. -/
  | FLT_HB_HANDOVER
  /-- 14_faults_and_takeover.md R351, FLT 0x20 bit 24, 8 bits. -/
  | FLT_HB_MISSED_CNT
  /-- 14_faults_and_takeover.md R351, FLT 0x24 bit 0, 16 bits. -/
  | FLT_CNT_MERGED_CNT
  /-- 14_faults_and_takeover.md R351, FLT 0x24 bit 16, 16 bits. -/
  | FLT_CNT_CODED_BAD_CNT
  /-- 14_faults_and_takeover.md R351, FLT 0x40 bit 0, 8 bits. -/
  | FLT_NCNT
  /-- 17_registers.md R398, TIME 0x0 bit 0, 64 bits. -/
  | TIME_DT
  /-- 17_registers.md R398, TIME 0x8 bit 0, 1 bits. -/
  | TIME_STAT_SYNC
  /-- 17_registers.md R398, TIME 0x8 bit 1, 1 bits. -/
  | TIME_STAT_SLOW_ONLY
  /-- 17_registers.md R398, TIME 0x8 bit 2, 1 bits. -/
  | TIME_STAT_XTAL32
  /-- 17_registers.md R398, TIME 0x8 bit 3, 1 bits. -/
  | TIME_STAT_LOCKED
  /-- 17_registers.md R398, TIME 0x8 bit 8, 8 bits. -/
  | TIME_STAT_STEP_CNT
  /-- 17_registers.md R398, TIME 0xc bit 0, 32 bits. -/
  | TIME_CORR_CORR_NS
  /-- 17_registers.md R398, IND 0x0 bit 0, 20 bits. -/
  | IND_ADDR_OFFSET
  /-- 17_registers.md R398, IND 0x0 bit 20, 8 bits. -/
  | IND_ADDR_UNIT
  /-- 17_registers.md R398, IND 0x0 bit 28, 4 bits. -/
  | IND_ADDR_SPACE
  /-- 17_registers.md R398, IND 0x4 bit 0, 32 bits. -/
  | IND_DATA
  /-- 17_registers.md R398, IND 0x8 bit 0, 32 bits. -/
  | IND_SET
  /-- 17_registers.md R398, IND 0xc bit 0, 32 bits. -/
  | IND_CLR
  /-- 17_registers.md R398, IND 0x10 bit 0, 32 bits. -/
  | IND_TGL
  /-- 17_registers.md R398, IND 0x14 bit 0, 1 bits. -/
  | IND_CTL_AUTOINC
  /-- 17_registers.md R398, IND 0x14 bit 1, 1 bits. -/
  | IND_CTL_RD_AHEAD
  /-- 17_registers.md R398, IND 0x14 bit 2, 1 bits. -/
  | IND_CTL_FETCH
  /-- 17_registers.md R398, IND 0x18 bit 0, 1 bits. -/
  | IND_STAT_BUSY
  /-- 17_registers.md R398, IND 0x18 bit 1, 1 bits. -/
  | IND_STAT_WRAP
  /-- 17_registers.md R398, IND 0x18 bit 2, 4 bits. -/
  | IND_STAT_RESULT
  /-- 17_registers.md R398, IND 0x18 bit 16, 16 bits. -/
  | IND_STAT_ERR_CNT
  /-- 17_registers.md R398, SNAP 0x0 bit 0, 1 bits. -/
  | SNAP_CTL_TRIGGER
  /-- 17_registers.md R398, SNAP 0x4 bit 0, 1 bits. -/
  | SNAP_STAT_BUSY
  /-- 17_registers.md R398, SNAP 0x4 bit 1, 1 bits. -/
  | SNAP_STAT_VALID
  /-- 17_registers.md R398, SNAP 0x4 bit 2, 1 bits. -/
  | SNAP_STAT_TRIG_LOST
  /-- 17_registers.md R398, SNAP 0x4 bit 8, 8 bits. -/
  | SNAP_STAT_SKIP
  /-- 17_registers.md R398, SNAP 0x4 bit 16, 16 bits. -/
  | SNAP_STAT_SNAP_CNT
  /-- 17_registers.md R398, SNAP 0x8 bit 0, 64 bits. -/
  | SNAP_DT
  /-- 11_can_controllers.md R276, CAN 0x0 bit 0, 2 bits. -/
  | CAN_CTL_MODE
  /-- 11_can_controllers.md R276, CAN 0x0 bit 2, 1 bits. -/
  | CAN_CTL_TXORDER
  /-- 11_can_controllers.md R276, CAN 0x0 bit 3, 1 bits. -/
  | CAN_CTL_AUTO_RECOVER
  /-- 11_can_controllers.md R276, CAN 0x0 bit 4, 1 bits. -/
  | CAN_CTL_FD_EN
  /-- 11_can_controllers.md R276, CAN 0x0 bit 5, 1 bits. -/
  | CAN_CTL_DEFAULT_ACCEPT
  /-- 11_can_controllers.md R276, CAN 0x0 bit 6, 1 bits. -/
  | CAN_CTL_TDC_EN
  /-- 11_can_controllers.md R276, CAN 0x0 bit 8, 2 bits. -/
  | CAN_CTL_USE
  /-- 11_can_controllers.md R276, CAN 0x4 bit 0, 2 bits. -/
  | CAN_STAT_MODE_NOW
  /-- 11_can_controllers.md R276, CAN 0x4 bit 2, 1 bits. -/
  | CAN_STAT_BUS_IDLE
  /-- 11_can_controllers.md R276, CAN 0x4 bit 3, 1 bits. -/
  | CAN_STAT_TX_ACTIVE
  /-- 11_can_controllers.md R276, CAN 0x4 bit 4, 1 bits. -/
  | CAN_STAT_RX_ACTIVE
  /-- 11_can_controllers.md R276, CAN 0x4 bit 5, 2 bits. -/
  | CAN_STAT_ESTATE
  /-- 11_can_controllers.md R276, CAN 0x4 bit 7, 1 bits. -/
  | CAN_STAT_LONE
  /-- 11_can_controllers.md R276, CAN 0x4 bit 8, 1 bits. -/
  | CAN_STAT_SYNCED
  /-- 11_can_controllers.md R276, CAN 0x4 bit 9, 1 bits. -/
  | CAN_STAT_HOST_LOCK
  /-- 11_can_controllers.md R276, CAN 0x8 bit 0, 8 bits. -/
  | CAN_NBT_NTSEG1
  /-- 11_can_controllers.md R276, CAN 0x8 bit 8, 7 bits. -/
  | CAN_NBT_NTSEG2
  /-- 11_can_controllers.md R276, CAN 0x8 bit 16, 7 bits. -/
  | CAN_NBT_NSJW
  /-- 11_can_controllers.md R276, CAN 0x8 bit 24, 5 bits. -/
  | CAN_NBT_NBRP
  /-- 11_can_controllers.md R276, CAN 0xc bit 0, 5 bits. -/
  | CAN_DBT_DTSEG1
  /-- 11_can_controllers.md R276, CAN 0xc bit 8, 4 bits. -/
  | CAN_DBT_DTSEG2
  /-- 11_can_controllers.md R276, CAN 0xc bit 16, 4 bits. -/
  | CAN_DBT_DSJW
  /-- 11_can_controllers.md R276, CAN 0xc bit 24, 5 bits. -/
  | CAN_DBT_DBRP
  /-- 11_can_controllers.md R276, CAN 0x10 bit 0, 7 bits. -/
  | CAN_TDC_TDCO
  /-- 11_can_controllers.md R276, CAN 0x10 bit 8, 7 bits. -/
  | CAN_TDC_TDCV
  /-- 11_can_controllers.md R276, CAN 0x14 bit 0, 8 bits. -/
  | CAN_ERR_TEC
  /-- 11_can_controllers.md R276, CAN 0x14 bit 8, 8 bits. -/
  | CAN_ERR_REC
  /-- 11_can_controllers.md R276, CAN 0x14 bit 16, 3 bits. -/
  | CAN_ERR_LEC
  /-- 11_can_controllers.md R276, CAN 0x14 bit 19, 1 bits. -/
  | CAN_ERR_LEC_DATA
  /-- 11_can_controllers.md R276, CAN 0x14 bit 24, 8 bits. -/
  | CAN_ERR_ACKFAIL_RUN
  /-- 11_can_controllers.md R276, CAN 0x18 bit 0, 13 bits. -/
  | CAN_INT
  /-- 11_can_controllers.md R276, CAN 0x1c bit 0, 13 bits. -/
  | CAN_INTEN
  /-- 11_can_controllers.md R276, CAN 0x20 bit 0, 3 bits. -/
  | CAN_TXCMD_REQ
  /-- 11_can_controllers.md R276, CAN 0x20 bit 4, 3 bits. -/
  | CAN_TXCMD_ABORT
  /-- 11_can_controllers.md R276, CAN 0x28 bit 0, 64 bits. -/
  | CAN_FCNT
  /-- 11_can_controllers.md R276, CAN 0x30 bit 0, 6 bits. -/
  | CAN_RXF_STAT_COUNT
  /-- 11_can_controllers.md R276, CAN 0x30 bit 8, 6 bits. -/
  | CAN_RXF_STAT_WM
  /-- 11_can_controllers.md R276, CAN 0x30 bit 16, 16 bits. -/
  | CAN_RXF_STAT_OVF_CNT
  /-- 11_can_controllers.md R276, CAN 0x34 bit 0, 1 bits. -/
  | CAN_RXF_POP_POP
  /-- 11_can_controllers.md R276, CAN 0x40 bit 0, 29 bits. -/
  | CAN_FLT_ID
  /-- 11_can_controllers.md R276, CAN 0x40 bit 29, 1 bits. -/
  | CAN_FLT_IDE
  /-- 11_can_controllers.md R276, CAN 0x40 bit 30, 1 bits. -/
  | CAN_FLT_EN
  /-- 11_can_controllers.md R276, CAN 0x40 bit 31, 1 bits. -/
  | CAN_FLT_ACTION
  /-- 11_can_controllers.md R276, CAN 0x44 bit 0, 29 bits. -/
  | CAN_FLT_MASK
  /-- 11_can_controllers.md R276, CAN 0x44 bit 29, 1 bits. -/
  | CAN_FLT_IDE_CMP
  /-- 11_can_controllers.md R276, CAN 0x100 bit 0, 29 bits. -/
  | TXB_ID
  /-- 11_can_controllers.md R276, CAN 0x100 bit 29, 1 bits. -/
  | TXB_IDE
  /-- 11_can_controllers.md R276, CAN 0x104 bit 0, 4 bits. -/
  | TXB_DLC
  /-- 11_can_controllers.md R276, CAN 0x104 bit 4, 1 bits. -/
  | TXB_FDF
  /-- 11_can_controllers.md R276, CAN 0x104 bit 5, 1 bits. -/
  | TXB_BRS
  /-- 11_can_controllers.md R276, CAN 0x104 bit 6, 1 bits. -/
  | TXB_RTR
  /-- 11_can_controllers.md R276, CAN 0x104 bit 7, 1 bits. -/
  | TXB_ONESHOT
  /-- 11_can_controllers.md R276, CAN 0x108 bit 0, 3 bits. -/
  | TXB_STATE
  /-- 11_can_controllers.md R276, CAN 0x108 bit 8, 8 bits. -/
  | TXB_ATTEMPTS
  /-- 11_can_controllers.md R276, CAN 0x108 bit 16, 1 bits. -/
  | TXB_TS_VALID
  /-- 11_can_controllers.md R276, CAN 0x10c bit 0, 64 bits. -/
  | TXB_TS
  /-- 11_can_controllers.md R276, CAN 0x140 bit 0, 512 bits. -/
  | TXB_DATA
  /-- 11_can_controllers.md R276, CAN 0x300 bit 0, 29 bits. -/
  | RXF_ID
  /-- 11_can_controllers.md R276, CAN 0x300 bit 29, 1 bits. -/
  | RXF_IDE
  /-- 11_can_controllers.md R276, CAN 0x304 bit 0, 4 bits. -/
  | RXF_DLC
  /-- 11_can_controllers.md R276, CAN 0x304 bit 4, 1 bits. -/
  | RXF_FDF
  /-- 11_can_controllers.md R276, CAN 0x304 bit 5, 1 bits. -/
  | RXF_BRS
  /-- 11_can_controllers.md R276, CAN 0x304 bit 6, 1 bits. -/
  | RXF_RTR
  /-- 11_can_controllers.md R276, CAN 0x304 bit 7, 1 bits. -/
  | RXF_ESI
  /-- 11_can_controllers.md R276, CAN 0x304 bit 8, 5 bits. -/
  | RXF_FILT
  /-- 11_can_controllers.md R276, CAN 0x308 bit 0, 64 bits. -/
  | RXF_TS
  /-- 11_can_controllers.md R276, CAN 0x340 bit 0, 512 bits. -/
  | RXF_DATA
  /-- 06_transparent_hub.md R142, HUBS 0x0 bit 0, 16 bits. -/
  | HUBS_ID_VID
  /-- 06_transparent_hub.md R142, HUBS 0x0 bit 16, 16 bits. -/
  | HUBS_ID_BCD_DEVICE
  /-- 06_transparent_hub.md R142, HUBS 0x4 bit 0, 3 bits. -/
  | HUBS_STAT_U2_STATE
  /-- 06_transparent_hub.md R142, HUBS 0x4 bit 3, 7 bits. -/
  | HUBS_STAT_U2_ADDR
  /-- 06_transparent_hub.md R142, HUBS 0x4 bit 10, 1 bits. -/
  | HUBS_STAT_ALT_MTT
  /-- 06_transparent_hub.md R142, HUBS 0x4 bit 11, 1 bits. -/
  | HUBS_STAT_RWAKE_EN
  /-- 06_transparent_hub.md R142, HUBS 0x4 bit 12, 3 bits. -/
  | HUBS_STAT_SS_STATE
  /-- 06_transparent_hub.md R142, HUBS 0x4 bit 15, 1 bits. -/
  | HUBS_STAT_P97_CONN
  /-- 06_transparent_hub.md R142, HUBS 0x10 bit 0, 1 bits. -/
  | HUBS_CONN
  /-- 06_transparent_hub.md R142, HUBS 0x20 bit 0, 1 bits. -/
  | HUBS_SUSP
  /-- 06_transparent_hub.md R142, HUBS 0x30 bit 0, 7 bits. -/
  | HUBS_EVT
  /-- 06_transparent_hub.md R142, HUBS 0x34 bit 0, 7 bits. -/
  | HUBS_PWRREQ_LAST_PORT
  /-- 06_transparent_hub.md R142, HUBS 0x34 bit 7, 1 bits. -/
  | HUBS_PWRREQ_LAST_ON
  /-- 06_transparent_hub.md R142, HUBS 0x34 bit 8, 16 bits. -/
  | HUBS_PWRREQ_OFF_CNT
  /-- 06_transparent_hub.md R142, HUBS 0x38 bit 0, 16 bits. -/
  | HUBS_TTCNT_DISCARD_CNT
  /-- 06_transparent_hub.md R142, HUBS 0x38 bit 16, 8 bits. -/
  | HUBS_TTCNT_CLEAR_CNT
  /-- 08_loom_function.md R210, LOOMS 0x0 bit 0, 16 bits. -/
  | LOOMS_ID_PID
  /-- 08_loom_function.md R210, LOOMS 0x0 bit 16, 8 bits. -/
  | LOOMS_ID_SUBCLASS
  /-- 08_loom_function.md R210, LOOMS 0x0 bit 24, 8 bits. -/
  | LOOMS_ID_PROTOCOL
  /-- 08_loom_function.md R210, LOOMS 0x4 bit 0, 3 bits. -/
  | LOOMS_STAT_RATE
  /-- 08_loom_function.md R210, LOOMS 0x4 bit 3, 3 bits. -/
  | LOOMS_STAT_LSTATE
  /-- 08_loom_function.md R210, LOOMS 0x4 bit 6, 1 bits. -/
  | LOOMS_STAT_CONFIGURED
  /-- 08_loom_function.md R210, LOOMS 0x4 bit 7, 1 bits. -/
  | LOOMS_STAT_ALT
  /-- 08_loom_function.md R210, LOOMS 0x4 bit 8, 1 bits. -/
  | LOOMS_STAT_FSUSP
  /-- 08_loom_function.md R210, LOOMS 0x4 bit 9, 1 bits. -/
  | LOOMS_STAT_FRWAKE_EN
  /-- 08_loom_function.md R210, LOOMS 0x4 bit 10, 1 bits. -/
  | LOOMS_STAT_WAKE_PEND
  /-- 08_loom_function.md R210, LOOMS 0x8 bit 0, 1 bits. -/
  | LOOMS_CFG_U1_INIT
  /-- 08_loom_function.md R210, LOOMS 0x8 bit 1, 1 bits. -/
  | LOOMS_CFG_U2_INIT
  /-- 08_loom_function.md R210, LOOMS 0x8 bit 8, 8 bits. -/
  | LOOMS_CFG_CREDIT_STEP
  /-- 08_loom_function.md R210, LOOMS 0xc bit 0, 11 bits. -/
  | LOOMS_EVT
  /-- 08_loom_function.md R210, LOOMS 0x10 bit 0, 14 bits. -/
  | LOOMS_LANE_HANDLES
  /-- 08_loom_function.md R210, LOOMS 0x10 bit 14, 1 bits. -/
  | LOOMS_LANE_OUT_DMA
  /-- 08_loom_function.md R210, LOOMS 0x10 bit 15, 1 bits. -/
  | LOOMS_LANE_IN_READY
  /-- 08_loom_function.md R210, LOOMS 0x10 bit 16, 16 bits. -/
  | LOOMS_LANE_NRDY_CNT
  /-- 08_loom_function.md R210, LOOMS 0x40 bit 0, 64 bits. -/
  | LOOMS_RXREC
  /-- 08_loom_function.md R210, LOOMS 0x48 bit 0, 64 bits. -/
  | LOOMS_TXREC
  /-- 08_loom_function.md R210, LOOMS 0x50 bit 0, 64 bits. -/
  | LOOMS_RXB
  /-- 08_loom_function.md R210, LOOMS 0x58 bit 0, 64 bits. -/
  | LOOMS_TXB
  /-- 08_loom_function.md R210, LOOMS 0x60 bit 0, 16 bits. -/
  | LOOMS_ERR_DUP_CNT
  /-- 08_loom_function.md R210, LOOMS 0x60 bit 16, 16 bits. -/
  | LOOMS_ERR_GAP_CNT
  /-- 15_security_and_debug.md R369, SEC 0x0 bit 0, 3 bits. -/
  | SEC_LC_STATE
  /-- 15_security_and_debug.md R369, SEC 0x0 bit 3, 1 bits. -/
  | SEC_LC_COMPLETED
  /-- 15_security_and_debug.md R369, SEC 0x0 bit 4, 4 bits. -/
  | SEC_LC_FUSES
  /-- 15_security_and_debug.md R369, SEC 0x0 bit 8, 2 bits. -/
  | SEC_LC_KEY_STATE
  /-- 15_security_and_debug.md R369, SEC 0x4 bit 0, 8 bits. -/
  | SEC_ARB_COUNT
  /-- 15_security_and_debug.md R369, SEC 0x8 bit 0, 3 bits. -/
  | SEC_KEYS_PROGRAMMED
  /-- 15_security_and_debug.md R369, SEC 0x8 bit 4, 3 bits. -/
  | SEC_KEYS_REVOKED
  /-- 15_security_and_debug.md R369, SEC 0xc bit 0, 2 bits. -/
  | SEC_DBG_LEVEL
  /-- 15_security_and_debug.md R369, SEC 0xc bit 2, 1 bits. -/
  | SEC_DBG_DBG_EN_PIN
  /-- 15_security_and_debug.md R369, SEC 0xc bit 3, 1 bits. -/
  | SEC_DBG_SESSION
  /-- 15_security_and_debug.md R369, SEC 0xc bit 4, 1 bits. -/
  | SEC_DBG_TARGET_VALID
  /-- 15_security_and_debug.md R369, SEC 0xc bit 5, 6 bits. -/
  | SEC_DBG_TARGET
  /-- 15_security_and_debug.md R369, SEC 0xc bit 11, 1 bits. -/
  | SEC_DBG_HB_MASK
  /-- 15_security_and_debug.md R369, SEC 0xc bit 12, 4 bits. -/
  | SEC_DBG_END_CAUSE
  /-- 15_security_and_debug.md R369, SEC 0xc bit 16, 8 bits. -/
  | SEC_DBG_SESSION_CNT
  /-- 15_security_and_debug.md R369, SEC 0x10 bit 0, 1 bits. -/
  | SEC_BOOT_SLOT
  /-- 15_security_and_debug.md R369, SEC 0x10 bit 1, 1 bits. -/
  | SEC_BOOT_OTHER_SLOT
  /-- 15_security_and_debug.md R369, SEC 0x10 bit 2, 1 bits. -/
  | SEC_BOOT_DFU
  /-- 15_security_and_debug.md R369, SEC 0x10 bit 8, 4 bits. -/
  | SEC_BOOT_FAIL
  /-- 15_security_and_debug.md R369, SEC 0x14 bit 0, 7 bits. -/
  | SEC_EVT
  /-- 15_security_and_debug.md R369, SEC 0x18 bit 0, 1 bits. -/
  | SEC_CHAL_CURRENT
  /-- 15_security_and_debug.md R369, SEC 0x18 bit 1, 2 bits. -/
  | SEC_CHAL_PURPOSE
  /-- 15_security_and_debug.md R369, SEC 0x18 bit 8, 8 bits. -/
  | SEC_CHAL_ARG
  /-- 15_security_and_debug.md R369, SEC 0x40 bit 0, 384 bits. -/
  | SEC_OKH
  /-- 15_security_and_debug.md R369, SEC 0xd0 bit 0, 384 bits. -/
  | SEC_VRKH
  /-- 15_security_and_debug.md R369, SEC 0x100 bit 0, 32 bits. -/
  | SEC_OTP_DATA
  /-- 15_security_and_debug.md R369, SEC 0x130 bit 0, 2 bits. -/
  | SEC_OTP_CMD_SLOT
  /-- 15_security_and_debug.md R369, SEC 0x130 bit 4, 1 bits. -/
  | SEC_OTP_CMD_GO
  /-- 15_security_and_debug.md R369, SEC 0x134 bit 0, 1 bits. -/
  | SEC_OTP_STAT_BUSY
  /-- 15_security_and_debug.md R369, SEC 0x134 bit 1, 2 bits. -/
  | SEC_OTP_STAT_RESULT
  /-- 15_security_and_debug.md R369, SEC 0x138 bit 0, 32 bits. -/
  | SEC_IDCODE
  /-- 17_registers.md R398, INTC 0x0 bit 0, 1 bits. -/
  | INTC_PEND_PORT_PWR
  /-- 17_registers.md R398, INTC 0x0 bit 1, 1 bits. -/
  | INTC_PEND_PORT_LIFE
  /-- 17_registers.md R398, INTC 0x0 bit 2, 1 bits. -/
  | INTC_PEND_FEED
  /-- 17_registers.md R398, INTC 0x0 bit 3, 1 bits. -/
  | INTC_PEND_SHUTTLE
  /-- 17_registers.md R398, INTC 0x0 bit 4, 1 bits. -/
  | INTC_PEND_HUB
  /-- 17_registers.md R398, INTC 0x0 bit 5, 1 bits. -/
  | INTC_PEND_LOOM
  /-- 17_registers.md R398, INTC 0x0 bit 6, 1 bits. -/
  | INTC_PEND_DOMAIN
  /-- 17_registers.md R398, INTC 0x0 bit 7, 1 bits. -/
  | INTC_PEND_FAULT
  /-- 17_registers.md R398, INTC 0x0 bit 8, 1 bits. -/
  | INTC_PEND_SEC
  /-- 17_registers.md R398, INTC 0x0 bit 9, 1 bits. -/
  | INTC_PEND_CANA
  /-- 17_registers.md R398, INTC 0x0 bit 10, 1 bits. -/
  | INTC_PEND_CANB
  /-- 17_registers.md R398, INTC 0x0 bit 11, 1 bits. -/
  | INTC_PEND_MB_REPLY
  /-- 17_registers.md R398, INTC 0x0 bit 12, 1 bits. -/
  | INTC_PEND_MB_EVT
  /-- 17_registers.md R398, INTC 0x4 bit 0, 13 bits. -/
  | INTC_EN
  /-- 17_registers.md R398, INTC 0x8 bit 0, 1 bits. -/
  | INTC_CTL_OUT_EN
  /-- 17_registers.md R398, INTC 0x8 bit 1, 2 bits. -/
  | INTC_CTL_ROUTE
  /-- 17_registers.md R398, INTC 0x10 bit 0, 1 bits. -/
  | INTC_PORT
  /-- 17_registers.md R398, INTC 0x1c bit 0, 16 bits. -/
  | INTC_UNIT_FEED
  /-- 17_registers.md R398, INTC 0x1c bit 16, 13 bits. -/
  | INTC_UNIT_SHT
  /-- 09_ecrax_protocol.md R221, MBOX 0x0 bit 0, 1 bits. -/
  | MBOX_DOORBELL_IN_RING
  /-- 09_ecrax_protocol.md R221, MBOX 0x0 bit 1, 1 bits. -/
  | MBOX_DOORBELL_OUT_DONE
  /-- 09_ecrax_protocol.md R221, MBOX 0x4 bit 0, 1 bits. -/
  | MBOX_STAT_IN_BUSY
  /-- 09_ecrax_protocol.md R221, MBOX 0x4 bit 1, 1 bits. -/
  | MBOX_STAT_OUT_REPLY
  /-- 09_ecrax_protocol.md R221, MBOX 0x4 bit 2, 1 bits. -/
  | MBOX_STAT_OUT_EVT
  /-- 09_ecrax_protocol.md R221, MBOX 0x4 bit 3, 1 bits. -/
  | MBOX_STAT_READY
  /-- 09_ecrax_protocol.md R221, MBOX 0x4 bit 8, 8 bits. -/
  | MBOX_STAT_EVT_WAIT
  /-- 09_ecrax_protocol.md R221, MBOX 0x4 bit 16, 8 bits. -/
  | MBOX_STAT_RING_LOST
  /-- 09_ecrax_protocol.md R221, MBOX 0x8 bit 0, 1 bits. -/
  | MBOX_CFG_EVT_EN
  /-- 09_ecrax_protocol.md R221, MBOX 0x8 bit 1, 1 bits. -/
  | MBOX_CFG_INT_REPLY
  /-- 09_ecrax_protocol.md R221, MBOX 0x8 bit 2, 1 bits. -/
  | MBOX_CFG_INT_EVT
  /-- 04_port_power.md R104, PORT 0x0 bit 0, 1 bits. -/
  | PWR_CFG_CONN
  /-- 04_port_power.md R104, PORT 0x0 bit 1, 1 bits. -/
  | PWR_CFG_POLICY
  /-- 04_port_power.md R104, PORT 0x0 bit 2, 2 bits. -/
  | PWR_CFG_PRIO
  /-- 04_port_power.md R104, PORT 0x0 bit 4, 2 bits. -/
  | PWR_CFG_RP_MAX
  /-- 04_port_power.md R104, PORT 0x0 bit 6, 1 bits. -/
  | PWR_CFG_PWR_EN
  /-- 04_port_power.md R104, PORT 0x0 bit 8, 4 bits. -/
  | PWR_CFG_RETRIES
  /-- 04_port_power.md R104, PORT 0x4 bit 0, 8 bits. -/
  | PWR_LIMIT_ILIM
  /-- 04_port_power.md R104, PORT 0x4 bit 8, 6 bits. -/
  | PWR_LIMIT_FTIME
  /-- 04_port_power.md R104, PORT 0x4 bit 16, 4 bits. -/
  | PWR_LIMIT_SLEW
  /-- 04_port_power.md R104, PORT 0x4 bit 24, 6 bits. -/
  | PWR_LIMIT_RETRY_PER
  /-- 04_port_power.md R104, PORT 0x8 bit 0, 3 bits. -/
  | PWR_STAT_STATE
  /-- 04_port_power.md R104, PORT 0x8 bit 3, 1 bits. -/
  | PWR_STAT_BLOCKED
  /-- 04_port_power.md R104, PORT 0x8 bit 4, 2 bits. -/
  | PWR_STAT_RP_ADV
  /-- 04_port_power.md R104, PORT 0x8 bit 6, 1 bits. -/
  | PWR_STAT_SHED
  /-- 04_port_power.md R104, PORT 0x8 bit 7, 1 bits. -/
  | PWR_STAT_SINK_LIMITED
  /-- 04_port_power.md R104, PORT 0x8 bit 8, 1 bits. -/
  | PWR_STAT_DEFERRED
  /-- 04_port_power.md R104, PORT 0x8 bit 9, 1 bits. -/
  | PWR_STAT_TA_REDUCED
  /-- 04_port_power.md R104, PORT 0x8 bit 12, 4 bits. -/
  | PWR_STAT_RETRY_LEFT
  /-- 04_port_power.md R104, PORT 0x8 bit 16, 16 bits. -/
  | PWR_STAT_ALLOC_MA
  /-- 04_port_power.md R104, PORT 0xc bit 0, 11 bits. -/
  | PWR_EVT
  /-- 04_port_power.md R104, PORT 0x10 bit 0, 16 bits. -/
  | PWR_VBUS
  /-- 04_port_power.md R104, PORT 0x14 bit 0, 16 bits. -/
  | PWR_I
  /-- 04_port_power.md R104, PORT 0x18 bit 0, 16 bits. -/
  | PWR_TJ_SENSOR
  /-- 04_port_power.md R104, PORT 0x18 bit 16, 16 bits. -/
  | PWR_TJ_MODEL
  /-- 04_port_power.md R104, PORT 0x1c bit 0, 48 bits. -/
  | PWR_E
  /-- 04_port_power.md R104, PORT 0x24 bit 0, 32 bits. -/
  | PWR_ATTACH_CNT
  /-- 04_port_power.md R104, PORT 0x28 bit 0, 16 bits. -/
  | PWR_OC_CNT
  /-- 04_port_power.md R104, PORT 0x28 bit 16, 16 bits. -/
  | PWR_SC_CNT
  /-- 04_port_power.md R104, PORT 0x2c bit 0, 16 bits. -/
  | PWR_THERM_CNT
  /-- 04_port_power.md R104, PORT 0x2c bit 16, 16 bits. -/
  | PWR_NONCOMPLY_CNT
  /-- 04_port_power.md R104, PORT 0x30 bit 0, 32 bits. -/
  | PWR_STRESS_CNT
  /-- 04_port_power.md R104, PORT 0x34 bit 0, 32 bits. -/
  | PWR_ONTIME
  /-- 04_port_power.md R104, PORT 0x38 bit 0, 64 bits. -/
  | PWR_BIN
  /-- 04_port_power.md R104, PORT 0x40 bit 0, 64 bits. -/
  | PWR_BOUT
  /-- 05_port_lifecycle.md R127, PORT 0x100 bit 0, 2 bits. -/
  | PORT_MODE_MODE_CFG
  /-- 05_port_lifecycle.md R127, PORT 0x100 bit 2, 2 bits. -/
  | PORT_MODE_MODE_EFF
  /-- 05_port_lifecycle.md R127, PORT 0x100 bit 4, 1 bits. -/
  | PORT_MODE_PUBLIC
  /-- 05_port_lifecycle.md R127, PORT 0x100 bit 5, 1 bits. -/
  | PORT_MODE_DATA_EN
  /-- 05_port_lifecycle.md R127, PORT 0x100 bit 8, 1 bits. -/
  | PORT_MODE_OVR_DEBUG
  /-- 05_port_lifecycle.md R127, PORT 0x100 bit 9, 1 bits. -/
  | PORT_MODE_OVR_LIFECYCLE
  /-- 05_port_lifecycle.md R127, PORT 0x104 bit 0, 3 bits. -/
  | PORT_DET_DET
  /-- 05_port_lifecycle.md R127, PORT 0x104 bit 3, 1 bits. -/
  | PORT_DET_ORIENT
  /-- 05_port_lifecycle.md R127, PORT 0x108 bit 0, 64 bits. -/
  | PORT_ATT_DT
  /-- 05_port_lifecycle.md R127, PORT 0x110 bit 0, 4 bits. -/
  | PORT_LIFE_ATT_STATE
  /-- 05_port_lifecycle.md R127, PORT 0x110 bit 4, 2 bits. -/
  | PORT_LIFE_SPEED
  /-- 05_port_lifecycle.md R127, PORT 0x110 bit 6, 1 bits. -/
  | PORT_LIFE_CHANGING
  /-- 05_port_lifecycle.md R127, PORT 0x110 bit 7, 1 bits. -/
  | PORT_LIFE_PENDING
  /-- 05_port_lifecycle.md R127, PORT 0x110 bit 8, 2 bits. -/
  | PORT_LIFE_PEND_MODE
  /-- 05_port_lifecycle.md R127, PORT 0x110 bit 10, 2 bits. -/
  | PORT_LIFE_ENUM_TRIES
  /-- 05_port_lifecycle.md R127, PORT 0x110 bit 12, 4 bits. -/
  | PORT_LIFE_SHUTTLE
  /-- 05_port_lifecycle.md R127, PORT 0x114 bit 0, 10 bits. -/
  | PORT_LEVT
  /-- 05_port_lifecycle.md R127, PORT 0x118 bit 0, 9 bits. -/
  | PORT_QUAL_QUAL_MS
  /-- 05_port_lifecycle.md R127, PORT 0x11c bit 0, 64 bits. -/
  | PORT_PRES_DT
  /-- 05_port_lifecycle.md R127, PORT 0x124 bit 0, 32 bits. -/
  | PORT_TADPOLE_TADPOLE_US
  /-- 03_feeds.md R79, SKEIN 0x0 bit 0, 10 bits. -/
  | SKN_CFG_VNOM
  /-- 03_feeds.md R79, SKEIN 0x0 bit 16, 7 bits. -/
  | SKN_CFG_SHARE_A
  /-- 03_feeds.md R79, SKEIN 0x0 bit 24, 8 bits. -/
  | SKN_CFG_IRATED
  /-- 03_feeds.md R79, SKEIN 0x4 bit 0, 1 bits. -/
  | SKN_STAT_PG
  /-- 03_feeds.md R79, SKEIN 0x4 bit 1, 1 bits. -/
  | SKN_STAT_SETTLING
  /-- 03_feeds.md R79, SKEIN 0x4 bit 2, 1 bits. -/
  | SKN_STAT_SHARING
  /-- 03_feeds.md R79, SKEIN 0x4 bit 3, 1 bits. -/
  | SKN_STAT_HELD
  /-- 03_feeds.md R79, SKEIN 0x8 bit 0, 16 bits. -/
  | SKN_VRAIL
  /-- 03_feeds.md R79, SKEIN 0xc bit 0, 32 bits. -/
  | SKN_I
  /-- 03_feeds.md R79, SKEIN 0x10 bit 0, 64 bits. -/
  | SKN_E
  /-- 04_port_power.md R105, SKEIN 0x20 bit 0, 16 bits. -/
  | SKN_BUDGET_BUDGET_MA
  /-- 04_port_power.md R105, SKEIN 0x24 bit 0, 16 bits. -/
  | SKN_LOAN_LOAN_MA
  /-- 04_port_power.md R105, SKEIN 0x28 bit 0, 16 bits. -/
  | SKN_ALLOC_ALLOC_MA
  /-- 04_port_power.md R105, SKEIN 0x28 bit 16, 16 bits. -/
  | SKN_ALLOC_EFFECTIVE_MA
  /-- 04_port_power.md R105, SKEIN 0x2c bit 0, 1 bits. -/
  | SKN_BSTAT_OVER
  /-- 04_port_power.md R105, SKEIN 0x2c bit 1, 1 bits. -/
  | SKN_BSTAT_SHED_HOLD
  /-- 04_port_power.md R105, SKEIN 0x2c bit 2, 1 bits. -/
  | SKN_BSTAT_FLOOR
  /-- 04_port_power.md R105, SKEIN 0x2c bit 3, 1 bits. -/
  | SKN_BSTAT_LOAN_FROZEN
  /-- 04_port_power.md R105, SKEIN 0x2c bit 4, 1 bits. -/
  | SKN_BSTAT_SUSPENDED
  /-- 03_feeds.md R79, FEED 0x0 bit 0, 1 bits. -/
  | FEED_CFG_EN
  /-- 03_feeds.md R79, FEED 0x0 bit 1, 1 bits. -/
  | FEED_CFG_PRESENT
  /-- 03_feeds.md R79, FEED 0x0 bit 2, 1 bits. -/
  | FEED_CFG_POLICY
  /-- 03_feeds.md R79, FEED 0x0 bit 4, 4 bits. -/
  | FEED_CFG_RETRIES
  /-- 03_feeds.md R79, FEED 0x0 bit 8, 2 bits. -/
  | FEED_CFG_TS_TYPE
  /-- 03_feeds.md R79, FEED 0x4 bit 0, 6 bits. -/
  | FEED_LIMIT_ILIM_MV
  /-- 03_feeds.md R79, FEED 0x4 bit 8, 6 bits. -/
  | FEED_LIMIT_FTIME_MS
  /-- 03_feeds.md R79, FEED 0x4 bit 16, 8 bits. -/
  | FEED_LIMIT_SLEW
  /-- 03_feeds.md R79, FEED 0x4 bit 24, 8 bits. -/
  | FEED_LIMIT_VGS_FE
  /-- 03_feeds.md R79, FEED 0x8 bit 0, 10 bits. -/
  | FEED_VWIN_UV
  /-- 03_feeds.md R79, FEED 0x8 bit 16, 10 bits. -/
  | FEED_VWIN_OV
  /-- 03_feeds.md R79, FEED 0xc bit 0, 16 bits. -/
  | FEED_SHUNT_R_UOHM
  /-- 03_feeds.md R79, FEED 0x10 bit 0, 4 bits. -/
  | FEED_STAT_STATE
  /-- 03_feeds.md R79, FEED 0x10 bit 4, 1 bits. -/
  | FEED_STAT_CONDUCTING
  /-- 03_feeds.md R79, FEED 0x10 bit 5, 1 bits. -/
  | FEED_STAT_FULL_ENH
  /-- 03_feeds.md R79, FEED 0x10 bit 6, 1 bits. -/
  | FEED_STAT_SHARE_LIMIT
  /-- 03_feeds.md R79, FEED 0x10 bit 7, 1 bits. -/
  | FEED_STAT_TS_FAULT
  /-- 03_feeds.md R79, FEED 0x10 bit 8, 1 bits. -/
  | FEED_STAT_DEFERRED
  /-- 03_feeds.md R79, FEED 0x10 bit 9, 1 bits. -/
  | FEED_STAT_CDLY_FAULT
  /-- 03_feeds.md R79, FEED 0x10 bit 12, 4 bits. -/
  | FEED_STAT_RETRY_LEFT
  /-- 03_feeds.md R79, FEED 0x14 bit 0, 10 bits. -/
  | FEED_EVT
  /-- 03_feeds.md R79, FEED 0x18 bit 0, 16 bits. -/
  | FEED_VIN
  /-- 03_feeds.md R79, FEED 0x1c bit 0, 16 bits. -/
  | FEED_VDS
  /-- 03_feeds.md R79, FEED 0x20 bit 0, 32 bits. -/
  | FEED_I
  /-- 03_feeds.md R79, FEED 0x24 bit 0, 32 bits. -/
  | FEED_P
  /-- 03_feeds.md R79, FEED 0x28 bit 0, 64 bits. -/
  | FEED_E
  /-- 03_feeds.md R79, FEED 0x30 bit 0, 16 bits. -/
  | FEED_TJ_MODEL
  /-- 03_feeds.md R79, FEED 0x30 bit 16, 16 bits. -/
  | FEED_TJ_SENSOR
  /-- 03_feeds.md R79, FEED 0x34 bit 0, 8 bits. -/
  | FEED_TLIM_TJ_TRIP
  /-- 03_feeds.md R79, FEED 0x34 bit 8, 8 bits. -/
  | FEED_TLIM_TJ_WARN
  /-- 03_feeds.md R79, FEED 0x34 bit 16, 8 bits. -/
  | FEED_TLIM_TS_TRIP
  /-- 03_feeds.md R79, FEED 0x34 bit 24, 8 bits. -/
  | FEED_TLIM_TREF
  /-- 03_feeds.md R79, FEED 0x38 bit 0, 24 bits. -/
  | FEED_RTH1
  /-- 03_feeds.md R79, FEED 0x3c bit 0, 24 bits. -/
  | FEED_RTH2
  /-- 03_feeds.md R79, FEED 0x40 bit 0, 24 bits. -/
  | FEED_RTH3
  /-- 03_feeds.md R79, FEED 0x44 bit 0, 24 bits. -/
  | FEED_CTH1
  /-- 03_feeds.md R79, FEED 0x48 bit 0, 24 bits. -/
  | FEED_CTH2
  /-- 03_feeds.md R79, FEED 0x4c bit 0, 24 bits. -/
  | FEED_CTH3
  /-- 03_feeds.md R79, FEED 0x50 bit 0, 16 bits. -/
  | FEED_NTC_NTC_RNOM
  /-- 03_feeds.md R79, FEED 0x50 bit 16, 16 bits. -/
  | FEED_NTC_NTC_BETA
  /-- 03_feeds.md R79, FEED 0x54 bit 0, 8 bits. -/
  | FEED_CNT_OC_CNT
  /-- 03_feeds.md R79, FEED 0x54 bit 8, 8 bits. -/
  | FEED_CNT_THERM_CNT
  /-- 03_feeds.md R79, FEED 0x54 bit 16, 8 bits. -/
  | FEED_CNT_REV_CNT
  /-- 03_feeds.md R79, FEED 0x54 bit 24, 8 bits. -/
  | FEED_CNT_INHERIT_CNT
  /-- 07_shuttle_engines.md R177, SHUTTLE 0x0 bit 0, 3 bits. -/
  | SHT_STAT_STATE
  /-- 07_shuttle_engines.md R177, SHUTTLE 0x0 bit 4, 4 bits. -/
  | SHT_STAT_PHYG
  /-- 07_shuttle_engines.md R177, SHUTTLE 0x0 bit 8, 8 bits. -/
  | SHT_STAT_TERM
  /-- 07_shuttle_engines.md R177, SHUTTLE 0x0 bit 16, 8 bits. -/
  | SHT_STAT_ATT
  /-- 07_shuttle_engines.md R177, SHUTTLE 0x4 bit 0, 11 bits. -/
  | SHT_EVT
  /-- 07_shuttle_engines.md R177, SHUTTLE 0x8 bit 0, 16 bits. -/
  | SHT_ERR_XACT_ERR_CNT
  /-- 07_shuttle_engines.md R177, SHUTTLE 0x8 bit 16, 16 bits. -/
  | SHT_ERR_ISO_MISS_CNT
  /-- 07_shuttle_engines.md R177, SHUTTLE 0xc bit 0, 32 bits. -/
  | SHT_XFER_XFER_CNT
  /-- 07_shuttle_engines.md R177, SHUTTLE 0x10 bit 0, 13 bits. -/
  | SHT_IDLE
  /-- 07_shuttle_engines.md R177, SHUTTLE 0x30 bit 0, 7 bits. -/
  | SHT_SLOT_DEVICES
  /-- 07_shuttle_engines.md R177, SHUTTLE 0x30 bit 7, 2 bits. -/
  | SHT_SLOT_TREE
  /-- 07_shuttle_engines.md R177, SHUTTLE 0x30 bit 9, 7 bits. -/
  | SHT_SLOT_HUBS
  /-- 07_shuttle_engines.md R177, SHUTTLE 0x30 bit 16, 16 bits. -/
  | SHT_SLOT_CONTEXTS
  /-- 07_shuttle_engines.md R177, SHF 0x0 bit 0, 14 bits. -/
  | SHF_POOL_FREE
  /-- 07_shuttle_engines.md R177, SHF 0x0 bit 16, 12 bits. -/
  | SHF_POOL_WAITING
  /-- 07_shuttle_engines.md R177, SHF 0x4 bit 0, 14 bits. -/
  | SHF_POOL_MIN_FREE_MIN
  /-- 07_shuttle_engines.md R177, SHF 0x8 bit 0, 4 bits. -/
  | SHF_TKO_FROM
  /-- 07_shuttle_engines.md R177, SHF 0x8 bit 4, 4 bits. -/
  | SHF_TKO_TO
  /-- 07_shuttle_engines.md R177, SHF 0x8 bit 8, 4 bits. -/
  | SHF_TKO_PHYG
  /-- 07_shuttle_engines.md R177, SHF 0x8 bit 16, 16 bits. -/
  | SHF_TKO_TKO_CNT
  /-- 07_shuttle_engines.md R177, SHF 0xc bit 0, 64 bits. -/
  | SHF_TKO_DT
  /-- 07_shuttle_engines.md R177, SHF 0x14 bit 0, 16 bits. -/
  | SHF_TKO_PAUSE_PAUSE_US
  /-- 07_shuttle_engines.md R177, SHF 0x14 bit 16, 16 bits. -/
  | SHF_TKO_PAUSE_PAUSE_MAX_US
  /-- 07_shuttle_engines.md R177, SHF 0x18 bit 0, 8 bits. -/
  | SHF_SHARE_BULK_16K
  /-- 07_shuttle_engines.md R177, SHF 0x18 bit 8, 8 bits. -/
  | SHF_SHARE_INTR_4K
  /-- 07_shuttle_engines.md R177, SHF 0x18 bit 16, 8 bits. -/
  | SHF_SHARE_ISO_MS
  /-- 07_shuttle_engines.md R177, SHF 0x1c bit 0, 32 bits. -/
  | SHF_PAGES_FREE_PAGES
  /-- 13_power_domains.md R327, DOMAIN 0x0 bit 0, 2 bits. -/
  | DOM_REQ_STATE
  /-- 13_power_domains.md R327, DOMAIN 0x4 bit 0, 2 bits. -/
  | DOM_STAT_STATE
  /-- 13_power_domains.md R327, DOMAIN 0x4 bit 2, 1 bits. -/
  | DOM_STAT_TRANS
  /-- 13_power_domains.md R327, DOMAIN 0x4 bit 3, 2 bits. -/
  | DOM_STAT_TARGET
  /-- 13_power_domains.md R327, DOMAIN 0x4 bit 5, 1 bits. -/
  | DOM_STAT_PEND_VALID
  /-- 13_power_domains.md R327, DOMAIN 0x4 bit 6, 2 bits. -/
  | DOM_STAT_PEND_STATE
  /-- 13_power_domains.md R327, DOMAIN 0x4 bit 8, 1 bits. -/
  | DOM_STAT_FENCED
  /-- 13_power_domains.md R327, DOMAIN 0x4 bit 9, 1 bits. -/
  | DOM_STAT_CLK_STOPPED
  /-- 13_power_domains.md R327, DOMAIN 0x4 bit 10, 3 bits. -/
  | DOM_STAT_STEP
  /-- 13_power_domains.md R327, DOMAIN 0x4 bit 16, 3 bits. -/
  | DOM_STAT_LAST_CAUSE
  /-- 13_power_domains.md R327, DOMAIN 0x8 bit 0, 22 bits. -/
  | DOM_IDLE_IDLE_MS
  /-- 13_power_domains.md R327, DOMAIN 0x8 bit 22, 2 bits. -/
  | DOM_IDLE_IDLE_STATE
  /-- 13_power_domains.md R327, DOMAIN 0xc bit 0, 16 bits. -/
  | DOM_TIME_LAST_US
  /-- 13_power_domains.md R327, DOMAIN 0xc bit 16, 16 bits. -/
  | DOM_TIME_MAX_US
  /-- 13_power_domains.md R327, DOMAIN 0x10 bit 0, 16 bits. -/
  | DOM_CNT_RET_CNT
  /-- 13_power_domains.md R327, DOMAIN 0x10 bit 16, 16 bits. -/
  | DOM_CNT_OFF_CNT
  /-- 13_power_domains.md R327, DOMAIN 0x14 bit 0, 3 bits. -/
  | DOM_INFO_ALLOWED
  /-- 13_power_domains.md R327, DOMAIN 0x14 bit 16, 16 bits. -/
  | DOM_INFO_LIST_BYTES
  deriving DecidableEq, Repr

/-- What a field map says of a field. `off` is the byte offset of its register, `lo` the bit inside it. -/
structure FldInfo where
  space : Space
  off   : Nat
  lo    : Nat
  width : Nat
  acc   : Acc
  kept  : Kept
  rst   : Nat
  cnt   : Nat := 1
  step  : Nat := 0
  lim   : Option (Nat × Nat) := none
  deriving DecidableEq, Repr

/-- The field maps, field by field. -/
def Fld.info : Fld → FldInfo
  | .SYS_ID_PART => ⟨.SYS, 0x0, 0, 16, .RO, .AON, 38500, 1, 0, none⟩
  | .SYS_ID_REV => ⟨.SYS, 0x0, 16, 8, .RO, .AON, 11, 1, 0, none⟩
  | .SYS_STRAP_IDX => ⟨.SYS, 0x4, 0, 6, .RO, .AON, 0, 1, 0, none⟩
  | .SYS_STRAP_MGMT_ADDR => ⟨.SYS, 0x4, 6, 2, .RO, .AON, 0, 1, 0, none⟩
  | .SYS_STRAP_BOOT => ⟨.SYS, 0x4, 8, 2, .RO, .AON, 0, 1, 0, none⟩
  | .SYS_STRAP_PREFHALF => ⟨.SYS, 0x4, 10, 1, .RO, .AON, 0, 1, 0, none⟩
  | .SYS_STRAP_MGR_ELIG => ⟨.SYS, 0x4, 11, 1, .RO, .AON, 1, 1, 0, none⟩
  | .SYS_STAT_READY => ⟨.SYS, 0x8, 0, 1, .RO, .AON, 0, 1, 0, none⟩
  | .SYS_STAT_SAFE_HOLD => ⟨.SYS, 0x8, 1, 1, .RO, .AON, 0, 1, 0, none⟩
  | .SYS_STAT_LEAD => ⟨.SYS, 0x8, 2, 1, .RO, .AON, 0, 1, 0, none⟩
  | .SYS_STAT_STANDBY_HOT => ⟨.SYS, 0x8, 3, 1, .RO, .AON, 0, 1, 0, none⟩
  | .SYS_STAT_UP_CONN => ⟨.SYS, 0x8, 4, 1, .RO, .AON, 0, 1, 0, none⟩
  | .SYS_STAT_CONN_PERMIT => ⟨.SYS, 0x8, 5, 1, .RO, .AON, 0, 1, 0, none⟩
  | .SYS_START_CAUSE => ⟨.SYS, 0xc, 0, 3, .RO, .AON, 0, 1, 0, none⟩
  | .SYS_START_WARM_CNT => ⟨.SYS, 0xc, 8, 8, .RO, .AON, 0, 1, 0, none⟩
  | .SYS_ERR_ALIGN => ⟨.SYS, 0x10, 0, 1, .W1C, .AON, 0, 1, 0, none⟩
  | .SYS_ERR_PARTIAL => ⟨.SYS, 0x10, 1, 1, .W1C, .AON, 0, 1, 0, none⟩
  | .SYS_ERR_RESERVED => ⟨.SYS, 0x10, 2, 1, .W1C, .AON, 0, 1, 0, none⟩
  | .SYS_ERR_ASLEEP => ⟨.SYS, 0x10, 3, 1, .W1C, .AON, 0, 1, 0, none⟩
  | .SYS_ERR_FENCED => ⟨.SYS, 0x10, 4, 1, .W1C, .AON, 0, 1, 0, none⟩
  | .SYS_ERR_RANGE => ⟨.SYS, 0x10, 5, 1, .W1C, .AON, 0, 1, 0, none⟩
  | .SYS_ERR_OVERRUN => ⟨.SYS, 0x10, 6, 1, .W1C, .AON, 0, 1, 0, none⟩
  | .SYS_ERR_ERR_CNT => ⟨.SYS, 0x10, 16, 16, .RC, .AON, 0, 1, 0, none⟩
  | .SYS_ERR_ADDR_ADDR => ⟨.SYS, 0x14, 0, 24, .RO, .AON, 0, 1, 0, none⟩
  | .SYS_E => ⟨.SYS, 0x18, 0, 64, .RO, .AON, 0, 1, 0, none⟩
  | .AON_CLK_SLOW_SRC => ⟨.AON, 0x0, 0, 1, .RO, .AON, 0, 1, 0, none⟩
  | .AON_CLK_XTAL_ABANDONED => ⟨.AON, 0x0, 1, 1, .RO, .AON, 0, 1, 0, none⟩
  | .AON_CLK_XTAL_STOPPED => ⟨.AON, 0x0, 2, 1, .RO, .AON, 0, 1, 0, none⟩
  | .AON_CONN_PERMIT => ⟨.AON, 0x4, 0, 1, .RO, .AON, 0, 1, 0, none⟩
  | .AON_CONN_AUTO => ⟨.AON, 0x4, 1, 1, .RO, .AON, 0, 1, 0, none⟩
  | .AON_CONN_VBUS_OK => ⟨.AON, 0x4, 2, 1, .RO, .AON, 0, 1, 0, none⟩
  | .AON_CONN_HOLDOFF => ⟨.AON, 0x4, 3, 1, .RO, .AON, 0, 1, 0, none⟩
  | .AON_HIER_ROLE => ⟨.AON, 0x8, 0, 1, .RO, .AON, 0, 1, 0, none⟩
  | .AON_HIER_RANK => ⟨.AON, 0x8, 1, 6, .RO, .AON, 63, 1, 0, none⟩
  | .AON_HIER_CHMASK => ⟨.AON, 0x8, 16, 16, .RO, .AON, 0, 1, 0, none⟩
  | .AON_JHEAD_NEWEST => ⟨.AON, 0xc, 0, 5, .RO, .AON, 0, 1, 0, none⟩
  | .AON_JHEAD_COUNT => ⟨.AON, 0xc, 5, 6, .RO, .AON, 0, 1, 0, none⟩
  | .AON_SCRATCH => ⟨.AON, 0x20, 0, 32, .RW, .AON, 0, 8, 32, none⟩
  | .PWRD_STATE => ⟨.PWRD, 0x0, 0, 2, .RO, .AON, 2, 42, 2, none⟩
  | .PWRD_FENCED => ⟨.PWRD, 0xc, 0, 1, .RO, .AON, 0, 42, 1, none⟩
  | .PWRD_WAKE_EN_ADDR_MATCH => ⟨.PWRD, 0x14, 0, 1, .RO, .AON, 1, 1, 0, none⟩
  | .PWRD_WAKE_EN_SRC_EN => ⟨.PWRD, 0x14, 1, 5, .RW, .AON, 31, 1, 0, none⟩
  | .PWRD_WAKE_EN_I2C_WAKE_NACK => ⟨.PWRD, 0x14, 8, 1, .RW, .AON, 0, 1, 0, none⟩
  | .PWRD_WAKE_LAST_SRC => ⟨.PWRD, 0x18, 0, 6, .RC, .AON, 0, 1, 0, none⟩
  | .PWRD_WAKE_LAST_WAKE_CNT => ⟨.PWRD, 0x18, 16, 16, .RC, .AON, 0, 1, 0, none⟩
  | .PWRD_EVT => ⟨.PWRD, 0x1c, 0, 7, .W1C, .AON, 0, 1, 0, none⟩
  | .PWRD_AVS_TARGET_MV => ⟨.PWRD, 0x20, 0, 10, .RO, .AON, 0, 1, 0, none⟩
  | .PWRD_AVS_LAST_ACK_MV => ⟨.PWRD, 0x20, 10, 10, .RO, .AON, 0, 1, 0, none⟩
  | .PWRD_AVS_LOW_RAIL => ⟨.PWRD, 0x20, 20, 1, .RO, .AON, 0, 1, 0, none⟩
  | .PWRD_AVS_FALLBACK => ⟨.PWRD, 0x20, 21, 1, .RO, .AON, 0, 1, 0, none⟩
  | .PWRD_AVS_RETRY_CNT => ⟨.PWRD, 0x20, 24, 8, .RC, .AON, 0, 1, 0, none⟩
  | .PWRD_AVS_CFG_TRIM => ⟨.PWRD, 0x24, 0, 5, .RO, .AON, 0, 1, 0, none⟩
  | .PWRD_AVS_CFG_LOW_RAIL_EN => ⟨.PWRD, 0x24, 5, 1, .RW, .AON, 1, 1, 0, none⟩
  | .PWRD_CLK_REF_RUN => ⟨.PWRD, 0x28, 0, 1, .RO, .AON, 0, 1, 0, none⟩
  | .PWRD_CLK_TCLK_RUN => ⟨.PWRD, 0x28, 1, 1, .RO, .AON, 0, 1, 0, none⟩
  | .PWRD_CLK_REF_KEEP => ⟨.PWRD, 0x28, 2, 1, .RW, .AON, 0, 1, 0, none⟩
  | .PWRD_ALARM => ⟨.PWRD, 0x30, 0, 64, .RW, .AON, 0, 4, 64, none⟩
  | .PWRD_RETMEM_LIST_BYTES => ⟨.PWRD, 0x50, 0, 16, .RO, .AON, 0, 1, 0, none⟩
  | .PWRD_RETMEM_SECRET_OK => ⟨.PWRD, 0x50, 16, 1, .RO, .AON, 1, 1, 0, none⟩
  | .PWRD_RETMEM_SEAL_FAIL_CNT => ⟨.PWRD, 0x50, 24, 8, .RC, .AON, 0, 1, 0, none⟩
  | .FLT_GECKO => ⟨.FLT, 0x0, 0, 1, .W1C, .AON, 0, 80, 1, none⟩
  | .FLT_PAIR => ⟨.FLT, 0xc, 0, 1, .RO, .AON, 0, 80, 1, none⟩
  | .FLT_STAT_CLASS_MAX => ⟨.FLT, 0x18, 0, 3, .RO, .AON, 0, 1, 0, none⟩
  | .FLT_STAT_REACTING => ⟨.FLT, 0x18, 3, 1, .RO, .AON, 0, 1, 0, none⟩
  | .FLT_STAT_SAFE_HOLD => ⟨.FLT, 0x18, 4, 1, .RO, .AON, 0, 1, 0, none⟩
  | .FLT_STAT_HOLD_PORST => ⟨.FLT, 0x18, 5, 1, .RO, .AON, 0, 1, 0, none⟩
  | .FLT_STAT_MIRROR_DEGRADED => ⟨.FLT, 0x18, 6, 1, .RO, .AON, 0, 1, 0, none⟩
  | .FLT_STAT_REBUILDING => ⟨.FLT, 0x18, 7, 1, .RO, .AON, 0, 1, 0, none⟩
  | .FLT_STAT_REACT_CNT => ⟨.FLT, 0x18, 16, 16, .RO, .AON, 0, 1, 0, none⟩
  | .FLT_TOKEN_HOLDER => ⟨.FLT, 0x1c, 0, 1, .RO, .AON, 0, 1, 0, none⟩
  | .FLT_TOKEN_VALID => ⟨.FLT, 0x1c, 1, 1, .RO, .AON, 0, 1, 0, none⟩
  | .FLT_TOKEN_STANDBY_HOT => ⟨.FLT, 0x1c, 2, 1, .RO, .AON, 0, 1, 0, none⟩
  | .FLT_TOKEN_PREF_USED => ⟨.FLT, 0x1c, 3, 1, .RO, .AON, 0, 1, 0, none⟩
  | .FLT_TOKEN_REFUSED_CNT => ⟨.FLT, 0x1c, 8, 8, .RC, .AON, 0, 1, 0, none⟩
  | .FLT_TOKEN_TKO_CNT => ⟨.FLT, 0x1c, 24, 8, .RO, .AON, 0, 1, 0, none⟩
  | .FLT_HB_SEQ => ⟨.FLT, 0x20, 0, 16, .RO, .AON, 0, 1, 0, none⟩
  | .FLT_HB_HANDOVER => ⟨.FLT, 0x20, 16, 1, .RO, .AON, 0, 1, 0, none⟩
  | .FLT_HB_MISSED_CNT => ⟨.FLT, 0x20, 24, 8, .RC, .AON, 0, 1, 0, none⟩
  | .FLT_CNT_MERGED_CNT => ⟨.FLT, 0x24, 0, 16, .RC, .AON, 0, 1, 0, none⟩
  | .FLT_CNT_CODED_BAD_CNT => ⟨.FLT, 0x24, 16, 16, .RC, .AON, 0, 1, 0, none⟩
  | .FLT_NCNT => ⟨.FLT, 0x40, 0, 8, .RC, .AON, 0, 80, 8, none⟩
  | .TIME_DT => ⟨.TIME, 0x0, 0, 64, .RO, .AON, 0, 1, 0, none⟩
  | .TIME_STAT_SYNC => ⟨.TIME, 0x8, 0, 1, .RO, .AON, 0, 1, 0, none⟩
  | .TIME_STAT_SLOW_ONLY => ⟨.TIME, 0x8, 1, 1, .RO, .AON, 1, 1, 0, none⟩
  | .TIME_STAT_XTAL32 => ⟨.TIME, 0x8, 2, 1, .RO, .AON, 0, 1, 0, none⟩
  | .TIME_STAT_LOCKED => ⟨.TIME, 0x8, 3, 1, .RO, .AON, 0, 1, 0, none⟩
  | .TIME_STAT_STEP_CNT => ⟨.TIME, 0x8, 8, 8, .RO, .AON, 0, 1, 0, none⟩
  | .TIME_CORR_CORR_NS => ⟨.TIME, 0xc, 0, 32, .RO, .AON, 0, 1, 0, none⟩
  | .IND_ADDR_OFFSET => ⟨.IND, 0x0, 0, 20, .RW, .KEPT, 0, 1, 0, none⟩
  | .IND_ADDR_UNIT => ⟨.IND, 0x0, 20, 8, .RW, .KEPT, 0, 1, 0, none⟩
  | .IND_ADDR_SPACE => ⟨.IND, 0x0, 28, 4, .RW, .KEPT, 0, 1, 0, none⟩
  | .IND_DATA => ⟨.IND, 0x4, 0, 32, .RW, .LOST, 0, 1, 0, none⟩
  | .IND_SET => ⟨.IND, 0x8, 0, 32, .WO, .LOST, 0, 1, 0, none⟩
  | .IND_CLR => ⟨.IND, 0xc, 0, 32, .WO, .LOST, 0, 1, 0, none⟩
  | .IND_TGL => ⟨.IND, 0x10, 0, 32, .WO, .LOST, 0, 1, 0, none⟩
  | .IND_CTL_AUTOINC => ⟨.IND, 0x14, 0, 1, .RW, .KEPT, 1, 1, 0, none⟩
  | .IND_CTL_RD_AHEAD => ⟨.IND, 0x14, 1, 1, .RW, .KEPT, 1, 1, 0, none⟩
  | .IND_CTL_FETCH => ⟨.IND, 0x14, 2, 1, .WO, .LOST, 0, 1, 0, none⟩
  | .IND_STAT_BUSY => ⟨.IND, 0x18, 0, 1, .RO, .LOST, 0, 1, 0, none⟩
  | .IND_STAT_WRAP => ⟨.IND, 0x18, 1, 1, .W1C, .LOST, 0, 1, 0, none⟩
  | .IND_STAT_RESULT => ⟨.IND, 0x18, 2, 4, .RO, .LOST, 0, 1, 0, none⟩
  | .IND_STAT_ERR_CNT => ⟨.IND, 0x18, 16, 16, .RC, .KEPT, 0, 1, 0, none⟩
  | .SNAP_CTL_TRIGGER => ⟨.SNAP, 0x0, 0, 1, .WO, .AON, 0, 1, 0, none⟩
  | .SNAP_STAT_BUSY => ⟨.SNAP, 0x4, 0, 1, .RO, .AON, 0, 1, 0, none⟩
  | .SNAP_STAT_VALID => ⟨.SNAP, 0x4, 1, 1, .RO, .AON, 0, 1, 0, none⟩
  | .SNAP_STAT_TRIG_LOST => ⟨.SNAP, 0x4, 2, 1, .W1C, .AON, 0, 1, 0, none⟩
  | .SNAP_STAT_SKIP => ⟨.SNAP, 0x4, 8, 8, .RO, .AON, 0, 1, 0, none⟩
  | .SNAP_STAT_SNAP_CNT => ⟨.SNAP, 0x4, 16, 16, .RO, .AON, 0, 1, 0, none⟩
  | .SNAP_DT => ⟨.SNAP, 0x8, 0, 64, .RO, .AON, 0, 1, 0, none⟩
  | .CAN_CTL_MODE => ⟨.CAN, 0x0, 0, 2, .RW, .KEPT, 0, 1, 0, none⟩
  | .CAN_CTL_TXORDER => ⟨.CAN, 0x0, 2, 1, .RW, .KEPT, 0, 1, 0, none⟩
  | .CAN_CTL_AUTO_RECOVER => ⟨.CAN, 0x0, 3, 1, .RW, .KEPT, 1, 1, 0, none⟩
  | .CAN_CTL_FD_EN => ⟨.CAN, 0x0, 4, 1, .RW, .KEPT, 1, 1, 0, none⟩
  | .CAN_CTL_DEFAULT_ACCEPT => ⟨.CAN, 0x0, 5, 1, .RW, .KEPT, 1, 1, 0, none⟩
  | .CAN_CTL_TDC_EN => ⟨.CAN, 0x0, 6, 1, .RW, .KEPT, 1, 1, 0, none⟩
  | .CAN_CTL_USE => ⟨.CAN, 0x0, 8, 2, .RO, .AON, 2, 1, 0, none⟩
  | .CAN_STAT_MODE_NOW => ⟨.CAN, 0x4, 0, 2, .RO, .LOST, 0, 1, 0, none⟩
  | .CAN_STAT_BUS_IDLE => ⟨.CAN, 0x4, 2, 1, .RO, .LOST, 0, 1, 0, none⟩
  | .CAN_STAT_TX_ACTIVE => ⟨.CAN, 0x4, 3, 1, .RO, .LOST, 0, 1, 0, none⟩
  | .CAN_STAT_RX_ACTIVE => ⟨.CAN, 0x4, 4, 1, .RO, .LOST, 0, 1, 0, none⟩
  | .CAN_STAT_ESTATE => ⟨.CAN, 0x4, 5, 2, .RO, .LOST, 0, 1, 0, none⟩
  | .CAN_STAT_LONE => ⟨.CAN, 0x4, 7, 1, .RO, .LOST, 0, 1, 0, none⟩
  | .CAN_STAT_SYNCED => ⟨.CAN, 0x4, 8, 1, .RO, .LOST, 0, 1, 0, none⟩
  | .CAN_STAT_HOST_LOCK => ⟨.CAN, 0x4, 9, 1, .RO, .LOST, 0, 1, 0, none⟩
  | .CAN_NBT_NTSEG1 => ⟨.CAN, 0x8, 0, 8, .RW, .KEPT, 30, 1, 0, none⟩
  | .CAN_NBT_NTSEG2 => ⟨.CAN, 0x8, 8, 7, .RW, .KEPT, 7, 1, 0, none⟩
  | .CAN_NBT_NSJW => ⟨.CAN, 0x8, 16, 7, .RW, .KEPT, 7, 1, 0, none⟩
  | .CAN_NBT_NBRP => ⟨.CAN, 0x8, 24, 5, .RW, .KEPT, 0, 1, 0, none⟩
  | .CAN_DBT_DTSEG1 => ⟨.CAN, 0xc, 0, 5, .RW, .KEPT, 4, 1, 0, none⟩
  | .CAN_DBT_DTSEG2 => ⟨.CAN, 0xc, 8, 4, .RW, .KEPT, 1, 1, 0, none⟩
  | .CAN_DBT_DSJW => ⟨.CAN, 0xc, 16, 4, .RW, .KEPT, 1, 1, 0, none⟩
  | .CAN_DBT_DBRP => ⟨.CAN, 0xc, 24, 5, .RW, .KEPT, 0, 1, 0, none⟩
  | .CAN_TDC_TDCO => ⟨.CAN, 0x10, 0, 7, .RW, .KEPT, 6, 1, 0, none⟩
  | .CAN_TDC_TDCV => ⟨.CAN, 0x10, 8, 7, .RO, .LOST, 0, 1, 0, none⟩
  | .CAN_ERR_TEC => ⟨.CAN, 0x14, 0, 8, .RO, .KEPT, 0, 1, 0, none⟩
  | .CAN_ERR_REC => ⟨.CAN, 0x14, 8, 8, .RO, .KEPT, 0, 1, 0, none⟩
  | .CAN_ERR_LEC => ⟨.CAN, 0x14, 16, 3, .RO, .LOST, 0, 1, 0, none⟩
  | .CAN_ERR_LEC_DATA => ⟨.CAN, 0x14, 19, 1, .RO, .LOST, 0, 1, 0, none⟩
  | .CAN_ERR_ACKFAIL_RUN => ⟨.CAN, 0x14, 24, 8, .RO, .LOST, 0, 1, 0, none⟩
  | .CAN_INT => ⟨.CAN, 0x18, 0, 13, .W1C, .LOST, 0, 1, 0, none⟩
  | .CAN_INTEN => ⟨.CAN, 0x1c, 0, 13, .RW, .KEPT, 0, 1, 0, none⟩
  | .CAN_TXCMD_REQ => ⟨.CAN, 0x20, 0, 3, .WO, .LOST, 0, 1, 0, none⟩
  | .CAN_TXCMD_ABORT => ⟨.CAN, 0x20, 4, 3, .WO, .LOST, 0, 1, 0, none⟩
  | .CAN_FCNT => ⟨.CAN, 0x28, 0, 64, .RO, .KEPT, 0, 1, 0, none⟩
  | .CAN_RXF_STAT_COUNT => ⟨.CAN, 0x30, 0, 6, .RO, .LOST, 0, 1, 0, none⟩
  | .CAN_RXF_STAT_WM => ⟨.CAN, 0x30, 8, 6, .RW, .KEPT, 16, 1, 0, some (1, 32)⟩
  | .CAN_RXF_STAT_OVF_CNT => ⟨.CAN, 0x30, 16, 16, .RC, .LOST, 0, 1, 0, none⟩
  | .CAN_RXF_POP_POP => ⟨.CAN, 0x34, 0, 1, .WO, .LOST, 0, 1, 0, none⟩
  | .CAN_FLT_ID => ⟨.CAN, 0x40, 0, 29, .RW, .KEPT, 0, 24, 64, none⟩
  | .CAN_FLT_IDE => ⟨.CAN, 0x40, 29, 1, .RW, .KEPT, 0, 24, 64, none⟩
  | .CAN_FLT_EN => ⟨.CAN, 0x40, 30, 1, .RW, .KEPT, 0, 24, 64, none⟩
  | .CAN_FLT_ACTION => ⟨.CAN, 0x40, 31, 1, .RW, .KEPT, 0, 24, 64, none⟩
  | .CAN_FLT_MASK => ⟨.CAN, 0x44, 0, 29, .RW, .KEPT, 0, 24, 64, none⟩
  | .CAN_FLT_IDE_CMP => ⟨.CAN, 0x44, 29, 1, .RW, .KEPT, 0, 24, 64, none⟩
  | .TXB_ID => ⟨.CAN, 0x100, 0, 29, .RW, .LOST, 0, 3, 1024, none⟩
  | .TXB_IDE => ⟨.CAN, 0x100, 29, 1, .RW, .LOST, 0, 3, 1024, none⟩
  | .TXB_DLC => ⟨.CAN, 0x104, 0, 4, .RW, .LOST, 0, 3, 1024, none⟩
  | .TXB_FDF => ⟨.CAN, 0x104, 4, 1, .RW, .LOST, 0, 3, 1024, none⟩
  | .TXB_BRS => ⟨.CAN, 0x104, 5, 1, .RW, .LOST, 0, 3, 1024, none⟩
  | .TXB_RTR => ⟨.CAN, 0x104, 6, 1, .RW, .LOST, 0, 3, 1024, none⟩
  | .TXB_ONESHOT => ⟨.CAN, 0x104, 7, 1, .RW, .LOST, 0, 3, 1024, none⟩
  | .TXB_STATE => ⟨.CAN, 0x108, 0, 3, .RO, .LOST, 0, 3, 1024, none⟩
  | .TXB_ATTEMPTS => ⟨.CAN, 0x108, 8, 8, .RO, .LOST, 0, 3, 1024, none⟩
  | .TXB_TS_VALID => ⟨.CAN, 0x108, 16, 1, .RO, .LOST, 0, 3, 1024, none⟩
  | .TXB_TS => ⟨.CAN, 0x10c, 0, 64, .RO, .LOST, 0, 3, 1024, none⟩
  | .TXB_DATA => ⟨.CAN, 0x140, 0, 512, .RW, .LOST, 0, 3, 1024, none⟩
  | .RXF_ID => ⟨.CAN, 0x300, 0, 29, .RO, .LOST, 0, 1, 0, none⟩
  | .RXF_IDE => ⟨.CAN, 0x300, 29, 1, .RO, .LOST, 0, 1, 0, none⟩
  | .RXF_DLC => ⟨.CAN, 0x304, 0, 4, .RO, .LOST, 0, 1, 0, none⟩
  | .RXF_FDF => ⟨.CAN, 0x304, 4, 1, .RO, .LOST, 0, 1, 0, none⟩
  | .RXF_BRS => ⟨.CAN, 0x304, 5, 1, .RO, .LOST, 0, 1, 0, none⟩
  | .RXF_RTR => ⟨.CAN, 0x304, 6, 1, .RO, .LOST, 0, 1, 0, none⟩
  | .RXF_ESI => ⟨.CAN, 0x304, 7, 1, .RO, .LOST, 0, 1, 0, none⟩
  | .RXF_FILT => ⟨.CAN, 0x304, 8, 5, .RO, .LOST, 0, 1, 0, none⟩
  | .RXF_TS => ⟨.CAN, 0x308, 0, 64, .RO, .LOST, 0, 1, 0, none⟩
  | .RXF_DATA => ⟨.CAN, 0x340, 0, 512, .RO, .LOST, 0, 1, 0, none⟩
  | .HUBS_ID_VID => ⟨.HUBS, 0x0, 0, 16, .RO, .LOST, 0, 1, 0, none⟩
  | .HUBS_ID_BCD_DEVICE => ⟨.HUBS, 0x0, 16, 16, .RO, .LOST, 2816, 1, 0, none⟩
  | .HUBS_STAT_U2_STATE => ⟨.HUBS, 0x4, 0, 3, .RO, .LOST, 0, 1, 0, none⟩
  | .HUBS_STAT_U2_ADDR => ⟨.HUBS, 0x4, 3, 7, .RO, .LOST, 0, 1, 0, none⟩
  | .HUBS_STAT_ALT_MTT => ⟨.HUBS, 0x4, 10, 1, .RO, .LOST, 0, 1, 0, none⟩
  | .HUBS_STAT_RWAKE_EN => ⟨.HUBS, 0x4, 11, 1, .RO, .LOST, 0, 1, 0, none⟩
  | .HUBS_STAT_SS_STATE => ⟨.HUBS, 0x4, 12, 3, .RO, .LOST, 0, 1, 0, none⟩
  | .HUBS_STAT_P97_CONN => ⟨.HUBS, 0x4, 15, 1, .RO, .LOST, 0, 1, 0, none⟩
  | .HUBS_CONN => ⟨.HUBS, 0x10, 0, 1, .RO, .LOST, 0, 98, 1, none⟩
  | .HUBS_SUSP => ⟨.HUBS, 0x20, 0, 1, .RO, .LOST, 0, 98, 1, none⟩
  | .HUBS_EVT => ⟨.HUBS, 0x30, 0, 7, .W1C, .KEPT, 0, 1, 0, none⟩
  | .HUBS_PWRREQ_LAST_PORT => ⟨.HUBS, 0x34, 0, 7, .RO, .KEPT, 0, 1, 0, none⟩
  | .HUBS_PWRREQ_LAST_ON => ⟨.HUBS, 0x34, 7, 1, .RO, .KEPT, 0, 1, 0, none⟩
  | .HUBS_PWRREQ_OFF_CNT => ⟨.HUBS, 0x34, 8, 16, .RC, .KEPT, 0, 1, 0, none⟩
  | .HUBS_TTCNT_DISCARD_CNT => ⟨.HUBS, 0x38, 0, 16, .RC, .KEPT, 0, 1, 0, none⟩
  | .HUBS_TTCNT_CLEAR_CNT => ⟨.HUBS, 0x38, 16, 8, .RC, .KEPT, 0, 1, 0, none⟩
  | .LOOMS_ID_PID => ⟨.LOOMS, 0x0, 0, 16, .RO, .LOST, 38511, 1, 0, none⟩
  | .LOOMS_ID_SUBCLASS => ⟨.LOOMS, 0x0, 16, 8, .RO, .LOST, 76, 1, 0, none⟩
  | .LOOMS_ID_PROTOCOL => ⟨.LOOMS, 0x0, 24, 8, .RO, .LOST, 1, 1, 0, none⟩
  | .LOOMS_STAT_RATE => ⟨.LOOMS, 0x4, 0, 3, .RO, .LOST, 0, 1, 0, none⟩
  | .LOOMS_STAT_LSTATE => ⟨.LOOMS, 0x4, 3, 3, .RO, .LOST, 0, 1, 0, none⟩
  | .LOOMS_STAT_CONFIGURED => ⟨.LOOMS, 0x4, 6, 1, .RO, .LOST, 0, 1, 0, none⟩
  | .LOOMS_STAT_ALT => ⟨.LOOMS, 0x4, 7, 1, .RO, .LOST, 0, 1, 0, none⟩
  | .LOOMS_STAT_FSUSP => ⟨.LOOMS, 0x4, 8, 1, .RO, .LOST, 0, 1, 0, none⟩
  | .LOOMS_STAT_FRWAKE_EN => ⟨.LOOMS, 0x4, 9, 1, .RO, .LOST, 0, 1, 0, none⟩
  | .LOOMS_STAT_WAKE_PEND => ⟨.LOOMS, 0x4, 10, 1, .RO, .LOST, 0, 1, 0, none⟩
  | .LOOMS_CFG_U1_INIT => ⟨.LOOMS, 0x8, 0, 1, .RW, .KEPT, 1, 1, 0, none⟩
  | .LOOMS_CFG_U2_INIT => ⟨.LOOMS, 0x8, 1, 1, .RW, .KEPT, 1, 1, 0, none⟩
  | .LOOMS_CFG_CREDIT_STEP => ⟨.LOOMS, 0x8, 8, 8, .RW, .KEPT, 4, 1, 0, some (1, 255)⟩
  | .LOOMS_EVT => ⟨.LOOMS, 0xc, 0, 11, .W1C, .KEPT, 0, 1, 0, none⟩
  | .LOOMS_LANE_HANDLES => ⟨.LOOMS, 0x10, 0, 14, .RO, .LOST, 0, 9, 32, none⟩
  | .LOOMS_LANE_OUT_DMA => ⟨.LOOMS, 0x10, 14, 1, .RO, .LOST, 0, 9, 32, none⟩
  | .LOOMS_LANE_IN_READY => ⟨.LOOMS, 0x10, 15, 1, .RO, .LOST, 0, 9, 32, none⟩
  | .LOOMS_LANE_NRDY_CNT => ⟨.LOOMS, 0x10, 16, 16, .RC, .KEPT, 0, 9, 32, none⟩
  | .LOOMS_RXREC => ⟨.LOOMS, 0x40, 0, 64, .RO, .KEPT, 0, 1, 0, none⟩
  | .LOOMS_TXREC => ⟨.LOOMS, 0x48, 0, 64, .RO, .KEPT, 0, 1, 0, none⟩
  | .LOOMS_RXB => ⟨.LOOMS, 0x50, 0, 64, .RO, .KEPT, 0, 1, 0, none⟩
  | .LOOMS_TXB => ⟨.LOOMS, 0x58, 0, 64, .RO, .KEPT, 0, 1, 0, none⟩
  | .LOOMS_ERR_DUP_CNT => ⟨.LOOMS, 0x60, 0, 16, .RC, .KEPT, 0, 1, 0, none⟩
  | .LOOMS_ERR_GAP_CNT => ⟨.LOOMS, 0x60, 16, 16, .RC, .KEPT, 0, 1, 0, none⟩
  | .SEC_LC_STATE => ⟨.SEC, 0x0, 0, 3, .RO, .AON, 0, 1, 0, none⟩
  | .SEC_LC_COMPLETED => ⟨.SEC, 0x0, 3, 1, .RO, .AON, 0, 1, 0, none⟩
  | .SEC_LC_FUSES => ⟨.SEC, 0x0, 4, 4, .RO, .AON, 0, 1, 0, none⟩
  | .SEC_LC_KEY_STATE => ⟨.SEC, 0x0, 8, 2, .RO, .AON, 0, 1, 0, none⟩
  | .SEC_ARB_COUNT => ⟨.SEC, 0x4, 0, 8, .RO, .AON, 0, 1, 0, none⟩
  | .SEC_KEYS_PROGRAMMED => ⟨.SEC, 0x8, 0, 3, .RO, .AON, 0, 1, 0, none⟩
  | .SEC_KEYS_REVOKED => ⟨.SEC, 0x8, 4, 3, .RO, .AON, 0, 1, 0, none⟩
  | .SEC_DBG_LEVEL => ⟨.SEC, 0xc, 0, 2, .RO, .AON, 0, 1, 0, none⟩
  | .SEC_DBG_DBG_EN_PIN => ⟨.SEC, 0xc, 2, 1, .RO, .AON, 0, 1, 0, none⟩
  | .SEC_DBG_SESSION => ⟨.SEC, 0xc, 3, 1, .RO, .AON, 0, 1, 0, none⟩
  | .SEC_DBG_TARGET_VALID => ⟨.SEC, 0xc, 4, 1, .RO, .AON, 0, 1, 0, none⟩
  | .SEC_DBG_TARGET => ⟨.SEC, 0xc, 5, 6, .RO, .AON, 0, 1, 0, none⟩
  | .SEC_DBG_HB_MASK => ⟨.SEC, 0xc, 11, 1, .RW, .AON, 0, 1, 0, none⟩
  | .SEC_DBG_END_CAUSE => ⟨.SEC, 0xc, 12, 4, .RO, .AON, 0, 1, 0, none⟩
  | .SEC_DBG_SESSION_CNT => ⟨.SEC, 0xc, 16, 8, .RO, .AON, 0, 1, 0, none⟩
  | .SEC_BOOT_SLOT => ⟨.SEC, 0x10, 0, 1, .RO, .AON, 0, 1, 0, none⟩
  | .SEC_BOOT_OTHER_SLOT => ⟨.SEC, 0x10, 1, 1, .RO, .AON, 0, 1, 0, none⟩
  | .SEC_BOOT_DFU => ⟨.SEC, 0x10, 2, 1, .RO, .AON, 0, 1, 0, none⟩
  | .SEC_BOOT_FAIL => ⟨.SEC, 0x10, 8, 4, .RO, .AON, 0, 1, 0, none⟩
  | .SEC_EVT => ⟨.SEC, 0x14, 0, 7, .W1C, .AON, 0, 1, 0, none⟩
  | .SEC_CHAL_CURRENT => ⟨.SEC, 0x18, 0, 1, .RO, .AON, 0, 1, 0, none⟩
  | .SEC_CHAL_PURPOSE => ⟨.SEC, 0x18, 1, 2, .RO, .AON, 0, 1, 0, none⟩
  | .SEC_CHAL_ARG => ⟨.SEC, 0x18, 8, 8, .RO, .AON, 0, 1, 0, none⟩
  | .SEC_OKH => ⟨.SEC, 0x40, 0, 384, .RO, .AON, 0, 3, 384, none⟩
  | .SEC_VRKH => ⟨.SEC, 0xd0, 0, 384, .RO, .AON, 0, 1, 0, none⟩
  | .SEC_OTP_DATA => ⟨.SEC, 0x100, 0, 32, .WO, .AON, 0, 12, 32, none⟩
  | .SEC_OTP_CMD_SLOT => ⟨.SEC, 0x130, 0, 2, .WO, .AON, 0, 1, 0, none⟩
  | .SEC_OTP_CMD_GO => ⟨.SEC, 0x130, 4, 1, .WO, .AON, 0, 1, 0, none⟩
  | .SEC_OTP_STAT_BUSY => ⟨.SEC, 0x134, 0, 1, .RO, .AON, 0, 1, 0, none⟩
  | .SEC_OTP_STAT_RESULT => ⟨.SEC, 0x134, 1, 2, .RO, .AON, 0, 1, 0, none⟩
  | .SEC_IDCODE => ⟨.SEC, 0x138, 0, 32, .RO, .AON, 0, 1, 0, none⟩
  | .INTC_PEND_PORT_PWR => ⟨.INTC, 0x0, 0, 1, .RO, .AON, 0, 1, 0, none⟩
  | .INTC_PEND_PORT_LIFE => ⟨.INTC, 0x0, 1, 1, .RO, .AON, 0, 1, 0, none⟩
  | .INTC_PEND_FEED => ⟨.INTC, 0x0, 2, 1, .RO, .AON, 0, 1, 0, none⟩
  | .INTC_PEND_SHUTTLE => ⟨.INTC, 0x0, 3, 1, .RO, .AON, 0, 1, 0, none⟩
  | .INTC_PEND_HUB => ⟨.INTC, 0x0, 4, 1, .RO, .AON, 0, 1, 0, none⟩
  | .INTC_PEND_LOOM => ⟨.INTC, 0x0, 5, 1, .RO, .AON, 0, 1, 0, none⟩
  | .INTC_PEND_DOMAIN => ⟨.INTC, 0x0, 6, 1, .RO, .AON, 0, 1, 0, none⟩
  | .INTC_PEND_FAULT => ⟨.INTC, 0x0, 7, 1, .W1C, .AON, 0, 1, 0, none⟩
  | .INTC_PEND_SEC => ⟨.INTC, 0x0, 8, 1, .RO, .AON, 0, 1, 0, none⟩
  | .INTC_PEND_CANA => ⟨.INTC, 0x0, 9, 1, .RO, .AON, 0, 1, 0, none⟩
  | .INTC_PEND_CANB => ⟨.INTC, 0x0, 10, 1, .RO, .AON, 0, 1, 0, none⟩
  | .INTC_PEND_MB_REPLY => ⟨.INTC, 0x0, 11, 1, .RO, .AON, 0, 1, 0, none⟩
  | .INTC_PEND_MB_EVT => ⟨.INTC, 0x0, 12, 1, .RO, .AON, 0, 1, 0, none⟩
  | .INTC_EN => ⟨.INTC, 0x4, 0, 13, .RW, .AON, 6144, 1, 0, none⟩
  | .INTC_CTL_OUT_EN => ⟨.INTC, 0x8, 0, 1, .RW, .AON, 0, 1, 0, none⟩
  | .INTC_CTL_ROUTE => ⟨.INTC, 0x8, 1, 2, .RW, .AON, 0, 1, 0, some (0, 2)⟩
  | .INTC_PORT => ⟨.INTC, 0x10, 0, 1, .RO, .AON, 0, 96, 1, none⟩
  | .INTC_UNIT_FEED => ⟨.INTC, 0x1c, 0, 16, .RO, .AON, 0, 1, 0, none⟩
  | .INTC_UNIT_SHT => ⟨.INTC, 0x1c, 16, 13, .RO, .AON, 0, 1, 0, none⟩
  | .MBOX_DOORBELL_IN_RING => ⟨.MBOX, 0x0, 0, 1, .WO, .AON, 0, 1, 0, none⟩
  | .MBOX_DOORBELL_OUT_DONE => ⟨.MBOX, 0x0, 1, 1, .WO, .AON, 0, 1, 0, none⟩
  | .MBOX_STAT_IN_BUSY => ⟨.MBOX, 0x4, 0, 1, .RO, .AON, 0, 1, 0, none⟩
  | .MBOX_STAT_OUT_REPLY => ⟨.MBOX, 0x4, 1, 1, .RO, .AON, 0, 1, 0, none⟩
  | .MBOX_STAT_OUT_EVT => ⟨.MBOX, 0x4, 2, 1, .RO, .AON, 0, 1, 0, none⟩
  | .MBOX_STAT_READY => ⟨.MBOX, 0x4, 3, 1, .RO, .AON, 0, 1, 0, none⟩
  | .MBOX_STAT_EVT_WAIT => ⟨.MBOX, 0x4, 8, 8, .RO, .AON, 0, 1, 0, none⟩
  | .MBOX_STAT_RING_LOST => ⟨.MBOX, 0x4, 16, 8, .RC, .AON, 0, 1, 0, none⟩
  | .MBOX_CFG_EVT_EN => ⟨.MBOX, 0x8, 0, 1, .RW, .AON, 0, 1, 0, none⟩
  | .MBOX_CFG_INT_REPLY => ⟨.MBOX, 0x8, 1, 1, .RW, .AON, 1, 1, 0, none⟩
  | .MBOX_CFG_INT_EVT => ⟨.MBOX, 0x8, 2, 1, .RW, .AON, 0, 1, 0, none⟩
  | .PWR_CFG_CONN => ⟨.PORT, 0x0, 0, 1, .RW, .AON, 0, 1, 0, none⟩
  | .PWR_CFG_POLICY => ⟨.PORT, 0x0, 1, 1, .RW, .AON, 0, 1, 0, none⟩
  | .PWR_CFG_PRIO => ⟨.PORT, 0x0, 2, 2, .RW, .AON, 3, 1, 0, none⟩
  | .PWR_CFG_RP_MAX => ⟨.PORT, 0x0, 4, 2, .RW, .AON, 2, 1, 0, some (0, 2)⟩
  | .PWR_CFG_PWR_EN => ⟨.PORT, 0x0, 6, 1, .RW, .AON, 1, 1, 0, none⟩
  | .PWR_CFG_RETRIES => ⟨.PORT, 0x0, 8, 4, .RW, .AON, 8, 1, 0, none⟩
  | .PWR_LIMIT_ILIM => ⟨.PORT, 0x4, 0, 8, .RW, .AON, 132, 1, 0, some (10, 140)⟩
  | .PWR_LIMIT_FTIME => ⟨.PORT, 0x4, 8, 6, .RW, .AON, 8, 1, 0, some (1, 32)⟩
  | .PWR_LIMIT_SLEW => ⟨.PORT, 0x4, 16, 4, .RW, .AON, 4, 1, 0, some (1, 10)⟩
  | .PWR_LIMIT_RETRY_PER => ⟨.PORT, 0x4, 24, 6, .RW, .AON, 8, 1, 0, some (1, 32)⟩
  | .PWR_STAT_STATE => ⟨.PORT, 0x8, 0, 3, .RO, .AON, 0, 1, 0, none⟩
  | .PWR_STAT_BLOCKED => ⟨.PORT, 0x8, 3, 1, .RO, .AON, 0, 1, 0, none⟩
  | .PWR_STAT_RP_ADV => ⟨.PORT, 0x8, 4, 2, .RO, .AON, 0, 1, 0, none⟩
  | .PWR_STAT_SHED => ⟨.PORT, 0x8, 6, 1, .RO, .AON, 0, 1, 0, none⟩
  | .PWR_STAT_SINK_LIMITED => ⟨.PORT, 0x8, 7, 1, .RO, .AON, 0, 1, 0, none⟩
  | .PWR_STAT_DEFERRED => ⟨.PORT, 0x8, 8, 1, .RO, .AON, 0, 1, 0, none⟩
  | .PWR_STAT_TA_REDUCED => ⟨.PORT, 0x8, 9, 1, .RO, .AON, 0, 1, 0, none⟩
  | .PWR_STAT_RETRY_LEFT => ⟨.PORT, 0x8, 12, 4, .RO, .AON, 8, 1, 0, none⟩
  | .PWR_STAT_ALLOC_MA => ⟨.PORT, 0x8, 16, 16, .RO, .AON, 0, 1, 0, none⟩
  | .PWR_EVT => ⟨.PORT, 0xc, 0, 11, .W1C, .AON, 0, 1, 0, none⟩
  | .PWR_VBUS => ⟨.PORT, 0x10, 0, 16, .RO, .AON, 0, 1, 0, none⟩
  | .PWR_I => ⟨.PORT, 0x14, 0, 16, .RO, .AON, 0, 1, 0, none⟩
  | .PWR_TJ_SENSOR => ⟨.PORT, 0x18, 0, 16, .RO, .AON, 0, 1, 0, none⟩
  | .PWR_TJ_MODEL => ⟨.PORT, 0x18, 16, 16, .RO, .AON, 0, 1, 0, none⟩
  | .PWR_E => ⟨.PORT, 0x1c, 0, 48, .RO, .AON, 0, 1, 0, none⟩
  | .PWR_ATTACH_CNT => ⟨.PORT, 0x24, 0, 32, .RO, .AON, 0, 1, 0, none⟩
  | .PWR_OC_CNT => ⟨.PORT, 0x28, 0, 16, .RO, .AON, 0, 1, 0, none⟩
  | .PWR_SC_CNT => ⟨.PORT, 0x28, 16, 16, .RO, .AON, 0, 1, 0, none⟩
  | .PWR_THERM_CNT => ⟨.PORT, 0x2c, 0, 16, .RO, .AON, 0, 1, 0, none⟩
  | .PWR_NONCOMPLY_CNT => ⟨.PORT, 0x2c, 16, 16, .RO, .AON, 0, 1, 0, none⟩
  | .PWR_STRESS_CNT => ⟨.PORT, 0x30, 0, 32, .RO, .AON, 0, 1, 0, none⟩
  | .PWR_ONTIME => ⟨.PORT, 0x34, 0, 32, .RO, .AON, 0, 1, 0, none⟩
  | .PWR_BIN => ⟨.PORT, 0x38, 0, 64, .RO, .AON, 0, 1, 0, none⟩
  | .PWR_BOUT => ⟨.PORT, 0x40, 0, 64, .RO, .AON, 0, 1, 0, none⟩
  | .PORT_MODE_MODE_CFG => ⟨.PORT, 0x100, 0, 2, .RO, .AON, 0, 1, 0, none⟩
  | .PORT_MODE_MODE_EFF => ⟨.PORT, 0x100, 2, 2, .RO, .AON, 0, 1, 0, none⟩
  | .PORT_MODE_PUBLIC => ⟨.PORT, 0x100, 4, 1, .RO, .AON, 1, 1, 0, none⟩
  | .PORT_MODE_DATA_EN => ⟨.PORT, 0x100, 5, 1, .RO, .AON, 0, 1, 0, none⟩
  | .PORT_MODE_OVR_DEBUG => ⟨.PORT, 0x100, 8, 1, .RO, .AON, 0, 1, 0, none⟩
  | .PORT_MODE_OVR_LIFECYCLE => ⟨.PORT, 0x100, 9, 1, .RO, .AON, 0, 1, 0, none⟩
  | .PORT_DET_DET => ⟨.PORT, 0x104, 0, 3, .RO, .AON, 0, 1, 0, none⟩
  | .PORT_DET_ORIENT => ⟨.PORT, 0x104, 3, 1, .RO, .AON, 0, 1, 0, none⟩
  | .PORT_ATT_DT => ⟨.PORT, 0x108, 0, 64, .RO, .AON, 0, 1, 0, none⟩
  | .PORT_LIFE_ATT_STATE => ⟨.PORT, 0x110, 0, 4, .RO, .AON, 0, 1, 0, none⟩
  | .PORT_LIFE_SPEED => ⟨.PORT, 0x110, 4, 2, .RO, .AON, 0, 1, 0, none⟩
  | .PORT_LIFE_CHANGING => ⟨.PORT, 0x110, 6, 1, .RO, .AON, 0, 1, 0, none⟩
  | .PORT_LIFE_PENDING => ⟨.PORT, 0x110, 7, 1, .RO, .AON, 0, 1, 0, none⟩
  | .PORT_LIFE_PEND_MODE => ⟨.PORT, 0x110, 8, 2, .RO, .AON, 0, 1, 0, none⟩
  | .PORT_LIFE_ENUM_TRIES => ⟨.PORT, 0x110, 10, 2, .RO, .AON, 0, 1, 0, none⟩
  | .PORT_LIFE_SHUTTLE => ⟨.PORT, 0x110, 12, 4, .RO, .AON, 15, 1, 0, none⟩
  | .PORT_LEVT => ⟨.PORT, 0x114, 0, 10, .W1C, .AON, 0, 1, 0, none⟩
  | .PORT_QUAL_QUAL_MS => ⟨.PORT, 0x118, 0, 9, .RW, .AON, 50, 1, 0, some (10, 500)⟩
  | .PORT_PRES_DT => ⟨.PORT, 0x11c, 0, 64, .RO, .AON, 0, 1, 0, none⟩
  | .PORT_TADPOLE_TADPOLE_US => ⟨.PORT, 0x124, 0, 32, .RO, .AON, 0, 1, 0, none⟩
  | .SKN_CFG_VNOM => ⟨.SKEIN, 0x0, 0, 10, .RW, .AON, 500, 1, 0, some (475, 550)⟩
  | .SKN_CFG_SHARE_A => ⟨.SKEIN, 0x0, 16, 7, .RW, .AON, 50, 1, 0, some (20, 80)⟩
  | .SKN_CFG_IRATED => ⟨.SKEIN, 0x0, 24, 8, .RW, .AON, 30, 1, 0, some (10, 30)⟩
  | .SKN_STAT_PG => ⟨.SKEIN, 0x4, 0, 1, .RO, .AON, 0, 1, 0, none⟩
  | .SKN_STAT_SETTLING => ⟨.SKEIN, 0x4, 1, 1, .RO, .AON, 0, 1, 0, none⟩
  | .SKN_STAT_SHARING => ⟨.SKEIN, 0x4, 2, 1, .RO, .AON, 0, 1, 0, none⟩
  | .SKN_STAT_HELD => ⟨.SKEIN, 0x4, 3, 1, .RO, .AON, 0, 1, 0, none⟩
  | .SKN_VRAIL => ⟨.SKEIN, 0x8, 0, 16, .RO, .AON, 0, 1, 0, none⟩
  | .SKN_I => ⟨.SKEIN, 0xc, 0, 32, .RO, .AON, 0, 1, 0, none⟩
  | .SKN_E => ⟨.SKEIN, 0x10, 0, 64, .RO, .AON, 0, 1, 0, none⟩
  | .SKN_BUDGET_BUDGET_MA => ⟨.SKEIN, 0x20, 0, 16, .RW, .AON, 30000, 1, 0, some (0, 30000)⟩
  | .SKN_LOAN_LOAN_MA => ⟨.SKEIN, 0x24, 0, 16, .RO, .AON, 0, 1, 0, none⟩
  | .SKN_ALLOC_ALLOC_MA => ⟨.SKEIN, 0x28, 0, 16, .RO, .AON, 0, 1, 0, none⟩
  | .SKN_ALLOC_EFFECTIVE_MA => ⟨.SKEIN, 0x28, 16, 16, .RO, .AON, 30000, 1, 0, none⟩
  | .SKN_BSTAT_OVER => ⟨.SKEIN, 0x2c, 0, 1, .RO, .AON, 0, 1, 0, none⟩
  | .SKN_BSTAT_SHED_HOLD => ⟨.SKEIN, 0x2c, 1, 1, .RO, .AON, 0, 1, 0, none⟩
  | .SKN_BSTAT_FLOOR => ⟨.SKEIN, 0x2c, 2, 1, .RO, .AON, 0, 1, 0, none⟩
  | .SKN_BSTAT_LOAN_FROZEN => ⟨.SKEIN, 0x2c, 3, 1, .RO, .AON, 0, 1, 0, none⟩
  | .SKN_BSTAT_SUSPENDED => ⟨.SKEIN, 0x2c, 4, 1, .RO, .AON, 0, 1, 0, none⟩
  | .FEED_CFG_EN => ⟨.FEED, 0x0, 0, 1, .RW, .AON, 1, 1, 0, none⟩
  | .FEED_CFG_PRESENT => ⟨.FEED, 0x0, 1, 1, .RW, .AON, 1, 1, 0, none⟩
  | .FEED_CFG_POLICY => ⟨.FEED, 0x0, 2, 1, .RW, .AON, 0, 1, 0, none⟩
  | .FEED_CFG_RETRIES => ⟨.FEED, 0x0, 4, 4, .RW, .AON, 3, 1, 0, none⟩
  | .FEED_CFG_TS_TYPE => ⟨.FEED, 0x0, 8, 2, .RW, .AON, 0, 1, 0, some (0, 2)⟩
  | .FEED_LIMIT_ILIM_MV => ⟨.FEED, 0x4, 0, 6, .RW, .AON, 40, 1, 0, some (10, 50)⟩
  | .FEED_LIMIT_FTIME_MS => ⟨.FEED, 0x4, 8, 6, .RW, .AON, 10, 1, 0, some (1, 50)⟩
  | .FEED_LIMIT_SLEW => ⟨.FEED, 0x4, 16, 8, .RW, .AON, 5, 1, 0, some (1, 25)⟩
  | .FEED_LIMIT_VGS_FE => ⟨.FEED, 0x4, 24, 8, .RW, .AON, 45, 1, 0, some (30, 80)⟩
  | .FEED_VWIN_UV => ⟨.FEED, 0x8, 0, 10, .RW, .AON, 440, 1, 0, some (400, 470)⟩
  | .FEED_VWIN_OV => ⟨.FEED, 0x8, 16, 10, .RW, .AON, 580, 1, 0, some (550, 600)⟩
  | .FEED_SHUNT_R_UOHM => ⟨.FEED, 0xc, 0, 16, .RW, .AON, 1000, 1, 0, some (250, 5000)⟩
  | .FEED_STAT_STATE => ⟨.FEED, 0x10, 0, 4, .RO, .AON, 1, 1, 0, none⟩
  | .FEED_STAT_CONDUCTING => ⟨.FEED, 0x10, 4, 1, .RO, .AON, 0, 1, 0, none⟩
  | .FEED_STAT_FULL_ENH => ⟨.FEED, 0x10, 5, 1, .RO, .AON, 0, 1, 0, none⟩
  | .FEED_STAT_SHARE_LIMIT => ⟨.FEED, 0x10, 6, 1, .RO, .AON, 0, 1, 0, none⟩
  | .FEED_STAT_TS_FAULT => ⟨.FEED, 0x10, 7, 1, .RO, .AON, 0, 1, 0, none⟩
  | .FEED_STAT_DEFERRED => ⟨.FEED, 0x10, 8, 1, .RO, .AON, 0, 1, 0, none⟩
  | .FEED_STAT_CDLY_FAULT => ⟨.FEED, 0x10, 9, 1, .RO, .AON, 0, 1, 0, none⟩
  | .FEED_STAT_RETRY_LEFT => ⟨.FEED, 0x10, 12, 4, .RO, .AON, 3, 1, 0, none⟩
  | .FEED_EVT => ⟨.FEED, 0x14, 0, 10, .W1C, .AON, 0, 1, 0, none⟩
  | .FEED_VIN => ⟨.FEED, 0x18, 0, 16, .RO, .AON, 0, 1, 0, none⟩
  | .FEED_VDS => ⟨.FEED, 0x1c, 0, 16, .RO, .AON, 0, 1, 0, none⟩
  | .FEED_I => ⟨.FEED, 0x20, 0, 32, .RO, .AON, 0, 1, 0, none⟩
  | .FEED_P => ⟨.FEED, 0x24, 0, 32, .RO, .AON, 0, 1, 0, none⟩
  | .FEED_E => ⟨.FEED, 0x28, 0, 64, .RO, .AON, 0, 1, 0, none⟩
  | .FEED_TJ_MODEL => ⟨.FEED, 0x30, 0, 16, .RO, .AON, 0, 1, 0, none⟩
  | .FEED_TJ_SENSOR => ⟨.FEED, 0x30, 16, 16, .RO, .AON, 0, 1, 0, none⟩
  | .FEED_TLIM_TJ_TRIP => ⟨.FEED, 0x34, 0, 8, .RW, .AON, 150, 1, 0, some (100, 175)⟩
  | .FEED_TLIM_TJ_WARN => ⟨.FEED, 0x34, 8, 8, .RW, .AON, 125, 1, 0, some (80, 175)⟩
  | .FEED_TLIM_TS_TRIP => ⟨.FEED, 0x34, 16, 8, .RW, .AON, 140, 1, 0, some (80, 175)⟩
  | .FEED_TLIM_TREF => ⟨.FEED, 0x34, 24, 8, .RW, .AON, 85, 1, 0, none⟩
  | .FEED_RTH1 => ⟨.FEED, 0x38, 0, 24, .RW, .AON, 1000, 1, 0, some (1, 1000000)⟩
  | .FEED_RTH2 => ⟨.FEED, 0x3c, 0, 24, .RW, .AON, 2000, 1, 0, some (1, 1000000)⟩
  | .FEED_RTH3 => ⟨.FEED, 0x40, 0, 24, .RW, .AON, 30000, 1, 0, some (1, 1000000)⟩
  | .FEED_CTH1 => ⟨.FEED, 0x44, 0, 24, .RW, .AON, 10, 1, 0, some (1, 10000000)⟩
  | .FEED_CTH2 => ⟨.FEED, 0x48, 0, 24, .RW, .AON, 200, 1, 0, some (1, 10000000)⟩
  | .FEED_CTH3 => ⟨.FEED, 0x4c, 0, 24, .RW, .AON, 2000, 1, 0, some (1, 10000000)⟩
  | .FEED_NTC_NTC_RNOM => ⟨.FEED, 0x50, 0, 16, .RW, .AON, 10000, 1, 0, none⟩
  | .FEED_NTC_NTC_BETA => ⟨.FEED, 0x50, 16, 16, .RW, .AON, 3435, 1, 0, none⟩
  | .FEED_CNT_OC_CNT => ⟨.FEED, 0x54, 0, 8, .RC, .AON, 0, 1, 0, none⟩
  | .FEED_CNT_THERM_CNT => ⟨.FEED, 0x54, 8, 8, .RC, .AON, 0, 1, 0, none⟩
  | .FEED_CNT_REV_CNT => ⟨.FEED, 0x54, 16, 8, .RC, .AON, 0, 1, 0, none⟩
  | .FEED_CNT_INHERIT_CNT => ⟨.FEED, 0x54, 24, 8, .RC, .AON, 0, 1, 0, none⟩
  | .SHT_STAT_STATE => ⟨.SHUTTLE, 0x0, 0, 3, .RO, .AON, 0, 1, 0, none⟩
  | .SHT_STAT_PHYG => ⟨.SHUTTLE, 0x0, 4, 4, .RO, .AON, 15, 1, 0, none⟩
  | .SHT_STAT_TERM => ⟨.SHUTTLE, 0x0, 8, 8, .RO, .AON, 0, 1, 0, none⟩
  | .SHT_STAT_ATT => ⟨.SHUTTLE, 0x0, 16, 8, .RO, .AON, 0, 1, 0, none⟩
  | .SHT_EVT => ⟨.SHUTTLE, 0x4, 0, 11, .W1C, .AON, 0, 1, 0, none⟩
  | .SHT_ERR_XACT_ERR_CNT => ⟨.SHUTTLE, 0x8, 0, 16, .RC, .AON, 0, 1, 0, none⟩
  | .SHT_ERR_ISO_MISS_CNT => ⟨.SHUTTLE, 0x8, 16, 16, .RC, .AON, 0, 1, 0, none⟩
  | .SHT_XFER_XFER_CNT => ⟨.SHUTTLE, 0xc, 0, 32, .RC, .AON, 0, 1, 0, none⟩
  | .SHT_IDLE => ⟨.SHUTTLE, 0x10, 0, 13, .RW, .KEPT, 0, 8, 32, some (0, 6000)⟩
  | .SHT_SLOT_DEVICES => ⟨.SHUTTLE, 0x30, 0, 7, .RO, .LOST, 0, 8, 32, none⟩
  | .SHT_SLOT_TREE => ⟨.SHUTTLE, 0x30, 7, 2, .RO, .LOST, 0, 8, 32, none⟩
  | .SHT_SLOT_HUBS => ⟨.SHUTTLE, 0x30, 9, 7, .RO, .LOST, 0, 8, 32, none⟩
  | .SHT_SLOT_CONTEXTS => ⟨.SHUTTLE, 0x30, 16, 16, .RO, .LOST, 0, 8, 32, none⟩
  | .SHF_POOL_FREE => ⟨.SHF, 0x0, 0, 14, .RO, .AON, 16368, 1, 0, none⟩
  | .SHF_POOL_WAITING => ⟨.SHF, 0x0, 16, 12, .RO, .AON, 0, 1, 0, none⟩
  | .SHF_POOL_MIN_FREE_MIN => ⟨.SHF, 0x4, 0, 14, .RC, .AON, 16368, 1, 0, none⟩
  | .SHF_TKO_FROM => ⟨.SHF, 0x8, 0, 4, .RO, .AON, 15, 1, 0, none⟩
  | .SHF_TKO_TO => ⟨.SHF, 0x8, 4, 4, .RO, .AON, 15, 1, 0, none⟩
  | .SHF_TKO_PHYG => ⟨.SHF, 0x8, 8, 4, .RO, .AON, 15, 1, 0, none⟩
  | .SHF_TKO_TKO_CNT => ⟨.SHF, 0x8, 16, 16, .RO, .AON, 0, 1, 0, none⟩
  | .SHF_TKO_DT => ⟨.SHF, 0xc, 0, 64, .RO, .AON, 0, 1, 0, none⟩
  | .SHF_TKO_PAUSE_PAUSE_US => ⟨.SHF, 0x14, 0, 16, .RO, .AON, 0, 1, 0, none⟩
  | .SHF_TKO_PAUSE_PAUSE_MAX_US => ⟨.SHF, 0x14, 16, 16, .RO, .AON, 0, 1, 0, none⟩
  | .SHF_SHARE_BULK_16K => ⟨.SHF, 0x18, 0, 8, .RW, .AON, 16, 1, 0, some (1, 255)⟩
  | .SHF_SHARE_INTR_4K => ⟨.SHF, 0x18, 8, 8, .RW, .AON, 4, 1, 0, some (1, 255)⟩
  | .SHF_SHARE_ISO_MS => ⟨.SHF, 0x18, 16, 8, .RW, .AON, 32, 1, 0, some (4, 128)⟩
  | .SHF_PAGES_FREE_PAGES => ⟨.SHF, 0x1c, 0, 32, .RO, .AON, 0, 1, 0, none⟩
  | .DOM_REQ_STATE => ⟨.DOMAIN, 0x0, 0, 2, .WO, .AON, 0, 1, 0, none⟩
  | .DOM_STAT_STATE => ⟨.DOMAIN, 0x4, 0, 2, .RO, .AON, 2, 1, 0, none⟩
  | .DOM_STAT_TRANS => ⟨.DOMAIN, 0x4, 2, 1, .RO, .AON, 0, 1, 0, none⟩
  | .DOM_STAT_TARGET => ⟨.DOMAIN, 0x4, 3, 2, .RO, .AON, 2, 1, 0, none⟩
  | .DOM_STAT_PEND_VALID => ⟨.DOMAIN, 0x4, 5, 1, .RO, .AON, 0, 1, 0, none⟩
  | .DOM_STAT_PEND_STATE => ⟨.DOMAIN, 0x4, 6, 2, .RO, .AON, 0, 1, 0, none⟩
  | .DOM_STAT_FENCED => ⟨.DOMAIN, 0x4, 8, 1, .RO, .AON, 0, 1, 0, none⟩
  | .DOM_STAT_CLK_STOPPED => ⟨.DOMAIN, 0x4, 9, 1, .RO, .AON, 0, 1, 0, none⟩
  | .DOM_STAT_STEP => ⟨.DOMAIN, 0x4, 10, 3, .RO, .AON, 0, 1, 0, none⟩
  | .DOM_STAT_LAST_CAUSE => ⟨.DOMAIN, 0x4, 16, 3, .RO, .AON, 0, 1, 0, none⟩
  | .DOM_IDLE_IDLE_MS => ⟨.DOMAIN, 0x8, 0, 22, .RW, .AON, 0, 1, 0, some (0, 3600000)⟩
  | .DOM_IDLE_IDLE_STATE => ⟨.DOMAIN, 0x8, 22, 2, .RW, .AON, 0, 1, 0, some (0, 2)⟩
  | .DOM_TIME_LAST_US => ⟨.DOMAIN, 0xc, 0, 16, .RO, .AON, 0, 1, 0, none⟩
  | .DOM_TIME_MAX_US => ⟨.DOMAIN, 0xc, 16, 16, .RO, .AON, 0, 1, 0, none⟩
  | .DOM_CNT_RET_CNT => ⟨.DOMAIN, 0x10, 0, 16, .RC, .AON, 0, 1, 0, none⟩
  | .DOM_CNT_OFF_CNT => ⟨.DOMAIN, 0x10, 16, 16, .RC, .AON, 0, 1, 0, none⟩
  | .DOM_INFO_ALLOWED => ⟨.DOMAIN, 0x14, 0, 3, .RO, .AON, 0, 1, 0, none⟩
  | .DOM_INFO_LIST_BYTES => ⟨.DOMAIN, 0x14, 16, 16, .RO, .AON, 0, 1, 0, none⟩

/-- Every field, in the order of the constructors. -/
def Fld.all : List Fld := (List.range 439).map Fld.ofNat


/-- A field's value at reset. `SHT_STAT.PHYG` reads the Shuttle's own group at reset, 15 for the spare
(07_shuttle_engines.md R177); every other field has the one value of its field map. `u` is the unit, times the number
of elements of the field, plus the element. -/
def Fld.reset (f : Fld) (u : Nat) : Nat :=
  match f with
  | .SHT_STAT_PHYG => if u < 12 then u else 15
  | _ => f.info.rst

/-- The fields held by a skein's always-on section (16_start_up.md R372, 17_registers.md R391): the FEED and SKEIN
spaces, and PORT 0x000-0x037 and 0x100-0x10F. Every other field is on the loom die. -/
def Fld.onSkein (f : Fld) : Bool :=
  match f.info.space with
  | .FEED | .SKEIN => true
  | .PORT => f.info.off < 0x38 || (0x100 ≤ f.info.off && f.info.off < 0x110)
  | _ => false

/-- The 32-bit words a field takes: its first bit counted from offset 0 of its space. -/
def Fld.bitPos (f : Fld) (elem : Nat) : Nat := f.info.off * 8 + f.info.lo + elem * f.info.step

end Sys2Proof.Machine
end

