-- ==== Sys2Proof/Machine/Regs.lean ====
section
/-! DEFINITION. The register store: a list of the fields that differ from their reset value, in one canonical form
(keys strictly rising, no entry at its reset value, every value within its field's width), so that equal stores are
equal lists. -/

namespace Sys2Proof.Machine

/-- One stored field value: the field, the unit (times the field's element count, plus the element) and the value. -/
structure Cell where
  fld  : Fld
  unit : Nat
  val  : Nat
  deriving DecidableEq, Repr

/-- The order of the store: by field, then by unit. -/
def keyLt (f : Fld) (u : Nat) (g : Fld) (v : Nat) : Bool :=
  f.ctorIdx < g.ctorIdx || (f.ctorIdx == g.ctorIdx && u < v)

/-- The value of field `f` of unit `u`: the listed one, else the reset value. -/
def regGet : List Cell → Fld → Nat → Nat
  | [], f, u => f.reset u
  | c :: r, f, u => if c.fld = f ∧ c.unit = u then c.val else regGet r f u

/-- Insert or replace a cell in its place. -/
def regInsert : List Cell → Fld → Nat → Nat → List Cell
  | [], f, u, v => [⟨f, u, v⟩]
  | c :: r, f, u, v =>
    if c.fld = f ∧ c.unit = u then ⟨f, u, v⟩ :: r
    else if keyLt c.fld c.unit f u then c :: regInsert r f u v
    else ⟨f, u, v⟩ :: c :: r

/-- Remove the cell of a key. -/
def regErase : List Cell → Fld → Nat → List Cell
  | [], _, _ => []
  | c :: r, f, u => if c.fld = f ∧ c.unit = u then r else c :: regErase r f u

/-- Store the low bits of `v` in field `f` of unit `u`; a value equal to the reset value removes the entry. -/
def regSet (l : List Cell) (f : Fld) (u v : Nat) : List Cell :=
  let v := low f.info.width v
  if v = f.reset u then regErase l f u else regInsert l f u v

/-- One cell is in canonical form. -/
def cellWf (c : Cell) : Bool := c.val != c.fld.reset c.unit && c.val < 2 ^ c.fld.info.width

/-- The store is in canonical form. -/
def regWf : List Cell → Bool
  | [] => true
  | [c] => cellWf c
  | c :: d :: r => cellWf c && keyLt c.fld c.unit d.fld d.unit && regWf (d :: r)

end Sys2Proof.Machine
end

