-- ==== Sys2Proof/Machine/State.lean ====
section
/-! DEFINITION. The state of the block as plain data: every register field of the spec in `regs`, the waiting commands
in `pending`, and beside them what the spec gives the machine that no register shows (timers, queues, retained lists,
fuses, flash, the objects of the two data fabrics). -/

namespace Sys2Proof.Machine

/-- Why a command stops the block with a fault. -/
inductive Fault where
  /-- Raised by `PORST_N_RELEASE` with `valid = false`: the spec leaves the behaviour undefined until the next valid
  release (16_start_up.md R371). Safe: the model stops where the hardware may do anything. -/
  | undefinedRelease
  deriving DecidableEq, Repr

/-- Why a command has no meaning in the model. -/
inductive Refusal where
  /-- Raised by an arm of `exec` for a command whose meaning is not written; safe, the run ends there. -/
  | notModelled (mnemonic : String)
  deriving DecidableEq, Repr

/-- What names a command that is answered later, with its `NO_REPLY` flag (09_ecrax_protocol.md R211, R228). -/
structure ReqId where
  chan   : Chan
  tag    : Nat
  cls    : Nat
  opcode : Nat
  seq    : Nat
  quiet  : Bool := false
  deriving DecidableEq, Repr

/-- A reply of the device (09_ecrax_protocol.md R213). -/
structure Reply where
  chan    : Chan
  opcode  : Nat
  tag     : Nat
  cls     : Nat
  seq     : Nat
  dup     : Bool := false
  dev     : Nat
  status  : Nat
  results : List Nat := []
  deriving DecidableEq, Repr

/-- An entry of the command journal (09_ecrax_protocol.md R229). -/
structure JEntry where
  tag       : Nat
  opcode    : Nat
  chan      : Chan
  cls       : Nat
  status    : Nat
  committed : Bool
  run       : Bool := false
  discarded : Bool := false
  origin    : Nat
  seq       : Nat
  dt        : Nat
  deriving DecidableEq, Repr

/-- A device event record (09_ecrax_protocol.md R231); `detail` is bytes 18 to 27. -/
structure EvRec where
  cls    : Nat
  seq    : Nat
  dev    : Nat
  unit   : Nat
  dt     : Nat
  code   : Nat
  detail : List Nat
  deriving DecidableEq, Repr

/-- What the device keeps of the last packet accepted on a channel (09_ecrax_protocol.md R216), with the device that executes
it (R213); `status` is none while that packet waits or runs. -/
structure KeptPacket where
  seq    : Nat
  tag    : Nat
  opcode : Nat
  cls    : Nat
  status : Option Nat
  dev    : Nat
  deriving DecidableEq, Repr

/-- A packet a manager has forwarded to a worker and whose reply it waits for (R219). -/
structure Forwarded where
  pkt      : Packet
  worker   : Nat
  deadline : Nat
  bytes    : List Nat := []
  sent     : Bool := false
  deriving DecidableEq, Repr

/-- A packet received on a channel whose reply is due, in the order of arrival (09_ecrax_protocol.md R224); `done` once its
outcome is known, with the reply it then has, if any. `dup` is a retransmission, answered when its original ends (R216), and
`drop` says that the reset of its channel came while it executed, so that its reply is discarded (08_loom_function.md R206). -/
structure Await where
  id    : ReqId
  dup   : Bool := false
  done  : Bool := false
  drop  : Bool := false
  reply : Option Reply := none
  deriving DecidableEq, Repr

/-- Queues, journal and waiting answers of the Ecrax protocol (09_ecrax_protocol.md). `restartOf` is the `WARM_RESTART` whose
restart waits for its reply, and `restartOut` says that the last of the reply's segments are on their way (10_ecrax_opcodes.md
R242). `deferrals` are the forwarded packets that a worker has kept, newest last, for a later `PENDING_REPLACED` (R219, R228).
-/
structure Ecrax where
  kept     : List (Chan × KeptPacket) := []
  queue    : List Packet := []
  journal  : List JEntry := []
  loomOut  : List Reply := []
  mboxOut  : List Reply := []
  hierOut  : List Reply := []
  forwards : List Forwarded := []
  deferrals : List Forwarded := []
  evSeq    : Nat := 0
  loomEvts : List EvRec := []
  loomLost : Nat := 0
  mboxEvts : List EvRec := []
  mboxLost : Nat := 0
  hierEvts : List EvRec := []
  hierLost : Nat := 0
  ep2Out   : List EvRec := []
  faultLog : List EvRec := []
  staging  : List Nat := []
  restart  : Option Nat := none
  restartOf : Option ReqId := none
  restartOut : Bool := false
  awaits   : List Await := []
  snapBy   : Option ReqId := none
  measBy   : List (ReqId × Nat × Nat) := []
  mapBy    : List (ReqId × Nat × Nat) := []
  deriving DecidableEq, Repr

/-- The mailbox windows (09_ecrax_protocol.md R220, R221). `inWin` is the inbound window, bytes at 0x1000 + address;
`outWin` the bytes placed in the outbound window. -/
structure Mailbox where
  inWin   : List Host.Cell := []
  outWin  : List Nat := []
  deriving DecidableEq, Repr

/-- The saved retention list of a domain (13_power_domains.md R316): the KEPT fields it holds and its seal. -/
structure Saved where
  cells : List Cell
  count : Nat
  code  : Nat
  deriving DecidableEq, Repr

/-- What the domain controller keeps of one domain beside `DOM_STAT` (13_power_domains.md R311 to R318). -/
structure Dom where
  started  : Nat := 0
  fails    : Nat := 0
  stepEnd  : Nat := 0
  fromSt   : Nat := 2
  wakeBit  : Nat := 0
  pendBy   : Option ReqId := none
  pendCause : Nat := 0
  saved    : Option Saved := none
  saves    : Nat := 0
  idleFrom : Nat := 0
  clkAsk   : Bool := false
  pendWake : Nat := 0
  deriving DecidableEq, Repr

/-- The cause of a gecko bit that is set, with the class of the reaction it belongs to (14_faults_and_takeover.md R334 to
R336). -/
structure Gecko where
  src  : Nat
  kind : Nat
  cls  : Nat
  addr : Nat
  rcls : Nat := cls
  deriving DecidableEq, Repr

/-- An open reaction window (14_faults_and_takeover.md R335, R336). -/
structure Reaction where
  src    : Nat
  kind   : Nat
  cls    : Nat
  addr   : Nat
  coded  : Bool
  start  : Nat
  second : Nat := 255
  errs   : List Failure := []
  deriving DecidableEq, Repr

/-- A coded message not yet acknowledged by the collector (14_faults_and_takeover.md R330). -/
structure Coded where
  word  : Nat
  sends : Nat
  next  : Nat
  deriving DecidableEq, Repr

/-- The fault collector and the token arbiter (14_faults_and_takeover.md). A copy of the token record is 0 for no
holder, 1 for HALF-A, 2 for HALF-B. `skPairs` holds the skeins whose combined error pair has gone to 10 and awaits the
message that names its source, with the DT at which it did (R331); `notifyDue` says that the notification waits for these names
(R336), and `returned` is the DRAM channel to which the mirror is being copied (R347). -/
structure Faults where
  window   : Option Reaction := none
  causes   : List Gecko := []
  notices  : List (Nat × Nat) := []
  latch    : Bool := false
  aside    : List Nat := []
  coded    : List Coded := []
  skPairs  : List (Nat × Nat) := []
  lastHb   : Nat := 0
  missRun  : Nat := 0
  copies   : List Nat := [0, 0, 0]
  training : List (Nat × Nat) := []
  takeover : Option Nat := none
  refAbsentFrom : Option Nat := none
  notifyDue : Bool := false
  returned : Option Nat := none
  deriving DecidableEq, Repr

/-- The fuses (15_security_and_debug.md R352 to R358, R413): the transition rows, key hashes, revocation mask,
anti-rollback count and identity, with the 384 seed fuses of the identity key. -/
structure Otp where
  rowA     : Nat := 0
  rowB     : Nat := 0
  vrkh     : Nat := 0
  okh      : List Nat := [0, 0, 0]
  revoked  : Nat := 0
  arb      : Nat := 0
  seed     : Nat := 0
  seedValid : Bool := false
  destroyed : Bool := false
  vendorId : Nat := 0
  serial   : Nat := 0
  mipiId   : Nat := 0
  mfgCode  : Nat := 0
  trim     : Nat := 0
  deriving DecidableEq, Repr

/-- A challenge of the security engine (15_security_and_debug.md R358, R252). -/
structure Chal where
  value   : Nat
  purpose : Nat
  arg     : Nat
  issued  : Nat
  deriving DecidableEq, Repr

/-- The security engine, the secret region and the debug access port (15_security_and_debug.md): `scan` says that a
boundary-scan instruction which drives pins is in force, `dbgError` that the debugger's last access ended with an error
response, and `dataWords` the words a debugger has written to data memories, by domain and address (R367). -/
structure Sec where
  otp      : Otp := {}
  chal     : Option Chal := none
  sealKey  : Nat := 0
  imgDigest : Nat := 0
  profDigest : Nat := 0
  otpSlot  : Nat := 0
  otpData  : Nat := 0
  halted   : Nat := 0
  unlockBy : Option ReqId := none
  tap      : Bool := false
  secretUpset : Bool := false
  scan     : Bool := false
  dbgError : Bool := false
  dataWords : List (Nat × Nat × Nat) := []
  deriving DecidableEq, Repr

/-- One image slot of the boot flash (15_security_and_debug.md R359, R253): its bytes, the state code of `FW_STATUS`. -/
structure Slot where
  bytes : List Nat := []
  state : Nat := 0
  deriving DecidableEq, Repr

/-- The boot flash (09_ecrax_protocol.md R232, 15_security_and_debug.md R359). An empty list is a blank region. -/
structure Flash where
  record   : List Nat := []
  slots    : List Slot := [{}, {}]
  profiles : List (List Nat) := [[], []]
  deriving DecidableEq, Repr

/-- What the D+ and D− of a downstream port are joined to (05_port_lifecycle.md R106, 04_port_power.md R95). -/
inductive DataLines where
  | opened | dcp | cdp | hub | shuttle
  deriving DecidableEq, Repr

/-- The states of the DFU function of the boot ROM (16_start_up.md R379, R380). -/
inductive Dfu where
  | off | recovery | idle | dnload | manifestWait | error
  deriving DecidableEq, Repr

/-- The start-up sequence (16_start_up.md R374 to R381) and the hitless update (14_faults_and_takeover.md R345).
`base` is the DT from which the running start counts its steps. -/
structure Boot where
  running   : Bool := true
  warm      : Bool := false
  copyLost  : Bool := false
  base      : Nat := 0
  waitWarm  : Bool := false
  refLocked : Bool := false
  otpRead   : Bool := false
  dramInit  : Bool := false
  tried     : List Nat := []
  imageOk   : Bool := false
  booted    : List Bool := [false, false]
  asked     : List Bool := [false, false]
  firstAsk  : Option Nat := none
  selfTest  : Bool := false
  dfu       : Dfu := .off
  dfuImg    : List Nat := []
  working   : List Nat := []
  versions  : List Nat := [0, 0]
  verified  : Bool := false
  phase     : Nat := 0
  phaseFrom : Nat := 0
  updated   : Bool := false
  flash     : Flash := {}
  deriving DecidableEq, Repr

/-- The levels of the loom die's control pins (02_package_and_balls.md R39 to R48): whether a `WARM_N` low holds the die in
the reset of the warm restart that it started, whether the straps have their pulls and their input buffers, whether AVSBus has
carried a request and the flash interface is configured, and whether the 32.768 kHz crystal was given up in this power cycle
(R51). -/
structure Pins where
  porstLow   : Bool := false
  warmLow    : Bool := false
  warmHolds  : Bool := false
  aonFresh   : Bool := false
  strapPulls : Bool := true
  strapIn    : Bool := true
  xspiResetN : Bool := false
  avsUsed    : Bool := false
  xspiUsed   : Bool := false
  faultN     : Bool := true
  dbgEn      : Bool := false
  xtalGone   : Bool := false
  deriving DecidableEq, Repr

/-- The upstream connection (05_port_lifecycle.md R122, R123): the end of the hold-off, a `CONNECT` kept through it, and
whether the pull-up and the terminations are applied. -/
structure Upstream where
  holdUntil : Option Nat := none
  deferred  : Bool := false
  deferBy   : Option ReqId := none
  applied   : Bool := false
  ssApplied : Bool := false
  deriving DecidableEq, Repr

/-- The management-port target (17_registers.md R382 to R384): the pointer, and whether it has passed the last word of
its block; `out` is what the last read transfer or GET CCC sent. -/
structure Mgmt where
  pointer : Nat := 0
  past    : Bool := false
  dynAddr : Option Nat := none
  mwl     : Nat := 4100
  mrl     : Nat := 4100
  ibiEn   : Bool := false
  ibi     : Option Nat := none
  lastAnd : Bool := false
  sclHeld : Bool := false
  nacked  : Bool := false
  busy    : Bool := false
  out     : List Nat := []
  deriving DecidableEq, Repr

/-- A high word latched by a path's read of a 64-bit register's low word (17_registers.md R394), or the low word a
path has written and not yet applied (`write`). -/
structure Shadow where
  path  : Path
  fld   : Fld
  unit  : Nat
  write : Bool
  bank  : Bool
  word  : Nat
  deriving DecidableEq, Repr

/-- The four ways a word is written (17_registers.md R387). -/
inductive WMode where
  | write | setBits | clearBits | toggle
  deriving DecidableEq, Repr

/-- An access that a window will make when it completes: a fetch of, or a write to, an `IND_ADDR` value. -/
inductive WinAct where
  | fetch (a : Nat)
  | write (m : WMode) (a data : Nat)
  deriving DecidableEq, Repr

/-- An access of an indirect window in progress (17_registers.md R390, R391). -/
structure WinOp where
  path  : Path
  start : Nat
  bound : Nat
  fetch : Bool
  word  : Nat
  res   : Nat
  later : Option WinAct := none
  deriving DecidableEq, Repr

/-- Snapshots (17_registers.md R395, R396): the DT to latch at, the fields latched and the skeins left out by a capture
that runs, and the fields of the last complete one. -/
structure Snap where
  latchAt : Nat := 0
  latched : Bool := false
  taken   : List Cell := []
  lost    : Nat := 0
  bank    : List Cell := []
  deriving DecidableEq, Repr

/-- What a feed controller keeps beside its registers (03_feeds.md R55 to R78): the state to which `LIMIT` returns, the
start of the timers, whether `SKkf_CDLY` is at or above 0.4 V, the nodes of the thermal ladder in nano-°C, the sums of
the running 1 ms window and the remainder of the energy counter in units of 10 pJ; whether VIN has qualified; of the
last trip its skein tick, the state it left and the event bits it raised; and the skein tick of the last step that limited its
current or took it out of the conducting states (00_scope.md R15). -/
structure FeedH where
  prev      : Nat := 5
  limitFrom : Nat := 0
  inrushFrom : Nat := 0
  rail      : Bool := false
  gateOff   : Nat := 0
  onFrom    : Nat := 0
  deferBy   : Option ReqId := none
  cdlyHigh  : Bool := false
  charging  : Bool := false
  testing   : Bool := false
  inputLost : Bool := false
  vin       : Nat := 0
  t1        : Int := 85000000000
  t2        : Int := 85000000000
  t3        : Int := 85000000000
  warned    : Bool := false
  eRem      : Nat := 0
  n         : Nat := 0
  vinSum    : Nat := 0
  vdsSum    : Int := 0
  iSum      : Int := 0
  pSum      : Int := 0
  vinAvg    : Nat := 0
  unread    : Nat := 0
  qualified : Bool := false
  tripTick  : Option Nat := none
  tripFrom  : Nat := 0
  tripBits  : List Nat := []
  testFrom  : Nat := 0
  cutTick   : Option Nat := none
  deriving DecidableEq, Repr

/-- What a skein die keeps beside its registers: power, the hold line and the link, the configuration check that runs, one due
after a training, and whether the last one failed (01_architecture.md R18, 14_faults_and_takeover.md R338), the settle
window (03_feeds.md R68), the budget logic's shed hold and headroom time (04_port_power.md R99, R101). -/
structure SkeinH where
  powered    : Bool := false
  holdLine   : Bool := true
  linkSilent : Bool := true
  checkFrom  : Option Nat := none
  checkDue   : Bool := false
  checkFailed : Bool := false
  settleFrom : Option Nat := none
  railOk     : Bool := false
  vSum       : Nat := 0
  n          : Nat := 0
  passDue    : Bool := false
  shedHold   : Option Nat := none
  headroom   : Option Nat := none
  headStep   : Int := 0
  window     : Nat := 0
  iWin       : Int := 0
  deriving DecidableEq, Repr

/-- Enumeration request in progress (07_shuttle_engines.md R154), in the order in which they are made. -/
inductive EnumReq where
  | dev8 | setAddress | devFull | cfgHead | cfgFull | bos | string0 | manufacturer | product | serial | hubSetup
  deriving DecidableEq, Repr

/-- A stage of a device's enumeration (07_shuttle_engines.md R154). -/
inductive EnumStage where
  | reset | recovery | request (r : EnumReq) | addrWait | powerWait | step7 | retryWait | poolWait | failed | rejected
  | done | restore
  deriving DecidableEq, Repr

/-- A weft record (08_loom_function.md R184). `askAck` marks a stored host record whose completion is acknowledged: the last of
its burst, or one that has been sent again (R192, R194). -/
structure WRec where
  handle : Nat
  typ    : Nat
  flags  : Nat := 0
  seq    : Nat := 0
  burst  : Nat := 0
  bcount : Nat := 0
  status : Nat := 0
  dtLow  : Nat := 0
  data   : List Nat := []
  askAck : Bool := false
  deriving DecidableEq, Repr

/-- A device of a port's tree (07_shuttle_engines.md R154 to R159): its port and route string, the EP0 contexts of itself and
its parent, its enumeration and its cached descriptors; whether the Shuttle has enabled its remote wake (R171); a SETUP record
that waits with the configuration descriptors read for it (R156, R174), and whether it waits for contexts that this device's
own are to free (`swap`); of a hub the configuration and alternate setting the Shuttle has selected, the ports it has powered,
and the last `ClearTTBuffer` it sent as hub port, address and endpoint (R154 step 6, R158). -/
structure Dev where
  port    : Nat
  route   : Nat := 0
  tier    : Nat := 1
  hubPort : Nat := 0
  ep0     : Nat := 0x3FFF
  parent  : Nat := 0x3FFF
  conn    : Nat := 0
  addr    : Nat := 0
  speed   : Nat := 0
  stage   : EnumStage := .reset
  since   : Nat := 0
  attempt : Nat := 0
  tries   : Nat := 0
  need    : Nat := 0
  reserved : Nat := 0
  waiting : Bool := false
  status  : Nat := 0
  devDesc : List Nat := []
  config  : List Nat := []
  altConfig : List Nat := []
  bos     : List Nat := []
  strings : List (Option (List Nat)) := [none, none, none]
  lang    : Nat := 0
  truncated : Bool := false
  alts    : List (Nat × Nat) := []
  errors  : Nat := 0
  rwakeOn : Bool := false
  later   : Option (WRec × List Nat) := none
  swap    : Bool := false
  cfgVal  : Nat := 0
  hubAlt  : Nat := 0
  powered : List Nat := []
  ttClear : Option (Nat × Nat × Nat) := none
  deriving DecidableEq, Repr

/-- An endpoint context (07_shuttle_engines.md R162, 08_loom_function.md R190 to R200), with the host records stored and not
complete and the device records not acknowledged, oldest first; of those the first `old` are of an earlier opening of the
handle (R190), the first `high` have been sent, and sending goes on at `sent`; `unformed` records wait for the host's
acknowledgements (R190). `ackDt` is the DT at which record `rxAck` was complete; `burstPos` is how many records of the burst
`burstIn` have come, `doneBurst` and `doneCnt` are the burst of the last record complete and its count (R192). `outDue` is the
OUT credit limit that free pages may hold back, and `debt` what a lowered share withholds from it (R196). A move to another
lane is (the lane it leaves, the number of its `LANE_MOVED` record) until that record has been sent (R189). `split` says that
the hub whose transaction translator serves the endpoint has taken a start split (07_shuttle_engines.md R147). -/
structure Ctx where
  num      : Nat
  port     : Nat := 255
  addr     : Nat := 0
  epAddr   : Nat := 0
  typ      : Nat := 0
  speed    : Nat := 0
  mps      : Nat := 0
  interval : Nat := 0
  route    : Nat := 0
  devEp0   : Nat := 0x3FFF
  parent   : Nat := 0x3FFF
  ttPort   : Nat := 0
  wake     : Bool := false
  hub      : Bool := false
  rwake    : Bool := false
  halted   : Bool := false
  xstate   : Nat := 0
  toggle   : Nat := 0
  xferLen  : Nat := 0
  xferDone : Nat := 0
  outSeq   : Nat := 0
  epoch    : Nat := 0
  underrun : Nat := 0
  share    : Nat := 0
  used     : Nat := 0
  nextPoll : Nat := 0
  xfers    : Nat := 0
  bytes    : Nat := 0
  errors   : Nat := 0
  isOpen   : Bool := false
  closing  : Bool := false
  rxNext   : Nat := 0
  rxAck    : Nat := 65535
  txNext   : Nat := 0
  txAck    : Nat := 65535
  burstIn  : Nat := 0
  burstPos : Nat := 0
  burstOut : Nat := 0
  lane     : Nat := 0
  moves    : List (Nat × Nat) := []
  unlimited : Bool := false
  outLimit : Nat := 0
  outRecv  : Nat := 0
  outSent  : Nat := 0
  inLimit  : Nat := 0
  inSent   : Nat := 0
  inRead   : Nat := 0
  setup    : List Nat := []
  partData : List Nat := []
  recOff   : Nat := 0
  errRun   : Nat := 0
  stored   : List WRec := []
  recs     : List WRec := []
  sent     : Nat := 0
  high     : Nat := 0
  old      : Nat := 0
  unformed : List WRec := []
  ackDt    : Nat := 0
  doneBurst : Nat := 0
  doneCnt  : Nat := 0
  outDue   : Nat := 0
  debt     : Nat := 0
  split    : Bool := false
  deriving DecidableEq, Repr

/-- A lane of the Loom function (08_loom_function.md R182, R202, R205): the records of its OUT buffer not yet checked,
the handles already refused in that transfer, the staged ACK and CREDIT records, the handles whose ACK and CREDIT are to
be regenerated, and the cause of a `RESYNC` due; its IN buffer once it has passed to the link, and the bytes of the last
IN transfer and whether a zero-length packet ended it (R183). -/
structure LaneH where
  inbox   : List WRec := []
  refused : List Nat := []
  acks    : List WRec := []
  regen   : List Nat := []
  resync  : Nat := 0
  rr      : Nat := 0
  inBuf   : List WRec := []
  out     : List Nat := []
  zlp     : Bool := false
  deriving DecidableEq, Repr

/-- The Loom function and the terminated fabric (07_shuttle_engines.md, 08_loom_function.md). `pages` is the number of
store-and-forward pages of one DRAM channel (07_shuttle_engines.md R164). `schedule` holds the open
contexts in the order in which firmware added them to the schedules in DRAM (R146 to R148), `copies` the contexts as they
were last written back to each DRAM channel (R162). `u3Exit` is a U3 exit of the host that runs, `ownExit` one of the device
(08_loom_function.md R209); `ep0` is the packet in the EP0 buffer (R181). -/
structure Loom where
  lanes     : List LaneH := List.replicate 9 {}
  ctxs      : List Ctx := []
  devs      : List Dev := []
  lastAlloc : Nat := 0x000F
  cfgCount  : Nat := 0
  u3Exit    : Bool := false
  ownExit   : Bool := false
  ep0       : List Nat := []
  notifyAt  : Option Nat := none
  idleFrom  : Nat := 0
  dramUp    : Bool := false
  lostChan  : Nat := 0
  fromReset : Bool := true
  pages     : Nat := 0
  schedule  : List Nat := []
  copies    : List (List Ctx) := [[], []]
  deriving DecidableEq, Repr

/-- A Shuttle (07_shuttle_engines.md R143, R168, R170): the last microframe it served, the DT of its last SOF, and a move
in progress: its start, the Shuttle the group comes from, whether the state is loaded, whether it is a return. Its SRAM
(R146): the contexts of the schedule window, those in the cache for the microframe that runs (`cache`) and those fetched for
the one after it (`next`), the packet staged for each slot and the first bytes of the one after it (`ahead`); the contexts
put off in this microframe, and how many in the frame that runs (R149). -/
structure ShutH where
  lastMf   : Nat := 0
  lastSof  : Nat := 0
  moveFrom : Option Nat := none
  from_    : Nat := 15
  loaded   : Bool := false
  back     : Bool := false
  confirm  : Bool := false
  window   : List Nat := []
  cache    : List Nat := []
  next     : List Nat := []
  staging  : List (List Nat) := List.replicate 8 []
  ahead    : List (List Nat) := List.replicate 8 []
  put      : List Nat := []
  fetched  : Nat := 0
  deferFrame : Nat := 0
  deferCnt : Nat := 0
  deriving DecidableEq, Repr

/-- A split transaction held by a transaction translator (06_transparent_hub.md R134): the device address and endpoint it
names, and its bytes. -/
structure Split where
  dev  : Nat
  ep   : Nat
  data : List Nat
  deriving DecidableEq, Repr

/-- A transaction translator (R134): up to four non-periodic buffers of at most 64 bytes, the periodic pipeline of four
microframes of up to 188 bytes each, and whether `StopTT` has halted it (R136). What its 16 bytes of state hold the spec does
not say: the tags of the splits and the stop flag stand for them (DESIGN CHOICE, notes/assumptions/142.md). -/
structure Tt where
  bufs    : List Split := []
  pipe    : List (List Split) := [[], [], [], []]
  stopped : Bool := false
  deriving DecidableEq, Repr

/-- What a port keeps beside its registers: its switch and protection (04_port_power.md R83 to R88), its advertisement and
compliance checks (R94 to R102), its meter (R103), its attach and mode change (05_port_lifecycle.md R109 to R118), its hub
port (06_transparent_hub.md R131) with the change bits of `wPortChange` and its transaction translator, and its bus under a
Shuttle: the last SOF or keep-alive, the frame number of the last SOF, and whether a move interrupts them
(07_shuttle_engines.md R145, R168), the control and bulk handles served in the present round, the handles that have passed
their turn in the present microframe, and the bus time that periodic service has taken in the microframe or frame `perSlot`
(R147). -/
structure PortH where
  prev      : Nat := 3
  ssFrom    : Nat := 0
  limitFrom : Nat := 0
  offFrom   : Nat := 0
  discharge : Bool := false
  backfeed  : Bool := false
  ccOver    : Bool := false
  retryFrom : Nat := 0
  retryDone : Bool := false
  thermal   : Bool := false
  onFrom    : Nat := 0
  deferBy   : Option ReqId := none
  trTick    : Option Nat := none
  trFrom    : Nat := 0
  trBits    : List Nat := []
  cutTick   : Option Nat := none
  poles     : List Int := [0, 0, 0]
  tj        : Int := 250
  valley    : Option Int := none
  peak      : Int := 0
  armed     : Bool := false
  eRem      : Nat := 0
  onRem     : Nat := 0
  attAt     : Nat := 0
  n         : Nat := 0
  vSum      : Nat := 0
  iSum      : Int := 0
  iWin      : Int := 0
  winEnd    : Nat := 0
  grant     : Nat := 0
  cap       : Option Nat := none
  nextRp    : Option Nat := none
  tc        : Option Nat := none
  checked   : Bool := false
  imposed   : Option Nat := none
  pattern   : CcPat := .opened
  debFrom   : Nat := 0
  debLine   : Bool := false
  debCur    : Bool := false
  rpAt      : Option Nat := none
  held      : Bool := false
  qualFrom  : Nat := 0
  qualMs    : Nat := 50
  ovr       : Bool := false
  pendBy    : Option ReqId := none
  detaching : Bool := false
  fabric    : Nat := 0
  afterAtt  : Nat := 0
  cycling   : Bool := false
  cycled    : Bool := false
  restart   : Bool := false
  enumStatus : Nat := 0
  gate      : Bool := false
  pullup    : Bool := false
  hpReset   : Option Nat := none
  hpEnable  : Bool := false
  hpSusp    : Bool := false
  hpL1      : Bool := false
  hpTest    : Nat := 0
  hpSpeed   : Nat := 0
  hpChange  : Nat := 0
  hpResume  : Option Nat := none
  tt        : Tt := {}
  tree      : Nat := 0
  treeFrom  : Nat := 0
  treeAct   : Nat := 0
  treeCause : Nat := 0
  treeRec   : Bool := false
  lastSof   : Nat := 0
  paused    : Bool := false
  served    : List Nat := []
  passed    : List Nat := []
  frame     : Nat := 0
  perSlot   : Nat := 0
  perNs     : Nat := 0
  deriving DecidableEq, Repr

/-- The USB 2.0 hub beside its registers (06_transparent_hub.md R137 to R140); `wakeOf` is the hub port
whose wake the hub has still to signal upstream (R138); `stalled` and `data` are its answer to the host's last request. -/
structure HubH where
  suspFrom  : Nat := 0
  fromState : Nat := 0
  resume    : Bool := false
  driving   : Bool := false
  p97Change : Nat := 0
  wakeOf    : Option Nat := none
  stalled   : Bool := false
  data      : List Nat := []
  deriving DecidableEq, Repr

/-- An entry of a CAN receive FIFO (11_can_controllers.md R270). -/
structure RxEntry where
  frame : CanFrame
  stamp : Nat
  filt  : Nat
  deriving DecidableEq, Repr

/-- A CAN controller beside its registers: its FIFO, the choice in force, the aborts that wait for the frame on the bus,
a requested use, the LONE state's start and the last window it passed, the DT at which the attempt on the bus started, and
the pops of this clock cycle already taken (11_can_controllers.md R262 to R272). -/
structure CanH where
  fifo    : List RxEntry := []
  abortOf : List Nat := []
  newUse  : Option Nat := none
  loneAt  : Nat := 0
  loneWin : Nat := 0
  recover : Bool := false
  flush   : Bool := false
  sof     : Nat := 0
  popped  : Nat := 0
  intKept : Bool := false
  deriving DecidableEq, Repr

/-- A member of the hierarchy as its manager knows it (12_hierarchy.md R285, R295). -/
structure Member where
  idx    : Nat
  rank   : Nat := 63
  absent : Bool := false
  last   : Nat := 0
  budget : List Nat := List.replicate 8 0
  loan   : List Nat := List.replicate 8 0
  want   : List Nat := List.replicate 8 0
  target : List Nat := List.replicate 8 0
  gen    : Nat := 0
  sentAt : Option Nat := none
  sentMask : Nat := 0
  sent   : List Nat := List.replicate 8 0
  elig   : Bool := false
  draw   : List Nat := List.replicate 8 0
  deriving DecidableEq, Repr

/-- A packet in transfer over the hierarchy, by sender, direction and class (R291, R292). -/
structure Segs where
  reply : Bool
  src   : Nat
  cls   : Nat
  next  : Nat
  bytes : List Nat
  last  : Nat
  deriving DecidableEq, Repr

/-- A frame handed to a hierarchy controller (R282). -/
structure HOut where
  typ  : Nat
  prio : Nat
  dst  : Nat
  seg  : Nat := 0
  src  : Nat
  bus  : Nat
  data : List Nat
  deriving DecidableEq, Repr

/-- Firmware distribution, the manager's side and the worker's (R303 to R305). -/
structure FwDist where
  sending : Bool := false
  round   : Nat := 0
  endAt   : Nat := 0
  missing : List Nat := []
  waiting : List Nat := []
  ended   : Bool := false
  gather  : Bool := false
  count   : Nat := 0
  len     : Nat := 0
  crc     : Nat := 0
  version : Nat := 0
  cur     : Nat := 0
  curLen  : Nat := 0
  curCrc  : Nat := 0
  segs    : List (Nat × List Nat) := []
  chunks  : List (Nat × List Nat) := []
  rounds  : Nat := 0
  writing : Bool := false
  deaf    : Bool := false
  deriving DecidableEq, Repr

/-- The hierarchy (12_hierarchy.md). `st` is the state of `HIER_STATUS` byte 0; none outside a hierarchy (R279). -/
structure Hier where
  st        : Option Nat := none
  tj        : Nat := 0
  tL        : Nat := 0
  listened  : Bool := false
  rank      : Nat := 63
  barred    : Bool := false
  leave     : Nat := 0
  memMask   : Nat := 0
  heard     : Bool := false
  electOn   : Bool := false
  frames    : Bool := false
  candidate : Bool := false
  conflict  : Bool := false
  mgr       : Nat := 255
  mgrIsland : Bool := false
  active    : Nat := 0
  hbSeq     : Nat := 0
  lastHb    : Nat := 0
  hbSent    : Nat := 0
  hbTick    : Nat := 0
  elections : Nat := 0
  members   : List Member := []
  busLast   : List Nat := [0, 0]
  wsTick    : Nat := 0
  tsTick    : Nat := 0
  tsSeq     : Nat := 0
  tsSent    : List (Option Nat) := [none, none]
  tsStamp   : List (Option (Nat × Nat)) := [none, none]
  aDiff     : Option Int := none
  delays    : List Int := []
  joinFollow : Bool := false
  dreqAt    : Option Nat := none
  dreqSeq   : Nat := 0
  dreqStamp : Option Nat := none
  lastFollow : Nat := 0
  good      : Nat := 0
  slew      : Int := 0
  slewFrom  : Nat := 0
  slewDone  : Nat := 0
  lastFseq  : Option Nat := none
  poolGen   : Nat := 0
  caps      : List Nat := List.replicate 16 0
  poolOf    : List (Nat × Nat × Nat) := []
  poolSegs  : List (Nat × List Nat) := []
  poolSrc   : Nat := 255
  poolAt    : Nat := 0
  loanTick  : Nat := 0
  lendFrom  : Nat := 0
  loanGen   : Nat := 0
  ownTarget : List Nat := List.replicate 8 0
  lowAt     : Nat := 0
  segs      : List Segs := []
  fw        : FwDist := {}
  tx        : List HOut := []
  deriving DecidableEq, Repr

/-- The machine. -/
structure State where
  regs    : List Cell := []
  dt      : Nat := 0
  stepped : Nat := 0
  epoch   : Nat := 0
  dtFrac  : Nat := 0
  slowPhase : Nat := 0
  slowDue : Bool := false
  freeCtr : Nat := 0
  pending : List Instr := []
  pins    : Pins := {}
  boot    : Boot := {}
  ecx     : Ecrax := {}
  mbox    : Mailbox := {}
  doms    : List Dom := List.replicate 42 {}
  flt     : Faults := {}
  sec     : Sec := {}
  mgmt    : Mgmt := {}
  shadows : List Shadow := []
  winOps  : List WinOp := []
  lastRead : Nat := 0
  snap    : Snap := {}
  up      : Upstream := {}
  avsTries : Nat := 0
  avsFrom : Nat := 0
  avsAt : Option Nat := none
  feeds   : List FeedH := List.replicate 16 {}
  ports   : List PortH := List.replicate 96 {}
  skeins  : List SkeinH := List.replicate 8 {}
  loom    : Loom := {}
  shuts   : List ShutH := List.replicate 13 {}
  hub     : HubH := {}
  cans    : List CanH := List.replicate 2 {}
  hier    : Hier := {}
  measBase : Nat := 0
  measShift : Nat := 0
  measDt  : Nat := 0
  porstNs : Nat := 0
  deriving DecidableEq, Repr

/-- The block right after a valid `PORST_N` release with the straps at their pulls (02_package_and_balls.md R46, R47):
DT 0 (00_scope.md R10), every register at its reset value, `MGR_ELIG` strapped 1, skein dies unpowered, empty queues
(notes/assumptions/1.md, 2.md). -/
def State.reset : State := {}

/-- The device is a worker of a hierarchy (12_hierarchy.md R284). -/
def State.isWorker (s : State) : Bool := s.hier.st == some 0

/-- The device has, or is about to have, a manager to send its events to: a worker, in an election too
(12_hierarchy.md R288, R293). -/
def State.hasManager (s : State) : Bool := s.isWorker || s.hier.st == some 4

/-- A downstream handle is open (13_power_domains.md R309, the DRAM domain). -/
def State.handlesOpen (s : State) : Bool := s.loom.ctxs.any (fun c => 16 ≤ c.num && c.isOpen)

/-- A record of some handle is stored and not complete, or not acknowledged (R309). -/
def State.recordsHeld (s : State) : Bool := s.loom.ctxs.any (fun c => !c.stored.isEmpty || !c.recs.isEmpty)

end Sys2Proof.Machine
end

