-- ==== Sys2Proof/Machine/Ops.lean ====
section
/-! DEFINITION. The named operations over the state that every family uses: reading and writing a register field,
counters and event bits, free values, event records, the journal and the replies of the Ecrax protocol. -/

namespace Sys2Proof.Machine

/-- 1 for true, 0 for false. -/
def b2n (b : Bool) : Nat := if b then 1 else 0

/-! ### The inbound mailbox window: bytes by address, an unlisted byte reading 0 -/

/-- The byte at address `a`. -/
def Memory.get (m : List Host.Cell) (a : Nat) : Nat := ((m.find? (fun c => c.1 == a)).map (fun c => c.2.toNat)).getD 0

/-- Store the low byte of `v` at address `a`, in the canonical form. -/
def Memory.put (a v : Nat) : List Host.Cell → List Host.Cell
  | [] => if v % 256 == 0 then [] else [(a, BitVec.ofNat 8 v)]
  | c :: r =>
    if c.1 < a then c :: Memory.put a v r
    else if c.1 == a then (if v % 256 == 0 then r else (a, BitVec.ofNat 8 v) :: r)
    else if v % 256 == 0 then c :: r else (a, BitVec.ofNat 8 v) :: c :: r

/-- The canonical form: addresses strictly rising, no byte 0 listed. -/
def Memory.wf : List Host.Cell → Bool
  | [] => true
  | [c] => c.2 != 0
  | c :: d :: r => c.2 != 0 && decide (c.1 < d.1) && Memory.wf (d :: r)

/-- Store bytes at rising addresses from `a`. -/
def Memory.putAll (a : Nat) : List Nat → List Host.Cell → List Host.Cell
  | [], m => m
  | v :: r, m => Memory.putAll (a + 1) r (Memory.put a v m)

/-! ### Register fields -/

/-- The value of field `f` of unit `u`. -/
def State.get (s : State) (f : Fld) (u : Nat := 0) : Nat := regGet s.regs f u

/-- Store the low bits of `v` in field `f` of unit `u`. -/
def State.set (s : State) (f : Fld) (u v : Nat) : State := { s with regs := regSet s.regs f u v }

/-- Field `f` of unit `u` is not 0. -/
def State.flag (s : State) (f : Fld) (u : Nat := 0) : Bool := s.get f u != 0

/-- Store a truth value in a one-bit field. -/
def State.setB (s : State) (f : Fld) (u : Nat) (b : Bool) : State := s.set f u (b2n b)

/-- Add `n` to a counter field that holds at its largest value. -/
def State.count (s : State) (f : Fld) (u : Nat) (n : Nat := 1) : State :=
  s.set f u (satAdd (s.get f u) n (2 ^ f.info.width - 1))

/-- Add `n` to a counter field that wraps at its width. -/
def State.addTo (s : State) (f : Fld) (u n : Nat) : State := s.set f u (s.get f u + n)

/-- Set bit `i` of a field. -/
def State.setBit (s : State) (f : Fld) (u i : Nat) : State := s.set f u (bitOr (s.get f u) (2 ^ i))

/-- Return a field to its reset value. -/
def State.clear (s : State) (f : Fld) (u : Nat := 0) : State := s.set f u (f.reset u)

/-- Drop every stored field that `p` names: each returns to its reset value. -/
def State.resetRegs (s : State) (p : Cell → Bool) : State := { s with regs := s.regs.filter (fun c => !p c) }

/-! ### Free values -/

/-- The free value the next use takes (notes/assumptions/3.md). -/
def State.freeVal (s : State) : Nat := Config.freeValue s.freeCtr

/-- Advance to the next free value. -/
def State.useFree (s : State) : State := { s with freeCtr := s.freeCtr + 1 }

/-- Time since the machine started: the skein dies run their own timers on it, through a restart of DT and while
`PORST_N` is low (01_architecture.md R18, 00_scope.md R10, 03_feeds.md R54). -/
def State.now (s : State) : Nat := s.epoch + s.dt + s.porstNs

/-- The skein tick of 1 µs that runs now (03_feeds.md R55, 04_port_power.md R83). -/
def State.skTick (s : State) : Nat := s.now / 1000

/-- Device Time: the count on which the timers run, and the steps that moved DT and every running timer alike
(12_hierarchy.md R302). -/
def State.clock (s : State) : Nat := s.dt + s.stepped

/-- DT as the skein dies count it: it goes on while `PORST_N` holds the loom die in reset (03_feeds.md R54;
notes/assumptions/5.md). -/
def State.skDt (s : State) : Nat := s.clock + s.porstNs

/-! ### Units -/

/-- The device's own index (02_package_and_balls.md R47). -/
def State.idx (s : State) : Nat := s.get .SYS_STRAP_IDX

/-- The skein of a port, a feed (01_architecture.md R31, 03_feeds.md R79). -/
def skeinOfPort (n : Nat) : Nat := n / 12
def skeinOfFeed (u : Nat) : Nat := u / 2
/-- The PHY group of a port (01_architecture.md R31). -/
def groupOfPort (n : Nat) : Nat := n / 8

/-- Domain numbers (13_power_domains.md R308). -/
def dCTL (h : Nat) : Nat := h
def dLOOM : Nat := 2
def dHUB : Nat := 3
def dPHY (j : Nat) : Nat := 4 + j
def dSH (j : Nat) : Nat := 16 + j
def dDRAM : Nat := 29
def dCAN (c : Nat) : Nat := 30 + c
def dSEC : Nat := 32
def dSKL (k : Nat) : Nat := 33 + k
def dMIF : Nat := 41

/-- A domain is ON and in no transition (13_power_domains.md R306). -/
def State.domOn (s : State) (d : Nat) : Bool :=
  s.get .DOM_STAT_STATE d == 0 && s.get .DOM_STAT_TRANS d == 0 && s.get .DOM_STAT_FENCED d == 0

/-- A domain is fenced (13_power_domains.md R314). -/
def State.domFenced (s : State) (d : Nat) : Bool := s.flag .DOM_STAT_FENCED d

def State.dom (s : State) (d : Nat) : Dom := s.doms.getD d {}
def State.modDom (s : State) (d : Nat) (f : Dom → Dom) : State := { s with doms := s.doms.modify d f }
def State.feed (s : State) (u : Nat) : FeedH := s.feeds.getD u {}
def State.modFeed (s : State) (u : Nat) (f : FeedH → FeedH) : State := { s with feeds := s.feeds.modify u f }
def State.port (s : State) (n : Nat) : PortH := s.ports.getD n {}
def State.modPort (s : State) (n : Nat) (f : PortH → PortH) : State := { s with ports := s.ports.modify n f }
def State.shut (s : State) (j : Nat) : ShutH := s.shuts.getD j {}
def State.modShut (s : State) (j : Nat) (f : ShutH → ShutH) : State := { s with shuts := s.shuts.modify j f }
def State.can (s : State) (c : Nat) : CanH := s.cans.getD c {}
def State.modCan (s : State) (c : Nat) (f : CanH → CanH) : State := { s with cans := s.cans.modify c f }
def State.lane (s : State) (l : Nat) : LaneH := s.loom.lanes.getD l {}
def State.modLane (s : State) (l : Nat) (f : LaneH → LaneH) : State :=
  { s with loom := { s.loom with lanes := s.loom.lanes.modify l f } }
def State.skein (s : State) (k : Nat) : SkeinH := s.skeins.getD k {}
def State.modSkein (s : State) (k : Nat) (f : SkeinH → SkeinH) : State := { s with skeins := s.skeins.modify k f }

/-- The half that leads: 0 HALF-A, 1 HALF-B (14_faults_and_takeover.md R339). -/
def State.lead (s : State) : Nat := s.get .FLT_TOKEN_HOLDER

/-- The gecko bit of a source is set. -/
def State.gecko (s : State) (src : Nat) : Bool := s.flag .FLT_GECKO src

/-- The source's gecko bit is set by an error that fences its unit: any but a broken pair and the losses of one
die-to-die lane (14_faults_and_takeover.md R329, R333, R334). -/
def State.unitFenced (s : State) (src : Nat) : Bool :=
  s.gecko src && s.flt.causes.any (fun g => g.src == src && g.kind != 0xF && g.kind != 0xA)

/-- The skein die exchanges nothing valid over its link (17_registers.md R392, 10_ecrax_opcodes.md R237): it is
unpowered, its link is silent, or its `LINK` fault stands. -/
def State.linkDead (s : State) (k : Nat) : Bool :=
  !(s.skein k).powered || (s.skein k).linkSilent || s.unitFenced (0x40 + k)

/-- The device is in safe hold (14_faults_and_takeover.md R348). -/
def State.safeHold (s : State) : Bool := s.flag .FLT_STAT_SAFE_HOLD

/-- `WARM_N` holds the loom die in reset: a low level that started a warm restart, or that a cold start waits for. A level
that is ignored holds nothing (02_package_and_balls.md R41, 16_start_up.md R381). -/
def State.warmReset (s : State) : Bool := s.pins.warmHolds || s.boot.waitWarm

/-- R18: what asserts the hold line: a reset of the loom die, safe hold, no half with the charge token. -/
def State.holdCause (s : State) : Bool :=
  s.pins.porstLow || s.warmReset || s.safeHold || !s.flag .FLT_TOKEN_VALID

/-- The device has reported ready (16_start_up.md R378). -/
def State.ready (s : State) : Bool := s.flag .MBOX_STAT_READY

/-- The lifecycle codes of 15_security_and_debug.md R352. -/
def State.lifecycle (s : State) : Nat := s.get .SEC_LC_STATE
def lcFACTORY : Nat := 0
def lcPROVISIONED : Nat := 1
def lcFIELD : Nat := 2
def lcRETURN : Nat := 3
def lcRETIRED : Nat := 4

/-! ### Event records (09_ecrax_protocol.md R231) -/

/-- A detail field of ten bytes from a list of (byte offset from 18, length, value). -/
def detailOf (fs : List (Nat × Nat × Nat)) : List Nat :=
  (List.range 10).map (fun i =>
    (fs.filterMap (fun f => if f.1 ≤ i ∧ i < f.1 + f.2.1 then some (f.2.2 / 256 ^ (i - f.1) % 256) else none)).headD 0)

/-- The 32 bytes of an event record, CRC included. -/
def EvRec.bytes (r : EvRec) : List Nat :=
  let b := [0x12, r.cls] ++ toLE 2 r.seq ++ [r.dev, 0] ++ toLE 2 r.unit ++ toLE 8 r.dt ++ toLE 2 r.code
    ++ (r.detail ++ List.replicate 10 0).take 10
  b ++ toLE 4 (crc32 b)

/-- Append to a queue of at most `cap` records: past it the oldest is dropped and counted. -/
def pushEv (cap : Nat) (q : List EvRec) (lost : Nat) (r : EvRec) : List EvRec × Nat :=
  if q.length < cap then (q ++ [r], lost) else (q.drop 1 ++ [r], lost + 1)

/-- Put an event record on every enabled path: the held-event queue of EP2 (08_loom_function.md R208), the mailbox
queue of 256 while `EVT_EN` is 1 or the device is not ready (R231, 16_start_up.md R378; notes/assumptions/10.md), the
worker's queue of 128 (12_hierarchy.md R293), and, for a fault, the log. -/
def State.placeEvent (s : State) (r : EvRec) : State :=
  let lq := pushEv 1024 s.ecx.loomEvts s.ecx.loomLost r
  let mq := if s.flag .MBOX_CFG_EVT_EN || !s.ready then pushEv 256 s.ecx.mboxEvts s.ecx.mboxLost r
    else (s.ecx.mboxEvts, s.ecx.mboxLost)
  let hq := if s.hasManager then pushEv 128 s.ecx.hierEvts s.ecx.hierLost r else (s.ecx.hierEvts, s.ecx.hierLost)
  { s with ecx := { s.ecx with
      loomEvts := lq.1, loomLost := lq.2, mboxEvts := mq.1, mboxLost := mq.2, hierEvts := hq.1, hierLost := hq.2,
      faultLog := if r.cls = 8 then s.ecx.faultLog ++ [r] else s.ecx.faultLog } }

/-- Form an event record of the device, which takes the next event sequence (R231), and place it by `put`. -/
def State.newEvent (s : State) (put : State → EvRec → State) (cls unit code : Nat) (detail : List Nat) : State :=
  let r : EvRec := { cls := cls, seq := s.ecx.evSeq, dev := s.idx, unit := unit, dt := s.clock, code := code, detail := detail }
  put { s with ecx := { s.ecx with evSeq := (s.ecx.evSeq + 1) % 65536 } } r

/-- The detail of a Loom event (10_ecrax_opcodes.md R255). -/
def State.loomDetail (s : State) (handle extra : Nat) : List Nat :=
  detailOf [(0, 1, s.get .LOOMS_STAT_RATE), (1, 1, s.get .LOOMS_STAT_LSTATE), (2, 4, handle), (6, 2, extra)]

/-- Deliver an event record. A held-event queue that overflows raises the Loom event of `LOOMS_EVT.EVQ_OVERFLOW`, behind the
record, where the bit was clear (08_loom_function.md R208, R210). -/
def State.deliverEvent (s : State) (r : EvRec) : State :=
  let t := s.placeEvent r
  if s.ecx.loomEvts.length < 1024 || bit (s.get .LOOMS_EVT) 10 then t
  else (t.setBit .LOOMS_EVT 0 10).newEvent State.placeEvent 7 0 10 (t.loomDetail 0 0)

/-- Form an event record and deliver it; a loom die held in reset forms none. -/
def State.formEvent (s : State) (cls unit code : Nat) (detail : List Nat) : State :=
  if s.pins.porstLow then s else s.newEvent State.deliverEvent cls unit code detail

/-- A Loom event of class 7 (08_loom_function.md R210). -/
def State.loomNote (s : State) (code : Nat) (handle : Nat := 0) (extra : Nat := 0) : State :=
  (s.setBit .LOOMS_EVT 0 code).formEvent 7 0 code (s.loomDetail handle extra)

/-- The Loom function is suspended: function suspend, U3, or USB 2.0 suspend (08_loom_function.md R207). -/
def State.loomSuspended (s : State) : Bool :=
  s.flag .LOOMS_STAT_FSUSP || s.get .LOOMS_STAT_LSTATE == 3 || (s.get .LOOMS_STAT_LSTATE == 4 && (s.loom.u3Exit || s.loom.ownExit))

/-- The Function Wake notification is sent, from U0 (08_loom_function.md R209); it is repeated every 2.5 s. -/
def State.notifyWake (s : State) : State :=
  let s := (s.set .LOOMS_STAT_LSTATE 0 0).set .HUBS_STAT_SS_STATE 0 1
  ({ s with loom := { s.loom with notifyAt := some (s.dt + 2500000000) } } : State).loomNote 5

/-- A wake of the Loom function on hub port 97 (08_loom_function.md R209, 06_transparent_hub.md R138, R139): absorbed in the
host's own resume, else owed upstream where the host has enabled the hub's. -/
def State.wakeOn97 (s : State) : State :=
  if s.hub.resume then (s.setBit .HUBS_EVT 0 4).formEvent 6 0 4 (detailOf [(0, 1, 97)])
  else if s.hub.driving || !s.flag .HUBS_STAT_RWAKE_EN then s
  else { s with hub := { s.hub with wakeOf := some (s.hub.wakeOf.getD 97) } }

/-- A wake cause arises (08_loom_function.md R207, R209): the first one since the suspend flags a wake. In U3 the device
starts its own U3 exit, unless the host's runs; in U0, U1 or U2 it notifies from U0; at high speed the wake is the hub's. -/
def State.flagWake (s : State) : State :=
  if !s.loomSuspended || !s.flag .LOOMS_STAT_FRWAKE_EN || s.flag .LOOMS_STAT_WAKE_PEND then s
  else
    let s := s.set .LOOMS_STAT_WAKE_PEND 0 1
    if s.get .LOOMS_STAT_RATE == 1 then s.wakeOn97
    else if s.loom.u3Exit then s
    else if s.get .LOOMS_STAT_LSTATE == 3 then
      ({ s with loom := { s.loom with ownExit := true } }.set .LOOMS_STAT_LSTATE 0 4).set .HUBS_STAT_SS_STATE 0 5
    else s.notifyWake

/-- A Loom event, which enters the held-event queue and so is a wake cause; that of the suspend itself is none (R207). -/
def State.loomEvent (s : State) (code : Nat) (handle : Nat := 0) (extra : Nat := 0) : State :=
  if code == 3 then s.loomNote 3 handle extra else (s.loomNote code handle extra).flagWake

/-- Raise an event of the device itself: its record, and the wake it may cause. -/
def State.postEvent (s : State) (cls unit code : Nat) (detail : List Nat) : State :=
  (s.formEvent cls unit code detail).flagWake

/-- An event of the device class 11 (10_ecrax_opcodes.md R255). -/
def State.deviceEvent (s : State) (code : Nat) (detail : List Nat) : State := s.postEvent 11 0 code detail

/-- An event of a Shuttle (07_shuttle_engines.md R176, 10_ecrax_opcodes.md R255). -/
def State.shutEvent (s : State) (j code handle port phyg route extra : Nat) : State :=
  (s.setBit .SHT_EVT j code).postEvent 5 j code
    (detailOf [(0, 4, handle), (4, 1, port), (5, 1, phyg), (6, 2, route), (8, 2, extra)])

/-- An event of the USB 2.0 hub (06_transparent_hub.md R142). -/
def State.hubEvent (s : State) (code port : Nat) : State :=
  (s.setBit .HUBS_EVT 0 code).postEvent 6 0 code (detailOf [(0, 1, port)])

/-- A hierarchy event of class 10 (12_hierarchy.md R294, 10_ecrax_opcodes.md R255). -/
def State.hierEvent (s : State) (unit code : Nat) (extra : List (Nat × Nat × Nat) := []) : State :=
  s.postEvent 10 unit code
    (detailOf ([(0, 1, s.hier.st.getD 2), (1, 1, s.get .AON_HIER_RANK), (2, 1, s.hier.mgr)] ++ extra))

/-- A domain event of class 9 (13_power_domains.md R325): its bit in `PWRD_EVT` and its record. -/
def State.domainEvent (s : State) (d code : Nat) (detail : List Nat) : State :=
  (s.setBit .PWRD_EVT 0 code).postEvent 9 d code detail

/-! ### Replies and journal (09_ecrax_protocol.md R213, R216, R228, R229) -/

def stOK : Nat := 0x0000
def stDEFERRED : Nat := 0x0001
def stREPLACED : Nat := 0x0002
def stCRC_ERROR : Nat := 0x0010
def stBAD_LENGTH : Nat := 0x0011
def stBAD_PARAM : Nat := 0x0012
def stBAD_OPCODE : Nat := 0x0013
def stTARGET_ABSENT : Nat := 0x0014
def stDENIED_CHANNEL : Nat := 0x0015
def stDENIED_LIFECYCLE : Nat := 0x0016
def stTARGET_FENCED : Nat := 0x0017
def stDOMAIN_ASLEEP : Nat := 0x0018
def stBUSY : Nat := 0x0019
def stTIMEOUT : Nat := 0x001A
def stINTERNAL : Nat := 0x001B
def stDEPENDENCY : Nat := 0x0100
def stSAFE_HOLD : Nat := 0x0101
def stNOT_ELIGIBLE : Nat := 0x0102
def stNOT_MANAGER : Nat := 0x0103
def stVERIFY_FAILED : Nat := 0x0104
def stROLLBACK : Nat := 0x0105
def stNO_FLASH : Nat := 0x0106
def stNO_IDENTITY : Nat := 0x0107

/-- The bytes of a reply (R213). -/
def Reply.bytes (r : Reply) : List Nat :=
  let h := [0x11 + 4 * b2n r.dup, r.opcode] ++ toLE 2 r.tag ++ [r.dev, r.cls] ++ toLE 2 r.results.length
    ++ toLE 2 r.status ++ toLE 2 r.seq
  h ++ toLE 4 (crc32 (h ++ r.results)) ++ r.results

/-- The channel's reply path is gone, so a reply is discarded (R218, R230). -/
def State.chanGone (s : State) : Chan → Bool
  | .loom => !s.flag .LOOMS_STAT_CONFIGURED
  | .mailbox => false
  | .hierarchy => !s.isWorker
  | .profile => true

/-- The overflow record that an event path delivers first after it lost records (R231). -/
def State.overflowRec (s : State) (lost : Nat) : EvRec :=
  { cls := 11, seq := s.ecx.evSeq, dev := s.idx, unit := 0, dt := s.clock, code := 0, detail := detailOf [(0, 4, lost)] }

/-- Fill the free outbound window: a ready reply first, else up to 32 waiting event records while `EVT_EN` is 1
(R220). Behind the end of the block the window reads 0 (DESIGN CHOICE, notes/assumptions/168.md). -/
def State.fillMailbox (s : State) : State :=
  if s.flag .MBOX_STAT_OUT_REPLY || s.flag .MBOX_STAT_OUT_EVT then s
  else match s.ecx.mboxOut with
    | r :: rest =>
      { s.set .MBOX_STAT_OUT_REPLY 0 1 with
          ecx := { s.ecx with mboxOut := rest }, mbox := { s.mbox with outWin := r.bytes } }
    | [] =>
      if s.flag .MBOX_CFG_EVT_EN && (!s.ecx.mboxEvts.isEmpty || s.ecx.mboxLost != 0) then
        let ov := if s.ecx.mboxLost = 0 then [] else [s.overflowRec s.ecx.mboxLost]
        let n := 32 - ov.length
        let rs := ov ++ s.ecx.mboxEvts.take n
        { s.set .MBOX_STAT_OUT_EVT 0 1 with
            ecx := { s.ecx with mboxEvts := s.ecx.mboxEvts.drop n, mboxLost := 0,
                                evSeq := (s.ecx.evSeq + ov.length) % 65536 },
            mbox := { s.mbox with outWin := rs.flatMap EvRec.bytes } }
      else s

/-- A command's identity for a later answer. -/
def Packet.id (p : Packet) : ReqId :=
  { chan := p.chan, tag := p.tag, cls := p.cls, opcode := p.opcode, seq := p.seq, quiet := p.noReply }

/-- A journal entry belongs to a request. -/
def JEntry.isOf (e : JEntry) (q : ReqId) : Bool :=
  e.chan == q.chan && e.tag == q.tag && e.seq == q.seq && e.opcode == q.opcode

/-- Write a journal entry: a ring of 32, newest in slot `AON_JHEAD.NEWEST` (R229, 17_registers.md). The first entry
after the journal was empty takes slot 0 (notes/assumptions/11.md). -/
def State.addEntry (s : State) (e : JEntry) : State :=
  let slot := if s.ecx.journal.isEmpty then 0 else (s.get .AON_JHEAD_NEWEST + 1) % 32
  { s.set .AON_JHEAD_NEWEST 0 slot with ecx := { s.ecx with journal := (e :: s.ecx.journal).take 32 } }

/-- Change the newest journal entry of a request (R228, R229). -/
def updateFirst (q : ReqId) (f : JEntry → JEntry) : List JEntry → List JEntry
  | [] => []
  | e :: r => if e.isOf q then f e :: r else e :: updateFirst q f r

def State.updateEntry (s : State) (q : ReqId) (f : JEntry → JEntry) : State :=
  { s with ecx := { s.ecx with journal := updateFirst q f s.ecx.journal } }

/-- What a channel keeps of its last accepted packet (R216). -/
def State.kept (s : State) (c : Chan) : Option KeptPacket :=
  (s.ecx.kept.find? (fun k => k.1 == c)).map (·.2)

def State.setKept (s : State) (c : Chan) (k : KeptPacket) : State :=
  { s with ecx := { s.ecx with kept := (s.ecx.kept.filter (fun e => e.1 != c)) ++ [(c, k)] } }

/-- The status of a command in what its channel keeps, where that is still its packet (R216). -/
def State.keepStatus (s : State) (q : ReqId) (status : Nat) : State :=
  match s.kept q.chan with
  | none => s
  | some k => if k.seq == q.seq && k.tag == q.tag then s.setKept q.chan { k with status := some status } else s

/-- A reply to a command. -/
def ReqId.reply (q : ReqId) (dev status : Nat) (results : List Nat) (dup : Bool) : Reply :=
  { chan := q.chan, opcode := q.opcode, tag := q.tag, cls := q.cls, seq := q.seq % 65536, dup := dup, dev := dev,
    status := status, results := results }

/-- The newest journal entry of a reply's command notes that the reply was discarded (R229). -/
def discardFirst (r : Reply) : List JEntry → List JEntry
  | [] => []
  | e :: es =>
    if e.chan == r.chan && e.tag == r.tag && e.opcode == r.opcode && e.seq % 65536 == r.seq then
      { e with discarded := true } :: es
    else e :: discardFirst r es

def State.noteDiscard (s : State) (r : Reply) : State :=
  if r.dup then s else { s with ecx := { s.ecx with journal := discardFirst r s.ecx.journal } }

/-- Queue a reply on its channel, or discard it (R218). -/
def State.sendReply (s : State) (r : Reply) : State :=
  if s.chanGone r.chan then s.noteDiscard r
  else match r.chan with
    | .loom => { s with ecx := { s.ecx with loomOut := s.ecx.loomOut ++ [r] } }
    | .mailbox => ({ s with ecx := { s.ecx with mboxOut := s.ecx.mboxOut ++ [r] } } : State).fillMailbox
    | .hierarchy => { s with ecx := { s.ecx with hierOut := s.ecx.hierOut ++ [r] } }
    | .profile => s

/-- A received packet waits for its reply. -/
def State.await (s : State) (a : Await) : State := { s with ecx := { s.ecx with awaits := s.ecx.awaits ++ [a] } }

/-- A waiting answer is that of a command. -/
def Await.isOf (a : Await) (q : ReqId) : Bool :=
  a.id.chan == q.chan && a.id.tag == q.tag && a.id.seq == q.seq && a.id.opcode == q.opcode

/-- The replies of a class that are ready go out on their channel, up to the first packet whose outcome is not known (R224). -/
def State.releaseReplies (s : State) (c : Chan) (cls : Nat) : State :=
  let mine (a : Await) : Bool := a.id.chan == c && a.id.cls == cls
  let q := s.ecx.awaits.filter mine
  let out := q.takeWhile (·.done)
  let s := { s with ecx := { s.ecx with awaits := s.ecx.awaits.filter (fun a => !mine a) ++ q.drop out.length } }
  (out.filterMap (·.reply)).foldl State.sendReply s

/-- The replies of a channel that are ready and wait for an earlier one (R224). -/
def State.readyReplies (s : State) (c : Chan) : List Reply :=
  (s.ecx.awaits.filter (fun a => a.id.chan == c && a.done)).filterMap (·.reply)

/-- They are discarded. -/
def State.dropReady (s : State) (c : Chan) : State :=
  { s with ecx := { s.ecx with awaits := s.ecx.awaits.filter (fun a => !(a.id.chan == c && a.done)) } }

/-- A reply that no later outcome decides takes its place in the order of arrival. -/
def State.replyNow (s : State) (r : Reply) : State :=
  (s.await { id := { chan := r.chan, tag := r.tag, cls := r.cls, opcode := r.opcode, seq := r.seq }, done := true,
             reply := some r }).releaseReplies r.chan r.cls

/-- The outcome of a command is known: its reply, if it has one, is ready, and so are those to its retransmissions (R216,
R224); what a reset of the channel has orphaned is discarded (08_loom_function.md R206). -/
def State.finish (s : State) (q : ReqId) (dev status : Nat) (r : Option Reply) : State :=
  let fill (a : Await) : Await :=
    if a.done || !a.isOf q then a
    else { a with done := true, reply := if a.drop then none else if a.dup then some (q.reply dev status [] true) else r }
  let s := match r with
    | some r => if s.ecx.awaits.any (fun a => a.drop && !a.done && !a.dup && a.isOf q) then s.noteDiscard r else s
    | none => s
  let s := if s.ecx.awaits.any (fun a => !a.done && !a.dup && a.isOf q) then s else s.await { id := q }
  ({ s with ecx := { s.ecx with awaits := s.ecx.awaits.map fill } } : State).releaseReplies q.chan q.cls

/-- A command commits or fails: its journal entry, which read `INTERNAL` and `COMMITTED` = 0 until now, takes the status and
the DT (R225, R229; notes/assumptions/148.md). -/
def State.commit (s : State) (q : ReqId) (status : Nat) : State :=
  s.updateEntry q (fun e =>
    if e.committed || e.status != stINTERNAL then e
    else { e with status := status, committed := status < 0x10, dt := s.clock % 2 ^ 32 })

/-- Answer a command: its journal entry, what its channel keeps, and its reply, unless the header asked for none and it ended
`OK` or `ACCEPTED_DEFERRED` (R211, R214). -/
def State.answer (s : State) (q : ReqId) (noReply : Bool) (status : Nat) (results : List Nat) : State :=
  let quiet := noReply && (status == stOK || status == stDEFERRED)
  ((s.commit q status).keepStatus q status).finish q s.idx status
    (if quiet then none else some (q.reply s.idx status results false))

/-- A kept request was displaced by a newer one (R228): the reply `r`, `PENDING_REPLACED` to its tag, behind its first one, and
its status rewritten in the journal and in what its channel keeps (R216). -/
def State.displaceAs (s : State) (q : ReqId) (r : Reply) : State :=
  let s := (s.updateEntry q (fun e => { e with status := stREPLACED })).keepStatus q stREPLACED
  let late := s.ecx.awaits.reverse.takeWhile (fun a => !a.isOf q)
  if late.length == s.ecx.awaits.length then s.sendReply r
  else
    let as := s.ecx.awaits.take (s.ecx.awaits.length - late.length) ++ [{ id := q, done := true, reply := some r }]
    { s with ecx := { s.ecx with awaits := as ++ late.reverse } }

/-- The same with the device's own reply. -/
def State.displace (s : State) (q : ReqId) : State := s.displaceAs q (q.reply s.idx stREPLACED [] false)

/-- A kept request has run (R228). -/
def State.markRun (s : State) (q : Option ReqId) : State :=
  match q with
  | none => s
  | some q => s.updateEntry q (fun e => { e with run := true })

/-- Displace an optional kept request. -/
def State.displaceOpt (s : State) (q : Option ReqId) : State :=
  match q with
  | none => s
  | some q => s.displace q

end Sys2Proof.Machine
end

