-- ==== Sys2Proof/Machine/Flags.lean ====
section
/-! DEFINITION. The flags that show other flags: the groups of `INTC_PEND`, unit masks, and the level of `INT_N`
(17_registers.md R397; 11_can_controllers.md R274). -/

namespace Sys2Proof.Machine

/-- Some event bit of a field is set in one of `n` units. -/
def State.anySet (s : State) (f : Fld) (n : Nat) : Bool := (List.range n).any (fun u => s.get f u != 0)

/-- An enabled interrupt bit of a CAN controller is set. -/
def State.canInts (s : State) (c : Nat) : Bool := (s.get .CAN_INT c &&& s.get .CAN_INTEN c) != 0

/-- A CAN controller's interrupt (11_can_controllers.md R274); once its domain has left ON, the copy kept when it did
(17_registers.md R397). -/
def State.canPend (s : State) (c : Nat) : Bool :=
  s.get .CAN_CTL_USE c == 1 && (if s.get .DOM_STAT_STATE (dCAN c) == 0 then s.canInts c else (s.can c).intKept)

/-- The bits of `INTC_PEND` (17_registers.md R397). -/
def State.intcPend (s : State) : Nat :=
  let bs := [s.anySet .PWR_EVT 96, s.anySet .PORT_LEVT 96, s.anySet .FEED_EVT 16, s.anySet .SHT_EVT 13,
    s.flag .HUBS_EVT, s.flag .LOOMS_EVT, s.flag .PWRD_EVT, s.flag .INTC_PEND_FAULT, s.flag .SEC_EVT,
    s.canPend 0, s.canPend 1, s.flag .MBOX_STAT_OUT_REPLY && s.flag .MBOX_CFG_INT_REPLY,
    s.flag .MBOX_STAT_OUT_EVT && s.flag .MBOX_CFG_INT_EVT]
  (bs.zipIdx.map (fun b => if b.1 then 2 ^ b.2 else 0)).sum

/-- A bit mask of the units for which a condition holds. -/
def unitMask (n : Nat) (p : Nat → Bool) : Nat := ((List.range n).map (fun u => if p u then 2 ^ u else 0)).sum

/-- The level of `INT_N` is low (17_registers.md R397, 02_package_and_balls.md R44). -/
def State.intNLow (s : State) : Bool :=
  s.flag .INTC_CTL_OUT_EN && s.get .INTC_CTL_ROUTE % 2 == 0 && (s.intcPend &&& s.get .INTC_EN) != 0

end Sys2Proof.Machine
end

