-- ==== Sys2Proof/Machine/Words.lean ====
section
/-! DEFINITION. Register words: which fields a 32-bit word holds, its value, and a write by access type
(00_scope.md R7, 17_registers.md R386, R387). Nothing here looks at the state; the values come from a reader. -/

namespace Sys2Proof.Machine

/-- The elements of a field that lie in the word at byte offset `off`. -/
def elemsAt (f : Fld) (off : Nat) : List Nat :=
  (List.range f.info.cnt).filter (fun e => f.bitPos e < off * 8 + 32 && off * 8 < f.bitPos e + f.info.width)

/-- The fields of a word, with the element of each. -/
def fieldsAt (sp : Space) (off : Nat) : List (Fld × Nat) :=
  Fld.all.flatMap (fun f => if f.info.space = sp then (elemsAt f off).map (fun e => (f, e)) else [])

/-- The key of an element of a field of a unit. -/
def keyOf (f : Fld) (u e : Nat) : Nat := u * f.info.cnt + e

/-- The part of a field's value that shows in the word at `off`. -/
def partAt (f : Fld) (e off v : Nat) : Nat :=
  if off * 8 ≤ f.bitPos e then v * 2 ^ (f.bitPos e - off * 8) % 2 ^ 32 else v / 2 ^ (off * 8 - f.bitPos e) % 2 ^ 32

/-- A word's value from its fields' values. -/
def wordOf (rd : Fld → Nat → Nat) (sp : Space) (u off : Nat) : Nat :=
  (fieldsAt sp off).foldl (fun w fe => w + partAt fe.1 fe.2 off (rd fe.1 (keyOf fe.1 u fe.2))) 0

/-- A field's value after the word at `off` is given the value `w`: the part in the word is replaced. -/
def withPart (f : Fld) (e off v w : Nat) : Nat :=
  if off * 8 ≤ f.bitPos e then
    let sh := f.bitPos e - off * 8
    let n := min f.info.width (32 - sh)
    putBits v 0 n (w / 2 ^ sh)
  else
    let sh := off * 8 - f.bitPos e
    let n := min 32 (f.info.width - sh)
    putBits v sh n w

/-- The word an RW register takes. -/
def WMode.apply (m : WMode) (old data : Nat) : Nat :=
  match m with
  | .write => data % 2 ^ 32
  | .setBits => bitOr old (data % 2 ^ 32)
  | .clearBits => bitClear old (data % 2 ^ 32)
  | .toggle => Nat.xor old (data % 2 ^ 32)

/-- A value is within its field's stated range (17_registers.md R386); `TREF` is signed, -40 to +125 (03_feeds.md R79). -/
def inRange (f : Fld) (v : Nat) : Bool :=
  match f.info.lim with
  | none => f != .FEED_TLIM_TREF || v ≤ 125 || 216 ≤ v
  | some (a, b) => a ≤ v && v ≤ b

/-- The fields of a word of one access type. -/
def fieldsOf (acc : Acc) (sp : Space) (off : Nat) : List (Fld × Nat) :=
  (fieldsAt sp off).filter (fun fe => fe.1.info.acc = acc)

/-- The word the RW fields at `off` would take. -/
def newWord (s : State) (m : WMode) (sp : Space) (u off data : Nat) : Nat :=
  m.apply (wordOf (fun f k => s.get f k) sp u off) data

/-- The bits from a field of the word at `off` up to the next field: a value written to it shows in these (10_ecrax_opcodes.md
R254, its worked example). -/
def roomAt (sp : Space) (off : Nat) (fe : Fld × Nat) : Nat :=
  let lo := fe.1.bitPos fe.2
  ((fieldsAt sp off).map (fun x => x.1.bitPos x.2)).foldl (fun r p => if lo < p then min r (p - lo) else r)
    (off * 8 + 32 - lo)

/-- A field with a stated range, whole in its word, is given a value that the bits up to the next field spell; it is in range.
-/
def spelledInRange (sp : Space) (off w : Nat) (fe : Fld × Nat) : Bool :=
  match fe.1.info.lim with
  | none => true
  | some _ => fe.1.bitPos fe.2 < off * 8 || off * 8 + 32 < fe.1.bitPos fe.2 + fe.1.info.width
      || inRange fe.1 (bits w (fe.1.bitPos fe.2 - off * 8) (roomAt sp off fe))

/-- Every RW field of the word would take a value in its range. -/
def wordInRange (s : State) (m : WMode) (sp : Space) (u off data : Nat) : Bool :=
  let w := newWord s m sp u off data
  (fieldsOf .RW sp off).all (fun fe =>
    inRange fe.1 (withPart fe.1 fe.2 off (s.get fe.1 (keyOf fe.1 u fe.2)) w) && spelledInRange sp off w fe)

/-- Apply a write to the RW and W1C fields of a word (R7, R387). -/
def applyWord (s : State) (m : WMode) (sp : Space) (u off data : Nat) : State :=
  let w := newWord s m sp u off data
  let s := (fieldsOf .RW sp off).foldl (fun s fe =>
    let k := keyOf fe.1 u fe.2
    s.set fe.1 k (withPart fe.1 fe.2 off (s.get fe.1 k) w)) s
  (fieldsOf .W1C sp off).foldl (fun s fe =>
    let k := keyOf fe.1 u fe.2
    s.set fe.1 k (bitClear (s.get fe.1 k) (withPart fe.1 fe.2 off 0 (data % 2 ^ 32)))) s

/-- The bits of a word that belong to no field (R9). -/
def reservedBits (sp : Space) (off w : Nat) : Nat :=
  (fieldsAt sp off).foldl (fun w fe => bitClear w (partAt fe.1 fe.2 off (2 ^ fe.1.info.width - 1))) (w % 2 ^ 32)

/-- A register image given whole: reserved bits 0 and every RW field in its range (10_ecrax_opcodes.md R236). -/
def imageOk (sp : Space) (off w : Nat) : Bool :=
  reservedBits sp off w == 0 &&
  (fieldsOf .RW sp off).all (fun fe => inRange fe.1 (withPart fe.1 fe.2 off 0 w))

/-- Clear the RC fields of a word that was read (R7). -/
def clearRC (s : State) (sp : Space) (u off : Nat) : State :=
  (fieldsOf .RC sp off).foldl (fun s fe => s.set fe.1 (keyOf fe.1 u fe.2) 0) s

end Sys2Proof.Machine
end

