-- ==== Sys2Proof/Machine/Operands.lean ====
section
/-! DEFINITION. The operand forms of the Ecrax opcodes: class, channel and lifecycle permission, and the layout of the
parameters of each opcode (09_ecrax_protocol.md R226, R227; 10_ecrax_opcodes.md R236 to R254;
15_security_and_debug.md R368). -/

namespace Sys2Proof.Machine

/-- Byte `i` of the parameters. -/
def Packet.u8 (p : Packet) (i : Nat) : Nat := p.params.getD i 0 % 256
/-- Two, four and eight bytes of the parameters, least significant first. -/
def Packet.u16 (p : Packet) (i : Nat) : Nat := leAt p.params i 2
def Packet.u32 (p : Packet) (i : Nat) : Nat := leAt p.params i 4
def Packet.u64 (p : Packet) (i : Nat) : Nat := leAt p.params i 8
/-- The parameters have exactly `n` bytes (R236). -/
def Packet.len (p : Packet) (n : Nat) : Bool := p.params.length == n
/-- `n` reserved bytes from offset `i` are 0 (R9, R236). -/
def Packet.zero (p : Packet) (i n : Nat) : Bool := leAt p.params i n == 0

/-- The opcodes that are defined (R241 to R254). -/
def opcodeDefined (o : Nat) : Bool :=
  o ≤ 0x09 || (0x10 ≤ o && o ≤ 0x18) || (0x20 ≤ o && o ≤ 0x25) || (0x30 ≤ o && o ≤ 0x34) || (0x40 ≤ o && o ≤ 0x44)
  || (0x50 ≤ o && o ≤ 0x53) || (0x60 ≤ o && o ≤ 0x66) || (0x70 ≤ o && o ≤ 0x76) || (0x80 ≤ o && o ≤ 0x86)
  || (0x90 ≤ o && o ≤ 0x95) || o == 0xA0 || o == 0xA1

/-- The class of an opcode: 0 `URGENT`, 1 `NORMAL`, 2 `BULK` (R222, R241 to R254). -/
def opcodeClass (o : Nat) : Nat :=
  if o ∈ [0x00, 0x01, 0x05, 0x13, 0x14, 0x17, 0x24, 0x25, 0x41, 0x50, 0x51, 0x61, 0x64, 0x76, 0x85, 0x94] then 0
  else if o ∈ [0x07, 0x09, 0x52, 0x81, 0x82, 0x84, 0x86, 0x90, 0x91, 0x93, 0x95] then 2
  else 1

/-- The channel permission of an opcode (R226, R240, and R368 for the security group; the mask of R227 apart). -/
def channelOk (o : Nat) (c : Chan) : Bool :=
  match c with
  | .mailbox => true
  | .loom => !(o == 0x06 || o == 0x66)
  | .hierarchy =>
    !(o == 0x06 || o == 0x66 || o == 0x07 || o == 0x09 || o == 0x53 || o == 0xA1) && o / 16 != 8
  | .profile => o / 16 != 8

/-- The opcode's group is withdrawn from the channel by `CHANNEL_MASK` (R227). -/
def State.masked (s : State) (o : Nat) (c : Chan) : Bool :=
  (c == .loom || c == .hierarchy) && bit (s.get .AON_HIER_CHMASK) (o / 16)

/-- The lifecycle permission of an opcode and its parameters (R226, R240, R113, R368). -/
def lifecycleOk (lc : Nat) (p : Packet) : Bool :=
  let o := p.opcode
  if o / 16 == 8 then
    if o == 0x80 then true
    else if o == 0x86 then lc ≤ lcFIELD
    else lc != lcRETIRED
  else if o == 0x53 then lc == lcFACTORY || lc == lcPROVISIONED || lc == lcRETURN
  else if lc != lcRETIRED then true
  else match o / 16 with
    | 0 => o == 0x00 || o == 0x01 || o == 0x05
    | 1 => if o == 0x10 then p.u8 1 ≤ 1 else o == 0x13 || o == 0x14 || o == 0x15 || o == 0x16 || o == 0x17
    | 2 | 3 => true
    | 4 => o == 0x41
    | 5 => o == 0x50 || o == 0x52
    | 10 => o == 0xA0
    | _ => false

/-- The reserved fault source IDs (14_faults_and_takeover.md R334). -/
def srcReserved (src : Nat) : Bool :=
  (0x0D ≤ src && src ≤ 0x0F) || (0x1D ≤ src && src ≤ 0x1F) || (0x2C ≤ src && src ≤ 0x2F) || 0x4A ≤ src

/-- The classes the table of R334 gives a kind of a source, as 1 NOTICE, 2 UNIT, 3 TAKEOVER, 4 GRAVE (R249): every
class that some state gives it. -/
def classesOf (src kind : Nat) : List Nat :=
  if srcReserved src then []
  else if kind == 0xF then (if src == 0 then [] else [3])
  else if src == 0x00 then (if kind == 0 then [1] else if kind == 0xD then [4] else [])
  else if src == 0x01 || src == 0x02 then
    (if kind == 0 then [1] else if kind ∈ [1, 2, 3, 5] then [2, 3] else [])
  else if src == 0x03 then (if kind == 0xD || kind == 4 then [1] else if kind == 3 then [4] else [])
  else if src == 0x06 || src == 0x07 then (if kind == 0 then [1] else if kind ∈ [1, 3, 5] then [2, 3] else [])
  else if src == 0x08 || src == 0x09 then (if kind == 0 then [1] else if kind ∈ [1, 4, 5] then [2, 3] else [])
  else if src == 0x0A then (if kind == 0 then [1] else if kind == 1 || kind == 5 then [2] else if kind == 0xE then [4] else [])
  else if src == 0x0B then (if kind == 0xC then [2] else [])
  else if src == 0x0C then (if kind == 0 then [1] else if kind ∈ [1, 3, 5] then [2] else [])
  else if 0x10 ≤ src && src ≤ 0x1C then (if kind == 0 then [1] else if kind ∈ [1, 3, 4, 5] then [2] else [])
  else if 0x38 ≤ src && src ≤ 0x3F then (if kind == 7 then [1] else if kind == 8 then [2] else if kind == 9 then [4] else [])
  else if 0x40 ≤ src && src ≤ 0x47 then (if kind == 0xA then [3] else if kind == 0xB then [2] else [])
  else if src == 0x48 then (if kind == 0 then [1] else if kind == 6 then [2, 4] else [])
  else if src == 0x49 then (if kind == 0xE then [1] else if kind == 3 || kind == 4 then [2] else [])
  else (if kind == 0 then [1] else if kind ∈ [1, 4, 5] then [2] else [])

/-- The number of set bits among the low `n` bits. -/
def popCount (n v : Nat) : Nat := ((List.range n).filter (fun i => bit v i)).length

/-- The FEED registers `FEED_CONFIG` selects, by mask bit (R246). -/
def feedRegOff : List Nat := [0x00, 0x04, 0x08, 0x0C, 0x34, 0x38, 0x3C, 0x40, 0x44, 0x48, 0x4C, 0x50]

/-- The mask bits that are set, in ascending order. -/
def maskBits (n v : Nat) : List Nat := (List.range n).filter (fun i => bit v i)

/-- The parameter image bits a `PORT_PWR_CONFIG` mask bit selects: register offset, low bit, width (R244). -/
def pwrMaskField : List (Nat × Nat × Nat) :=
  [(0, 0, 1), (0, 1, 1), (0, 2, 2), (0, 4, 2), (0, 8, 4), (4, 0, 8), (4, 8, 6), (4, 16, 4), (4, 24, 6)]

/-- A `PORT_PWR_CONFIG` image has bits only in its selected fields. -/
def pwrImageOk (mask img off : Nat) : Bool :=
  ((List.range 9).filter (fun i => bit mask i && (pwrMaskField.getD i (0, 0, 0)).1 == off)).foldl
    (fun w i => let f := pwrMaskField.getD i (0, 0, 0); bitClear w ((2 ^ f.2.2 - 1) * 2 ^ f.2.1)) img == 0

/-- The selected limit fields of a `PORT_PWR_CONFIG` are in range (04_port_power.md R104). -/
def pwrRangesOk (mask cfg limit : Nat) : Bool :=
  (!bit mask 3 || inRange .PWR_CFG_RP_MAX (bits cfg 4 2))
  && (!bit mask 5 || inRange .PWR_LIMIT_ILIM (bits limit 0 8))
  && (!bit mask 6 || inRange .PWR_LIMIT_FTIME (bits limit 8 6))
  && (!bit mask 7 || inRange .PWR_LIMIT_SLEW (bits limit 16 4))
  && (!bit mask 8 || inRange .PWR_LIMIT_RETRY_PER (bits limit 24 6))

/-- A handle parameter: bits [31:20] are 0 and IDX is the device's own (R236). -/
def handleOk (s : State) (v : Nat) : Bool := v / 2 ^ 20 == 0 && v / 2 ^ 14 == s.idx

/-- The key slot of an authorisation block: an owner key, or 0xFF for the vendor root key (R252). -/
def keySlotOk (v : Nat) : Bool := v ≤ 2 || v == 255

/-- The Parameters check of R214 for the layouts of R241 to R254: length, ranges and reserved fields. What depends on
the unit's state is judged by the opcode's own meaning. A `PROFILE_READ` past the 65,536 bytes of a copy is out of range
(notes/assumptions/150.md). -/
def paramsOk (s : State) (p : Packet) : Bool :=
  match p.opcode with
  | 0x00 | 0x01 | 0x02 | 0x03 | 0x31 | 0x32 | 0x41 | 0x50 | 0x61 | 0x64 | 0x76 | 0x80 | 0x85 | 0x91 | 0x93 | 0x94 =>
    p.len 0
  | 0x04 => p.params == [0x57, 0x41, 0x52, 0x4D]
  | 0x05 => p.len 4 && p.u8 0 ≤ 3 && p.u8 1 ≤ 1 && (p.u8 1 == 1 || (p.u8 0 == 0 && p.u16 2 == 0))
  | 0x06 => p.len 2 && (p.u16 0 &&& 0xF801) == 0
  | 0x07 => 9 ≤ p.params.length && p.params.length ≤ 4080 && p.u8 4 ≤ 1 && p.zero 5 3
  | 0x08 => p.len 8 && p.u8 0 ≤ 1 && p.u8 1 == 0 && 1 ≤ p.u16 2 && p.u16 2 ≤ 4072 && p.u32 4 + p.u16 2 ≤ 65536
  | 0x09 => p.params == [0x45, 0x52, 0x41, 0x53]
  | 0x10 => p.len 4 && p.u8 0 < 96 && p.u8 1 ≤ 3 && p.u8 2 ≤ 3 && p.u8 3 == 0
  | 0x11 | 0x12 | 0x13 | 0x14 | 0x15 | 0x17 | 0x18 => p.len 1 && p.u8 0 < 96
  | 0x16 => p.len 12 && p.u8 0 < 96 && p.u8 1 == 0 && p.u16 2 < 512 && pwrImageOk (p.u16 2) (p.u32 4) 0
      && pwrImageOk (p.u16 2) (p.u32 8) 4 && pwrRangesOk (p.u16 2) (p.u32 4) (p.u32 8)
  | 0x20 => p.len 1 && p.u8 0 < 16
  | 0x21 => p.len 2 && p.u8 0 < 16 && p.u8 1 ≤ 1
  | 0x22 => p.u8 0 < 16 && p.u8 1 == 0 && p.u16 2 < 4096 && 4 ≤ p.params.length
      && p.len (4 + 4 * popCount 12 (p.u16 2))
      && ((maskBits 12 (p.u16 2)).zipIdx).all (fun bi => imageOk .FEED (feedRegOff.getD bi.1 0) (p.u32 (4 + 4 * bi.2)))
  | 0x23 => p.len 8 && p.u8 0 < 8 && p.zero 1 3 && imageOk .SKEIN 0 (p.u32 4)
  | 0x24 => p.len 4 && p.u8 0 < 8 && p.u8 1 == 0 && p.u16 2 ≤ 30000
  | 0x25 => p.len 1 && p.u8 0 < 8
  | 0x30 => p.len 2 && 1 ≤ p.u8 1 && p.u8 1 ≤ 96 && p.u8 0 + p.u8 1 ≤ 96
  | 0x33 => p.len 4 && 1 ≤ p.u8 1 && p.u8 1 ≤ 84 && p.u8 0 + p.u8 1 ≤ 96 && p.u8 2 ≤ 1 && p.u8 3 == 0
  | 0x34 => p.len 1 && p.u8 0 ≤ 1
  | 0x40 => p.len 2 && p.u8 0 < 42 && p.u8 1 ≤ 2
  | 0x42 => p.len 8 && p.u8 0 < 42 && p.u8 1 ≤ 2 && p.zero 2 2 && p.u32 4 ≤ 3600000
  | 0x43 => p.len 4 && p.u32 0 % 2 == 1 && p.u32 0 < 64
  | 0x44 => p.len 16 && p.u8 0 ≤ 3 && p.zero 1 7
  | 0x51 => p.len 1 && !srcReserved (p.u8 0)
  | 0x52 => p.len 8 && 1 ≤ p.u8 4 && p.u8 4 ≤ 127 && p.zero 5 3
  | 0x53 => p.len 4 && p.u8 1 < 16 && 1 ≤ p.u8 2 && p.u8 2 ≤ 3 && p.u8 3 == 0
      && (classesOf (p.u8 0) (p.u8 1)).contains (p.u8 2)
  | 0x60 => p.len 2 && p.u8 0 ≤ 1 && p.u8 1 ≤ 63
  | 0x62 => 8 ≤ p.params.length && p.u8 0 ≤ 15 && p.u8 1 == 0 && p.u16 6 ≤ 512 && p.len (8 + 2 * p.u16 6)
      && (List.range (p.u16 6)).all (fun i => p.u8 (8 + 2 * i) < 64 && p.u8 (9 + 2 * i) < 8)
  | 0x63 => p.len 1 && p.u8 0 ≤ 15
  | 0x65 => p.len 8
  | 0x66 => p.len 2 && p.u8 0 ≤ 1 && p.u8 1 ≤ 2
  | 0x70 | 0x73 => p.len 4 && handleOk s (p.u32 0)
  | 0x71 => p.len 8 && handleOk s (p.u32 0) && 1 ≤ p.u16 4 && p.u16 4 ≤ 4096 && p.zero 6 2
  | 0x72 => p.len 1 && p.u8 0 ≤ 11
  | 0x74 => p.len 4 && p.u8 0 < 96 && p.u8 1 == 0 && p.u16 2 ≤ 6000
  | 0x75 => p.len 5 && handleOk s (p.u32 0) && p.u8 4 ≤ 8
  | 0x81 => p.len 32
  | 0x82 => p.len 198 && p.u8 0 ≤ 4 && p.zero 1 3 && keySlotOk (p.u8 4)
  | 0x83 => p.len 2 && p.u8 0 ≤ 2 && (if p.u8 0 == 0 then 1 ≤ p.u8 1 && p.u8 1 ≤ 2
      else if p.u8 0 == 1 then p.u8 1 ≤ 4 else p.u8 1 ≤ 2)
  | 0x84 => p.len 194 && keySlotOk (p.u8 0)
  | 0x86 => p.len 198 && p.u8 0 ≤ 2 && p.zero 1 3 && keySlotOk (p.u8 4)
  | 0x90 => 9 ≤ p.params.length && p.params.length ≤ 4080 && p.zero 4 4
  | 0x92 => p.len 1 && p.u8 0 ≤ 1
  | 0x95 => p.len 8
  | 0xA0 => p.len 8 && p.u8 0 ≤ 1 && p.u8 1 == 0 && 1 ≤ p.u16 2 && p.u16 2 ≤ 1020 && p.u32 4 % 4 == 0
      && (p.u8 0 == 1 || (p.u32 4 < 2 ^ 24 && p.u32 4 % 65536 + 4 * p.u16 2 ≤ 0x4000))
  | 0xA1 => p.u8 0 ≤ 1 && p.u8 1 ≤ 3 && 1 ≤ p.u16 2 && p.u16 2 ≤ 1018 && p.len (8 + 4 * p.u16 2) && p.u32 4 % 4 == 0
      && (p.u8 0 == 1 || (p.u32 4 < 2 ^ 24 && p.u32 4 % 65536 + 4 * p.u16 2 ≤ 0x4000))
  | _ => false

/-- The opcodes the hardware responder of safe hold and of start-up executes (14_faults_and_takeover.md R349,
16_start_up.md R375). -/
def responderRuns (p : Packet) : Bool :=
  p.opcode == 0x00 || p.opcode == 0x01 || p.opcode == 0x05 || p.opcode == 0x50 || p.opcode == 0x14
  || (p.opcode == 0x10 && p.u8 1 == 0)

/-- The port a port-group opcode names, the feed and skein a power-group opcode names. -/
def skeinNamed (p : Packet) : Option Nat :=
  if p.opcode / 16 == 1 || p.opcode == 0x74 then some (skeinOfPort (p.u8 0))
  else if p.opcode == 0x20 || p.opcode == 0x21 || p.opcode == 0x22 then some (skeinOfFeed (p.u8 0))
  else if p.opcode == 0x23 || p.opcode == 0x24 || p.opcode == 0x25 then some (p.u8 0)
  else none

/-- The Target unit check of R214: the unit the opcode names is fenced, or lies on a skein die whose link exchanges
nothing valid (R237); the flash (R334, source 0x49), SEC (source 0x0A) and DRAM for the opcodes that need them. -/
def unitFencedFor (s : State) (p : Packet) : Bool :=
  let o := p.opcode
  (match skeinNamed p with | some k => s.linkDead k | none => false)
  || ((o == 0x40 || o == 0x42) && s.domFenced (p.u8 0))
  || ((o == 0x07 || o == 0x08 || o == 0x09 || o == 0x90 || o == 0x95) && s.unitFenced 0x49)
  || ((o == 0x81 || o == 0x82 || o == 0x83 || o == 0x84 || o == 0x86 || o == 0x91 || o == 0x93) && s.domFenced dSEC)
  || ((o == 0x52 || o == 0x70 || o == 0x71 || o == 0x73 || o == 0x75 || o == 0x18 || o == 0x95
        || (o == 0x10 && p.u8 1 == 3)) && s.domFenced dDRAM)
  || (o == 0x66 && s.domFenced (dCAN (p.u8 0)))
  || (o == 0x10 && p.u8 1 == 3 && s.domFenced (dPHY (groupOfPort (p.u8 0))))
  || ((o == 0x30 || o == 0x33) &&
        (List.range (p.u8 1)).any (fun i => s.linkDead (skeinOfPort (p.u8 0 + i))))

/-- A `FAULT_CLEAR` of a bit that belongs to a GRAVE reaction, which is answered `SAFE_HOLD` (14_faults_and_takeover.md R337,
10_ecrax_opcodes.md R238; DEDUCED against R349, notes/assumptions/190.md). -/
def State.graveClear (s : State) (p : Packet) : Bool :=
  p.opcode == 0x51 && s.gecko (p.u8 0) && s.flt.causes.any (fun g => g.src == p.u8 0 && g.cls == 4)

/-- While the hardware responder answers for the device (R349, R375), every opcode it does not execute ends `INTERNAL`;
else the checks of R214 from Channel on: the status of the first that fails. -/
def refusalOf (s : State) (p : Packet) : Option Nat :=
  if (s.safeHold || !s.ready) && !responderRuns p then some (if s.graveClear p then stSAFE_HOLD else stINTERNAL)
  else if !channelOk p.opcode p.chan || s.masked p.opcode p.chan then some stDENIED_CHANNEL
  else if !lifecycleOk s.lifecycle p then some stDENIED_LIFECYCLE
  else if !paramsOk s p then some stBAD_PARAM
  else if unitFencedFor s p then some stTARGET_FENCED
  else none

end Sys2Proof.Machine
end

