-- ==== Sys2Proof/Machine/Domains.lean ====
section
/-! DEFINITION. The domain controller (13_power_domains.md R306 to R318): what the dependency table forbids, requests
and the pending slot, the start and the end of a transition, fencing, and what retention keeps. -/

namespace Sys2Proof.Machine

/-- The domain that holds a register field of a unit, for the fields that are not always-on (00_scope.md R8). -/
def domainOfFld (f : Fld) (key : Nat) : Option Nat :=
  if f.info.kept = .AON then none
  else
    let u := key / f.info.cnt
    match f.info.space with
    | .IND => if u = 0 then some dMIF else none
    | .CAN => some (dCAN u)
    | .HUBS => some dHUB
    | .LOOMS => some dLOOM
    | .SHUTTLE => some (dSH u)
    | _ => none

/-- The LOST fields that show the live state of the USB connection: they read again as the hub and the Loom function
stand once the domain is back (06_transparent_hub.md R142, 08_loom_function.md R210; notes/assumptions/26.md). -/
def liveFld (f : Fld) : Bool :=
  match f with
  | .HUBS_STAT_U2_STATE | .HUBS_STAT_U2_ADDR | .HUBS_STAT_ALT_MTT | .HUBS_STAT_RWAKE_EN | .HUBS_STAT_SS_STATE
  | .HUBS_STAT_P97_CONN | .HUBS_CONN | .HUBS_SUSP | .LOOMS_STAT_RATE | .LOOMS_STAT_LSTATE | .LOOMS_STAT_CONFIGURED
  | .LOOMS_STAT_ALT | .LOOMS_STAT_FSUSP | .LOOMS_STAT_FRWAKE_EN | .LOOMS_STAT_WAKE_PEND | .LOOMS_LANE_HANDLES => true
  | _ => false

/-- A stored cell is a KEPT field, a LOST field, of domain `d`. -/
def isKeptOf (d : Nat) (c : Cell) : Bool := c.fld.info.kept == .KEPT && domainOfFld c.fld c.unit == some d
def isLostOf (d : Nat) (c : Cell) : Bool := c.fld.info.kept == .LOST && !liveFld c.fld && domainOfFld c.fld c.unit == some d

/-- The size of a domain's retention list in bytes (R308). -/
def listBytes (d : Nat) : Nat :=
  if d ≤ 1 then 2048 else if d == 2 then 4096 else if d == 3 then 1024 else if d ≤ 15 then 256
  else if d ≤ 28 then 1024 else if d == 29 then 2048 else if d ≤ 31 then 512 else if d == 32 then 64
  else if d ≤ 40 then 2048 else 128

/-- The domains with a saved list in retention memory, in the order of the lists (R308, R316). -/
def listDomains : List Nat := List.range 33 ++ [41]

/-- The byte offset of a domain's list in retention memory (R316). The lists of the skein dies lie in none (R308): they are
named by the first offset of the list region (DESIGN CHOICE, notes/assumptions/188.md). -/
def listOffset (d : Nat) : Nat :=
  if listDomains.contains d then (listDomains.takeWhile (fun e => e != d)).foldl (fun n e => n + listBytes e + 16) 0x800 else 0x800

/-- The states a domain may take: bit 0 ON, bit 1 RET, bit 2 OFF (R308). -/
def allowedMask (d : Nat) : Nat := if d ≤ 1 then 3 else 7

/-- The state a domain is in once its running transition completes (R312). -/
def State.effState (s : State) (d : Nat) : Nat :=
  if s.flag .DOM_STAT_TRANS d then s.get .DOM_STAT_TARGET d else s.get .DOM_STAT_STATE d

/-- The attach states `POWERING` to `PRESENTED` (05_port_lifecycle.md R109, R117). -/
def attached (a : Nat) : Bool := 4 ≤ a && a ≤ 10

/-- A port in mode TRANSPARENT or TERMINATED with a device attached. -/
def State.dataAttached (s : State) (n : Nat) : Bool :=
  2 ≤ s.get .PORT_MODE_MODE_EFF n && attached (s.get .PORT_LIFE_ATT_STATE n)

/-- The ports of a PHY group. -/
def groupPorts (j : Nat) : List Nat := (List.range 8).map (8 * j + ·)

/-- The ports a Shuttle is routed to (07_shuttle_engines.md R143). -/
def State.routed (s : State) (j : Nat) : List Nat :=
  (List.range 96).filter (fun n => s.get .PORT_LIFE_SHUTTLE n == j)

/-- The Shuttle serves no TERMINATED port with a device attached. -/
def State.shuttleFree (s : State) (j : Nat) : Bool :=
  (s.routed j).all (fun n => !(s.get .PORT_MODE_MODE_EFF n == 3 && attached (s.get .PORT_LIFE_ATT_STATE n)))

/-- The Loom function is connected upstream, on the SuperSpeed link or on port 97. -/
def State.loomConnected (s : State) : Bool := s.get .LOOMS_STAT_RATE != 0

/-- The self test or a configuration check runs on skein `k` (R309). -/
def State.skeinTested (s : State) (k : Nat) : Bool :=
  (s.skein k).checkFrom.isSome || (s.boot.running && s.flag .FLT_TOKEN_VALID && !s.boot.selfTest)

/-- A snapshot that includes skein `k` is being captured, or the skein is tested (R309). -/
def State.skeinBusy (s : State) (k : Nat) : Bool :=
  (s.flag .SNAP_STAT_BUSY && !bit s.snap.lost k) || s.skeinTested k

/-- The conditions of R309 under which a domain may be in RET, and in OFF; with `att` false an attached device counts for
nothing (R321). -/
def State.mayRetBut (s : State) (att : Bool) (d : Nat) : Bool :=
  if d ≤ 1 then s.flag .FLT_TOKEN_VALID && d != s.lead
  else if d == dLOOM then
    s.flag .LOOMS_STAT_FSUSP || s.get .LOOMS_STAT_LSTATE == 3 || !s.flag .LOOMS_STAT_CONFIGURED || !s.loomConnected
  else if d == dHUB then s.get .HUBS_STAT_U2_STATE == 4 || s.get .HUBS_STAT_U2_STATE == 0
  else if d ≤ 15 then !att || (groupPorts (d - 4)).all (fun n => !s.dataAttached n)
  else if d ≤ 27 then !att || s.shuttleFree (d - 16)
  else if d == 28 then (!att || s.shuttleFree 12) && (List.range 12).all (fun j => s.effState (dSH j) != 0)
  else if d == dDRAM then (List.range 13).all (fun j => s.effState (dSH j) != 0) && s.effState dLOOM != 0
  else if d ≤ 31 then true
  else if d == dSEC then !s.flag .SEC_OTP_STAT_BUSY
  else if d ≤ 40 then !s.skeinBusy (d - 33)
  else s.mgmt.ibi.isNone && !s.mgmt.busy
def State.mayRet (s : State) (d : Nat) : Bool := s.mayRetBut true d

def State.mayOffBut (s : State) (att : Bool) (d : Nat) : Bool :=
  if d ≤ 1 then false
  else if d == dLOOM then !s.flag .AON_CONN_PERMIT
  else if d == dHUB then
    s.get .HUBS_STAT_U2_STATE == 0 && (List.range 96).all (fun n => s.get .PORT_MODE_MODE_EFF n != 2)
  else if d ≤ 15 then
    s.mayRetBut att d && (groupPorts (d - 4)).all (fun n =>
      s.get .PORT_MODE_MODE_EFF n ≤ 1 && !(s.get .PORT_MODE_MODE_EFF n == 1 && s.flag .PWR_CFG_CONN n))
  else if d == dDRAM then s.mayRetBut att d && !s.handlesOpen && !s.recordsHeld
  else s.mayRetBut att d
def State.mayOff (s : State) (d : Nat) : Bool := s.mayOffBut true d

/-- What a domain that is ON, or going to ON, requires to be ON (R309, last column). -/
def State.requires (s : State) (d : Nat) : List Nat :=
  if d == dLOOM then (if s.flag .LOOMS_STAT_CONFIGURED then [dDRAM] else [])
  else if d == dHUB then (if s.effState dLOOM == 2 then [dLOOM] else [])
  else if 16 ≤ d && d ≤ 27 then
    [dDRAM] ++ (if s.routed (d - 16) = [] then [] else [dPHY (d - 16)]) ++ [dSH 12]
  else if d == 28 then [dDRAM] ++ (((s.routed 12).map groupOfPort).eraseDups).map dPHY
  else []

/-- What a domain that is going to ON requires stands: the domains of `requires` are ON, and for the hub LOOM is back from
OFF (R310). -/
def State.standing (s : State) (d : Nat) : Bool :=
  (s.requires d).all s.domOn && !(d == dHUB && s.get .DOM_STAT_STATE dLOOM == 2)

/-- Some domain that is ON or going to ON requires `d` to be ON. -/
def State.neededBy (s : State) (d : Nat) : Bool :=
  (List.range 42).any (fun e => e != d && s.effState e == 0 && (s.requires e).contains d)

/-- The hub requires LOOM to be ON or RET. -/
def State.hubNeedsLoom (s : State) : Bool := s.effState dHUB == 0

/-- A domain that takes its oscillator from the reference (R317, R318). -/
def needsRef (d : Nat) : Bool := !(d == dMIF || (33 ≤ d && d ≤ 40))

/-- The reference is lost (14_faults_and_takeover.md R334, source 0x0C): every domain that needs it is held in RET or OFF;
the halves and SEC run from the backup oscillator. -/
def State.refLost (s : State) : Bool :=
  s.gecko 0x0C && s.flt.causes.any (fun g => g.src == 0x0C && g.kind == 3)
def State.refHeld (s : State) (d : Nat) : Bool := needsRef d && 2 ≤ d && d != dSEC && s.refLost

/-- R309: a domain may be placed in a state; ON is forbidden while a domain it requires is fenced, which is held OFF, and
while the reference it needs is lost. -/
def State.domainAllowedBut (s : State) (att : Bool) (d st : Nat) : Bool :=
  bit (allowedMask d) st &&
  (if st == 0 then (s.requires d).all (fun e => !s.domFenced e) && !s.refHeld d
   else if st == 1 then s.mayRetBut att d && !s.neededBy d
   else s.mayOffBut att d && !s.neededBy d && !(d == dLOOM && s.hubNeedsLoom))
def State.domainAllowed (s : State) (d st : Nat) : Bool := s.domainAllowedBut true d st

/-- The detail of a domain event (10_ecrax_opcodes.md R255, R325). -/
def domDetail (old new cause wake x y : Nat) : List Nat :=
  detailOf [(0, 1, old), (1, 1, new), (2, 1, cause), (3, 1, wake), (4, 1, x), (5, 1, y)]

/-- A domain's clock runs, or is asked for: the domain is ON, on its way there, or in its entry to another state (R307). -/
def State.clocked (s : State) (d : Nat) : Bool :=
  (s.get .DOM_STAT_STATE d == 0 || s.effState d == 0) && (!s.flag .DOM_STAT_CLK_STOPPED d || (s.dom d).clkAsk)

/-- The reference, its PLLs and the time clock are to run: `REF_KEEP`, a domain with a running clock, or a CAN controller
that is ON, which needs the time clock itself (R307, R309). -/
def State.refNeeded (s : State) : Bool :=
  s.flag .PWRD_CLK_REF_KEEP || (List.range 42).any (fun d =>
    needsRef d && (s.clocked d || ((d == 30 || d == 31) && s.get .DOM_STAT_STATE d == 0)))

/-- The domains that wait for the reference run their clocks again (R307). -/
def State.clocksBack (s : State) : State :=
  (List.range 42).foldl (fun s d =>
    if (s.dom d).clkAsk then (s.set .DOM_STAT_CLK_STOPPED d 0).modDom d (fun x => { x with clkAsk := false }) else s) s

/-- The reference and the time clock run, and DT is on the time clock (R307, 00_scope.md R11). -/
def State.fastClock (s : State) : State :=
  let s := s.clocksBack
  { ((s.set .PWRD_CLK_REF_RUN 0 1).set .PWRD_CLK_TCLK_RUN 0 1).set .TIME_STAT_SLOW_ONLY 0 0 with
    slowPhase := if s.flag .TIME_STAT_SLOW_ONLY then 0 else s.slowPhase
    slowDue := false }

/-- A tick of the slow clock has come while DT runs on the time clock: DT changes to it when the reference is lost, or is
needed by nothing any more and stops (00_scope.md R11, R307). -/
def State.slowBoundary (s : State) : State :=
  if (if s.flag .PWRD_CLK_REF_RUN then !s.refNeeded else s.slowDue) then
    { ((s.set .PWRD_CLK_REF_RUN 0 0).set .PWRD_CLK_TCLK_RUN 0 0).set .TIME_STAT_SLOW_ONLY 0 1 with
      slowPhase := 0
      slowDue := false }
  else { s with slowDue := false }

/-- A domain on the core rail: CTLA, CTLB, LOOM, HUB, SH0 to SH12, DRAM or SEC (R318, R319). -/
def railDomain (d : Nat) : Bool := d ≤ 3 || (16 ≤ d && d ≤ 29) || d == dSEC

/-- The bound of a step of a return to ON, in µs (R317): 1 regulator, 2 oscillator, 3 memory, 4 logic. -/
def stepUs (d step : Nat) (off : Bool) : Nat :=
  let sel (ret off' : Nat) : Nat := if off then off' else ret
  if step == 1 then sel 5 10
  else if step == 2 then
    (if (16 ≤ d && d ≤ 28) || d == 30 || d == 31 || d == dSEC then 1 else if 33 ≤ d then 20 else 50)
  else if step == 3 then
    (if d ≤ 1 then sel 20 150 else if d == dLOOM then sel 20 80 else if d == dHUB then sel 10 30
     else if 16 ≤ d && d ≤ 28 then sel 10 40 else if d == dSEC then sel 20 40 else 1)
  else if d ≤ 1 then 5 else if d == dLOOM then 7 else if d ≤ 28 then 4 else if d == dDRAM then sel 15 2000
  else if 33 ≤ d && d ≤ 40 then 5 else 3

/-- The DT at which the bound of a step that starts now ends: R317, with the two additions of R318 for a stopped reference
and for the low core rail. -/
def State.stepDue (s : State) (d step : Nat) : Nat :=
  s.dt + 1000 * stepUs d step ((s.dom d).fromSt == 2)
    + (if step == 2 && needsRef d && !s.flag .PWRD_CLK_REF_RUN then 2050000 else 0)
    + (if step == 1 && railDomain d && s.flag .PWRD_AVS_LOW_RAIL then 800000 else 0)

/-- A step of a return to ON starts (R317). -/
def State.beginStep (s : State) (d step : Nat) : State :=
  (s.modDom d (fun x => { x with fails := 0, stepEnd := s.stepDue d step })).set .DOM_STAT_STEP d step

/-- Start a transition (R311, R315, R317): step 1 towards ON, the entry step towards RET or OFF. -/
def State.startTransition (s : State) (d st cause wake : Nat) : State :=
  let s := s.modDom d (fun x => { x with started := s.dt, fails := 0, fromSt := s.get .DOM_STAT_STATE d,
                                          wakeBit := wake })
  let s := s.set .DOM_STAT_TRANS d 1
  let s := s.set .DOM_STAT_TARGET d st
  let s := s.set .DOM_STAT_LAST_CAUSE d cause
  let s := s.set .DOM_STAT_CLK_STOPPED d 0
  let s := s.modDom d (fun x => { x with clkAsk := false })
  if st == 0 then s.beginStep d 1 else s.set .DOM_STAT_STEP d 5

/-- Keep a request in the pending slot. -/
def State.keepPending (s : State) (d st cause : Nat) (q : Option ReqId) (wake : Nat) : State :=
  let s := s.modDom d (fun x => { x with pendBy := q, pendCause := cause, pendWake := wake })
  (s.set .DOM_STAT_PEND_VALID d 1).set .DOM_STAT_PEND_STATE d st

/-- Empty the pending slot. -/
def State.emptyPending (s : State) (d : Nat) : State :=
  let s := s.modDom d (fun x => { x with pendBy := none, pendCause := 0, pendWake := 0 })
  (s.set .DOM_STAT_PEND_VALID d 0).set .DOM_STAT_PEND_STATE d 0

/-- `REQUEST_DROPPED` (R312, R325): `why` is 0 replaced, 1 forbidden at start, 2 fenced; `wake` is the wake bit of the
request. -/
def State.requestDropped (s : State) (d cause wake why st : Nat) : State :=
  s.domainEvent d 1 (domDetail (s.get .DOM_STAT_STATE d) (s.get .DOM_STAT_TARGET d) cause wake why st)

/-- The pending request is replaced (R228, R312): a reply to its tag, or the event for a request without one. -/
def State.replacePending (s : State) (d : Nat) : State :=
  let x := s.dom d
  let st := s.get .DOM_STAT_PEND_STATE d
  let s := match x.pendBy with
    | some q => s.displace q
    | none => s.requestDropped d x.pendCause x.pendWake 0 st
  s.emptyPending d

/-- One request under R312 and R313, which restarts the idle time unless it is the idle policy's own (R311): the state
after it and its status. -/
def State.requestOne (s : State) (d st cause : Nat) (q : Option ReqId) (wake : Nat) : State × Nat :=
  let trans := s.flag .DOM_STAT_TRANS d
  let pend := s.flag .DOM_STAT_PEND_VALID d
  let entered := trans && s.get .DOM_STAT_TARGET d == st
  let s := if cause == 2 then s else s.modDom d (fun x => { x with idleFrom := s.dt })
  if s.domFenced d then
    ((if q.isNone then s.requestDropped d cause wake 2 st else s), stTARGET_FENCED)
  else if !trans && s.get .DOM_STAT_STATE d == st then (s, stOK)
  else if !entered && !s.domainAllowed d st then (s, stDEPENDENCY)
  else if !trans then (s.startTransition d st cause wake, stOK)
  else if cause == 2 && pend && s.get .DOM_STAT_PEND_STATE d == 0 &&
      ((s.dom d).pendCause == 3 || (s.dom d).pendCause == 4) then
    (s.requestDropped d cause wake 0 st, stOK)
  else if entered then
    ((if pend then s.replacePending d else s), stOK)
  else if pend then ((s.replacePending d).keepPending d st cause q wake, stDEFERRED)
  else (s.keepPending d st cause q wake, stDEFERRED)

/-- Request ON for the domains that a domain going to ON requires, the deepest first (R309, R310): with cause 1, but those
in `own`, which the same source asks for, with its cause (R311). -/
def State.bringUp (s : State) (ds own : List Nat) (cause wake : Nat) : State :=
  ds.foldl (fun s d => if own.contains d then (s.requestOne d 0 cause none wake).1 else (s.requestOne d 0 1 none 0).1) s

/-- A request with its dependencies: towards ON, the required domains come first (R310), unless R309 forbids it (R312). -/
def State.requestDomain (s : State) (d st cause : Nat) (q : Option ReqId := none) (wake : Nat := 0)
    (own : List Nat := []) : State × Nat :=
  if st == 0 && !s.domFenced d && s.domainAllowed d 0 then
    let need := s.requires d
    let s := s.bringUp ((need.flatMap s.requires) ++ need) own cause wake
    s.requestOne d 0 cause q wake
  else s.requestOne d st cause q wake

/-- Request ON for several domains with one cause. -/
def State.requestOn (s : State) (ds : List Nat) (cause : Nat) (wake : Nat := 0) : State :=
  ds.foldl (fun s d => (s.requestDomain d 0 cause none wake ds).1) s

/-- A wake source may request (R321): bit 0 is always 1. -/
def State.wakeOn (s : State) (b : Nat) : Bool := b == 0 || bit (s.get .PWRD_WAKE_EN_SRC_EN) (b - 1)

/-- A capture alone wakes no SKLk that sleeps (17_registers.md R395). -/
def State.captureOnly (s : State) (d : Nat) : Bool := 33 ≤ d && d ≤ 40 && !s.skeinTested (d - 33)

/-- R310: the device requests ON, with cause 3, for every domain whose present state has become forbidden; what only an
attach forbids waits while `WAKE_EN` bit 2 is 0 (R321). -/
def State.settleDomains (s : State) : State :=
  (List.range 42).foldl (fun s d =>
    if !s.flag .DOM_STAT_TRANS d && !s.domFenced d && s.get .DOM_STAT_STATE d != 0 && !s.captureOnly d
        && !s.domainAllowedBut (s.wakeOn 2) d (s.get .DOM_STAT_STATE d) then
      (s.requestDomain d 0 3).1
    else s) s

/-- The save of a retention list and its seal (R315, R316). -/
def State.saveList (s : State) (d : Nat) : State :=
  let cells := s.regs.filter (isKeptOf d)
  let n := (s.dom d).saves + 1
  let digest := Config.sha384 (cells.flatMap (fun c => [c.fld.ctorIdx, c.unit, c.val]))
  s.modDom d (fun x => { x with saved := some ⟨cells, n, Config.sealCode s.sec.sealKey d n digest⟩, saves := n })

/-- The bytes of saved lists and tags held in the loom die's retention memory (`PWRD_RETMEM.LIST_BYTES`). -/
def State.noteSaved (s : State) : State :=
  s.set .PWRD_RETMEM_LIST_BYTES 0
    ((List.range 42).foldl (fun n d =>
      if (s.dom d).saved.isSome && !(33 ≤ d && d ≤ 40) then n + listBytes d + 16 else n) 0)

/-- A domain's pending request starts in the same DT tick as the completion, or is dropped (R312). -/
def State.startPending (s : State) (d : Nat) : State :=
  if s.flag .DOM_STAT_PEND_VALID d then
    let x := s.dom d
    let st := s.get .DOM_STAT_PEND_STATE d
    let s := s.emptyPending d
    if st == s.get .DOM_STAT_STATE d then s.markRun x.pendBy
    else if s.domainAllowed d st then
      ((s.requestDomain d st x.pendCause none x.pendWake).1).markRun x.pendBy
    else s.requestDropped d x.pendCause x.pendWake 1 st
  else s

/-- A saturating count of whole microseconds since a DT. -/
def State.usSince (s : State) (t : Nat) : Nat := min ((s.dt - t) / 1000) 65535

/-- The management port's pointer returns to 0 when MIF leaves ON, and what its window had begun is lost
(17_registers.md R384). -/
def State.mifLeft (s : State) (d : Nat) : State :=
  if d == dMIF then
    { s with mgmt := { s.mgmt with pointer := 0, past := false }, winOps := s.winOps.filter (fun w => w.path != .mgmt) }
  else s

/-- The copy of a CAN controller's interrupt that the AON domain keeps when its domain leaves ON (17_registers.md R397). -/
def State.keepInts (s : State) (d : Nat) : State :=
  if (d == 30 || d == 31) && s.get .DOM_STAT_STATE d == 0 then
    s.modCan (d - 30) (fun x => { x with intKept := s.canInts (d - 30) })
  else s

/-- A transition to RET or OFF is complete (R306, R315): LOST fields return to their reset values. A standby half in RET gets no
journal, so it is not hot (14_faults_and_takeover.md R344, R351). -/
def State.finishEntry (s : State) (d : Nat) : State :=
  let st := s.get .DOM_STAT_TARGET d
  let x := s.dom d
  let s := if x.fromSt == 0 then (s.saveList d).noteSaved else s
  let s := ((s.keepInts d).resetRegs (isLostOf d)).mifLeft d
  let s := if d ≤ 1 then s.set .FLT_TOKEN_STANDBY_HOT 0 0 else s
  let s := s.set .DOM_STAT_STATE d st
  let s := s.set .DOM_STAT_TRANS d 0
  let s := s.set .DOM_STAT_STEP d 0
  let s := if st == 1 then s.count .DOM_CNT_RET_CNT d else s.count .DOM_CNT_OFF_CNT d
  s.domainEvent d 0 (detailOf [(0, 1, x.fromSt), (1, 1, st), (2, 1, s.get .DOM_STAT_LAST_CAUSE d), (3, 1, x.wakeBit),
    (4, 2, s.usSince x.started)])

/-- A domain has come ON: the regulator step of those that waited for it alone begins now (R310, R318). -/
def State.renewWaiting (s : State) (d : Nat) : State :=
  (List.range 42).foldl (fun s e =>
    if s.flag .DOM_STAT_TRANS e && s.get .DOM_STAT_TARGET e == 0 && s.get .DOM_STAT_STEP e == 1
        && ((s.requires e).contains d || (e == dHUB && d == dLOOM)) && s.standing e then s.beginStep e 1 else s) s

/-- A transition to ON is complete (R317): the list is restored, or, when its seal fails, the KEPT fields take their
reset values (R316). -/
def State.finishOn (s : State) (d : Nat) (sealOk : Bool) : State :=
  let x := s.dom d
  let us := s.usSince x.started
  let s := if x.saved.isSome && !sealOk then
      ((s.resetRegs (isKeptOf d)).count .PWRD_RETMEM_SEAL_FAIL_CNT 0).domainEvent d 3
        (domDetail x.fromSt 0 (s.get .DOM_STAT_LAST_CAUSE d) x.wakeBit 0 0)
    else s
  let s := (s.modDom d (fun x => { x with saved := none, idleFrom := s.dt })).noteSaved
  let s := s.set .DOM_STAT_STATE d 0
  let s := s.set .DOM_STAT_TRANS d 0
  let s := s.set .DOM_STAT_STEP d 0
  let s := s.set .DOM_TIME_LAST_US d us
  let s := s.set .DOM_TIME_MAX_US d (max us (s.get .DOM_TIME_MAX_US d))
  (s.renewWaiting d).domainEvent d 0 (detailOf [(0, 1, x.fromSt), (1, 1, 0), (2, 1, s.get .DOM_STAT_LAST_CAUSE d),
    (3, 1, x.wakeBit), (4, 2, us)])

/-- A step of the start-up has brought a domain ON (16_start_up.md R374; notes/assumptions/12.md): its transition, begun
now where none runs, is complete. One that leaves ON goes on (R314). -/
def State.forceOn (s : State) (d : Nat) : State :=
  if s.domFenced d || s.domOn d then s
  else if s.flag .DOM_STAT_TRANS d then
    (if s.get .DOM_STAT_TARGET d == 0 then (s.finishOn d true).startPending d else s)
  else ((s.startTransition d 0 1 0).finishOn d true).startPending d

/-- The selvage closes round a domain (R314, R333): the transition is abandoned, the domain held OFF, its pending
request dropped. Its LOST fields return to their reset values; a list saved before stays in retention memory, and the KEPT
fields come back with the domain (00_scope.md R8, R316; notes/assumptions/13.md). -/
def State.fenceDomain (s : State) (d : Nat) : State :=
  let s := if s.flag .DOM_STAT_PEND_VALID d then
      (s.requestDropped d (s.dom d).pendCause (s.dom d).pendWake 2 (s.get .DOM_STAT_PEND_STATE d)).emptyPending d
    else s
  let s := ((s.keepInts d).resetRegs (isLostOf d)).mifLeft d
  let s := s.set .DOM_STAT_FENCED d 1
  let s := s.set .DOM_STAT_STATE d 2
  let s := s.set .DOM_STAT_TARGET d 2
  let s := s.set .DOM_STAT_TRANS d 0
  let s := (s.set .DOM_STAT_CLK_STOPPED d 0).modDom d (fun x => { x with clkAsk := false })
  s.set .DOM_STAT_STEP d 0

/-- The fence of a domain is lifted; it stays OFF (R314, R337). -/
def State.unfenceDomain (s : State) (d : Nat) : State := s.set .DOM_STAT_FENCED d 0

/-- An access, request or wake of a domain: its idle time restarts and its clock runs, at once or, where the reference is
stopped, when it runs again (R307, R313). -/
def State.touch (s : State) (d : Nat) : State :=
  let s := s.modDom d (fun x => { x with idleFrom := s.dt })
  if !s.flag .DOM_STAT_CLK_STOPPED d then s
  else if needsRef d && !s.flag .PWRD_CLK_REF_RUN && !((d ≤ 1 || d == dSEC) && s.refLost) then
    s.modDom d (fun x => { x with clkAsk := true })
  else s.set .DOM_STAT_CLK_STOPPED d 0

/-- A wake source was detected: recorded, and, when enabled, it requests ON for its domains (R321). -/
def State.wake (s : State) (bitNo : Nat) (ds : List Nat) : State :=
  let s := s.setBit .PWRD_WAKE_LAST_SRC 0 bitNo
  let en := s.wakeOn bitNo
  let s := if en then s.touch (dCTL s.lead) else s
  if en && !ds.isEmpty then
    let s := if ds.any (fun d => !s.domOn d) then s.count .PWRD_WAKE_LAST_WAKE_CNT 0 else s
    s.requestOn ds 3 bitNo
  else s

/-- What needs domains asks for those that are not ON, and waits (R310): with cause 3 for what has happened, 1 for the lead
half's own use (R311). -/
def State.wakeFor (s : State) (ds : List Nat) (cause : Nat := 3) : State × Bool :=
  if ds.all s.domOn then (ds.foldl State.touch s, true)
  else (s.requestOn (ds.filter (fun d => !s.domOn d)) cause, false)

/-- The same for what a wake source has reported: while its bit of `WAKE_EN` is 0 it only waits (R321). -/
def State.wakeBy (s : State) (bitNo : Nat) (ds : List Nat) : State × Bool :=
  if s.wakeOn bitNo || ds.all s.domOn then s.wakeFor ds else (s, false)

end Sys2Proof.Machine
end

