-- ==== Sys2Proof/Machine/Records.lean ====
section
/-! DEFINITION. Endpoint contexts, weft records, DRAM pages and credits (07_shuttle_engines.md R150 to R164,
08_loom_function.md R184 to R206): the operations. -/

namespace Sys2Proof.Machine

/-! ### Completion statuses (08_loom_function.md R186) -/

def wOK : Nat := 0
def wSHORT : Nat := 1
def wSTALL : Nat := 2
def wBABBLE : Nat := 3
def wXACT_ERR : Nat := 4
def wMISSED : Nat := 5
def wABORT : Nat := 6
def wNO_BANDWIDTH : Nat := 7
def wPOOL_EXHAUSTED : Nat := 8
def wDEVICE_GONE : Nat := 9
def wTARGET_FENCED : Nat := 0xA
def wENUM_TIMEOUT : Nat := 0xB
def wSEQ_GAP : Nat := 0x20
def wWINDOW : Nat := 0x21
def wNO_CREDIT : Nat := 0x22
def wBAD_HANDLE : Nat := 0x23
def wBAD_RECORD : Nat := 0x24

/-! ### Contexts -/

/-- The context with a number, when it is allocated. -/
def State.ctx? (s : State) (n : Nat) : Option Ctx := s.loom.ctxs.find? (fun c => c.num == n)

def State.modCtx (s : State) (n : Nat) (f : Ctx → Ctx) : State :=
  { s with loom := { s.loom with ctxs := s.loom.ctxs.map (fun c => if c.num == n then f c else c) } }

/-- Firmware, or the Loom function, has written a context to DRAM as it stands (07_shuttle_engines.md R162). -/
def State.commitCtx (s : State) (n : Nat) : State :=
  { s with loom := { s.loom with copies := s.loom.copies.map (fun l => l.filter (fun d => d.num != n)) } }

/-- The global handle of a context (08_loom_function.md R187). -/
def State.handleOf (s : State) (n : Nat) : Nat := s.idx * 16384 + n

/-- The next free context number after `n`, wrapping from 0x3FFF to 0x0010 (07_shuttle_engines.md R161). -/
def nextFree (used : List Nat) (ep0 : Bool) : Nat → Nat → Option Nat
  | 0, _ => none
  | fuel + 1, n =>
    let m := if n < 0x0010 || n ≥ 0x3FFF then 0x0010 else n + 1
    if used.contains m || (ep0 && m == 0x3FFF) then nextFree used ep0 fuel m else some m

/-- Set the free count and the lowest one since the last read (R163). -/
def State.setFree (s : State) (v : Nat) : State :=
  (s.set .SHF_POOL_FREE 0 v).set .SHF_POOL_MIN_FREE_MIN 0 (min v (s.get .SHF_POOL_MIN_FREE_MIN))

/-- Allocate a context round robin (R161), out of a reservation when `reserved`. -/
def State.allocCtx (s : State) (ep0 reserved : Bool) (mk : Nat → Ctx) : State × Option Nat :=
  if !reserved && s.get .SHF_POOL_FREE == 0 then (s, none)
  else match nextFree (s.loom.ctxs.map (·.num)) ep0 16368 s.loom.lastAlloc with
    | none => (s, none)
    | some n =>
      let s := { s with loom := { s.loom with ctxs := s.loom.ctxs ++ [mk n], lastAlloc := n } }
      (if reserved then s else s.setFree (s.get .SHF_POOL_FREE - 1), some n)

/-- The Shuttle that serves a PHY group: its own while that is in service, else SH12 while it has the group or takes it
over (R143, R168, R170). -/
def State.servingGroup (s : State) (g : Nat) : Option Nat :=
  if s.get .SHT_STAT_STATE g ≤ 1 then some g
  else if s.get .SHT_STAT_PHYG 12 == g && (s.get .SHT_STAT_STATE 12 == 3 || s.get .SHT_STAT_STATE 12 == 5) then some 12
  else none

/-- The Shuttle that serves a port. -/
def State.serving (s : State) (n : Nat) : Option Nat := s.servingGroup (groupOfPort n)

/-- A packet size's bytes and additional transactions (R162). -/
def Ctx.maxPacket (c : Ctx) : Nat := c.mps % 2048
def Ctx.isIn (c : Ctx) : Bool := 128 ≤ c.epAddr || c.typ == 0
def Ctx.isIso (c : Ctx) : Bool := c.typ == 1

/-- The default share of a handle in bytes (R164). -/
def State.defaultShare (s : State) (c : Ctx) : Nat :=
  if c.typ == 1 then
    s.get .SHF_SHARE_ISO_MS * 8 * (c.maxPacket * (1 + c.mps / 2048 % 4)) / max c.interval 1
  else if c.typ == 3 then 4096 * s.get .SHF_SHARE_INTR_4K
  else 16384 * s.get .SHF_SHARE_BULK_16K

/-- The lane a handle opens on (08_loom_function.md R188). -/
def Ctx.firstLane (c : Ctx) : Nat := if c.isIso then 8 else c.num % 8

/-! ### Pages (07_shuttle_engines.md R164) -/

/-- The pages a payload takes on one channel (notes/assumptions/23.md). -/
def pagesFor (len : Nat) : Nat := (len + 4095) / 4096

/-- The channels a record is written to: one for isochronous data, both for the rest while both work (R203). -/
def State.copies (s : State) (c : Ctx) : Nat := if c.isIso || s.loom.lostChan != 0 then 1 else 2

/-- The pages of `len` bytes of IN data that are to form records of at most 16,368 bytes (08_loom_function.md R183). -/
def partPages (len : Nat) : Nat := 4 * (len / 16368) + pagesFor (len % 16368)

/-- The pages of a handle's records, and of the data that form none yet, on one channel that carries them. -/
def Ctx.pages (c : Ctx) : Nat :=
  (c.recs.map (fun r => pagesFor r.data.length)).sum + (c.stored.map (fun r => pagesFor r.data.length)).sum
    + partPages c.partData.length

/-- The pages of the EVENT records of a handle, which lie on both channels (08_loom_function.md R203). -/
def Ctx.eventPages (c : Ctx) : Nat := ((c.recs.filter (fun r => r.typ == 7)).map (fun r => pagesFor r.data.length)).sum

/-- The most pages that `b` bytes can come to take in at most `n` records. -/
def creditPages (b n : Nat) : Nat := min b ((b + 4095 * n) / 4096)

/-- The pages reserved for the OUT credit a handle has and has not used: its host has at most 64 records under way
(08_loom_function.md R196, R190; notes/assumptions/99.md). -/
def Ctx.reserve (c : Ctx) : Nat :=
  let b := (c.outLimit + 2 ^ 32 - c.outRecv) % 2 ^ 32
  if !c.isOpen || 2 ^ 31 ≤ b then 0 else creditPages b (64 - c.stored.length)

/-- A handle's records lie on a channel: isochronous ones on the channel of the group's own Shuttle while it works, the
rest on both (R151, R166, 08_loom_function.md R203). -/
def State.liesOn (s : State) (c : Ctx) (ch : Nat) : Bool :=
  !c.isIso || groupOfPort c.port % 2 == ch || bit s.loom.lostChan (1 - ch)

/-- The free 4 KiB pages of a working channel: neither taken by a record nor reserved for credit (R164, R196). -/
def State.freeOn (s : State) (ch : Nat) : Nat :=
  s.loom.pages - (s.loom.ctxs.map (fun c => if s.liesOn c ch then c.pages + c.reserve else c.eventPages)).sum

/-- The channels that work (R166). -/
def State.workingChans (s : State) : List Nat :=
  if !s.loom.dramUp then [] else [0, 1].filter (fun ch => !bit s.loom.lostChan ch)

/-- The free 4 KiB pages of the working channels (R164, R166). -/
def State.freePages (s : State) : Nat := (s.workingChans.map s.freeOn).sum

/-- Every channel that carries a handle's records has `k` free pages, and one carries them. -/
def State.pagesFree (s : State) (c : Ctx) (k : Nat) : Bool :=
  let chs := s.workingChans.filter (s.liesOn c)
  !chs.isEmpty && chs.all (fun ch => k ≤ s.freeOn ch)

/-- `SHF_PAGES` follows. -/
def State.notePages (s : State) : State := s.set .SHF_PAGES_FREE_PAGES 0 s.freePages

/-! ### Device records -/

/-- The device keeps at most 32,768 unacknowledged records of a handle (08_loom_function.md R190). -/
def Ctx.recsFull (c : Ctx) : Bool := 32768 ≤ c.recs.length

/-- Give a record of a handle the next sequence number and its pages (08_loom_function.md R185, R190, R203). -/
def State.numberRec (s : State) (n : Nat) (r : WRec) : State :=
  (s.modCtx n (fun c => { c with
    recs := c.recs ++ [{ r with seq := c.txNext }], txNext := (c.txNext + 1) % 65536,
    used := c.used + r.data.length })).notePages

/-- Form a sequenced device record on a handle with the DT it carries: at the limit of R190 it waits; on a handle whose
`WAKE` flag is set it is a wake cause (R207). -/
def State.formAt (s : State) (n typ flags status : Nat) (data : List Nat) (stamp : Nat) : State :=
  match s.ctx? n with
  | none => s
  | some c =>
    let r : WRec := { handle := s.handleOf n, typ := typ, flags := flags, status := status, dtLow := stamp % 2 ^ 32,
                      data := data }
    let s := if c.recsFull then s.modCtx n (fun c => { c with unformed := c.unformed ++ [r] }) else s.numberRec n r
    if c.wake then s.flagWake else s

/-- Form a record that carries the present DT. -/
def State.formRec (s : State) (n typ flags status : Nat) (data : List Nat) : State :=
  s.formAt n typ flags status data s.clock

/-- The `LANE_MOVED` of a handle has been formed: the `HANDLE_MAP` that waited for it is answered with the lane before (R189).
-/
def State.laneMoved (s : State) (n : Nat) : State :=
  match s.ecx.mapBy.find? (fun q => q.2.1 == n) with
  | some q =>
    let s := { s with ecx := { s.ecx with mapBy := s.ecx.mapBy.erase q } }
    s.answer q.1 q.1.quiet stOK [q.2.2]
  | none => s

/-- The host has acknowledged records: at most `k` of those that waited take their numbers. -/
def State.formWaiting : Nat → Nat → State → State
  | 0, _, s => s
  | k + 1, n, s =>
    match s.ctx? n with
    | some c =>
      match c.unformed with
      | [] => s
      | r :: rest =>
        if c.recsFull then s
        else
          let s := (s.modCtx n (fun c => { c with unformed := rest })).numberRec n r
          State.formWaiting k n (if r.typ == 7 && r.status == 4 then s.laneMoved n else s)
    | none => s

/-- A device EVENT record (R201). -/
def State.formEventRec (s : State) (n code : Nat) (data : List Nat) : State := s.formRec n 7 0 code data

/-- The Shuttle that serves a port, or its own group's where none does. -/
def State.shuttleOf (s : State) (n : Nat) : Nat := (s.serving n).getD (groupOfPort n)

/-- A transfer of `bytes` has ended: the counters of its context, its Shuttle and its port (07_shuttle_engines.md R162,
R177, 04_port_power.md R103). -/
def State.noteXfer (s : State) (c : Ctx) (bytes : Nat) : State :=
  let s := s.modCtx c.num (fun c => { c with
    xfers := satAdd c.xfers 1 0xFFFFFFFF, bytes := c.bytes + bytes, epoch := c.epoch + 1 })
  let s := match s.serving c.port with
    | some j => s.count .SHT_XFER_XFER_CNT j
    | none => s
  if c.port < 96 then
    (if c.isIn && !(c.typ == 0 && c.setup.getD 0 0 < 128) then s.count .PWR_BIN c.port bytes
     else s.count .PWR_BOUT c.port bytes)
  else s

/-- A `COMPLETION` that carries a DT (R185, R198): the transfer has ended, with its status and the bytes transferred; an
interval completed `MISSED` is counted (07_shuttle_engines.md R152, R177). -/
def State.completionAt (s : State) (n status bytes stamp : Nat) : State :=
  match s.ctx? n with
  | none => s
  | some c =>
    let s := (s.formAt n 3 0 status (toLE 4 bytes) stamp).noteXfer c bytes
    let s := s.modCtx n (fun c => { c with xstate := 0, xferDone := 0, xferLen := 0 })
    if status == wMISSED then s.count .SHT_ERR_ISO_MISS_CNT (s.shuttleOf c.port) else s

/-- A `COMPLETION` that carries the present DT. -/
def State.completion (s : State) (n status bytes : Nat) : State := s.completionAt n status bytes s.clock

/-! ### ACK and CREDIT records -/

/-- Stage an unsequenced record on a lane (R202). -/
def State.stage (s : State) (lane : Nat) (r : WRec) : State := s.modLane lane (fun l => { l with acks := l.acks ++ [r] })

/-- The room a record takes in a transfer (R183). -/
def recRoom (r : WRec) : Nat := 16 + (r.data.length + 15) / 16 * 16

/-- The 16 KiB of staging for ACK and CREDIT records hold room for `k` more of the largest (R181;
notes/assumptions/120.md). -/
def State.stagingFree (s : State) (k : Nat) : Bool :=
  ((s.loom.lanes.map (fun l => (l.acks.map recRoom).sum)).sum + 32 * k ≤ 16384 : Bool)

/-- The cumulative ACK of a handle (R192): its DT is that of the completion of the record it names, its burst the one that
completed (notes/assumptions/126.md). -/
def State.ackRec (s : State) (c : Ctx) (burst bcount : Nat) : WRec :=
  { handle := s.handleOf c.num, typ := 5, seq := c.rxAck, burst := burst, bcount := bcount, dtLow := c.ackDt % 2 ^ 32 }

/-- The CREDIT of a handle (R195, R196). -/
def State.creditRec (s : State) (c : Ctx) : WRec :=
  { handle := s.handleOf c.num, typ := 6, data := toLE 4 c.outLimit ++ [0, 0, 0, 0], dtLow := s.clock % 2 ^ 32 }

/-- The staging memory is full: a handle's ACK and CREDIT follow once the host has read others (R181). -/
def State.stageLater (s : State) (c : Ctx) : State :=
  s.modLane c.lane (fun l => { l with regen := if l.regen.contains c.num then l.regen else l.regen ++ [c.num] })

/-- Stage a cumulative ACK on the handle's lane while the function is configured (R192). -/
def State.stageAck (s : State) (c : Ctx) (burst bcount : Nat) : State :=
  if !s.flag .LOOMS_STAT_CONFIGURED then s
  else if s.stagingFree 1 then s.stage c.lane (s.ackRec c burst bcount)
  else s.stageLater c

/-- Stage a CREDIT on the handle's lane while the function is configured (R196). -/
def State.stageCredit (s : State) (n : Nat) : State :=
  match s.ctx? n with
  | none => s
  | some c =>
    if !s.flag .LOOMS_STAT_CONFIGURED then s
    else if !s.stagingFree 1 then s.stageLater c
    else (s.stage c.lane (s.creditRec c)).modCtx n (fun c => { c with outSent := c.outLimit })

/-- Raise a handle's OUT credit limit to what is due to it, where the free pages can be reserved for it, and send the
CREDIT once the limit has risen by `CREDIT_STEP` (R196). -/
def State.grant (s : State) (n : Nat) : State :=
  match s.ctx? n with
  | none => s
  | some c =>
    let more := { c with outLimit := c.outDue }.reserve - c.reserve
    let s := if c.outDue != c.outLimit && s.pagesFree c more then
        (s.modCtx n (fun c => { c with outLimit := c.outDue })).notePages else s
    match s.ctx? n with
    | some c =>
      if 16384 * s.get .LOOMS_CFG_CREDIT_STEP ≤ (c.outLimit + 2 ^ 32 - c.outSent) % 2 ^ 32 then s.stageCredit n else s
    | none => s

/-- Pages have returned: the handles whose credit waited for pages are granted it (R196). -/
def State.grantAll (s : State) : State :=
  (s.loom.ctxs.filter (fun c => c.isOpen && c.outDue != c.outLimit)).foldl (fun s c => s.grant c.num) s

/-- A refusal of a host record (R193): an ACK with the refusal code and the refused number, once per handle and
transfer, on the lane of an open handle (R189), else on the lane of the record. A handle that is not open has no cumulative
value, and the refusal has 0 there (DESIGN CHOICE, notes/assumptions/176.md). -/
def State.refuseRec (s : State) (lane : Nat) (r : WRec) (code : Nat) : State :=
  let s := if code == wSEQ_GAP || code == wWINDOW then s.count .LOOMS_ERR_GAP_CNT 0 else s
  if (s.lane lane).refused.contains r.handle then s
  else
    let own := (s.ctx? (r.handle % 16384)).filter (fun c => s.handleOf c.num == r.handle && c.isOpen)
    let seq := (own.map (·.rxAck)).getD 0
    let s := s.modLane lane (fun l => { l with refused := l.refused ++ [r.handle] })
    let s := s.stage ((own.map (·.lane)).getD lane)
      { handle := r.handle, typ := 5, seq := seq, status := code, dtLow := s.clock % 2 ^ 32,
        data := toLE 2 r.seq ++ [0, 0, 0, 0, 0, 0] }
    s.loomEvent 8 r.handle code

/-- The oldest stored host record of a handle is complete: the cumulative value advances and its pages return. Its burst is
acknowledged with its last record, and at once after a record flagged `END` or `URGENT_ACK`; the OUT credit follows (R192,
R196). -/
def State.recordDone (s : State) (n : Nat) : State :=
  match s.ctx? n with
  | none => s
  | some c =>
    match c.stored with
    | [] => s
    | r :: rest =>
      let raise := if r.typ == 0 then r.data.length else 0
      let s := (s.modCtx n (fun c => { c with
        stored := rest, rxAck := r.seq, ackDt := s.clock, doneBurst := r.burst, doneCnt := r.bcount,
        used := c.used - r.data.length, outDue := (c.outDue + (raise - c.debt)) % 2 ^ 32,
        debt := c.debt - raise })).notePages
      let s := if r.askAck || r.flags % 2 == 1 || bit r.flags 3 then
          (match s.ctx? n with | some c => s.stageAck c r.burst r.bcount | none => s) else s
      (s.grant n).grantAll

/-- Complete the oldest `k` stored host records of a handle. -/
def State.recordsDone (s : State) (n : Nat) : Nat → State
  | 0 => s
  | k + 1 => (s.recordDone n).recordsDone n k

/-- A stored record is marked: the device, or the Shuttle, has acted on it (R192). -/
def markDone (seq : Nat) (l : List WRec) : List WRec :=
  l.map (fun r => if r.seq == seq then { r with status := 1 } else r)

/-- The number of marked records at the head of a handle's stored ones. -/
def Ctx.doneHead (c : Ctx) : Nat := (c.stored.takeWhile (fun r => r.status == 1)).length

/-- The oldest stored record that is not marked. -/
def Ctx.current (c : Ctx) : Option WRec := (c.stored.dropWhile (fun r => r.status == 1)).head?

/-- Every stored record of a handle completes; the next one is sent from its start. -/
def State.settleStored (s : State) (n : Nat) : State :=
  match s.ctx? n with
  | some c => (s.recordsDone n c.stored.length).modCtx n (fun c => { c with recOff := 0 })
  | none => s

/-- Data committed and not yet in a record form one, with `END` (R152, R167). -/
def State.flushPart (s : State) (n : Nat) : State :=
  match s.ctx? n with
  | some c => if c.partData.isEmpty then s
    else ((s.formRec n 0 1 wOK c.partData).modCtx n (fun c => { c with partData := [] })).notePages
  | none => s

/-- The bytes that the read credit of a bulk IN handle still asks for (08_loom_function.md R197): none for no limit. -/
def Ctx.readLeft (c : Ctx) : Option Nat :=
  if c.unlimited then none
  else
    let left := (c.inLimit - c.inLimit % c.maxPacket + 2 ^ 32 - c.inRead) % 2 ^ 32
    some (if 2 ^ 31 ≤ left then 0 else left)

/-- The read credit of a bulk IN handle asks the Shuttle to read (08_loom_function.md R197, R198). -/
def Ctx.asksRead (c : Ctx) : Bool := 16 ≤ c.num && c.isOpen && c.typ == 2 && c.isIn && c.readLeft != some 0

/-- No Shuttle serves the handle's port: what it has open completes `TARGET_FENCED`, a read request too, whose credit is lowered
to the bytes read as by an ABORT (01_architecture.md R25; the lowering: DESIGN CHOICE, notes/assumptions/184.md). -/
def State.handleFenced (s : State) (c : Ctx) : State :=
  let s := s.flushPart c.num
  let s := if !c.stored.isEmpty || c.xstate != 0 || c.asksRead then s.completion c.num wTARGET_FENCED c.xferDone else s
  let s := if c.asksRead then s.modCtx c.num (fun c => { c with inLimit := c.inRead, unlimited := false }) else s
  s.settleStored c.num

/-- Close a handle (R201, 07_shuttle_engines.md R161): the data it has committed form a record, the transfer in progress and
the stored OUT records complete with the cause's status, and `HANDLE_CLOSING` is the last record formed. -/
def State.closeHandle (s : State) (n cause : Nat) : State :=
  let s := s.flushPart n
  match s.ctx? n with
  | none => s
  | some c =>
    if !c.isOpen then s.modCtx n (fun c => { c with closing := true, xstate := 4 })
    else
      let s := if !c.stored.isEmpty || c.xstate != 0 then s.completion n cause c.xferDone else s
      let s := s.settleStored n
      let s := s.formEventRec n 2 (toLE 2 cause)
      let lane := c.lane
      let s := (s.modCtx n (fun c => { c with isOpen := false, closing := true, xstate := 4 })).notePages
      let s := { s with loom := { s.loom with schedule := s.loom.schedule.filter (fun m => m != n) } }
      if 16 ≤ n then s.set .LOOMS_LANE_HANDLES lane (s.get .LOOMS_LANE_HANDLES lane - 1) else s

/-- A handle that takes host DATA (R196). -/
def Ctx.takesData (c : Ctx) : Bool := c.typ == 0 || c.epAddr < 128

/-- Open a handle (R188, R190, R195 to R197, R201): both sequence spaces and the credits begin anew, records of an earlier
opening that the host has not acknowledged go first, and firmware adds the endpoint to the schedule
(07_shuttle_engines.md R148). Burst identifiers run on (notes/assumptions/146.md). -/
def State.openHandle (s : State) (n : Nat) : State :=
  match s.ctx? n with
  | none => s
  | some c =>
    if c.isOpen then s
    else
      let sh := s.defaultShare c
      let lim := if c.takesData then sh else 0
      let s := s.modCtx n (fun c => { c with
        isOpen := true, closing := false, xstate := 0, share := sh, halted := false, toggle := 0, recOff := 0, errRun := 0,
        rxNext := 0, rxAck := 65535, txNext := 0, txAck := 65535, old := c.recs.length, outRecv := 0, inSent := 0,
        inRead := 0, outLimit := lim, outDue := lim, outSent := lim, debt := 0, inLimit := 0, partData := [],
        xferDone := 0, xferLen := 0, lane := c.firstLane, unlimited := c.typ == 3 })
      let s := { s.notePages.commitCtx n with loom := { (s.commitCtx n).loom with schedule := s.loom.schedule ++ [n] } }
      let s := s.addTo .LOOMS_LANE_HANDLES c.firstLane 1
      s.formEventRec n 1 (toLE 2 c.devEp0 ++ [c.typ + 4 * c.speed, c.epAddr])

/-- A handle closes and its context stays with its device: a change of configuration or alternate setting (R150,
R156). -/
def State.shutHandle (s : State) (n cause : Nat) : State :=
  match s.ctx? n with
  | some c => if c.isOpen then (s.closeHandle n cause).modCtx n (fun c => { c with closing := false }) else s
  | none => s

/-- A context returns to the pool (R161): its handle is closed and no IN record of it is unacknowledged. -/
def State.releaseCtx (s : State) (n : Nat) : State :=
  { (s.setFree (s.get .SHF_POOL_FREE + 1)).commitCtx n with loom := { (s.commitCtx n).loom with
    ctxs := s.loom.ctxs.filter (fun c => c.num != n) } }

/-- Contexts of a device whose handles never opened return at once; the others close (R161). -/
def State.dropContexts (s : State) (p : Ctx → Bool) (cause : Nat) : State :=
  (s.loom.ctxs.filter p).foldl (fun s c =>
    let s := s.closeHandle c.num cause
    match s.ctx? c.num with
    | some c => if c.recs.isEmpty then s.releaseCtx c.num else s
    | none => s) s

/-! ### Devices -/

def State.dev? (s : State) (port route : Nat) : Option Dev :=
  s.loom.devs.find? (fun d => d.port == port && d.route == route)

def State.modDev (s : State) (port route : Nat) (f : Dev → Dev) : State :=
  { s with loom := { s.loom with devs := s.loom.devs.map (fun d => if d.port == port && d.route == route then f d else d) } }

def State.dropDev (s : State) (port route : Nat) : State :=
  { s with loom := { s.loom with devs := s.loom.devs.filter (fun d => !(d.port == port && d.route == route)) } }

/-- The number of waiters in the context queue (R163). -/
def State.noteWaiting (s : State) : State :=
  s.set .SHF_POOL_WAITING 0 (s.loom.devs.filter (·.waiting)).length

/-- What remains of a device's reservation returns to the pool (R163). -/
def State.freeReserve (s : State) (d : Dev) : State :=
  if d.reserved == 0 then s
  else (s.modDev d.port d.route (fun d => { d with reserved := 0 })).setFree (s.get .SHF_POOL_FREE + d.reserved)

/-- A device ends: its handles complete with the cause, its contexts and its reservation return (R159, R161). -/
def State.endDev (s : State) (d : Dev) (cause : Nat) : State :=
  let s := s.freeReserve d
  let s := if d.ep0 == 0x3FFF then s
    else s.dropContexts (fun c => c.devEp0 == d.ep0 && c.port == d.port && !c.closing) cause
  (s.dropDev d.port d.route).noteWaiting

/-- Every device of a port's tree ends, the deepest first. -/
def State.endTree (s : State) (port cause : Nat) : State :=
  (sortBy (fun a b => b.tier < a.tier) (s.loom.devs.filter (fun d => d.port == port))).foldl
    (fun s d => s.endDev d cause) s

end Sys2Proof.Machine
end

