-- ==== Sys2Proof/Machine/Ports.lean ====
section
/-! DEFINITION. The ports: power request and switch states (04_port_power.md R82, R83), allocation and advertisement
(R94 to R102), attach states (05_port_lifecycle.md R117), effective modes and mode changes (R107 to R112), logical
detach (R110) and the start of enumeration (07_shuttle_engines.md R154, R163): the operations. -/

namespace Sys2Proof.Machine

/-! ### Events and names -/

/-- The loom die reads the skein: the link works and the loom die is out of reset (03_feeds.md R55). -/
def State.linkReads (s : State) (k : Nat) : Bool := !s.linkDead k && !s.pins.porstLow && !s.warmReset

/-- A port power event: its bit in `PWR_EVT` and, while the loom die reads the skein, its record
(10_ecrax_opcodes.md R255). -/
def State.powerEvent (s : State) (n code : Nat) : State :=
  let s := s.setBit .PWR_EVT n code
  if !s.linkReads (skeinOfPort n) then s
  else s.postEvent 1 n code
    (detailOf [(0, 1, s.get .PWR_STAT_STATE n), (1, 1, s.get .PWR_STAT_RP_ADV n), (2, 2, s.get .PWR_I n),
      (4, 2, s.get .PWR_STAT_ALLOC_MA n)])

/-- A port lifecycle event: its bit in `PORT_LEVT` and its record (05_port_lifecycle.md R126). -/
def State.lifeEvent (s : State) (n code : Nat) (detail : List (Nat × Nat × Nat)) : State :=
  if s.pins.porstLow then s else (s.setBit .PORT_LEVT n code).postEvent 2 n code (detailOf detail)

/-- A skein event of class 4 (10_ecrax_opcodes.md R255). -/
def State.effBudget (s : State) (k : Nat) : Nat :=
  min (s.get .SKN_BUDGET_BUDGET_MA k + s.get .SKN_LOAN_LOAN_MA k) (1000 * s.get .SKN_CFG_IRATED k)

def State.skeinEvent (s : State) (k code : Nat) : State :=
  let st := s.get .SKN_STAT_PG k + 2 * s.get .SKN_STAT_SETTLING k + 4 * s.get .SKN_STAT_SHARING k
    + 8 * s.get .SKN_STAT_HELD k
  if !s.linkReads k then s
  else s.postEvent 4 k code (detailOf [(0, 1, st), (2, 4, s.get .SKN_I k), (6, 2, s.effBudget k)])

def State.skHeld (s : State) (k : Nat) : Bool := s.flag .SKN_STAT_HELD k
def State.typeA (s : State) (n : Nat) : Bool := s.flag .PWR_CFG_CONN n
def State.att (s : State) (n : Nat) : Nat := s.get .PORT_LIFE_ATT_STATE n
/-- Store the attach state; the loom die's AON domain holds it, so nothing changes while that die is in reset. -/
def State.setAtt (s : State) (n a : Nat) : State := if s.pins.porstLow then s else s.set .PORT_LIFE_ATT_STATE n a
def State.mode (s : State) (n : Nat) : Nat := s.get .PORT_MODE_MODE_EFF n
def State.pwr (s : State) (n : Nat) : Nat := s.get .PWR_STAT_STATE n
def State.isAttached (s : State) (n : Nat) : Bool := attached (s.att n)
def skeinPorts (k : Nat) : List Nat := (List.range 12).map (12 * k + ·)

/-- A conducting switch state (R83). -/
def conducting (p : Nat) : Bool := 2 ≤ p && p ≤ 4

/-- A feed of the skein is in `ON` or `LIMIT` (03_feeds.md R58). -/
def State.feedsReady (s : State) (k : Nat) : Bool :=
  [2 * k, 2 * k + 1].any (fun u => s.get .FEED_STAT_STATE u == 5 || s.get .FEED_STAT_STATE u == 6)

/-- A powered skein die is held, or stays held: a configuration check that runs ends (01_architecture.md R18,
04_port_power.md R92). -/
def State.beHeld (s : State) (k : Nat) : State :=
  let was := s.skHeld k
  let s := s.modSkein k (fun x => { x with checkFrom := none })
  if !(s.skein k).powered then s
  else
    let s := (s.set .SKN_STAT_HELD k 1).set .SKN_BSTAT_SUSPENDED k 1
    if was then s else s.skeinEvent k 3

/-- The loom die asserts the hold line of a skein (R18). -/
def State.holdSkein (s : State) (k : Nat) : State := (s.modSkein k (fun x => { x with
  holdLine := true, checkFailed := false })).beHeld k

/-- The link of a skein carries nothing: the skein treats that as an asserted hold line (R18). -/
def State.loseLink (s : State) (k : Nat) : State := (s.beHeld k).modSkein k (fun x => { x with linkSilent := true })

/-- The allocation pass of a skein is due (04_port_power.md R97). -/
def State.duePass (s : State) (k : Nat) : State := s.modSkein k (fun x => { x with passDue := true })

/-- A skein leaves hold: an allocation pass runs before any new attach is powered (01_architecture.md R18,
04_port_power.md R92). -/
def State.leaveHold (s : State) (k : Nat) : State :=
  if !s.skHeld k then s
  else
    let s := s.modSkein k (fun x => { x with
      holdLine := false, linkSilent := false, checkFrom := none, checkDue := false, checkFailed := false })
    (((s.set .SKN_STAT_HELD k 0).set .SKN_BSTAT_SUSPENDED k 0).duePass k).skeinEvent k 4

/-- Both lanes of a link passed the training that a clear ran (14_faults_and_takeover.md R338): the link carries again,
and the configuration check of R18 is due, of a skein that is not held too. -/
def State.linkTrained (s : State) (k : Nat) : State :=
  if (s.skein k).powered then s.modSkein k (fun x => { x with linkSilent := false, checkDue := true }) else s

/-! ### The hub's side of a port (06_transparent_hub.md R131) -/

/-- `PORT_CONNECTION` of hub port n + 1. -/
def State.hubConn (s : State) (n : Nat) : Bool := s.mode n == 2 && (s.port n).gate && (s.port n).pullup

/-- `PORT_OVER_CURRENT` of hub port n + 1 (R131). -/
def State.hubOver (s : State) (n : Nat) : Bool := s.mode n == 2 && (s.pwr n == 6 || s.pwr n == 7)

/-- Store `HUBS_CONN` and `HUBS_SUSP` of a port. -/
def State.hubNote (s : State) (n : Nat) : State :=
  (s.setB .HUBS_CONN (n + 1) (s.hubConn n)).setB .HUBS_SUSP (n + 1) ((s.port n).hpSusp || (s.port n).hpL1)

/-- Set a bit of `wPortChange`. None is ever cleared: the spec lists no request that clears one (DESIGN CHOICE,
notes/assumptions/141.md). -/
def State.hubChange (s : State) (n i : Nat) : State :=
  s.modPort n (fun p => { p with hpChange := bitOr p.hpChange (2 ^ i) })

/-- Run `f`, which may change the mode or the switch state of a port: a change of `PORT_OVER_CURRENT` sets its change bit
(R131). -/
def State.noteOver (s : State) (n : Nat) (f : State → State) : State :=
  let t := f s
  if s.hubOver n == t.hubOver n then t else t.hubChange n 3

/-- The port whose transaction translator serves a port: its own in alternate setting 1 of the hub, that of hub port 1 for
every port in alternate setting 0 (R135). -/
def State.ttOwner (s : State) (n : Nat) : Nat := if s.flag .HUBS_STAT_ALT_MTT then n else 0

/-- Discard the split transactions that `keep` does not keep of the translator that belongs to port `n`, counting them
(R136); `hubPort` is the hub port named with the event. -/
def State.ttDrop (s : State) (n hubPort : Nat) (keep : Split → Bool) (pipe : Bool) : State :=
  let t := (s.port n).tt
  let gone := (t.bufs.filter (fun b => !keep b)).length + (if pipe then t.pipe.flatten.length else 0)
  let s := s.modPort n (fun p => { p with tt := { p.tt with
    bufs := p.tt.bufs.filter keep, pipe := if pipe then [[], [], [], []] else p.tt.pipe } })
  if gone == 0 then s else (s.count .HUBS_TTCNT_DISCARD_CNT 0 gone).hubEvent 6 hubPort

/-- Clear the buffers of the translator that serves a port (R136). -/
def State.ttClear (s : State) (n : Nat) : State := s.ttDrop (s.ttOwner n) (n + 1) (fun _ => false) true

/-! ### Remote wake of the hub (06_transparent_hub.md R137 to R139) -/

/-- A port's resume: out of selective suspend it is driven for 20 ms; an L1 of the port ends and is reported once. -/
def State.resumePort (s : State) (n : Nat) : State :=
  if (s.port n).hpSusp && ((s.port n).hpResume).isNone then s.modPort n (fun p => { p with hpResume := some s.dt })
  else if (s.port n).hpL1 then
    ((s.modPort n (fun p => { p with hpL1 := false })).hubChange n 5).hubNote n
  else s

/-- The hub drives the wake it owes upstream once 5 ms have passed since it entered suspend and its domain is ON (R138); that of
hub port 97 is the Loom function's (08_loom_function.md R209). -/
def State.driveWake (s : State) : State :=
  match s.hub.wakeOf with
  | none => s
  | some p =>
    if s.hub.resume || s.hub.driving || !(s.get .HUBS_STAT_U2_STATE == 5 || s.hub.suspFrom + 5000000 ≤ s.dt) then s
    else
      let w := s.wakeBy 2 [dHUB]
      if !w.2 then w.1
      else
        let s := ({ w.1 with hub := { w.1.hub with driving := true, wakeOf := none } } : State).hubEvent 3 p
        if p == 97 then s.loomNote 5 else s

/-- A wake event of a hub port while the hub is in global suspend or its upstream link in L1 (R138, R139): absorbed in the
host's own resume, else signalled upstream where the host has enabled it. -/
def State.hubWake (s : State) (hubPort : Nat) : State :=
  let st := s.get .HUBS_STAT_U2_STATE
  if st != 4 && st != 5 then s
  else if s.hub.resume then s.hubEvent 4 hubPort
  else if s.hub.driving || !s.flag .HUBS_STAT_RWAKE_EN then s
  else ({ s with hub := { s.hub with wakeOf := some (s.hub.wakeOf.getD hubPort) } } : State).driveWake

/-- Recompute the connection after `f`: a change sets `C_PORT_CONNECTION` and is a wake event; a disconnect disables the port
and clears its TT buffers (R131, R136, R138). -/
def State.reconnect (s : State) (n : Nat) (f : PortH → PortH) : State :=
  let was := s.hubConn n
  let s := s.modPort n f
  let now := s.hubConn n
  let s := if was == now then s else (s.hubChange n 0).hubWake (n + 1)
  let s := if was && !now then
      (s.modPort n (fun p => { p with
        hpEnable := false, hpSusp := false, hpL1 := false, hpReset := none, hpResume := none })).ttClear n
    else s
  s.hubNote n

/-! ### Contexts for enumeration (07_shuttle_engines.md R154, R163) -/

/-- A port goes to `ENUM_FAILED` and raises `ENUM_FAIL` with a status (05_port_lifecycle.md R117, R126). -/
def State.enumFail (s : State) (n status : Nat) : State :=
  let s := (s.setAtt n 8).modPort n (fun p => { p with enumStatus := status })
  s.lifeEvent n 5 [(0, 2, status)]

/-- The addresses in use on a port's bus; the lowest free one of 1 to 126 (R145). -/
def State.freeAddr (s : State) (n : Nat) : Option Nat :=
  (List.range 126).map (· + 1) |>.find? (fun a => !(s.loom.devs.any (fun d => d.port == n && d.addr == a)))

/-- The speed of an EP0 context's default packet size (R154 step 3). -/
def ep0Mps (speed : Nat) : Nat := if speed == 1 then 8 else 64

/-- Begin an attempt of a device (R154 step 1): its EP0 context, then the bus reset; without a context it waits needing
one (R163). -/
def State.beginAttempt (s : State) (d : Dev) : State :=
  let upd (ep0 res : Nat) (s : State) : State :=
    let s := s.modDev d.port d.route (fun d => { d with
      ep0 := ep0, reserved := res, stage := .reset, since := s.dt, attempt := s.dt, tries := d.tries + 1,
      waiting := false, errors := 0, addr := 0 })
    if d.tier == 1 then (s.set .PORT_LIFE_ENUM_TRIES d.port (d.tries + 1)).setAtt d.port 6 else s
  if d.ep0 != 0x3FFF then upd d.ep0 d.reserved s
  else
    let mk := fun n => ({ num := n, port := d.port, devEp0 := n, parent := d.parent, route := d.route } : Ctx)
    let r := s.allocCtx true (0 < d.reserved) mk
    match r.2 with
    | some n => upd n (d.reserved - 1) r.1
    | none =>
      let s := s.modDev d.port d.route (fun d => { d with stage := .poolWait, waiting := true, need := 1, since := s.dt })
      let s := s.noteWaiting
      if d.tier == 1 then (s.setAtt d.port 7).lifeEvent d.port 6 [(0, 2, 1)] else s

/-- Attempt 1 of a port's tier 1 device, unless no Shuttle serves its group (05_port_lifecycle.md R117,
01_architecture.md R25). -/
def State.firstAttempt (s : State) (n : Nat) : State :=
  let s := s.endTree n wABORT
  match s.serving n with
  | none => s.enumFail n wTARGET_FENCED
  | some j =>
    let s := s.set .PORT_LIFE_SHUTTLE n j
    let d : Dev := { port := n, conn := (s.port n).attAt, since := s.dt, attempt := s.dt }
    ({ s with loom := { s.loom with devs := s.loom.devs ++ [d] } } : State).beginAttempt d

/-- A port enters `ENUMERATE` (05_port_lifecycle.md R117). Enumeration needs firmware (R119): in safe hold, and until a
start has restarted the Shuttles, the port waits there (R121, R125); attempt 1 also waits for the end of a logical detach
that still runs (R110). -/
def State.startEnum (s : State) (n : Nat) : State :=
  let s := (s.setAtt n 6).set .PORT_LIFE_ENUM_TRIES n 0
  if s.safeHold then s
  else if s.boot.running || (s.port n).restart then s.modPort n (fun p => { p with restart := true })
  else if (s.port n).detaching then s
  else s.firstAttempt n

/-- Restart a waiter, its need reserved (R163); at a port that no Shuttle serves any more the attempt ends with
`TARGET_FENCED` (05_port_lifecycle.md R117). -/
def State.serveWaiter (s : State) (d : Dev) : State :=
  if d.tier == 1 && (s.serving d.port).isNone then ((s.endTree d.port wTARGET_FENCED).setAtt d.port 6).enumFail d.port wTARGET_FENCED
  else
    let s := s.setFree (s.get .SHF_POOL_FREE - d.need)
    let d' := { d with reserved := d.need, waiting := false, tries := 0 }
    ((s.modDev d.port d.route (fun _ => d')).noteWaiting).beginAttempt d'

/-- Restart waiters while enough contexts are free for the first of them (R163); they are ordered by the time of their
attach or connection. The first argument bounds the number of waiters. -/
def State.serveWaiters : Nat → State → State
  | 0, s => s
  | k + 1, s =>
    match (sortBy (fun a b => a.conn < b.conn) (s.loom.devs.filter (·.waiting))).head? with
    | none => s
    | some d => if s.get .SHF_POOL_FREE < d.need then s else State.serveWaiters k (s.serveWaiter d)

/-- Contexts have been released: the waiters are served (R163). -/
def State.poolService (s : State) : State :=
  if s.safeHold then s else State.serveWaiters (s.loom.devs.filter (·.waiting)).length s

/-! ### Logical detach (05_port_lifecycle.md R110) -/

/-- A fabric holds a session at the port. -/
def State.hasSession (s : State) (n : Nat) : Bool :=
  (s.mode n == 2 && s.att n == 10) || (s.mode n == 3 && (s.att n == 6 || s.att n == 10))

/-- Start a logical detach with the status its handles complete with; where no session is held there is nothing to end. It
clears the buffers of the translator that serves the port, whether the device had a pull-up or not (06_transparent_hub.md R136).
A `TERMINATED` port outside a session gives its contexts back. -/
def State.startDetach (s : State) (n cause : Nat) : State :=
  if s.hasSession n then
    let f := s.mode n
    let s := s.modPort n (fun p => { p with detaching := true, fabric := f, afterAtt := cause })
    if f == 2 then (s.reconnect n (fun p => { p with gate := false })).ttClear n else s
  else if s.mode n == 3 then s.endTree n cause
  else s

/-! ### Power (04_port_power.md R82, R83) -/

/-- The qualify window starts, at the length `QUAL_MS` has now (05_port_lifecycle.md R117, R118). An attach that came to a
`TRANSPARENT` port while its skein was held waits in `POWERING` until the hold has ended (06_transparent_hub.md R141). -/
def State.startQualify (s : State) (n : Nat) : State :=
  if s.mode n == 2 && s.skHeld (skeinOfPort n) && (s.port n).held then s.setAtt n 4
  else (s.setAtt n 5).modPort n (fun p => { p with qualFrom := s.dt, qualMs := s.get .PORT_QUAL_QUAL_MS n })

/-- The skein die counts the port as attached: a sink, or a Type-A device, whose debounce is complete (R97,
05_port_lifecycle.md R127). -/
def State.onRail (s : State) (n : Nat) : Bool := [2, 5, 6].contains (s.get .PORT_DET_DET n)

/-- Set the advertised Rp level; a change moves the comparators' thresholds (R94, 05_port_lifecycle.md R115). -/
def State.setRp (s : State) (n code : Nat) : State :=
  if s.get .PWR_STAT_RP_ADV n == code then s
  else (s.set .PWR_STAT_RP_ADV n code).modPort n (fun p => { p with rpAt := some s.now })

/-- The port has a power request (R82). `held` marks a sink that counts as not yet attached until an allocation pass. -/
def State.powerRequest (s : State) (n : Nat) : Bool :=
  s.mode n != 0 && s.flag .PWR_CFG_PWR_EN n && !(s.port n).cycling
  && (s.typeA n || (s.get .PORT_DET_DET n == 2 && !(s.port n).held))

/-- A Type-A port offers a Charging Downstream Port: in a data mode, or held at `CHARGE_ONLY` by an override alone (R95,
05_port_lifecycle.md R111). -/
def State.cdpRole (s : State) (n : Nat) : Bool := s.typeA n && (2 ≤ s.mode n || (s.mode n == 1 && (s.port n).ovr))

/-- What the D+ and D− of a port are joined to (05_port_lifecycle.md R106, R109, R95): open in `DISABLED`, at an accessory,
while `PORST_N` is low (02_package_and_balls.md R48) and while the port's PHY group is off or fenced. -/
def State.dataLines (s : State) (n : Nat) : DataLines :=
  let g := dPHY (groupOfPort n)
  let a := s.att n
  let idle := if s.cdpRole n then DataLines.cdp else .opened
  if s.pins.porstLow || s.mode n == 0 || a == 3 || s.effState g == 2 || s.domFenced g then .opened
  else if s.mode n == 1 then (if s.typeA n && !(s.port n).ovr then .dcp else idle)
  else if s.mode n == 2 then (if a == 10 then .hub else idle)
  else if (s.serving n).isSome && (!s.typeA n || (6 ≤ a && a != 9)) then .shuttle
  else idle

/-- Switch off: the minimum off time starts and the discharge is called for (R83); while the port is back-fed above
6.0 V the path stays open (18_electrical.md R400). -/
def State.switchOff (s : State) (n : Nat) : State :=
  (s.set .PWR_STAT_BLOCKED n 0).modPort n (fun p => { p with offFrom := s.now, discharge := true })

/-- `SKN_ALLOC.ALLOC_MA` is the sum of the port allocations (04_port_power.md R105). -/
def State.noteAlloc (s : State) (k : Nat) : State :=
  s.set .SKN_ALLOC_ALLOC_MA k (((skeinPorts k).map (fun n => s.get .PWR_STAT_ALLOC_MA n)).sum)

/-- The end of an attach other than by R115 or R116 (05_port_lifecycle.md R117, R111): `DETACH` with the state left. What
the budget logic had imposed on the device ends with it, `TA_REDUCED` too; a held port keeps its effective limit, so that
`TA_REDUCED` ends with the pass after the hold (04_port_power.md R92; notes/assumptions/115.md). -/
def State.raiseDetach (s : State) (n : Nat) : State :=
  let left := s.att n
  let s := (s.setAtt n 1).set .PORT_DET_DET n 0
  let s := s.modPort n (fun p => { p with cap := none, grant := 0, imposed := none, tc := none, nextRp := none })
  let s := ((s.set .PWR_STAT_SHED n 0).set .PWR_STAT_SINK_LIMITED n 0).set .PWR_STAT_ALLOC_MA n 0
  let s := s.noteAlloc (skeinOfPort n)
  let s := if !s.typeA n then s.setRp n (if s.mode n == 0 then 0 else 1)
    else if s.skHeld (skeinOfPort n) then s else s.set .PWR_STAT_TA_REDUCED n 0
  (s.lifeEvent n 1 [(0, 1, left)]).duePass (skeinOfPort n)

/-- The port's skein section is powered and its effective mode is not `DISABLED`. -/
def State.portSenses (s : State) (n : Nat) : Bool := n < 96 && (s.skein (skeinOfPort n)).powered && s.mode n != 0

/-- The device ignores the CC comparators: for 1 ms after a change of the advertised Rp (05_port_lifecycle.md R115), and while
the Rp source is stopped (18_electrical.md R400). -/
def State.ccBlind (s : State) (n : Nat) : Bool :=
  (s.port n).ccOver || ((s.port n).rpAt).any (fun t => s.now < t + 1000000)

/-- The event of a detach of port `n`: the pin that carried Rd, or both pins of an accessory, have read open for 10 ms
(05_port_lifecycle.md R115); a Type-A device is gone, by data line for 10 ms, by current for 5 s (R116). -/
def State.detaches (s : State) (n : Nat) : Instr → Bool
  | .typecDetach m openNs =>
    let d := s.get .PORT_DET_DET n
    m == n && s.portSenses n && !s.typeA n && (d == 2 || d == 3 || d == 4) && 10000000 ≤ openNs && !s.ccBlind n
  | .typeaDetach m forNs =>
    let d := s.get .PORT_DET_DET n
    m == n && s.portSenses n && s.typeA n && ((d == 6 && 10000000 ≤ forNs) || (d == 5 && 5000000000 ≤ forNs))
  | _ => false

/-- A detach of the port waits in the same tick (R117; notes/assumptions/139.md). -/
def State.detachNow (s : State) (n : Nat) : Bool := s.pending.any (s.detaches n)

/-- What a change of the switch state does to the attach state (05_port_lifecycle.md R117). Where the port's detach falls in
the same tick, a loss of port power leaves the attach to the detach row. A Type-A port in `QUALIFY` that loses port power is
detached and raises no `QUAL_RESTART` (DESIGN CHOICE, notes/assumptions/173.md). -/
def State.powerMoved (s : State) (n old : Nat) : State :=
  let p := s.pwr n
  let a := s.att n
  if p == 3 && a == 4 && !s.flag .PWR_STAT_BLOCKED n then s.startQualify n
  else if conducting old && !conducting p && s.detachNow n then s
  else if conducting old && !conducting p && s.typeA n && attached a && !(s.port n).cycling then
    (s.startDetach n wDEVICE_GONE).raiseDetach n
  else if a == 5 && (p != 3 || s.flag .PWR_STAT_BLOCKED n) then (s.setAtt n 4).lifeEvent n 4 [(0, 1, p)]
  else if conducting old && !conducting p && !s.typeA n && 5 ≤ a && a ≤ 10 then
    (s.startDetach n wABORT).setAtt n 4
  else s

/-- Put the switch into a state (R83). A discharge that still runs ends at soft start (DESIGN CHOICE,
notes/assumptions/171.md). -/
def State.toPower (s : State) (n p : Nat) : State :=
  let old := s.pwr n
  let s := s.noteOver n (fun s => s.set .PWR_STAT_STATE n p)
  let s := if p == 2 then s.modPort n (fun x => { x with ssFrom := s.now, discharge := false, thermal := false }) else s
  let s := if p == 3 then s.modPort n (fun x => { x with onFrom := s.now }) else s
  s.powerMoved n old

/-- Evaluate the rows of R83 that depend on the power request; the switch of a port that is back-fed above 6.0 V stays open
(18_electrical.md R400). -/
def State.evalPower (s : State) (n : Nat) : State :=
  let rq := s.powerRequest n
  let p := s.pwr n
  if p == 0 then
    (if !rq then s else if !s.feedsReady (skeinOfPort n) then s.toPower n 1
     else if (s.port n).backfeed then s else s.toPower n 2)
  else if p == 1 then (if !rq then s.toPower n 0 else s)
  else if conducting p && !rq then
    ((s.modPort n (fun x => { x with trTick := some s.skTick, trFrom := p, trBits := [] })).switchOff n).toPower n 5
  else s

/-- A feed of the skein has entered `ON`: the waiting ports start (R58, R83), but for one that is back-fed (18_electrical.md
R400). -/
def State.feedsMoved (s : State) (k : Nat) : State :=
  (skeinPorts k).foldl (fun s n =>
    if s.pwr n != 1 then s
    else if !s.powerRequest n then s.toPower n 0
    else if (s.port n).backfeed then s
    else s.toPower n 2) s

/-- A deferred enable runs when the port reaches `OFF` (R91). -/
def State.runDeferred (s : State) (n : Nat) : State :=
  let q := (s.port n).deferBy
  ((s.set .PWR_STAT_DEFERRED n 0).modPort n (fun p => { p with deferBy := none })).markRun q

/-- The port reaches `OFF` from `DISCHARGE` or `RETRY`: a VBUS cycle ends, a deferred enable runs, and soft start begins in
the same tick where power is requested (R83, 05_port_lifecycle.md R111). -/
def State.reachOff (s : State) (n : Nat) : State :=
  let s := s.modPort n (fun p => { p with cycling := false })
  ((s.noteOver n (fun s => s.set .PWR_STAT_STATE n 0)).runDeferred n).evalPower n

/-- `PORT_VBUS_OFF` (R91), carried out while held. -/
def State.vbusClear (s : State) (n : Nat) : State :=
  let s := if s.flag .PWR_STAT_DEFERRED n then
      ((s.displaceOpt (s.port n).deferBy).set .PWR_STAT_DEFERRED n 0).modPort n (fun p => { p with deferBy := none })
    else s
  (s.set .PWR_CFG_PWR_EN n 0).evalPower n

/-- The effective limit in mA (R83). -/
def State.effLimit (s : State) (n : Nat) : Nat :=
  let a := 25 * s.get .PWR_LIMIT_ILIM n
  let b := ((s.port n).imposed).getD a
  let c := if s.flag .PWR_STAT_TA_REDUCED n then 550 else a
  min a (min b c)

/-- The port has tripped, or lost its power request, in this skein tick. -/
def State.cutThisTick (s : State) (n : Nat) : Bool := (s.port n).trTick == some s.skTick

/-- The switch state a trip of this tick looks at: the one before a trip or a withdrawal of the same tick (R84). -/
def State.tripFrom (s : State) (n : Nat) : Nat := if s.cutThisTick n then (s.port n).trFrom else s.pwr n

/-- The causes of one trip (R84): every event bit once, every counter concerned once. -/
def State.portCauses (s : State) (n : Nat) (bits : List Nat) : State :=
  let had := (s.port n).trBits
  let new := bits.filter (fun b => !had.contains b)
  let s := new.foldl (fun s b => s.powerEvent n b) s
  let s := if (new.contains 0 || new.contains 4) && !(had.contains 0 || had.contains 4) then s.count .PWR_OC_CNT n else s
  let s := if new.contains 1 then s.count .PWR_SC_CNT n else s
  let th := new.contains 2 || new.contains 3
  let s := if th && !(had.contains 2 || had.contains 3) then s.count .PWR_THERM_CNT n else s
  s.modPort n (fun p => { p with trBits := had ++ new, thermal := p.thermal || th })

/-- A trip of a port with its event bits (R83, R84): one trip, each counter once, then `RETRY` or `LATCHED`. A further
cause in the tick of a trip joins it; a trip in the tick of a withdrawal of the power request is a trip. -/
def State.portTrip (s : State) (n : Nat) (bits : List Nat) : State :=
  if s.cutThisTick n && !(s.port n).trBits.isEmpty then s.portCauses n bits
  else
  let s := s.modPort n (fun p => { p with trTick := some s.skTick, trFrom := s.tripFrom n, trBits := [], thermal := false })
  let s := s.portCauses n bits
  let s := if s.mode n == 2 then (s.hubChange n 3).hubWake (n + 1) else s
  let s := s.switchOff n
  let left := s.get .PWR_STAT_RETRY_LEFT n
  if !s.flag .PWR_CFG_POLICY n && 0 < left then
    let s := (s.set .PWR_STAT_RETRY_LEFT n (left - 1)).modPort n (fun p => { p with
      retryFrom := s.now, retryDone := false })
    s.toPower n 6
  else (s.powerEvent n 5).toPower n 7

/-! ### Allocation and advertisement (04_port_power.md R94, R97) -/

/-- The `RP_ADV` code of a level in mA, and the level of a code. -/
def rpCode (ma : Nat) : Nat := if ma == 3000 then 3 else if ma == 1500 then 2 else 1
def rpThreshold (code : Nat) : Nat := if code == 3 then 3300 else if code == 2 then 1650 else 550

def State.allow3A (s : State) (n : Nat) : Bool := 2 ≤ s.get .PWR_CFG_RP_MAX n && 132 ≤ s.get .PWR_LIMIT_ILIM n
def State.allow1A5 (s : State) (n : Nat) : Bool := 1 ≤ s.get .PWR_CFG_RP_MAX n && 66 ≤ s.get .PWR_LIMIT_ILIM n

/-- Port `a` attached before port `b`, in the skein die's own time: stamps of `PORT_ATT_DT` from before a `PORST_N`
release cannot be compared with later ones (00_scope.md R10). -/
def State.attachedBefore (s : State) (a b : Nat) : Bool := (s.port a).attAt < (s.port b).attAt

/-- Port `a` goes before port `b` in a pass: by priority, then by attach time (R97). -/
def State.passBefore (s : State) (a b : Nat) : Bool :=
  s.get .PWR_CFG_PRIO a < s.get .PWR_CFG_PRIO b
  || (s.get .PWR_CFG_PRIO a == s.get .PWR_CFG_PRIO b && s.attachedBefore a b)

/-- The attached ports of a skein by priority, then attach time (R97). -/
def State.passOrder (s : State) (k : Nat) : List Nat := sortBy s.passBefore ((skeinPorts k).filter s.onRail)

/-- The level decided for a port, or, with none waiting to be applied, the one it advertises. -/
def State.decided (s : State) (n : Nat) : Nat := ((s.port n).nextRp).getD (s.get .PWR_STAT_RP_ADV n)

/-- Decide a port's level: raised or lowered within 1 ms (R94); a lowering is checked for compliance (R102). -/
def State.decideRp (s : State) (n code : Nat) : State :=
  if code == s.decided n then s
  else s.modPort n (fun p => { p with
    nextRp := some code })

/-- A lowering of an advertisement starts the shed hold (R99). -/
def State.startShedHold (s : State) (k : Nat) : State :=
  (s.set .SKN_BSTAT_SHED_HOLD k 1).modSkein k (fun x => { x with shedHold := some (s.now + 100000000) })

/-- The level of a port after its shed cap (R97, R101). -/
def State.levelOf (s : State) (n grant : Nat) : Nat :=
  let g := rpCode grant
  match (s.port n).cap with
  | some c => min g c
  | none => g

/-- An attach on a `TRANSPARENT` port that came while the skein was held, with VBUS on, goes on (06_transparent_hub.md
R141). -/
def State.afterHold (s : State) (n : Nat) : State :=
  if s.att n == 4 && s.mode n == 2 && s.pwr n == 3 && !s.flag .PWR_STAT_BLOCKED n && !s.domFenced (dPHY (groupOfPort n)) then
    s.startQualify n
  else s

/-- Grant one port an allocation out of what remains (R97). -/
def State.grantPort (s : State) (n : Nat) (left : Int) : State × Int :=
  let g : Nat := if s.typeA n then (if 1500 ≤ left then 1500 else 500)
    else if 3000 ≤ left && s.allow3A n then 3000 else if 1500 ≤ left && s.allow1A5 n then 1500 else 500
  let s := (s.set .PWR_STAT_ALLOC_MA n g).modPort n (fun p => { p with grant := g, held := false })
  let s := if s.typeA n then
      (if g == 500 then
         (if s.flag .PWR_STAT_TA_REDUCED n then s else (s.set .PWR_STAT_TA_REDUCED n 1).powerEvent n 10)
       else s.set .PWR_STAT_TA_REDUCED n 0)
    else
      let lvl := s.levelOf n g
      (s.decideRp n lvl).setB .PWR_STAT_SHED n (lvl < rpCode g)
  (s, left - g)

/-- The allocation pass (R97): every attached port is granted, a lowering starts the shed hold, `FLOOR` clears when a
Type-C port is left above Default (R100), and the waiting attaches are powered. -/
def State.allocationPass (s : State) (k : Nat) : State :=
  let before := (skeinPorts k).map s.decided
  let ps := s.passOrder k
  let s := (ps.foldl (fun (a : State × Int) n => a.1.grantPort n a.2) (s, (s.effBudget k : Int))).1
  let s := (skeinPorts k).foldl (fun s n => if s.onRail n then s
    else (s.set .PWR_STAT_ALLOC_MA n 0).set .PWR_STAT_TA_REDUCED n 0) s
  let s := (s.noteAlloc k).set .SKN_ALLOC_EFFECTIVE_MA k (s.effBudget k)
  let low := ps.any (fun n => !s.typeA n && s.decided n < before.getD (n % 12) 0)
  let s := if low then s.startShedHold k else s
  let s := if ps.any (fun n => !s.typeA n && 2 ≤ s.levelOf n (s.port n).grant) then s.set .SKN_BSTAT_FLOOR k 0 else s
  let s := s.modSkein k (fun x => { x with passDue := false })
  ps.foldl (fun s n => (s.evalPower n).afterHold n) s

/-- The effective budget of a skein may have changed: its register follows and a pass is due (R96, R97). -/
def State.budgetMoved (s : State) (k : Nat) : State :=
  if s.get .SKN_ALLOC_EFFECTIVE_MA k == s.effBudget k then s
  else (s.set .SKN_ALLOC_EFFECTIVE_MA k (s.effBudget k)).duePass k

/-! ### Modes (05_port_lifecycle.md R107 to R112) -/

/-- An INVASIVE session runs in FIELD; the lifecycle is RETIRED (R107). -/
def State.debugHolds (s : State) : Bool :=
  s.lifecycle == lcFIELD && s.flag .SEC_DBG_SESSION && s.get .SEC_DBG_LEVEL == 2
def State.lifecycleHolds (s : State) : Bool := s.lifecycle == lcRETIRED

/-- The effective mode that R107 derives. -/
def State.wantedMode (s : State) (n : Nat) : Nat :=
  let m := s.get .PORT_MODE_MODE_CFG n
  if m == 0 then 0
  else if m == 1 || (s.flag .PORT_MODE_PUBLIC n && !s.flag .PORT_MODE_DATA_EN n) || s.debugHolds || s.lifecycleHolds then 1
  else m

/-- Only the override holds the port at `CHARGE_ONLY` (R111). -/
def State.onlyOverride (s : State) (n : Nat) : Bool :=
  (s.debugHolds || s.lifecycleHolds) && 2 ≤ s.get .PORT_MODE_MODE_CFG n
  && !(s.flag .PORT_MODE_PUBLIC n && !s.flag .PORT_MODE_DATA_EN n)

/-- Show the override bits (R107): they change with an `OVERRIDE` event (R126). -/
def State.showOverride (s : State) (n : Nat) : State :=
  let data := 2 ≤ s.get .PORT_MODE_MODE_CFG n
  let d := data && s.debugHolds
  let l := data && s.lifecycleHolds
  if s.get .PORT_MODE_OVR_DEBUG n == b2n d && s.get .PORT_MODE_OVR_LIFECYCLE n == b2n l then s
  else
    let s := (s.setB .PORT_MODE_OVR_DEBUG n d).setB .PORT_MODE_OVR_LIFECYCLE n l
    s.lifeEvent n 9 [(0, 1, b2n d + 2 * b2n l)]

/-- The slot bits of `SHT_STAT` for a port on its serving Shuttle (07_shuttle_engines.md R177); a Shuttle with a
`TERMINATED` port serves, one with none is unused. -/
def State.noteShuttle (s : State) (j : Nat) : State :=
  let g := s.get .SHT_STAT_PHYG j
  if 12 ≤ g then (s.set .SHT_STAT_TERM j 0).set .SHT_STAT_ATT j 0
  else
    let term := ((groupPorts g).zipIdx.map (fun ni => if s.mode ni.1 == 3 then 2 ^ ni.2 else 0)).sum
    let att := ((groupPorts g).zipIdx.map (fun ni => if s.isAttached ni.1 then 2 ^ ni.2 else 0)).sum
    let s := (s.set .SHT_STAT_TERM j term).set .SHT_STAT_ATT j att
    let st := s.get .SHT_STAT_STATE j
    if st ≤ 1 then s.set .SHT_STAT_STATE j (if term == 0 then 0 else 1) else s

def State.noteServing (s : State) (n : Nat) : State :=
  match s.serving n with
  | some j => s.noteShuttle j
  | none => s

/-- A VBUS cycle begins (R111): the power request is withdrawn and returns as soon as the port is in `OFF`. -/
def State.cycleVbus (s : State) (n : Nat) : State :=
  let s := (s.modPort n (fun p => { p with cycling := true, cycled := true })).evalPower n
  if s.pwr n == 0 then s.reachOff n else s

/-- Enter an effective mode (R109, R111). -/
def State.enterMode (s : State) (n m : Nat) (override : Bool) : State :=
  let from_ := s.mode n
  let att := s.isAttached n
  let put (s : State) : State :=
    let s := s.noteOver n (fun s => s.set .PORT_MODE_MODE_EFF n m)
    s.set .PORT_LIFE_SHUTTLE n ((s.serving n).getD 15)
  let s :=
    if m == 0 then
      let s := s.startDetach n wABORT
      let s := if att then s.raiseDetach n else s
      let s := (((put s).setAtt n 0).set .PORT_DET_DET n 0).setRp n 0
      let s := if s.flag .PORT_MODE_PUBLIC n then s.set .PORT_MODE_DATA_EN n 0 else s
      s.evalPower n
    else if from_ == 0 then
      let s := (put s).setAtt n 1
      let s := if s.typeA n then s else s.setRp n 1
      s.evalPower n
    else if !att then put s
    else if s.typeA n && (from_ == 1 || m == 1) && !override then
      (put ((s.startDetach n wABORT).raiseDetach n)).cycleVbus n
    else if m == 1 then
      let s := put (s.startDetach n wABORT)
      s.setAtt n (if s.pwr n == 3 || s.pwr n == 4 || (override && s.typeA n) then 9 else 4)
    else
      let s := put (s.startDetach n wABORT)
      if s.pwr n == 3 then s.startQualify n else s.setAtt n 4
  (s.noteServing n).settleDomains

/-- Start a mode change towards the effective mode `m` (R109, R112). A `TERMINATED` mode brings the serving Shuttle, DRAM
and the PHY group to ON (R113). -/
def State.startMode (s : State) (n m : Nat) : State :=
  let override := if m == 1 then s.onlyOverride n else (s.port n).ovr && 2 ≤ m
  let s := (s.set .PORT_LIFE_CHANGING n 1).modPort n (fun p => { p with ovr := m == 1 && override })
  let s := if m == 3 then
      s.requestOn ([dDRAM, dPHY (groupOfPort n)] ++ (match s.serving n with | some j => [dSH j] | none => [])) 3
    else s
  (s.enterMode n m override).showOverride n

/-- The mode stands: a Type-A port keeps the CDP role of R111 only while the override alone holds it at `CHARGE_ONLY`;
one with nothing attached takes that role then. -/
def State.settleRole (s : State) (n : Nat) : State :=
  s.modPort n (fun p => { p with ovr := s.onlyOverride n && s.mode n == 1 && (p.ovr || !s.isAttached n) })

/-- Recompute the effective mode while no change runs (R107, R112). Safe hold freezes the mode of every port (R125). -/
def State.recompute (s : State) (n : Nat) : State :=
  if s.safeHold then s else
  let s := s.showOverride n
  if s.flag .PORT_LIFE_CHANGING n then s
  else if s.wantedMode n == s.mode n then s.settleRole n
  else s.startMode n (s.wantedMode n)

/-- A change to a new `MODE_CFG` starts (R112); where the effective mode stays, it has only to complete. -/
def State.startChange (s : State) (n : Nat) : State :=
  if s.wantedMode n == s.mode n then ((s.set .PORT_LIFE_CHANGING n 1).showOverride n).settleRole n
  else s.startMode n (s.wantedMode n)

/-- A mode change is complete (R112): `MODE_DONE`, then the pending request, else the mode R107 now gives. In safe hold a
pending request waits, but for one to `DISABLED` (R125). -/
def State.finishMode (s : State) (n : Nat) : State :=
  let s := (s.set .PORT_LIFE_CHANGING n 0).modPort n (fun p => { p with cycled := false })
  let s := s.lifeEvent n 7 [(0, 1, s.mode n)]
  if s.flag .PORT_LIFE_PENDING n && !(s.safeHold && s.get .PORT_LIFE_PEND_MODE n != 0) then
    let q := (s.port n).pendBy
    let m := s.get .PORT_LIFE_PEND_MODE n
    let s := (s.set .PORT_LIFE_PENDING n 0).set .PORT_LIFE_PEND_MODE n 0
    let s := (s.modPort n (fun p => { p with pendBy := none })).set .PORT_MODE_MODE_CFG n m
    (s.startChange n).markRun q
  else s.recompute n

/-- A mode request (R112): the state and its status. The mode being entered is the effective mode of the change
(notes/assumptions/119.md). -/
def State.requestMode (s : State) (n m : Nat) (q : Option ReqId) : State × Nat :=
  let keep (s : State) : State :=
    ((s.set .PORT_LIFE_PENDING n 1).set .PORT_LIFE_PEND_MODE n m).modPort n (fun p => { p with pendBy := q })
  if !s.flag .PORT_LIFE_CHANGING n then
    if m == s.get .PORT_MODE_MODE_CFG n then (s.recompute n, stOK)
    else ((s.set .PORT_MODE_MODE_CFG n m).startChange n, stOK)
  else if m == s.mode n then
    if s.flag .PORT_LIFE_PENDING n then
      let s := s.displaceOpt (s.port n).pendBy
      (((s.set .PORT_LIFE_PENDING n 0).set .PORT_LIFE_PEND_MODE n 0).modPort n (fun p => { p with pendBy := none }), stOK)
    else (s, stOK)
  else if s.flag .PORT_LIFE_PENDING n then (keep (s.displaceOpt (s.port n).pendBy), stDEFERRED)
  else (keep s, stDEFERRED)

/-! ### Attach and detach (05_port_lifecycle.md R114 to R117) -/

/-- What the wake source CC or Type-A attach requests ON (13_power_domains.md R321 bit 2). -/
def State.attachDomains (s : State) (n : Nat) : List Nat :=
  if s.mode n == 2 then [dPHY (groupOfPort n), dHUB]
  else if s.mode n == 3 then
    [dPHY (groupOfPort n)] ++ (match s.serving n with | some j => [dSH j] | none => []) ++ [dSH 12, dDRAM]
  else []

/-- The attach of a port (R117): `det` is the code of `PORT_DET.DET`. -/
def State.attach (s : State) (n det : Nat) (cc2 : Bool) : State :=
  let s := (s.set .PORT_DET_DET n det).setB .PORT_DET_ORIENT n cc2
  let s := s.count .PWR_ATTACH_CNT n
  if det == 3 || det == 4 then ((s.wake 2 []).setAtt n 3).lifeEvent n 2 [(0, 1, det)]
  else
    let s := ((s.setAtt n 4).set .PORT_ATT_DT n s.skDt).modPort n (fun p => { p with held := true, attAt := s.now })
    let s := s.lifeEvent n 0 [(0, 1, det), (1, 1, b2n cc2)]
    let s := (s.wake 2 (s.attachDomains n)).duePass (skeinOfPort n)
    let s := (s.noteServing n).settleDomains
    if s.pwr n == 3 && !s.flag .PWR_STAT_BLOCKED n then s.startQualify n else s

/-- A detach under R115 or R116 (R117, R108): the session ends, `DATA_EN` of a public port clears, but in safe hold, which
freezes it (R125). -/
def State.detach (s : State) (n : Nat) : State :=
  let s := s.startDetach n wDEVICE_GONE
  let s := (s.raiseDetach n).noteServing n
  let s := if s.flag .PORT_MODE_PUBLIC n && !s.safeHold then s.set .PORT_MODE_DATA_EN n 0 else s
  ((s.evalPower n).recompute n).settleDomains

/-- The length of the tadpole window, in µs (R117, R127). -/
def State.noteTadpole (s : State) (n : Nat) : State :=
  s.set .PORT_TADPOLE_TADPOLE_US n (min ((s.clock - s.get .PORT_ATT_DT n) / 1000) 0xFFFFFFFF)

/-- A port is presented (R117): `what` is the EP0 handle or the hub port number. -/
def State.present (s : State) (n what : Nat) : State :=
  let s := ((s.setAtt n 10).noteTadpole n).set .PORT_PRES_DT n s.clock
  s.lifeEvent n 3 [(0, 4, what)]

end Sys2Proof.Machine
end

