-- ==== Sys2Proof/Machine/Bus.lean ====
section
/-! DEFINITION. The two CAN controllers and the membership of the hierarchy: the operations that resets, domains, faults
and the protocol engine use (11_can_controllers.md R261 to R275, 12_hierarchy.md R279 to R289). -/

namespace Sys2Proof.Machine

/-! ### A controller -/

/-- A frame is in progress: the controller sends, or receives the frame that won arbitration. A frame received
otherwise is one event (notes/assumptions/33.md). -/
def State.canBusy (s : State) (c : Nat) : Bool := s.flag .CAN_STAT_TX_ACTIVE c || s.flag .CAN_STAT_RX_ACTIVE c

/-- The controller runs: the time clock runs (R258), and its domain is `ON`, or finishes what it has to before it leaves
(R275, 13_power_domains.md R315). -/
def State.canOn (s : State) (c : Nat) : Bool :=
  s.get .DOM_STAT_STATE (dCAN c) == 0 && !s.domFenced (dCAN c) && s.flag .PWRD_CLK_TCLK_RUN

/-- Set bit `i` of `CAN_INT` (R274). -/
def State.canInt (s : State) (c i : Nat) : State := s.setBit .CAN_INT c i

/-- The state of transmit buffer `b`: 0 `EMPTY`, 1 `PENDING`, 2 `ACTIVE`, 3 `DONE`, 4 `ABORTED`, 5 `FAILED`,
6 `LONE_WAIT`. -/
def State.txb (s : State) (c b : Nat) : Nat := s.get .TXB_STATE (3 * c + b)
def State.setTxb (s : State) (c b st : Nat) : State := s.set .TXB_STATE (3 * c + b) st

/-- The buffers of a controller in one of the states given. -/
def State.txbIn (s : State) (c : Nat) (sts : List Nat) : List Nat := (List.range 3).filter (fun b => sts.contains (s.txb c b))

/-- `COUNT` and the head window follow the receive FIFO; the window of an empty one reads 0 (R270). -/
def State.syncFifo (s : State) (c : Nat) : State :=
  let q := (s.can c).fifo
  let s := s.set .CAN_RXF_STAT_COUNT c q.length
  let e := q.head?
  let f := e.map (·.frame)
  let num := fun (g : CanFrame → Nat) => (f.map g).getD 0
  let s := (s.set .RXF_ID c (num (·.id))).set .RXF_IDE c (num (fun x => b2n x.ide))
  let s := (s.set .RXF_DLC c (num (·.dlc))).set .RXF_FDF c (num (fun x => b2n x.fdf))
  let s := (s.set .RXF_BRS c (num (fun x => b2n x.brs))).set .RXF_RTR c (num (fun x => b2n x.rtr))
  let s := (s.set .RXF_ESI c (num (fun x => b2n x.esi))).set .RXF_FILT c ((e.map (·.filt)).getD 0)
  (s.set .RXF_TS c ((e.map (·.stamp)).getD 0)).set .RXF_DATA c (num (fun x => ofLE (x.data.take 64)))

/-- LONE ends, if it stands, and the run of ACK errors with it; `LONE_WAIT` buffers contend again (R272). -/
def State.leaveLone (s : State) (c : Nat) : State :=
  let s := (s.set .CAN_STAT_LONE c 0).set .CAN_ERR_ACKFAIL_RUN c 0
  (s.txbIn c [6]).foldl (fun s b => s.setTxb c b 1) s

/-- Empty the transmit buffers and flush the FIFO (R262, R275). -/
def State.emptyCan (s : State) (c : Nat) : State :=
  let s := (List.range 3).foldl (fun s b =>
    ((s.setTxb c b 0).set .TXB_ATTEMPTS (3 * c + b) 0).set .TXB_TS_VALID (3 * c + b) 0) s
  (s.modCan c (fun x => { x with fifo := [], abortOf := [], flush := false })).syncFifo c

/-- The controller is in `INIT`: off the bus, its error counters unchanged (R261, R272). -/
def State.enterInit (s : State) (c : Nat) : State :=
  let s := (s.leaveLone c).set .CAN_STAT_MODE_NOW c 0
  let s := (s.set .CAN_STAT_SYNCED c 0).set .CAN_STAT_BUS_IDLE c 0
  if (s.can c).flush then s.emptyCan c else s

/-- `INIT` by the device: requested, and in force at once when no frame is in progress; the buffers and the FIFO are
emptied with it (R262, R275). -/
def State.canInit (s : State) (c : Nat) : State :=
  let s := (s.set .CAN_CTL_MODE c 0).modCan c (fun x => { x with flush := true })
  if s.canBusy c then s else s.enterInit c

/-- The error state that the counters give; a change raises `ESTATE_CHG`. Bus-off ends only by recovery (R271). -/
def State.noteEstate (s : State) (c : Nat) : State :=
  if s.get .CAN_STAT_ESTATE c == 2 then s
  else
    let n := if 128 ≤ s.get .CAN_ERR_TEC c || 128 ≤ s.get .CAN_ERR_REC c then 1 else 0
    if n == s.get .CAN_STAT_ESTATE c then s else (s.set .CAN_STAT_ESTATE c n).canInt c 7

/-! ### Messages to be sent (12_hierarchy.md R282, R283) -/

/-- The next DLC length. -/
def dlcLength (n : Nat) : Nat := ([0, 1, 2, 3, 4, 5, 6, 7, 8, 12, 16, 20, 24, 32, 48, 64].find? (n ≤ ·)).getD 64

/-- A payload rounded up to a DLC length with zero bytes (R283). -/
def padFrame (bs : List Nat) : List Nat := (bs ++ List.replicate 64 0).take (dlcLength bs.length)

/-- The controllers through which the device is a member (R279). -/
def State.hierCans (s : State) : List Nat :=
  (List.range 2).filter (fun c => s.get .CAN_CTL_USE c == 0 && s.canOn c)

/-- The bus for messages: the active one, or the other when that controller is fenced (R280). -/
def State.sendBus (s : State) : Nat :=
  if s.hierCans.contains s.hier.active then s.hier.active else (s.hierCans.head?).getD s.hier.active

/-- The bus a queued frame goes out on: `HEARTBEAT`, `TSYNC` and `TFOLLOW` belong to one bus, every other frame goes on the
bus that is the one for messages by then (R280). -/
def State.busOf (s : State) (m : HOut) : Nat :=
  if m.typ == 0x01 || m.typ == 0x08 || m.typ == 0x09 then m.bus else s.sendBus

/-- Queue a frame for a bus. -/
def State.hsendOn (s : State) (bus typ prio dst seg src : Nat) (data : List Nat) : State :=
  { s with hier := { s.hier with tx := s.hier.tx ++
      [{ typ := typ, prio := prio, dst := dst, seg := seg, src := src, bus := bus, data := padFrame data }] } }

/-- Queue a frame for the active bus. -/
def State.hsend (s : State) (typ prio dst : Nat) (data : List Nat) : State :=
  s.hsendOn s.sendBus typ prio dst 0 s.idx data

/-- Queue a frame for every bus in use (R280). -/
def State.hsendAll (s : State) (typ prio dst : Nat) (data : List Nat) : State :=
  s.hierCans.foldl (fun s c => s.hsendOn c typ prio dst 0 s.idx data) s

/-- Withdraw the frames of a type that are not on a bus yet; one that is is not sent again. -/
def State.hwithdraw (s : State) (typ : Nat) : State :=
  let s := { s with hier := { s.hier with tx := s.hier.tx.filter (fun m => m.typ != typ) } }
  s.hierCans.foldl (fun s c => (List.range 3).foldl (fun s b =>
    if bits (s.get .TXB_ID (3 * c + b)) 18 8 != typ then s
    else if [1, 6].contains (s.txb c b) then (s.setTxb c b 4).canInt c 3
    else if s.txb c b == 2 then s.modCan c (fun x => { x with abortOf := b :: x.abortOf })
    else s) s) s

/-! ### Membership (12_hierarchy.md R279, R284, R287, R289) -/

/-- The controllers of the hierarchy are asked for a mode (R284). -/
def State.hierMode (s : State) (m : Nat) : State := s.hierCans.foldl (fun s c => s.set .CAN_CTL_MODE c m) s

/-- What firmware sets up for hierarchy use: the acceptance filters for broadcasts and frames for the device's own index
(R283; notes/assumptions/34.md), and FD frames, which every frame of the hierarchy is (R282;
notes/assumptions/153.md). -/
def State.hierFilters (s : State) (c : Nat) : State :=
  let s := (List.range 24).foldl (fun s n => s.set .CAN_FLT_EN (24 * c + n) (if n < 2 then 1 else 0)) s
  let s := (List.range 2).foldl (fun s n =>
    let k := 24 * c + n
    let s := (s.set .CAN_FLT_ID k (64 * (if n == 0 then 63 else s.idx))).set .CAN_FLT_IDE k 1
    ((s.set .CAN_FLT_ACTION k 0).set .CAN_FLT_MASK k (64 * 63)).set .CAN_FLT_IDE_CMP k 1) s
  (s.set .CAN_CTL_DEFAULT_ACCEPT c 0).set .CAN_CTL_FD_EN c 1

/-- The loans stay at their last values (R298). -/
def State.freezeLoans (s : State) : State := (List.range 8).foldl (fun s k => s.set .SKN_BSTAT_LOAN_FROZEN k 1) s

/-- What a joining device knows of its hierarchy: nothing. Its pool image, its count of elections and an index conflict
stay (R287, R297). -/
def Hier.fresh (h : Hier) : Hier :=
  { conflict := h.conflict, elections := h.elections, poolGen := h.poolGen, caps := h.caps, poolOf := h.poolOf,
    lastHb := h.lastHb, hbSent := h.hbSent, lastFollow := h.lastFollow }

/-- Joining starts: controllers in `LISTEN_ONLY`, and the listen window (R284). -/
def State.startJoin (s : State) : State :=
  let s := { s with hier := { s.hier.fresh with st := some 3, tj := s.dt, rank := s.get .AON_HIER_RANK } }
  s.hierMode 2

/-- A controller has entered hierarchy use with its domain ON (R279, R284). -/
def State.enterHierarchy (s : State) (c : Nat) : State :=
  let s := s.hierFilters c
  match s.hier.st with
  | none => s.startJoin
  | some st => s.set .CAN_CTL_MODE c (if s.hier.conflict || (st == 3 && !s.hier.listened) then 2 else 1)

/-- The device is a member no longer: its loans freeze and its DT runs free. -/
def State.leaveHierarchy (s : State) : State :=
  if s.hier.st.isNone then s
  else
    let s := (s.ecx.hierOut ++ s.readyReplies .hierarchy).foldl State.noteDiscard s.freezeLoans
    { s.dropReady .hierarchy with hier := s.hier.fresh, ecx := { (s.dropReady .hierarchy).ecx with hierOut := [] } }

/-- Nothing goes out any more: what waits is dropped, and a frame on a bus is not sent again (R289). -/
def State.hsilence (s : State) : State :=
  let s := { s with hier := { s.hier with tx := [] } }
  s.hierCans.foldl (fun s c =>
    let s := (s.txbIn c [1, 6]).foldl (fun s b => (s.setTxb c b 4).canInt c 3) s
    s.modCan c (fun x => { x with abortOf := s.txbIn c [2] ++ x.abortOf })) s

/-- The device becomes an island manager; one with `MGR_ELIG` 0 sends nothing. An island lends nothing, so no `LOAN` of it
goes out any more, and its DT runs free (R289). -/
def State.becomeIsland (s : State) (raised : Bool) : State :=
  let s := (({ s with hier := { s.hier with st := some 2, slew := 0 } } : State).hwithdraw 0x14).freezeLoans
  let s := if s.flag .SYS_STRAP_MGR_ELIG then s else s.hsilence
  if raised then s.hierEvent s.idx 4 else s

/-- Every controller in hierarchy use is in LONE: the member is alone (R284, R289). -/
def State.aloneNow (s : State) : State :=
  if s.hier.st.isSome && s.hier.st != some 2 && !s.hier.conflict && s.hierCans.all (fun i => s.flag .CAN_STAT_LONE i) then
    s.becomeIsland true
  else s

/-- The device leaves when no controller of its hierarchy is left, and may be alone with the one that is. -/
def State.hierSettle (s : State) : State := if s.hierCans.isEmpty then s.leaveHierarchy else s.aloneNow

/-- The bytes of a CAN FD frame with a DLC (11_can_controllers.md R256). -/
def fdBytes (dlc : Nat) : Nat := [0, 1, 2, 3, 4, 5, 6, 7, 8, 12, 16, 20, 24, 32, 48, 64].getD dlc 64

/-- The frame in a transmit buffer, as it was queued (R282). -/
def State.txOut (s : State) (c b : Nat) : HOut :=
  let k := 3 * c + b
  let id := s.get .TXB_ID k
  { typ := bits id 18 8, prio := bits id 26 3, dst := bits id 6 6, seg := bits id 0 6, src := bits id 12 6, bus := c,
    data := toLE (fdBytes (s.get .TXB_DLC k)) (s.get .TXB_DATA k) }

/-- The messages that a controller has not sent yet leave its buffers and wait for the bus that is active now (R280);
`HEARTBEAT`, `TSYNC` and `TFOLLOW` belong to their bus. -/
def State.takeBack (s : State) (c : Nat) : State :=
  if !s.hierCans.contains c then s
  else [2, 1, 0].foldl (fun s b =>
    let m := s.txOut c b
    if !(s.txb c b == 1 || s.txb c b == 6) || m.typ == 0x01 || m.typ == 0x08 || m.typ == 0x09 then s
    else { (s.setTxb c b 4).canInt c 3 with hier := { s.hier with tx := m :: s.hier.tx } }) s

/-- The active bus becomes `bus` (R280). -/
def State.onBus (s : State) (bus : Nat) : State :=
  let a := s.hier.active
  if a == bus then s
  else
    let s := s.takeBack a
    { s with hier := { s.hier with active := bus } }

/-- The manager's own controller for the active bus is fenced or in LONE: it moves to the other bus if that one has
delivered a frame within the last 100 ms (R280). -/
def State.switchBus (s : State) (c : Nat) : State :=
  let o := 1 - c
  if s.hier.st == some 1 && s.hier.active == c && s.hierCans.contains o
      && s.dt < s.hier.busLast.getD o 0 + 100000000 && s.hier.busLast.getD o 0 != 0 then
    let s := s.onBus o
    s.hierEvent s.idx 9 [(3, 1, o)]
  else s

/-- A controller in hierarchy use has entered LONE (R280, R289). -/
def State.noteLone (s : State) (c : Nat) : State :=
  if s.get .CAN_CTL_USE c != 0 || s.hier.st.isNone then s else (s.switchBus c).aloneNow

/-- The manager's controller for the active bus is out of use or in LONE when the other bus delivers a frame: it moves now
(R280). -/
def State.followBus (s : State) : State :=
  let a := s.hier.active
  if !s.hierCans.contains a || s.flag .CAN_STAT_LONE a then s.switchBus a else s

/-- A present worker of this manager (R214, R285). -/
def State.presentWorker (s : State) (i : Nat) : Bool :=
  (s.hier.st == some 1 || s.hier.st == some 2) && s.hier.members.any (fun m => m.idx == i && !m.absent)

/-! ### What domains, faults and restarts do to a controller -/

/-- The frames that belong to the bus of controller `c` alone have nowhere to go. -/
def State.dropBus (s : State) (c : Nat) : State :=
  { s with hier := { s.hier with tx := s.hier.tx.filter (fun m =>
      !((m.typ == 0x01 || m.typ == 0x08 || m.typ == 0x09) && m.bus == c)) } }

/-- The controller is fenced: the manager changes the active bus (R280), and the frame in progress is lost. -/
def State.canFenced (s : State) (c : Nat) : State :=
  let s := ((s.switchBus c).dropBus c).modCan c (fun x => { x with fifo := [], abortOf := [], flush := false })
  s.syncFifo c

/-- The controller's domain has left ON: buffers and FIFO are lost (R275). -/
def State.canLeftOn (s : State) (c : Nat) : State :=
  (((s.dropBus c).modCan c (fun x => { x with fifo := [], abortOf := [], flush := false })).syncFifo c).hierSettle

/-- The controller's domain is back: in `INIT`, its error state as its kept counters give it; in hierarchy use the
device joins again (R275, R279). -/
def State.canCameOn (s : State) (c : Nat) : State :=
  let s := s.set .CAN_STAT_ESTATE c (if 128 ≤ s.get .CAN_ERR_TEC c || 128 ≤ s.get .CAN_ERR_REC c then 1 else 0)
  let s := s.setB .CAN_STAT_HOST_LOCK c (s.get .CAN_CTL_USE c == 0)
  if s.get .CAN_CTL_USE c == 0 then s.enterHierarchy c else s.set .CAN_STAT_MODE_NOW c 0

/-- A new use is asked for; it takes effect after the frame in progress (R262). -/
def State.canUse (s : State) (c u : Nat) : State := s.modCan c (fun x => { x with newUse := some u })

/-- A warm restart: controllers in hierarchy use enter `INIT` at the end of the frame in progress and are emptied; those
in host use run on (R275). -/
def State.warmCan (s : State) : State :=
  (List.range 2).foldl (fun s c => if s.get .CAN_CTL_USE c == 0 then s.canInit c else s) s.leaveHierarchy

/-- The hierarchy starts once the firmware runs: every controller in hierarchy use with its domain ON joins (R284). -/
def State.startHierarchy (s : State) : State := s.hierCans.foldl State.enterHierarchy s

end Sys2Proof.Machine
end

