-- ==== Sys2Proof/Machine/Hub.lean ====
section
/-! DEFINITION. The transparent hub and the upstream side of the Loom function (06_transparent_hub.md R128 to R142,
08_loom_function.md R204): reset, disconnect and what they clear. -/

namespace Sys2Proof.Machine

/-- `U2_STATE` of the USB 2.0 hub: 0 not connected to 5 L1. -/
def State.u2 (s : State) : Nat := s.get .HUBS_STAT_U2_STATE

/-- Clear every TT buffer (R135, R136). -/
def State.ttClearAll (s : State) : State := (List.range 96).foldl (fun s n => s.ttDrop n (n + 1) (fun _ => false) true) s

/-- One hub port at an upstream reset: disabled, no suspend, L1, reset or test mode (R140). -/
def State.hubPortReset (s : State) (n : Nat) : State :=
  let s := if s.hubConn n then s.hubChange n 0 else s
  (s.modPort n (fun p => { p with
    hpReset := none, hpEnable := false, hpSusp := false, hpL1 := false, hpTest := 0, hpResume := none })).hubNote n

/-- What an upstream reset and a disconnect of the USB 2.0 hub both do (R140). -/
def State.hubClear (s : State) : State :=
  let s := { s with hub := { s.hub with
    stalled := false, data := [], resume := false, driving := false, wakeOf := none
    p97Change := if s.get .HUBS_CONN 97 == 1 then bitOr s.hub.p97Change 1 else s.hub.p97Change } }
  let s := (List.range 96).foldl State.hubPortReset s.ttClearAll
  let s := ((s.set .HUBS_STAT_U2_ADDR 0 0).set .HUBS_STAT_ALT_MTT 0 0).set .HUBS_STAT_RWAKE_EN 0 0
  s.hubEvent 0 0

/-! ### The Loom function's host side (08_loom_function.md R204) -/

/-- A handle's records in a lane's buffer are lost with it: they are sent again, those before its `LANE_MOVED` on that lane,
where the buffer held that record too (R189, R204). -/
def Ctx.unsend (c : Ctx) (l : Nat) (lost : List WRec) : Ctx :=
  let mine := lost.filter (fun r => r.handle % 16384 == c.num)
  let moved := (mine.filter (fun r => r.typ == 7 && r.status == 4)).map (fun r => (l, r.seq))
  if c.lane == l || c.moves.any (fun m => m.1 == l) || !mine.isEmpty then
    { c with sent := 0, burstPos := 0, moves := moved ++ c.moves }
  else c

/-- Clear a lane's two buffers; its device records will be sent again. A halt clear leaves its staged ACK and CREDIT records
(R204). -/
def State.clearBuffers (s : State) (l : Nat) : State :=
  let lost := (s.lane l).inBuf
  let s := (s.modLane l (fun x => { x with inbox := [], refused := [], inBuf := [] })).set .LOOMS_LANE_OUT_DMA l 0
  { s with loom := { s.loom with ctxs := s.loom.ctxs.map (fun c => c.unsend l lost) } }

/-- Clear a lane's two buffers and its staged ACK and CREDIT records. -/
def State.clearLane (s : State) (l : Nat) : State :=
  (s.clearBuffers l).modLane l (fun x => { x with acks := [], regen := [] })

/-- A ready or buffered Loom reply is discarded and the journal says so (R206, 09_ecrax_protocol.md R229); so will the reply be
of a command whose execution has begun. -/
def State.discardReplies (s : State) : State :=
  let rs := s.ecx.loomOut ++ s.readyReplies .loom
  let s := { s with ecx := { s.ecx with awaits := s.ecx.awaits.map (fun a =>
    if a.id.chan == .loom && !a.done && !s.ecx.queue.any (fun p => p.id == a.id) then { a with drop := true } else a) } }
  ({ rs.foldl State.noteDiscard s with ecx := { (rs.foldl State.noteDiscard s).ecx with loomOut := [] } } : State).dropReady .loom

/-- The host accesses the function: a pending wake is acknowledged (R209, `LOOMS_STAT.WAKE_PEND`). -/
def State.hostAccess (s : State) : State :=
  if s.flag .LOOMS_STAT_WAKE_PEND then
    { s with loom := { s.loom with notifyAt := none } }.set .LOOMS_STAT_WAKE_PEND 0 0
  else s

/-- The device's own handles are open as the configuration says (R187): lane handles 0 to 7 and loopback while
configured, lane handle 8 with alternate setting 1. -/
def State.ownHandles (s : State) : State :=
  let cfg := s.flag .LOOMS_STAT_CONFIGURED
  let alt := cfg && s.flag .LOOMS_STAT_ALT
  let own (c : Ctx) : Ctx :=
    if c.num ≤ 8 then { c with isOpen := cfg } else if c.num == 9 then { c with isOpen := alt } else c
  ({ s with loom := { s.loom with ctxs := s.loom.ctxs.map own } } : State).notePages

/-- The function is not configured any more: buffers cleared, records kept (R204). -/
def State.unconfigure (s : State) : State :=
  let s := (List.range 9).foldl State.clearLane s.discardReplies
  let s := ((s.set .LOOMS_STAT_CONFIGURED 0 0).set .LOOMS_STAT_ALT 0 0).ownHandles
  let s := (s.set .LOOMS_STAT_FSUSP 0 0).set .LOOMS_STAT_WAKE_PEND 0 0
  { s with loom := { s.loom with
    notifyAt := none, u3Exit := false, ownExit := false, ep0 := []
    lanes := s.loom.lanes.map (fun l => { l with resync := 0 }) } }

/-- A reset of the Loom function's link (R204): the host side is held until the function is configured again. -/
def State.loomReset (s : State) : State :=
  let s := ((s.unconfigure).set .LOOMS_STAT_FRWAKE_EN 0 0).set .LOOMS_STAT_LSTATE 0 0
  ({ s with loom := { s.loom with fromReset := true } } : State).loomEvent 1

/-- The Loom function's rate changes (R178). -/
def State.setRate (s : State) (r : Nat) : State :=
  if s.get .LOOMS_STAT_RATE == r then s else (s.set .LOOMS_STAT_RATE 0 r).loomEvent 0

/-- The Loom function disconnects, on whichever port it is (R130, R204). -/
def State.loomDisconnect (s : State) : State :=
  if s.get .LOOMS_STAT_RATE == 0 then s
  else
    let s := if s.flag .HUBS_STAT_P97_CONN then
        ({ s with hub := { s.hub with p97Change := bitOr s.hub.p97Change 1 } } : State).set .HUBS_STAT_P97_CONN 0 0
      else s
    ((s.set .HUBS_CONN 97 0).loomReset).setRate 0

/-- The USB 2.0 personality disconnects (R140, 05_port_lifecycle.md R123), and the Loom function with it where it is on
hub port 97; the pull-up is gone. -/
def State.hubDisconnect (s : State) : State :=
  let s := { s with up := { s.up with applied := false } }
  if s.u2 == 0 then s
  else
    let s := (s.hubClear).set .HUBS_STAT_U2_STATE 0 0
    if s.get .LOOMS_STAT_RATE == 1 then s.loomDisconnect else s

/-- The SuperSpeed terminations are withdrawn: the SuperSpeed hub disconnects, and the Loom function with it where it is
there. -/
def State.ssDisconnect (s : State) : State :=
  let s := s.set .HUBS_STAT_SS_STATE 0 0
  if 2 ≤ s.get .LOOMS_STAT_RATE then s.loomDisconnect else s

/-- The fault reaction of source 0x04 (14_faults_and_takeover.md R334): terminations and the port 97 connection
withdrawn. -/
def State.loomWithdraw (s : State) : State :=
  ({ s with up := { s.up with ssApplied := false } } : State).ssDisconnect.loomDisconnect

/-- The device withdraws the pull-up and the terminations (05_port_lifecycle.md R123). -/
def State.upstreamWithdraw (s : State) : State :=
  let s := { s with up := { s.up with ssApplied := false } }
  ((s.ssDisconnect.hubDisconnect).set .HUBS_CONN 97 0).settleDomains

/-- The device is connected upstream, on either personality. -/
def State.upConnected (s : State) : Bool := s.u2 != 0 || s.get .HUBS_STAT_SS_STATE != 0

end Sys2Proof.Machine
end

