-- ==== Sys2Proof/Machine/Fabric.lean ====
section
/-! DEFINITION. What faults, domains, lifecycle and restart do to the two data fabrics (07_shuttle_engines.md R166 to
R170, 08_loom_function.md R203, 14_faults_and_takeover.md R334, R346, R347; 05_port_lifecycle.md R107, R125). -/

namespace Sys2Proof.Machine

/-! ### DRAM channels (R166, R203, R346, R347) -/

/-- DRAM is initialised (16_start_up.md R374 step 6): the free list holds every page, and the device's own handles exist
with sequence numbers 0 (08_loom_function.md R187). The loopback handle is a bulk one: an IN limit of 0 and the default share
as OUT credit (notes/assumptions/144.md). `pages` is what the free list has on each channel. -/
def State.dramFresh (s : State) (pages : Nat) : State :=
  let own := (List.range 10).map (fun n =>
    ({ num := n, typ := if n == 9 then 1 else 2, lane := if n == 9 then 8 else n % 8, devEp0 := 0x3FFF,
       share := 16384 * s.get .SHF_SHARE_BULK_16K, outLimit := if n == 8 then 16384 * s.get .SHF_SHARE_BULK_16K else 0,
       outDue := if n == 8 then 16384 * s.get .SHF_SHARE_BULK_16K else 0,
       outSent := if n == 8 then 16384 * s.get .SHF_SHARE_BULK_16K else 0, unlimited := n != 8 } : Ctx))
  ({ s with loom := { s.loom with
      dramUp := true, lostChan := 0, pages := pages, ctxs := own, devs := [], schedule := [], copies := [[], []] } } :
    State).notePages

/-- The isochronous records of a handle that lay on a lost channel: `RECORDS_LOST` names the range of device records,
whose numbers stay assigned; its buffered intervals, IN and OUT, complete `MISSED` (R166, R203). A lost record keeps its
place as one of type 16, which is never sent; EVENT records lie on both channels and survive. -/
def State.loseIso (s : State) (c : Ctx) : State :=
  let gone := c.recs.filter (fun r => r.typ == 0)
  let lost := c.recs.filter (fun r => r.typ != 16 && r.typ != 7)
  let s := match lost.head?, lost.getLast? with
    | some a, some b =>
      let s := s.modCtx c.num (fun c => { c with
        recs := c.recs.map (fun r => if r.typ == 7 then r else { r with typ := 16, data := [] }), partData := [] })
      (s.formEventRec c.num 5 (toLE 2 a.seq ++ toLE 2 b.seq)).loomEvent 9 (s.handleOf c.num) lost.length
    | _, _ => s
  let s := gone.foldl (fun s r => s.completionAt c.num wMISSED 0 r.dtLow) s
  (List.range c.stored.length).foldl (fun s _ => (s.completion c.num wMISSED 0).recordDone c.num) s

/-- No copy of the mirror runs. -/
def State.rebuildEnded (s : State) : State :=
  { s.set .FLT_STAT_REBUILDING 0 0 with flt := { s.flt with returned := none } }

/-- One DRAM channel is lost (R346); a copy to it ends. -/
def State.dramChannelLost (s : State) (ch : Nat) : State :=
  let s := s.rebuildEnded
  let hit := s.loom.ctxs.filter (fun c => c.isIso && c.port < 96 && s.liesOn c ch)
  let s := { s with loom := { s.loom with lostChan := bitOr s.loom.lostChan (2 ^ ch) } }
  let s := s.set .FLT_STAT_MIRROR_DEGRADED 0 1
  (hit.foldl State.loseIso s.notePages).notePages

/-- Both channels are lost (01_architecture.md R25): no terminated data moves; no copy runs. -/
def State.bothDramLost (s : State) : State :=
  ({ s with loom := { s.loom with lostChan := 3 } } : State).rebuildEnded.notePages

/-- A lost channel returns after retraining (R347), and with it one that was lost with it and has no gecko bit: the mirror is
rebuilt from the other channel, where that serves; the context copies come from it first. -/
def State.dramChannelBack (s : State) (ch : Nat) : State :=
  let lost := bitClear s.loom.lostChan (2 ^ ch)
  let s := { s with loom := { s.loom with
    lostChan := if s.gecko (7 - ch) then lost else 0, copies := s.loom.copies.set ch (s.loom.copies.getD (1 - ch) []) } }
  let s : State := if s.loom.lostChan == 0 then
      { s.set .FLT_STAT_REBUILDING 0 1 with flt := { s.flt with returned := some ch } }
    else s
  s.notePages.settleDomains

/-- The copy is complete (R347). -/
def State.mirrorRebuilt (s : State) : State := s.notePages

/-! ### Shuttle moves (R168, R170) -/

/-- Begin to move group `g` to Shuttle `t`; `from_` is the Shuttle it comes from, 15 for none. -/
def State.startMove (s : State) (t g from_ : Nat) (back : Bool) : State :=
  let s := ((s.set .SHT_STAT_STATE t 5).set .SHT_STAT_PHYG t g).set .SHF_TKO_DT 0 s.clock
  let s := s.modShut t (fun x => { x with moveFrom := some s.dt, from_ := from_, loaded := false, back := back,
                                          confirm := false })
  s.requestOn [dSH t] 3

/-- A group whose own Shuttle is fenced or relieved and which SH12 neither serves nor takes over. -/
def State.unserved (s : State) (g : Nat) : Bool :=
  (s.get .SHT_STAT_STATE g == 4 || s.get .SHT_STAT_STATE g == 6) && (s.servingGroup g).isNone

/-- SH12 becomes spare, or takes up the lowest-numbered unserved group (R170). -/
def State.becomeSpare (s : State) : State :=
  match (List.range 12).find? s.unserved with
  | some g => s.startMove 12 g g false
  | none => ((s.set .SHT_STAT_STATE 12 2).set .SHT_STAT_PHYG 12 15).noteShuttle 12

/-- No Shuttle serves a group any more (01_architecture.md R25): transfers, read requests and stored records complete
`TARGET_FENCED`, enumerations end, and their contexts serve the waiters (07_shuttle_engines.md R163). -/
def State.groupUnserved (s : State) (g : Nat) : State :=
  let ps := groupPorts g
  let s := (s.loom.ctxs.filter (fun c => ps.contains c.port && c.isOpen)).foldl State.handleFenced s
  (ps.foldl (fun s n =>
    let s := s.set .PORT_LIFE_SHUTTLE n 15
    if s.mode n == 3 && s.att n == 6 && !s.safeHold then (s.endTree n wTARGET_FENCED).enumFail n wTARGET_FENCED else s)
    s).poolService

/-- The idle timeouts of a group's ports pass from one Shuttle to another: `SHT_IDLE` follows the port (R177). -/
def State.copyIdle (s : State) (src dst : Nat) : State :=
  (List.range 8).foldl (fun s i => s.set .SHT_IDLE (8 * dst + i) (s.get .SHT_IDLE (8 * src + i))) s

/-- A Shuttle is fenced (R168, R170); its SRAM is lost with it (R146). What SH12 held of its ports' idle timeouts is the
committed state of the group, which its own Shuttle's registers keep (DESIGN CHOICE, notes/assumptions/183.md). -/
def State.shuttleFence (s : State) (j : Nat) : State :=
  let was := s.get .SHT_STAT_STATE j
  let g := s.get .SHT_STAT_PHYG j
  let s := if j == 12 && was == 3 then s.copyIdle 12 g else s
  let s := ((s.set .SHT_STAT_STATE j 4).set .SHT_STAT_PHYG j 15).modShut j (fun x => { x with
    moveFrom := none, window := [], cache := [], next := [], fetched := 0, put := [],
      staging := List.replicate 8 [], ahead := List.replicate 8 [] })
  let s := s.noteShuttle j
  if j == 12 then (if g < 12 then s.groupUnserved g else s)
  else if 1 < was then s
  else
    let t := s.get .SHT_STAT_STATE 12
    if (t == 0 || t == 2) && !s.domFenced (dSH 12) then s.startMove 12 j j false else s.groupUnserved j

/-- The fence of a Shuttle is lifted (R170). -/
def State.shuttleRelieved (s : State) (j : Nat) : State :=
  if j != 12 then s.set .SHT_STAT_STATE j 6
  else
    let s := if (List.range 12).any (fun i => s.effState (dSH i) == 0) then s.requestOn [dSH 12] 3 else s
    s.becomeSpare

/-! ### PHY groups (R334 source 0x20) -/

/-- The data ports of a fenced PHY group are logically detached; they wait in `POWERING` (notes/assumptions/28.md). -/
def State.phyLost (s : State) (j : Nat) : State :=
  (groupPorts j).foldl (fun s n => if s.dataAttached n then (s.startDetach n wABORT).setAtt n 4 else s) s

/-- The group is back: attached data-mode ports enter `QUALIFY`. -/
def State.phyBack (s : State) (j : Nat) : State :=
  (groupPorts j).foldl (fun s n =>
    if s.dataAttached n && s.pwr n == 3 && !s.flag .PWR_STAT_BLOCKED n then s.startQualify n else s) s

/-! ### Domains, overrides -/

/-- A domain has come ON: SH12 becomes the spare (R144, R170), a Shuttle that is to take its group up counts from
here, MIF releases `SCL` (13_power_domains.md R322), and the heartbeat windows of a lead half that took the token in retention
begin (14_faults_and_takeover.md R340, R344; notes/assumptions/122.md). -/
def State.domainCameOn (s : State) (d : Nat) : State :=
  if d == dSH 12 then (if s.get .SHT_STAT_STATE 12 == 0 then s.becomeSpare else s)
  else if 16 ≤ d && d < 28 && s.get .SHT_STAT_STATE (d - 16) == 5 then
    s.modShut (d - 16) (fun x => { x with moveFrom := some s.dt })
  else if d == 30 || d == 31 then s.canCameOn (d - 30)
  else if d == dMIF then { s with mgmt := { s.mgmt with sclHeld := false } }
  else if d == dCTL s.lead then { s with flt := { s.flt with lastHb := s.dt, missRun := 0 } }
  else s

/-- What a domain held in its in-place memory is lost with OFF (13_power_domains.md R306, R308, R317): the SRAM of a Shuttle,
which it reloads from DRAM; the endpoint memory of LOOM, with the events it holds (08_loom_function.md R181); the buffers of
the translators; in DRAM the fault log, the contexts, a firmware image being gathered and the firmware working copy, from
which nothing is refilled (notes/assumptions/156.md). -/
def State.memoryLost (s : State) (d : Nat) : State :=
  let s := { s with sec := { s.sec with dataWords := s.sec.dataWords.filter (fun w => w.1 != d) } }
  if 16 ≤ d && d ≤ 28 then
    s.modShut (d - 16) (fun x => { x with
      window := [], cache := [], next := [], fetched := 0, put := [], staging := List.replicate 8 [], ahead := List.replicate 8 [] })
  else if d == dLOOM then
    { s with loom := { s.loom with
        ep0 := [], lanes := s.loom.lanes.map (fun l => { l with inBuf := [], out := [], acks := [] }) }
             ecx := { s.ecx with loomEvts := [] } }
  else if d == dHUB then { s with ports := s.ports.map (fun p => { p with tt := { p.tt with bufs := [], pipe := ({} : Tt).pipe } }) }
  else if d == dDRAM then
    let s : State := { s with
      ecx := { s.ecx with faultLog := [] }
      hier := { s.hier with fw := if s.hier.fw.gather then {} else s.hier.fw }
      boot := { s.boot with copyLost := true } }
    if s.handlesOpen then s else s.dramFresh Config.dramPages
  else s

/-- A domain has left ON. -/
def State.domainLeftOn (s : State) (d : Nat) : State :=
  let s := if s.get .DOM_STAT_STATE d == 2 then s.memoryLost d else s
  if d == 30 || d == 31 then s.canLeftOn (d - 30) else s

/-- Every port's effective mode is derived again (05_port_lifecycle.md R107): a debug session began or ended, or the
lifecycle moved. -/
def State.recomputeAll (s : State) : State := (List.range 96).foldl State.recompute s
def State.debugOverride (s : State) (_on : Bool) : State := s.recomputeAll
def State.lifecycleOverride (s : State) : State := s.recomputeAll

/-- No mode change runs on any port. -/
def State.modesSettled (s : State) : Bool := (List.range 96).all (fun n => !s.flag .PORT_LIFE_CHANGING n)

/-! ### Restarts (05_port_lifecycle.md R125) -/

/-- `PORST_N`: what the loom die keeps of a port is gone, what its skein die holds goes on (R41, R125). -/
def State.portsAtPorst (s : State) : State :=
  { s with
    ports := s.ports.map (fun p => { p with
      deferBy := none, qualFrom := 0, pendBy := none, detaching := false, fabric := 0, restart := false,
      enumStatus := 0, gate := false, hpReset := none, hpEnable := false, hpSusp := false, hpL1 := false, hpTest := 0,
      hpSpeed := 0, hpChange := 0, hpResume := none, tt := {}, tree := 0, treeFrom := 0, treeAct := 0, treeCause := 0,
      treeRec := false, lastSof := 0, paused := false, served := [], passed := [], frame := 0, perSlot := 0, perNs := 0, cycling := false, cycled := false })
    feeds := s.feeds.map (fun f => { f with deferBy := none })
    skeins := s.skeins.map (fun k => { k with checkFrom := none }) }

/-- A Shuttle is reset (16_start_up.md R381): a move to it begins again (DESIGN CHOICE, notes/assumptions/183.md). -/
def State.restartMove (s : State) (j : Nat) : State :=
  s.modShut j (fun x => { x with moveFrom := if x.moveFrom.isSome then some s.dt else none, loaded := false, confirm := false })

/-- A warm restart (R381, R125, 08_loom_function.md R204): the Loom function and the SuperSpeed side disconnect, with the
SuperSpeed terminations withdrawn until firmware is ready; every downstream context and record is discarded, those of the
device's own handles too, whose host numbers go back to the last one acknowledged (R204), so that a logical detach from a
Shuttle is complete; and the `TERMINATED` ports that had begun to enumerate begin again. -/
def State.warmFabric (s : State) : State :=
  let s := ({ s with up := { s.up with ssApplied := false } } : State).ssDisconnect.loomDisconnect
  let s := (List.range 13).foldl (fun s j => (s.memoryLost (dSH j)).restartMove j) s
  let bytes (c : Ctx) : Nat := ((c.stored.filter (fun r => r.typ == 0)).map (fun r => r.data.length)).sum
  let own := (s.loom.ctxs.filter (fun c => c.num < 16)).map (fun c =>
    ({ c with recs := [], stored := [], partData := [], unformed := [], sent := 0, high := 0, old := 0, used := 0,
              rxNext := (c.rxAck + 1) % 65536, outRecv := (c.outRecv + 2 ^ 32 - bytes c) % 2 ^ 32 } : Ctx))
  let s : State := { s with loom := { s.loom with
    ctxs := own, devs := [], lastAlloc := 0x000F, schedule := [], copies := [[], []] } }
  let s := (s.set .SHF_POOL_FREE 0 16368).set .SHF_POOL_WAITING 0 0
  let s := (List.range 96).foldl (fun s n =>
    let s := if (s.port n).detaching && (s.port n).fabric == 3 then
        (s.modPort n (fun p => { p with detaching := false })).lifeEvent n 8 [(0, 1, 3)] else s
    if s.mode n == 3 then
      let s := s.modPort n (fun p => { p with restart := true, tree := 0, treeRec := false, served := [], passed := [] })
      if 6 ≤ s.att n && s.att n != 9 then (s.setAtt n 6).set .PORT_LIFE_ENUM_TRIES n 0 else s
    else s) s
  s.notePages

end Sys2Proof.Machine
end

