-- ==== Sys2Proof/Machine/Ecrax.lean ====
section
/-! DEFINITION. Ecrax packets: receipt, the checks of R214, the queues of the three classes, execution of one command,
the mailbox and the reply paths (09_ecrax_protocol.md). -/

namespace Sys2Proof.Machine

/-- What an opcode's effect gives: the state, the status, the results; `later` when it is answered by another step. -/
structure OpOut where
  st      : State
  status  : Nat := 0
  results : List Nat := []
  later   : Bool := false

def OpOut.ok (s : State) : OpOut := { st := s }
def OpOut.res (s : State) (r : List Nat) : OpOut := { st := s, results := r }
def OpOut.fail (s : State) (status : Nat) : OpOut := { st := s, status := status }

/-- The packet of a queue entry is the one given. -/
def samePacket (p q : Packet) : Bool := p.chan == q.chan && p.tag == q.tag && p.seq == q.seq && p.opcode == q.opcode

/-- R222: a waiting command runs before `p`: one of a more urgent class, or an earlier one of its own class. -/
def mustWait (queue : List Packet) (p : Packet) : Bool :=
  queue.any (fun q => q.cls < p.cls && !samePacket q p)
  || ((queue.takeWhile (fun q => !samePacket q p)).any (fun q => q.cls == p.cls))

/-- The journal entry of a packet (R229). -/
def entryOf (s : State) (p : Packet) (status : Nat) (committed : Bool) : JEntry :=
  { tag := p.tag, opcode := p.opcode, chan := p.chan, cls := p.cls % 4, status := status, committed := committed,
    origin := p.origin, seq := p.seq, dt := s.clock % 2 ^ 32 }

/-- A packet refused by a check of R214 past the CRC: its entry with `COMMITTED` = 0, and its reply whatever
`NO_REPLY` says. -/
def State.refusePacket (s : State) (p : Packet) (status : Nat) (results : List Nat := []) : State :=
  (s.addEntry (entryOf s p status false)).answer p.id false status results

/-- A packet is accepted on its channel: the channel keeps it, and its reply is due (R216, R224). -/
def State.accept (s : State) (p : Packet) (dev : Nat) : State :=
  (s.setKept p.chan { seq := p.seq, tag := p.tag, opcode := p.opcode, cls := p.cls, status := none, dev := dev }).await
    { id := p.id }

/-- Take a packet out of the queue; a packet that was not in it counts as received and accepted now (R216). -/
def State.takePacket (s : State) (p : Packet) : State :=
  let s := if s.ecx.queue.any (samePacket p) then s else s.accept p s.idx
  { s with ecx := { s.ecx with queue := s.ecx.queue.filter (fun q => !samePacket q p) } }

/-- The packet as its opcode's meaning takes it: the class is the opcode's (R222). -/
def opPacket (opcode : Nat) (p : Packet) : Packet := { p with opcode := opcode, cls := opcodeClass opcode }

/-- The packet waits in its queue; one that was not in it counts as received and accepted now (R216). -/
def State.opWaiting (s : State) (p : Packet) : State :=
  if s.ecx.queue.any (samePacket p) then s
  else
    let s := s.accept p s.idx
    { s with ecx := { s.ecx with queue := s.ecx.queue ++ [p] } }

/-- The domains among `ds` that are not fenced are woken before use (R239 class W): the state, and whether they are ON. A
`PORT_MODE_SET` makes their state forbidden, which is cause 3 (13_power_domains.md R310); another opcode is the lead half's own
request. -/
def State.opWake (s : State) (p : Packet) (ds : List Nat) : State × Bool :=
  (s.opWaiting p).wakeFor (ds.filter (fun d => !s.domFenced d)) (if p.opcode == 0x10 then 3 else 1)

/-- The command starts: it leaves its queue and its journal entry is made, not committed yet (R225, R229;
notes/assumptions/148.md). -/
def State.opStart (s : State) (p : Packet) : State :=
  let s := s.takePacket p
  let s := s.touch (dCTL s.lead)
  s.addEntry (entryOf s p stINTERNAL false)

/-- The command ends and is answered, unless its end comes later (R228, R229). -/
def opEnd (p : Packet) (o : OpOut) : State :=
  if o.later then o.st else o.st.answer p.id p.noReply o.status o.results

/-- No half executes commands: the token has moved and the new lead does not run yet; it takes the queues when it does (R225,
14_faults_and_takeover.md R344, R345). -/
def State.noLead (s : State) : Bool := s.flt.takeover.isSome || s.boot.phase == 2

/-- Execute one command: its turn (R222), while a lead half runs, the checks of R214 at its start, the domains it wakes (it
waits in its queue until they are ON), its effect in one step, its journal entry and its answer (R225, R229). -/
def runOp (opcode : Nat) (p : Packet) (need : Packet → State → List Nat) (eff : Packet → State → OpOut)
    (s : State) : State :=
  let p := opPacket opcode p
  if mustWait s.ecx.queue p || s.noLead then s.opWaiting p
  else match refusalOf s p with
    | some st => (s.takePacket p).refusePacket p st
    | none =>
      let w := s.opWake p (need p s)
      if !w.2 then w.1 else opEnd p (eff p (w.1.opStart p))

/-- An opcode that wakes nothing (R239, classes A and N). -/
def noWake : Packet → State → List Nat := fun _ _ => []

/-- The number of accepted packets that a channel holds and that are not yet executed, here or at a worker (R218). -/
def State.held (s : State) (c : Chan) : Nat :=
  (s.ecx.queue.filter (fun q => q.chan == c)).length + (s.ecx.forwards.filter (fun f => f.pkt.chan == c)).length

/-- A reply that is not tied to an accepted packet (`CRC_ERROR`, a retransmission, back-pressure), from device `dev`. -/
def State.bareReply (s : State) (c : Chan) (opcode tag cls seq status : Nat) (dup : Bool) (dev : Nat) : State :=
  s.replyNow { chan := c, opcode := opcode, tag := tag, cls := cls, seq := seq % 65536, dup := dup, dev := dev,
               status := status }

/-- The response bound of a class through the manager, ns (R219). -/
def forwardBound (cls : Nat) : Nat := if cls == 0 then 5000000 else if cls == 1 then 10000000 else 200000000

/-- The parameter bytes of the packet that a transfer, a window or a stream holds (R212): those a transfer has, and of the
others as many as the header says. -/
def packetParams (c : Chan) (bytes : List Nat) : List Nat :=
  if c == .loom then bytes.drop 16 else (bytes.drop 16 ++ List.replicate 4080 0).take (min (leAt bytes 6 2) 4080)

/-- The packet whose header those bytes spell (R212). -/
def packetOf (c : Chan) (origin : Nat) (bytes : List Nat) : Packet :=
  let o := bytes.getD 1 0 % 256
  { chan := c, origin := origin, opcode := o, tag := leAt bytes 2 2,
    cls := if opcodeDefined o then opcodeClass o else bytes.getD 5 0 % 256, seq := leAt bytes 8 4,
    noReply := bit (bytes.getD 0 0 % 256) 3, params := (packetParams c bytes).map (· % 256) }

/-- The version, class and flag fields of a header are as they must be (R212, R214). -/
def headerRight (bytes : List Nat) : Bool :=
  bytes.getD 0 0 % 256 / 16 == 1 && bytes.getD 5 0 % 256 < 3 && bytes.getD 0 0 % 256 % 8 == 0

/-- Receive one packet on a channel (R214, R216, R218, R219). It restarts the lead half's clock (13_power_domains.md R321). A
full hierarchy channel answers `BUSY` before any check (DESIGN CHOICE, notes/assumptions/177.md). Of a packet for a worker the
manager makes the checks up to Target, and the worker the others (DESIGN CHOICE, notes/assumptions/178.md). A retransmission is
answered whatever its `NO_REPLY` (DESIGN CHOICE, notes/assumptions/179.md). -/
def receivePacket (c : Chan) (origin : Nat) (bytes : List Nat) (s : State) : State :=
  let s := s.touch (dCTL s.lead)
  let target := bytes.getD 4 0 % 256
  let plen := leAt bytes 6 2
  let params := packetParams c bytes
  let p := packetOf c origin bytes
  let bare := fun (cls st : Nat) => s.bareReply c p.opcode p.tag cls p.seq st false s.idx
  if (c == .loom || c == .mailbox) && 16 ≤ s.held c then s
  else if c == .hierarchy && 16 ≤ s.held c then bare (bytes.getD 5 0 % 256) stBUSY
  else if crc32 (bytes.take 12 ++ params) != leAt bytes 12 4 then bare (bytes.getD 5 0 % 256) stCRC_ERROR
  else if 4080 < plen || plen != params.length then
    (s.addEntry (entryOf s p stBAD_LENGTH false)).bareReply c p.opcode p.tag p.cls p.seq stBAD_LENGTH false s.idx
  else
    let dup := match s.kept c with
      | some k => if k.seq == p.seq && k.tag == p.tag then some k else none
      | none => none
    match dup with
    | some k =>
      match k.status with
      | some st => s.bareReply c k.opcode p.tag k.cls p.seq st true k.dev
      | none => s.await { id := { chan := c, tag := p.tag, cls := k.cls, opcode := k.opcode, seq := p.seq }, dup := true }
    | none =>
      let own := target == 255 || target == s.idx
      let away := !own && s.presentWorker target
      let s := s.accept p (if away then target else s.idx)
      if !headerRight bytes then s.refusePacket p stBAD_PARAM
      else if !opcodeDefined p.opcode then s.refusePacket p stBAD_OPCODE
      else if own then
        match refusalOf s p with
        | some st => s.refusePacket p st
        | none => { s with ecx := { s.ecx with queue := s.ecx.queue ++ [p] } }
      else if away then
        let s := s.addEntry (entryOf s p stINTERNAL false)
        { s with ecx := { s.ecx with forwards := s.ecx.forwards ++
            [{ pkt := p, worker := target, deadline := s.dt + forwardBound p.cls, bytes := bytes.take 16 ++ params }] } }
      else s.refusePacket p stTARGET_ABSENT

/-- `LOOM_PACKET_RECEIVED` (R214): a packet received on a channel is checked, journaled and queued, or refused. -/
def execLoomPacketReceived (chan : Chan) (origin : Nat) (bytes : List Nat) (s : State) :
    Host.Outcome State Fault Refusal :=
  if chan == .profile then .next s else .next (receivePacket chan origin bytes s)

/-- The bytes of the inbound mailbox window, unwritten ones 0. -/
def State.inBytes (s : State) (n : Nat) : List Nat :=
  (List.range n).map (Memory.get s.mbox.inWin)

/-- A write of 1 to `IN_RING` (R220): `IN_BUSY` at once, or ignored and counted while it is 1. The command that has arrived
restarts the lead half's clock (13_power_domains.md R321). -/
def inRing (s : State) : State :=
  if s.flag .MBOX_STAT_IN_BUSY then s.count .MBOX_STAT_RING_LOST 0
  else (s.touch (dCTL s.lead)).set .MBOX_STAT_IN_BUSY 0 1

def execInRing (s : State) : Host.Outcome State Fault Refusal := .next (inRing s)

/-- R220, R218: the packet is taken into the channel queue, unless 16 are held, and `IN_BUSY` clears. -/
def execMailboxPacketTaken (s : State) : Host.Outcome State Fault Refusal :=
  if s.flag .MBOX_STAT_IN_BUSY && s.held .mailbox < 16 then
    let bytes := s.inBytes 4096
    .next ((receivePacket .mailbox 255 bytes s).set .MBOX_STAT_IN_BUSY 0 0)
  else .next s

/-- The restart of `WARM_RESTART` waits for a reply with this opcode, tag and sequence on the channel (10_ecrax_opcodes.md
R242). -/
def State.restartReply (s : State) (c : Chan) (opcode tag seq : Nat) : Bool :=
  s.ecx.restart.isSome && s.ecx.restartOf.any (fun q =>
    q.chan == c && q.opcode == opcode && q.tag == tag && q.seq % 65536 == seq)

/-- The reply has been read, and the restart may begin. -/
def State.restartNow (s : State) : State := { s with ecx := { s.ecx with restart := some s.dt, restartOf := none } }

/-- `INTC_PEND` AND `INTC_EN`. -/
def State.intcAnd (s : State) : Nat := s.intcPend &&& s.get .INTC_EN

/-- The lowest bit that is set. -/
def lowestBit (n v : Nat) : Nat := ((List.range n).find? (fun i => bit v i)).getD 0

/-- The AND has changed from zero to non-zero (17_registers.md R397): an IBI is raised, its data byte the lowest pending
enabled group; MIF is asked to ON for it (13_power_domains.md R309). -/
def State.ibiCheck (s : State) : State :=
  let now := s.intcAnd != 0
  let raised := now && !s.mgmt.lastAnd
  let s : State := { s with mgmt := { s.mgmt with lastAnd := now } }
  if raised && s.mgmt.ibiEn && s.mgmt.dynAddr.isSome && s.get .INTC_CTL_ROUTE != 0 then
    let s : State := { s with mgmt := { s.mgmt with ibi := some (lowestBit 13 s.intcAnd) } }
    if s.domOn dMIF || s.domFenced dMIF then s else s.requestOn [dMIF] 1
  else s

/-- What may clear a condition of the AND: the change to zero is seen, and a change from zero that came before (R397;
notes/assumptions/166.md). -/
def State.seeInts (s : State) (f : State → State) : State := (f s.ibiCheck).ibiCheck

/-- A write of 1 to `OUT_DONE` (R220): the outbound window is free for the next reply or event block. -/
def outDone (s : State) : State :=
  let w := s.mbox.outWin
  let s := if s.flag .MBOX_STAT_OUT_REPLY && s.restartReply .mailbox (w.getD 1 0) (leAt w 2 2) (leAt w 10 2)
      && !bit (w.getD 0 0) 2 then s.restartNow else s
  ((s.set .MBOX_STAT_OUT_REPLY 0 0).set .MBOX_STAT_OUT_EVT 0 0).fillMailbox

def execOutDone (s : State) : Host.Outcome State Fault Refusal := .next (s.seeInts outDone)

/-- The newest 32 forwarded packets that workers have kept stay known for their later reply (R228; DESIGN CHOICE,
notes/assumptions/186.md). -/
def keepDeferral (ds : List Forwarded) (f : Forwarded) (status : Nat) : List Forwarded :=
  if status == stDEFERRED then (ds.filter (fun g => g != f)).drop (ds.length - 31) ++ [f] else ds

/-- A forwarded packet ends with the worker's reply, or with one in its place: the entry, what the channel keeps, and the reply
(R219, R229). -/
def State.endForward (s : State) (f : Forwarded) (r : Reply) : State :=
  let s := { s with ecx := { s.ecx with
    forwards := s.ecx.forwards.filter (fun g => g != f)
    deferrals := keepDeferral s.ecx.deferrals f r.status } }
  ((s.commit f.pkt.id r.status).keepStatus f.pkt.id r.status).finish f.pkt.id f.worker r.status (some r)

/-- The packet of a list that a worker's reply answers: its opcode, tag and sequence, the oldest first (DESIGN CHOICE,
notes/assumptions/186.md). -/
def forwardOf (fs : List Forwarded) (worker : Nat) (bs : List Nat) : Option Forwarded :=
  fs.find? (fun f => f.worker == worker && f.pkt.opcode == bs.getD 1 0 && f.pkt.tag == leAt bs 2 2
    && f.pkt.seq % 65536 == leAt bs 10 2)

/-- A worker's later reply `PENDING_REPLACED` for a packet that it has kept is returned unchanged (R219, R228). -/
def State.endDeferral (s : State) (f : Forwarded) (r : Reply) : State :=
  ({ s with ecx := { s.ecx with deferrals := s.ecx.deferrals.filter (fun g => g != f) } } : State).displaceAs f.pkt.id r

/-- R219: no reply came from the worker within the class bound: the manager answers `TIMEOUT` with the worker as
responder. -/
def State.forwardLate (s : State) (f : Forwarded) : State :=
  s.endForward f (f.pkt.id.reply f.worker stTIMEOUT [] false)

/-- R219: the class bound of a forwarded packet has passed. -/
def execForwardTimeout (tag : Nat) (chan : Chan) (s : State) : Host.Outcome State Fault Refusal :=
  match s.ecx.forwards.find? (fun f => f.pkt.tag == tag && f.pkt.chan == chan && f.deadline ≤ s.dt) with
  | none => .next s
  | some f => .next (s.forwardLate f)

/-- R217: the host's EP1 IN transfer takes one reply. -/
def execEp1ReplyTransfer (s : State) : Host.Outcome State Fault Refusal :=
  match s.ecx.loomOut with
  | [] => .next s
  | r :: rest =>
    if s.flag .LOOMS_STAT_CONFIGURED then
      let s := { s with ecx := { s.ecx with loomOut := rest } }
      .next (if s.restartReply .loom r.opcode r.tag r.seq && !r.dup then s.restartNow else s)
    else .next s

end Sys2Proof.Machine
end

