-- ==== Sys2Proof/Machine/Faults.lean ====
section
/-! DEFINITION. The fault collector and the charge token (14_faults_and_takeover.md R328 to R350): the class of an
error, the reaction and its merging, the fences and reassignments of R334, the token and safe hold. -/

namespace Sys2Proof.Machine

/-- Heartbeat supervision that `HB_MASK` suspended while the lead half was halted begins anew (15_security_and_debug.md R366;
notes/assumptions/162.md). -/
def State.superviseAgain (s : State) : State :=
  if s.flag .SEC_DBG_HB_MASK && bit s.sec.halted s.lead then
    { s with flt := { s.flt with lastHb := s.dt, missRun := 0 } }
  else s

/-- The end of a debug session, with its cause (15_security_and_debug.md R363): the level returns to CLOSED and a halted half
resumes. In FIELD the effective modes held by the session are computed again (R365). -/
def State.endSession (s : State) (cause : Nat) : State :=
  if s.flag .SEC_DBG_SESSION then
    let held := s.lifecycle == lcFIELD && s.get .SEC_DBG_LEVEL == 2
    let s := s.superviseAgain.set .SEC_DBG_SESSION 0 0
    let s := s.set .SEC_DBG_LEVEL 0 0
    let s := s.set .SEC_DBG_TARGET_VALID 0 0
    let s := s.set .SEC_DBG_TARGET 0 0
    let s := s.set .SEC_DBG_HB_MASK 0 0
    let s := (s.set .SEC_DBG_END_CAUSE 0 cause).setBit .SEC_EVT 0 2
    let s := { s with sec := { s.sec with halted := 0, scan := false, secretUpset := false } }
    if held then s.debugOverride false else s
  else s

/-- A domain that is ON has begun to leave it. -/
def State.leaving (s : State) (d : Nat) : Bool := s.flag .DOM_STAT_TRANS d && s.get .DOM_STAT_STATE d == 0

/-- The session in FIELD has a target that is leaving ON: it ends under cause 3 (15_security_and_debug.md R363, R364;
notes/assumptions/163.md). -/
def State.sessionCheck (s : State) : State :=
  if s.lifecycle == lcFIELD && s.flag .SEC_DBG_SESSION && s.flag .SEC_DBG_TARGET_VALID
      && s.leaving (s.get .SEC_DBG_TARGET) then s.endSession 3 else s

/-- The same where a fence has taken the target out of ON, in which it was in `before`. -/
def State.targetFenced (s before : State) : State :=
  let d := s.get .SEC_DBG_TARGET
  if s.lifecycle == lcFIELD && s.flag .SEC_DBG_SESSION && s.flag .SEC_DBG_TARGET_VALID
      && before.domOn d && !s.domOn d then s.endSession 3 else s

/-- Channel `ch` of the DRAM alone holds the data: the other one is lost, or the mirror is still being copied to it (R346,
R347). -/
def State.soleChannel (s : State) (ch : Nat) : Bool :=
  s.unitFenced (7 - ch) || (s.flag .FLT_STAT_REBUILDING && s.flt.returned != some ch)

/-- The class of an error in the present state, 1 NOTICE to 4 GRAVE (R334); 0 for a kind the source never reports. -/
def State.classNow (s : State) (src kind addr : Nat) : Nat :=
  let cs := classesOf src kind
  match cs with
  | [] => 0
  | [c] => c
  | _ =>
    if src == 0x01 || src == 0x02 then
      if s.flag .FLT_TOKEN_VALID && s.lead + 1 == src then 3 else 2
    else if src == 0x06 || src == 0x07 then
      if s.soleChannel (src - 6) then 2 else 3
    else if src == 0x08 || src == 0x09 then
      if s.get .CAN_CTL_USE 0 == 0 && s.get .CAN_CTL_USE 1 == 0 then 3 else 2
    else if src == 0x48 then (if addr < 0x800 then 4 else 2)
    else cs.headD 0

/-- The highest class among reactions whose gecko bits remain set (`FLT_STAT.CLASS_MAX`, R351). -/
def State.noteClassMax (s : State) : State :=
  s.set .FLT_STAT_CLASS_MAX 0
    ((s.flt.causes.filter (fun g => s.gecko g.src)).foldl (fun m g => max m g.rcls) 0)

/-- A fault event of class 8 (10_ecrax_opcodes.md R255). -/
def State.faultEvent (s : State) (src kind cls addr second : Nat) (merged coded : Bool) : State :=
  s.postEvent 8 src kind
    (detailOf [(0, 1, cls), (1, 1, b2n merged + 2 * b2n coded), (2, 3, addr), (5, 1, second)])

/-- A NOTICE (R333, R335): counted, and one event of the source in any 1 s. -/
def State.notice (s : State) (src kind addr : Nat) (coded : Bool) : State :=
  let s := s.count .FLT_NCNT src
  if s.flt.notices.any (fun p => p.1 == src && s.dt < p.2 + 1000000000) then s
  else
    let ns := s.flt.notices.filter (fun p => p.1 != src) ++ [(src, s.dt)]
    ({ s with flt := { s.flt with notices := ns } } : State).faultEvent src kind 1 addr 255 false coded

/-- The sources that report over one error pair: the three of a skein die share one (R331). -/
def pairSources (src : Nat) : List Nat :=
  if 0x30 ≤ src && src ≤ 0x47 then [0x30 + src % 8, 0x38 + src % 8, 0x40 + src % 8] else [src]

/-- Set a source's gecko bit and record its cause (R333). -/
def State.setGecko (s : State) (g : Gecko) : State :=
  let s := s.set .FLT_GECKO g.src 1
  ({ s with flt := { s.flt with causes := s.flt.causes ++ [g] } } : State).noteClassMax

/-- Open the reaction window, or merge into the one that is open: the class of the reaction, which `CLASS_MAX` shows, becomes
the highest of its errors (R335, R336, R351). -/
def State.openOrMerge (s : State) (src kind cls addr : Nat) (coded : Bool) : State :=
  match s.flt.window with
  | none =>
    let s := (s.set .FLT_STAT_REACTING 0 1).count .FLT_STAT_REACT_CNT 0
    let r : Reaction := { src := src, kind := kind, cls := cls, addr := addr, coded := coded, start := s.dt,
                          errs := [⟨src, kind, addr⟩] }
    { s with flt := { s.flt with window := some r } }
  | some w =>
    let s := if w.second == 255 then s else s.count .FLT_CNT_MERGED_CNT 0
    let r : Reaction := { w with cls := max w.cls cls, second := if w.second == 255 then src else w.second,
                                 errs := w.errs ++ [⟨src, kind, addr⟩] }
    ({ s with flt := { s.flt with
        window := some r
        causes := s.flt.causes.map (fun g => if r.errs.contains ⟨g.src, g.kind, g.addr⟩ then { g with rcls := r.cls } else g)
      } } : State).noteClassMax

/-- Safe hold (R348): the latch is set, `FAULT_N` driven low, both halves held in reset, every skein held, the
hierarchy controllers in `INIT`. -/
def State.enterSafeHold (s : State) : State :=
  let s := s.set .FLT_STAT_SAFE_HOLD 0 1
  let s : State := { s with
    flt := { s.flt with latch := true },
    pins := { s.pins with faultN := false },
    boot := { s.boot with booted := [false, false], phase := 0 } }
  let s := { s.set .FLT_TOKEN_STANDBY_HOT 0 0 with flt := { s.flt with takeover := none } }
  let s := (List.range 8).foldl State.holdSkein s
  (List.range 2).foldl (fun s c => if s.get .CAN_CTL_USE c == 0 then s.canInit c else s) s.leaveHierarchy

/-- A GRAVE error of a source: gecko bit, class, safe hold (R333, R341, R342). -/
def State.grave (s : State) (src kind addr : Nat) (coded : Bool) : State :=
  ((s.setGecko { src := src, kind := kind, cls := 4, addr := addr }).openOrMerge src kind 4 addr coded).enterSafeHold

/-- A half can take the token: it runs, or sleeps in retention, and is not fenced (R341); a half that boots the new image
of a hitless update is no standby (R345; notes/assumptions/161.md). -/
def State.halfUsable (s : State) (h : Nat) : Bool :=
  !s.domFenced (dCTL h) && s.effState (dCTL h) != 2 && s.boot.booted.getD h false
  && !(s.boot.phase == 1 && !s.boot.updated) && s.boot.phase != 3

/-- Write the token record, its three copies and the register (R339); a grant counts as the lead's first heartbeat
(R340), and a takeover discards a staged profile (10_ecrax_opcodes.md R243). -/
def State.setToken (s : State) (h : Nat) : State :=
  let staged := if s.flag .FLT_TOKEN_VALID && s.lead == h then s.ecx.staging else []
  let s := (s.setB .FLT_TOKEN_HOLDER 0 (h == 1)).set .FLT_TOKEN_VALID 0 1
  { s with flt := { s.flt with copies := [h + 1, h + 1, h + 1], lastHb := s.dt, missRun := 0 },
           ecx := { s.ecx with staging := staged } }

/-- The lead half is fenced: the token moves to the standby half in the same clock, or, where that half can take
nothing, GRAVE on 0x03 (R341). A standby in RET gets a cause 3 request for ON (R344). -/
def State.moveToken (s : State) : State :=
  let h := 1 - s.lead
  if s.halfUsable h then
    let s := (s.setToken h).count .FLT_TOKEN_TKO_CNT 0
    let s := if s.domOn (dCTL h) then s else (s.requestDomain (dCTL h) 0 3).1
    { s.set .FLT_TOKEN_STANDBY_HOT 0 0 with flt := { s.flt with takeover := some s.dt, lastHb := s.dt } }
  else
    (s.set .FLT_TOKEN_VALID 0 0).grave 0x03 3 0 false

/-- The reference is lost (R334, source 0x0C): DT changes to the slow clock at its next tick (00_scope.md R11), DRAM enters
self-refresh and the domains that need the reference are held in RET or OFF: one that is ON goes to RET, one that is on its
way to ON waits at its oscillator step (notes/assumptions/157.md). -/
def State.loseReference (s : State) : State :=
  let s := { (s.set .PWRD_CLK_REF_RUN 0 0).set .PWRD_CLK_TCLK_RUN 0 0 with slowDue := true }
  let ds := [dLOOM, dHUB, dDRAM, dCAN 0, dCAN 1] ++ (List.range 12).map dPHY ++ (List.range 13).map dSH
  ds.foldl (fun s d =>
    if s.domFenced d then s
    else if s.domOn d then s.startTransition d 1 1 0
    else if s.effState d == 0 && 3 ≤ s.get .DOM_STAT_STEP d then s.beginStep d 2
    else s) s

/-- The fence and the reassignment of R334 for an error of class UNIT or above. -/
def State.react (s : State) (src kind : Nat) : State :=
  if kind == 0xF then
    { s with flt := { s.flt with aside := s.flt.aside.filter (fun a => !(pairSources src).contains a) ++ pairSources src } }
  else if src == 0x01 || src == 0x02 then
    let h := src - 1
    let wasLead := s.flag .FLT_TOKEN_VALID && s.lead == h
    let s := s.fenceDomain (dCTL h)
    let s := { s with boot := { s.boot with
      booted := s.boot.booted.set h false
      asked := s.boot.asked.set h false
      versions := s.boot.versions.set h 0
      updated := s.boot.updated && wasLead } }
    if wasLead then s.moveToken else s.set .FLT_TOKEN_STANDBY_HOT 0 0
  else if src == 0x04 then (s.loomWithdraw.fenceDomain dLOOM).memoryLost dLOOM
  else if src == 0x05 then (s.hubDisconnect.fenceDomain dHUB).memoryLost dHUB
  else if src == 0x06 || src == 0x07 then
    let sole := s.soleChannel (src - 6)
    let s := s.dramChannelLost (src - 6)
    if sole then ((s.bothDramLost).fenceDomain dDRAM).memoryLost dDRAM else s
  else if src == 0x08 || src == 0x09 then ((s.canFenced (src - 8)).fenceDomain (dCAN (src - 8))).hierSettle
  else if src == 0x0A then s.fenceDomain dSEC
  else if src == 0x0C then (if kind == 3 then s.loseReference else s.fenceDomain dMIF)
  else if 0x10 ≤ src && src ≤ 0x1C then (s.shuttleFence (src - 0x10)).fenceDomain (dSH (src - 0x10))
  else if 0x20 ≤ src && src ≤ 0x2B then (s.phyLost (src - 0x20)).fenceDomain (dPHY (src - 0x20))
  else if 0x30 ≤ src && src ≤ 0x37 then s.fenceDomain (dSKL (src - 0x30))
  else if 0x40 ≤ src && src ≤ 0x47 then (if kind == 0xB then s.loseLink (src - 0x40) else s)
  else s

/-- An error the open reaction has already taken: same source, kind and address (R330). -/
def State.sameError (s : State) (src kind addr : Nat) : Bool :=
  match s.flt.window with
  | some w => w.errs.contains ⟨src, kind, addr⟩
  | none => false

/-- An error of a source reaches the collector (R333, R335, R336). -/
def State.raiseFault (s : State) (src kind addr : Nat) (coded : Bool := true) : State :=
  let cls := s.classNow src kind addr
  if cls == 0 then s
  else if cls == 1 then s.notice src kind addr coded
  else if s.sameError src kind addr then s
  else if cls == 4 then s.grave src kind addr coded
  else
    (((s.setGecko { src := src, kind := kind, cls := cls, addr := addr }).openOrMerge src kind cls addr coded).react src
      kind).targetFenced s

/-- The AVSBus request has not been acknowledged: the device enters fallback (13_power_domains.md R320). -/
def State.avsFallback (s : State) : State :=
  let s := { s with avsTries := 0, avsAt := none, avsFrom := s.dt }
  let s := (s.set .PWRD_AVS_FALLBACK 0 1).set .PWRD_AVS_LOW_RAIL 0 0
  s.domainEvent 0xFFFF 4 (detailOf [(4, 2, s.get .PWRD_AVS_LAST_ACK_MV)])

/-- A fault of the power path of skein k, raised by the skein die (R331, R334): feed f = 0, 1, or port slot. A feed
declared absent raises none (03_feeds.md R79). -/
def State.raiseFeedFault (s : State) (u kind : Nat) : State :=
  if !s.flag .FEED_CFG_PRESENT u then s else s.raiseFault (0x38 + skeinOfFeed u) kind (u % 2)
def State.raisePortFault (s : State) (n kind : Nat) : State :=
  s.raiseFault (0x38 + skeinOfPort n) kind (0x10000 + n % 12)

end Sys2Proof.Machine
end

