-- ==== Sys2Proof/Machine/Security.lean ====
section
/-! DEFINITION. Lifecycle, keys, debug sessions (15_security_and_debug.md): the operations. -/

namespace Sys2Proof.Machine

/-- The lifecycle state that transition bits decode to (R352); none where bits [2:0] are no thermometer code. -/
def decodeLifecycle (bits4 : Nat) : Option Nat :=
  if bit bits4 3 then some lcRETIRED
  else if bits4 == 0 then some lcFACTORY
  else if bits4 == 1 then some lcPROVISIONED
  else if bits4 == 3 then some lcFIELD
  else if bits4 == 7 then some lcRETURN
  else none

/-- SEC is back in ON: it reads the fuses again and compares the decoded state with the AON copy (R353). -/
def State.recheckLifecycle (s : State) : State :=
  let o := s.sec.otp
  if o.rowA == o.rowB && decodeLifecycle o.rowA == some s.lifecycle then s else s.raiseFault 0x0A 0xE 0

/-- The key state: 0 none, 1 present, 2 destroyed (R252). -/
def Otp.keyState (o : Otp) : Nat := if o.destroyed then 2 else if o.seedValid then 1 else 0

/-- The private scalar of the identity key (R358). -/
def Otp.scalar (o : Otp) : Nat := o.seed % (Config.p384Order - 1) + 1

/-- Every unblown seed fuse is blown, and then the destroyed fuse (R357). -/
def Otp.destroy (o : Otp) : Otp := { o with seed := 2 ^ 384 - 1, destroyed := true }

/-- Owner slot `i` is programmed; it is an owner when it is also not revoked (R354). -/
def Otp.programmed (o : Otp) (i : Nat) : Bool := o.okh.getD i 0 != 0
def Otp.owner (o : Otp) (i : Nat) : Bool := i < 3 && o.programmed i && !bit o.revoked i

/-- The purposes of R355. -/
inductive Purpose where
  | observe | invasive | advance | retire | revoke | firmware | profile
  deriving DecidableEq, Repr

/-- R355: the vendor root key, an owner key, is permitted for a purpose in a lifecycle state. -/
def vendorOk (lc : Nat) : Purpose → Bool
  | .observe => lc == lcPROVISIONED || lc == lcRETURN
  | .invasive => lc == lcPROVISIONED || lc == lcRETURN
  | .advance => lc == lcFACTORY
  | .retire => lc == lcFACTORY || lc == lcRETURN
  | .revoke => false
  | .firmware => lc == lcFACTORY || lc == lcPROVISIONED || lc == lcRETURN || lc == lcRETIRED
  | .profile => false

def ownerOk (lc : Nat) : Purpose → Bool
  | .observe => lc == lcPROVISIONED || lc == lcFIELD || lc == lcRETURN
  | .invasive => lc == lcPROVISIONED || lc == lcFIELD
  | .advance => lc == lcPROVISIONED || lc == lcFIELD
  | .retire => lc == lcPROVISIONED || lc == lcFIELD || lc == lcRETURN
  | .revoke => lc == lcFACTORY || lc == lcPROVISIONED || lc == lcFIELD
  | .firmware => lc == lcPROVISIONED || lc == lcFIELD || lc == lcRETIRED
  | .profile => true

/-- R355: purposes that need no authorisation. -/
def openPurpose (lc : Nat) : Purpose → Bool
  | .observe | .invasive => lc == lcFACTORY
  | _ => false

/-- A key slot (0-2 owner, 0xFF vendor root) is permitted for a purpose and its hash matches (R252, R355). -/
def State.slotPermits (s : State) (slot : Nat) (key : List Nat) (pu : Purpose) : Bool :=
  if slot == 0xFF then vendorOk s.lifecycle pu && Config.sha384 key == s.sec.otp.vrkh
  else s.sec.otp.owner slot && ownerOk s.lifecycle pu && Config.sha384 key == s.sec.otp.okh.getD slot 0

/-- The current challenge (R252): issued less than 60 s ago. -/
def State.challenge (s : State) : Option Chal :=
  match s.sec.chal with
  | some c => if s.dt < c.issued + 60000000000 then some c else none
  | none => none

/-- The check of the secret region at a read has failed (13_power_domains.md R316): GRAVE, and safe hold. -/
def State.secretFailed (s : State) : State := (s.set .PWRD_RETMEM_SECRET_OK 0 0).raiseFault 0x48 6 0

/-- The challenge is no longer current. -/
def State.dropChallenge (s : State) : State :=
  { ((s.set .SEC_CHAL_CURRENT 0 0).set .SEC_CHAL_PURPOSE 0 0).set .SEC_CHAL_ARG 0 0 with
    sec := { s.sec with chal := none, secretUpset := false } }

/-- R252: an authorisation block of 194 bytes verifies for a purpose, with the challenge given. -/
def State.authOk (s : State) (block : List Nat) (c : Chal) (pu : Purpose) : Bool :=
  let slot := block.getD 0 0
  let key := (block.drop 1).take 97
  let sig := (block.drop 98).take 96
  openPurpose s.lifecycle pu ||
  (s.slotPermits slot key pu &&
   Config.ecdsaVerify key (Config.sha384 (toLE 32 c.value ++ toLE 8 s.sec.otp.serial ++ [c.purpose, c.arg])) sig)

/-- The debug level in force, which `SEC_DBG.LEVEL` shows: INVASIVE in FACTORY while `DBG_EN` is high, else the session's
(R363). -/
def State.debugLevel (s : State) : Nat :=
  if !s.pins.dbgEn then 0 else if s.lifecycle == lcFACTORY then 2 else s.get .SEC_DBG_LEVEL

/-- The level that an access has: none while `DEBUG_UNLOCK` waits for the mode changes that it causes (R365). -/
def State.accessLevel (s : State) : Nat := if s.sec.unlockBy.isSome then 0 else s.debugLevel

/-- A debugger may write `SEC_DBG.HB_MASK` (R366). -/
def State.mayMask (s : State) : Bool :=
  s.accessLevel == 2 && (s.lifecycle == lcFACTORY || s.lifecycle == lcRETURN)

/-- R364: in FIELD the first access or wake request of a session names its target domain; a target that is already
leaving ON ends the session under cause 3. -/
def State.nameTarget (s : State) (d : Nat) : State :=
  (if s.lifecycle == lcFIELD && s.flag .SEC_DBG_SESSION && !s.flag .SEC_DBG_TARGET_VALID then
    (s.set .SEC_DBG_TARGET_VALID 0 1).set .SEC_DBG_TARGET 0 d
  else s).sessionCheck

/-- R362, R364, R367: a debug wake request for a domain is allowed. SEC is never wakeable in FIELD, RETURN and
RETIRED. -/
def State.debugMayWake (s : State) (d : Nat) : Bool :=
  s.accessLevel != 0 && !(d == dSEC && lcFIELD ≤ s.lifecycle)
  && (s.lifecycle != lcFIELD || !s.flag .SEC_DBG_TARGET_VALID || s.get .SEC_DBG_TARGET == d)

end Sys2Proof.Machine
end

