-- ==== Sys2Proof/Machine/Profile.lean ====
section
/-! DEFINITION. The standing profile: its copies, its structure and the checks of 09_ecrax_protocol.md R232 to R234. -/

namespace Sys2Proof.Machine

/-- The spaces and unit counts of 17_registers.md R389 that hold register fields. -/
def spaceOf (code unit : Nat) : Option Space :=
  if code == 1 && unit < 96 then some .PORT
  else if code == 2 && unit < 8 then some .SKEIN
  else if code == 3 && unit < 16 then some .FEED
  else if code == 4 && unit < 13 then some .SHUTTLE
  else if code == 4 && unit == 13 then some .SHF
  else if code == 5 && unit < 42 then some .DOMAIN
  else none

/-- The parts of an `IND_ADDR` value: space, unit, offset (17_registers.md R389). -/
def indSpace (a : Nat) : Nat := bits a 28 4
def indUnit (a : Nat) : Nat := bits a 20 8
def indOff (a : Nat) : Nat := bits a 0 20 / 4 * 4

/-- A section of a profile: its type and its payload. -/
abbrev Section := Nat × List Nat

/-- The sections of a byte string (R233), each padded to 4 bytes; none where they do not fit. `n` bounds their number. -/
def sectionsOf : Nat → List Nat → Option (List Section)
  | 0, _ => none
  | n + 1, bs =>
    if bs.isEmpty then some []
    else
      let ty := leAt bs 0 2
      let len := leAt bs 2 2
      let padded := (len + 3) / 4 * 4
      if bs.length < 4 + padded then none
      else (sectionsOf n (bs.drop (4 + padded))).map (fun r => (ty, (bs.drop 4).take len) :: r)

/-- The sections of a profile that is well formed. -/
def profileSections (bs : List Nat) : List Section :=
  (sectionsOf (bs.length + 1) ((bs.drop 16).take (leAt bs 12 4))).getD []

def sectionLenOk (x : Section) : Bool :=
  if x.1 == 1 then x.2.length == 8
  else if x.1 == 2 then x.2.length == 192
  else if x.1 == 3 then x.2.length % 8 == 0
  else if x.1 == 4 then x.2.length == 100
  else false

def profileSigned (bs : List Nat) : Bool := bit (leAt bs 6 2) 1
def profileAuto (bs : List Nat) : Bool := bit (leAt bs 6 2) 0
def profileGen (bs : List Nat) : Nat := leAt bs 8 4

/-- R234 check 1: magic, version, lengths and section structure. -/
def profileStructOk (bs : List Nat) : Bool :=
  bs.take 4 == [0x4C, 0x4E, 0x50, 0x46] && leAt bs 4 2 == 1 && leAt bs 12 4 ≤ 65500
  && bs.length == 16 + leAt bs 12 4 + 4
  && (match sectionsOf (bs.length + 1) ((bs.drop 16).take (leAt bs 12 4)) with
      | none => false
      | some xs => xs.all sectionLenOk
          && (xs.dropLast.all (fun x => x.1 != 4))
          && (profileSigned bs == (match xs.getLast? with | some x => x.1 == 4 | none => false)))

/-- One register-image entry names a writable field and holds a value in its range (R234 check 4). A word whose only
writable fields are W1C names none (DESIGN CHOICE, notes/assumptions/169.md). -/
def imageEntryOk (a v : Nat) : Bool :=
  match spaceOf (indSpace a) (indUnit a) with
  | none => false
  | some sp =>
    let fs := fieldsAt sp (indOff a)
    fs.any (fun fe => fe.1.info.acc == .RW || fe.1.info.acc == .WO) &&
    (fieldsOf .RW sp (indOff a)).all (fun fe => inRange fe.1 (withPart fe.1 fe.2 (indOff a) 0 v))

/-- The 8-byte entries of a register image, and the 2-byte entries of the port modes. -/
def imageEntries (x : List Nat) : List (Nat × Nat) :=
  (List.range (x.length / 8)).map (fun i => (leAt x (8 * i) 4, leAt x (8 * i + 4) 4))

/-- R234 check 5: reserved fields are 0, and every other field holds a value its layout defines. -/
def sectionFieldsOk (x : Section) : Bool :=
  if x.1 == 1 then x.2.getD 0 0 ≤ 1 && x.2.getD 1 0 ≤ 63 && (leAt x.2 2 2 &&& 0xF801) == 0 && leAt x.2 4 4 == 0
  else if x.1 == 2 then (List.range 96).all (fun i => x.2.getD (2 * i) 0 ≤ 3 && x.2.getD (2 * i + 1) 0 ≤ 1)
  else if x.1 == 3 then (imageEntries x.2).all (fun e =>
    match spaceOf (indSpace e.1) (indUnit e.1) with
    | some sp => reservedBits sp (indOff e.1) e.2 == 0
    | none => true)
  else x.2.getD 0 0 ≤ 2 && leAt x.2 1 3 == 0

/-- R234 check 6. -/
def profileSigOk (s : State) (bs : List Nat) : Bool :=
  if profileSigned bs then
    match (profileSections bs).getLast? with
    | some x =>
      let slot := x.2.getD 0 0
      s.sec.otp.owner slot &&
      Config.profileVerify (s.sec.otp.okh.getD slot 0)
        (Config.sha384 (bs.take (bs.length - 4 - 104))) ((x.2.drop 4).take 96)
    | none => false
  else !(s.lifecycle == lcFIELD || s.lifecycle == lcRETURN)

/-- R234: the first check that fails, by its number; 0 when all pass. -/
def profileCheck (s : State) (bs : List Nat) : Nat :=
  if !profileStructOk bs then 1
  else if crc32 (bs.take (bs.length - 4)) != leAt bs (bs.length - 4) 4 then 2
  else
    let xs := profileSections bs
    if xs.any (fun x => x.1 == 1 && x.2.getD 0 0 == 1) && s.get .SYS_STRAP_MGR_ELIG == 0 then 3
    else if !(xs.all (fun x => x.1 != 3 || (imageEntries x.2).all (fun e => imageEntryOk e.1 e.2))) then 4
    else if !(xs.all sectionFieldsOk) || 4 ≤ leAt bs 6 2 then 5
    else if !profileSigOk s bs then 6
    else 0

/-- A copy of the profile region; a blank one is the empty list. -/
def State.copyBytes (s : State) (i : Nat) : List Nat := s.boot.flash.profiles.getD i []

/-- A copy is blank: its 16 header bytes all read 0xFF (R234); erased flash reads so past what was written. -/
def State.copyBlank (s : State) (i : Nat) : Bool := ((s.copyBytes i).take 16).all (fun b => b % 256 == 0xFF)
def State.copyPasses (s : State) (i : Nat) : Bool := !s.copyBlank i && profileCheck s (s.copyBytes i) == 0

/-- The copy in force (R232): the passing copy of higher generation, the first of two equal ones. -/
def State.inForce (s : State) : Option Nat :=
  match s.copyPasses 0, s.copyPasses 1 with
  | true, true => if profileGen (s.copyBytes 0) < profileGen (s.copyBytes 1) then some 1 else some 0
  | true, false => some 0
  | false, true => some 1
  | false, false => none

/-- SEC records the digest of the profile in force, zeros when there is none (15_security_and_debug.md,
notes/assumptions/45.md). -/
def State.noteProfile (s : State) : State :=
  let d := match s.inForce with
    | some i => Config.sha384 (s.copyBytes i)
    | none => 0
  { s with sec := { s.sec with profDigest := d, secretUpset := false } }

/-- R232, R243: write a staged profile into the copy that is not in force and read it back; 0, or the check that failed. What
the flash then holds is open (a free value, notes/assumptions/151.md). -/
def State.writeProfile (s : State) (bs : List Nat) : State × Nat :=
  let i := match s.inForce with | some i => 1 - i | none => 0
  if s.inForce.any (fun j => profileGen bs ≤ profileGen (s.copyBytes j)) then (s, 8)
  else
    let fl := s.boot.flash
    let got := Config.flashHolds s.freeCtr bs
    let s := { s with freeCtr := s.freeCtr + 1, boot := { s.boot with flash := { fl with profiles := fl.profiles.set i got } } }
    (s.noteProfile, if got == bs then profileCheck s bs else 7)

/-- The device booted from USB DFU and does not use the flash (`NO_FLASH`, R238). -/
def State.noFlash (s : State) : Bool := 2 ≤ s.get .SYS_STRAP_BOOT

end Sys2Proof.Machine
end

