-- ==== Sys2Proof/Machine/DeviceOps.lean ====
section
/-! DEFINITION. The device group of Ecrax opcodes (10_ecrax_opcodes.md R241 to R243). -/

namespace Sys2Proof.Machine

/-- The strap byte of `DEVICE_INFO`. -/
def State.strapByte (s : State) : Nat :=
  s.get .SYS_STRAP_MGMT_ADDR + 4 * s.get .SYS_STRAP_BOOT + 16 * s.get .SYS_STRAP_PREFHALF + 32 * s.get .SYS_STRAP_MGR_ELIG

/-- The firmware versions running on the halves (R241). -/
def State.versionOf (s : State) (h : Nat) : Nat := if s.boot.booted.getD h false then s.boot.versions.getD h 0 else 0

/-- `DEVICE_INFO` (R241). -/
def execDeviceInfo (p : Packet) (s : State) : Host.Outcome State Fault Refusal :=
  .next (runOp 0x00 p noWake (fun _ s => .res s
    (toLE 2 s.sec.otp.vendorId ++ toLE 2 0x9664 ++ toLE 2 0x0B00 ++ [s.idx, s.lifecycle] ++ toLE 8 s.sec.otp.serial
      ++ toLE 4 (s.versionOf 0) ++ toLE 4 (s.versionOf 1) ++ [s.strapByte] ++ List.replicate 7 0)) s)

/-- The number of gecko bits that are set. -/
def State.geckoCount (s : State) : Nat := ((List.range 80).filter s.gecko).length

/-- Byte 0 of `DEVICE_STATUS`, the fields of `SYS_STAT` (R241). -/
def State.statusByte (s : State) : Nat :=
  b2n s.ready + 2 * b2n s.safeHold + 4 * s.lead + 8 * s.get .FLT_TOKEN_STANDBY_HOT + 16 * b2n s.upConnected
    + 32 * s.get .AON_CONN_PERMIT

/-- `DEVICE_STATUS` (R241). -/
def execDeviceStatus (p : Packet) (s : State) : Host.Outcome State Fault Refusal :=
  .next (runOp 0x01 p noWake (fun _ s => .res s
    ([s.statusByte, s.lifecycle, s.debugLevel, s.geckoCount] ++ toLE 8 s.clock ++ List.replicate 4 0)) s)

/-- `CONNECT` (R241, 05_port_lifecycle.md R122, R123): the permission is set, or, in the 100 ms after a `DISCONNECT`,
the command is kept and acts when they end. -/
def execConnect (p : Packet) (s : State) : Host.Outcome State Fault Refusal :=
  .next (runOp 0x02 p noWake (fun p s =>
    if s.flag .AON_CONN_HOLDOFF then
      let s := s.displaceOpt s.up.deferBy
      { st := { s with up := { s.up with deferred := true, deferBy := some p.id } }, status := stDEFERRED }
    else .ok ((s.set .AON_CONN_PERMIT 0 1).settleDomains)) s)

/-- `DISCONNECT` (R241, 05_port_lifecycle.md R123): the permission is cleared, the connection withdrawn, and the device
does not connect again for 100 ms. -/
def execDisconnect (p : Packet) (s : State) : Host.Outcome State Fault Refusal :=
  .next (runOp 0x03 p noWake (fun _ s =>
    let s := (s.set .AON_CONN_PERMIT 0 0).upstreamWithdraw
    let s := (s.set .AON_CONN_HOLDOFF 0 1).displaceOpt s.up.deferBy
    .ok { s with up := { s.up with holdUntil := some (s.dt + 100000000), deferred := false, deferBy := none } }) s)

/-- `WARM_RESTART` (R242): the restart begins once the reply is read, or 5 ms after it is ready. -/
def execWarmRestart (p : Packet) (s : State) : Host.Outcome State Fault Refusal :=
  .next (runOp 0x04 p noWake (fun p s =>
    .ok { s with ecx := { s.ecx with restart := some (s.dt + 5000000), restartOf := some p.id, restartOut := false } }) s)

/-- The code of a channel (09_ecrax_protocol.md R217). -/
def Chan.code : Chan → Nat
  | .loom => 0
  | .mailbox => 1
  | .hierarchy => 2
  | .profile => 3

/-- The 16 bytes of a journal entry (09_ecrax_protocol.md R229). -/
def JEntry.bytes (e : JEntry) : List Nat :=
  toLE 2 e.tag ++ [e.opcode, e.chan.code + 4 * e.cls] ++ toLE 2 e.status
    ++ [b2n e.committed + 2 * b2n e.run + 4 * b2n e.discarded, e.origin] ++ toLE 4 e.seq ++ toLE 4 e.dt

/-- `JOURNAL_READ` (R241, 09_ecrax_protocol.md R230). -/
def execJournalRead (p : Packet) (s : State) : Host.Outcome State Fault Refusal :=
  .next (runOp 0x05 p noWake (fun p s =>
    let es := if p.u8 1 == 1 then s.ecx.journal.filter (fun e => e.chan.code == p.u8 0 && e.tag == p.u16 2)
      else s.ecx.journal
    .res s ([es.length, 0, 0, 0] ++ es.flatMap JEntry.bytes)) s)

/-- `CHANNEL_MASK` (R241, 09_ecrax_protocol.md R227): returns the previous mask. -/
def execChannelMask (p : Packet) (s : State) : Host.Outcome State Fault Refusal :=
  .next (runOp 0x06 p noWake (fun p s =>
    .res (s.set .AON_HIER_CHMASK 0 (p.u16 0)) (toLE 2 (s.get .AON_HIER_CHMASK))) s)

/-- `PROFILE_WRITE` (R243): stages a piece, or, with `LAST`, writes and checks the staged profile. -/
def execProfileWrite (p : Packet) (s : State) : Host.Outcome State Fault Refusal :=
  .next (runOp 0x07 p noWake (fun p s =>
    if s.noFlash then .fail s stNO_FLASH
    else
      let off := p.u32 0
      let old := if off == 0 then [] else s.ecx.staging
      let piece := p.params.drop 8
      if off != old.length || 65536 < old.length + piece.length then .fail s stBAD_PARAM
      else
        let s := { s with ecx := { s.ecx with staging := old ++ piece } }
        if p.u8 4 == 0 then .ok s
        else
          let w := s.writeProfile s.ecx.staging
          let s := { w.1 with ecx := { w.1.ecx with staging := [] } }
          if w.2 == 0 then .ok s else { st := s, status := stVERIFY_FAILED, results := [w.2] }) s)

/-- `PROFILE_READ` (R241). With no copy in force, copy 0 is the one at 0x0004_0000 (notes/assumptions/14.md). -/
def execProfileRead (p : Packet) (s : State) : Host.Outcome State Fault Refusal :=
  .next (runOp 0x08 p noWake (fun p s =>
    if s.noFlash then .fail s stNO_FLASH
    else
      let cur := s.inForce.getD 0
      let i := if p.u8 0 == 0 then cur else 1 - cur
      let bs := s.copyBytes i
      let byteAt := fun k => bs.getD k 0xFF
      .res s ((List.range 4).map (fun k => byteAt (8 + k)) ++ [0, 0, 0, 0]
        ++ (List.range (p.u16 2)).map (fun k => byteAt (p.u32 4 + k)))) s)

/-- `PROFILE_ERASE` (R241, 09_ecrax_protocol.md R232): erases both copies. -/
def execProfileErase (p : Packet) (s : State) : Host.Outcome State Fault Refusal :=
  .next (runOp 0x09 p noWake (fun _ s =>
    if s.noFlash then .fail s stNO_FLASH
    else
      let fl := s.boot.flash
      .ok ({ s with boot := { s.boot with flash := { fl with profiles := [[], []] } } } : State).noteProfile) s)

end Sys2Proof.Machine
end

