-- ==== Sys2Proof/Machine/Firmware.lean ====
section
/-! DEFINITION. Firmware images, the boot flash and the firmware group of Ecrax opcodes
(15_security_and_debug.md R359, R360; 10_ecrax_opcodes.md R253; 14_faults_and_takeover.md R345). -/

namespace Sys2Proof.Machine

/-- The slot the boot record names active: 0 where it is blank or invalid (R359). -/
def State.activeSlot (s : State) : Nat :=
  let r := s.boot.flash.record
  if r.length == 16 && r.take 4 == [0x4C, 0x4E, 0x42, 0x52] && r.getD 4 9 ≤ 1 && leAt r 5 7 == 0
      && crc32 (r.take 12) == leAt r 12 4 then r.getD 4 0 else 0

/-- Rewrite the boot record whole (R359). -/
def State.markActive (s : State) (slot : Nat) : State :=
  let b := [0x4C, 0x4E, 0x42, 0x52, slot] ++ List.replicate 7 0
  { s with boot := { s.boot with flash := { s.boot.flash with record := b ++ toLE 4 (crc32 b) } } }

/-- The slot that did not supply the running firmware (R253): after a DFU boot, the one the boot record does not name
active (16_start_up.md R380). -/
def State.otherSlot (s : State) : Nat :=
  if s.flag .SEC_BOOT_DFU then 1 - s.activeSlot else 1 - s.get .SEC_BOOT_SLOT

def State.slot (s : State) (i : Nat) : Slot := s.boot.flash.slots.getD i {}
def State.setSlot (s : State) (i : Nat) (x : Slot) : State :=
  { s with boot := { s.boot with flash := { s.boot.flash with slots := s.boot.flash.slots.set i x } } }

/-- The image version of a slot, 0 when it holds no header. -/
def imageVersion (bs : List Nat) : Nat := if bs.length < 512 then 0 else leAt bs 4 4
def imageSecVersion (bs : List Nat) : Nat := bs.getD 8 0
def State.slotVersion (s : State) (i : Nat) : Nat := imageVersion (s.slot i).bytes

/-- R360: the first check an image fails, by its number; 0 when it is accepted. A header whose security version is no number
of 0 to 128 (R359) fails the first (DESIGN CHOICE, notes/assumptions/191.md). -/
def imageCheck (s : State) (bs : List Nat) : Nat :=
  let len := leAt bs 12 4
  let slot := bs.getD 10 0
  let key := (bs.drop 16).take 97
  if bs.length < 512 || 128 < imageSecVersion bs || bs.take 4 != [0x4C, 0x4E, 0x46, 0x57] || 4193792 < len || bs.length != 512 + len then 1
  else if slot == 0xFF && !(vendorOk s.lifecycle .firmware && Config.sha384 key == s.sec.otp.vrkh) then 2
  else if slot != 0xFF && !(slot < 3 && s.sec.otp.programmed slot && ownerOk s.lifecycle .firmware
      && Config.sha384 key == s.sec.otp.okh.getD slot 0) then 2
  else if slot != 0xFF && bit s.sec.otp.revoked slot then 3
  else if !Config.ecdsaVerify key (Config.sha384 (bs.take 113 ++ bs.drop 512)) ((bs.drop 113).take 96) then 4
  else if imageSecVersion bs < s.sec.otp.arb then 5
  else 0

/-- Take an accepted image as the firmware working copy and record its digest (15_security_and_debug.md R361,
16_start_up.md R373). -/
def State.takeImage (s : State) (bs : List Nat) : State :=
  { s with boot := { s.boot with imageOk := true, working := bs, copyLost := false },
           sec := { s.sec with imgDigest := Config.sha384 bs, secretUpset := false } }

/-- An image was refused (R369): `SEC_BOOT.FAIL` and `VERIFY_FAIL`. -/
def State.noteRefused (s : State) (check : Nat) : State := (s.set .SEC_BOOT_FAIL 0 check).setBit .SEC_EVT 0 4

/-- An image slot was refused (R360, R361): so noted, with a NOTICE on source 0x49. -/
def State.imageRefused (s : State) (check : Nat) : State := (s.noteRefused check).raiseFault 0x49 0xE 0

/-- `FW_WRITE` (R253): offset 0 starts a new image; any other offset must equal the bytes already written; the image
must fit the 4 MiB slot. -/
def execFwWrite (p : Packet) (s : State) : Host.Outcome State Fault Refusal :=
  .next (runOp 0x90 p noWake (fun p s =>
    if s.noFlash then .fail s stNO_FLASH
    else
      let i := s.otherSlot
      let old := if p.u32 0 == 0 then [] else (s.slot i).bytes
      let piece := p.params.drop 8
      if p.u32 0 != old.length || 4194304 < old.length + piece.length then .fail s stBAD_PARAM
      else
        let s := s.setSlot i { bytes := old ++ piece, state := 1 }
        .ok { s with boot := { s.boot with verified := false } }) s)

/-- `FW_VERIFY` (R253, R360). -/
def execFwVerify (p : Packet) (s : State) : Host.Outcome State Fault Refusal :=
  .next (runOp 0x91 p (fun _ _ => [dSEC]) (fun _ s =>
    let i := s.otherSlot
    let bs := (s.slot i).bytes
    let c := imageCheck s bs
    if c == 0 then
      let s := s.setSlot i { bytes := bs, state := 2 }
      .res { s with boot := { s.boot with verified := true } }
        (toLE 4 (imageVersion bs) ++ [imageSecVersion bs, 0, 0, 0] ++ toLE 4 (leAt bs 12 4))
    else
      .fail (s.noteRefused c) (if c == 5 then stROLLBACK else stVERIFY_FAILED)) s)

/-- A standby half can take over: it is in step, or can be brought to ON (R253, R345). -/
def State.standbyReady (s : State) : Bool :=
  s.halfUsable (1 - s.lead) && s.flt.takeover.isNone

/-- `FW_ACTIVATE` (R253, R345; mode 1 16_start_up.md R373). -/
def execFwActivate (p : Packet) (s : State) : Host.Outcome State Fault Refusal :=
  .next (runOp 0x92 p noWake (fun p s =>
    let i := s.otherSlot
    if !s.boot.verified then .fail s stVERIFY_FAILED
    else if s.boot.phase != 0 then .fail s stBUSY
    else if p.u8 0 == 1 then .ok (s.markActive i)
    else if !s.standbyReady then .fail s stBUSY
    else if ((s.slot i).bytes.getD 9 0) != (s.boot.working.getD 9 0) then .fail s stVERIFY_FAILED
    else
      let h := 1 - s.lead
      let s := if s.domOn (dCTL h) then s else (s.requestDomain (dCTL h) 0 1).1
      .ok { s.set .FLT_TOKEN_STANDBY_HOT 0 0 with
              boot := { s.boot with phase := 1, phaseFrom := s.dt, updated := false } }) s)

/-- `FW_COMMIT` (R253, R360): raises the anti-rollback count to the active image's security version, of its 128
fuses at most. -/
def execFwCommit (p : Packet) (s : State) : Host.Outcome State Fault Refusal :=
  .next (runOp 0x93 p (fun _ _ => [dSEC]) (fun _ s =>
    let v := imageVersion s.boot.working
    if !(s.versionOf 0 == v && s.versionOf 1 == v && s.boot.booted == [true, true] && s.boot.phase == 0) then
      .fail s stBUSY
    else
      let n := max s.sec.otp.arb (min 128 (imageSecVersion s.boot.working))
      let s := if s.sec.otp.arb < n then s.setBit .SEC_EVT 0 5 else s
      .res { s with sec := { s.sec with otp := { s.sec.otp with arb := n } } } [n]) s)

/-- The state code of a slot: 3 for the one running (R253). -/
def State.slotState (s : State) (i : Nat) : Nat :=
  if !s.flag .SEC_BOOT_DFU && s.get .SEC_BOOT_SLOT == i && (s.boot.booted.any id) then 3 else (s.slot i).state

/-- `FW_STATUS` (R253). -/
def execFwStatus (p : Packet) (s : State) : Host.Outcome State Fault Refusal :=
  .next (runOp 0x94 p noWake (fun _ s => .res s
    (toLE 4 (s.versionOf 0) ++ toLE 4 (s.versionOf 1)
      ++ [s.get .SEC_BOOT_SLOT, s.slotState 0 + 4 * s.slotState 1, s.boot.phase, s.sec.otp.arb]
      ++ toLE 4 (s.slotVersion 0) ++ toLE 4 (s.slotVersion 1) ++ List.replicate 4 0)) s)

end Sys2Proof.Machine
end

