-- ==== Sys2Proof/Machine/HierOps.lean ====
section
/-! DEFINITION. The hierarchy's protocol engine: what is sent and when it reaches a transmit buffer, what every received
message does first, the manager's role, elections, Device Time and the loans (12_hierarchy.md). -/

namespace Sys2Proof.Machine

def tHEARTBEAT : Nat := 0x01
def tELECT : Nat := 0x02
def tANNOUNCE : Nat := 0x03
def tJOIN : Nat := 0x04
def tJOIN_ACK : Nat := 0x05
def tLEAVE : Nat := 0x06
def tTSYNC : Nat := 0x08
def tTFOLLOW : Nat := 0x09
def tDREQ : Nat := 0x0A
def tDRESP : Nat := 0x0B
def tCMD : Nat := 0x10
def tRPL : Nat := 0x11
def tEVENT : Nat := 0x12
def tWSTATUS : Nat := 0x13
def tLOAN : Nat := 0x14
def tLOAN_ACK : Nat := 0x15
def tPOOL_SYNC : Nat := 0x16
def tFW_CTRL : Nat := 0x18
def tFW_DATA : Nat := 0x19
def tFW_NACK : Nat := 0x1A

/-! ### Sending -/

/-- The pieces of 64 bytes of a packet, in order (R291). -/
def pieces64 (bs : List Nat) : List (List Nat) := (List.range ((bs.length + 63) / 64)).map (fun i => (bs.drop (64 * i)).take 64)

/-- Queue the segments of a packet for the active bus (R291, R297). -/
def State.hsendSegs (s : State) (typ prio dst : Nat) (bs : List Nat) : State :=
  (pieces64 bs).zipIdx.foldl (fun s x => s.hsendOn s.sendBus typ prio dst x.2 s.idx x.1) s

/-- The priority of `CMD` and `RPL` by class (R283). -/
def segPrio (cls : Nat) : Nat := if cls == 0 then 2 else if cls == 1 then 4 else 6

/-- A frame of a type, priority and destination waits, or is in a transmit buffer. -/
def State.inTransfer (s : State) (typ prio : Nat) (dst : Nat → Bool) : Bool :=
  s.hier.tx.any (fun m => m.typ == typ && m.prio == prio && dst m.dst)
  || s.hierCans.any (fun c => (s.txbIn c [1, 2, 6]).any (fun b =>
      let id := s.get .TXB_ID (3 * c + b)
      bits id 18 8 == typ && bits id 26 3 == prio && dst (bits id 6 6)))

/-- A worker's next event record goes out; after an overflow the record of the loss goes first (R293, R231). -/
def State.pumpEvent (s : State) : State :=
  if s.hier.st != some 0 || 64 ≤ s.hier.mgr || s.inTransfer tEVENT 5 (fun _ => true) then s
  else if s.ecx.hierLost != 0 then
    let r := s.overflowRec s.ecx.hierLost
    let s := { s with ecx := { s.ecx with hierLost := 0, evSeq := (s.ecx.evSeq + 1) % 65536 } }
    s.hsend tEVENT 5 s.hier.mgr r.bytes
  else match s.ecx.hierEvts with
    | [] => s
    | r :: rest => ({ s with ecx := { s.ecx with hierEvts := rest } } : State).hsend tEVENT 5 s.hier.mgr r.bytes

/-- A worker's next reply of a class goes out in segments (R291); one with a reserved class byte, which a refusal echoes, goes
out with the lowest class (DEDUCED, notes/assumptions/187.md). -/
def State.pumpReply (s : State) (cls : Nat) : State :=
  if s.hier.st != some 0 || 64 ≤ s.hier.mgr || s.inTransfer tRPL (segPrio cls) (fun _ => true) then s
  else match s.ecx.hierOut.find? (fun r => min r.cls 2 == cls) with
    | none => s
    | some r =>
      let s := { s with ecx := { s.ecx with hierOut := s.ecx.hierOut.erase r } }
      let s := if s.restartReply .hierarchy r.opcode r.tag r.seq && !r.dup then
          { s with ecx := { s.ecx with restartOut := true } } else s
      s.hsendSegs tRPL (segPrio cls) s.hier.mgr r.bytes

/-- The manager's next forwarded packets go out: one per peer and class at a time (R291). -/
def State.pumpForward (s : State) : State :=
  s.ecx.forwards.foldl (fun s f =>
    if f.sent || s.inTransfer tCMD (segPrio f.pkt.cls) (· == f.worker) then s
    else
      let fs := s.ecx.forwards.map (fun g => if g == f then ({ g with sent := true } : Forwarded) else g)
      ({ s with ecx := { s.ecx with forwards := fs } } : State).hsendSegs tCMD (segPrio f.pkt.cls) f.worker f.bytes) s

/-- The image that `FW_BROADCAST` sends and its chunks of 4,096 bytes (R303). -/
def State.fwImage (s : State) : List Nat := (s.slot s.otherSlot).bytes
def chunkCount (len : Nat) : Nat := (len + 4095) / 4096

/-- `FW_CTRL` (R304). -/
def State.fwCtrl (s : State) (kind round n a crc ver mask : Nat) : State :=
  s.hsend tFW_CTRL 7 63 ([kind, round] ++ toLE 2 n ++ toLE 4 a ++ toLE 4 crc ++ toLE 4 ver ++ toLE 8 mask)

/-- The manager's next chunk goes out, or `END` after the last of the round (R303). -/
def State.pumpFirmware (s : State) : State :=
  let fw := s.hier.fw
  if !fw.sending || fw.ended || s.hier.tx.any (fun m => m.typ == tFW_CTRL || m.typ == tFW_DATA) then s
  else match fw.waiting with
    | c :: rest =>
      let s := { s with hier := { s.hier with fw := { fw with waiting := rest } } }
      let bs := ((s.fwImage).drop (4096 * c)).take 4096
      (s.fwCtrl 2 fw.round c bs.length (crc32 bs) 0 0).hsendSegs tFW_DATA 7 63 bs
    | [] =>
      let s := { s with hier := { s.hier with fw := { fw with ended := true, endAt := 0 } } }
      s.fwCtrl 3 fw.round (chunkCount s.fwImage.length) 0 0 0 0

/-- Everything that waits for the bus. -/
def State.pump (s : State) : State :=
  ([0, 1, 2].foldl State.pumpReply s.pumpEvent).pumpForward.pumpFirmware

/-- The DLC code of a frame length. -/
def dlcCode (n : Nat) : Nat := ([0, 1, 2, 3, 4, 5, 6, 7, 8, 12, 16, 20, 24, 32, 48, 64].findIdx (n ≤ ·))

/-- The identifier of a hierarchy frame (R282). -/
def HOut.ident (m : HOut) : Nat :=
  m.prio % 8 * 2 ^ 26 + m.typ % 256 * 2 ^ 18 + m.src % 64 * 2 ^ 12 + m.dst % 64 * 2 ^ 6 + m.seg % 64

/-- Put a frame into transmit buffer `b`, `PENDING`. -/
def State.loadTxb (s : State) (c b : Nat) (m : HOut) : State :=
  let k := 3 * c + b
  let s := (s.set .TXB_ID k m.ident).set .TXB_IDE k 1
  let s := ((s.set .TXB_DLC k (dlcCode m.data.length)).set .TXB_FDF k 1).set .TXB_BRS k 1
  let s := (s.set .TXB_RTR k 0).set .TXB_ONESHOT k 0
  let s := (s.set .TXB_DATA k (ofLE m.data)).set .TXB_ATTEMPTS k 0
  (s.set .TXB_TS_VALID k 0).setTxb c b 1

/-- The firmware fills the free transmit buffers of a controller: the most urgent frames first, in the order in which
they were queued, and at most one frame of a priority at a time, so that frames of one priority leave in order
(notes/assumptions/35.md). -/
def State.loadTx (s : State) (c : Nat) : Nat → State
  | 0 => s
  | n + 1 =>
    let held := (s.txbIn c [1, 2, 6]).map (fun b => bits (s.get .TXB_ID (3 * c + b)) 26 3)
    match (s.txbIn c [0, 3, 4, 5]).head?,
        (sortBy (fun a b => a.prio < b.prio) (s.hier.tx.filter (fun m => s.busOf m == c))).find? (fun m => !held.contains m.prio) with
    | some b, some m =>
      let s := { s with hier := { s.hier with tx := s.hier.tx.erase m } }
      (s.loadTxb c b m).loadTx c n
    | _, _ => s

/-- A frame of the device has been sent without error, with its SOF stamp (R299, R300, R303); with the last segment of its
reply a `WARM_RESTART` may begin (10_ecrax_opcodes.md R242). -/
def State.hierSent (s : State) (c b stamp : Nat) : State :=
  let typ := bits (s.get .TXB_ID (3 * c + b)) 18 8
  let h := s.hier
  if typ == tTSYNC then { s with hier := { h with tsSent := h.tsSent.set c (some stamp) } }
  else if typ == tDREQ then { s with hier := { h with dreqStamp := some stamp } }
  else if typ == tRPL && s.ecx.restartOut && !s.inTransfer tRPL (segPrio 1) (fun _ => true) then
    ({ s with ecx := { s.ecx with restartOut := false } } : State).restartNow
  else if typ == tLEAVE then { s with hier := { h with leave := 2 } }
  else if typ == tHEARTBEAT then { s with hier := { h with hbSent := stamp } }
  else if typ == tFW_CTRL && s.get .TXB_DATA (3 * c + b) % 256 == 3 then
    { s with hier := { h with fw := { h.fw with endAt := s.dt + 100000000 } } }
  else s

/-! ### Receiving -/

/-- The device hears a message: a controller of the hierarchy for its bus, out of `INIT`, and no index conflict. -/
def State.hears (s : State) (m : HMsg) : Bool :=
  s.hierCans.contains m.bus && s.get .CAN_STAT_MODE_NOW m.bus != 0 && s.hier.st.isSome && !s.hier.conflict

/-- The first entry of a FIFO that holds the message leaves it: the firmware has taken it. -/
def takeEntry (id : Nat → Bool) : List RxEntry → List RxEntry
  | [] => []
  | e :: r => if id e.frame.id then r else e :: takeEntry id r

/-- An index conflict (R287): the device falls silent until `PORST_N`. -/
def State.indexConflict (s : State) : State :=
  let s := (s.hierMode 2).hierEvent s.idx 7
  { s with hier := { s.hier with st := some 3, conflict := true, tx := [] } }

/-- A message for the device alone; 0x3F names index 63 (R282). -/
def State.forMe (s : State) (m : HMsg) : Bool := m.dst == s.idx
/-- A broadcast. -/
def HMsg.toAll (m : HMsg) : Bool := m.dst == 63
/-- A worker hears its manager (R290). -/
def State.fromMgr (s : State) (m : HMsg) : Bool := s.hier.st == some 0 && m.src == s.hier.mgr

/-- Byte and word fields of a message's payload. -/
def HMsg.u8 (m : HMsg) (i : Nat) : Nat := m.data.getD i 0 % 256
def HMsg.u16 (m : HMsg) (i : Nat) : Nat := leAt m.data i 2
def HMsg.u32 (m : HMsg) (i : Nat) : Nat := leAt m.data i 4
def HMsg.u64 (m : HMsg) (i : Nat) : Nat := leAt m.data i 8

/-! ### Manager and worker -/

/-- A better candidate or manager: the lower rank, then the lower index (R278). -/
def better (r i r' i' : Nat) : Bool := r < r' || (r == r' && i < i')

/-- Send `JOIN` to a manager (R283, R284). -/
def State.sendJoin (s : State) (mgr : Nat) : State :=
  let cans := b2n (s.hierCans.contains 0) + 2 * b2n (s.hierCans.contains 1)
  (s.hwithdraw tJOIN).hsend tJOIN 3 mgr ([s.hier.rank, s.get .SYS_STRAP_MGR_ELIG + 2 * s.get .AON_HIER_ROLE, cans,
    s.lifecycle] ++ toLE 4 (s.boot.versions.getD s.lead 0))

/-- What each attached sink and Type-A device of a skein could be given at most, capped (R295). -/
def State.wantOf (s : State) (k : Nat) : Nat :=
  let level := fun n => if s.typeA n then 1500 else if s.allow3A n then 3000 else if s.allow1A5 n then 1500 else 500
  min (((skeinPorts k).filter (fun n => s.isAttached n)).foldl (fun w n => w + level n) 0)
    (1000 * s.get .SKN_CFG_IRATED k)

/-- Send `WSTATUS` (R283, R295). -/
def State.sendWstatus (s : State) : State :=
  (s.hwithdraw tWSTATUS).hsend tWSTATUS 5 s.hier.mgr ((List.range 8).flatMap (fun k =>
    let i := toInt 32 (s.get .SKN_I k)
    toLE 2 (s.get .SKN_BUDGET_BUDGET_MA k) ++ toLE 2 (s.get .SKN_LOAN_LOAN_MA k) ++ toLE 2 (s.wantOf k)
      ++ toLE 2 (if i < 0 then 0 else min i.toNat 65535)))

/-- The slot of `WSTATUS` that DT is in: DT 100 n ms + i ms (R285). -/
def State.wsSlot (s : State) : Nat := (s.clock - 1000000 * s.idx) / 100000000

/-- What a former manager's `TSYNC`, `TFOLLOW` and `DREQ` left belongs to no exchange with the new one (R299, R300). -/
def State.newTime (s : State) : State :=
  { s with hier := { s.hier with
    tsStamp := [none, none], lastFseq := none, aDiff := none, dreqAt := none, dreqStamp := none } }

/-- The device takes another as its manager (R284, R290): a change of manager discards a firmware image being gathered
(R304). Its windows count from the frame by which it takes it (notes/assumptions/154.md). -/
def State.takeManager (s : State) (src _rank stamp : Nat) (noted : Bool) : State :=
  let old := s.hier.mgr
  let s := ((s.hwithdraw tELECT).hwithdraw tHEARTBEAT).hwithdraw tANNOUNCE
  let s := { s with hier := { s.hier with
    st := some 0, mgr := src, candidate := false, barred := false, lastHb := stamp - s.stepped,
    hbSent := stamp, wsTick := s.wsSlot, fw := if old == src then s.hier.fw else {} } }
  let s := if old == src then s else s.newTime
  if noted && old != src then s.hierEvent s.idx 3 [(3, 1, old)] else s

/-- The device has joined its manager: the first `TFOLLOW` asks for the path delay anew (R300). -/
def State.joined (s : State) : State :=
  { s with hier := { s.hier with
    joinFollow := true, delays := [], leave := 0, lastFseq := none, aDiff := none, dreqAt := none, dreqStamp := none } }

/-- The members the device knows, bit i for index i (R250, R285). -/
def State.memberMask (s : State) : Nat :=
  if s.hier.st == some 1 || s.hier.st == some 2 then
    (s.hier.members.filter (fun m => !m.absent)).foldl (fun w m => bitOr w (2 ^ m.idx)) (2 ^ s.idx)
  else s.hier.memMask

/-- What the manager counts as lent to a skein: the higher of the old and the new loan until the new one is
acknowledged (R298). -/
def Member.held (m : Member) (k : Nat) : Nat :=
  if m.sentAt.isSome then max (m.loan.getD k 0) (m.sent.getD k 0) else m.loan.getD k 0

/-- A member without a `LOAN` under way: what is counted as lent to it stands (R298), and nothing is to change. -/
def Member.settled (m : Member) : Member :=
  let now := (List.range 8).map m.held
  { m with loan := now, target := now, sentAt := none, sentMask := 0 }

/-- The device is manager: it sends heartbeats from the next multiple of 10 ms of DT on (R284, R285) and names a bus that it
can use (R280). What it knows of members it keeps, with the loans they hold (R296), and nothing of the loans it had begun in
an earlier term; the records that waited for a manager have gone out on its own paths. -/
def State.becomeManager (s : State) : State :=
  let s := ((s.set .TIME_STAT_SYNC 0 0).set .TIME_STAT_LOCKED 0 0)
  let bus := s.sendBus
  { s with
    hier := { s.hier with
      st := some 1, mgr := s.idx, candidate := false, active := bus, hbTick := s.clock / 10000000,
      tsTick := s.clock / 125000000, loanTick := s.clock / 100000000, lendFrom := s.dt + 200000000, poolAt := s.dt,
      slew := 0, fw := {}, ownTarget := [], members := s.hier.members.map Member.settled },
    ecx := { s.ecx with hierEvts := [], hierLost := 0 } }

/-- An election starts at `tL` (R284, R288); the device applies a change of its rank, and one that is barred stays out of
this one election (R278). -/
def State.startElection (s : State) (tL : Nat) : State :=
  let s := s.freezeLoans
  let rank := s.get .AON_HIER_RANK
  let can := s.flag .SYS_STRAP_MGR_ELIG && !s.hier.barred
  let s := { s with hier := { s.hier with st := some 4, tL := tL, rank := rank, candidate := can, barred := false,
                                          frames := false } }
  let s := s.hierEvent s.idx 2 [(3, 4, s.hier.elections)]
  let s := s.hwithdraw tELECT
  if can then
    s.hsendOn s.sendBus tELECT 0 63 s.idx rank ([rank, s.idx, 0, 0] ++ toLE 4 s.hier.poolGen)
  else s

/-- The manager that must go demotes itself (R290). -/
def State.demote (s : State) (src rank stamp : Nat) : State :=
  let s := (s.takeManager src rank stamp false).joined.freezeLoans
  let s := s.hierEvent s.idx 6 [(3, 1, src)]
  s.sendJoin src

/-- The pool image (R297). -/
def State.poolImage (s : State) : List Nat :=
  toLE 4 s.hier.poolGen ++ (List.range 16).flatMap (fun p => toLE 4 (s.hier.caps.getD p 0))
  ++ (List.range 512).map (fun i =>
      ((s.hier.poolOf.find? (fun x => x.1 == i / 8 && x.2.1 == i % 8)).map (fun x => x.2.2)).getD 255)

/-- Send the pool image (R297). -/
def State.sendPools (s : State) : State :=
  let s := s.hsendSegs tPOOL_SYNC 5 63 s.poolImage
  { s with hier := { s.hier with poolAt := s.dt } }

/-- Change what the manager knows of a member. -/
def State.modMember (s : State) (i : Nat) (f : Member → Member) : State :=
  { s with hier := { s.hier with members := s.hier.members.map (fun m => if m.idx == i then f m else m) } }

/-- A member is absent, with the byte that says why (R285, R294). -/
def State.memberGone (s : State) (i why : Nat) : State :=
  (s.modMember i (fun m => { m with absent := true })).hierEvent i 1 [(3, 1, why)]

/-- The last controller of the hierarchy is about to leave it: `LEAVE` goes first, where the controller can send it
(R279). The flag says whether the controller may leave now. -/
def State.leaveFirst (s : State) (c why : Nat) : State × Bool :=
  let able := s.canOn c && s.get .CAN_STAT_MODE_NOW c == 1 && s.flag .CAN_STAT_SYNCED c && !s.flag .CAN_STAT_LONE c
    && s.get .CAN_STAT_ESTATE c != 2
  if s.get .CAN_CTL_USE c != 0 || s.hier.st != some 0 || s.hierCans.any (· != c) || !able || s.hier.leave == 2 then (s, true)
  else if s.hier.leave == 1 then (s, false)
  else
    let s := s.hsendOn c tLEAVE 3 s.hier.mgr 0 s.idx [if s.lifecycle == lcRETIRED then 2 else why, 0, 0, 0]
    ({ s with hier := { s.hier with leave := 1 } }, false)

/-! ### Device Time (R299 to R302) -/

/-- DT steps forward; every running timer moves with it, the measurement window that runs too (R302). -/
def State.stepTime (s : State) (n : Nat) : State :=
  let s := { s with stepped := s.stepped + n, measShift := s.measShift + n }
  let s := (s.count .TIME_STAT_STEP_CNT 0).set .TIME_CORR_CORR_NS 0 n
  s.hierEvent s.idx 10 [(3, 1, 1), (4, 6, n)]

/-- The lock is lost, `why` 0 for the offset, 1 for no `TFOLLOW` (R301). -/
def State.unlockTime (s : State) (why : Nat) : State :=
  let s := (s.set .TIME_STAT_LOCKED 0 0).set .TIME_STAT_SYNC 0 0
  ({ s with hier := { s.hier with slew := 0, good := 0 } } : State).hierEvent s.idx 12 [(3, 1, why)]

/-- Slew out an offset over the next 125 ms, at most 12.5 µs of it (R301). -/
def State.startSlew (s : State) (e : Int) : State :=
  let v := max (-12500) (min 12500 (-e))
  ({ s with hier := { s.hier with slew := v, slewFrom := s.dt, slewDone := 0 } } : State).set .TIME_CORR_CORR_NS 0 (ofInt 32 v)

/-- The mean of the last four path delays (R300). -/
def Hier.delay (h : Hier) : Int := if h.delays.isEmpty then 0 else h.delays.foldl (· + ·) 0 / h.delays.length

/-- The offset of a `TSYNC` is judged (R300 to R302): a step when 1 ms or more behind, else a slew; the lock counts
offsets below 500 ns and is lost above 2 µs. Before the first `DRESP` only a step is made. -/
def State.judgeOffset (s : State) (e : Int) : State :=
  let big := decide (1000000 ≤ e.natAbs)
  let known := !s.hier.delays.isEmpty
  let locked := s.flag .TIME_STAT_LOCKED
  let s := if locked && 2000 < e.natAbs then s.unlockTime 0 else s
  let s := if big && e < 0 then s.stepTime e.natAbs
    else if !big && known && !(locked && 2000 < e.natAbs) then s.startSlew e
    else s
  let good := if known && e.natAbs < 500 then s.hier.good + 1 else 0
  let s := { s with hier := { s.hier with good := good } }
  if 4 ≤ good && !s.flag .TIME_STAT_LOCKED then
    ((s.set .TIME_STAT_LOCKED 0 1).set .TIME_STAT_SYNC 0 1).hierEvent s.idx 11
  else s

/-! ### Loans (R295 to R298) -/

/-- A skein of the hierarchy as its manager reckons it: index, skein, demand. -/
structure Demand where
  idx    : Nat
  skein  : Nat
  demand : Nat
  deriving DecidableEq, Repr

/-- The member record of the manager's own skeins. -/
def State.selfMember (s : State) : Member :=
  { idx := s.idx, last := s.dt,
    budget := (List.range 8).map (fun k => s.get .SKN_BUDGET_BUDGET_MA k),
    loan := (List.range 8).map (fun k => s.get .SKN_LOAN_LOAN_MA k),
    want := (List.range 8).map s.wantOf }

/-- The members of a pool among those known, as (member, skein). -/
def State.poolMembers (s : State) (p : Nat) : List (Member × Nat) :=
  (s.selfMember :: s.hier.members.filter (fun m => m.idx != s.idx)).flatMap (fun m =>
    ((List.range 8).filter (fun k => s.hier.poolOf.any (fun x => x.1 == m.idx && x.2.1 == k && x.2.2 == p))).map
      (fun k => (m, k)))

/-- Share out what is free, the smallest demands first (R296): the loans, as (index, skein, loan). -/
def shareOut : List Demand → Nat → Nat → List (Nat × Nat × Nat)
  | [], _, _ => []
  | d :: r, free, n =>
    let loan := min d.demand (free / n)
    (d.idx, d.skein, loan) :: shareOut r (free - loan) (n - 1)

/-- The loans of a pool (R296). -/
def State.poolLoans (s : State) (p : Nat) : List (Nat × Nat × Nat) :=
  let ms := s.poolMembers p
  let away := (ms.filter (fun x => x.1.absent)).foldl (fun w x => w + x.1.held x.2) 0
  let here := (ms.filter (fun x => !x.1.absent)).map (fun x =>
    (⟨x.1.idx, x.2, x.1.want.getD x.2 0 - x.1.budget.getD x.2 0⟩ : Demand))
  let order := sortBy (fun a b => a.demand < b.demand || (a.demand == b.demand && (a.idx < b.idx
    || (a.idx == b.idx && a.skein < b.skein)))) here
  shareOut order (s.hier.caps.getD p 0 - away) order.length

/-- A loan that moves by at least 100 mA, or to or from 0, is a change (R296). -/
def loanMoves (old new : Nat) : Bool := old != new && (old == 0 || new == 0 || old + 100 ≤ new || new + 100 ≤ old)

/-- Apply a loan to a skein of this device (R298). -/
def State.setLoan (s : State) (k v : Nat) : State :=
  let s := s.set .SKN_LOAN_LOAN_MA k v
  s.budgetMoved k

/-- The new targets of a member: only what moves enough. -/
def Member.retarget (m : Member) (ls : List (Nat × Nat × Nat)) : Member :=
  { m with target := (List.range 8).map (fun k =>
      let old := m.loan.getD k 0
      match ls.find? (fun l => l.1 == m.idx && l.2.1 == k) with
      | some l => if loanMoves old l.2.2 then l.2.2 else old
      | none => if loanMoves old 0 then 0 else old) }

/-- The skeins of a member whose loan falls, rises. -/
def Member.falls (m : Member) : Nat :=
  (List.range 8).foldl (fun w k => if m.target.getD k 0 < m.loan.getD k 0 then w + 2 ^ k else w) 0
def Member.rises (m : Member) : Nat :=
  (List.range 8).foldl (fun w k => if m.loan.getD k 0 < m.target.getD k 0 then w + 2 ^ k else w) 0

/-- Send `LOAN` to a member with the loans given (R283, R298). -/
def State.putLoan (s : State) (m : Member) (mask gen : Nat) (loans : List Nat) : State :=
  let s := s.modMember m.idx (fun m => { m with gen := gen, sentAt := some s.dt, sentMask := mask, sent := loans })
  s.hsend tLOAN 2 m.idx ([gen, mask, 0, 0] ++ loans.flatMap (toLE 2))

/-- Send `LOAN` to a member for the skeins of a mask: their new loans, and what the other skeins hold. -/
def State.sendLoan (s : State) (m : Member) (mask gen : Nat) : State :=
  s.putLoan m mask gen ((List.range 8).map (fun k => if bit mask k then m.target.getD k 0 else m.loan.getD k 0))

/-- The next loan generation. -/
def State.nextGen (s : State) : State × Nat :=
  let g := (s.hier.loanGen + 1) % 256
  ({ s with hier := { s.hier with loanGen := g } }, g)

/-! ### The timers of a member, and what a message meets -/

/-- R284: the listen window of 20 ms ends. A heartbeat was heard: `JOIN`; none, with the role and the strap of a
manager and no election heard: manager. -/
def State.listenWindowEnd (s : State) (t : Nat) : State :=
  let h := s.hier
  if h.st != some 3 || h.conflict || h.listened || t < h.tj + 20000000 then s
  else
    let s := { s with hier := { s.hier with listened := true } }
    if h.heard then (s.hierMode 1).sendJoin h.mgr
    else if s.flag .AON_HIER_ROLE && s.flag .SYS_STRAP_MGR_ELIG && !h.electOn then (s.hierMode 1).becomeManager
    else s

/-- R284: 1 s without a heartbeat: an eligible device starts an election, another becomes a silent island. -/
def State.joinTimeout (s : State) (t : Nat) : State :=
  let h := s.hier
  if h.st != some 3 || h.conflict || h.heard || t < h.tj + 1000000000 then s
  else
    let s := s.hierMode 1
    if s.flag .SYS_STRAP_MGR_ELIG then s.startElection (h.tj + 1000000000) else s.becomeIsland false

/-- R285, R288: the third heartbeat window has ended without one. -/
def State.heartbeatLoss (s : State) (t : Nat) : State :=
  if s.hier.st == some 0 && s.hier.lastHb + 30000000 ≤ t then s.startElection (s.hier.lastHb + 30000000) else s

/-- R288, R289: the election window of 20 ms ends. With no frame heard since it began the device is alone; a remaining
candidate becomes manager: it collects `WSTATUS` for 200 ms from 51 ms after the last heartbeat, and every member is absent
until it has sent one. -/
def State.electionWindowEnd (s : State) (t : Nat) : State :=
  let h := s.hier
  if h.st != some 4 || t < h.tL + 20000000 then s
  else if !h.frames then (s.hwithdraw tELECT).becomeIsland true
  else if h.candidate then
    let s := (s.hwithdraw tELECT).becomeManager
    let s := { s with hier := { s.hier with
      elections := h.elections + 1, lendFrom := h.tL + 221000000,
      members := s.hier.members.map (fun (m : Member) => { m with absent := true }) } }
    let s := s.hsend tANNOUNCE 0 63 ([h.rank, 0, 0, 0] ++ toLE 4 s.hier.elections)
    s.hierEvent s.idx 3 [(3, 1, h.mgr)]
  else s

/-- R284: no `ANNOUNCE` by tL + 30 ms though frames were heard: a new election. -/
def State.electionRetry (s : State) (t : Nat) : State :=
  let h := s.hier
  if h.st != some 4 || !h.frames || t < h.tL + 30000000 then s else s.startElection (h.tL + 30000000)

/-- The member's windows that have ended by `t`: a message stamped at the end of one belongs to the next
(00_scope.md R13). -/
def State.memberTimers (s : State) (t : Nat) : State :=
  ((((s.listenWindowEnd t).joinTimeout t).heartbeatLoss t).electionWindowEnd t).electionRetry t

/-- When a message was received: its receipt stamp, on the time base of the device's timers, which a step of DT does not
move (R302). -/
def State.receivedAt (s : State) (m : HMsg) : Nat := min s.dt (m.stamp - s.stepped)

/-- What every received message does first (R284, R287): the windows that had ended by its stamp close, it leaves the FIFO,
its bus has delivered a frame, an election has heard somebody, and a source that is the device's own index is a conflict. -/
def receiveMsg (typ : Nat) (m : HMsg) (s : State) (f : State → State) : State :=
  if !s.hears m then s
  else
    let s := s.memberTimers (s.receivedAt m)
    let q := takeEntry (fun id => bits id 18 8 == typ && bits id 0 18 == m.src * 4096 + m.dst * 64 + m.seg)
      (s.can m.bus).fifo
    let s := (s.modCan m.bus (fun x => { x with fifo := q })).syncFifo m.bus
    let s := { s with hier := { s.hier with busLast := s.hier.busLast.set m.bus s.dt, frames := true } }
    let s := s.followBus
    if (if typ == tELECT then m.seg else m.src) == s.idx then s.indexConflict else f s

end Sys2Proof.Machine
end

