-- ==== Sys2Proof/Machine/CanCmds.lean ====
section
/-! DEFINITION. The CAN controllers: register writes, transmit buffers, attempts and their ends, reception, error states,
LONE and the change of use (11_can_controllers.md R256 to R276). -/

namespace Sys2Proof.Machine

/-! ### Register writes -/

/-- The bit timing obeys R257, R258 and R260. -/
def canTimingOk (s : State) (c : Nat) : Bool :=
  let v := fun f => s.get f c + 1
  let nq := 1 + v .CAN_NBT_NTSEG1 + v .CAN_NBT_NTSEG2
  let dq := 1 + v .CAN_DBT_DTSEG1 + v .CAN_DBT_DTSEG2
  let nbit := v .CAN_NBT_NBRP * nq
  let dbit := v .CAN_DBT_DBRP * dq
  2 ≤ v .CAN_NBT_NTSEG1 && v .CAN_NBT_NSJW ≤ v .CAN_NBT_NTSEG2 && 8 ≤ nq && 40 ≤ nbit
  && v .CAN_DBT_DSJW ≤ v .CAN_DBT_DTSEG2 && 5 ≤ dq && 5 ≤ dbit && dbit ≤ nbit
  && (!s.flag .CAN_CTL_TDC_EN c || v .CAN_DBT_DBRP ≤ 2)

/-- A write was refused: `WR_REFUSED` (R259, R263, R264). -/
def State.canRefuse (s : State) (c : Nat) : State := s.canInt c 12

/-- R267: an abort of one buffer. -/
def State.abortTxb (s : State) (c b : Nat) : State :=
  if s.txb c b == 1 || s.txb c b == 6 then (s.setTxb c b 4).canInt c 3
  else if s.txb c b == 2 then s.modCan c (fun x => { x with abortOf := b :: x.abortOf })
  else s

/-- R264: a request for one buffer. -/
def State.requestTxb (s : State) (c b : Nat) : State :=
  if [1, 2, 6].contains (s.txb c b) then s.canRefuse c
  else ((s.setTxb c b 1).set .TXB_ATTEMPTS (3 * c + b) 0).set .TXB_TS_VALID (3 * c + b) 0

/-- A write of `CAN_TXCMD`: for one buffer the abort wins (R264, R267). -/
def State.canTxCmd (s : State) (c req abort : Nat) : State :=
  let s := (maskBits 3 abort).foldl (fun s b => s.abortTxb c b) s
  (maskBits 3 (bitClear req abort)).foldl (fun s b => s.requestTxb c b) s

/-- R270: advance the head of the receive FIFO. -/
def State.popFifo (s : State) (c : Nat) : State :=
  (s.modCan c (fun x => { x with fifo := x.fifo.drop 1 })).syncFifo c

/-- A write of a path reaches the FIFO of controller `c`: one of the management port while MIF is ON, of a debugger at INVASIVE
for whom the controller is in reach (15_security_and_debug.md R364, R367). -/
def State.popReach (s : State) (p : Path) (c : Nat) : Bool :=
  match p with
  | .mgmt => s.domOn dMIF && !s.pins.porstLow
  | .ecrax => !s.pins.porstLow
  | .debug => !s.pins.porstLow && s.accessLevel == 2
      && (s.lifecycle != lcFIELD || !s.flag .SEC_DBG_TARGET_VALID || s.get .SEC_DBG_TARGET == dCAN c)

/-- A word written at a direct address is a `POP` of controller `c`. -/
def isPop (c addr v : Nat) : Bool :=
  addr / 65536 % 256 == 7 + c && addr % 65536 / 4 * 4 == 0x34 && v % 2 == 1

/-- The words of a management-port write from a byte address on pop the FIFO of controller `c` (17_registers.md R384). -/
def writePops (c : Nat) (bytes : List Nat) : Bool :=
  let a := leAt (bytes.map (· % 256)) 0 3 / 4 * 4
  let t := 0x10000 * (7 + c) + 0x34
  a / 65536 == 7 + c && a ≤ t && t - a + 7 ≤ bytes.length && (bytes.getD (t - a + 3) 0) % 2 == 1

/-- A `REG_WRITE` that can run now pops the FIFO of controller `c` (10_ecrax_opcodes.md R254). -/
def State.opPops (s : State) (c : Nat) (p : Packet) : Bool :=
  let q := opPacket 0xA1 p
  let t := 0x10000 * (7 + c) + 0x34
  q.u8 0 == 0 && q.u8 1 == 0 && q.u32 4 ≤ t && t < q.u32 4 + 4 * q.u16 2 && q.u32 4 / 65536 == 7 + c
    && q.u8 (8 + (t - q.u32 4)) % 2 == 1 && !mustWait s.ecx.queue q && !s.noLead && (refusalOf s q).isNone

/-- A command pops the FIFO of controller `c`: every way to write `POP` counts (R270). -/
def State.popsFifo (s : State) (c : Nat) (i : Instr) : Bool :=
  match i with
  | .fifoPop k => k == c
  | .registerWrite p addr v => isPop c addr v && s.popReach p c
  | .mgmtWrite _ bytes => writePops c bytes && s.popReach .mgmt c
  | .regWrite p => s.opPops c p
  | .debugAccess acc => acc.place == .register && !acc.ind && s.pins.dbgEn && s.popReach .debug c
      && (match acc.what with | .write v => isPop c acc.addr v | _ => false)
  | _ => false

/-- The pops of this clock cycle that still wait, which a store of the same cycle lets go first (R270;
notes/assumptions/139.md). -/
def State.popsWaiting (s : State) (c : Nat) : Nat :=
  if s.get .CAN_CTL_USE c == 0 || !s.domOn (dCAN c) then 0 else s.pending.countP (s.popsFifo c) - (s.can c).popped

/-- The clock cycle ends: no pop of it waits any more. -/
def State.popsOver (s : State) : State := (s.modCan 0 (fun x => { x with popped := 0 })).modCan 1 (fun x => { x with popped := 0 })

/-- Take them. -/
def State.popFirst (s : State) (c : Nat) : State :=
  let n := s.popsWaiting c
  if n == 0 then s
  else (s.modCan c (fun x => { x with fifo := x.fifo.drop n, popped := x.popped + n })).syncFifo c

/-- A write to a word of a CAN block by the host; a `POP` that a store of its clock cycle has let go first is done (R259,
R263, R264, R267, R270, R276); false where it is refused. Words that hold only read-only fields ignore it, and the aliases act
on words with RW fields only. -/
def State.canWrite (s : State) (c : Nat) (m : WMode) (off data : Nat) : State × Bool :=
  let own := !(fieldsOf .RW .CAN off).isEmpty || !(fieldsOf .WO .CAN off).isEmpty
  if !own then ((if m == .write then applyWord s m .CAN c off data else s), true)
  else if s.get .CAN_CTL_USE c == 0 then (s.canRefuse c, false)
  else if off == 0x20 then
    ((if m == .write then s.canTxCmd c (bits data 0 3) (bits data 4 3) else s), true)
  else if off == 0x34 then
    ((if m != .write || data % 2 == 0 then s
      else if (s.can c).popped != 0 then s.modCan c (fun x => { x with popped := x.popped - 1 })
      else s.popFifo c), true)
  else if off == 0x08 || off == 0x0C || off == 0x10 then
    let t := applyWord s m .CAN c off data
    if s.get .CAN_STAT_MODE_NOW c == 0 && canTimingOk t c then (t, true) else (s.canRefuse c, false)
  else if 0x100 ≤ off && off < 0x280 && [1, 2, 6].contains (s.txb c ((off - 0x100) / 0x80)) then (s.canRefuse c, false)
  else (applyWord s m .CAN c off data, true)

/-- R261: a write of `CAN_CTL.MODE`. -/
def execCanModeWrite (can : Nat) (mode : Nat) (s : State) : Host.Outcome State Fault Refusal :=
  if 2 ≤ can || !s.domOn (dCAN can) then .next s
  else
    let w := wordOf (fun f k => s.get f k) .CAN can 0
    .next (s.canWrite can .write 0 (putBits w 0 2 mode)).1

/-- R259: a write to `CAN_NBT`, `CAN_DBT` or `CAN_TDC`, by its offset. -/
def execCanTimingWrite (can : Nat) (off : Nat) (data : Nat) (s : State) : Host.Outcome State Fault Refusal :=
  if 2 ≤ can || !s.domOn (dCAN can) || !(off == 0x08 || off == 0x0C || off == 0x10) then .next s
  else .next (s.canWrite can .write off data).1

/-- R264: a write of `REQ` bits. -/
def execTxRequest (can : Nat) (mask : Nat) (s : State) : Host.Outcome State Fault Refusal :=
  if 2 ≤ can || !s.domOn (dCAN can) then .next s else .next (s.canWrite can .write 0x20 (bits mask 0 3)).1

/-- R267: a write of `ABORT` bits, with the `REQ` bits of the same access. -/
def execTxAbort (can : Nat) (mask : Nat) (req : Nat) (s : State) : Host.Outcome State Fault Refusal :=
  if 2 ≤ can || !s.domOn (dCAN can) then .next s
  else .next (s.canWrite can .write 0x20 (bits req 0 3 + 16 * bits mask 0 3)).1

/-- R264: a write to the identifier, control or data words of a transmit buffer, by its offset in the buffer. -/
def execTxbWrite (can : Nat) (buf : Nat) (off : Nat) (data : Nat) (s : State) : Host.Outcome State Fault Refusal :=
  if 2 ≤ can || !s.domOn (dCAN can) || 3 ≤ buf || 0x80 ≤ off then .next s
  else .next (s.canWrite can .write (0x100 + 0x80 * buf + off / 4 * 4) data).1

/-- R270: a write of `POP`. -/
def execFifoPop (can : Nat) (s : State) : Host.Outcome State Fault Refusal :=
  if 2 ≤ can || !s.domOn (dCAN can) then .next s else .next (s.canWrite can .write 0x34 1).1

/-! ### Modes and use -/

/-- A mode takes effect (R261, R271): out of `INIT` the controller has to synchronise; `NORMAL` after `INIT` lets a
bus-off controller without `AUTO_RECOVER` recover. -/
def State.takeMode (s : State) (c : Nat) : State :=
  let m := s.get .CAN_CTL_MODE c
  if m == 0 then s.enterInit c
  else if s.get .CAN_STAT_MODE_NOW c == 0 then
    let s := ((s.set .CAN_STAT_MODE_NOW c m).set .CAN_STAT_SYNCED c 0).set .CAN_STAT_BUS_IDLE c 0
    if m == 1 && s.get .CAN_STAT_ESTATE c == 2 then s.modCan c (fun x => { x with recover := true }) else s
  else s.set .CAN_STAT_MODE_NOW c m

/-- R261: the requested mode is entered at the end of the frame in progress, or at once on an idle bus; an unused
controller is held in `INIT` (R263). -/
def execCanModeChange (can : Nat) (s : State) : Host.Outcome State Fault Refusal :=
  if 2 ≤ can || !s.canOn can || s.canBusy can || s.get .CAN_CTL_USE can == 2
      || s.get .CAN_CTL_MODE can == s.get .CAN_STAT_MODE_NOW can then .next s
  else .next (s.takeMode can)

/-- R261: 11 consecutive recessive bits synchronise the controller to the bus. -/
def execCanSynced (can : Nat) (recessiveBits : Nat) (s : State) : Host.Outcome State Fault Refusal :=
  if 2 ≤ can || !s.canOn can || s.get .CAN_STAT_MODE_NOW can == 0 || recessiveBits < 11
      || s.flag .CAN_STAT_SYNCED can then .next s
  else .next ((s.set .CAN_STAT_SYNCED can 1).set .CAN_STAT_BUS_IDLE can 1)

/-- The new use is in force (R262, R263): `INIT`, buffers and FIFO emptied, the run of ACK errors cleared. In hierarchy
use the device's membership follows (R279, R284); the firmware asks for the domain it needs (notes/assumptions/36.md). -/
def State.takeUse (s : State) (c u : Nat) : State :=
  let s := s.modCan c (fun x => { x with newUse := none, flush := true })
  let s := (s.set .CAN_CTL_MODE c 0).enterInit c
  let s := (s.set .CAN_CTL_USE c u).setB .CAN_STAT_HOST_LOCK c (u == 0)
  if u == 0 then
    if s.canOn c then s.enterHierarchy c else (s.requestDomain (dCAN c) 0 1).1
  else s.hierSettle

/-- R262: the requested use takes effect after the frame in progress, and after the `LEAVE` of a member that loses its
last controller (R279). -/
def execCanUseChange (can : Nat) (s : State) : Host.Outcome State Fault Refusal :=
  match (s.can can).newUse with
  | none => .next s
  | some u =>
    if s.canBusy can then .next s
    else if u == s.get .CAN_CTL_USE can then .next (s.modCan can (fun x => { x with newUse := none }))
    else
      let r := if u == 0 then (s, true) else s.leaveFirst can 0
      if r.2 then .next (r.1.takeUse can u) else .next r.1

/-! ### Transmission -/

/-- The bytes a DLC gives (R256). -/
def dlcBytes (fdf : Bool) (dlc : Nat) : Nat :=
  if dlc ≤ 8 then dlc else if fdf then [12, 16, 20, 24, 32, 48, 64].getD (dlc - 9) 64 else 8

/-- The frame in a transmit buffer; with `FD_EN` 0 it is sent as a classic frame (notes/assumptions/37.md). -/
def State.txFrame (s : State) (c b : Nat) : CanFrame :=
  let k := 3 * c + b
  let fdf := s.flag .TXB_FDF k && s.flag .CAN_CTL_FD_EN c
  let ide := s.flag .TXB_IDE k
  let rtr := s.flag .TXB_RTR k && !fdf
  let dlc := s.get .TXB_DLC k
  { id := if ide then s.get .TXB_ID k else s.get .TXB_ID k % 2048, ide := ide, fdf := fdf,
    brs := fdf && s.flag .TXB_BRS k, rtr := rtr, esi := fdf && s.get .CAN_STAT_ESTATE c == 1, dlc := dlc,
    data := if rtr then [] else toLE (dlcBytes fdf dlc) (s.get .TXB_DATA k) }

/-- The arbitration field as it appears on the bus, as a number (R265): a base frame ends in RTR and a dominant IDE, an
extended one has recessive SRR and IDE after its first 11 bits. -/
def CanFrame.arbitration (f : CanFrame) : Nat :=
  if f.ide then f.id / 2 ^ 18 % 2048 * 2 ^ 21 + 2 ^ 20 + 2 ^ 19 + f.id % 2 ^ 18 * 2 + b2n f.rtr
  else f.id % 2048 * 2 ^ 21 + b2n f.rtr * 2 ^ 20

/-- The buffer that the choice picks among those in the states given (R265). -/
def State.chooseTxb (s : State) (c : Nat) (sts : List Nat) : Option Nat :=
  let bs := s.txbIn c sts
  if s.flag .CAN_CTL_TXORDER c then bs.head?
  else (sortBy (fun a b => (s.txFrame c a).arbitration < (s.txFrame c b).arbitration) bs).head?

/-- The controller may start a frame: it transmits in this mode, is synchronised, the bus is idle, not bus-off. -/
def State.canSend (s : State) (c : Nat) : Bool :=
  s.canOn c && (s.get .CAN_STAT_MODE_NOW c == 1 || s.get .CAN_STAT_MODE_NOW c == 3) && s.flag .CAN_STAT_SYNCED c
  && !s.canBusy c && s.get .CAN_STAT_ESTATE c != 2

/-- An attempt starts: its SOF comes from now on (R268). -/
def State.startAttempt (s : State) (c b : Nat) : State :=
  let t := s.clock
  (((s.setTxb c b 2).set .CAN_STAT_TX_ACTIVE c 1).set .CAN_STAT_BUS_IDLE c 0).modCan c (fun x => { x with sof := t })

/-- The firmware hands over what waits for a hierarchy controller. -/
def State.feedTx (s : State) (c : Nat) : State :=
  if s.get .CAN_CTL_USE c == 0 && s.hier.st.isSome then s.pump.loadTx c 3 else s

/-- R265: the choice of the next buffer to send; in LONE there is none outside a slot (R272). -/
def execTxChoice (can : Nat) (s : State) : Host.Outcome State Fault Refusal :=
  if 2 ≤ can || !s.canSend can then .next s
  else
    let s := s.feedTx can
    if s.flag .CAN_STAT_LONE can then .next s
    else match s.chooseTxb can [1] with
      | none => .next s
      | some b => .next (s.startAttempt can b)

/-- R272: the first idle bus in a slot window allows one attempt, `LONE_WAIT` treated as `PENDING`; a window in which no
buffer waits then passes unused. -/
def execLoneSlot (can : Nat) (s : State) : Host.Outcome State Fault Refusal :=
  if 2 ≤ can || !s.canSend can || !s.flag .CAN_STAT_LONE can then .next s
  else
    let m := (s.dt - (s.can can).loneAt) / 100000000
    if m == 0 || m ≤ (s.can can).loneWin then .next s
    else
      let s := (s.feedTx can).modCan can (fun x => { x with loneWin := m })
      match s.chooseTxb can [1, 6] with
      | none => .next s
      | some b => .next (s.startAttempt can b)

/-- A counter of errors rises; past 255 it holds (R271). -/
def State.raiseTec (s : State) (c n : Nat) : State := s.set .CAN_ERR_TEC c (min 255 (s.get .CAN_ERR_TEC c + n))
def State.raiseRec (s : State) (c n : Nat) : State := s.set .CAN_ERR_REC c (min 255 (s.get .CAN_ERR_REC c + n))

/-- Bus-off is entered (R271, R272). -/
def State.enterBusOff (s : State) (c : Nat) : State :=
  let s := (s.set .CAN_STAT_ESTATE c 2).canInt c 7
  ((s.canInt c 8).leaveLone c).modCan c (fun x => { x with recover := false })

/-- The buffer of a failed attempt (R266, R267): aborted if an abort waits, failed with `ONESHOT`, else `sts`. -/
def State.failAttempt (s : State) (c b st : Nat) : State :=
  let aborted := (s.can c).abortOf.contains b
  let s := s.modCan c (fun x => { x with abortOf := x.abortOf.filter (· != b) })
  if aborted then (s.setTxb c b 4).canInt c 3
  else if s.flag .TXB_ONESHOT (3 * c + b) then (s.setTxb c b 5).canInt c 3
  else s.setTxb c b st

/-- The run of R272 completes: LONE, with its windows from now. -/
def State.enterLone (s : State) (c : Nat) : State :=
  let s := ((s.set .CAN_STAT_LONE c 1).canInt c 9).modCan c (fun x => { x with loneAt := s.dt, loneWin := 0 })
  (s.hierEvent s.idx 8 [(3, 1, c)]).noteLone c

/-- LONE ends by an acknowledgement or a reception (R272). -/
def State.endLone (s : State) (c : Nat) : State :=
  let was := s.flag .CAN_STAT_LONE c
  let s := s.leaveLone c
  if was then s.canInt c 10 else s

/-- R266, R271, R272: an attempt ends in an error with the code `lec`, which raises `TEC` by `up`. -/
def State.attemptError (s : State) (c b lec : Nat) (dataPhase : Bool) (up : Nat) : State :=
  let s := ((s.set .CAN_ERR_LEC c lec).setB .CAN_ERR_LEC_DATA c dataPhase).canInt c 11
  let off := decide (255 < s.get .CAN_ERR_TEC c + up)
  let s := s.raiseTec c up
  let ack := lec == 3
  let s := if ack then s.count .CAN_ERR_ACKFAIL_RUN c else s
  if off then (s.failAttempt c b 1).enterBusOff c
  else
    let s := s.noteEstate c
    let lone := s.flag .CAN_STAT_LONE c
    let reached := ack && !lone && 16 ≤ s.get .CAN_ERR_ACKFAIL_RUN c
    let s := s.failAttempt c b (if ack && (lone || reached) then 6 else 1)
    if reached then s.enterLone c else s

/-- R269, R270: a frame goes through the filters and into the FIFO, or is discarded. -/
def State.acceptFrame (s : State) (c : Nat) (f : CanFrame) (stamp : Nat) : State :=
  let id := if f.ide then f.id % 2 ^ 29 else f.id % 2048
  let hit := (List.range 24).find? (fun n =>
    let k := 24 * c + n
    s.flag .CAN_FLT_EN k && (Nat.xor id (s.get .CAN_FLT_ID k) &&& s.get .CAN_FLT_MASK k) == 0
    && (!s.flag .CAN_FLT_IDE_CMP k || s.flag .CAN_FLT_IDE k == f.ide))
  let accept := match hit with
    | some n => !s.flag .CAN_FLT_ACTION (24 * c + n)
    | none => s.flag .CAN_CTL_DEFAULT_ACCEPT c
  if !accept then s
  else
    let s := s.popFirst c
    let q := (s.can c).fifo
    if 32 ≤ q.length then (s.count .CAN_RXF_STAT_OVF_CNT c).canInt c 6
    else
      let f := { f with id := id, data := if f.rtr then [] else (f.data ++ List.replicate 64 0).take (dlcBytes f.fdf f.dlc) }
      let e : RxEntry := { frame := f, stamp := stamp, filt := hit.getD 31 }
      let s := (s.modCan c (fun x => { x with fifo := q ++ [e] })).syncFifo c
      let s := if q.isEmpty then s.canInt c 4 else s
      if q.length + 1 == s.get .CAN_RXF_STAT_WM c then s.canInt c 5 else s

/-- R266: an attempt succeeded. -/
def State.attemptDone (s : State) (c b stamp : Nat) : State :=
  let k := 3 * c + b
  let s := s.modCan c (fun x => { x with abortOf := x.abortOf.filter (· != b) })
  let s := ((s.setTxb c b 3).set .TXB_TS k stamp).set .TXB_TS_VALID k 1
  let s := s.canInt c b
  let s := s.set .CAN_ERR_TEC c (s.get .CAN_ERR_TEC c - 1)
  let s := if s.get .CAN_STAT_MODE_NOW c == 3 then s.acceptFrame c (s.txFrame c b) stamp else s.addTo .CAN_FCNT c 1
  let s := (s.endLone c).noteEstate c
  if s.get .CAN_CTL_USE c == 0 then s.hierSent c b stamp else s

/-- The attempt has reached the edge between the FDF and res bits, at which the loop delay is measured (R260): an attempt
that failed before that edge reports a loop delay of 0. -/
def TxEnd.pastFdf (fin : TxEnd) (loopDelay : Nat) : Bool :=
  match fin with
  | .lost => false
  | .err _ dataPhase _ => dataPhase || loopDelay != 0
  | _ => true

/-- The stamp of an SOF edge: DT at the clock tick that takes it, no later than now (R268; notes/assumptions/152.md). -/
def State.edgeStamp (s : State) (edge : Nat) : Nat := s.clock - (s.clock - edge) / 25 * 25

/-- The stamp of the attempt on the bus, which lies between its start and now (R268; notes/assumptions/152.md). -/
def State.sofStamp (s : State) (c edge : Nat) : Nat := max (s.can c).sof (s.edgeStamp edge)

/-- R260, R266, R268, R271, R272: the end of the attempt on the bus, with its SOF stamp and, for an FD frame with
bit-rate switching, the loop delay measured. A delay that puts the secondary sample point past 127 cycles makes it a bit
error of the frame; which of the two the recessive or dominant bit makes it is open (a free value). -/
def execCanTxAttemptEnd (can : Nat) (stamp : Nat) (loopDelay : Nat) (fin : TxEnd) (s : State) :
    Host.Outcome State Fault Refusal :=
  if 2 ≤ can || !s.canOn can || !s.flag .CAN_STAT_TX_ACTIVE can then .next s
  else match (s.txbIn can [2]).head? with
    | none => .next s
    | some b =>
      let f := s.txFrame can b
      let internal := s.get .CAN_STAT_MODE_NOW can == 3
      let measured := f.brs && s.flag .CAN_CTL_TDC_EN can && fin.pastFdf loopDelay && !internal
      let late := measured && 127 < loopDelay + s.get .CAN_TDC_TDCO can
      let s := if measured then s.set .CAN_TDC_TDCV can (min 127 loopDelay) else s
      let s := s.set .CAN_STAT_TX_ACTIVE can 0
      if fin == .lost && !internal then
        let s := s.set .CAN_STAT_RX_ACTIVE can 1
        .next (if (s.can can).abortOf.contains b then s.failAttempt can b 1 else s.setTxb can b 1)
      else
        let s := (s.count .TXB_ATTEMPTS (3 * can + b)).set .CAN_STAT_BUS_IDLE can 1
        if late then
          .next (s.useFree.attemptError can b (4 + s.freeVal % 2) true 8)
        else match fin with
          | .ok | .lost => .next (s.attemptDone can b (s.sofStamp can stamp))
          | .noAck dominant =>
            if internal then .next (s.attemptDone can b (s.sofStamp can stamp))
            else .next (s.attemptError can b 3 false (if s.get .CAN_STAT_ESTATE can == 1 && !dominant then 0 else 8))
          | .err lec dataPhase eights => .next (s.attemptError can b (lec % 8) dataPhase (8 * eights))

/-! ### Reception and errors -/

/-- The controller takes part in the bus as a receiver. -/
def State.canHears (s : State) (c : Nat) : Bool :=
  s.canOn c && (s.get .CAN_STAT_MODE_NOW c == 1 || s.get .CAN_STAT_MODE_NOW c == 2) && s.flag .CAN_STAT_SYNCED c
  && !s.flag .CAN_STAT_TX_ACTIVE c && s.get .CAN_STAT_ESTATE c != 2

/-- R271: an error in a frame being received, or an error frame seen; ISO 11898-1 raises `REC` by 1, and by 8 for each
long dominant run after the error flag. -/
def State.rxError (s : State) (c lec : Nat) (dataPhase : Bool) (eights : Nat) : State :=
  let s := ((s.set .CAN_ERR_LEC c lec).setB .CAN_ERR_LEC_DATA c dataPhase).canInt c 11
  let s := (s.set .CAN_STAT_RX_ACTIVE c 0).set .CAN_STAT_BUS_IDLE c 1
  (s.raiseRec c (1 + 8 * eights)).noteEstate c

def execCanRxError (can : Nat) (lec : Nat) (dataPhase : Bool) (eights : Nat) (s : State) :
    Host.Outcome State Fault Refusal :=
  if 2 ≤ can || !s.canHears can then .next s else .next (s.rxError can (lec % 8) dataPhase eights)

/-- R268 to R273: a frame received without error. `REC` falls by 1, or from above 127 to a value ISO 11898-1 leaves open
between 119 and 127 (a free value). With `FD_EN` 0 an FD frame is a form error, and so is one with a remote request
(R256). The frame's SOF edge came no later than now (notes/assumptions/152.md). -/
def execCanFrameReceived (can : Nat) (frame : CanFrame) (stamp : Nat) (s : State) : Host.Outcome State Fault Refusal :=
  if 2 ≤ can || !s.canHears can then .next s
  else if frame.fdf && (!s.flag .CAN_CTL_FD_EN can || frame.rtr) then .next (s.rxError can 2 false 0)
  else
    let s := ((s.set .CAN_STAT_RX_ACTIVE can 0).set .CAN_STAT_BUS_IDLE can 1).addTo .CAN_FCNT can 1
    let r := s.get .CAN_ERR_REC can
    let s := if 127 < r then (s.set .CAN_ERR_REC can (119 + s.freeVal % 9)).useFree else s.set .CAN_ERR_REC can (r - 1)
    let s := (s.endLone can).noteEstate can
    let s := if s.get .CAN_CTL_USE can == 0 then
        { s with hier := { s.hier with busLast := s.hier.busLast.set can s.dt } }
      else s
    .next (s.acceptFrame can frame (s.edgeStamp stamp))

/-- R271: 128 occurrences of 11 recessive bits end bus-off, by itself with `AUTO_RECOVER` 1, else once the host has
written `INIT` and then `NORMAL`. -/
def execBusoffRecovery (can : Nat) (occurrences : Nat) (s : State) : Host.Outcome State Fault Refusal :=
  if 2 ≤ can || !s.canOn can || s.get .CAN_STAT_ESTATE can != 2 || s.get .CAN_STAT_MODE_NOW can == 0
      || occurrences < 128 || !(s.flag .CAN_CTL_AUTO_RECOVER can || (s.can can).recover) then .next s
  else
    let s := ((s.set .CAN_ERR_TEC can 0).set .CAN_ERR_REC can 0).set .CAN_STAT_ESTATE can 0
    .next ((s.canInt can 7).modCan can (fun x => { x with recover := false }))

end Sys2Proof.Machine
end

