-- ==== Sys2Proof/Machine/Feeds.lean ====
section
/-! DEFINITION. The feed controllers (03_feeds.md): their states, trips, the cooldown pin, power-good, sharing, and the
requests of R73: the operations. The state codes are those of `FEED_STAT.STATE` (R79). -/

namespace Sys2Proof.Machine

def fWAITING : Nat := 1
def fOFF : Nat := 2
def fINRUSH : Nat := 3
def fJOINING : Nat := 4
def fON : Nat := 5
def fLIMIT : Nat := 6
def fBLOCKED : Nat := 7
def fCOOLDOWN : Nat := 8
def fINHERITED : Nat := 9
def fLATCHED : Nat := 10
def fSTOPPING : Nat := 11

/-- The conducting states of R55. -/
def feedConducts (p : Nat) : Bool := 3 ≤ p && p ≤ 6

def State.fst (s : State) (u : Nat) : Nat := s.get .FEED_STAT_STATE u
/-- The other feed of the skein. -/
def feedMate (u : Nat) : Nat := if u % 2 == 0 then u + 1 else u - 1
def skeinFeeds (k : Nat) : List Nat := [2 * k, 2 * k + 1]

/-- VIN is in [`UV`, `OV`) (R55, R64), in mV. -/
def State.vinIn (s : State) (u vin : Nat) : Bool :=
  10 * s.get .FEED_VWIN_UV u ≤ vin && vin < 10 * s.get .FEED_VWIN_OV u

/-- The event record of a feed (10_ecrax_opcodes.md R255, class 3), a wake source (13_power_domains.md R321). -/
def State.feedRecord (s : State) (u code : Nat) : State :=
  (s.wake 4 []).postEvent 3 u code
    (detailOf [(0, 1, s.fst u), (1, 1, s.get .FEED_STAT_RETRY_LEFT u), (2, 4, s.get .FEED_I u),
      (6, 2, s.get .FEED_TJ_MODEL u)])

/-- Set a bit of `FEED_EVT`; the record is formed now, or when the loom die first reads the bit (R55). -/
def State.feedEvent (s : State) (u code : Nat) : State :=
  let s := s.setBit .FEED_EVT u code
  if s.linkReads (skeinOfFeed u) then s.feedRecord u code
  else s.modFeed u (fun f => { f with unread := bitOr f.unread (2 ^ code) })

/-- The loom die reads the feed events of a skein for the first time since the link was lost (R55). -/
def State.readFeedEvents (s : State) (k : Nat) : State :=
  (skeinFeeds k).foldl (fun s u =>
    let w := (s.feed u).unread
    let s := s.modFeed u (fun f => { f with unread := 0 })
    (List.range 10).foldl (fun s i => if bit w i then s.feedRecord u i else s) s) s

/-! ### Sharing and power-good -/

/-- The condition of the share loop (R66): both feeds `ON`, their average inputs within 150 mV. -/
def State.shareOk (s : State) (k : Nat) : Bool :=
  let a := (s.feed (2 * k)).vinAvg
  let b := (s.feed (2 * k + 1)).vinAvg
  s.fst (2 * k) == fON && s.fst (2 * k + 1) == fON && a < b + 150 && b < a + 150

/-- `SKN_STAT.SHARING` follows R66; where the loop stops acting, `SHARE_LIMIT` clears at once (R67). -/
def State.noteShare (s : State) (k : Nat) : State :=
  if s.shareOk k then s.set .SKN_STAT_SHARING k 1
  else ((s.set .SKN_STAT_SHARING k 0).set .FEED_STAT_SHARE_LIMIT (2 * k) 0).set .FEED_STAT_SHARE_LIMIT (2 * k + 1) 0

/-- The conditions of a settle window (R68). -/
def State.pgOk (s : State) (k : Nat) : Bool :=
  (s.skein k).railOk && (skeinFeeds k).any (fun u => s.fst u == fON)
  && (skeinFeeds k).all (fun u => !(s.fst u == fINRUSH || s.fst u == fJOINING || s.fst u == fLIMIT)
      && (s.fst u != fON || s.flag .FEED_STAT_FULL_ENH u))

/-- Power-good is lost (R69): the output is released and any settle window ends. -/
def State.dropPG (s : State) (k : Nat) : State :=
  let was := s.flag .SKN_STAT_PG k
  let s := ((s.set .SKN_STAT_PG k 0).set .SKN_STAT_SETTLING k 0).modSkein k (fun x => { x with settleFrom := none })
  if was then s.skeinEvent k 2 else s

/-- Start or break the settle window (R68, R70), and drop power-good where no feed conducts (R69). -/
def State.noteSettle (s : State) (k : Nat) : State :=
  if (skeinFeeds k).all (fun u => !feedConducts (s.fst u)) then s.dropPG k
  else if s.flag .SKN_STAT_PG k then s
  else if !s.pgOk k then (s.set .SKN_STAT_SETTLING k 0).modSkein k (fun x => { x with settleFrom := none })
  else match (s.skein k).settleFrom with
    | some _ => s
    | none => (s.set .SKN_STAT_SETTLING k 1).modSkein k (fun x => { x with settleFrom := some s.now })

/-- Put one feed into a state: `CONDUCTING`, sharing and power-good follow; its input qualifies anew; a feed that enters
`ON` lets waiting ports start (R58). A step into `LIMIT` or out of the conducting states is a cut of its tick (00_scope.md
R15). -/
def State.toFeed (s : State) (u p : Nat) : State :=
  let k := skeinOfFeed u
  let cut := feedConducts (s.fst u) && (p == fLIMIT || !feedConducts p)
  let s := if cut then s.modFeed u (fun f => { f with cutTick := some s.skTick }) else s
  let s := (s.set .FEED_STAT_STATE u p).setB .FEED_STAT_CONDUCTING u (feedConducts p)
  let s := if p == fON || p == fJOINING then s else s.set .FEED_STAT_FULL_ENH u 0
  let s := s.modFeed u (fun f => { f with qualified := false, onFrom := if p == fON then s.now else f.onFrom })
  let s := (s.noteShare k).noteSettle k
  if p == fON then s.feedsMoved k else s

/-- A feed in `WAITING` whose input has qualified may be admitted (R55); none starts while its pin is at or above 0.4 V
(R72). -/
def State.mayInsert (s : State) (u : Nat) : Bool :=
  s.fst u == fWAITING && (s.feed u).qualified && s.flag .FEED_CFG_EN u && s.flag .FEED_CFG_PRESENT u
  && !(s.feed u).cdlyHigh

/-- The rows of R55 for a qualified feed: it slews the rail, joins a mate in `ON` or `LIMIT`, or keeps waiting for one
that slews or joins. -/
def State.letIn (s : State) (u : Nat) : State :=
  let o := s.fst (feedMate u)
  if !s.mayInsert u then s
  else if o == fON || o == fLIMIT then s.toFeed u fJOINING
  else if o == fINRUSH || o == fJOINING then s
  else (s.modFeed u (fun f => { f with inrushFrom := s.now, rail := false })).toFeed u fINRUSH

/-- The feed has been cut in this skein tick already. -/
def State.wasCut (s : State) (u : Nat) : Bool := (s.feed u).cutTick == some s.skTick

/-- The feeds whose qualification was kept are looked at again (R55), feed A first; not in a skein tick that has cut the other
feed, which goes before (00_scope.md R15). -/
def State.admitFeeds (s : State) : State :=
  (List.range 16).foldl (fun s u => if s.wasCut (feedMate u) then s else s.letIn u) s

/-- A latched, tripped or disabled feed's gate is switched off now. -/
def State.gateOff (s : State) (u : Nat) : State := s.modFeed u (fun f => { f with gateOff := s.now })

/-! ### Trips and the cooldown pin (R55, R71) -/

/-- The charge of `SKkf_CDLY` begins. -/
def State.chargeCdly (s : State) (u : Nat) : State := s.modFeed u (fun f => { f with charging := true, cdlyHigh := true })

/-- A feed has tripped in this skein tick. -/
def State.trippedNow (s : State) (u : Nat) : Bool := (s.feed u).tripTick == some s.skTick

/-- The state a trip of this tick looks at: the one the feed tripped from, where it has tripped already (R63). -/
def State.tripState (s : State) (u : Nat) : Nat := if s.trippedNow u then (s.feed u).tripFrom else s.fst u

/-- The causes of one trip (R63): every event bit once, every counter concerned once. -/
def State.tripCauses (s : State) (u : Nat) (bits : List Nat) : State :=
  let had := (s.feed u).tripBits
  let new := bits.filter (fun b => !had.contains b)
  let s := new.foldl (fun s b => s.feedEvent u b) s
  let s := if new.contains 0 then s.count .FEED_CNT_OC_CNT u else s
  let s := if (new.contains 1 || new.contains 2) && !(had.contains 1 || had.contains 2)
    then s.count .FEED_CNT_THERM_CNT u else s
  s.modFeed u (fun f => { f with tripBits := had ++ new })

/-- A trip (R55, R63, R69): its event bits, each counter once, then `COOLDOWN` or `LATCHED`; a further cause in the tick
of a trip joins that trip. -/
def State.feedTrip (s : State) (u : Nat) (bits : List Nat) : State :=
  if s.trippedNow u then s.tripCauses u bits
  else
  let s := s.modFeed u (fun f => { f with tripTick := some s.skTick, tripFrom := s.fst u, tripBits := [] })
  let s := (((s.tripCauses u bits).gateOff u).chargeCdly u).dropPG (skeinOfFeed u)
  let left := s.get .FEED_STAT_RETRY_LEFT u
  if !s.flag .FEED_CFG_POLICY u && 0 < left then
    ((s.set .FEED_STAT_RETRY_LEFT u (left - 1)).toFeed u fCOOLDOWN).raiseFeedFault u 7
  else ((s.toFeed u fLATCHED).feedEvent u 9).raiseFeedFault u 8

/-- A failed check of the cooldown capacitor (R71): `LATCHED`, `CDLY_FAULT`, the event and a UNIT fault. -/
def State.cdlyFailed (s : State) (u : Nat) : State :=
  let s := (s.set .FEED_STAT_CDLY_FAULT u 1).modFeed u (fun f => { f with charging := false })
  ((s.toFeed u fLATCHED).feedEvent u 9).raiseFeedFault u 8

/-- The deferred enable of a feed has run (R73). -/
def State.feedDeferredRan (s : State) (u : Nat) : State :=
  let q := (s.feed u).deferBy
  ((s.set .FEED_STAT_DEFERRED u 0).modFeed u (fun f => { f with deferBy := none })).markRun q

/-- The end of a cooldown, or a latch released with the pin low (R55): `WAITING` with `EN` = 1, else `OFF`. -/
def State.afterCooldown (s : State) (u : Nat) : State :=
  if s.flag .FEED_CFG_EN u then (s.toFeed u fWAITING).feedDeferredRan u else s.toFeed u fOFF

/-! ### Clearing source 0x38 + k (R55, R71, 14_faults_and_takeover.md R334, R337) -/

/-- The live cause of a latched feed has ended: after a failed capacitor check once the test charge passed, after input
loss once the input is in range, after a trip always. -/
def State.feedCauseEnded (s : State) (u : Nat) : Bool :=
  if s.flag .FEED_STAT_CDLY_FAULT u then false
  else if (s.feed u).inputLost then s.vinIn u (s.feed u).vin
  else true

/-- The gecko clear releases a latched feed with its retries reloaded (R55). -/
def State.feedReleaseLatch (s : State) (u : Nat) : State :=
  if s.fst u == fLATCHED then
    let s := s.set .FEED_STAT_RETRY_LEFT u (s.get .FEED_CFG_RETRIES u)
    let s := s.modFeed u (fun f => { f with inputLost := false })
    if (s.feed u).cdlyHigh then s.toFeed u fCOOLDOWN else s.afterCooldown u
  else s

/-- A clear of a latch after a failed capacitor check first makes a test charge (R71). -/
def State.startClearTest (s : State) (g : Gecko) : State :=
  let u := 2 * (g.src - 0x38) + g.addr % 2
  if 0x38 ≤ g.src && g.src ≤ 0x3F && g.kind == 8 && s.flag .FEED_STAT_CDLY_FAULT u then
    s.modFeed u (fun f => { f with testing := true, testFrom := s.now })
  else s

/-! ### Requests (R73) -/

/-- Keep a deferred enable. -/
def State.deferFeed (s : State) (u : Nat) (q : Option ReqId) : State :=
  let s := if s.flag .FEED_STAT_DEFERRED u then s.displaceOpt (s.feed u).deferBy else s
  (s.set .FEED_STAT_DEFERRED u 1).modFeed u (fun f => { f with deferBy := q })

/-- `FEED_ENABLE` (R73): the state and the status. On a latched feed with a deferred enable the deferred row counts (DESIGN
CHOICE, notes/assumptions/170.md). -/
def State.feedEnable (s : State) (u : Nat) (q : Option ReqId) : State × Nat :=
  let p := s.fst u
  if s.skHeld (skeinOfFeed u) then (s, stBUSY)
  else if s.flag .FEED_STAT_DEFERRED u || p == fSTOPPING then (s.deferFeed u q, stDEFERRED)
  else if p == fOFF then ((s.set .FEED_CFG_EN u 1).toFeed u fWAITING, stOK)
  else if p == fWAITING then (s.set .FEED_CFG_EN u 1, stOK)
  else if (p == fCOOLDOWN || p == fINHERITED) && !s.flag .FEED_CFG_EN u then
    ((s.set .FEED_CFG_EN u 1).deferFeed u q, stDEFERRED)
  else if p == fLATCHED then (s, stBUSY)
  else (s, stOK)

/-- The feed is the only one of its skein in a conducting state. -/
def State.onlyConducting (s : State) (u : Nat) : Bool :=
  feedConducts (s.fst u) && !feedConducts (s.fst (feedMate u))

/-- `FEED_DISABLE` (R73). -/
def State.feedDisable (s : State) (u : Nat) (force : Bool) : State × Nat :=
  let p := s.fst u
  if s.skHeld (skeinOfFeed u) then (s, stBUSY)
  else if s.flag .FEED_STAT_DEFERRED u then
    let s := s.displaceOpt (s.feed u).deferBy
    (((s.set .FEED_STAT_DEFERRED u 0).set .FEED_CFG_EN u 0).modFeed u (fun f => { f with deferBy := none }), stOK)
  else if p == fSTOPPING || p == fOFF then (s, stOK)
  else if s.onlyConducting u && !force then (s, stBAD_PARAM)
  else
    let s := s.set .FEED_CFG_EN u 0
    if feedConducts p || p == fBLOCKED then ((s.gateOff u).toFeed u fSTOPPING, stOK)
    else if p == fWAITING then (s.toFeed u fOFF, stOK)
    else (s, stOK)

/-- The status a change of `EN` would be answered with (R73): none where the write leaves `EN` unchanged. -/
def State.feedEnChange (s : State) (u en : Nat) (q : Option ReqId) : State × Nat :=
  if en == s.get .FEED_CFG_EN u then (s, stOK)
  else if en == 1 then s.feedEnable u q else s.feedDisable u false

/-- A feed declared absent is held in `WAITING`, its gate off, and a deferred enable runs then. A cooldown and a latch
stay under `ABSENT`: no command shortens the one, and only a gecko clear releases the other (R72, R73). A feed declared
present again is in `WAITING` with `EN` = 1, else in `OFF` (R79; notes/assumptions/40.md). -/
def State.notePresent (s : State) (u : Nat) (was : Bool) : State :=
  let is := s.flag .FEED_CFG_PRESENT u
  let p := s.fst u
  if p == fCOOLDOWN || p == fINHERITED || p == fLATCHED then s
  else if was && !is then
    let s := if feedConducts p || p == fBLOCKED then s.gateOff u else s
    let s := if s.flag .FEED_STAT_DEFERRED u then s.set .FEED_CFG_EN u 1 else s
    (s.toFeed u fWAITING).feedDeferredRan u
  else if !was && is && !s.flag .FEED_CFG_EN u then s.toFeed u fOFF
  else s

/-- An accepted write of `FEED_CFG` other than `EN`: its fields, and the sensor's failure mark clears (R78). -/
def State.feedCfgFields (s : State) (u v : Nat) : State :=
  let was := s.flag .FEED_CFG_PRESENT u
  let s := (s.set .FEED_CFG_PRESENT u (bits v 1 1)).set .FEED_CFG_POLICY u (bits v 2 1)
  let s := (s.set .FEED_CFG_RETRIES u (bits v 4 4)).set .FEED_CFG_TS_TYPE u (bits v 8 2)
  (s.set .FEED_STAT_TS_FAULT u 0).notePresent u was

/-- The status of a write of the word `v` to `FEED_CFG`, without its effect: the matching command's, where `EN` changes. -/
def State.feedCfgStatus (s : State) (u v : Nat) : Nat := (s.feedEnChange u (v % 2) none).2

/-- A write of `FEED_CFG` (R73, R78): none where it is refused. -/
def State.feedCfgWrite (s : State) (u v : Nat) (q : Option ReqId) : Option State :=
  let r := s.feedEnChange u (v % 2) q
  if r.2 == stBAD_PARAM || r.2 == stBUSY then none else some (r.1.feedCfgFields u v)

end Sys2Proof.Machine
end

