-- ==== Sys2Proof/Machine/Clearing.lean ====
section
/-! DEFINITION. Clearing a gecko bit under its clear condition, and the retraining a clear runs
(14_faults_and_takeover.md R334, R337, R338). -/

namespace Sys2Proof.Machine

/-- The causes recorded for a source's gecko bit. -/
def State.causesOf (s : State) (src : Nat) : List Gecko := s.flt.causes.filter (fun g => g.src == src)

/-- Forget causes of a source. Its bit clears with the last one, and the collector acts again on a pair whose source has no
`PAIR_BROKEN` left (R329). -/
def State.dropCauses (s : State) (src : Nat) (gone : Gecko → Bool) : State :=
  let left := s.flt.causes.filter (fun g => !(g.src == src && gone g))
  let s := s.setB .FLT_GECKO src (left.any (fun g => g.src == src))
  ({ s with flt := { s.flt with
      causes := left
      aside := s.flt.aside.filter (fun a => left.any (fun g => g.kind == 0xF && (pairSources g.src).contains a)) } } :
    State).noteClassMax

/-- Clear the bit and forget its causes. -/
def State.dropGecko (s : State) (src : Nat) : State := s.dropCauses src (fun _ => true)

/-- The clear of this source runs retraining (R338): a DRAM channel, or a die-to-die link whose fault is not only its
error pair. -/
def needsTraining (s : State) (src : Nat) : Bool :=
  (src == 0x06 || src == 0x07 || (0x40 ≤ src && src ≤ 0x47)) && (s.causesOf src).any (fun g => g.kind != 0xF)

/-- The live condition of one cause has ended (R334, R337). -/
def State.causeEnded (s : State) (g : Gecko) : Bool :=
  if g.kind == 0xF then !s.flag .FLT_PAIR g.src
  else if g.src == 0x0B then !s.flag .PWRD_AVS_FALLBACK
  else if g.src == 0x0C && g.kind == 3 then s.flt.refAbsentFrom.isNone
  else if 0x38 ≤ g.src && g.src ≤ 0x3F && g.kind == 8 then s.feedCauseEnded (2 * (g.src - 0x38) + g.addr % 2)
  else if g.src == 0x49 then s.freeVal % 2 == 1
  else true

/-- What the lifting of a source's fence brings (R334, R337): the domain stays OFF until a request or a dependency, but
for the controller halves, and a Shuttle returns as 07_shuttle_engines.md R170 gives. -/
def State.relieve (s : State) (g : Gecko) : State :=
  if g.kind == 0xF then s
  else if g.src == 0x01 || g.src == 0x02 then
    ((s.unfenceDomain (dCTL (g.src - 1))).requestDomain (dCTL (g.src - 1)) 0 1).1
  else if g.src == 0x04 then (s.unfenceDomain dLOOM).settleDomains
  else if g.src == 0x05 then (s.unfenceDomain dHUB).settleDomains
  else if g.src == 0x08 || g.src == 0x09 then s.unfenceDomain (dCAN (g.src - 8))
  else if g.src == 0x0A then s.unfenceDomain dSEC
  else if g.src == 0x0C then
    (if g.kind == 3 then
       s.fastClock.settleDomains
     else s.unfenceDomain dMIF)
  else if 0x10 ≤ g.src && g.src ≤ 0x1C then
    (s.unfenceDomain (dSH (g.src - 0x10))).shuttleRelieved (g.src - 0x10)
  else if 0x20 ≤ g.src && g.src ≤ 0x2B then ((s.unfenceDomain (dPHY (g.src - 0x20))).settleDomains).phyBack (g.src - 0x20)
  else if 0x30 ≤ g.src && g.src ≤ 0x37 then s.unfenceDomain (dSKL (g.src - 0x30))
  else if 0x38 ≤ g.src && g.src ≤ 0x3F && g.kind == 8 then s.feedReleaseLatch (2 * (g.src - 0x38) + g.addr % 2)
  else s

/-- The clear is taken where every cause of the source has ended: the bit clears and what it held is released. -/
def takeClear (src : Nat) (s : State) : Option State :=
  let gs := s.causesOf src
  if s.gecko src && gs.all (fun g => g.cls != 4 && s.causeEnded g) then
    some (gs.foldl State.relieve (s.dropGecko src))
  else none

/-- R337: a clear of a gecko bit: the state after it and the status `FAULT_CLEAR` answers. -/
def clearFault (src : Nat) (s : State) : State × Nat :=
  if !s.gecko src then (s, stOK)
  else if (s.causesOf src).any (fun g => g.cls == 4) then (s, stSAFE_HOLD)
  else if needsTraining s src then
    ((if s.flt.training.any (fun t => t.1 == src) then s
      else { s with flt := { s.flt with training := s.flt.training ++ [(src, s.dt)] } }), stBUSY)
  else
    let free := (s.causesOf src).any (fun g => g.src == 0x49 && g.kind != 0xF)
    match takeClear src s with
    | some s => ((if free then s.useFree else s), stOK)
    | none =>
      let s := (s.causesOf src).foldl (fun s g => s.startClearTest g) s
      ((if free then s.useFree else s), stBUSY)

/-- R337: a write of 1 to gecko bits, each cleared under its own condition. -/
def clearGeckos (reg mask : Nat) (s : State) : State :=
  (List.range 32).foldl (fun s i =>
    if bit mask i && reg < 3 && 32 * reg + i < 80 then (clearFault (32 * reg + i) s).1 else s) s

/-- R338, R347, R18: the end of a retraining run by a clear, within 20 ms for a DRAM channel and 2 ms for a link. A source
whose error pair is still broken keeps its bit for that (R329); a fence that the skein die set itself, and whose message the
link lost, ends with the training (R331; notes/assumptions/159.md). -/
def endTraining (src : Nat) (pass : Bool) (s : State) : State :=
  if s.flt.training.any (fun t => t.1 == src) then
    let s := { s with flt := { s.flt with training := s.flt.training.filter (fun t => t.1 != src) } }
    if pass then
      let s := s.dropCauses src (fun g => !(g.kind == 0xF && s.flag .FLT_PAIR src))
      if src == 0x06 || src == 0x07 then (s.unfenceDomain dDRAM).dramChannelBack (src - 6)
      else
        let k := src - 0x40
        (if s.gecko (0x30 + k) then s else s.unfenceDomain (dSKL k)).linkTrained k
    else s
  else s

end Sys2Proof.Machine
end

