-- ==== Sys2Proof/Machine/DomainCmds.lean ====
section
/-! DEFINITION. The commands of the domain controller, the core rail, the wake sources and the alarms
(13_power_domains.md). -/

namespace Sys2Proof.Machine

/-- The nominal target in mV: 750 plus `TRIM` in 10 mV units (R319). -/
def State.nominalMv (s : State) : Nat := (750 + 10 * toInt 5 s.sec.otp.trim).toNat

/-- The target of R319: the low rail while it is enabled and no domain on the rail is ON, on its way there or in its entry
to another state, with its clock running. -/
def State.railWanted (s : State) : Nat :=
  if s.flag .PWRD_AVS_CFG_LOW_RAIL_EN && (List.range 42).all (fun d => !(railDomain d && s.clocked d)) then 650
  else s.nominalMv

/-- AVSBus is at rest: in reset, and while a cold start waits for `WARM_N` (02_package_and_balls.md R41). -/
def State.avsIdle (s : State) : Bool := s.pins.porstLow || s.boot.waitWarm

/-- Request the wanted target from the regulator; none is requested in fallback (R319, R320). `avsAt` is when the attempt
that waits for its acknowledgement began. -/
def State.avsRequest (s : State) : State :=
  if s.flag .PWRD_AVS_FALLBACK || s.avsIdle || s.get .PWRD_AVS_TARGET_MV == s.railWanted then s
  else ({ s with avsTries := 0, avsAt := some s.dt, pins := { s.pins with avsUsed := true } } : State).set .PWRD_AVS_TARGET_MV 0 s.railWanted

/-- R317: the present step's ready signal arrives. The regulator step waits for the domains that this one requires (R310) and
for a raise of the core rail, the oscillator step for the reference (R318); the logic step restores the list, checks its seal
and releases reset, and the pending request starts in the same tick (R312). A signal at the step's bound is late (00_scope.md
R14). A controller half does not leave OFF while SEC is fenced (15_security_and_debug.md R361). -/
def execDomainStepReady (domain : Nat) (sealOk : Bool) (s : State) : Host.Outcome State Fault Refusal :=
  if domain < 42 && s.flag .DOM_STAT_TRANS domain && s.get .DOM_STAT_TARGET domain == 0 then
    let st := s.get .DOM_STAT_STEP domain
    if (s.dom domain).stepEnd ≤ s.dt then .next s
    else if st == 1 then
      if s.standing domain && !(railDomain domain && s.flag .PWRD_AVS_LOW_RAIL)
          && !(domain ≤ 1 && (s.dom domain).fromSt == 2 && s.domFenced dSEC) then
        .next (s.beginStep domain 2)
      else .next s
    else if st == 2 then
      if needsRef domain && !s.flag .PWRD_CLK_REF_RUN && !((domain ≤ 1 || domain == dSEC) && s.refLost) then .next s
      else .next (s.beginStep domain 3)
    else if st == 3 then .next (s.beginStep domain 4)
    else
      let failed := (s.dom domain).saved.isSome && !sealOk
      let s := s.finishOn domain sealOk
      let s := if failed then s.raiseFault 0x48 6 (listOffset domain) else s
      let s := s.domainCameOn domain
      let s := if domain == dSEC then s.recheckLifecycle else s
      .next (s.startPending domain)
  else .next s

/-- The fault source of a domain (14_faults_and_takeover.md R334). -/
def srcOfDomain (d : Nat) : Nat :=
  if d ≤ 1 then d + 1 else if d == 2 then 4 else if d == 3 then 5 else if d ≤ 15 then 0x20 + (d - 4)
  else if d ≤ 28 then 0x10 + (d - 16) else if d == 29 then 6 else if d ≤ 31 then 8 + (d - 30)
  else if d == 32 then 0x0A else if d ≤ 40 then 0x30 + (d - 33) else 0x0C

/-- R318: a step's ready signal has not come by its bound. The step is repeated once; the second failure raises
`STEP_TIMEOUT` and a fault on the domain's source, which holds the domain OFF. A bring-up that waits for the domains it
requires has not begun its regulator step (R310; notes/assumptions/133.md), and one that is held for want of the reference
waits at its oscillator step (14_faults_and_takeover.md R334). -/
def execDomainStepTimeout (domain : Nat) (s : State) : Host.Outcome State Fault Refusal :=
  if domain < 42 && s.flag .DOM_STAT_TRANS domain && s.get .DOM_STAT_TARGET domain == 0
      && (s.dom domain).stepEnd ≤ s.dt then
    let st := s.get .DOM_STAT_STEP domain
    if st == 1 && !s.standing domain then .next (s.beginStep domain 1)
    else if st == 2 && s.refHeld domain then .next (s.beginStep domain 2)
    else if (s.dom domain).fails == 0 then
      .next (s.modDom domain (fun x => { x with fails := 1, stepEnd := s.stepDue domain st }))
    else
      let x := s.dom domain
      let s := s.domainEvent domain 2
        (domDetail x.fromSt 0 (s.get .DOM_STAT_LAST_CAUSE domain) x.wakeBit (s.get .DOM_STAT_STEP domain) 0)
      let s := s.raiseFault (srcOfDomain domain) 5 0
      .next (s.fenceDomain domain)
  else .next s

/-- A CAN controller leaves ON: its buffers that wait become `ABORTED` (11_can_controllers.md R275). -/
def State.abortWaiting (s : State) (c : Nat) : State :=
  (s.txbIn c [1, 6]).foldl (fun s b => (s.setTxb c b 4).canInt c 3) s

/-- What quiescing waits for: the end of a CAN controller's frame and a member's `LEAVE` (11_can_controllers.md R275,
12_hierarchy.md R279). -/
def State.quiesced (s : State) (d : Nat) : State × Bool :=
  if d == 30 || d == 31 then
    if s.domFenced d || s.get .DOM_STAT_STATE d != 0 then (s, true)
    else if s.canOn (d - 30) && s.canBusy (d - 30) then (s, false)
    else
      let r := s.leaveFirst (d - 30) 1
      if r.2 then (r.1.abortWaiting (d - 30), true) else r
  else (s, true)

/-- R315, R312: quiesce, save, isolate and lower are complete; SEC is zeroised on every exit from ON, a debug session
in FIELD whose target leaves ON ends (15_security_and_debug.md R363), and the pending request starts. -/
def execDomainEntryComplete (domain : Nat) (s : State) : Host.Outcome State Fault Refusal :=
  if domain < 42 && s.flag .DOM_STAT_TRANS domain && s.get .DOM_STAT_TARGET domain != 0 then
    let r := s.sessionCheck.quiesced domain
    if !r.2 then .next r.1
    else .next (((r.1.finishEntry domain).domainLeftOn domain).startPending domain).avsRequest
  else .next s

/-- R307: an idle ON domain stops its own clock; the reference, its PLLs and the time clock stop when no ON domain with
a running clock needs them, unless `REF_KEEP` is 1: at the next tick of the slow clock, which DT changes to then
(00_scope.md R11, `State.slowBoundary`). -/
def execDomainClockStop (domain : Nat) (s : State) : Host.Outcome State Fault Refusal :=
  if domain < 42 && s.domOn domain then
    .next ((s.set .DOM_STAT_CLK_STOPPED domain 1).modDom domain (fun x => { x with clkAsk := false })).avsRequest
  else .next s

/-- R313: the idle time has expired. A state that R309 forbids makes no request, and the policy is evaluated again at
the next expiry. -/
def execIdleTimeout (domain : Nat) (s : State) : Host.Outcome State Fault Refusal :=
  let ms := s.get .DOM_IDLE_IDLE_MS domain
  let st := s.get .DOM_IDLE_IDLE_STATE domain
  if domain < 42 && ms != 0 && st != 0 && (s.dom domain).idleFrom + ms * 1000000 ≤ s.dt then
    let s := s.modDom domain (fun x => { x with idleFrom := s.dt })
    if s.domainAllowed domain st then .next (s.requestDomain domain st 2).1 else .next s
  else .next s

/-- R311, R327: a write of `DOM_REQ`: a host request without reply; the value 3 is ignored. -/
def domReqWrite (domain value : Nat) (s : State) : State :=
  if domain < 42 && value % 4 != 3 then (s.requestDomain domain (value % 4) 0).1 else s

def execDomReqWrite (domain value : Nat) (s : State) : Host.Outcome State Fault Refusal :=
  .next (domReqWrite domain value s)

/-- The attempt that began at `avsAt` is within its 200 µs (R320, 00_scope.md R13). -/
def State.avsWaits (s : State) : Bool :=
  match s.avsAt with
  | some t => s.dt < t + 200000
  | none => false

/-- R320: an acknowledged request: the read voltage is within 10 mV of the target, within 200 µs. Out of fallback, the first
acknowledgement of the nominal request restores full clock and raises `AVS_RESTORED`. -/
def execAvsAck (readMv : Nat) (s : State) : Host.Outcome State Fault Refusal :=
  if s.avsIdle then .next s
  else
  let s := s.avsRequest
  let target := s.get .PWRD_AVS_TARGET_MV
  if s.avsWaits && readMv ≤ target + 10 && target ≤ readMv + 10 then
    let s := s.set .PWRD_AVS_LAST_ACK_MV 0 target
    let s := s.setB .PWRD_AVS_LOW_RAIL 0 (target == 650)
    let s := { s with avsTries := 0, avsAt := none }
    if s.flag .PWRD_AVS_FALLBACK then
      let s := s.set .PWRD_AVS_FALLBACK 0 0
      .next (s.domainEvent 0xFFFF 5 (detailOf [(4, 2, target)]))
    else .next s
  else .next s

/-- R320: the attempt that waits is not acknowledged within 200 µs. After three further attempts the device enters
fallback. -/
def execAvsNoAck (s : State) : Host.Outcome State Fault Refusal :=
  let s := s.avsRequest
  if s.avsIdle || !s.avsAt.any (fun t => t + 200000 ≤ s.dt) then .next s
  else
  let s := s.count .PWRD_AVS_RETRY_CNT 0
  if s.flag .PWRD_AVS_FALLBACK then
    .next (if 4 ≤ s.avsTries then { s with avsTries := 0, avsAt := none }
      else { s with avsTries := s.avsTries + 1, avsAt := some s.dt })
  else if s.avsTries + 1 < 4 then .next { s with avsTries := s.avsTries + 1, avsAt := some s.dt }
  else
    .next (s.avsFallback.raiseFault 0x0B 0xC 0)

/-- R320: in fallback the nominal request is repeated every 10 s; `avsTries` counts its attempts from 1. -/
def execAvsRetry (s : State) : Host.Outcome State Fault Refusal :=
  if s.flag .PWRD_AVS_FALLBACK && !s.avsIdle && s.avsFrom + 10000000000 ≤ s.dt then
    .next ({ s with avsFrom := s.dt, avsTries := 1, avsAt := some s.dt }.set .PWRD_AVS_TARGET_MV 0 s.nominalMv)
  else .next s

/-- R322: the address of a first byte after a START. In I2C use with no dynamic address and `I2C_WAKE_NACK` = 0 the
matcher acknowledges and holds `SCL`; otherwise it does not acknowledge. A fenced MIF NACKs every address. The broadcast
wakes MIF only with the CCC write that follows it (`State.ccc`). -/
def execAddressMatch (addr : Nat) (i3c : Bool) (s : State) : Host.Outcome State Fault Refusal :=
  let own := addr == 0x5C + s.get .SYS_STRAP_MGMT_ADDR || s.mgmt.dynAddr == some addr
  let bcast := addr == 0x7E
  if s.pins.porstLow || !(own || bcast) then .next { s with mgmt := { s.mgmt with nacked := true, sclHeld := false, busy := false } }
  else if s.domFenced dMIF then .next { s with mgmt := { s.mgmt with nacked := true, sclHeld := false, busy := false } }
  else if s.domOn dMIF then
    .next { s.touch dMIF with mgmt := { s.mgmt with nacked := false, sclHeld := false, busy := true } }
  else if bcast then .next { s with mgmt := { s.mgmt with nacked := true, sclHeld := false, busy := false } }
  else
    let hold := !i3c && s.mgmt.dynAddr.isNone && !s.flag .PWRD_WAKE_EN_I2C_WAKE_NACK
    .next { s.wake 0 [dMIF] with mgmt := { s.mgmt with nacked := !hold, sclHeld := hold, busy := hold } }

/-- R321 bit 1: upstream resume requests HUB on USB 2.0 resume, and LOOM on LFPS or while the Loom function is on hub
port 97. -/
def execUpstreamResumeDetect (lfps : Bool) (s : State) : Host.Outcome State Fault Refusal :=
  .next (s.wake 1 (if lfps then [dLOOM] else [dHUB] ++ (if s.get .LOOMS_STAT_RATE == 1 then [dLOOM] else [])))

/-- R42, R321: a rising edge of `WAKE_IN` with its high time: a pulse under 1 us is ignored, one of 10 us is recognised,
and between the two either may happen (a free value). While the domains it asks for are ON and the lead half's clock runs
it is recorded and counted in `PWRD_WAKE_LAST` and has no other effect (notes/assumptions/46.md). -/
def State.wakeInEdge (s : State) : State :=
  let ds := ((List.range 2).filter (fun c => s.get .CAN_CTL_USE c == 0)).map dCAN
  if ds.all s.domOn && !s.flag .DOM_STAT_CLK_STOPPED (dCTL s.lead) then
    (s.setBit .PWRD_WAKE_LAST_SRC 0 3).count .PWRD_WAKE_LAST_WAKE_CNT 0
  else s.wake 3 ds

def execWakeInEdge (highNs : Nat) (s : State) : Host.Outcome State Fault Refusal :=
  if highNs < 1000 then .next s
  else if 10000 ≤ highNs then .next s.wakeInEdge
  else .next (if s.freeVal % 2 == 1 then s.useFree.wakeInEdge else s.useFree)

/-- R321: an alarm fires once, at the first DT tick at or after its value, and then reads 0. -/
def execAlarmFire (alarm : Nat) (s : State) : Host.Outcome State Fault Refusal :=
  let v := s.get .PWRD_ALARM alarm
  if alarm < 4 && v != 0 && v ≤ s.clock then
    let s := (s.set .PWRD_ALARM alarm 0).wake 5 []
    .next (s.domainEvent alarm 6 (detailOf [(4, 6, v)]))
  else .next s

/-- R326, R394: a write to an alarm's high word applies it with the path's held low word and arms the alarm. -/
def alarmArm (path : Path) (alarm high : Nat) (s : State) : State :=
  let lo := match s.shadows.find? (fun x => x.path == path && x.fld == .PWRD_ALARM && x.unit == alarm && x.write) with
    | some x => x.word
    | none => s.get .PWRD_ALARM alarm % 2 ^ 32
  s.set .PWRD_ALARM alarm (lo + high % 2 ^ 32 * 2 ^ 32)

/-- R311 cause 4, R364: a debug wake request. It needs a running level; in FIELD the session's first access or request
names its target, and it may name no other. -/
def execDebugWakeRequest (domain : Nat) (state : Nat) (s : State) : Host.Outcome State Fault Refusal :=
  if domain < 42 && state < 3 && s.debugMayWake domain then
    let s := s.nameTarget domain
    .next (if s.flag .SEC_DBG_SESSION || s.lifecycle == lcFACTORY then (s.requestDomain domain state 4).1 else s)
  else .next s

end Sys2Proof.Machine
end

