-- ==== Sys2Proof/Machine/PortPower.lean ====
section
/-! DEFINITION. The events of the port switches, their protection and metering, and of the skein budget
(04_port_power.md R80 to R103, 18_electrical.md R400). -/

namespace Sys2Proof.Machine

/-- The port exists and its skein's always-on section is powered. -/
def State.portRuns (s : State) (n : Nat) : Bool := n < 96 && (s.skein (skeinOfPort n)).powered

/-! ### What the switch logic sees in a tick -/

/-- The soft-start timeout, `VNOM` ÷ `SLEW` + 10 ms, of a port in `SOFTSTART` has expired (R83). -/
def State.ssTimeUp (s : State) (n : Nat) : Bool :=
  let slew := s.get .PWR_LIMIT_SLEW n
  s.portRuns n && s.tripFrom n == 2
  && decide (((s.port n).ssFrom + 10000000) * slew + 20000 * s.get .SKN_CFG_VNOM (skeinOfPort n) ≤ s.now * slew)

/-- The current of a port in `SOFTSTART` or `ON` has reached the effective limit (R83). -/
def State.portLimitHit (s : State) (n : Nat) (iMa : Int) : Bool :=
  s.portRuns n && (s.pwr n == 2 || s.pwr n == 3) && decide ((s.effLimit n : Int) ≤ iMa)

/-- The fault timer of a port in `LIMIT` has reached `FTIME` (R81). -/
def State.portTimeUp (s : State) (n : Nat) : Bool :=
  s.portRuns n && s.tripFrom n == 4
  && decide ((s.port n).limitFrom + 500000 * s.get .PWR_LIMIT_FTIME n ≤ s.now)

/-- The current of a conducting port has reached 7 A (R80). -/
def State.shortHit (s : State) (n : Nat) (iMa : Int) : Bool :=
  s.portRuns n && conducting (s.tripFrom n) && decide (7000 ≤ iMa)

/-- The junction sensor of a conducting port reads 160 °C or more, in 0.1 °C (R86). -/
def State.portSensorHit (s : State) (n : Nat) (reading : Int) : Bool :=
  s.portRuns n && conducting (s.tripFrom n) && decide (1600 ≤ reading)

/-- VBUS of a port in `ON` is at least 20 mV above the rail (R83), or that of a conducting one above 6.0 V (18_electrical.md
R400; DEDUCED, notes/assumptions/196.md). -/
def State.portReverseHit (s : State) (n vbus rail : Nat) : Bool :=
  s.portRuns n && ((s.pwr n == 3 && decide (rail + 20 ≤ vbus)) || (conducting (s.pwr n) && decide (6000 < vbus)))
    && !s.flag .PWR_STAT_BLOCKED n

/-! ### The thermal model (R86) -/

/-- The temperature the model gives: the substrate's and the rise of each pole, in 0.1 °C. -/
def poleSum (sub : Int) (ps : List Int) : Int := ps.foldl (· + ·) sub

/-- One 20 µs update of the three poles at a dissipation; the constants are fixed in silicon and the spec gives none. -/
def polesStep (w : Nat) (ps : List Int) : List Int := ps.zipIdx.map (fun x => Config.portPole x.2 w x.1)

/-- The dissipation I² × R_ON(Tj) (R86). -/
def State.portLoss (s : State) (n : Nat) (iMa sub : Int) : Nat :=
  iMa.natAbs * iMa.natAbs * Config.portOnResistance (poleSum sub (s.port n).poles)

/-- The poles extrapolated: `k` updates at the present dissipation. -/
def polesAfter (w : Nat) : Nat → List Int → List Int
  | 0, ps => ps
  | k + 1, ps => polesAfter w k (polesStep w ps)

/-- The prediction of an update, 1 ms (50 updates) ahead, in 0.1 °C. -/
def State.prediction (s : State) (n : Nat) (iMa sub : Int) : Int :=
  let w := s.portLoss n iMa sub
  poleSum sub (polesAfter w 50 (polesStep w (s.port n).poles))

/-- The model of a conducting port predicts 150 °C or more. -/
def State.portModelHit (s : State) (n : Nat) (iMa sub : Int) : Bool :=
  s.portRuns n && conducting (s.tripFrom n) && decide (1500 ≤ s.prediction n iMa sub)

/-- A waiting event of the same tick that limits the port's current, trips it or opens its switch: it goes before
whatever qualifies (00_scope.md R15, R84, 05_port_lifecycle.md R118; notes/assumptions/139.md). -/
def State.cutsPort (s : State) (n : Nat) : Instr → Bool
  | .ssTimeout m => m == n && s.ssTimeUp n
  | .portCurrentLimit m i => m == n && s.portLimitHit n i
  | .portFaultTimerExpiry m _ _ _ => m == n && s.portTimeUp n
  | .shortCircuitTrip m i => m == n && s.shortHit n i
  | .portSensorRead m r => m == n && s.portSensorHit n r
  | .portModelUpdate m x => m == n && s.portModelHit n x.iMa x.substrate
  | .portReverseBlock m v r => m == n && s.portReverseHit n v r
  | _ => false

/-- Such an event waits for port `n`, or has run in this tick. -/
def State.portCutNow (s : State) (n : Nat) : Bool :=
  s.cutThisTick n || (s.port n).cutTick == some s.skTick || s.pending.any (s.cutsPort n)

/-! ### Switch and protection -/

/-- R83, R84: VBUS within 100 mV of the rail, before the soft-start timeout and with no trip or limit in the tick:
`ON`. -/
def execSoftstartComplete (port vbus rail : Nat) (s : State) : Host.Outcome State Fault Refusal :=
  if s.portRuns port && s.pwr port == 2 && vbus ≤ rail + 100 && rail ≤ vbus + 100
      && !s.ssTimeUp port && !s.portCutNow port then
    .next (s.toPower port 3)
  else .next s

/-- R83: the soft-start timeout has expired. -/
def execSsTimeout (port : Nat) (s : State) : Host.Outcome State Fault Refusal :=
  if s.ssTimeUp port then .next (s.portTrip port [4]) else .next s

/-- R83: the current reaches the effective limit: the limit loop takes the switch and the fault timer runs. -/
def execPortCurrentLimit (port : Nat) (iMa : Int) (s : State) : Host.Outcome State Fault Refusal :=
  if s.portLimitHit port iMa then
    .next ((s.modPort port (fun x => { x with
      prev := s.pwr port, limitFrom := s.now, cutTick := some s.skTick })).toPower port 4)
  else .next s

/-- R81, R83: the current has been below the effective limit for 1 ms and the timer has not expired: the previous state,
the timer at 0. -/
def execPortLimitExit (port belowNs : Nat) (s : State) : Host.Outcome State Fault Refusal :=
  if s.portRuns port && s.pwr port == 4 && 1000000 ≤ belowNs && !s.portTimeUp port then
    if (s.port port).prev == 2 then .next (s.set .PWR_STAT_STATE port 2) else .next (s.toPower port 3)
  else .next s

/-- A current of 7 A or more trips a conducting port (R80, R83). -/
def State.shortTrip (s : State) (n : Nat) (iMa : Int) : State := if s.shortHit n iMa then s.portTrip n [1] else s

/-- R80, R83: the current reaches 7 A. -/
def execShortCircuitTrip (port : Nat) (iMa : Int) (s : State) : Host.Outcome State Fault Refusal :=
  .next (s.shortTrip port iMa)

/-- One reading of the stress-cycle count (R87), in 0.1 °C. -/
def State.stressReading (s : State) (n : Nat) (tj : Int) : State :=
  let x := s.port n
  let v := min (x.valley.getD tj) tj
  if !x.armed then
    if v + 400 ≤ tj then s.modPort n (fun x => { x with tj := tj, valley := some v, armed := true, peak := tj })
    else s.modPort n (fun x => { x with tj := tj, valley := some v })
  else
    let pk := max x.peak tj
    if tj ≤ pk - 400 then
      (s.count .PWR_STRESS_CNT n).modPort n (fun x => { x with tj := tj, peak := pk, armed := false, valley := some tj })
    else s.modPort n (fun x => { x with tj := tj, peak := pk })

/-- A reading of the junction sensor, in 0.1 °C: the stress count, and a trip of a conducting port at 160 °C (R86, R87). -/
def State.portSensor (s : State) (n : Nat) (reading : Int) : State :=
  let hit := s.portSensorHit n reading
  let s := (s.set .PWR_TJ_SENSOR n (ofInt 16 reading)).stressReading n reading
  if hit then s.portTrip n [2] else s

/-- An update of the thermal model (R86): the prediction, and a trip of a conducting port at 150 °C. -/
def State.portModel (s : State) (n : Nat) (x : PortHeat) : State :=
  let hit := s.portModelHit n x.iMa x.substrate
  let s := s.set .PWR_TJ_MODEL n (ofInt 16 (s.prediction n x.iMa x.substrate))
  let s := s.modPort n (fun p => { p with poles := polesStep (s.portLoss n x.iMa x.substrate) p.poles })
  if hit then s.portTrip n [3] else s

/-- R86, R87: the 1 ms reading of the junction sensor. -/
def execPortSensorRead (port : Nat) (reading : Int) (s : State) : Host.Outcome State Fault Refusal :=
  if s.portRuns port then .next (s.portSensor port reading) else .next s

/-- R86: the 20 µs update of the thermal model. -/
def execPortModelUpdate (port : Nat) (heat : PortHeat) (s : State) : Host.Outcome State Fault Refusal :=
  if s.portRuns port then .next (s.portModel port heat) else .next s

/-- R81, R84: the fault timer reaches `FTIME`: a trip, one with the other trips of the same tick. -/
def execPortFaultTimerExpiry (port : Nat) (shortMa sensor : Option Int) (model : Option PortHeat) (s : State) :
    Host.Outcome State Fault Refusal :=
  if s.portTimeUp port then
    let s := s.portTrip port [0]
    let s := match shortMa with
      | some i => s.shortTrip port i
      | none => s
    let s := match sensor with
      | some r => s.portSensor port r
      | none => s
    .next (match model with
      | some x => s.portModel port x
      | none => s)
  else .next s

/-- R83, R400: VBUS at least 20 mV above the rail opens the switch; above 6.0 V the discharge path opens too. -/
def execPortReverseBlock (port vbus rail : Nat) (s : State) : Host.Outcome State Fault Refusal :=
  if !s.portRuns port then .next s
  else
    let on := s.portReverseHit port vbus rail
    let fed := decide (6000 < vbus) && !(s.port port).backfeed
    let s := if on then
        ((s.modPort port (fun x => { x with cutTick := some s.skTick })).set .PWR_STAT_BLOCKED port 1).powerMoved port 3
      else s
    let s := if fed then s.modPort port (fun x => { x with backfeed := true }) else s
    .next (if on || fed then s.powerEvent port 6 else s)

/-- R83: VBUS has been below rail + 5 mV for 100 µs: the switch closes; an attach that the block sent back to `POWERING`
qualifies again (notes/assumptions/27.md). -/
def execPortReverseRelease (port vbus rail forNs : Nat) (s : State) : Host.Outcome State Fault Refusal :=
  if s.portRuns port && conducting (s.pwr port) && vbus < rail + 5 && 100000 ≤ forNs then
    .next ((s.set .PWR_STAT_BLOCKED port 0).powerMoved port 3)
  else .next s

/-- R400: VBUS has been below 6.0 V for 1 ms: the discharge path reconnects if R83 calls for it, and a switch that the back-feed
kept open may close. -/
def execVbusBackfeedClear (port belowNs : Nat) (s : State) : Host.Outcome State Fault Refusal :=
  if s.portRuns port && (s.port port).backfeed && 1000000 ≤ belowNs then
    let s := s.modPort port (fun x => { x with backfeed := false })
    .next (if s.pwr port == 1 && s.powerRequest port && s.feedsReady (skeinOfPort port) then s.toPower port 2 else s.evalPower port)
  else .next s

/-- R83: VBUS below 0.8 V and 100 ms since switch-off: `OFF`; a deferred enable runs. -/
def execDischargeComplete (port vbus : Nat) (s : State) : Host.Outcome State Fault Refusal :=
  if s.portRuns port && s.pwr port == 5 && vbus < 800 && (s.port port).offFrom + 100000000 ≤ s.now then
    .next (s.reachOff port)
  else .next s

/-- R83: VBUS has been below 0.8 V for 10 ms: the discharge is disconnected. -/
def execDischargeDisconnect (port belowNs : Nat) (s : State) : Host.Outcome State Fault Refusal :=
  if s.portRuns port && 10000000 ≤ belowNs && !conducting (s.pwr port) then
    .next (s.modPort port (fun x => { x with discharge := false }))
  else .next s

/-- R88: the retry period timer expires; `RETRY_PER` as it stands now decides (notes/assumptions/118.md). -/
def execRetryPeriodExpiry (port : Nat) (s : State) : Host.Outcome State Fault Refusal :=
  if s.portRuns port && s.pwr port == 6
      && (s.port port).retryFrom + 250000000 * s.get .PWR_LIMIT_RETRY_PER port ≤ s.now then
    .next (s.modPort port (fun x => { x with retryDone := true }))
  else .next s

/-- R83: the first tick after the expiry in which the conditions of the row hold: `OFF`. -/
def execRetryEnd (port vbus : Nat) (s : State) : Host.Outcome State Fault Refusal :=
  let x := s.port port
  if s.portRuns port && s.pwr port == 6 && x.retryDone && vbus < 800 && x.offFrom + 100000000 ≤ s.now
      && (!x.thermal || x.tj < 1200) then
    .next (s.reachOff port)
  else .next s

/-- R83: 60 s in `ON` with no trip, none in the same tick either (00_scope.md R15). -/
def execPortRetryReload (port : Nat) (s : State) : Host.Outcome State Fault Refusal :=
  if s.portRuns port && s.pwr port == 3 && (s.port port).onFrom + 60000000000 ≤ s.now && !s.portCutNow port then
    .next (s.set .PWR_STAT_RETRY_LEFT port (s.get .PWR_CFG_RETRIES port))
  else .next s

/-- R83: forward current above 100 mA, 100 µs or more after switch-off: GRAVE. -/
def execPortStuckOn (port : Nat) (iMa : Int) (s : State) : Host.Outcome State Fault Refusal :=
  let p := s.pwr port
  if s.portRuns port && (p == 0 || p == 5 || p == 6 || p == 7) && 100 < iMa && (s.port port).offFrom + 100000 ≤ s.now then
    .next (s.raisePortFault port 9)
  else .next s

/-! ### The end of a 1 ms window (03_feeds.md R74, 04_port_power.md R98 to R103) -/

/-- Latch the averages of a feed's window, each rounded down, a negative average power read as 0; a window without a
sample leaves them (R74; notes/assumptions/25.md). -/
def State.feedWindow (s : State) (u : Nat) : State :=
  let f := s.feed u
  if f.n == 0 then s
  else
    let s := (s.set .FEED_VIN u (f.vinSum / f.n)).set .FEED_VDS u (ofInt 16 (f.vdsSum / (1000 * f.n : Nat)))
    let s := (s.set .FEED_I u (ofInt 32 (f.iSum / (f.n : Int)))).set .FEED_P u ((f.pSum / (1000 * f.n : Nat)).toNat)
    s.modFeed u (fun f => { f with vinAvg := f.vinSum / f.n, n := 0, vinSum := 0, vdsSum := 0, iSum := 0, pSum := 0 })

/-- Latch the averages of a port's window, which ended at `w` of the skein's own time. -/
def State.portWindow (s : State) (w n : Nat) : State :=
  let x := s.port n
  if x.n == 0 then s.modPort n (fun x => { x with winEnd := w })
  else
    let i := x.iSum / (x.n : Int)
    let s := (s.set .PWR_VBUS n (x.vSum / x.n)).set .PWR_I n (ofInt 16 i)
    s.modPort n (fun x => { x with n := 0, vSum := 0, iSum := 0, iWin := i, winEnd := w })

/-- Latch a skein's rail average and the sum of its feed currents; `w` is the window's end. -/
def State.skeinWindow (s : State) (w k : Nat) : State :=
  let x := s.skein k
  let i := toInt 32 (s.get .FEED_I (2 * k)) + toInt 32 (s.get .FEED_I (2 * k + 1))
  let s := if x.n == 0 then s else s.set .SKN_VRAIL k (x.vSum / x.n)
  (s.set .SKN_I k (ofInt 32 i)).modSkein k (fun x => { x with n := 0, vSum := 0, window := w, iWin := i })

/-- The attached Type-C ports of a skein. -/
def State.typeCs (s : State) (k : Nat) : List Nat := (skeinPorts k).filter (fun n => s.onRail n && !s.typeA n)

/-- The port that gives the next shedding step: the highest `PRIO`, then the latest attached, above Default (R98). -/
def State.shedPort (s : State) (k : Nat) : Option Nat :=
  (sortBy (fun a b => s.passBefore b a) ((s.typeCs k).filter (fun n => 2 ≤ s.decided n))).head?

/-- Take shedding steps until they cover the deficit (R98). -/
def State.shedSteps (s : State) (k : Nat) : Nat → Int → State
  | 0, _ => s
  | fuel + 1, deficit =>
    if deficit ≤ 0 then s
    else match s.shedPort k with
      | none => s
      | some n =>
        let lvl := s.decided n
        let s := s.modPort n (fun x => { x with cap := some (lvl - 1) })
        let s := ((s.decideRp n (lvl - 1)).set .PWR_STAT_SHED n 1).powerEvent n 9
        s.shedSteps k fuel (deficit - (if lvl == 3 then 1500 else 1000))

/-- The port whose cap is removed next: the lowest `PRIO`, then the earliest attached (R101). -/
def State.capPort (s : State) (k : Nat) : Option Nat :=
  (sortBy s.passBefore ((s.typeCs k).filter (fun n => (s.port n).cap.isSome))).head?

/-- The counted current of the next restoring step. -/
def State.capStep (s : State) (n : Nat) : Int := if (s.port n).cap == some 2 then 1500 else 1000

/-- `FLOOR` at the end of a window (R100). -/
def State.noteFloor (s : State) (k : Nat) (above : Bool) : State :=
  if above && (s.typeCs k).all (fun n => s.decided n < 2) then
    (if s.flag .SKN_BSTAT_FLOOR k then s else (s.set .SKN_BSTAT_FLOOR k 1).skeinEvent k 0)
  else if above then s else s.set .SKN_BSTAT_FLOOR k 0

/-- The headroom of R101: the 1 s count runs through windows in which the next step would fit; with another step's
current it starts again. -/
def State.noteHeadroom (s : State) (k start : Nat) : State :=
  match s.capPort k with
  | none => s.modSkein k (fun x => { x with headroom := none })
  | some n =>
    let i := s.capStep n
    if 10 * ((s.skein k).iWin + i) ≤ 9 * (s.effBudget k : Int) then
      s.modSkein k (fun x => { x with
        headroom := some (if x.headStep == i then x.headroom.getD start else start), headStep := i })
    else s.modSkein k (fun x => { x with headroom := none })

/-- The budget logic at the end of a window that started at `start` (R98 to R101); a hold suspends it (R92), `FLOOR`
included (notes/assumptions/116.md). -/
def State.budgetWindow (s : State) (start k : Nat) : State :=
  let i := (s.skein k).iWin
  let eff := s.effBudget k
  let above := decide ((eff : Int) < i)
  let s := s.setB .SKN_BSTAT_OVER k above
  if s.skHeld k then s.modSkein k (fun x => { x with headroom := none })
  else
    let s := s.noteFloor k above
    let free := match (s.skein k).shedHold with
      | some t => decide (t ≤ start)
      | none => true
    let s := if above && free && (s.shedPort k).isSome then (s.shedSteps k 24 (i - eff)).startShedHold k else s
    s.noteHeadroom k start

/-- The results of `MEAS_PORTS` over the last complete window (10_ecrax_opcodes.md R247). -/
def State.measPorts (s : State) (first n : Nat) : List Nat :=
  toLE 8 s.measDt ++ (List.range n).flatMap (fun i =>
    toLE 2 (s.get .PWR_VBUS (first + i)) ++ toLE 2 (s.get .PWR_I (first + i)) ++ toLE 2 (s.get .PWR_TJ_SENSOR (first + i))
      ++ toLE 2 (s.get .PWR_TJ_MODEL (first + i)))

/-- The results of `MEAS_FEEDS` (10_ecrax_opcodes.md R247); a feed without a sensor reports 0x8000. What the feeds of a
skein report whose link carries nothing is open (notes/assumptions/41.md). -/
def State.measFeeds (s : State) : List Nat :=
  toLE 8 s.measDt ++ (List.range 16).flatMap (fun u =>
    if s.linkDead (skeinOfFeed u) then toLE 16 (Config.freeValue (s.freeCtr + u))
    else
      toLE 2 (s.get .FEED_VIN u) ++ toLE 2 (s.get .FEED_VDS u) ++ toLE 4 (s.get .FEED_I u) ++ toLE 4 (s.get .FEED_P u)
        ++ toLE 2 (s.get .FEED_TJ_MODEL u)
        ++ toLE 2 (if s.get .FEED_CFG_TS_TYPE u == 0 then 0x8000 else s.get .FEED_TJ_SENSOR u))

/-- The commands that wait for the first window are answered with it (10_ecrax_opcodes.md R247). -/
def State.answerMeas (s : State) : State :=
  let s := s.ecx.measBy.foldl (fun (s : State) q =>
    s.answer q.1 q.1.quiet stOK (if q.1.opcode == 0x30 then s.measPorts q.2.1 q.2.2 else s.measFeeds)) s
  { s with freeCtr := s.freeCtr + 16 * s.ecx.measBy.length, ecx := { s.ecx with measBy := [] } }


/-- R74, R103, R98, R13: the 1 ms window of DT that has ended is closed, once: by its end, or by the first sample that
is stamped in a later window. Windows that pass without a sample measure nothing (notes/assumptions/25.md, 106.md). A step of DT
moves the end of the running window with it (12_hierarchy.md R302). -/
def State.closeWindow (s : State) : State :=
  let w := s.skDt / 1000000
  let e := 1000000 * (s.measBase + 1) + s.measShift
  if s.skDt < e then s
  else
    let t := s.now - (s.skDt - e)
    let ks := (List.range 8).filter (fun k => (s.skein k).powered)
    let s := ks.foldl (fun s k => (skeinFeeds k).foldl State.feedWindow s) s
    let s := ks.foldl (fun s k => (skeinPorts k).foldl (fun s n => s.portWindow t n) s) s
    let s := ks.foldl (fun s k => s.skeinWindow t k) s
    let s := ks.foldl (fun s k => (s.noteShare k).budgetWindow (t - 1000000) k) s
    ({ s with measBase := w, measShift := 0, measDt := e } : State).answerMeas

/-- R74, R103: the end of a 1 ms window. -/
def execMeasurementWindowEnd (s : State) : Host.Outcome State Fault Refusal := .next s.closeWindow

/-- R103: one 50 kS/s sample: energy in mJ (mV times mA times 20 µs is 20 pJ), on-time, and the sums of the window it is
stamped in. -/
def execPortSample (port vbus : Nat) (iMa : Int) (s : State) : Host.Outcome State Fault Refusal :=
  if s.portRuns port then
    let s := s.closeWindow
    let x := s.port port
    let e := x.eRem + (if 0 < iMa then 20 * (vbus * iMa.toNat) else 0)
    let o := x.onRem + (if conducting (s.pwr port) && !s.flag .PWR_STAT_BLOCKED port then 20000 else 0)
    let s := (s.count .PWR_E port (e / 1000000000)).count .PWR_ONTIME port (o / 1000000000)
    .next (s.modPort port (fun x => { x with
      eRem := e % 1000000000, onRem := o % 1000000000, n := x.n + 1, vSum := x.vSum + vbus, iSum := x.iSum + iMa }))
  else .next s

/-! ### Allocation, advertisement, compliance -/

/-- R94, R102: a decided level reaches both CC pins; a lowering starts the sink's adjustment time, and a second one starts
it again (notes/assumptions/117.md); a raise ends an imposed limit, and drops the checks of a lowering that are not due yet
(DESIGN CHOICE, notes/assumptions/172.md). A limit or a trip of the port in the same tick goes before
the advertisement (00_scope.md R15), and while a pin is above 5.5 V the Rp source is stopped (18_electrical.md R400). -/
def execRpLevelApplied (port : Nat) (s : State) : Host.Outcome State Fault Refusal :=
  match (s.port port).nextRp with
  | some c =>
    let old := s.get .PWR_STAT_RP_ADV port
    if !s.portRuns port || s.skHeld (skeinOfPort port) || s.portCutNow port || (s.port port).ccOver then .next s
    else
      let s := (s.setRp port c).modPort port (fun x => { x with nextRp := none })
      if c < old then .next (s.modPort port (fun x => { x with tc := some s.now, checked := false }))
      else if old < c then
        .next ((s.modPort port (fun x => { x with tc := none, imposed := none })).set .PWR_STAT_SINK_LIMITED port 0)
      else .next s
  | none => .next s

/-- R99: the 100 ms after a lowering have ended. -/
def execShedHoldEnd (skein : Nat) (s : State) : Host.Outcome State Fault Refusal :=
  match (s.skein skein).shedHold with
  | some t => if t ≤ s.now then .next (s.set .SKN_BSTAT_SHED_HOLD skein 0) else .next s
  | none => .next s

/-- R101: after 1 s of headroom for it one shed cap step is removed; the count restarts. A step of another current, that of
another port, has first to be tested for its own 1 s. -/
def execShedCapRestore (skein : Nat) (s : State) : Host.Outcome State Fault Refusal :=
  match (s.skein skein).headroom, s.capPort skein with
  | some t, some n =>
    if s.skHeld skein || (s.skein skein).window < t + 1000000000 || (s.skein skein).headStep != s.capStep n then .next s
    else
      let c := ((s.port n).cap).getD 3 + 1
      let s := s.modPort n (fun x => { x with cap := if c < 3 then some c else none })
      let s := s.modSkein skein (fun x => { x with headroom := none })
      let lvl := s.levelOf n (s.port n).grant
      .next ((s.decideRp n lvl).setB .PWR_STAT_SHED n (lvl < rpCode (s.port n).grant))
  | _, _ => .next s

/-- R102: the first window that starts at or after t_c + 60 ms is checked. -/
def execComplianceCheck (port : Nat) (s : State) : Host.Outcome State Fault Refusal :=
  let x := s.port port
  match x.tc with
  | some t =>
    if !s.portRuns port || x.checked || x.winEnd < t + 61000000 || t + 62000000 ≤ x.winEnd then .next s
    else
      let s := s.modPort port (fun x => { x with checked := true })
      if (rpThreshold (s.get .PWR_STAT_RP_ADV port) : Int) < x.iWin then
        .next ((s.count .PWR_NONCOMPLY_CNT port).powerEvent port 7)
      else .next s
  | none => .next s

/-- R102: at t_c + 100 ms the last complete window before it decides the imposed limit; a held port keeps its limit
(R92). -/
def execSinkLimitImposed (port : Nat) (s : State) : Host.Outcome State Fault Refusal :=
  let x := s.port port
  match x.tc with
  | some t =>
    if !s.portRuns port || s.skHeld (skeinOfPort port) || s.now < t + 100000000
        || t + 100000000 < x.winEnd || x.winEnd ≤ t + 99000000 then .next s
    else
      let thr := rpThreshold (s.get .PWR_STAT_RP_ADV port)
      let s := s.modPort port (fun x => { x with tc := none })
      if (thr : Int) < x.iWin then
        let s := s.modPort port (fun x => { x with imposed := some thr })
        .next ((s.set .PWR_STAT_SINK_LIMITED port 1).powerEvent port 8)
      else .next s
  | none => .next s

/-- R400: a CC pin above 5.5 V stops the Rp source until both pins have been below it for 1 ms. -/
def execCcOvervoltage (port mv belowNs : Nat) (s : State) : Host.Outcome State Fault Refusal :=
  if !s.portRuns port then .next s
  else if 5500 < mv then .next (s.modPort port (fun x => { x with ccOver := true }))
  else if 1000000 ≤ belowNs then .next (s.modPort port (fun x => { x with ccOver := false }))
  else .next s

/-! ### Port power requests (R91) -/

/-- `PORT_VBUS_ON` (R91): the state and the status. -/
def State.vbusOn (s : State) (n : Nat) (q : Option ReqId) : State × Nat :=
  let keep (s : State) : State × Nat :=
    (((s.set .PWR_CFG_PWR_EN n 1).set .PWR_STAT_DEFERRED n 1).modPort n (fun p => { p with deferBy := q }), stDEFERRED)
  if s.skHeld (skeinOfPort n) then (s, stBUSY)
  else if s.mode n == 0 then (s, stBAD_PARAM)
  else if s.pwr n == 7 then (s, stBUSY)
  else if s.flag .PWR_STAT_DEFERRED n then keep (s.displaceOpt (s.port n).deferBy)
  else if s.pwr n == 5 || s.pwr n == 6 then keep s
  else ((s.set .PWR_CFG_PWR_EN n 1).evalPower n, stOK)

/-- `PORT_LATCH_CLEAR` (R91, R89). -/
def State.latchClear (s : State) (n : Nat) : State × Nat :=
  if s.skHeld (skeinOfPort n) then (s, stBUSY)
  else if s.pwr n == 7 then ((s.set .PWR_STAT_RETRY_LEFT n (s.get .PWR_CFG_RETRIES n)).toPower n 5, stOK)
  else (s, stOK)

/-- The other fields of an accepted `PWR_CFG` word; a change of `PRIO`, `RP_MAX` or `CONN` makes a pass due (R97). -/
def State.pwrCfgFields (s : State) (n v : Nat) : State :=
  let moved := s.get .PWR_CFG_CONN n != v % 2 || s.get .PWR_CFG_PRIO n != bits v 2 2 || s.get .PWR_CFG_RP_MAX n != bits v 4 2
  let s := (s.set .PWR_CFG_CONN n (v % 2)).set .PWR_CFG_POLICY n (bits v 1 1)
  let s := ((s.set .PWR_CFG_PRIO n (bits v 2 2)).set .PWR_CFG_RP_MAX n (bits v 4 2)).set .PWR_CFG_RETRIES n (bits v 8 4)
  if moved then s.duePass (skeinOfPort n) else s

/-- A write of `PWR_CFG` (R82, R85): none where it is refused with `RANGE`. Held skeins refuse it before (R104). -/
def State.pwrCfgWrite (s : State) (n v : Nat) : Option State :=
  let en := bits v 6 1
  if (v % 2 != s.get .PWR_CFG_CONN n && s.mode n != 0) || !inRange .PWR_CFG_RP_MAX (bits v 4 2) then none
  else if en == s.get .PWR_CFG_PWR_EN n then some (s.pwrCfgFields n v)
  else if en == 0 then some ((s.vbusClear n).pwrCfgFields n v)
  else
    let r := s.vbusOn n none
    if r.2 == stBAD_PARAM || r.2 == stBUSY then none else some (r.1.pwrCfgFields n v)

/-- A write of `PWR_LIMIT` within its ranges (R85): a change of `ILIM` makes a pass due (R97). -/
def State.pwrLimitFields (s : State) (n ilim ftime slew per : Nat) : State :=
  let moved := s.get .PWR_LIMIT_ILIM n != ilim
  let s := (s.set .PWR_LIMIT_ILIM n ilim).set .PWR_LIMIT_FTIME n ftime
  let s := (s.set .PWR_LIMIT_SLEW n slew).set .PWR_LIMIT_RETRY_PER n per
  if moved then s.duePass (skeinOfPort n) else s

end Sys2Proof.Machine
end

