-- ==== Sys2Proof/Machine/Usb.lean ====
section
/-! DEFINITION. USB descriptors as a Shuttle reads them, and the operations of enumeration, tree suspend and device
reset (07_shuttle_engines.md R148 to R163, R171 to R174). The descriptor layouts are those of USB 2.0
(notes/assumptions/30.md). -/

namespace Sys2Proof.Machine

/-! ### Descriptors -/

/-- An endpoint of a configuration. -/
structure EpDesc where
  iface : Nat
  alt   : Nat
  addr  : Nat
  typ   : Nat
  mps   : Nat
  ival  : Nat
  deriving DecidableEq, Repr

/-- Split a byte string into descriptors by their length bytes; `n` bounds their number. -/
def descriptors : Nat → List Nat → List (List Nat)
  | 0, _ => []
  | n + 1, bs =>
    let len := bs.headD 0
    if len < 2 then [] else bs.take len :: descriptors n (bs.drop len)

/-- The endpoints of a configuration descriptor set, with the interface and alternate setting of each. -/
def endpointsOf (cfg : List Nat) : List EpDesc :=
  ((descriptors cfg.length cfg).foldl (fun (a : List EpDesc × Nat × Nat) d =>
    if d.getD 1 0 == 4 then (a.1, d.getD 2 0, d.getD 3 0)
    else if d.getD 1 0 == 5 then
      (a.1 ++ [⟨a.2.1, a.2.2, d.getD 2 0, d.getD 3 0 % 4, leAt d 4 2 % 8192, d.getD 6 0⟩], a.2)
    else a) ([], 0, 0)).1

/-- The distinct endpoint addresses of any alternate setting (R156). -/
def epAddrs (cfg : List Nat) : List Nat :=
  (((endpointsOf cfg).map (·.addr)).filter (fun a => a % 128 != 0)).eraseDups

/-- The largest power of two that is not above `b`. -/
def pow2Below (b : Nat) : Nat := 2 ^ Nat.log2 (max b 1)

/-- The service interval in microframes (R150, R162): by `bInterval` at high speed and for isochronous endpoints, the
largest power of two of frames below high speed; 0 for control and bulk. -/
def serviceInterval (speed typ b : Nat) : Nat :=
  if typ == 0 || typ == 2 then 0
  else if speed == 3 then min (2 ^ (min (max b 1) 16 - 1)) 32768
  else if typ == 1 then min (8 * 2 ^ (min (max b 1) 16 - 1)) 32768
  else min (8 * pow2Below b) 32768

def Dev.isHub (d : Dev) : Bool := d.devDesc.getD 4 0 == 9
/-- Configuration 1 says the device can signal remote wake. -/
def Dev.canWake (d : Dev) : Bool := bit (d.config.getD 7 0) 5
/-- The bytes of configuration 1 that are cached (R155). -/
def Dev.cachedConfig (d : Dev) : List Nat := d.config.take 7168

/-- The device with an EP0 context. -/
def State.devByEp0 (s : State) (n : Nat) : Option Dev := s.loom.devs.find? (fun d => d.ep0 == n && n != 0x3FFF)

/-- The hub port of the transaction translator that serves a device on hub port `p` of `hub` (R162). -/
def State.ttPortOf (s : State) (speed p : Nat) (hub : Option Dev) : Nat :=
  match hub with
  | none => 0
  | some h =>
    if speed == 3 then 0 else if h.speed == 3 then p
    else ((s.ctx? h.ep0).map (·.ttPort)).getD 0

/-- The configuration of a hub offers alternate setting 1 of its interface (R154 step 6). -/
def offersAlt1 (cfg : List Nat) : Bool := (descriptors cfg.length cfg).any (fun d => d.getD 1 0 == 4 && d.getD 3 0 == 1)

/-- The transaction translator that serves a device: that of a high-speed hub above it, and of which port where the hub
has one for each (R147, R148); the first argument bounds the tiers. -/
def State.ttOf (s : State) : Nat → Dev → Option (Nat × Nat)
  | 0, _ => none
  | k + 1, d =>
    if d.speed == 3 then none
    else match s.devByEp0 d.parent with
      | none => none
      | some h => if h.speed == 3 then some (h.ep0, if h.hubAlt == 1 then d.hubPort else 0) else State.ttOf s k h

/-- A device belongs to the tree below, and with, a device. -/
def Dev.below (d e : Dev) : Bool :=
  e.port == d.port && d.tier ≤ e.tier && e.route % 16 ^ (d.tier - 1) == d.route % 16 ^ (d.tier - 1)

/-- A device and those below it, the deepest first. -/
def State.subtree (s : State) (d : Dev) : List Dev :=
  sortBy (fun a b => b.tier < a.tier) (s.loom.devs.filter (fun e => d.below e))

/-! ### Shuttle events about devices (R176) -/

def State.devEvent (s : State) (d : Dev) (code extra : Nat) : State :=
  s.shutEvent (s.shuttleOf d.port) code (if d.ep0 == 0x3FFF then 0 else s.handleOf d.ep0) d.port (groupOfPort d.port)
    d.route extra

/-- The last activity of a tree is now (R171). -/
def State.treeActive (s : State) (n : Nat) : State := s.modPort n (fun p => { p with treeAct := s.dt })

/-! ### Enumeration (R154 to R163) -/

/-- The attempt goes on with a request. -/
def State.enumRequest (s : State) (d : Dev) (r : EnumReq) : State :=
  s.modDev d.port d.route (fun d => { d with stage := .request r, since := s.dt })

/-- The request that follows one of step 5, and those of step 6; none before step 7. A string index of 0, and every
string where no language is listed, is skipped. -/
def Dev.nextReq (d : Dev) (r : EnumReq) : Option EnumReq :=
  let hub := if d.isHub then some EnumReq.hubSetup else none
  let str (i : Nat) : Bool := d.lang != 0 && d.devDesc.getD i 0 != 0
  let ser := if str 16 then some EnumReq.serial else hub
  let pro := if str 15 then some EnumReq.product else ser
  let man := if str 14 then some EnumReq.manufacturer else pro
  match r with
  | .dev8 => some .setAddress
  | .setAddress => some .devFull
  | .devFull => some .cfgHead
  | .cfgHead => some .cfgFull
  | .cfgFull => if 0x0201 ≤ leAt d.devDesc 2 2 then some .bos else some .string0
  | .bos => some .string0
  | .string0 => man
  | .manufacturer => pro
  | .product => ser
  | .serial => hub
  | .hubSetup => none

def EnumReq.isString : EnumReq → Bool
  | .string0 | .manufacturer | .product | .serial => true
  | .dev8 | .setAddress | .devFull | .cfgHead | .cfgFull | .bos | .hubSetup => false

/-- The room left in a device's descriptor cache of 8 KiB (R155; notes/assumptions/30.md). -/
def Dev.room (d : Dev) : Nat :=
  8192 - (d.devDesc.length + d.cachedConfig.length + d.bos.length + (d.strings.map (fun l => (l.getD []).length)).sum)

/-- Go to the request that follows, or to step 7. -/
def State.enumNext (s : State) (port route : Nat) (r : EnumReq) : State :=
  match s.dev? port route with
  | none => s
  | some d =>
    match d.nextReq r with
    | some q => s.enumRequest d q
    | none => s.modDev port route (fun d => { d with stage := .step7, since := s.dt })

/-- A device is refused (R158): reason 1 tier, 2 addresses, 3 hub port above 15; it is kept for `PORT_RESCAN`. -/
def State.devRejected (s : State) (d : Dev) (reason : Nat) : State :=
  let s := s.freeReserve d
  let s := s.devEvent d 6 reason
  let s := if d.ep0 == 0x3FFF then s else s.dropContexts (fun c => c.devEp0 == d.ep0 && c.port == d.port) wABORT
  (s.modDev d.port d.route (fun d => { d with stage := .rejected, ep0 := 0x3FFF, waiting := false })).noteWaiting

/-- An attempt fails with a status (R154): after 100 ms the next; after the third `ENUM_FAIL` of the port, or
`DEV_ENUM_FAIL` below a hub (R159). -/
def State.attemptFailed (s : State) (d : Dev) (status : Nat) : State :=
  let s := s.modDev d.port d.route (fun d => { d with status := status, since := s.dt, stage := .retryWait })
  if d.tries < 3 then s
  else if d.tier == 1 then (s.endTree d.port status).enumFail d.port status
  else
    let s := (s.devEvent d 5 status).freeReserve d
    let s := if d.ep0 == 0x3FFF then s else s.dropContexts (fun c => c.devEp0 == d.ep0 && c.port == d.port) status
    (s.modDev d.port d.route (fun d => { d with stage := .failed, ep0 := 0x3FFF, waiting := false })).noteWaiting

/-- Make the context of an endpoint of a device (R162). -/
def State.epCtx (s : State) (d : Dev) (e : EpDesc) (n : Nat) : Ctx :=
  { num := n, port := d.port, addr := d.addr, epAddr := e.addr, typ := e.typ, speed := d.speed, mps := e.mps,
    interval := serviceInterval d.speed e.typ e.ival, route := d.route, devEp0 := d.ep0, parent := d.parent,
    ttPort := s.ttPortOf d.speed d.hubPort (s.devByEp0 d.parent), hub := d.isHub, rwake := d.canWake }

/-- Allocate contexts for endpoint addresses of a configuration, out of the reservation first (R156, R163). -/
def State.allocEps (s : State) (port route : Nat) (cfg : List Nat) : List Nat → State
  | [] => s
  | a :: r =>
    match s.dev? port route, (endpointsOf cfg).find? (fun e => e.addr == a) with
    | some d, some e =>
      let w := s.allocCtx false (0 < d.reserved) (s.epCtx d e)
      (w.1.modDev port route (fun d => { d with reserved := d.reserved - 1 })).allocEps port route cfg r
    | _, _ => s.allocEps port route cfg r

/-- Step 7 with too few free contexts (R163): what was taken returns, and the device waits for all it needs. -/
def State.poolShort (s : State) (d : Dev) (need : Nat) : State :=
  let s := s.freeReserve d
  let s := s.dropContexts (fun c => c.devEp0 == d.ep0 && c.port == d.port) wABORT
  let s := s.modDev d.port d.route (fun d => { d with
    stage := .poolWait, ep0 := 0x3FFF, waiting := true, need := need, since := s.dt, addr := 0, later := none, swap := false })
  let s := s.noteWaiting
  if d.tier == 1 then (s.setAtt d.port 7).lifeEvent d.port 6 [(0, 2, need)] else s

/-- Step 7 of R154: contexts are allocated, the descriptors cached, and the device is presented (R159). -/
def State.enumDone (s : State) (d : Dev) : State :=
  let eps := epAddrs d.config
  if s.get .SHF_POOL_FREE + d.reserved < eps.length then s.poolShort d (eps.length + 1)
  else
    let s := s.allocEps d.port d.route d.config eps
    let s := match s.dev? d.port d.route with
      | some e => s.freeReserve e
      | none => s
    let s := s.modDev d.port d.route (fun d => { d with stage := .done, errors := 0 })
    let s := (s.modCtx d.ep0 (fun c => { c with hub := d.isHub, rwake := d.canWake })).openHandle d.ep0
    let s := s.treeActive d.port
    if d.tier == 1 then s.present d.port (s.handleOf d.ep0) else s.devEvent d 3 d.parent

/-! ### External hubs (R158, R159) -/

/-- A hub port of an external hub reports a connection. -/
def State.hubPortConnect (s : State) (h : Dev) (p : Nat) : State :=
  let tier := h.tier + 1
  let route := if p ≤ 15 then h.route + p * 16 ^ (tier - 2) else h.route + 0x10000 * p
  let s := s.treeActive h.port
  if (s.dev? h.port route).isSome then s
  else
    let d : Dev := { port := h.port, route := route, tier := tier, hubPort := p, parent := h.ep0, conn := s.now,
                     since := s.dt, attempt := s.dt }
    let s := { s with loom := { s.loom with devs := s.loom.devs ++ [d] } }
    if 15 < p then s.devRejected d 3
    else if (s.freeAddr h.port).isNone then s.devRejected d 2
    else if s.safeHold then s
    else s.beginAttempt d

/-- A device below a hub, and every device below it, is gone: `DEV_GONE`, the deepest first. -/
def State.devGone (s : State) (d : Dev) : State :=
  (s.subtree d).foldl (fun s e => (s.devEvent e 4 0).endDev e wDEVICE_GONE) (s.treeActive d.port)

/-! ### Transfers -/

/-- IN data that exceed 16,368 bytes, or reach them in a transfer that goes on, form records of that length (08_loom_function.md
R183, R197); `k` bounds their number. -/
def State.fillRecs (s : State) (n : Nat) (last : Bool) : Nat → State
  | 0 => s
  | k + 1 =>
    match s.ctx? n with
    | some c =>
      if c.partData.length < 16368 || (last && c.partData.length == 16368) then s
      else ((s.formRec n 0 0 wOK (c.partData.take 16368)).modCtx n (fun c => { c with
        partData := c.partData.drop 16368 })).fillRecs n last k
    | none => s

/-- Place IN data of a transfer; at its end the last record carries `END`. -/
def State.placeIn (s : State) (n : Nat) (data : List Nat) (last : Bool) : State :=
  ((s.modCtx n (fun c => { c with partData := c.partData ++ data })).fillRecs n last (data.length / 16368 + 1)).notePages

/-- The last record of an IN transfer, empty where the data before it filled their records, carries `END`. -/
def State.endIn (s : State) (n status : Nat) : State :=
  match s.ctx? n with
  | some c => ((s.formRec n 0 1 status c.partData).modCtx n (fun c => { c with partData := [] })).notePages
  | none => s

/-- A transfer on a control or bulk endpoint of a full- or low-speed device below a high-speed hub has been broken off: the
Shuttle clears the hub's transaction translator buffer (R158). -/
def State.clearHubTt (s : State) (c : Ctx) : State :=
  if c.typ != 0 && c.typ != 2 then s
  else match s.devByEp0 c.devEp0 with
    | some d =>
      match s.ttOf 5 d with
      | some t => { s with loom := { s.loom with devs := s.loom.devs.map (fun h =>
          if h.ep0 == t.1 then { h with ttClear := some (c.ttPort, c.addr, c.epAddr) } else h) } }
      | none => s
    | none => s

/-- An endpoint halts (R152, R153): its transfer completes with the cause, `HALTED` names it (08_loom_function.md
R201). The records of a failed control transfer are done with; those queued for another handle wait (R153). The halt of an
EP0 ends with its next SETUP (notes/assumptions/31.md). -/
def State.haltEp (s : State) (n status : Nat) : State :=
  let s := s.flushPart n
  match s.ctx? n with
  | some c =>
    let s := (s.completion n status c.xferDone).clearHubTt c
    let spent (c : Ctx) : Ctx := if c.typ == 0 then { c with stored := c.stored.map (fun r => { r with status := 1 }) } else c
    (s.modCtx n (fun c => { spent c with halted := true, split := false })).formEventRec n 3 (toLE 2 status)
  | none => s

/-- A transfer of the handle is open: one in progress, or a stored record that is not acted on. -/
def Ctx.transferOpen (c : Ctx) : Bool := c.xstate != 0 || c.current.isSome

/-- A SETUP record of a device that waited is given up, and what was reserved for it returns (R156, R174). -/
def State.dropLater (s : State) (d : Dev) : State :=
  (if d.swap then s.freeReserve d else s).modDev d.port d.route (fun d => { d with later := none, swap := false })

/-- Every open transfer of a device and of those below it completes with a status (R174). -/
def State.endTransfers (s : State) (d : Dev) (status : Nat) : State :=
  (s.subtree d).foldl (fun s e =>
    (s.loom.ctxs.filter (fun c => c.devEp0 == e.ep0 && c.port == e.port && c.isOpen)).foldl (fun s c =>
      let s := s.flushPart c.num
      (if c.transferOpen then (s.completion c.num status c.xferDone).clearHubTt c else s).settleStored c.num)
      (s.dropLater e)) s

/-- The reset of a device begins (R174). -/
def State.startDevReset (s : State) (d : Dev) : State :=
  (s.endTransfers d wABORT).modDev d.port d.route (fun d => { d with stage := .restore, since := s.dt, errors := 0 })

/-! ### Idle trees (R171, R172) -/

/-- The idle timeout of a port, in 10 ms units: a slot register of the Shuttle that serves it. -/
def State.idleUnits (s : State) (n : Nat) : Nat := s.get .SHT_IDLE (8 * s.shuttleOf n + n % 8)

/-- The resume of a suspended tree starts; in a resume that runs the cause is added; a tree about to be suspended is not. -/
def State.resumeTree (s : State) (n cause : Nat) : State :=
  let p := s.port n
  if p.tree == 1 then s.modPort n (fun p => { p with tree := 0 })
  else if p.tree == 2 then
    s.modPort n (fun p => { p with tree := 3, treeFrom := s.dt, treeRec := false, treeCause := cause })
  else if p.tree == 3 then s.modPort n (fun p => { p with treeCause := bitOr p.treeCause cause })
  else s

/-! ### Service -/

/-- A Shuttle serves the port now: in service, its domain ON, the time clock running, the tree active. -/
def State.served (s : State) (n : Nat) : Bool :=
  (s.serving n).any (fun j => (s.get .SHT_STAT_STATE j == 1 || s.get .SHT_STAT_STATE j == 3) && s.domOn (dSH j))
  && s.flag .PWRD_CLK_TCLK_RUN && s.domOn dDRAM && (s.port n).tree == 0 && !(s.port n).detaching

/-- The microframe of DT (R145). -/
def State.microframe (s : State) : Nat := s.clock / 125000

/-- The next service of a periodic endpoint after now (R147, R150). -/
def Ctx.pollAfter (c : Ctx) (mf : Nat) : Nat :=
  if c.interval == 0 then c.nextPoll else c.nextPoll + c.interval * ((mf - c.nextPoll) / c.interval + 1)

/-- An endpoint is due. -/
def Ctx.due (c : Ctx) (mf : Nat) : Bool := c.interval == 0 || c.nextPoll ≤ mf

/-- The bytes of a full packet, or of the packets of one isochronous interval (R162). -/
def Ctx.fullPacket (c : Ctx) : Nat := if c.isIso then c.maxPacket * (1 + c.mps / 2048 % 4) else c.maxPacket

/-- The handle's share, the free list and its 32,768 unacknowledged records hold room for a full packet, beside the data that
no record holds yet (R164, 01_architecture.md R28, 08_loom_function.md R190). A share counts bytes of payload, the free list
whole pages (notes/assumptions/23.md). -/
def State.hasRoom (s : State) (c : Ctx) : Bool :=
  let after := partPages (c.partData.length + c.fullPacket)
  c.used + c.partData.length + c.fullPacket ≤ c.share
  && s.pagesFree c (max 1 (after - partPages c.partData.length)) && c.recs.length + 2 ≤ 32768

/-- A handle has something to be served in microframe `mf` (R147, R150, R151). -/
def State.wants (s : State) (c : Ctx) (mf : Nat) : Bool :=
  c.isOpen && !c.halted && s.served c.port && (s.devByEp0 c.devEp0).any (fun d => d.stage == .done)
  && (if c.isIso then c.due mf
      else if c.typ == 3 then c.due mf && (if c.isIn then s.hasRoom c else c.current.isSome)
      else if c.typ == 0 then c.xstate != 0
      else if c.isIn then c.readLeft != some 0 && s.hasRoom c
      else c.current.isSome)

/-- The order of service on a port (R147): isochronous, interrupt, control, bulk. -/
def Ctx.rank (c : Ctx) : Nat := if c.isIso then 0 else if c.typ == 3 then 1 else if c.typ == 0 then 2 else 3

/-- The handles of a port that want service in microframe `mf`, in the order of R147: isochronous and interrupt endpoints in
schedule order, then control, then bulk transfers, round robin: a handle that has had its turn in the round comes after the
others of its kind. One that waits for a hub's translator, and a control handle answered `NAK`, passes its turn to every other
for the microframe (DESIGN CHOICE, notes/assumptions/185.md). -/
def State.turns (s : State) (n mf : Nat) : List Nat :=
  let cs := (s.loom.schedule.filterMap s.ctx?).filter (fun c => c.port == n && s.wants c mf)
  let p := s.port n
  let place (c : Ctx) : Nat :=
    (if p.passed.contains c.num then 8 else 0) + 2 * c.rank + (if 2 ≤ c.rank && p.served.contains c.num then 1 else 0)
  (sortBy (fun a b => place a < place b) cs).map (·.num)

/-- The handles of a port that are to want service in the microframe after `mf`, once those due now have been served. -/
def State.turnsNext (s : State) (n mf : Nat) : List Nat :=
  let on (c : Ctx) : Ctx := if c.interval != 0 && c.due mf then { c with nextPoll := c.pollAfter mf } else c
  ({ s with loom := { s.loom with ctxs := s.loom.ctxs.map on } } : State).turns n (mf + 1)

/-- The Shuttle that serves a port holds a handle's context in its cache (R149). -/
def State.cached (s : State) (c : Ctx) : Bool := (s.shut (s.shuttleOf c.port)).cache.contains c.num

/-- The bus time in ns of one service of a handle (notes/assumptions/32.md). -/
def State.turnNs (s : State) (c : Ctx) : Nat :=
  Config.busTime (s.get .PORT_LIFE_SPEED c.port) c.speed c.typ c.isIn (c.maxPacket * (1 + c.mps / 2048 % 4))

/-- The first microframe of the microframe, or below high speed of the frame, over which the limit of periodic service holds. -/
def State.slotOf (s : State) (n mf : Nat) : Nat := if s.get .PORT_LIFE_SPEED n == 3 then mf else mf / 8 * 8

/-- The bus time that periodic service has taken on a port in the slot of microframe `mf`. -/
def State.perUsed (s : State) (n mf : Nat) : Nat :=
  let p := s.port n
  if p.perSlot == s.slotOf n mf then p.perNs else 0

/-- Periodic service stays within 80 % of a high-speed microframe and 90 % of a frame below (R147); one endpoint alone does. -/
def State.periodicRoom (s : State) (c : Ctx) (mf : Nat) : Bool :=
  let used := s.perUsed c.port mf
  2 ≤ c.rank || used == 0 || used + s.turnNs c ≤ (if s.get .PORT_LIFE_SPEED c.port == 3 then 100000 else 900000)

/-- It is the turn of a handle in microframe `mf` (R147): no handle of the port that the Shuttle holds, and that periodic
service leaves room for, comes before it. -/
def State.isTurn (s : State) (c : Ctx) (mf : Nat) : Bool :=
  ((s.turns c.port mf).filterMap s.ctx?).find? (fun d => (s.cached d || d.num == c.num) && s.periodicRoom d mf)
    == s.ctx? c.num

/-- The context cache while Shuttle `j` serves group `g` in microframe `mf` (R146, R149): the slots of endpoints that have
finished are free, and the contexts of the next microframe are fetched into them, at most 32 in a microframe. -/
def State.fetchNext (s : State) (j g mf : Nat) : State :=
  let x := s.shut j
  let ps := groupPorts g
  let nexts := ps.flatMap (fun n => (s.turnsNext n mf).take 4)
  let wants := ps.flatMap (fun n => s.turns n mf)
  let cache := x.cache.filter (fun n => wants.contains n || nexts.contains n)
  let free := 32 - (cache ++ x.next).eraseDups.length
  let more := (nexts.filter (fun n => !(cache ++ x.next).contains n)).take (min free (32 - x.fetched))
  s.modShut j (fun x => { x with cache := cache, next := x.next ++ more, fetched := x.fetched + more.length })

/-- A control or bulk handle has had its turn: a new round begins once every such handle has. Periodic service has taken
its bus time (R147). -/
def State.countTurn (s : State) (c : Ctx) (mf : Nat) : State :=
  if c.rank < 2 then
    let slot := s.slotOf c.port mf
    let ns := s.perUsed c.port mf + s.turnNs c
    s.modPort c.port (fun p => { p with perSlot := slot, perNs := ns })
  else
    let mates := ((s.turns c.port mf).filterMap s.ctx?).filter (fun d => 2 ≤ d.rank)
    let done := c.num :: (s.port c.port).served
    let kept := if mates.all (fun d => done.contains d.num) then
        done.filter (fun m => !mates.any (fun d => d.num == m)) else done
    s.modPort c.port (fun p => { p with served := kept })

/-- A handle has had its turn; its slot of the cache may be free (R147, R149). -/
def State.tookTurn (s : State) (c : Ctx) (mf : Nat) : State :=
  (s.countTurn c mf).fetchNext (s.shuttleOf c.port) (groupOfPort c.port) mf

/-- A handle passes its turn for the rest of the microframe (R147). -/
def State.passTurn (s : State) (c : Ctx) : State :=
  s.modPort c.port (fun p => { p with passed := if p.passed.contains c.num then p.passed else p.passed ++ [c.num] })

end Sys2Proof.Machine
end

