-- ==== Sys2Proof/Machine/ShuttleCmds.lean ====
section
/-! DEFINITION. The events of the Shuttles: microframes, downstream transactions, enumeration, external hubs, context
release, moves, idle trees and device resets (07_shuttle_engines.md R143 to R177). -/

namespace Sys2Proof.Machine

/-! ### Microframes and moves -/

/-- The first isochronous interval of a handle that is still open, and how many have passed unserved before it, in
microframe `mf`. -/
def Ctx.passed (c : Ctx) (mf : Nat) : Nat := if c.interval == 0 || mf ≤ c.nextPoll then 0 else (mf - c.nextPoll) / c.interval

/-- One isochronous interval, by its first microframe, has passed in which nothing was received, or the record due could not
be sent: it completes `MISSED`; an interval with no record stored is an underrun (R151, R152). -/
def State.missInterval (s : State) (n start : Nat) : State :=
  match s.ctx? n with
  | none => s
  | some c =>
    if c.isIn then s.completionAt n wMISSED 0 (start * 125000)
    else match c.current with
      | none => s.modCtx n (fun c => { c with underrun := satAdd c.underrun 1 65535 })
      | some r =>
        if r.dtLow + 250000 ≤ start * 125000 then
          (s.completionAt n wMISSED 0 (start * 125000)).modCtx n (fun c => { c with stored := markDone r.seq c.stored })
        else s

/-- Close the next `k` isochronous intervals of a handle as not served. -/
def State.missNext (s : State) (n : Nat) : Nat → State
  | 0 => s
  | k + 1 =>
    match s.ctx? n with
    | none => s
    | some c =>
      ((s.missInterval n c.nextPoll).modCtx n (fun c => { c with nextPoll := c.nextPoll + c.interval })).missNext n k

/-- The open isochronous handles of a PHY group. -/
def State.isoOf (s : State) (g : Nat) : List Ctx :=
  s.loom.ctxs.filter (fun c => c.isOpen && c.isIso && c.port < 96 && groupOfPort c.port == g)

/-- The intervals of a group's isochronous handles that ended before microframe `mf` without service complete `MISSED` (R151,
R169). -/
def State.closeIntervals (s : State) (g mf : Nat) : State :=
  (s.isoOf g).foldl (fun s c => s.missNext c.num (c.passed mf)) s

/-- The ports of a newly served group in `ENUM_FAILED` with status `TARGET_FENCED` restart enumeration (R170,
05_port_lifecycle.md R117). -/
def State.restartEnums (s : State) (g : Nat) : State :=
  (groupPorts g).foldl (fun s n =>
    if s.mode n == 3 && s.att n == 8 && (s.port n).enumStatus == wTARGET_FENCED then s.startEnum n else s) s

/-! ### SOF, write-back and the context cache (R145, R146, R149, R162) -/

/-- The frame number of a microframe (R145). -/
def frameOf (mf : Nat) : Nat := mf / 8 % 2048

/-- A reset of the device is driven: step 1 of its enumeration, or the reset of R174, which is driven as long (R154). -/
def Dev.inReset (d : Dev) (now : Nat) : Bool :=
  d.stage == .reset || (d.stage == .restore && now < d.since + 50000000 : Bool)

/-- A port's bus has SOF or keep-alives in microframe `mf`: every microframe at high speed, every frame below (R145); none
before its device's reset has ended (R154 step 2), none while the tree is suspended or its resume is driven (R171, R172). -/
def State.sofDue (s : State) (n mf : Nat) : Bool :=
  let sp := s.get .PORT_LIFE_SPEED n
  let p := s.port n
  s.mode n == 3 && (s.att n == 6 || s.att n == 10) && sp != 0 && (sp == 3 || mf % 8 == 0)
  && s.loom.devs.any (fun d => d.port == n && d.tier == 1 && !d.inReset s.dt)
  && (p.tree ≤ 1 || (p.tree == 3 && p.treeRec))

/-- A Shuttle sends SOF with the frame number, or, at low speed, a keep-alive on a port; the first one after a move ends the
port's data pause (R168). -/
def State.sendSof (s : State) (n mf : Nat) : State :=
  if !s.sofDue n mf then s
  else
    let at_ := mf * 125000
    let p := s.port n
    let s := if p.paused && p.lastSof != 0 then
        let us := min ((at_ - p.lastSof) / 1000) 65535
        (s.set .SHF_TKO_PAUSE_PAUSE_US 0 (max us (s.get .SHF_TKO_PAUSE_PAUSE_US))).set .SHF_TKO_PAUSE_PAUSE_MAX_US 0
          (max us (s.get .SHF_TKO_PAUSE_PAUSE_MAX_US))
      else s
    let frame := if s.get .PORT_LIFE_SPEED n == 1 then p.frame else frameOf mf
    s.modPort n (fun p => { p with lastSof := at_, paused := false, frame := frame })

/-- At the end of a microframe the contexts of a Shuttle's group that changed in it are written back to the working channels, at
most 32, those of the cache first; a copy so written equals the context (R149, R162). -/
def State.writeBack (s : State) (j g : Nat) : State :=
  let x := s.shut j
  let copy (n : Nat) : Option Ctx := ((s.workingChans.head?).bind (fun ch => (s.loom.copies.getD ch []).find? (fun d => d.num == n)))
  let live := s.loom.ctxs.filter (fun c => c.port < 96 && groupOfPort c.port == g && copy c.num != some c)
  let back := (live.filter (fun c => x.cache.contains c.num) ++ live.filter (fun c => !x.cache.contains c.num)).take 32
  { s with loom := { s.loom with copies := s.loom.copies.zipIdx.map (fun lc =>
      if s.workingChans.contains lc.2 then lc.1.filter (fun c => !back.any (fun d => d.num == c.num)) ++ back else lc.1) } }

/-- Shuttle `j` passes into microframe `mf` (R146, R149): its window holds the handles of this microframe and the next, its
cache those of each port that want service now, at most four of them (01_architecture.md R29, R162). A context in use, or
fetched in the microframe before, has its slot; the others are fetched now, and the last `late` of them not in time. The rest
are put off. What is left of the 32 slots and of the 32 fetches goes to the contexts of the next microframe (`fetchNext`). -/
def State.fillCache (s : State) (j g mf late : Nat) : ShutH :=
  let x := s.shut j
  let ps := groupPorts g
  let ts := ps.map (fun n => s.turns n mf)
  let nexts := ps.map (fun n => s.turnsNext n mf)
  let take := (ts.map (fun l => l.take 4)).flatten
  let new := take.filter (fun n => !(x.cache ++ x.next).contains n)
  let cache := take.filter (fun n => !(new.drop (new.length - late)).contains n)
  { x with
    lastMf := mf, lastSof := mf * 125000, window := (ts.flatten ++ nexts.flatten).eraseDups, cache := cache,
    next := [], fetched := new.length - late, put := ts.flatten.filter (fun n => !cache.contains n),
    staging := List.replicate 8 [], ahead := List.replicate 8 [] }

/-- Polling of an interrupt IN handle pauses over an interval that finds its share full (R150). -/
def State.pausePolls (s : State) (g mf : Nat) : State :=
  (s.loom.ctxs.filter (fun c => c.isOpen && c.typ == 3 && c.isIn && c.port < 96 && groupOfPort c.port == g && c.due mf
    && !s.hasRoom c)).foldl (fun s c => s.modCtx c.num (fun c => { c with nextPoll := c.pollAfter mf })) s

/-- `CTX_DEFER` is raised once per frame with the count of that frame, when it has ended (R149, R176). -/
def State.noteDefer (s : State) (j g mf k : Nat) : State :=
  let x := s.shut j
  let f := mf / 8
  let s := if x.deferCnt != 0 && x.deferFrame != f then s.shutEvent j 10 0 255 g 0 x.deferCnt else s
  s.modShut j (fun x => { x with
    deferFrame := f, deferCnt := if x.deferFrame == f then x.deferCnt + k else k })

/-- The suspending trees of a group are suspended: SOF stops (R171). -/
def State.suspendTrees (s : State) (g : Nat) : State :=
  (groupPorts g).foldl (fun s n =>
    if (s.port n).tree == 1 then
      (s.modPort n (fun p => { p with tree := 2, treeCause := 0 })).shutEvent (s.shuttleOf n) 7 0 n (groupOfPort n) 0 0
    else s) s

/-- A serving Shuttle passes into microframe `mf`: write-back, the SOFs, the intervals that have ended, and the contexts of
the microframe. -/
def State.newMicroframe (s : State) (j g mf late : Nat) : State :=
  let s := (((s.writeBack j g).suspendTrees g).closeIntervals g mf).pausePolls g mf
  let s := (groupPorts g).foldl (fun s n => (s.sendSof n mf).modPort n (fun p => { p with passed := [] })) s
  let x := s.fillCache j g mf late
  ((s.modShut j (fun _ => x)).fetchNext j g mf).noteDefer j g mf x.put.length

/-- A Shuttle sends its first SOF after a move (R168 step 4, R170); the spare it takes the group back from has written back
every context. The ports' idle timeouts come from the spare that served them, else from their committed state. -/
def State.endMove (s : State) (t g late : Nat) : State :=
  let x := s.shut t
  let wasServing := x.back && s.get .SHT_STAT_PHYG 12 == g && s.get .SHT_STAT_STATE 12 == 3
  let s := if wasServing then s.writeBack 12 g else s
  let s := (groupPorts g).foldl (fun s n => s.modPort n (fun p => { p with paused := true }))
    (s.set .SHF_TKO_PAUSE_PAUSE_US 0 0)
  let s := s.copyIdle (if wasServing then 12 else g) t
  let s := (s.set .SHT_STAT_STATE t (if t == 12 then 3 else 1)).modShut t (fun x => { x with
    moveFrom := none, confirm := true })
  let s := if wasServing then s.becomeSpare else s
  ((s.newMicroframe t g s.microframe late).noteShuttle t).restartEnums g

/-- R145, R149, R168: a microframe boundary of a Shuttle: an SOF; a Shuttle that takes a group over sends its first one once
the group's state is loaded and 60 µs have passed, one that takes it back from SH12 at the next boundary at which SH12 has
finished its microframe (R170). -/
def execMicroframeBoundary (shuttle late : Nat) (s : State) : Host.Outcome State Fault Refusal :=
  let mf := s.microframe
  let x := s.shut shuttle
  let st := s.get .SHT_STAT_STATE shuttle
  let g := s.get .SHT_STAT_PHYG shuttle
  if 13 ≤ shuttle || !s.domOn (dSH shuttle) || !s.flag .PWRD_CLK_TCLK_RUN || mf ≤ x.lastMf then .next s
  else if st == 5 then
    match x.moveFrom with
    | none => .next s
    | some t =>
      let fromSpare := x.back && s.get .SHT_STAT_PHYG 12 == g && s.get .SHT_STAT_STATE 12 == 3
      let wait := if fromSpare then 1 else 60000
      if x.loaded && t + s.stepped + wait ≤ mf * 125000 && (!fromSpare || (s.shut 12).lastMf < mf) then
        .next (s.endMove shuttle g late)
      else .next s
  else if st == 1 || st == 3 then .next (s.newMicroframe shuttle g mf late)
  else .next s

/-- R168 step 3: the Shuttle that takes a group over has read its committed state. -/
def execSpareLoaded (shuttle : Nat) (s : State) : Host.Outcome State Fault Refusal :=
  if shuttle < 13 && s.get .SHT_STAT_STATE shuttle == 5 && s.domOn (dSH shuttle) then
    .next (s.modShut shuttle (fun x => { x with loaded := true }))
  else .next s

/-- R168 step 5, R170: firmware confirms a move: the ports' `SHUTTLE`, the events and `SHF_TKO`. -/
def execTakeoverConfirm (shuttle : Nat) (s : State) : Host.Outcome State Fault Refusal :=
  let x := s.shut shuttle
  let g := s.get .SHT_STAT_PHYG shuttle
  if shuttle < 13 && x.confirm && g < 12 && !s.safeHold then
    let s := s.modShut shuttle (fun x => { x with confirm := false })
    let s := (groupPorts g).foldl (fun s n => s.set .PORT_LIFE_SHUTTLE n shuttle) s
    let s := ((s.set .SHF_TKO_FROM 0 x.from_).set .SHF_TKO_TO 0 shuttle).set .SHF_TKO_PHYG 0 g
    let s := s.count .SHF_TKO_TKO_CNT 0
    if shuttle == 12 then .next ((s.shutEvent x.from_ 0 0 255 g 0 0).shutEvent 12 1 0 255 g 0 0)
    else .next (s.shutEvent shuttle 2 0 255 g 0 0)
  else .next s

/-! ### Downstream transactions (R147 to R153, R167) -/

/-- A data packet of a bulk IN handle (08_loom_function.md R197): the record closes at a short packet, at 16,368 bytes,
or with the read credit. -/
def State.bulkIn (s : State) (c : Ctx) (data : List Nat) : State :=
  let read := (c.inRead + data.length) % 2 ^ 32
  let short := decide (data.length < c.maxPacket)
  let st := if short then wSHORT else wOK
  let last := short || { c with inRead := read }.readLeft == some 0
  let s := s.modCtx c.num (fun c => { c with
    toggle := 1 - c.toggle, xstate := 2, xferDone := c.xferDone + data.length, inRead := read,
    epoch := c.epoch + 1, errRun := 0 })
  let s := s.placeIn c.num data last
  if last then (s.endIn c.num st).completion c.num st (c.xferDone + data.length) else s

/-- A data packet of an interrupt or isochronous IN handle at its interval (R150, R151): an isochronous record carries the
DT of the start of its interval (R152). -/
def State.periodicIn (s : State) (c : Ctx) (data : List Nat) : State :=
  let mf := s.microframe
  let start := c.nextPoll + c.passed mf * c.interval
  let s := s.missNext c.num (if c.isIso then c.passed mf else 0)
  let s := s.modCtx c.num (fun c => { c with
    toggle := if c.isIso then c.toggle else 1 - c.toggle, nextPoll := c.pollAfter mf, epoch := c.epoch + 1, errRun := 0 })
  let s := s.treeActive c.port
  if c.isIso then (s.formAt c.num 0 1 wOK data (start * 125000)).noteXfer c data.length
  else
    let short := decide (data.length < c.maxPacket)
    (s.formRec c.num 0 1 (if short then wSHORT else wOK) data).completion c.num (if short then wSHORT else wOK)
      data.length

/-- A data packet of the data stage of a control transfer (08_loom_function.md R198). -/
def State.controlIn (s : State) (c : Ctx) (data : List Nat) : State :=
  if c.xstate != 2 || c.setup.getD 0 0 < 128 || !s.hasRoom c then s
  else
    let total := c.xferDone + data.length
    let done := decide (data.length < c.maxPacket) || decide (c.xferLen ≤ total)
    let s := s.modCtx c.num (fun c => { c with
      toggle := 1 - c.toggle, xferDone := total, xstate := if done then 3 else 2, epoch := c.epoch + 1, errRun := 0 })
    let s := s.placeIn c.num data done
    if done && total != 0 then s.endIn c.num wOK else s

/-- The device accepted an OUT packet of `n` bytes (R167): the record in progress, its end, and the end of the transfer
with its zero-length packet where `ZLP` asks for one (08_loom_function.md R185). -/
def State.outPacket (s : State) (c : Ctx) (n : Nat) : State :=
  match c.current with
  | none => s
  | some r =>
    let left := r.data.length - c.recOff
    let zlp := bit r.flags 2 && r.flags % 2 == 1 && c.recOff == r.data.length && r.data.length != 0
    if r.typ != 0 || (c.typ == 0 && c.xstate != 2) || n != min c.maxPacket left
        || (left == 0 && r.data.length != 0 && !zlp) then s
    else
      let off := c.recOff + n
      let total := c.xferDone + n
      let wantZlp := off == r.data.length && r.flags % 2 == 1 && bit r.flags 2 && 0 < n && total % max c.maxPacket 1 == 0
      let done := off == r.data.length && !wantZlp
      let s := s.modCtx c.num (fun c => { c with
        toggle := 1 - c.toggle, xferDone := total, outSeq := r.seq, recOff := if done then 0 else off, xstate := 2,
        epoch := c.epoch + 1, errRun := 0, stored := if done then markDone r.seq c.stored else c.stored })
      if !done || r.flags % 2 == 0 then s
      else if c.typ == 0 then s.modCtx c.num (fun c => { c with xstate := 3 })
      else s.completion c.num wOK total

/-- An isochronous OUT interval (R151): the next record, stored at least 250 µs before its start, is sent. -/
def State.isoOut (s : State) (c : Ctx) (n : Nat) : State :=
  let mf := s.microframe
  let start := c.nextPoll + c.passed mf * c.interval
  let s := s.missNext c.num (c.passed mf)
  match (s.ctx? c.num).bind Ctx.current with
  | some r =>
    if n == r.data.length && r.dtLow + 250000 ≤ start * 125000 then
      (s.modCtx c.num (fun c => { c with
        stored := markDone r.seq c.stored, outSeq := r.seq, nextPoll := c.pollAfter mf, errRun := 0 })).noteXfer c n
    else s
  | none => s

/-- An isochronous interval in which nothing was received, or nothing could be sent (R151, R152). -/
def State.isoMiss (s : State) (c : Ctx) : State :=
  if !c.isIso || !c.due s.microframe then s else s.missNext c.num (c.passed s.microframe + 1)

/-- A periodic endpoint's first microframe at or after `mf` (R149): the first at which the port's other periodic endpoints
that ever fall together with it are at most three, so that no microframe holds more than four; where there is none, `mf`
itself. -/
def State.spreadFrom (s : State) (n num ival mf : Nat) : Nat :=
  let others := s.loom.ctxs.filter (fun c => c.port == n && c.num != num && c.isOpen && c.interval != 0)
  let meets (m : Nat) (c : Ctx) : Bool := (m + c.interval * (c.nextPoll / c.interval + 1) - c.nextPoll) % Nat.gcd ival c.interval == 0
  mf + ((List.range (min ival 64)).find? (fun o => (others.filter (meets (mf + o))).length ≤ 3)).getD 0

/-- The endpoints that a configuration, or one interface in an alternate setting, selects are opened, and those it
leaves are closed (R150, R156); a periodic endpoint takes part from the first frame at least 1 ms on (R148), its port's spread
across microframes (R149). -/
def State.openSelected (s : State) (d : Dev) (sel : List EpDesc) : State :=
  let frame := (s.clock + 1000000 + 999999) / 1000000
  sel.foldl (fun s e =>
    match s.loom.ctxs.find? (fun c => c.devEp0 == d.ep0 && c.port == d.port && c.num != d.ep0 && c.epAddr == e.addr
        && !c.closing) with
    | some c =>
      let ival := serviceInterval d.speed e.typ e.ival
      (s.modCtx c.num (fun c => { c with
        typ := e.typ, mps := e.mps, interval := ival, nextPoll := s.spreadFrom d.port c.num ival (8 * frame) })).openHandle c.num
    | none => s) s

def State.closeSelected (s : State) (d : Dev) (p : Ctx → Bool) : State :=
  (s.loom.ctxs.filter (fun c => c.devEp0 == d.ep0 && c.port == d.port && c.num != d.ep0 && c.isOpen && p c)).foldl
    (fun s c => s.shutHandle c.num wABORT) s

/-- The effect of a control request that the device has accepted (R150, R153, R156). -/
def State.requestDone (s : State) (d : Dev) (setup : List Nat) (cfg : List Nat) : State :=
  let rt := setup.getD 0 0
  let rq := setup.getD 1 0
  let v := leAt setup 2 2
  let i := leAt setup 4 2
  if rt == 0 && rq == 9 then
    let s := s.closeSelected d (fun _ => true)
    let s := s.modDev d.port d.route (fun d => { d with
      alts := [], altConfig := if v % 256 == 1 then [] else d.altConfig })
    if v % 256 == 0 then s else s.openSelected d ((endpointsOf cfg).filter (fun e => e.alt == 0))
  else if rt == 1 && rq == 11 then
    let old := ((endpointsOf cfg).filter (fun e => e.iface == i)).map (·.addr)
    let s := s.closeSelected d (fun c => old.contains c.epAddr)
    let s := s.modDev d.port d.route (fun d => { d with alts := (d.alts.filter (fun a => a.1 != i)) ++ [(i, v)] })
    s.openSelected d ((endpointsOf cfg).filter (fun e => e.iface == i && e.alt == v))
  else if rt == 2 && rq == 1 && v == 0 then
    match s.loom.ctxs.find? (fun c => c.devEp0 == d.ep0 && c.port == d.port && c.num != d.ep0 && c.epAddr == i % 256
        && !c.closing) with
    | some c => s.modCtx c.num (fun c => { c with halted := false, toggle := 0 })
    | none => s
  else s

/-- The configuration descriptors that apply to a device's endpoints now: configuration 1, or the one that R156 read. -/
def Dev.activeConfig (d : Dev) (setup : List Nat) : List Nat :=
  if d.altConfig.isEmpty || (setup.getD 1 0 == 9 && leAt setup 2 2 % 256 == 1) then d.config else d.altConfig

/-- The status stage of a control transfer succeeded: its COMPLETION, and the request's effect. -/
def State.controlDone (s : State) (c : Ctx) : State :=
  if c.xstate != 3 then s
  else
    let st := if 128 ≤ c.setup.getD 0 0 && c.xferDone < c.xferLen then wSHORT else wOK
    let s := s.modCtx c.num (fun c => { c with errRun := 0, epoch := c.epoch + 1 })
    let s := s.completion c.num st c.xferDone
    match s.devByEp0 c.num with
    | some d => s.requestDone d c.setup (d.activeConfig c.setup)
    | none => s

/-- Three consecutive transaction errors halt the endpoint; on EP0 they start a reset of the device (R152, R174). -/
def State.transactionError (s : State) (c : Ctx) : State :=
  let s := s.count .SHT_ERR_XACT_ERR_CNT (s.shuttleOf c.port)
  let s := s.modCtx c.num (fun c => { c with errors := satAdd c.errors 1 65535, errRun := c.errRun + 1 })
  if c.errRun + 1 < 3 then s
  else
    let s := (s.modCtx c.num (fun c => { c with errRun := 0 })).haltEp c.num wXACT_ERR
    if c.typ == 0 then
      (match s.devByEp0 c.num with | some d => s.startDevReset d | none => s)
    else s

/-- What the Shuttle stages of a port in its SRAM: the packet in flight, and the first bytes of the one after it (R146). -/
def State.stagePacket (s : State) (n : Nat) (data ahead : List Nat) : State :=
  s.modShut (s.shuttleOf n) (fun x => { x with
    staging := x.staging.set (n % 8) (data.take 1024), ahead := x.ahead.set (n % 8) (ahead.take 512) })

/-- The packet of `n` bytes that an OUT handle sends, staged with the next of its record. -/
def State.stageOut (s : State) (c : Ctx) (n : Nat) : State :=
  match c.current with
  | some r => s.stagePacket c.port ((r.data.drop c.recOff).take n) ((r.data.drop (c.recOff + n)).take c.maxPacket)
  | none => s

/-- A transaction of a handle at its turn ends (R150 to R153, R167). -/
def State.transact (s : State) (c : Ctx) (txn : Txn) : State :=
  match txn with
  | .inData data =>
    let s := s.stagePacket c.port data []
    if !c.isIn then s
    else if c.fullPacket < data.length then s.haltEp c.num wBABBLE
    else if c.typ == 0 then s.controlIn c data
    else if !s.hasRoom c then s
    else if c.typ == 2 then s.bulkIn c data
    else s.periodicIn c data
  | .outAck n =>
    let s := s.stageOut c n
    if c.typ == 1 then (if c.isIn then s else s.isoOut c n)
    else if c.typ == 0 || c.epAddr < 128 then s.outPacket c n else s
  | .setupAck =>
    if c.typ == 0 && c.xstate == 1 then
      s.modCtx c.num (fun c => { c with
        xstate := if c.xferLen == 0 then 3 else 2, toggle := 1, epoch := c.epoch + 1, errRun := 0
        stored := match c.current with | some r => markDone r.seq c.stored | none => c.stored })
    else s
  | .statusOk => if c.typ == 0 then s.controlDone c else s
  | .nak => if c.isIso then s
    else
      let s := s.modCtx c.num (fun c => { c with nextPoll := c.pollAfter s.microframe, errRun := 0 })
      if c.typ == 0 then s.passTurn c else s
  | .stall => if c.isIso then s else s.haltEp c.num wSTALL
  | .babble => s.haltEp c.num wBABBLE
  | .error => if c.isIso then s.isoMiss c else s.transactionError c
  | .isoMissed => s.isoMiss c
  | .hubConnect _ | .hubDisconnect _ | .startSplit | .nyet => s

/-- An endpoint that is not in the cache at its turn is served in the next microframe, for which its context is fetched; it
is counted once (R149). -/
def State.putOff (s : State) (c : Ctx) : State :=
  let j := s.shuttleOf c.port
  let x := s.shut j
  if x.put.contains c.num then s
  else
    let room := decide ((x.next.filter (fun n => (s.ctx? n).any (fun d => d.port == c.port))).length < 4)
      && decide ((x.cache ++ x.next).eraseDups.length < 32) && decide (x.fetched < 32) && !x.next.contains c.num
    (s.modShut j (fun x => { x with
      put := x.put ++ [c.num], next := if room then x.next ++ [c.num] else x.next
      fetched := if room then x.fetched + 1 else x.fetched })).noteDefer j (groupOfPort c.port) s.microframe 1

/-- A transaction at the turn of a handle whose context is in the cache. An endpoint served by the transaction translator of
a hub has its result after a start split, and none with `NYET`: both pass the turn on until the next microframe (R147), and
the handle's service ends with the result. -/
def State.serveTurn (s : State) (c : Ctx) (d : Dev) (txn : Txn) : State :=
  let split := (s.ttOf 5 d).isSome
  match txn with
  | .startSplit => if split then (s.modCtx c.num (fun c => { c with split := true })).passTurn c else s
  | .nyet => if split then s.passTurn c else s
  | txn =>
    if split && !c.split && !(c.isIso && (txn == .isoMissed || txn == .error)) then s
    else ((s.modCtx c.num (fun c => { c with split := false })).transact c txn).tookTurn c s.microframe

/-- R167, R152, R147, R149: a transaction on the bus of a served port ends; its data and transfer state are committed. `ctx`
is the endpoint's context, which the Shuttle serves at its turn from its cache; for what a hub's status endpoint reports,
one of the hub's contexts. -/
def execDownstreamTransaction (ctx : Nat) (txn : Txn) (s : State) : Host.Outcome State Fault Refusal :=
  match s.ctx? ctx with
  | none => .next s
  | some c =>
    match s.devByEp0 c.devEp0 with
    | none => .next s
    | some d =>
      if !s.served c.port || d.stage != .done then .next s
      else match txn with
        | .hubConnect p => .next (if d.isHub && !s.safeHold then s.hubPortConnect d p else s)
        | .hubDisconnect p =>
          .next (match s.loom.devs.find? (fun e => e.port == d.port && e.parent == d.ep0 && e.hubPort == p) with
            | some e => (s.devGone e).poolService
            | none => s)
        | txn =>
          if !s.isTurn c s.microframe || c.recs.length + 3 > 32768 then .next s
          else if !s.cached c then .next (s.putOff c)
          else .next (s.serveTurn c d txn)

/-! ### Enumeration (R154 to R163) -/

/-- Enumeration runs on a port's tree: firmware is there (R121, R125), the port is `TERMINATED`, in `ENUMERATE` or, for the
devices below hubs and for device resets, `PRESENTED`, no logical detach runs (05_port_lifecycle.md R109, R110), and a
Shuttle serves it, which runs only while the time clock does (R145). -/
def State.enumRuns (s : State) (n : Nat) : Bool :=
  !s.safeHold && !(s.port n).restart && s.mode n == 3 && (s.att n == 6 || s.att n == 10) && !(s.port n).detaching
  && (s.serving n).any (fun j => (s.get .SHT_STAT_STATE j == 1 || s.get .SHT_STAT_STATE j == 3) && s.domOn (dSH j))
  && s.flag .PWRD_CLK_TCLK_RUN

/-- Step 2: the 50 ms bus reset has ended and the speed (1 low, 2 full, 3 high) is known; `SPEED` stays until the next
enumeration (notes/assumptions/125.md). -/
def execEnumResetEnd (port route speed : Nat) (s : State) : Host.Outcome State Fault Refusal :=
  match s.dev? port route with
  | some d =>
    if s.enumRuns port && d.stage == .reset && d.since + 50000000 ≤ s.dt && 1 ≤ speed && speed ≤ 3 then
      let s := s.modDev port route (fun d => { d with stage := .recovery, since := s.dt, speed := speed })
      let s := s.modCtx d.ep0 (fun c => { c with
        speed := speed, mps := ep0Mps speed, ttPort := s.ttPortOf speed d.hubPort (s.devByEp0 d.parent) })
      .next (if d.tier == 1 then s.set .PORT_LIFE_SPEED port speed else s)
    else .next s
  | none => .next s

/-- Step 3: the 10 ms recovery has ended; the first request is issued. -/
def execEnumRecoveryEnd (port route : Nat) (s : State) : Host.Outcome State Fault Refusal :=
  match s.dev? port route with
  | some d =>
    if s.enumRuns port && d.stage == .recovery && d.since + 10000000 ≤ s.dt then .next (s.enumRequest d .dev8)
    else .next s
  | none => .next s

/-- What a request's answer leaves in the device's record and its EP0 context. The cache holds at most 8 KiB (R155); a hub
has been configured, in alternate setting 1 where it offers one, and its ports powered (R154 step 6). -/
def State.enumStore (s : State) (d : Dev) (r : EnumReq) (ok : Bool) (data : List Nat) : State :=
  let put (f : Dev → Dev) : State := s.modDev d.port d.route f
  let str (i : Nat) : State := put (fun d => { d with
    strings := d.strings.set i (if ok && data.length ≤ d.room then some data else none) })
  match r with
  | .dev8 => s.modCtx d.ep0 (fun c => { c with mps := data.getD 7 64 })
  | .setAddress => s
  | .devFull => put (fun d => { d with devDesc := data })
  | .cfgHead => s
  | .cfgFull => put (fun d => { d with config := data, truncated := decide (7168 < data.length) })
  | .bos => put (fun d => { d with bos := data.take d.room })
  | .string0 => put (fun d => { d with lang := if ok then leAt data 2 2 else 0 })
  | .manufacturer => str 0
  | .product => str 1
  | .serial => str 2
  | .hubSetup => put (fun d => { d with
    need := data.getD 5 0, cfgVal := 1, hubAlt := b2n (offersAlt1 d.config),
    powered := (List.range (data.getD 2 0)).map (· + 1) })

/-- The bounds of an attempt have not expired: 50 ms of `SET_ADDRESS`, 500 ms of another request of steps 3 and 5, 2 s of the
attempt; an answer at the bound itself is late (00_scope.md R13). -/
def Dev.inTime (d : Dev) (r : EnumReq) (now : Nat) : Bool :=
  now < d.attempt + 2000000000
  && (r == .hubSetup || now < d.since + (if r == .setAddress then 50000000 else 500000000) : Bool)

/-- Steps 3 to 6: a request ends in time with a completion status and its data (for the hub's own step, its hub descriptor).
A failed string is absent; any other failure of steps 3 to 5 fails the attempt. The transaction errors of one that ends in
`XACT_ERR` are counted (R177). -/
def execEnumRequestComplete (port route status : Nat) (data : List Nat) (s : State) : Host.Outcome State Fault Refusal :=
  match s.dev? port route with
  | none => .next s
  | some d =>
    match d.stage with
    | .request r =>
      let ok := status == wOK || status == wSHORT
      let s := if s.enumRuns port && d.inTime r s.dt && status == wXACT_ERR && r != .hubSetup then
          (s.count .SHT_ERR_XACT_ERR_CNT (s.shuttleOf port) 3).modCtx d.ep0 (fun c => { c with errors := satAdd c.errors 3 65535 })
        else s
      if !s.enumRuns port || !d.inTime r s.dt then .next s
      else if !ok && !(status == wSTALL || status == wBABBLE || status == wXACT_ERR) then .next s
      else if !ok && r == .hubSetup then .next s
      else if !ok && !r.isString then .next (s.attemptFailed d status).poolService
      else if r == .setAddress then
        match s.freeAddr port with
        | none => .next (s.devRejected d 2).poolService
        | some a =>
          let s := s.modCtx d.ep0 (fun c => { c with addr := a })
          .next (s.modDev port route (fun d => { d with addr := a, stage := .addrWait, since := s.dt }))
      else
        let s := s.enumStore d r ok data
        if r == .devFull && d.tier == 5 && data.getD 4 0 == 9 then .next (s.devRejected { d with devDesc := data } 1).poolService
        else if r == .hubSetup then .next (s.modDev port route (fun d => { d with stage := .powerWait, since := s.dt }))
        else .next (s.enumNext port route r)
    | _ => .next s

/-- Steps 4 and 6: the 2 ms after `SET_ADDRESS`, or `bPwrOn2PwrGood`, have passed. -/
def execEnumWaitEnd (port route : Nat) (s : State) : Host.Outcome State Fault Refusal :=
  match s.dev? port route with
  | some d =>
    if !s.enumRuns port || d.attempt + 2000000000 ≤ s.dt then .next s
    else if d.stage == .addrWait && d.since + 2000000 ≤ s.dt then .next (s.enumRequest d .devFull)
    else if d.stage == .powerWait && d.since + 2000000 * d.need ≤ s.dt then
      .next (s.modDev port route (fun d => { d with stage := .step7, since := s.dt }))
    else .next s
  | none => .next s

/-- A request of step 3 or 5 is not complete within 500 ms: the attempt fails, but a string is cached as absent
(notes/assumptions/121.md). -/
def execEnumRequestTimeout (port route : Nat) (s : State) : Host.Outcome State Fault Refusal :=
  match s.dev? port route with
  | some d =>
    match d.stage with
    | .request r =>
      if s.enumRuns port && r != .setAddress && r != .hubSetup && d.since + 500000000 ≤ s.dt then
        (if r.isString then .next ((s.enumStore d r false []).enumNext port route r)
         else .next (s.attemptFailed d wENUM_TIMEOUT).poolService)
      else .next s
    | _ => .next s
  | none => .next s

/-- `SET_ADDRESS` is not complete within 50 ms. -/
def execSetAddressTimeout (port route : Nat) (s : State) : Host.Outcome State Fault Refusal :=
  match s.dev? port route with
  | some d =>
    if s.enumRuns port && d.stage == .request .setAddress && d.since + 50000000 ≤ s.dt then
      .next (s.attemptFailed d wENUM_TIMEOUT).poolService
    else .next s
  | none => .next s

/-- An attempt under way is not at step 7. -/
def EnumStage.beforeStep7 : EnumStage → Bool
  | .reset | .recovery | .request _ | .addrWait | .powerWait => true
  | .step7 | .retryWait | .poolWait | .failed | .rejected | .done | .restore => false

/-- An attempt is not at step 7 within 2 s of its bus reset's start. -/
def execEnumAttemptTimeout (port route : Nat) (s : State) : Host.Outcome State Fault Refusal :=
  match s.dev? port route with
  | some d =>
    if s.enumRuns port && d.stage.beforeStep7 && d.attempt + 2000000000 ≤ s.dt then
      .next (s.attemptFailed d wENUM_TIMEOUT).poolService
    else .next s
  | none => .next s

/-- The 100 ms before the next attempt have passed. -/
def execEnumRetryWaitEnd (port route : Nat) (s : State) : Host.Outcome State Fault Refusal :=
  match s.dev? port route with
  | some d =>
    if s.enumRuns port && d.stage == .retryWait && d.since + 100000000 ≤ s.dt then .next (s.beginAttempt d) else .next s
  | none => .next s

/-- Step 7. -/
def execEnumerationComplete (port route : Nat) (s : State) : Host.Outcome State Fault Refusal :=
  match s.dev? port route with
  | some d => if s.enumRuns port && d.stage == .step7 then .next (s.enumDone d).poolService else .next s
  | none => .next s

/-! ### Idle trees (R171, R172) -/

/-- R171: the idle timeout of a tree expires: unless it holds an open isochronous handle or a device with an open
interrupt IN handle that cannot wake, remote wake is enabled on its capable devices with such a handle and the tree is
suspended from the next microframe on; else it is checked again after another period. -/
def execTreeIdleTimeout (port : Nat) (s : State) : Host.Outcome State Fault Refusal :=
  let p := s.port port
  let u := s.idleUnits port
  if port < 96 && s.att port == 10 && s.served port && u != 0 && p.treeAct + 10000000 * u ≤ s.dt then
    let cs := s.loom.ctxs.filter (fun c => c.port == port && c.isOpen)
    if cs.any (fun c => c.isIso || (c.typ == 3 && c.isIn && !c.rwake)) then .next (s.treeActive port)
    else
      let woken (d : Dev) : Bool := d.port == port && cs.any (fun c => c.devEp0 == d.ep0 && c.typ == 3 && c.isIn)
      let s := { s with loom := { s.loom with devs := s.loom.devs.map (fun d =>
        if woken d then { d with rwakeOn := true } else d) } }
      .next (s.modPort port (fun p => { p with tree := 1 }))
  else .next s

/-- R172: a device drives resume on a suspended tree, or inside a resume that runs; on a port in a data mode it is a wake
source of bit 2 (13_power_domains.md R321). -/
def execDeviceResumeSignal (port : Nat) (s : State) : Host.Outcome State Fault Refusal :=
  if port < 96 then
    let s := if 2 ≤ s.mode port then s.wake 2 (s.attachDomains port) else s
    .next (s.resumeTree port 2)
  else .next s

/-- R172: the 20 ms of resume end; SOF restarts and the 10 ms recovery begins. -/
def execTreeResumeEnd (port : Nat) (s : State) : Host.Outcome State Fault Refusal :=
  let p := s.port port
  if p.tree == 3 && !p.treeRec && p.treeFrom + 20000000 ≤ s.dt then
    .next (s.modPort port (fun p => { p with treeRec := true, treeFrom := s.dt }))
  else .next s

/-- R172: the recovery ends: `TREE_RESUMED` with its causes. -/
def execTreeRecoveryEnd (port : Nat) (s : State) : Host.Outcome State Fault Refusal :=
  let p := s.port port
  if p.tree == 3 && p.treeRec && p.treeFrom + 10000000 ≤ s.dt then
    let s := s.modPort port (fun p => { p with tree := 0, treeRec := false, treeAct := s.dt })
    .next (s.shutEvent (s.shuttleOf port) 8 0 port (groupOfPort port) 0 p.treeCause)
  else .next s

end Sys2Proof.Machine
end

