-- ==== Sys2Proof/Machine/LoomCmds.lean ====
section
/-! DEFINITION. The Loom function: its transfers and records, configuration, suspend and wake (08_loom_function.md R178
to R210; 07_shuttle_engines.md R148, R155, R156 for SETUP records). -/

namespace Sys2Proof.Machine

/-! ### OUT transfers (R182, R183, R193) -/

/-- The record at the front of a byte string, and the bytes after it; none where its header or payload runs past the
end. -/
def parseRec (bs : List Nat) : Option (WRec × List Nat) :=
  let w0 := leAt bs 0 4
  let len := leAt bs 4 2
  if bs.length < 16 + len then none
  else
    some ({ handle := bits w0 0 20, typ := bits w0 20 4, flags := bits w0 24 8, seq := leAt bs 6 2, burst := bs.getD 8 0,
            bcount := bs.getD 9 0, status := leAt bs 10 2, dtLow := leAt bs 12 4, data := (bs.drop 16).take len },
          bs.drop (16 + (len + 15) / 16 * 16))

/-- The records of a transfer up to the first framing error, and whether there was one. -/
def parseRecs : Nat → List Nat → List WRec × Bool
  | 0, bs => ([], !bs.isEmpty)
  | n + 1, bs =>
    if bs.isEmpty then ([], false)
    else match parseRec bs with
      | none => ([], true)
      | some (r, rest) => let q := parseRecs n rest; (r :: q.1, q.2)

/-- The bytes of a lane's buffer in each direction (R181). -/
def laneBuffer (l : Nat) : Nat := if l == 8 then 49152 else 16384

/-- A lane carries transfers: configured, its setting selected, the link up, the domains ON. -/
def State.laneOpen (s : State) (l : Nat) : Bool :=
  l < 9 && s.flag .LOOMS_STAT_CONFIGURED && (l < 8 || s.flag .LOOMS_STAT_ALT) && s.domOn dLOOM && s.domOn dDRAM
  && !s.loomSuspended

/-- R182, R193: a lane OUT transfer ends and its buffer passes to the DMA; while the DMA owns the buffer the endpoint
answers NRDY. -/
def execLaneOutTransfer (lane : Nat) (bytes : List Nat) (s : State) : Host.Outcome State Fault Refusal :=
  if !s.laneOpen lane || laneBuffer lane < bytes.length then .next s
  else if s.flag .LOOMS_LANE_OUT_DMA lane then .next (s.count .LOOMS_LANE_NRDY_CNT lane)
  else
    let q := parseRecs bytes.length (bytes.map (· % 256))
    let s := (s.hostAccess.set .LOOMS_LANE_OUT_DMA lane 1).modLane lane (fun l => { l with inbox := q.1, refused := [] })
    .next (if q.2 then s.loomEvent 7 else s)

/-- R182: the DMA has stored the buffer; it returns to the link. -/
def execOutDmaComplete (lane : Nat) (s : State) : Host.Outcome State Fault Refusal :=
  if lane < 9 && (s.lane lane).inbox.isEmpty then .next (s.set .LOOMS_LANE_OUT_DMA lane 0) else .next s

/-! ### The checks of R193 -/

/-- The type and length check: fails `BAD_RECORD`. -/
def recShapeOk (lane : Nat) (r : WRec) : Bool :=
  r.flags < 16 &&
  (if r.typ == 0 then r.data.length + 16 ≤ laneBuffer lane
   else if r.typ == 1 then r.data.length == 8
   else if r.typ == 2 || r.typ == 4 then r.data.isEmpty
   else if r.typ == 5 then r.data.isEmpty || r.data.length == 8
   else r.typ == 6 && r.data.length == 8)

/-- The handle check: the context, or `BAD_HANDLE`. The host may acknowledge the records of a handle that has closed
(R201). -/
def State.handleCtx (s : State) (lane : Nat) (r : WRec) : Option Ctx :=
  match s.ctx? (r.handle % 16384) with
  | none => none
  | some c =>
    if r.handle / 16384 != s.idx || !(c.isOpen || (r.typ == 5 && !c.recs.isEmpty)) || (lane == 8) != c.isIso then none
    else if r.typ == 1 && !(c.typ == 0 && c.num == c.devEp0) then none
    else some c

/-- What R193 decides of a host record. -/
inductive RecCheck where
  | refused (code : Nat) | duplicate (c : Ctx) | passed (c : Ctx)
  deriving DecidableEq, Repr

/-- The checks of R193 in order; the sequence checks are those of sequenced records (R185). -/
def State.checkRec (s : State) (lane : Nat) (r : WRec) : RecCheck :=
  if !recShapeOk lane r then .refused wBAD_RECORD
  else match s.handleCtx lane r with
    | none => .refused wBAD_HANDLE
    | some c =>
      if r.typ == 5 || r.typ == 6 then .passed c
      else
        let behind := (c.rxNext + 65536 - r.seq) % 65536
        if 1 ≤ behind && behind ≤ 64 then .duplicate c
        else if r.seq != c.rxNext then .refused wSEQ_GAP
        else if 64 < (r.seq + 65536 - c.rxAck) % 65536 then .refused wWINDOW
        else if r.typ == 0 && 2 ^ 31 ≤ (c.outLimit + 2 ^ 33 - c.outRecv - r.data.length) % 2 ^ 32 then .refused wNO_CREDIT
        else .passed c

/-- The place of a host record in its burst: one after the last record of that burst that came (R191). -/
def Ctx.nextPos (c : Ctx) (r : WRec) : Nat := if r.burst == c.burstIn && c.burstPos != 0 then c.burstPos + 1 else 1

/-- A duplicate (R193, R194): discarded, counted; where the original is complete its burst is acknowledged at once on the
handle's lane (R189), unless that very ACK is staged; where it is stored, its completion is acknowledged. -/
def State.dropDuplicate (s : State) (r : WRec) (c : Ctx) : State :=
  let s := (s.count .LOOMS_ERR_DUP_CNT 0).modCtx c.num (fun c => { c with
    burstIn := r.burst, burstPos := c.nextPos r
    stored := c.stored.map (fun q => if q.seq == r.seq then { q with askAck := true } else q) })
  if (c.rxAck + 65536 - r.seq) % 65536 < 32768
      && !((s.lane c.lane).acks.any (fun a =>
        a.handle == r.handle && a.typ == 5 && a.status == 0 && a.burst == r.burst && a.seq == c.rxAck)) then
    s.stageAck c r.burst r.bcount
  else s

/-- A host record for a handle is activity of its port's tree, and resumes a suspended one on demand
(07_shuttle_engines.md R171, R172). -/
def State.hostRecord (s : State) (c : Ctx) : State :=
  if c.port < 96 then (s.treeActive c.port).resumeTree c.port 1 else s

/-- Store a sequenced host record (R193), which is acknowledged on completion where it is the last of its burst (R192): it
takes its pages, out of those reserved for its credit (R196). -/
def State.storeRec (s : State) (c : Ctx) (r : WRec) : State :=
  let n := if r.typ == 0 then r.data.length else 0
  let s := s.modCtx c.num (fun c => { c with
    stored := c.stored ++ [{ r with dtLow := s.clock, status := 0, askAck := c.nextPos r == r.bcount }], rxNext := (c.rxNext + 1) % 65536,
    outRecv := (c.outRecv + n) % 2 ^ 32, used := c.used + r.data.length, burstIn := r.burst,
    burstPos := c.nextPos r })
  let s := (s.addTo .LOOMS_RXREC 0 1).addTo .LOOMS_RXB 0 n
  s.notePages.hostRecord c

/-- Take the next record of a lane's buffer, while the staging memory has room for the answer; `f` acts on one that passed,
of a type that `mine` names. A refused handle's later records of the transfer are refused silently: they raise neither count
nor event (notes/assumptions/145.md). -/
def State.takeRec (s : State) (lane : Nat) (mine : Nat → Bool) (f : WRec → Ctx → State → State) : State :=
  match (s.lane lane).inbox with
  | [] => s
  | r :: rest =>
    if !mine r.typ || !s.stagingFree 2 then s
    else
      let s := s.modLane lane (fun l => { l with inbox := rest })
      if (s.lane lane).refused.contains r.handle then s
      else match s.checkRec lane r with
        | .refused code => s.refuseRec lane r code
        | .duplicate c => s.dropDuplicate r c
        | .passed c => f r c s

/-- No Shuttle serves the handle's port: the record completes `TARGET_FENCED` (01_architecture.md R25). -/
def State.fencedRecord (s : State) (c : Ctx) (r : WRec) : State :=
  (if r.typ == 1 || r.flags % 2 == 1 then s.completion c.num wTARGET_FENCED 0 else s).settleStored c.num

/-- Mark a stored record as acted on. -/
def State.mark (s : State) (n seq : Nat) : State := s.modCtx n (fun c => { c with stored := markDone seq c.stored })

/-- R193: a host DATA record, or one of a type no host record has. The loopback handle returns it; a lane handle, or one
that has nothing to send it to, is done with it (R187; notes/assumptions/100.md). -/
def execHostDataRecord (lane : Nat) (s : State) : Host.Outcome State Fault Refusal :=
  .next (s.takeRec lane (fun t => t == 0 || t == 3 || 7 ≤ t) (fun r c s =>
    let s := s.storeRec c r
    if c.num == 8 then (s.mark 8 r.seq).formRec 8 0 (r.flags % 2) wOK r.data
    else if c.num < 16 || !c.takesData then s.mark c.num r.seq
    else if (s.serving c.port).isNone then s.fencedRecord c r
    else s))

/-! ### SETUP records (07_shuttle_engines.md R148, R155, R156) -/

/-- The cached bytes a `GET_DESCRIPTOR` for `value`, `index` and `len` is answered with. -/
def Dev.cached (d : Dev) (value index len : Nat) : Option (List Nat) :=
  let ty := value / 256
  let ix := value % 256
  let ok (l : List Nat) : Option (List Nat) := if l.isEmpty then none else some (l.take len)
  if ty == 1 && ix == 0 then ok d.devDesc
  else if ty == 2 && ix == 0 then (if min len d.config.length ≤ 7168 then ok d.config else none)
  else if ty == 15 && ix == 0 then (if min len (leAt d.bos 2 2) ≤ d.bos.length then ok d.bos else none)
  else if ty == 3 && ix != 0 && index == d.lang then
    match (List.range 3).find? (fun i => d.devDesc.getD (14 + i) 0 == ix) with
    | some i => match d.strings.getD i none with
      | some l => ok l
      | none => none
    | none => none
  else none

/-- A control transfer ends without being sent downstream. -/
def State.answerSetup (s : State) (n seq status : Nat) (data : List Nat) (len : Nat) : State :=
  let s := if data.isEmpty then s else s.formRec n 0 1 wOK data
  let st := if status == wOK && data.length < len then wSHORT else status
  (s.completion n st data.length).mark n seq

/-- The setup packet is to be sent downstream; it ends a halt of the control endpoint (notes/assumptions/31.md). -/
def State.sendSetup (s : State) (n : Nat) (p : List Nat) : State :=
  s.modCtx n (fun c => { c with
    setup := p, xstate := 1, xferLen := leAt p 6 2, xferDone := 0, partData := [], toggle := 0, recOff := 0, errRun := 0,
    halted := false })

/-- A periodic endpoint as the load counts it (R148): the speed of its device, its type and direction, the bytes of an
interval, its interval, and the transaction translator that serves it. -/
structure PerEp where
  speed : Nat
  typ   : Nat
  isIn  : Bool
  bytes : Nat
  ival  : Nat
  tt    : Option (Nat × Nat)
  deriving DecidableEq, Repr

/-- The bus time in ns that endpoints take over 32,768 microframes on a bus of the speed given. -/
def busLoad (bus : Nat) (es : List PerEp) : Nat :=
  (es.map (fun e => Config.busTime bus e.speed e.typ e.isIn e.bytes * (32768 / max e.ival 1))).sum

/-- Periodic load within the limits of R147: 80 % of a high-speed microframe, 90 % of a full- or low-speed frame on the
port's bus, and the latter on each transaction translator. -/
def periodicFits (bus : Nat) (es : List PerEp) : Bool :=
  let full := 112500 * 32768
  busLoad bus es ≤ (if bus == 3 then 100000 * 32768 else full)
  && (es.filterMap (·.tt)).all (fun t => busLoad 2 (es.filter (fun e => e.tt == some t)) ≤ full)

/-- The periodic endpoints among those of a configuration. -/
def periodicOf (speed : Nat) (tt : Option (Nat × Nat)) (es : List EpDesc) : List PerEp :=
  (es.filter (fun e => e.typ == 1 || e.typ == 3)).map (fun e =>
    ⟨speed, e.typ, decide (128 ≤ e.addr), e.mps % 2048 * (1 + e.mps / 2048 % 4), serviceInterval speed e.typ e.ival, tt⟩)

/-- The periodic load is within its limits once `new` endpoints replace those of the device that `gone` names (R148). A
request that adds none adds no load. -/
def State.bandwidthOk (s : State) (d : Dev) (gone : Nat → Bool) (new : List EpDesc) : Bool :=
  let tt (n : Nat) : Option (Nat × Nat) := (s.devByEp0 n).bind (s.ttOf 5)
  let add := periodicOf d.speed (tt d.ep0) new
  let old := (s.loom.ctxs.filter (fun c => c.port == d.port && c.isOpen && (c.typ == 1 || c.typ == 3)
    && !(c.devEp0 == d.ep0 && gone c.epAddr))).map (fun c =>
      (⟨c.speed, c.typ, c.isIn, c.maxPacket * (1 + c.mps / 2048 % 4), c.interval, tt c.devEp0⟩ : PerEp))
  add.isEmpty || periodicFits (s.get .PORT_LIFE_SPEED d.port) (old ++ add)

/-- A request refused for bandwidth (R148, R176). -/
def State.noBandwidth (s : State) (d : Dev) (seq : Nat) : State :=
  (s.answerSetup d.ep0 seq wNO_BANDWIDTH [] 0).shutEvent (s.shuttleOf d.port) 9 (s.handleOf d.ep0) d.port
    (groupOfPort d.port) d.route 0

/-- Free the contexts of a device that another configuration does not need (R156). -/
def State.freeSurplus (s : State) (d : Dev) (want : List Nat) : State :=
  s.dropContexts (fun c => c.devEp0 == d.ep0 && c.port == d.port && c.num != d.ep0 && !c.closing
    && !want.contains c.epAddr) wABORT

/-- The endpoints of a configuration for which a device holds no context. -/
def State.missingEps (s : State) (d : Dev) (cfg : List Nat) : List Nat :=
  let have_ := (s.loom.ctxs.filter (fun c => c.devEp0 == d.ep0 && c.port == d.port && c.num != d.ep0
    && !c.closing)).map (·.epAddr)
  (epAddrs cfg).filter (fun a => !have_.contains a)

/-- Reserve up to `k` free contexts for a device (R163). -/
def State.reserveFor (s : State) (d : Dev) (k : Nat) : State :=
  let k := min k (s.get .SHF_POOL_FREE)
  (s.modDev d.port d.route (fun d => { d with reserved := d.reserved + k })).setFree (s.get .SHF_POOL_FREE - k)

/-- A device has the contexts of another configuration, in use or reserved: the missing ones are allocated and the request
is sent (R156). -/
def State.finishSwap (s : State) (d : Dev) (r : WRec) (cfg : List Nat) : State :=
  let s := s.allocEps d.port d.route cfg (s.missingEps d cfg)
  (s.modDev d.port d.route (fun d => { d with altConfig := cfg, later := none, swap := false })).sendSetup d.ep0 r.data

/-- Give a device the contexts of another configuration and send the request (R156): surplus ones go, missing ones come. Too
few free ones are reserved, and the request waits for the contexts that were freed and still hold records the host has not
acknowledged (R161). -/
def State.reconfigure (s : State) (d : Dev) (r : WRec) (cfg : List Nat) : State :=
  let need := (s.missingEps d cfg).length
  let s := s.freeSurplus d (epAddrs cfg)
  if need ≤ s.get .SHF_POOL_FREE then s.finishSwap d r cfg
  else (s.reserveFor d need).modDev d.port d.route (fun d => { d with later := some (r, cfg), swap := true })

/-- `SET_CONFIGURATION` on a device's EP0; `cfg` is the descriptor set of a configuration other than 1, which the Shuttle
reads first. Contexts of the device that are on their way back to the pool count as free for it. -/
def State.setupConfiguration (s : State) (d : Dev) (r : WRec) (cfg : List Nat) : State :=
  let v := leAt r.data 2 2 % 256
  let set := if v == 1 then d.config else cfg
  let eps := if v == 0 then [] else (endpointsOf set).filter (fun e => e.alt == 0)
  let held := (s.loom.ctxs.filter (fun c => c.devEp0 == d.ep0 && c.port == d.port && c.num != d.ep0)).length
  let swap := v != 0 && !(v == 1 && d.altConfig.isEmpty)
  if !s.bandwidthOk d (fun _ => true) eps then s.noBandwidth d r.seq
  else if swap && s.get .SHF_POOL_FREE + held < (epAddrs set).length then
    s.answerSetup d.ep0 r.seq wPOOL_EXHAUSTED [] 0
  else if swap then s.reconfigure d r set
  else s.sendSetup d.ep0 r.data

/-- `SET_INTERFACE` on a device's EP0. -/
def State.setupInterface (s : State) (d : Dev) (r : WRec) : State :=
  let alt := leAt r.data 2 2
  let ifc := leAt r.data 4 2
  let all := (endpointsOf (d.activeConfig r.data)).filter (fun e => e.iface == ifc)
  let gone := all.map (·.addr)
  if !s.bandwidthOk d (fun a => gone.contains a) (all.filter (fun e => e.alt == alt)) then s.noBandwidth d r.seq
  else s.sendSetup d.ep0 r.data

/-- The treatment of a SETUP record (R155). -/
def State.treatSetup (s : State) (d : Dev) (r : WRec) (cfg : List Nat) : State :=
  let rt := r.data.getD 0 0
  let rq := r.data.getD 1 0
  let len := leAt r.data 6 2
  if rt == 0x80 && rq == 6 then
    match d.cached (leAt r.data 2 2) (leAt r.data 4 2) len with
    | some data => s.answerSetup d.ep0 r.seq wOK data len
    | none => s.sendSetup d.ep0 r.data
  else if rt == 0 && rq == 5 then s.answerSetup d.ep0 r.seq wOK [] 0
  else if d.isHub && (rt / 32 % 4 == 1 || (rt == 0 && rq == 9)) then s.answerSetup d.ep0 r.seq wSTALL [] 0
  else if rt == 0 && rq == 9 then s.setupConfiguration d r cfg
  else if rt == 1 && rq == 11 then s.setupInterface d r
  else s.sendSetup d.ep0 r.data

/-- A context of a device has returned to the pool: a configuration change of its device that waits for it has it (R156). -/
def State.swapContext (s : State) (c : Ctx) : State :=
  match s.devByEp0 c.devEp0 with
  | some d =>
    match d.later with
    | some w => if d.swap && decide (d.reserved < (s.missingEps d w.2).length) then s.reserveFor d 1 else s
    | none => s
  | none => s

/-- A SETUP record that waited is treated (R156, R174); a configuration change goes on once its contexts are reserved. -/
def State.resumeSetup (s : State) (d : Dev) : State :=
  match d.later with
  | some w =>
    if d.stage != .done then s
    else if d.swap then (if d.reserved < (s.missingEps d w.2).length then s else s.finishSwap d w.1 w.2)
    else (s.modDev d.port d.route (fun d => { d with later := none })).treatSetup { d with later := none } w.1 w.2
  | none => s

/-- R155, R198: a SETUP record; it ends a control transfer of the handle that is still open with `ABORT`. One that arrives
during a reset of the device waits (07_shuttle_engines.md R174). -/
def execSetupRecord (lane : Nat) (cfg : List Nat) (s : State) : Host.Outcome State Fault Refusal :=
  .next (s.takeRec lane (fun t => t == 1) (fun r c s =>
    let s := s.flushPart c.num
    let s := (if c.transferOpen then s.completion c.num wABORT c.xferDone else s).settleStored c.num
    let s := match s.devByEp0 c.num with | some d => s.dropLater d | none => s
    let s := s.storeRec c r
    if (s.serving c.port).isNone then s.fencedRecord c r
    else match s.devByEp0 c.num with
      | some d =>
        if d.stage == .done then (s.treatSetup { d with later := none } r cfg).poolService
        else s.modDev d.port d.route (fun d => { d with later := some (r, cfg) })
      | none => s))

/-- R161: a context whose handle is closed and whose records are all acknowledged returns to the pool; a configuration
change that waited for it goes on, and the first waiters may start (R156, R163). -/
def execContextRelease (ctx : Nat) (s : State) : Host.Outcome State Fault Refusal :=
  match s.ctx? ctx with
  | some c =>
    if 16 ≤ ctx && c.closing && c.recs.isEmpty && c.unformed.isEmpty then
      let s := (s.releaseCtx ctx).swapContext c
      .next ((s.loom.devs.foldl State.resumeSetup s).poolService)
    else .next s
  | none => .next s

/-- R174: the reset of a device ends: address, configuration and alternate settings are restored and every toggle is
DATA0. The descriptors read from the device, its device descriptor and configuration 1, are compared with the cache: where
they match the device goes on, and the SETUP that waited with it; where they differ it is treated as detached and enumerated
anew. -/
def execDeviceResetComplete (port route : Nat) (descs : DevDescs) (s : State) : Host.Outcome State Fault Refusal :=
  match s.dev? port route with
  | none => .next s
  | some d =>
    if d.stage != .restore || d.since + 50000000 > s.dt || !s.enumRuns port then .next s
    else if descs.device == d.devDesc && descs.config.take 7168 == d.cachedConfig then
      let s := s.modDev port route (fun d => { d with stage := .done })
      let fresh (c : Ctx) : Ctx :=
        if c.devEp0 == d.ep0 && c.port == port then { c with toggle := 0, errRun := 0 } else c
      let s := { s with loom := { s.loom with ctxs := s.loom.ctxs.map fresh } }
      .next (s.resumeSetup { d with stage := .done })
    else if d.tier == 1 then .next ((s.startDetach port wDEVICE_GONE).startEnum port).poolService
    else
      let s := s.devGone d
      let e : Dev := { port := port, route := route, tier := d.tier, hubPort := d.hubPort, parent := d.parent,
                       conn := s.now, since := s.dt, attempt := s.dt }
      .next (({ s with loom := { s.loom with devs := s.loom.devs ++ [e] } } : State).beginAttempt e).poolService

/-! ### STATUS, ABORT, ACK and CREDIT records (R192, R195 to R200) -/

/-- The 32 bytes of a STATUS answer (R200); `susp` is whether the tree was suspended as the query arrived. -/
def State.statusBytes (_ : State) (c : Ctx) (susp : Bool) : List Nat :=
  toLE 2 c.rxNext ++ toLE 2 c.rxAck ++ toLE 2 c.txNext ++ toLE 2 c.txAck ++ toLE 4 c.outLimit ++ toLE 4 c.outRecv
    ++ toLE 4 (if c.unlimited then 0xFFFFFFFF else c.inLimit) ++ toLE 4 c.inSent
    ++ [b2n c.halted + 2 * b2n susp + 4 * b2n c.closing, c.lane, 0, 0] ++ toLE 4 c.pages

/-- R200: a STATUS query is answered behind the device records formed before it. -/
def execStatusRecord (lane : Nat) (s : State) : Host.Outcome State Fault Refusal :=
  .next (s.takeRec lane (fun t => t == 2) (fun r c s =>
    let susp := c.port < 96 && (s.port c.port).tree == 2
    let s := s.storeRec c r
    match s.ctx? c.num with
    | some c => (s.formRec c.num 2 0 wOK (s.statusBytes c susp)).mark c.num r.seq
    | none => s))

/-- R199: an ABORT ends the transfer in progress; the stored OUT records complete with it, and the read credit of a bulk IN
handle is lowered to the bytes read. It is acknowledged wherever in its burst it stands. A SETUP that waited goes with the
transfer. -/
def execAbortRecord (lane : Nat) (s : State) : Host.Outcome State Fault Refusal :=
  .next (s.takeRec lane (fun t => t == 4) (fun r c s =>
    let s := s.flushPart c.num
    let s := (s.storeRec c r).completion c.num wABORT c.xferDone
    let s := match s.devByEp0 c.num with | some d => s.dropLater d | none => s
    let bulk := c.typ == 2 && c.isIn
    let s := s.modCtx c.num (fun c => { c with
      inLimit := if bulk then c.inRead else c.inLimit, unlimited := c.unlimited && !bulk
      stored := c.stored.map (fun q => if q.typ == 4 then { q with askAck := true } else q) })
    s.settleStored c.num))

/-- Where among the device records sent on a handle the one with a number stands; those of an earlier opening come first
(R190). -/
def Ctx.sentAt (c : Ctx) (seq : Nat) : Option Nat := (c.recs.take c.high).findIdx? (fun q => q.seq == seq)

/-- R192: a host ACK frees the device records up to the one it names, and the records that waited for room are formed; one
beyond the last sent is ignored and counted. -/
def execHostAckRecord (lane : Nat) (s : State) : Host.Outcome State Fault Refusal :=
  .next (s.takeRec lane (fun t => t == 5) (fun r c s =>
    let s := s.hostRecord c
    let d := (r.seq + 65536 - c.txAck) % 65536
    match c.sentAt r.seq with
    | some i =>
      let k := i + 1
      let freed := ((c.recs.take k).map (fun q => q.data.length)).sum
      let s := (s.modCtx c.num (fun c => { c with
        recs := c.recs.drop k, sent := c.sent - k, high := c.high - k, old := c.old - k,
        txAck := if c.old < k then r.seq else c.txAck, used := c.used - freed })).notePages
      (State.formWaiting c.unformed.length c.num s).grantAll
    | none => if d == 0 || 32768 < d then s else s.count .LOOMS_ERR_GAP_CNT 0))

/-- R195, R197: a host CREDIT sets the IN credit limit; for an isochronous handle it is ignored. A read request of a port that
no Shuttle serves completes `TARGET_FENCED` (01_architecture.md R25). -/
def execHostCreditRecord (lane : Nat) (s : State) : Host.Outcome State Fault Refusal :=
  .next (s.takeRec lane (fun t => t == 6) (fun r c s =>
    let s := s.hostRecord c
    if c.isIso then s
    else
      let s := s.modCtx c.num (fun c => { c with inLimit := leAt r.data 0 4, unlimited := r.data.getD 4 0 % 2 == 1 })
      match s.ctx? c.num with
      | some c => if c.asksRead && (s.serving c.port).isNone then s.handleFenced c else s
      | none => s))

/-- R192, R196: the oldest records of a handle that are acted on complete; the ACK and the CREDIT follow, while the staging
memory has room for them. -/
def execOutRecordComplete (handle : Nat) (s : State) : Host.Outcome State Fault Refusal :=
  match s.ctx? (handle % 16384) with
  | some c =>
    if handle / 16384 == s.idx && s.stagingFree (2 * c.doneHead) then .next (s.recordsDone c.num c.doneHead) else .next s
  | none => .next s

/-! ### IN transfers (R191, R202, R205) -/

/-- The bytes of a record in a transfer (R184, R183): its header, its payload, and zeros up to the next 16-byte boundary. -/
def WRec.bytes (r : WRec) : List Nat :=
  toLE 4 (r.handle % 2 ^ 20 + 2 ^ 20 * (r.typ % 16) + 2 ^ 24 * (r.flags % 256)) ++ toLE 2 r.data.length ++ toLE 2 r.seq
    ++ [r.burst, r.bcount] ++ toLE 2 r.status ++ toLE 4 r.dtLow ++ r.data
    ++ List.replicate (recRoom r - 16 - r.data.length) 0

/-- The records of a handle that go next, at most `n`, of the types named, within the room and the IN credit left; the first
`again` of them have been sent before, and were within the credit then (R195, R197). -/
def takeBurst (kind : Nat → Bool) (limited : Bool) : Nat → Nat → Nat → Nat → List WRec → List WRec
  | 0, _, _, _, _ => []
  | _, _, _, _, [] => []
  | n + 1, room, credit, again, r :: rest =>
    let need := if r.typ == 0 && limited && again == 0 then r.data.length else 0
    if kind r.typ && recRoom r ≤ room && need ≤ credit then
      r :: takeBurst kind limited n (room - recRoom r) (credit - need) (again - 1) rest
    else []

/-- The IN credit left to a handle in bytes (R197); a limit below what was sent leaves none. -/
def Ctx.creditLeft (c : Ctx) : Nat :=
  let d := (c.inLimit + 2 ^ 32 - c.inSent) % 2 ^ 32
  if 2 ^ 31 ≤ d then 0 else d

/-- What a transfer holds so far. -/
structure Pack where
  st   : State
  room : Nat
  out  : List WRec

/-- The lane on which the next record of a handle goes: the one it leaves, until `LANE_MOVED` has gone there (R189). -/
def Ctx.sendLane (c : Ctx) : Nat := (c.moves.head?.map (fun m => m.1)).getD c.lane

/-- The records that go on that lane: those up to `LANE_MOVED` (R189, R202). -/
def Ctx.thisLane (c : Ctx) (rs : List WRec) : List WRec :=
  match c.moves with
  | [] => rs
  | m :: _ => rs.takeWhile (fun r => r.seq != m.2) ++ (rs.dropWhile (fun r => r.seq != m.2)).take 1

/-- Pack one burst of a handle (R191, R202): a record sent again carries `REPLAY` and counts no second time against the
credit (R185, R195); records lost with a channel are passed over (R203). -/
def Pack.burst (p : Pack) (kind : Nat → Bool) (n : Nat) : Pack :=
  match p.st.ctx? n with
  | none => p
  | some c =>
    let lost := ((c.recs.drop c.sent).takeWhile (fun r => r.typ == 16)).length
    let sent := c.sent + lost
    let again := c.high - sent
    let limited := (c.typ == 2 || c.typ == 3) && !c.unlimited
    let rs := takeBurst kind limited 16 p.room c.creditLeft again (c.thisLane (c.recs.drop sent))
    if rs.isEmpty then { p with st := p.st.modCtx n (fun c => { c with sent := sent, high := max c.high sent }) }
    else
      let b := (c.burstOut + 1) % 256
      let k := rs.length
      let out := rs.zipIdx.map (fun ri => { ri.1 with
        burst := b, bcount := k, flags := if ri.2 < again then bitOr ri.1.flags 2 else ri.1.flags })
      let bytes (l : List WRec) : Nat := ((l.filter (fun r => r.typ == 0)).map (fun r => r.data.length)).sum
      let s := p.st.modCtx n (fun c => { c with
        recs := c.recs.take sent ++ out ++ c.recs.drop (sent + k), sent := sent + k, high := max c.high (sent + k),
        burstOut := b, moves := c.moves.filter (fun m => !rs.any (fun r => r.seq == m.2)),
        inSent := (c.inSent + bytes (rs.drop again)) % 2 ^ 32 })
      { st := (s.addTo .LOOMS_TXREC 0 k).addTo .LOOMS_TXB 0 (bytes rs), room := p.room - (rs.map recRoom).sum,
        out := p.out ++ out }

/-- One round over the handles of a lane, one burst each. -/
def Pack.round (p : Pack) (kind : Nat → Bool) (ns : List Nat) : Pack := ns.foldl (fun p n => p.burst kind n) p

/-- Rounds until one adds nothing. -/
def Pack.rounds (kind : Nat → Bool) (ns : List Nat) : Nat → Pack → Pack
  | 0, p => p
  | n + 1, p =>
    let q := p.round kind ns
    if q.room == p.room then q else q.rounds kind ns n

/-- Regenerate the ACK and CREDIT of the handles that a configuration names, while the staging memory has room (R205); the
first argument bounds their number. -/
def State.regenerate (l : Nat) : Nat → State → State
  | 0, s => s
  | k + 1, s =>
    match (s.lane l).regen with
    | [] => s
    | n :: rest =>
      if !s.stagingFree 2 then s
      else
        let s := s.modLane l (fun x => { x with regen := rest })
        State.regenerate l k (match s.ctx? n with
          | some c =>
            if !c.isOpen || c.lane != l then s
            else
              let s := if c.rxNext != 0 || c.rxAck != 65535 || !c.recs.isEmpty then s.stageAck c c.doneBurst c.doneCnt else s
              if c.takesData then s.stageCredit n else s
          | none => s)

/-- Pack staged ACK and CREDIT records while they fit. -/
def Pack.staged (p : Pack) (l : Nat) : Pack :=
  let st := State.regenerate l (p.st.lane l).regen.length p.st
  let all := (st.lane l).acks
  let rs := takeBurst (fun _ => true) false all.length p.room 0 0 all
  { st := (st.modLane l (fun x => { x with acks := x.acks.drop rs.length })).addTo .LOOMS_TXREC 0 rs.length,
    room := p.room - (rs.map recRoom).sum, out := p.out ++ rs }

/-- An EVENT or STATUS record; a DATA or COMPLETION record. -/
def isNews (t : Nat) : Bool := t == 7 || t == 2
def isBulk (t : Nat) : Bool := t == 0 || t == 3

/-- The handle of lane `l` itself (R187). -/
def ownHandle (l : Nat) : Nat := if l == 8 then 9 else l

/-- Fill one IN transfer of a lane in the order of R202; after a configuration its own handle's records, the `RESYNC`
among them, come first (R205). -/
def State.packLane (s : State) (l : Nat) : Pack :=
  let nums := (s.loom.ctxs.filter (fun c => c.sendLane == l)).map (·.num)
  let rr := (s.lane l).rr
  let ns := nums.filter (fun n => rr < n) ++ nums.filter (fun n => n ≤ rr)
  let p : Pack := { st := s, room := laneBuffer l, out := [] }
  let p := if (s.lane l).resync == 0 then p else p.rounds isNews [ownHandle l] 64
  let p := p.staged l
  let p := Pack.rounds isNews ns 1024 p
  Pack.rounds isBulk ns 1024 p

/-- The DMA fills a lane's IN buffer with what is ready and passes it to the link (R182, R202). -/
def State.fillLane (s : State) (l : Nat) : State :=
  if !s.laneOpen l || !(s.lane l).inBuf.isEmpty then s
  else
    let p := s.packLane l
    if p.out.isEmpty then s
    else
      let rr := (((p.out.filter (fun r => isBulk r.typ)).getLast?).map (fun r => r.handle % 16384)).getD (s.lane l).rr
      p.st.modLane l (fun x => { x with inBuf := p.out, resync := 0, rr := rr })

/-- The packet size of a lane's endpoints at the present rate (R181). -/
def State.lanePacket (s : State) (l : Nat) : Nat := if l == 8 || 2 ≤ s.get .LOOMS_STAT_RATE then 1024 else 512

/-- R182, R183: the host reads an IN transfer of a lane. A buffer that has passed to the link is sent, with a zero-length
packet where the transfer fills its packets and not the buffer; it returns to the DMA, which fills it again. Without one the
answer is NRDY or NAK, and the DMA fills the buffer with what is ready. -/
def execLaneInTransfer (lane : Nat) (s : State) : Host.Outcome State Fault Refusal :=
  if !s.laneOpen lane then .next s
  else if (s.lane lane).inBuf.isEmpty then .next ((s.count .LOOMS_LANE_NRDY_CNT lane).fillLane lane)
  else
    let bs := (s.lane lane).inBuf.flatMap WRec.bytes
    let z := bs.length % s.lanePacket lane == 0 && bs.length < laneBuffer lane
    .next ((s.hostAccess.modLane lane (fun l => { l with inBuf := [], out := bs, zlp := z })).fillLane lane)

/-- A lane's IN buffer is filled and passed to the link: `LOOMS_LANE.IN_READY`. -/
def State.laneReady (s : State) (l : Nat) : Bool := !(s.lane l).inBuf.isEmpty

/-- R231, R208: up to 32 event records are delivered on EP2, an overflow record first. -/
def execEp2InTransfer (s : State) : Host.Outcome State Fault Refusal :=
  if !s.flag .LOOMS_STAT_CONFIGURED || s.loomSuspended || (s.ecx.loomEvts.isEmpty && s.ecx.loomLost == 0) then .next s
  else
    let s := s.hostAccess
    let ov := if s.ecx.loomLost == 0 then [] else [s.overflowRec s.ecx.loomLost]
    let n := 32 - ov.length
    .next { s with ecx := { s.ecx with
      ep2Out := ov ++ s.ecx.loomEvts.take n, loomEvts := s.ecx.loomEvts.drop n, loomLost := 0,
      evSeq := (s.ecx.evSeq + ov.length) % 65536 } }

/-! ### Resets and configuration (R178, R204, R205) -/

/-- R204: a warm or hot reset of the link on which the function is, or, with `lost`, the loss of the SuperSpeed
connection. The link goes through recovery to U0. -/
def execLinkReset (lost : Bool) (s : State) : Host.Outcome State Fault Refusal :=
  if s.get .LOOMS_STAT_RATE == 0 then .next s
  else if lost && 2 ≤ s.get .LOOMS_STAT_RATE then .next (s.ssDisconnect).settleDomains
  else
    let s := s.loomReset
    .next (if 2 ≤ s.get .LOOMS_STAT_RATE then (s.set .HUBS_STAT_SS_STATE 0 5).set .LOOMS_STAT_LSTATE 0 4 else s)

/-- The link has left recovery for U0 (06_transparent_hub.md R142, `LOOMS_STAT.LSTATE`). -/
def State.linkRecovered (s : State) : State :=
  if s.get .LOOMS_STAT_LSTATE == 4 && !s.loom.u3Exit && !s.loom.ownExit then
    (s.set .LOOMS_STAT_LSTATE 0 0).set .HUBS_STAT_SS_STATE 0 1
  else s

/-- R209: the link enters U0 out of U3, by the host's exit or the device's own: the domain comes ON first; a wake that waits
for U0 is notified, or absorbed if it arose inside the host's exit and the host has cleared function suspend. -/
def State.exitU3 (s : State) : State :=
  let w := s.wakeBy 1 [dLOOM]
  if !w.2 then w.1
  else
    let own := w.1.loom.ownExit
    let s := { w.1 with loom := { w.1.loom with u3Exit := false, ownExit := false } }
    let s := (s.set .LOOMS_STAT_LSTATE 0 0).set .HUBS_STAT_SS_STATE 0 1
    let s := if s.flag .LOOMS_STAT_WAKE_PEND && s.loom.notifyAt.isNone then
        (if own || s.flag .LOOMS_STAT_FSUSP then s.notifyWake
         else (s.set .LOOMS_STAT_WAKE_PEND 0 0).loomEvent 6)
      else s
    if s.flag .LOOMS_STAT_FSUSP then s else s.loomEvent 4

/-- R178, R130: training reaches a SuperSpeed rate (2 to 5), or the function connects at high speed on hub port 97
(1); trained again at its rate, it is back in U0, where the device's own U3 exit ends (R209). -/
def execLinkTrained (rate : Nat) (s : State) : Host.Outcome State Fault Refusal :=
  if !(if 2 ≤ rate then s.up.ssApplied else s.up.applied) || rate == 0 || 5 < rate || s.domFenced dLOOM then .next s
  else if rate == s.get .LOOMS_STAT_RATE then .next (if s.loom.ownExit then s.exitU3 else s.linkRecovered)
  else if 2 ≤ rate then
    let s := if s.get .LOOMS_STAT_RATE == 1 then s.loomDisconnect
      else if 2 ≤ s.get .LOOMS_STAT_RATE then s.loomReset else s
    .next (((s.set .HUBS_STAT_SS_STATE 0 1).set .LOOMS_STAT_LSTATE 0 0).setRate rate)
  else if s.u2 == 0 then .next s
  else
    let s := s.ssDisconnect
    let s := { s with hub := { s.hub with p97Change := bitOr s.hub.p97Change 1 } }
    .next (((s.set .HUBS_STAT_P97_CONN 0 1).set .HUBS_CONN 97 1).setRate 1)

/-- A lane starts again (R205): its `RESYNC` is formed, each open handle's cumulative ACK and its CREDIT will be
regenerated, and its unacknowledged records sent again. -/
def State.resyncLane (s : State) (l cause : Nat) : State :=
  let s := if cause == 3 then s.clearBuffers l else s.clearLane l
  let s := s.formEventRec (ownHandle l) 6 (toLE 4 s.loom.cfgCount ++ [cause])
  let hs := (s.loom.ctxs.filter (fun c => c.lane == l && c.isOpen && 8 ≤ c.num && c.num != 9)).map (·.num)
  (s.modLane l (fun x => { x with resync := cause, regen := hs })).fillLane l

/-- R205, R204: `SetConfiguration` on the Loom function: 1 opens the lanes, 0 holds them. -/
def execLoomSetConfiguration (value : Nat) (s : State) : Host.Outcome State Fault Refusal :=
  let s := s.linkRecovered
  if s.get .LOOMS_STAT_RATE == 0 || !s.domOn dLOOM then .next s
  else if value == 0 then .next (if s.flag .LOOMS_STAT_CONFIGURED then s.hostAccess.unconfigure else s)
  else if value == 1 then
    let cause := if s.loom.fromReset then 1 else 2
    let s := (if s.flag .LOOMS_STAT_CONFIGURED then s.unconfigure else s).hostAccess
    let s := ((s.set .LOOMS_STAT_CONFIGURED 0 1).set .LOOMS_STAT_ALT 0 0).ownHandles
    let s := { s with loom := { s.loom with cfgCount := (s.loom.cfgCount + 1) % 2 ^ 32, fromReset := false } }
    let s := (List.range 8).foldl (fun s l => s.resyncLane l cause) s
    .next ((s.loomEvent 2).settleDomains)
  else .next s

/-- R204: `SetInterface` on interface 0: setting 1 opens EP11, setting 0 clears it. The `RESYNC` of EP11 names the host's
request as its cause (notes/assumptions/147.md). -/
def execLoomSetInterface (alt : Nat) (s : State) : Host.Outcome State Fault Refusal :=
  if !s.flag .LOOMS_STAT_CONFIGURED || 1 < alt then .next s
  else
    let s := s.hostAccess
    let s := ((s.clearLane 8).set .LOOMS_STAT_ALT 0 alt).ownHandles
    .next (if alt == 1 then s.resyncLane 8 2 else s)

/-- R204, R205: `ClearFeature(ENDPOINT_HALT)` on a lane or EP11. -/
def execLoomClearHalt (lane : Nat) (s : State) : Host.Outcome State Fault Refusal :=
  if s.laneOpen lane then .next (s.hostAccess.resyncLane lane 3) else .next s

/-! ### Suspend and wake (R180, R207 to R209) -/

/-- R207: the host suspends the function (function suspend with its remote wake, or U3), or clears function suspend; at
SuperSpeed either request sets or clears Function Remote Wake. At high speed the request sets `DEVICE_REMOTE_WAKEUP` only; the
suspend itself is the hub's. -/
def execFunctionSuspend (suspend u3 wake : Bool) (s : State) : Host.Outcome State Fault Refusal :=
  let rate := s.get .LOOMS_STAT_RATE
  if rate == 0 then .next s
  else if rate == 1 then .next (s.setB .LOOMS_STAT_FRWAKE_EN 0 wake)
  else if suspend && u3 then
    let was := s.loomSuspended
    let s := (s.set .LOOMS_STAT_LSTATE 0 3).set .HUBS_STAT_SS_STATE 0 4
    .next (if was then s else s.loomEvent 3)
  else if suspend then
    if !s.flag .LOOMS_STAT_CONFIGURED then .next s
    else
      let was := s.loomSuspended
      let s := (s.set .LOOMS_STAT_FSUSP 0 1).setB .LOOMS_STAT_FRWAKE_EN 0 wake
      .next (if was then s else s.loomEvent 3)
  else if !s.flag .LOOMS_STAT_CONFIGURED then .next s
  else
    let s := s.setB .LOOMS_STAT_FRWAKE_EN 0 wake
    if !s.flag .LOOMS_STAT_FSUSP then .next s
    else
    let absorbed := s.flag .LOOMS_STAT_WAKE_PEND && s.loom.u3Exit && s.loom.notifyAt.isNone
    let s := if absorbed then s else s.hostAccess
    let s := s.set .LOOMS_STAT_FSUSP 0 0
    .next (if s.get .LOOMS_STAT_LSTATE == 3 then s else s.loomEvent 4)

/-- R209: the host's U3 exit: `done` false at its first LFPS, where the link enters recovery, true on entry to U0. An exit of
the device's own that runs is the same exit. -/
def execHostU3Exit (done : Bool) (s : State) : Host.Outcome State Fault Refusal :=
  let out := s.loom.u3Exit || s.loom.ownExit
  if s.get .LOOMS_STAT_RATE < 2 || !(s.get .LOOMS_STAT_LSTATE == 3 || (s.get .LOOMS_STAT_LSTATE == 4 && out)) then .next s
  else if done then .next s.exitU3
  else if s.loom.ownExit then .next s
  else
    .next (({ s with loom := { s.loom with u3Exit := true } }.set .LOOMS_STAT_LSTATE 0 4).set .HUBS_STAT_SS_STATE 0 5)

/-- R209: the notification is repeated every 2.5 s until the host accesses the function. -/
def execWakeNotifyRepeat (s : State) : Host.Outcome State Fault Refusal :=
  match s.loom.notifyAt with
  | some t =>
    if t ≤ s.dt && s.flag .LOOMS_STAT_WAKE_PEND then
      .next { s with loom := { s.loom with notifyAt := some (t + 2500000000) } }
    else .next s
  | none => .next s

/-- Every endpoint buffer of the function is idle (R180): the held events fill that of EP2 only while it may send them. -/
def State.buffersIdle (s : State) : Bool :=
  (List.range 9).all (fun l => !s.flag .LOOMS_LANE_OUT_DMA l && !s.laneReady l) && s.ecx.loomOut.isEmpty
  && (!s.flag .LOOMS_STAT_CONFIGURED || s.loomSuspended || (s.ecx.loomEvts.isEmpty && s.ecx.loomLost == 0))

/-- R180: every endpoint buffer has been idle for 2 µs: U1, where `U1_INIT` allows it. -/
def execU1Initiate (idleNs : Nat) (s : State) : Host.Outcome State Fault Refusal :=
  if 2000 ≤ idleNs && 2 ≤ s.get .LOOMS_STAT_RATE && s.get .LOOMS_STAT_LSTATE == 0 && s.flag .LOOMS_CFG_U1_INIT
      && s.buffersIdle then
    .next ((s.set .LOOMS_STAT_LSTATE 0 1).set .HUBS_STAT_SS_STATE 0 2)
  else .next s

/-- R180: the inactivity timeout set by the host: U2, where `U2_INIT` allows it. -/
def execU2InactivityTimeout (s : State) : Host.Outcome State Fault Refusal :=
  if 2 ≤ s.get .LOOMS_STAT_RATE && s.get .LOOMS_STAT_LSTATE ≤ 1 && s.flag .LOOMS_CFG_U2_INIT then
    .next ((s.set .LOOMS_STAT_LSTATE 0 2).set .HUBS_STAT_SS_STATE 0 3)
  else .next s

end Sys2Proof.Machine
end

