-- ==== Sys2Proof/Machine/Views.lean ====
section
/-! DEFINITION. What a register field reads: its stored value, or, for a field that shows other state of the machine,
that state (17_registers.md R397, R398 and the field maps it lists). A write-only field reads 0 (00_scope.md R7). -/

namespace Sys2Proof.Machine

/-- The energy of the device: the sum of the skein energies (17_registers.md, `SYS_E`). -/
def State.deviceEnergy (s : State) : Nat := ((List.range 8).map (fun k => s.get .SKN_E k)).sum % 2 ^ 64

/-- The port of slot `k % 8` of Shuttle `k / 8` (07_shuttle_engines.md R177). -/
def State.slotPort (s : State) (k : Nat) : Option Nat :=
  let g := s.get .SHT_STAT_PHYG (k / 8)
  if g < 12 then some (8 * g + k % 8) else none

/-- The devices of a slot's tree that hold an EP0 context. -/
def State.slotDevs (s : State) (k : Nat) : List Dev :=
  match s.slotPort k with
  | some n => s.loom.devs.filter (fun d => d.port == n && d.ep0 != 0x3FFF)
  | none => []

/-- What `IDCODE` reads (15_security_and_debug.md R362). -/
def State.idcode (s : State) : Nat := 2 ^ 28 + 0x9664 * 2 ^ 12 + s.sec.otp.mfgCode % 2048 * 2 + 1

/-- What field `f` reads; `k` is its key (unit times the field's elements, plus the element). -/
def State.readFld (s : State) (f : Fld) (k : Nat) : Nat :=
  if f.info.acc == .WO then 0
  else match f with
  | .SYS_STAT_READY => b2n s.ready
  | .SYS_STAT_SAFE_HOLD => b2n s.safeHold
  | .SYS_STAT_LEAD => s.lead
  | .SYS_STAT_STANDBY_HOT => s.get .FLT_TOKEN_STANDBY_HOT
  | .SYS_STAT_UP_CONN => b2n s.upConnected
  | .SYS_STAT_CONN_PERMIT => s.get .AON_CONN_PERMIT
  | .SYS_E => s.deviceEnergy
  | .AON_JHEAD_COUNT => s.ecx.journal.length
  | .PWRD_STATE => if s.flag .DOM_STAT_TRANS k then 3 else s.get .DOM_STAT_STATE k
  | .PWRD_FENCED => s.get .DOM_STAT_FENCED k
  | .PWRD_AVS_CFG_TRIM => s.sec.otp.trim % 32
  | .TIME_DT => s.clock
  | .HUBS_SUSP => if k == 97 then b2n (s.get .LOOMS_STAT_RATE == 1 && s.get .LOOMS_STAT_LSTATE == 5) else s.get f k
  | .HUBS_ID_VID => s.sec.otp.vendorId % 65536
  | .LOOMS_LANE_IN_READY => b2n (s.laneReady k)
  | .SEC_LC_FUSES => s.sec.otp.rowA % 16
  | .SEC_LC_KEY_STATE => s.sec.otp.keyState
  | .SEC_ARB_COUNT => s.sec.otp.arb
  | .SEC_KEYS_PROGRAMMED => unitMask 3 s.sec.otp.programmed
  | .SEC_KEYS_REVOKED => s.sec.otp.revoked % 8
  | .SEC_OKH => s.sec.otp.okh.getD k 0
  | .SEC_VRKH => s.sec.otp.vrkh
  | .SEC_IDCODE => s.idcode
  | .SEC_DBG_LEVEL => s.debugLevel
  | .INTC_PEND_PORT_PWR => bits s.intcPend 0 1
  | .INTC_PEND_PORT_LIFE => bits s.intcPend 1 1
  | .INTC_PEND_FEED => bits s.intcPend 2 1
  | .INTC_PEND_SHUTTLE => bits s.intcPend 3 1
  | .INTC_PEND_HUB => bits s.intcPend 4 1
  | .INTC_PEND_LOOM => bits s.intcPend 5 1
  | .INTC_PEND_DOMAIN => bits s.intcPend 6 1
  | .INTC_PEND_SEC => bits s.intcPend 8 1
  | .INTC_PEND_CANA => bits s.intcPend 9 1
  | .INTC_PEND_CANB => bits s.intcPend 10 1
  | .INTC_PEND_MB_REPLY => bits s.intcPend 11 1
  | .INTC_PEND_MB_EVT => bits s.intcPend 12 1
  | .INTC_PORT => b2n (s.flag .PWR_EVT k || s.flag .PORT_LEVT k)
  | .INTC_UNIT_FEED => unitMask 16 (fun u => s.flag .FEED_EVT u)
  | .INTC_UNIT_SHT => unitMask 13 (fun j => s.flag .SHT_EVT j)
  | .MBOX_STAT_EVT_WAIT => min 255 s.ecx.mboxEvts.length
  | .FEED_TJ_SENSOR => if s.get .FEED_CFG_TS_TYPE k == 0 then 0x8000 else s.get .FEED_TJ_SENSOR k
  | .FEED_STAT_STATE => if s.flag .FEED_CFG_PRESENT k then s.get .FEED_STAT_STATE k else 0
  | .SHT_SLOT_DEVICES => (s.slotDevs k).length
  | .SHT_SLOT_TREE => match s.slotPort k with | some n => (s.port n).tree | none => 0
  | .SHT_SLOT_HUBS => ((s.slotDevs k).filter Dev.isHub).length
  | .SHT_SLOT_CONTEXTS => match s.slotPort k with
      | some n => (s.loom.ctxs.filter (fun c => c.port == n)).length
      | none => 0
  | .DOM_INFO_ALLOWED => allowedMask k
  | .DOM_INFO_LIST_BYTES => listBytes k
  | _ => s.get f k

/-- A word of fields, as it reads. -/
def State.readWord (s : State) (sp : Space) (u off : Nat) : Nat := wordOf (fun f k => s.readFld f k) sp u off

/-- A word of fields as `n` bytes, least significant first. -/
def State.readBytes (s : State) (sp : Space) (u off n : Nat) : List Nat := toLE n (s.readWord sp u off)

end Sys2Proof.Machine
end

