-- ==== Sys2Proof/Machine/PortOps.lean ====
section
/-! DEFINITION. The port group of Ecrax opcodes (10_ecrax_opcodes.md R244; 04_port_power.md R91; 05_port_lifecycle.md
R108 to R113; 07_shuttle_engines.md R158, R159). -/

namespace Sys2Proof.Machine

/-- A mode asked for by `PORT_MODE_SET` or a profile entry (R113): the state and the status. `pub` is the value `PUBLIC`
takes, where one is given; it is applied on acceptance (R244). -/
def State.setMode (s : State) (n m : Nat) (pub : Option Nat) (q : Option ReqId) : State × Nat :=
  if s.lifecycle == lcRETIRED && 2 ≤ m then (s, stDENIED_LIFECYCLE)
  else if s.linkDead (skeinOfPort n) then (s, stTARGET_FENCED)
  else if m == 3 && (s.serving n).isNone then (s, stTARGET_FENCED)
  else if s.skHeld (skeinOfPort n) && m != 0 then (s, stBUSY)
  else
    let s := match pub with
      | some v => s.set .PORT_MODE_PUBLIC n v
      | none => s
    s.requestMode n m q

/-- What `PORT_MODE_SET` brings to ON for `TERMINATED` (R113). -/
def modeNeeds (p : Packet) (s : State) : List Nat :=
  if p.u8 1 == 3 then
    [dPHY (groupOfPort (p.u8 0)), dDRAM] ++ (match s.serving (p.u8 0) with | some j => [dSH j] | none => [])
  else []

/-- `PORT_MODE_SET` (R244, R112, R113). -/
def execPortModeSet (p : Packet) (s : State) : Host.Outcome State Fault Refusal :=
  .next (runOp 0x10 p
    (fun p s => if s.skHeld (skeinOfPort (p.u8 0)) || (s.serving (p.u8 0)).isNone then [] else modeNeeds p s)
    (fun p s =>
      let pub := if bit (p.u8 2) 0 then some (bits (p.u8 2) 1 1) else none
      let r := s.setMode (p.u8 0) (p.u8 1) pub (some p.id)
      { st := r.1, status := r.2 }) s)

/-- `PORT_DATA_ENABLE` (R108): refused while nothing is attached. -/
def execPortDataEnable (p : Packet) (s : State) : Host.Outcome State Fault Refusal :=
  .next (runOp 0x11 p noWake (fun p s =>
    if s.isAttached (p.u8 0) then .ok ((s.set .PORT_MODE_DATA_EN (p.u8 0) 1).recompute (p.u8 0))
    else .fail s stTARGET_ABSENT) s)

/-- `PORT_DATA_DISABLE` (R108). -/
def execPortDataDisable (p : Packet) (s : State) : Host.Outcome State Fault Refusal :=
  .next (runOp 0x12 p noWake (fun p s => .ok ((s.set .PORT_MODE_DATA_EN (p.u8 0) 0).recompute (p.u8 0))) s)

/-- `PORT_VBUS_ON` (R91). -/
def execPortVbusOn (p : Packet) (s : State) : Host.Outcome State Fault Refusal :=
  .next (runOp 0x13 p noWake (fun p s =>
    let r := s.vbusOn (p.u8 0) (some p.id)
    { st := r.1, status := r.2 }) s)

/-- `PORT_VBUS_OFF` (R91): carried out while the skein is held. -/
def execPortVbusOff (p : Packet) (s : State) : Host.Outcome State Fault Refusal :=
  .next (runOp 0x14 p noWake (fun p s => .ok (s.vbusClear (p.u8 0))) s)

/-- `PORT_LATCH_CLEAR` (R91, R89). -/
def execPortLatchClear (p : Packet) (s : State) : Host.Outcome State Fault Refusal :=
  .next (runOp 0x15 p noWake (fun p s =>
    let r := s.latchClear (p.u8 0)
    { st := r.1, status := r.2 }) s)

/-- The word a `PORT_PWR_CONFIG` gives one of its two registers: the fields its mask selects, in the present word. -/
def pwrConfigWord (mask off img old : Nat) : Nat :=
  (List.range 9).foldl (fun w i =>
    let f := pwrMaskField.getD i (0, 0, 0)
    if bit mask i && f.1 == off then putBits w f.2.1 f.2.2 (img / 2 ^ f.2.1) else w) old

/-- `PORT_PWR_CONFIG` (R244, R85). -/
def execPortPwrConfig (p : Packet) (s : State) : Host.Outcome State Fault Refusal :=
  .next (runOp 0x16 p noWake (fun p s =>
    let n := p.u8 0
    if s.skHeld (skeinOfPort n) then .fail s stBUSY
    else if bit (p.u16 2) 0 && s.mode n != 0 then .fail s stBAD_PARAM
    else
      let cfg := pwrConfigWord (p.u16 2) 0 (p.u32 4) (s.readWord .PORT n 0)
      let lim := pwrConfigWord (p.u16 2) 4 (p.u32 8) (s.readWord .PORT n 4)
      let s := s.pwrCfgFields n cfg
      .ok (s.pwrLimitFields n (bits lim 0 8) (bits lim 8 6) (bits lim 16 4) (bits lim 24 6))) s)

/-- `PORT_STATUS` (R244). -/
def execPortStatus (p : Packet) (s : State) : Host.Outcome State Fault Refusal :=
  .next (runOp 0x17 p noWake (fun p s =>
    let n := p.u8 0
    .res s (s.readBytes .PORT n 0x008 4 ++ s.readBytes .PORT n 0x00C 4 ++ s.readBytes .PORT n 0x100 4
      ++ s.readBytes .PORT n 0x104 4 ++ s.readBytes .PORT n 0x110 4 ++ s.readBytes .PORT n 0x114 4
      ++ toLE 2 (s.get .PWR_VBUS n) ++ toLE 2 (s.get .PWR_I n) ++ s.readBytes .PORT n 0x124 4)) s)

/-- Every refused or failed hub port of a port's tree is examined again (07_shuttle_engines.md R158, R159). -/
def State.rescanHubs (s : State) (n : Nat) : State :=
  (s.loom.devs.filter (fun d => d.port == n && 1 < d.tier && (d.stage == .rejected || d.stage == .failed))).foldl
    (fun s d =>
      let s := s.dropDev n d.route
      match s.devByEp0 d.parent with
      | some h => s.hubPortConnect h d.hubPort
      | none => s) s

/-- `PORT_RESCAN` (R244, R117, R158; 01_architecture.md R25). -/
def execPortRescan (p : Packet) (s : State) : Host.Outcome State Fault Refusal :=
  .next (runOp 0x18 p
    (fun p s => if s.mode (p.u8 0) == 3 then
      (match s.serving (p.u8 0) with | some j => [dSH j, dDRAM] | none => []) else [])
    (fun p s =>
      let n := p.u8 0
      if s.mode n != 3 then .fail s stBAD_PARAM
      else if (s.serving n).isNone then .fail s stTARGET_FENCED
      else if s.att n == 8 then .ok (s.startEnum n)
      else .ok (s.rescanHubs n)) s)

end Sys2Proof.Machine
end

