-- ==== Sys2Proof/Machine/PowerOps.lean ====
section
/-! DEFINITION. The power and budget group and the measurement group of Ecrax opcodes, and snapshots
(10_ecrax_opcodes.md R245 to R247; 03_feeds.md R73 to R79; 17_registers.md R395, R396). -/

namespace Sys2Proof.Machine

/-! ### Feeds and skeins -/

/-- `FEED_ENABLE` (R73). -/
def execFeedEnable (p : Packet) (s : State) : Host.Outcome State Fault Refusal :=
  .next (runOp 0x20 p noWake (fun p s =>
    let r := s.feedEnable (p.u8 0) (some p.id)
    { st := r.1, status := r.2 }) s)

/-- `FEED_DISABLE` (R73). -/
def execFeedDisable (p : Packet) (s : State) : Host.Outcome State Fault Refusal :=
  .next (runOp 0x21 p noWake (fun p s =>
    let r := s.feedDisable (p.u8 0) (p.u8 1 == 1)
    { st := r.1, status := r.2 }) s)

/-- The thermal limits and the ladder of a feed are consistent (R76, R77): every Rth × Cth is at least 100 µs, and
`TJ_WARN` is at most `TJ_TRIP`. -/
def State.ladderOk (s : State) (u : Nat) : Bool :=
  [(Fld.FEED_RTH1, Fld.FEED_CTH1), (.FEED_RTH2, .FEED_CTH2), (.FEED_RTH3, .FEED_CTH3)].all (fun rc =>
    100 ≤ s.get rc.1 u * s.get rc.2 u)
  && s.get .FEED_TLIM_TJ_WARN u ≤ s.get .FEED_TLIM_TJ_TRIP u

/-- The limit current of a feed in mA, computed from `ILIM_MV` and `R_UOHM` (R60), rounded down
(notes/assumptions/25.md). -/
def State.iLimMa (s : State) (u : Nat) : Nat := 1000000 * s.get .FEED_LIMIT_ILIM_MV u / s.get .FEED_SHUNT_R_UOHM u

/-- The limit of R61: `ILIM_MV` ÷ `R_UOHM` is at most 50 A. -/
def State.limitOk (s : State) (u : Nat) : Bool :=
  1000 * s.get .FEED_LIMIT_ILIM_MV u ≤ 50 * s.get .FEED_SHUNT_R_UOHM u

/-- A write of one configuration register of a feed other than `FEED_CFG` (R79, R76, R61): none where it is refused. -/
def State.feedRegWrite (s : State) (m : WMode) (u off data : Nat) : Option State :=
  let t := applyWord s m .FEED u off data
  if wordInRange s m .FEED u off data && t.ladderOk u && t.limitOk u then some t else none

/-- The registers a `FEED_CONFIG` writes: their offsets and values, in ascending mask order (R246). -/
def feedConfigWrites (p : Packet) : List (Nat × Nat) :=
  ((maskBits 12 (p.u16 2)).zipIdx).map (fun bi => (feedRegOff.getD bi.1 0, p.u32 (4 + 4 * bi.2)))

/-- `FEED_CONFIG` (R246, R73, R76, R61): refused whole, or applied whole. A change of `EN` acts as the matching command, which
is kept without a reply of its own. -/
def execFeedConfig (p : Packet) (s : State) : Host.Outcome State Fault Refusal :=
  .next (runOp 0x22 p noWake (fun p s =>
    let u := p.u8 0
    let ws := feedConfigWrites p
    if s.skHeld (skeinOfFeed u) then .fail s stBUSY
    else
      let t := (ws.filter (fun w => w.1 != 0)).foldl (fun s w => applyWord s .write .FEED u w.1 w.2) s
      if !(t.ladderOk u && t.limitOk u) then .fail s stBAD_PARAM
      else match ws.find? (fun w => w.1 == 0) with
        | none => .ok t
        | some w =>
          match t.feedCfgWrite u w.2 none with
          | some t => .ok t
          | none => .fail s (s.feedCfgStatus u w.2)) s)

/-- An accepted write of `SKN_CFG` (R79, 04_port_power.md R96): the effective budget follows `IRATED`. -/
def State.skeinCfg (s : State) (k v : Nat) : State :=
  let s := (s.set .SKN_CFG_VNOM k (bits v 0 10)).set .SKN_CFG_SHARE_A k (bits v 16 7)
  (s.set .SKN_CFG_IRATED k (bits v 24 8)).budgetMoved k

/-- `SKEIN_CONFIG` (R245). -/
def execSkeinConfig (p : Packet) (s : State) : Host.Outcome State Fault Refusal :=
  .next (runOp 0x23 p noWake (fun p s =>
    if s.skHeld (p.u8 0) then .fail s stBUSY else .ok (s.skeinCfg (p.u8 0) (p.u32 4))) s)

/-- A write of `BUDGET_MA` (04_port_power.md R96): none above `IRATED` × 1,000 mA. -/
def State.setBudget (s : State) (k ma : Nat) : Option State :=
  if 1000 * s.get .SKN_CFG_IRATED k < ma then none else some ((s.set .SKN_BUDGET_BUDGET_MA k ma).budgetMoved k)

/-- `SKEIN_BUDGET` (R245, 04_port_power.md R96). -/
def execSkeinBudget (p : Packet) (s : State) : Host.Outcome State Fault Refusal :=
  .next (runOp 0x24 p noWake (fun p s =>
    let k := p.u8 0
    if s.skHeld k then .fail s stBUSY
    else match s.setBudget k (p.u16 2) with
      | none => .fail s stBAD_PARAM
      | some s => .res s (toLE 2 (s.effBudget k))) s)

/-- `POWER_STATUS` (R245). -/
def execPowerStatus (p : Packet) (s : State) : Host.Outcome State Fault Refusal :=
  .next (runOp 0x25 p noWake (fun p s =>
    let k := p.u8 0
    .res s (s.readBytes .SKEIN k 0x04 4 ++ toLE 2 (s.get .SKN_VRAIL k) ++ [0, 0] ++ s.readBytes .SKEIN k 0x0C 4
      ++ s.readBytes .SKEIN k 0x28 4 ++ s.readBytes .SKEIN k 0x2C 4 ++ s.readBytes .SKEIN k 0x24 4
      ++ s.readBytes .FEED (2 * k) 0x10 4 ++ s.readBytes .FEED (2 * k + 1) 0x10 4
      ++ s.readBytes .FEED (2 * k) 0x20 4 ++ s.readBytes .FEED (2 * k + 1) 0x20 4)) s)

/-! ### Measurements -/

/-- `MEAS_PORTS` (R247): before the end of the first window the answer waits for it. -/
def execMeasPorts (p : Packet) (s : State) : Host.Outcome State Fault Refusal :=
  .next (runOp 0x30 p noWake (fun p s =>
    if s.measDt == 0 then
      { st := { s with ecx := { s.ecx with measBy := s.ecx.measBy ++ [(p.id, p.u8 0, p.u8 1)] } }, later := true }
    else .res s (s.measPorts (p.u8 0) (p.u8 1))) s)

/-- `MEAS_FEEDS` (R247). -/
def execMeasFeeds (p : Packet) (s : State) : Host.Outcome State Fault Refusal :=
  .next (runOp 0x31 p noWake (fun p s =>
    if s.measDt == 0 then
      { st := { s with ecx := { s.ecx with measBy := s.ecx.measBy ++ [(p.id, 0, 0)] } }, later := true }
    else .res { s with freeCtr := s.freeCtr + 16 } s.measFeeds) s)

/-! ### Snapshots (17_registers.md R395, R396) -/

/-- The fields a snapshot copies: those at the offsets of R396. -/
def bankFld (f : Fld) : Bool :=
  let o := f.info.off
  match f.info.space with
  | .PORT => 0x1C ≤ o && o < 0x48
  | .FEED => o == 0x28 || o == 0x54
  | .SKEIN => o == 0x10
  | .SYS => f == .SYS_E
  | .SHUTTLE => o == 0x08 || o == 0x0C
  | .LOOMS => 0x40 ≤ o && o < 0x64
  | .CAN => o == 0x28
  | _ => false

/-- The units of a space that have a bank. -/
def bankUnits : Space → Nat
  | .PORT => 96
  | .FEED => 16
  | .SKEIN => 8
  | .SHUTTLE => 13
  | .CAN => 2
  | _ => 1

/-- What every bank latches: the fields that are not 0. -/
def State.captured (s : State) : List Cell :=
  (Fld.all.filter bankFld).flatMap (fun f =>
    (List.range (bankUnits f.info.space)).filterMap (fun u =>
      let v := s.readFld f u
      if v == 0 then none else some ⟨f, u, v⟩))

/-- The value of a field in the last complete snapshot. -/
def State.bankGet (s : State) (f : Fld) (u : Nat) : Nat :=
  ((s.snap.bank.find? (fun c => c.fld == f && c.unit == u)).map (·.val)).getD 0

/-- A capture starts (R395): `SNAP_DT` will be the first whole microsecond of DT at least 10 µs from now. -/
def State.startSnap (s : State) : State :=
  { s.set .SNAP_STAT_BUSY 0 1 with
    snap := { s.snap with latchAt := (s.clock + 10000 + 999) / 1000 * 1000, latched := false, taken := [], lost := 0 } }

/-- A register trigger (R395): ignored while a capture runs, with `TRIG_LOST`. -/
def State.snapTrigger (s : State) : State :=
  if s.flag .SNAP_STAT_BUSY then s.set .SNAP_STAT_TRIG_LOST 0 1 else s.startSnap

/-- At `SNAP_DT` every bank latches its counters (R395): at the tick that brings it, so that a bank holds every event
before it and none at or after it. The banks of a skein that cannot be reached, or whose die is fenced
(14_faults_and_takeover.md R334), are left out. -/
def State.snapLatch (s : State) : State :=
  if s.flag .SNAP_STAT_BUSY && !s.snap.latched && s.snap.latchAt ≤ s.clock then
    { s with snap := { s.snap with
      latched := true, taken := s.captured, lost := unitMask 8 (fun k => s.linkDead k || s.domFenced (dSKL k)) } }
  else s

/-- R395: the latch, where no tick has brought it yet. -/
def execSnapLatch (s : State) : Host.Outcome State Fault Refusal := .next s.snapLatch

/-- The new lead half executes the commands that have not committed again from their start (09_ecrax_protocol.md R225): a
`SNAP_TRIGGER` starts its capture anew; one that waits for a window, for a mode change or for a lane's records has no effect yet
and waits on. -/
def State.rerunCommands (s : State) : State := if s.ecx.snapBy.isSome then s.startSnap else s

/-- R395, R247: the holding registers are complete; a `SNAP_TRIGGER` that waits is answered, unless a takeover runs: then the
new lead half starts it again (R225). -/
def execSnapComplete (s : State) : Host.Outcome State Fault Refusal :=
  if s.flag .SNAP_STAT_BUSY && s.snap.latched then
    let s := (s.set .SNAP_STAT_BUSY 0 0).set .SNAP_STAT_VALID 0 1
    let s := ((s.count .SNAP_STAT_SNAP_CNT 0).set .SNAP_DT 0 s.snap.latchAt).set .SNAP_STAT_SKIP 0 s.snap.lost
    let s := { s with snap := { s.snap with bank := s.snap.taken, taken := [], latched := false } }
    match (if s.flt.takeover.isSome then none else s.ecx.snapBy) with
    | none => .next s
    | some q =>
      let s := { s with ecx := { s.ecx with snapBy := none } }
      .next (s.answer q q.quiet stOK (toLE 8 (s.get .SNAP_DT)))
  else .next s

/-- `SNAP_TRIGGER` (R247, R395). -/
def execSnapTrigger (p : Packet) (s : State) : Host.Outcome State Fault Refusal :=
  .next (runOp 0x32 p noWake (fun p s =>
    if s.flag .SNAP_STAT_BUSY then .fail s stBUSY
    else { st := { s.startSnap with ecx := { s.ecx with snapBy := some p.id } }, later := true }) s)

/-- One port's record of `COUNTERS_READ` (R247), from a reader of fields. -/
def countersRec (rd : Fld → Nat) : List Nat :=
  toLE 8 (rd .PWR_E % 2 ^ 48) ++ toLE 4 (rd .PWR_ATTACH_CNT) ++ toLE 2 (rd .PWR_OC_CNT) ++ toLE 2 (rd .PWR_SC_CNT)
    ++ toLE 2 (rd .PWR_THERM_CNT) ++ toLE 2 (rd .PWR_NONCOMPLY_CNT) ++ toLE 4 (rd .PWR_STRESS_CNT)
    ++ toLE 4 (rd .PWR_ONTIME) ++ toLE 8 (rd .PWR_BIN) ++ toLE 8 (rd .PWR_BOUT) ++ [0, 0, 0, 0]

/-- The reader of a snapshot: every bank of a skein left out reads all ones. -/
def State.snapRead (s : State) (k : Nat) (f : Fld) (u : Nat) : Nat :=
  if bit (s.get .SNAP_STAT_SKIP) k then 2 ^ 64 - 1 else s.bankGet f u

/-- `COUNTERS_READ` (R247). -/
def execCountersRead (p : Packet) (s : State) : Host.Outcome State Fault Refusal :=
  .next (runOp 0x33 p noWake (fun p s =>
    let snap := p.u8 2 == 1
    .res s (toLE 8 (if snap then s.get .SNAP_DT else s.clock) ++ (List.range (p.u8 1)).flatMap (fun i =>
      let n := p.u8 0 + i
      countersRec (fun f => if snap then s.snapRead (skeinOfPort n) f n else s.readFld f n)))) s)

/-- An energy of a unit of skein `k` for `ENERGY_READ`: live, what a unit reports whose link carries nothing is open
(notes/assumptions/41.md). -/
def State.energyOf (s : State) (snap : Bool) (k : Nat) (f : Fld) (u : Nat) : Nat :=
  if snap then s.snapRead k f u
  else if s.linkDead k then Config.freeValue (s.freeCtr + 3 * k + (if f == .SKN_E then 2 else u % 2))
  else s.readFld f u

/-- `ENERGY_READ` (R247). -/
def execEnergyRead (p : Packet) (s : State) : Host.Outcome State Fault Refusal :=
  .next (runOp 0x34 p noWake (fun p s =>
    let snap := p.u8 0 == 1
    .res { s with freeCtr := s.freeCtr + 24 }
      (toLE 8 (if snap then s.get .SNAP_DT else s.clock)
        ++ toLE 8 (if snap then s.bankGet .SYS_E 0 else s.deviceEnergy)
        ++ (List.range 8).flatMap (fun k => toLE 8 (s.energyOf snap k .SKN_E k))
        ++ (List.range 16).flatMap (fun u => toLE 8 (s.energyOf snap (skeinOfFeed u) .FEED_E u)))) s)

end Sys2Proof.Machine
end

