-- ==== Sys2Proof/Machine/SecurityCmds.lean ====
section
/-! DEFINITION. The security group of Ecrax opcodes and the commands of the SEC block (15_security_and_debug.md;
10_ecrax_opcodes.md R252). -/

namespace Sys2Proof.Machine

/-- `IDENTITY_REPORT` (R252, R358). -/
def execIdentityReport (p : Packet) (s : State) : Host.Outcome State Fault Refusal :=
  .next (runOp 0x80 p noWake (fun _ s =>
    let k := s.sec.otp.keyState
    .res s ([s.lifecycle, k] ++ List.replicate 6 0 ++ toLE 8 s.sec.otp.serial
      ++ (if k == 1 then Config.publicKey s.sec.otp.scalar else List.replicate 97 0))) s)

/-- `ATTEST` (R252, R358): signed with the identity key and a fresh random per-signature value. The digest of the
first stage is that of the active image (DESIGN CHOICE, notes/assumptions/181.md). -/
def execAttest (p : Packet) (s : State) : Host.Outcome State Fault Refusal :=
  .next (runOp 0x81 p (fun _ _ => [dSEC]) (fun p s =>
    let lc := s.lifecycle
    if lc == lcFACTORY || lc == lcRETURN || s.sec.otp.keyState != 1 then .fail s stNO_IDENTITY
    else if s.sec.secretUpset then .fail s.secretFailed stINTERNAL
    else
      let b := p.params ++ toLE 8 s.sec.otp.serial ++ [lc, s.debugLevel, s.sec.otp.arb, 0]
        ++ toLE 4 (s.versionOf 0) ++ toLE 4 (s.versionOf 1) ++ toLE 8 s.clock
        ++ toLE 48 s.sec.imgDigest ++ toLE 48 s.sec.profDigest
      .res s.useFree (b ++ Config.ecdsaSign s.sec.otp.scalar (Config.random s.freeCtr) (Config.sha384 b))) s)

/-- Blow a transition bit in both rows and take the state (R357 steps 3 and 4). -/
def State.blowTransition (s : State) (i lc : Nat) : State :=
  let o := s.sec.otp
  ({ s with sec := { s.sec with otp := { o with rowA := bitOr o.rowA (2 ^ i), rowB := bitOr o.rowB (2 ^ i) } } } : State).set
    .SEC_LC_STATE 0 lc

/-- The effects of a new lifecycle state (R357 step 5); running them again changes nothing more. -/
def State.lifecycleEffects (s : State) (lc : Nat) : State :=
  let o := s.sec.otp
  if lc == lcPROVISIONED then
    (if o.seedValid || o.destroyed then s
     else if o.seed != 0 then { s with sec := { s.sec with otp := o.destroy } }
     else { s.useFree with sec := { s.sec with otp := { o with
              seed := Config.random s.freeCtr % 2 ^ 384, seedValid := true } } })
  else if lc == lcRETURN || lc == lcRETIRED then
    let s := { s.dropChallenge with
      sec := { s.sec with otp := o.destroy, chal := none, imgDigest := 0,
                          profDigest := 0, secretUpset := false } }
    if lc == lcRETIRED then (List.range 2).foldl (fun s c => s.canUse c 2) s else s
  else s

/-- `LIFECYCLE_ADVANCE` (R252, R357). -/
def execLifecycleAdvance (p : Packet) (s : State) : Host.Outcome State Fault Refusal :=
  .next (runOp 0x82 p (fun _ _ => [dSEC]) (fun p s =>
    let t := p.u8 0
    let lc := s.lifecycle
    if !((t == lc + 1 && t ≤ 3) || t == lcRETIRED) then .fail s stBAD_PARAM
    else if s.sec.secretUpset then .fail s.secretFailed stINTERNAL
    else
      let ok := match s.challenge with
        | some c => c.purpose == 1 && c.arg == t
            && s.authOk (p.params.drop 4) c (if t == lcRETIRED then .retire else .advance)
        | none => false
      let s := s.dropChallenge
      if !ok then .fail (s.setBit .SEC_EVT 0 4) stVERIFY_FAILED
      else
        let s := (s.endSession 5).superviseAgain.set .SEC_DBG_HB_MASK 0 0
        let s := { s with sec := { s.sec with halted := 0, scan := false } }
        let s := s.blowTransition (if t == lcRETIRED then 3 else t - 1) t
        let s := (s.lifecycleEffects t).setBit .SEC_EVT 0 0
        .ok (s.lifecycleOverride)) s)

/-- `CHALLENGE` (R252): a fresh random value, current for 60 s. -/
def execChallenge (p : Packet) (s : State) : Host.Outcome State Fault Refusal :=
  .next (runOp 0x83 p (fun _ _ => [dSEC]) (fun p s =>
    let v := Config.random s.freeCtr % 2 ^ 256
    let s := s.useFree
    let s := { s with sec := { s.sec with chal := some ⟨v, p.u8 0, p.u8 1, s.dt⟩, secretUpset := false } }
    let s := ((s.set .SEC_CHAL_CURRENT 0 1).set .SEC_CHAL_PURPOSE 0 (p.u8 0)).set .SEC_CHAL_ARG 0 (p.u8 1)
    .res s (toLE 32 v ++ toLE 8 s.sec.otp.serial)) s)

/-- `DEBUG_UNLOCK` (R252, R363, R365). With `DBG_EN` low it is answered `VERIFY_FAILED` and the challenge is used. An
INVASIVE session in FIELD is answered once every mode change it causes is complete; one for OBSERVE that follows it frees the
ports again. -/
def execDebugUnlock (p : Packet) (s : State) : Host.Outcome State Fault Refusal :=
  .next (runOp 0x84 p (fun _ _ => [dSEC]) (fun p s =>
    if s.sec.secretUpset then .fail s.secretFailed stINTERNAL
    else
    let r := match s.challenge with
      | some c => if c.purpose == 0 && s.authOk p.params c (if c.arg == 1 then .observe else .invasive)
          then some c.arg else none
      | none => none
    let s := s.dropChallenge
    match r with
    | none => .fail (s.setBit .SEC_EVT 0 4) stVERIFY_FAILED
    | some level =>
      if !s.pins.dbgEn then .fail (s.setBit .SEC_EVT 0 4) stVERIFY_FAILED
      else
        let held := s.flag .SEC_DBG_SESSION && s.lifecycle == lcFIELD && s.get .SEC_DBG_LEVEL == 2
        let s := (s.set .SEC_DBG_SESSION 0 1).set .SEC_DBG_LEVEL 0 level
        let s := (s.count .SEC_DBG_SESSION_CNT 0).setBit .SEC_EVT 0 1
        let s := ((s.set .SEC_DBG_TARGET_VALID 0 0).set .SEC_DBG_TARGET 0 0)
        if s.lifecycle == lcFIELD && level == 2 then
          let s := s.debugOverride true
          if s.modesSettled then .res s [level]
          else { st := { s with sec := { s.sec with unlockBy := some p.id } }, results := [level], later := true }
        else .res (if held then s.debugOverride false else s) [level]) s)

/-- `DEBUG_END` (R252, R363). -/
def execDebugEnd (p : Packet) (s : State) : Host.Outcome State Fault Refusal :=
  .next (runOp 0x85 p noWake (fun _ s => .ok (s.endSession 1)) s)

/-- `KEY_REVOKE` (R252, R356). -/
def execKeyRevoke (p : Packet) (s : State) : Host.Outcome State Fault Refusal :=
  .next (runOp 0x86 p (fun _ _ => [dSEC]) (fun p s =>
    let i := p.u8 0
    let o := s.sec.otp
    let left := (List.range 3).filter (fun j => o.owner j && j != i)
    if !o.programmed i || ((s.lifecycle == lcPROVISIONED || s.lifecycle == lcFIELD) && left.isEmpty) then
      .fail s stBAD_PARAM
    else if s.sec.secretUpset then .fail s.secretFailed stINTERNAL
    else
      let ok := match s.challenge with
        | some c => c.purpose == 2 && c.arg == i && s.authOk (p.params.drop 4) c .revoke
        | none => false
      let s := s.dropChallenge
      if !ok then .fail (s.setBit .SEC_EVT 0 4) stVERIFY_FAILED
      else
        let s := { s with sec := { s.sec with otp := { o with revoked := bitOr o.revoked (2 ^ i) } } }
        .ok (s.setBit .SEC_EVT 0 3)) s)

/-- The 384-bit hash written to `SEC_OTP_DATA`. -/
def State.otpDataWord (s : State) : Nat :=
  (List.range 12).foldl (fun n w => n + s.get .SEC_OTP_DATA w * 2 ^ (32 * w)) 0

/-- `SEC_OTP_CMD` with `GO` (R354, R369): programs a blank owner slot in FACTORY or PROVISIONED; ignored while `BUSY`.
A slot number of 3 names no slot, and the command has no effect. -/
def otpProgram (slot : Nat) (s : State) : State :=
  if s.flag .SEC_OTP_STAT_BUSY || 3 ≤ slot then s
  else
    let refuse (r : Nat) : State :=
      (((List.range 12).foldl (fun s w => s.set .SEC_OTP_DATA w 0) (s.set .SEC_OTP_STAT_RESULT 0 r))).setBit .SEC_EVT 0 6
    if !(s.lifecycle ≤ lcPROVISIONED) then refuse 1
    else if s.sec.otp.programmed slot then refuse 2
    else
      { s.set .SEC_OTP_STAT_BUSY 0 1 with
          sec := { s.sec with otpSlot := slot, otpData := s.otpDataWord } }

def execOtpProgram (slot : Nat) (s : State) : Host.Outcome State Fault Refusal := .next (otpProgram slot s)

/-- The end of an OTP programming (R369): result, `OTP_DONE`, the data registers cleared. -/
def execOtpProgramDone (readBackOk : Bool) (s : State) : Host.Outcome State Fault Refusal :=
  if s.flag .SEC_OTP_STAT_BUSY then
    let s := (s.set .SEC_OTP_STAT_BUSY 0 0).set .SEC_OTP_STAT_RESULT 0 (if readBackOk then 0 else 3)
    let o := s.sec.otp
    let o := if readBackOk then { o with okh := o.okh.set s.sec.otpSlot s.sec.otpData } else o
    let s := { s with sec := { s.sec with otp := o } }
    .next (((List.range 12).foldl (fun s w => s.set .SEC_OTP_DATA w 0) s).setBit .SEC_EVT 0 6)
  else .next s

/-- R252: a challenge stops being current 60 s after its issue. -/
def execChallengeExpiry (s : State) : Host.Outcome State Fault Refusal :=
  match s.sec.chal with
  | some c => if c.issued + 60000000000 ≤ s.dt then .next s.dropChallenge else .next s
  | none => .next s

/-- R43: `DBG_EN` high lets the TAP run; in FACTORY the level is INVASIVE without unlock (R363). -/
def execDbgEnRise (s : State) : Host.Outcome State Fault Refusal :=
  let s := s.set .SEC_DBG_DBG_EN_PIN 0 1
  .next { s with pins := { s.pins with dbgEn := true }, sec := { s.sec with tap := true } }

/-- R43, R363 cause 2: `DBG_EN` falling ends the session, abandons an access in progress and returns the TAP to
Test-Logic-Reset. -/
def execDbgEnFall (s : State) : Host.Outcome State Fault Refusal :=
  let s := ((s.endSession 2).superviseAgain.set .SEC_DBG_DBG_EN_PIN 0 0).set .SEC_DBG_HB_MASK 0 0
  let s := s.set .IND_STAT_BUSY 2 0
  .next { s with winOps := s.winOps.filter (fun w => w.path != .debug), pins := { s.pins with dbgEn := false }, sec := { s.sec with tap := false, halted := 0, scan := false } }

end Sys2Proof.Machine
end

