-- ==== Sys2Proof/Machine/RegAccess.lean ====
section
/-! DEFINITION. One register access of a path: a direct one (17_registers.md R385 to R388), one of the indirect spaces
(R389, R392), the shadows of the 64-bit registers (R394), and the indirect window (R390, R391, R393). An access ends in
one of the codes of R392; `rBLOCK` is a reserved block, which only the management port tells from a reserved offset. -/

namespace Sys2Proof.Machine

def rOK : Nat := 0
def rASLEEP : Nat := 1
def rFENCED : Nat := 2
def rRANGE : Nat := 3
def rREAD_ONLY : Nat := 4
def rRESERVED : Nat := 5
def rHELD : Nat := 6
def rDENIED : Nat := 7
def rEARLY : Nat := 8
def rBLOCK : Nat := 16

/-- The number of a path's own window (R393). -/
def Path.ix : Path → Nat
  | .mgmt => 0
  | .ecrax => 1
  | .debug => 2

/-! ### Shadows (R394) -/

/-- A shadow is the one of this register, this path. -/
def Shadow.isOf (x : Shadow) (p : Path) (f : Fld) (k : Nat) (write bank : Bool) : Bool :=
  x.path == p && x.fld == f && x.unit == k && x.write == write && x.bank == bank

/-- The word a shadow holds, where the path has one. -/
def State.shadowOf (s : State) (p : Path) (f : Fld) (k : Nat) (write bank : Bool) : Option Nat :=
  (s.shadows.find? (fun x => x.isOf p f k write bank)).map (·.word)

/-- Latch a word in the path's shadow of a register. -/
def State.latch (s : State) (p : Path) (f : Fld) (k : Nat) (write bank : Bool) (w : Nat) : State :=
  { s with shadows := s.shadows.filter (fun x => !x.isOf p f k write bank) ++
      [{ path := p, fld := f, unit := k, write := write, bank := bank, word := w % 2 ^ 32 }] }

/-- The 64-bit register whose low or high word lies at an offset. -/
def wideAt (sp : Space) (off : Nat) : Option (Fld × Nat) :=
  (fieldsAt sp off).find? (fun fe => 32 < fe.1.info.width && fe.1.info.width ≤ 64)

/-- Read one word of a 64-bit register from its value: the low word latches the high one; the high one is the path's
shadow, 0 before its first low-word read. -/
def State.readWide (s : State) (p : Path) (bank : Bool) (f : Fld) (u e off v : Nat) : State × Nat :=
  let k := keyOf f u e
  if f.bitPos e == off * 8 then (s.latch p f k false bank (v / 2 ^ 32), v % 2 ^ 32)
  else (s, (s.shadowOf p f k false bank).getD 0)

/-! ### Reads -/

/-- A complete read of a word of register fields, with its RC clear and its shadow latch; `SHF_POOL_MIN` reloads with
the present free count (07_shuttle_engines.md, `FREE_MIN`). -/
def State.readBy (s : State) (p : Path) (sp : Space) (u off : Nat) : State × Nat :=
  match wideAt sp off with
  | some fe => s.readWide p false fe.1 u fe.2 off (s.readFld fe.1 (keyOf fe.1 u fe.2))
  | none =>
    let v := s.readWord sp u off
    let t := clearRC s sp u off
    (if sp == .SHF && off == 4 then t.set .SHF_POOL_MIN_FREE_MIN 0 (s.get .SHF_POOL_FREE) else t, v)

/-- A word of the journal as `AON_JRNL` shows it: slot i at 0x0100 + 16 i (09_ecrax_protocol.md R229). -/
def State.journalWord (s : State) (off : Nat) : Nat :=
  let slot := (off - 0x100) / 16
  let age := (s.get .AON_JHEAD_NEWEST + 32 - slot) % 32
  match s.ecx.journal[age]? with
  | some e => leAt e.bytes (off % 16) 4
  | none => 0

/-- The space, unit and offset of a SNAPBANK unit (R396). -/
def bankOf (unit off : Nat) : Option (Space × Nat × Nat) :=
  let at_ (sp : Space) (u o : Nat) : Option (Space × Nat × Nat) :=
    if (fieldsAt sp o).any (fun fe => bankFld fe.1) then some (sp, u, o) else none
  if unit < 96 then at_ .PORT unit off
  else if unit < 112 then at_ .FEED (unit - 96) off
  else if unit < 120 then at_ .SKEIN (unit - 112) off
  else if unit == 120 then (if off ≤ 4 then at_ .SYS 0 (off + 0x18) else none)
  else if unit < 134 then at_ .SHUTTLE (unit - 121) off
  else if unit == 134 then at_ .LOOMS 0 off
  else if unit < 137 then at_ .CAN (unit - 135) off
  else none

/-- The skein whose banks a SNAPBANK unit is among. -/
def bankSkein (unit : Nat) : Option Nat :=
  if unit < 96 then some (skeinOfPort unit) else if unit < 112 then some (skeinOfFeed (unit - 96))
  else if unit < 120 then some (unit - 112) else none

/-- Read a word of a SNAPBANK unit (R395, R396): all ones for the banks of a skein left out. -/
def State.readBank (s : State) (p : Path) (unit off : Nat) : State × Nat × Nat :=
  match bankOf unit off with
  | none => (s, 0, rRESERVED)
  | some (sp, u, o) =>
    if (bankSkein unit).any (fun k => bit (s.get .SNAP_STAT_SKIP) k) then (s, 2 ^ 32 - 1, rOK)
    else match wideAt sp o with
      | some fe =>
        let r := s.readWide p true fe.1 u fe.2 o (s.bankGet fe.1 (keyOf fe.1 u fe.2))
        (r.1, r.2, rOK)
      | none => (s, wordOf (fun f k => s.bankGet f k) sp u o, rOK)

/-- The bytes of a context that the spec lays out, by offset (07_shuttle_engines.md R162, 08_loom_function.md). -/
def State.ctxBytes (s : State) (c : Ctx) : List (Nat × List Nat) :=
  let st := s.statusBytes c false
  let lens := (s.devByEp0 c.num).map (fun d => d.devDesc.length + d.cachedConfig.length + d.bos.length
    + (d.strings.map (fun x => (x.getD []).length)).sum)
  [(0x000, toLE 4 (s.handleOf c.num)), (0x004, [c.port, c.addr, c.epAddr, c.typ + 4 * c.speed]),
   (0x008, toLE 2 c.mps ++ toLE 2 c.interval), (0x00C, toLE 2 c.route ++ toLE 2 c.devEp0),
   (0x010, toLE 2 c.parent ++ [c.ttPort, b2n c.wake + 2 * b2n c.hub + 4 * b2n c.rwake + 8 * b2n (!c.isIso)
      + 16 * b2n c.halted]),
   (0x040, [c.xstate, c.toggle, 0, 0]), (0x044, toLE 4 c.xferLen), (0x048, toLE 4 c.xferDone), (0x04C, toLE 2 c.outSeq),
   (0x050, toLE 4 c.epoch), (0x054, toLE 2 c.underrun),
   (0x080, st.take 8 ++ [c.burstIn, c.burstOut]), (0x0C0, toLE 4 c.share), (0x0C4, toLE 4 (c.used + c.partData.length)),
   (0x100, [c.lane, b2n c.unlimited, 0, 0] ++ (st.drop 8).take 16), (0x140, toLE 4 c.nextPoll), (0x180, toLE 4 c.xfers),
   (0x188, toLE 8 c.bytes), (0x190, toLE 2 c.errors), (0x1C4, toLE 2 (lens.getD 0))]

/-- The words of a context that the spec lays out. -/
def ctxWordNamed (off : Nat) : Bool :=
  off ≤ 0x10 || (0x40 ≤ off && off < 0x58) || (0x80 ≤ off && off < 0xD0) || (0x100 ≤ off && off < 0x144) || off == 0x180
  || (0x188 ≤ off && off < 0x194) || (0x1C0 ≤ off && off < 0x1C8)

/-- A context as it stands in DRAM (R162): the copy of channel 0, or of channel 1 while channel 0 is lost. The lines of the
transfer state, of the sequence numbers and of the lane are committed as they change (R167); the rest is as the Shuttle last
wrote it back. -/
def State.ctxCopy (s : State) (c : Ctx) : Ctx :=
  match (s.loom.copies.getD (if bit s.loom.lostChan 0 then 1 else 0) []).find? (fun d => d.num == c.num) with
  | none => c
  | some d => { d with
      xstate := c.xstate, toggle := c.toggle, xferLen := c.xferLen, xferDone := c.xferDone, outSeq := c.outSeq,
      epoch := c.epoch, underrun := c.underrun, rxNext := c.rxNext, rxAck := c.rxAck, txNext := c.txNext, txAck := c.txAck,
      burstIn := c.burstIn, burstOut := c.burstOut, lane := c.lane, unlimited := c.unlimited, outLimit := c.outLimit,
      outRecv := c.outRecv, inLimit := c.inLimit, inSent := c.inSent }

/-- Read a word of the CTX space (R162): the numbers of DRAM pages, and the contexts that are not allocated, hold
values the spec does not state. -/
def State.readCtx (s : State) (unit off : Nat) : State × Nat × Nat :=
  let n := unit * 2048 + off / 512
  let o := off % 512
  if 8 ≤ unit then (s, 0, rRESERVED)
  else if s.domFenced dDRAM then (s, 0, rFENCED)
  else if !s.domOn dDRAM then (s, 0, rASLEEP)
  else if !ctxWordNamed o then (s, 0, rRESERVED)
  else match s.ctx? n with
    | none => (s.useFree, s.freeVal % 2 ^ 32, rOK)
    | some c =>
      if o == 0xC8 || o == 0xCC || o == 0x1C0 then (s.useFree, s.freeVal % 2 ^ 32, rOK)
      else
        let bytes (i : Nat) : Nat :=
          ((s.ctxBytes (s.ctxCopy c)).filterMap (fun p => if p.1 ≤ i && i < p.1 + p.2.length then p.2[i - p.1]? else none)).headD 0
        (s, ofLE ((List.range 4).map (fun i => bytes (o + i))), rOK)

/-- A byte offset of the list region of retention memory lies in a tag. -/
def inTag (off : Nat) : Bool :=
  listDomains.any (fun d => listOffset d + listBytes d ≤ off && off < listOffset d + listBytes d + 16)

/-- Read a word of retention memory (13_power_domains.md R316): 0 for the secret region and the tags; the records of a queue,
oldest first (09_ecrax_protocol.md R231, 12_hierarchy.md R293; notes/assumptions/158.md); how a list is laid out, and what
stands behind the last record, the spec does not state. -/
def State.readRetention (s : State) (unit off : Nat) : State × Nat × Nat :=
  if unit != 0 || 0xB800 ≤ off then (s, 0, rRESERVED)
  else if off < 0x800 || inTag off then (s, 0, rOK)
  else
    let mbox := decide (off < 0xA800)
    let o := off - (if mbox then 0x8800 else 0xA800)
    match (if off < 0x8800 then none else (if mbox then s.ecx.mboxEvts else s.ecx.hierEvts)[o / 32]?) with
    | some r => (s, leAt r.bytes (o % 32) 4, rOK)
    | none => (s.useFree, s.freeVal % 2 ^ 32, rOK)

/-- Whether the unit that holds an indirect word can be reached (R392). -/
def State.reach (s : State) (sp : Space) (u off : Nat) : Nat :=
  match sp with
  | .PORT => if (off < 0x38 || (0x100 ≤ off && off < 0x110)) && s.linkDead (skeinOfPort u) then rFENCED else rOK
  | .SKEIN => if s.linkDead u then rFENCED else rOK
  | .FEED => if s.linkDead (skeinOfFeed u) then rFENCED else rOK
  | .SHUTTLE =>
    if off < 0x10 then rOK else if s.domFenced (dSH u) then rFENCED else if !s.domOn (dSH u) then rASLEEP else rOK
  | _ => rOK

/-- An access restarts the idle time of the domain it reaches (13_power_domains.md R307, R313). -/
def State.touchFor (s : State) (sp : Space) (u off : Nat) : State :=
  match sp with
  | .SHUTTLE => if off < 0x10 then s else s.touch (dSH u)
  | .CAN => s.touch (dCAN u)
  | .HUBS => s.touch dHUB
  | .LOOMS => s.touch dLOOM
  | .SKEIN => s.touch (dSKL u)
  | .FEED => s.touch (dSKL (skeinOfFeed u))
  | .PORT => if off < 0x38 || (0x100 ≤ off && off < 0x110) then s.touch (dSKL (skeinOfPort u)) else s
  | _ => s

/-- The unit number within a register space: the fabric registers are one unit. -/
def unitIn (sp : Space) (unit : Nat) : Nat := if sp == .SHF then 0 else unit

/-- Read the word an `IND_ADDR` value names: the state, the word and the code. -/
def State.indRead (s : State) (p : Path) (a : Nat) : State × Nat × Nat :=
  let code := indSpace a
  let unit := indUnit a
  let off := indOff a
  if code == 6 then s.readBank p unit off
  else if code == 7 then (if s.domOn dDRAM then s.touch dDRAM else s).readCtx unit off
  else if code == 8 then s.readRetention unit off
  else match spaceOf code unit with
    | none => (s, 0, rRESERVED)
    | some sp =>
      let u := unitIn sp unit
      if (fieldsAt sp off).isEmpty then (s, 0, rRESERVED)
      else
        let r := s.reach sp u off
        if r != rOK then (s, 0, r)
        else
          let x := (s.touchFor sp u off).readBy p sp u off
          (x.1, x.2, rOK)

/-! ### Writes -/

/-- A write that is an optional state: refused with `RANGE` where there is none. -/
def orRange (s : State) : Option State → State × Nat
  | some t => (t, rOK)
  | none => (s, rRANGE)

/-- A write acts on a WO field: a plain write, or one at the set alias (R387). -/
def WMode.onWO (m : WMode) : Bool := m == .write || m == .setBits

/-- The RW fields of a word and their ranges (R386), then the plain write. -/
def State.plainWrite (s : State) (m : WMode) (sp : Space) (u off data : Nat) : State × Nat :=
  if wordInRange s m sp u off data then (applyWord s m sp u off data, rOK) else (s, rRANGE)

/-- A write of `DOM_REQ` and its outcome (13_power_domains.md R311, R327). -/
def State.domReq (s : State) (m : WMode) (d v : Nat) : State × Nat :=
  if !m.onWO || v % 4 == 3 then (s, rOK)
  else
    let r := s.requestDomain d (v % 4) 0
    (r.1, if r.2 == stDEPENDENCY then rRANGE else if r.2 == stTARGET_FENCED then rFENCED else rOK)

/-- Write a word of a unit's registers that can be reached (R386, R387, R392 and the rules of each register). -/
def State.unitWrite (s : State) (m : WMode) (sp : Space) (u off data : Nat) : State × Nat :=
  let w := newWord s m sp u off data
  match sp with
  | .PORT =>
    if off < 8 && s.skHeld (skeinOfPort u) then (s, rHELD)
    else if off == 0 then orRange s (s.pwrCfgWrite u w)
    else if off == 4 then
      (if wordInRange s m sp u off data then
        (s.pwrLimitFields u (bits w 0 8) (bits w 8 6) (bits w 16 4) (bits w 24 6), rOK)
       else (s, rRANGE))
    else s.plainWrite m sp u off data
  | .SKEIN =>
    if off == 0 then (if wordInRange s m sp u off data then (s.skeinCfg u w, rOK) else (s, rRANGE))
    else if off == 0x20 then
      (if wordInRange s m sp u off data then orRange s (s.setBudget u (bits w 0 16)) else (s, rRANGE))
    else s.plainWrite m sp u off data
  | .FEED =>
    if off == 0 then (if wordInRange s m sp u off data then orRange s (s.feedCfgWrite u w none) else (s, rRANGE))
    else orRange s (s.feedRegWrite m u off data)
  | .DOMAIN =>
    if off == 0 then s.domReq m u data
    else if off == 8 && !bit (allowedMask u) (bits w 22 2) && bits w 22 2 != 0 then (s, rRANGE)
    else s.plainWrite m sp u off data
  | _ => s.plainWrite m sp u off data

/-- In FIELD a debugger writes no port power, feed or skein register (15_security_and_debug.md R366). -/
def State.debugDenied (s : State) (p : Path) (sp : Space) (off : Nat) : Bool :=
  p == .debug && s.lifecycle == lcFIELD
  && ((sp == .PORT && off < 0x100) || sp == .FEED || sp == .SKEIN)

/-- Write the word an `IND_ADDR` value names: the state and the code. -/
def State.indWrite (s : State) (p : Path) (a : Nat) (m : WMode) (data : Nat) : State × Nat :=
  let code := indSpace a
  let unit := indUnit a
  let off := indOff a
  if code == 6 then (s, if (bankOf unit off).isSome then rOK else rRESERVED)
  else if code == 7 then (s, if 8 ≤ unit || !ctxWordNamed (off % 512) then rRESERVED else rREAD_ONLY)
  else if code == 8 then (s, if unit != 0 || 0xB800 ≤ off then rRESERVED else rREAD_ONLY)
  else match spaceOf code unit with
    | none => (s, rRESERVED)
    | some sp =>
      let u := unitIn sp unit
      if (fieldsAt sp off).isEmpty then (s, rRESERVED)
      else
        let r := s.reach sp u off
        if r != rOK then (s, r)
        else if s.debugDenied p sp off then (s, rDENIED)
        else (s.touchFor sp u off).unitWrite m sp u off data

/-! ### The indirect window (R390 to R393) -/

/-- The `IND_ADDR` value of a path's window. -/
def State.indAddr (s : State) (p : Path) : Nat :=
  s.get .IND_ADDR_OFFSET p.ix + s.get .IND_ADDR_UNIT p.ix * 2 ^ 20 + s.get .IND_ADDR_SPACE p.ix * 2 ^ 28

/-- Set `IND_ADDR`; bits [1:0] are taken as 0. -/
def State.setIndAddr (s : State) (p : Path) (a : Nat) : State :=
  ((s.set .IND_ADDR_OFFSET p.ix (indOff a)).set .IND_ADDR_UNIT p.ix (indUnit a)).set .IND_ADDR_SPACE p.ix (indSpace a)

/-- The outcome of a window access: `RESULT`, and `ERR_CNT` where it is not `OK` (R392). -/
def State.indResult (s : State) (p : Path) (code : Nat) : State :=
  let s := s.set .IND_STAT_RESULT p.ix code
  if code == rOK then s else s.count .IND_STAT_ERR_CNT p.ix

/-- The bound of an access, ns (R391). -/
def State.indBound (s : State) (a : Nat) : Nat :=
  let sp := indSpace a
  let off := indOff a
  if sp == 7 then 5000
  else
    let k := if sp == 1 && (off < 0x38 || (0x100 ≤ off && off < 0x110)) then some (skeinOfPort (indUnit a))
      else if sp == 2 then some (indUnit a)
      else if sp == 3 then some (skeinOfFeed (indUnit a))
      else none
    match k with
    | some k => if s.domOn (dSKL k) then 5000 else 25000
    | none => 2000

/-- The access of a path's window completes: a fetch leaves its word in `IND_DATA`. An access of the debugger takes place
only now, so that one in progress can be abandoned (02_package_and_balls.md R43). -/
def State.winFinish (s : State) (w : WinOp) : State :=
  let s : State := { s with winOps := s.winOps.filter (fun x => x.path != w.path) }
  let s := s.set .IND_STAT_BUSY w.path.ix 0
  match w.later with
  | none => (if w.fetch then s.set .IND_DATA w.path.ix w.word else s).indResult w.path w.res
  | some (.fetch a) =>
    let r := s.indRead w.path a
    (r.1.set .IND_DATA w.path.ix r.2.1).indResult w.path r.2.2
  | some (.write m a v) =>
    let r := s.indWrite w.path a m v
    r.1.indResult w.path r.2

/-- The access a path's window runs, where one does. -/
def State.winOp (s : State) (p : Path) : Option WinOp := s.winOps.find? (fun w => w.path == p)

/-- The window's access completes now: the target waits for it, or its bound has passed. -/
def State.winSettle (s : State) (p : Path) (stretch : Bool) : State :=
  match s.winOp p with
  | some w => if stretch || w.start + w.bound ≤ s.dt then s.winFinish w else s
  | none => s

/-- An access that the debugger's window is to make starts (R391, 02_package_and_balls.md R43). -/
def State.winLater (s : State) (bound : Nat) (act : WinAct) : State :=
  let w : WinOp := { path := .debug, start := s.dt, bound := bound, fetch := false, word := 0, res := rOK, later := some act }
  { s.set .IND_STAT_BUSY (Path.ix .debug) 1 with winOps := s.winOps.filter (fun x => x.path != .debug) ++ [w] }

/-- An access of the window starts; on the management port it is in progress until it completes (R391), for a command it
is complete at once. -/
def State.winStart (s : State) (p : Path) (fetch : Bool) (bound word res : Nat) : State :=
  let w : WinOp := { path := p, start := s.dt, bound := bound, fetch := fetch, word := word, res := res }
  if p == .mgmt then { s.set .IND_STAT_BUSY p.ix 1 with winOps := s.winOps.filter (fun x => x.path != p) ++ [w] }
  else s.winFinish w

/-- A fetch starts (R390). -/
def State.indFetch (s : State) (p : Path) : State :=
  let b := s.indBound (s.indAddr p)
  if p == .debug then s.winLater b (.fetch (s.indAddr p))
  else
    let r := s.indRead p (s.indAddr p)
    r.1.winStart p true b r.2.1 r.2.2

/-- The offset advances by 4; past the end it wraps (R390). -/
def State.indAdvance (s : State) (p : Path) : State :=
  let o := s.get .IND_ADDR_OFFSET p.ix + 4
  if 2 ^ 20 ≤ o then (s.set .IND_ADDR_OFFSET p.ix 0).set .IND_STAT_WRAP p.ix 1 else s.set .IND_ADDR_OFFSET p.ix o

/-- The window is busy for this access: an I3C access while `BUSY` (R391). The other paths, and I2C use, wait. -/
def State.indEarly (s : State) (p : Path) (i3c : Bool) : Bool := p == .mgmt && i3c && (s.winOp p).isSome

/-- A read of `IND_DATA` (R390, R391). -/
def State.indDataRead (s : State) (p : Path) (i3c : Bool) : State × Nat :=
  let s := s.winSettle p (!i3c || p != .mgmt)
  if s.indEarly p i3c then (s.indResult p rEARLY, 0)
  else
    let v := s.get .IND_DATA p.ix
    if s.flag .IND_CTL_AUTOINC p.ix then
      let s := s.indAdvance p
      (if s.flag .IND_CTL_RD_AHEAD p.ix then s.indFetch p else s, v)
    else (s, v)

/-- A window write: `IND_DATA`, `IND_SET`, `IND_CLR`, `IND_TGL` (R390). -/
def State.indTarget (s : State) (p : Path) (m : WMode) (data : Nat) : State :=
  let b := s.indBound (s.indAddr p)
  let s := if p == .debug then s.winLater b (.write m (s.indAddr p) data)
    else
      let r := s.indWrite p (s.indAddr p) m data
      r.1.winStart p false b 0 r.2
  if s.flag .IND_CTL_AUTOINC p.ix then s.indAdvance p else s

/-- A write to a register of the IND block (R390, R391). -/
def State.indRegWrite (s : State) (p : Path) (i3c : Bool) (off data : Nat) : State × Nat :=
  let s := s.winSettle p (!i3c || p != .mgmt)
  if (fieldsAt .IND off).isEmpty then (s, rRESERVED)
  else if s.indEarly p i3c then (s.indResult p rEARLY, rOK)
  else if off == 0 then
    let s := s.setIndAddr p data
    (if s.flag .IND_CTL_RD_AHEAD p.ix then s.indFetch p else s, rOK)
  else if off == 4 then (s.indTarget p .write data, rOK)
  else if off == 8 then (s.indTarget p .setBits data, rOK)
  else if off == 0xC then (s.indTarget p .clearBits data, rOK)
  else if off == 0x10 then (s.indTarget p .toggle data, rOK)
  else
    let s := applyWord s .write .IND p.ix off data
    (if off == 0x14 && bit data 2 then s.indFetch p else s, rOK)

/-! ### Direct accesses (R385 to R387) -/

/-- The space and unit of a block; the IND block is the path's own window. -/
def blockSpace (p : Path) (block : Nat) : Option (Space × Nat) :=
  match block with
  | 0 => some (.SYS, 0) | 1 => some (.AON, 0) | 2 => some (.PWRD, 0) | 3 => some (.FLT, 0) | 4 => some (.TIME, 0)
  | 5 => some (.IND, p.ix) | 6 => some (.SNAP, 0) | 7 => some (.CAN, 0) | 8 => some (.CAN, 1) | 9 => some (.HUBS, 0)
  | 10 => some (.LOOMS, 0) | 11 => some (.SEC, 0) | 12 => some (.INTC, 0) | 13 => some (.MBOX, 0)
  | _ => none

/-- The domain a block resides in, for those outside the AON domain (R385). -/
def blockDomain (block : Nat) : Option Nat :=
  if block == 5 then some dMIF else if block == 7 then some (dCAN 0) else if block == 8 then some (dCAN 1) else if block == 9 then some dHUB
  else if block == 10 then some dLOOM else none

/-- A block's domain can be reached (R386). -/
def State.blockReach (s : State) (block : Nat) : Nat :=
  match blockDomain block with
  | none => rOK
  | some d => if s.domFenced d then rFENCED else if !s.domOn d then rASLEEP else rOK

/-- Read the word at a direct address: the state, the word and the code. Aliases read 0 (R387). -/
def State.directRead (s : State) (p : Path) (i3c : Bool) (addr : Nat) : State × Nat × Nat :=
  let block := addr / 65536 % 256
  let off := addr % 65536 / 4 * 4
  match blockSpace p block with
  | none => (s, 0, rBLOCK)
  | some (sp, u) =>
    let r := s.blockReach block
    if r != rOK then (s, 0, r)
    else if 0x4000 ≤ off then (s, 0, rOK)
    else
      let s := s.touchFor sp u off
      if block == 5 && off == 4 then let x := s.indDataRead p i3c; (x.1, x.2, rOK)
      else if block == 1 && 0x100 ≤ off && off < 0x300 then (s, s.journalWord off, rOK)
      else if block == 13 && 0x1000 ≤ off && off < 0x2000 then
        (s, ofLE ((List.range 4).map (fun i => Memory.get s.mbox.inWin (off - 0x1000 + i))), rOK)
      else if block == 13 && 0x2000 ≤ off && off < 0x3000 then (s, leAt s.mbox.outWin (off - 0x2000) 4, rOK)
      else if (fieldsAt sp off).isEmpty then (s, 0, rRESERVED)
      else let x := s.readBy p sp u off; (x.1, x.2, rOK)

/-- A word written to the inbound window (09_ecrax_protocol.md R220): ignored and counted while `IN_BUSY` is 1. -/
def State.windowWrite (s : State) (off data : Nat) : State :=
  if s.flag .MBOX_STAT_IN_BUSY then s.count .MBOX_STAT_RING_LOST 0
  else
    { s with mbox := { s.mbox with inWin := Memory.putAll off (toLE 4 data) s.mbox.inWin } }

/-- The effects of a write to the doorbell (R220, R221). -/
def State.doorbell (s : State) (data : Nat) : State :=
  let s := if bit data 0 then inRing s else s
  if bit data 1 then outDone s else s

/-- A write to a word of an alarm (13_power_domains.md R326, R394): the low word is held, the high word applies both. -/
def State.alarmWrite (s : State) (p : Path) (m : WMode) (off data : Nat) : State :=
  let i := (off - 0x30) / 8
  let v := s.get .PWRD_ALARM i
  if off % 8 == 0 then s.latch p .PWRD_ALARM i true false (m.apply (v % 2 ^ 32) data)
  else alarmArm p i (m.apply (v / 2 ^ 32) data) s

/-- A write to a word of the SEC block (15_security_and_debug.md R354, R366, R369): `HB_MASK` is for an INVASIVE debugger
alone, in FACTORY and RETURN. -/
def State.secWrite (s : State) (p : Path) (m : WMode) (off data : Nat) : State × Nat :=
  if off == 0x0C then
    (if p == .debug && s.mayMask then s.superviseAgain.plainWrite m .SEC 0 off data else (s, rOK))
  else if 0x100 ≤ off && off < 0x130 then
    (if m.onWO then s.set .SEC_OTP_DATA ((off - 0x100) / 4) (data % 2 ^ 32) else s, rOK)
  else if off == 0x130 && m.onWO && bits data 0 2 == 3 then (s, rRANGE)
  else if off == 0x130 then (if m.onWO && bit data 4 then otpProgram (bits data 0 2) s else s, rOK)
  else s.plainWrite m .SEC 0 off data

/-- Write a word of a block that can be reached, at its register's own offset. -/
def State.blockWrite (s : State) (p : Path) (m : WMode) (block : Nat) (sp : Space) (u off data : Nat) : State × Nat :=
  match sp with
  | .FLT => if off < 0x0C then (clearGeckos (off / 4) data s, rOK) else s.plainWrite m sp u off data
  | .PWRD => if 0x30 ≤ off && off < 0x50 then (s.alarmWrite p m off data, rOK) else s.plainWrite m sp u off data
  | .SNAP => if off == 0 then (if m.onWO && bit data 0 then s.snapTrigger else s, rOK) else s.plainWrite m sp u off data
  | .CAN =>
    if s.get .CAN_CTL_USE u != 0 && !(off == 0x08 || off == 0x0C || off == 0x10) && !wordInRange s m sp u off data then
      (s, rRANGE)
    else let r := s.canWrite u m off data; (r.1, if r.2 then rOK else rDENIED)
  | .SEC => s.secWrite p m off data
  | .MBOX =>
    if off == 0 then (if m.onWO then s.doorbell data else s, rOK)
    else
      let r := s.plainWrite m sp u off data
      (if block == 13 && off == 8 then r.1.fillMailbox else r.1, r.2)
  | _ => s.plainWrite m sp u off data

/-- The way a write acts and the register's own offset, from an offset with its alias (R387). -/
def aliasOf (m : WMode) (off : Nat) : WMode × Nat :=
  (if off < 0x4000 then m else if off < 0x8000 then .setBits else if off < 0xC000 then .clearBits else .toggle,
   off % 0x4000)

/-- Write the word at a direct address: the state and the code. -/
def State.directWrite (s : State) (p : Path) (i3c : Bool) (addr : Nat) (m : WMode) (data : Nat) : State × Nat :=
  let block := addr / 65536 % 256
  let mo := aliasOf m (addr % 65536 / 4 * 4)
  let off := mo.2
  match blockSpace p block with
  | none => (s, rBLOCK)
  | some (sp, u) =>
    let r := s.blockReach block
    if r != rOK then (s, r)
    else
      let s := s.touchFor sp u off
      if block == 5 then (if mo.1 == .write then s.indRegWrite p i3c off data else (s, rOK))
      else if block == 13 && 0x1000 ≤ off && off < 0x3000 then
        (if mo.1 == .write && off < 0x2000 then s.windowWrite (off - 0x1000) data else s, rOK)
      else if block == 1 && 0x100 ≤ off && off < 0x300 then (s, rOK)
      else if (fieldsAt sp off).isEmpty then (s, rRESERVED)
      else s.blockWrite p mo.1 block sp u off data

end Sys2Proof.Machine
end

