-- ==== Sys2Proof/Machine/MgmtCmds.lean ====
section
/-! DEFINITION. The management port: its transfers, the CCCs and the in-band interrupt (17_registers.md R382 to R384,
R397), the commands of the register accesses and of the indirect windows, and the register access group of Ecrax
opcodes (10_ecrax_opcodes.md R254). -/

namespace Sys2Proof.Machine

/-! ### Transfers (R384) -/

/-- A management-port access that sets a bit of `SYS_ERR`, with its address. -/
def State.mgmtErr (s : State) (f : Fld) (addr : Nat) : State :=
  ((s.set f 0 1).count .SYS_ERR_ERR_CNT 0).set .SYS_ERR_ADDR_ADDR 0 addr

/-- What the code of a direct access leaves in `SYS_ERR` (R385, R386). -/
def State.mgmtCode (s : State) (addr code : Nat) : State :=
  if code == rBLOCK then s.mgmtErr .SYS_ERR_RESERVED addr
  else if code == rASLEEP then s.mgmtErr .SYS_ERR_ASLEEP addr
  else if code == rFENCED then s.mgmtErr .SYS_ERR_FENCED addr
  else if code == rRANGE then s.mgmtErr .SYS_ERR_RANGE addr
  else s

/-- The pointer does not advance at this address: `IND_DATA`, `IND_SET`, `IND_CLR`, `IND_TGL`. -/
def windowAddr (a : Nat) : Bool := a == 0x050004 || a == 0x050008 || a == 0x05000C || a == 0x050010

/-- The pointer after a word. -/
def State.pointerNext (s : State) : State :=
  let a := s.mgmt.pointer
  if windowAddr a then s
  else if a % 65536 == 0xFFFC then { s with mgmt := { s.mgmt with past := true } }
  else { s with mgmt := { s.mgmt with pointer := a + 4 } }

/-- Between two words of an I3C transfer, which follow each other in less than 5 µs at the highest rate: an access
bound to 2 µs has completed; whether a longer one has is open. -/
def State.wordGap (s : State) (i3c : Bool) : State :=
  match s.winOp .mgmt with
  | none => s
  | some w =>
    if !i3c then s
    else if w.bound ≤ 2000 then s.winFinish w
    else if s.freeVal % 2 == 1 then s.useFree.winFinish w
    else s.useFree

/-- The words of a write, from the pointer on; none for a word that the transfer does not complete, which is discarded. In I2C
use the first data past the block's end are NACKed, which ends the transfer; in I3C use they are ignored. -/
def State.writeWords (s : State) (i3c : Bool) : List (Option Nat) → State
  | [] => s
  | w :: rest =>
    let a := s.mgmt.pointer
    if s.mgmt.past then
      let s := s.mgmtErr .SYS_ERR_OVERRUN a
      if i3c then s.writeWords i3c rest else s
    else
      match w with
      | none => s.mgmtErr .SYS_ERR_PARTIAL a
      | some v =>
        let s := s.ibiCheck
        let r := s.directWrite .mgmt i3c a .write v
        ((r.1.mgmtCode a r.2).pointerNext.ibiCheck.wordGap i3c).writeWords i3c rest

/-- The words of a byte string, the last of them none where it is not whole. -/
def wordsOf : List Nat → List (Option Nat)
  | a :: b :: c :: d :: rest => some (ofLE [a % 256, b % 256, c % 256, d % 256]) :: wordsOf rest
  | [] => []
  | _ => [none]

/-- R384: a write: three address bytes, then data words. A transfer with fewer address bytes leaves the pointer. -/
def execMgmtWrite (i3c : Bool) (bytes : List Nat) (s : State) : Host.Outcome State Fault Refusal :=
  if s.pins.porstLow || !s.domOn dMIF then .next s
  else
    let s := { s.touch dMIF with mgmt := { s.mgmt with busy := false } }
    if bytes.length < 3 then .next s
    else
      let a := leAt (bytes.map (· % 256)) 0 3
      let s := if a % 4 == 0 then s else s.mgmtErr .SYS_ERR_ALIGN a
      let s := { s with mgmt := { s.mgmt with pointer := a / 4 * 4, past := false } }
      .next (s.writeWords i3c (wordsOf (bytes.drop 3)))

/-- One word of a read: the state and the word. -/
def State.readOne (s : State) (i3c : Bool) : State × Nat :=
  let a := s.mgmt.pointer
  if s.mgmt.past then (s.mgmtErr .SYS_ERR_OVERRUN a, 0)
  else
    let r := s.directRead .mgmt i3c a
    (r.1.mgmtCode a r.2.2, r.2.1)

/-- `n` bytes read from the pointer on: the state and the bytes. A word's side effects come with its byte 0, and the
pointer advances after a whole word. -/
def State.readBytesFrom (s : State) (i3c : Bool) : Nat → State × List Nat
  | 0 => (s, [])
  | 1 => let r := s.readOne i3c; (r.1, (toLE 4 r.2).take 1)
  | 2 => let r := s.readOne i3c; (r.1, (toLE 4 r.2).take 2)
  | 3 => let r := s.readOne i3c; (r.1, (toLE 4 r.2).take 3)
  | n + 4 =>
    let r := s.readOne i3c
    let s := if r.1.mgmt.past then r.1 else r.1.pointerNext
    let x := (s.wordGap i3c).readBytesFrom i3c n
    (x.1, toLE 4 r.2 ++ x.2)

/-- R384: a read of `count` bytes; what it sent stands in `mgmt.out`. -/
def execMgmtRead (i3c : Bool) (count : Nat) (s : State) : Host.Outcome State Fault Refusal :=
  if s.pins.porstLow || !s.domOn dMIF then .next s
  else
    let r := (s.touch dMIF).readBytesFrom i3c count
    .next { r.1 with mgmt := { r.1.mgmt with out := r.2, busy := false } }

/-! ### CCCs (R382) -/

/-- The target hears a CCC while MIF is ON; one that begins while it is not wakes MIF, and the device takes no part in it
(13_power_domains.md R322). -/
def State.ccc (s : State) (f : Mgmt → Mgmt) : State :=
  if s.pins.porstLow || s.domFenced dMIF then s
  else if !s.domOn dMIF then s.wake 0 [dMIF]
  else { s.touch dMIF with mgmt := f { s.mgmt with busy := false } }

/-- The static address (02_package_and_balls.md R47). -/
def State.staticAddr (s : State) : Nat := 0x5C + s.get .SYS_STRAP_MGMT_ADDR

/-- `ENEC`, `DISEC`: bit 0 of the event byte is the in-band interrupt. -/
def execEnec (events : Nat) (s : State) : Host.Outcome State Fault Refusal :=
  .next (s.ccc (fun m => if events % 2 == 1 then { m with ibiEn := true } else m))
def execDisec (events : Nat) (s : State) : Host.Outcome State Fault Refusal :=
  .next (s.ccc (fun m => if events % 2 == 1 then { m with ibiEn := false } else m))

/-- `RSTDAA`: the dynamic address is gone. -/
def execRstdaa (s : State) : Host.Outcome State Fault Refusal := .next (s.ccc (fun m => { m with dynAddr := none }))

/-- `ENTDAA`: a target with no dynamic address takes the one assigned. -/
def execEntdaa (addr : Nat) (s : State) : Host.Outcome State Fault Refusal :=
  .next (s.ccc (fun m => if m.dynAddr.isNone then { m with dynAddr := some (addr % 128) } else m))

/-- `SETDASA`: the dynamic address, given to the static one. -/
def execSetdasa (static addr : Nat) (s : State) : Host.Outcome State Fault Refusal :=
  .next (s.ccc (fun m =>
    if m.dynAddr.isNone && static == s.staticAddr then { m with dynAddr := some (addr % 128) } else m))

/-- `SETNEWDA`: a new dynamic address for a target that has one. -/
def execSetnewda (addr : Nat) (s : State) : Host.Outcome State Fault Refusal :=
  .next (s.ccc (fun m => if m.dynAddr.isSome then { m with dynAddr := some (addr % 128) } else m))

/-- `SETMWL`, `SETMRL`: 8 to 4,100 bytes. -/
def execSetmwl (len : Nat) (s : State) : Host.Outcome State Fault Refusal :=
  .next (s.ccc (fun m => if 8 ≤ len && len ≤ 4100 then { m with mwl := len } else m))
def execSetmrl (len : Nat) (s : State) : Host.Outcome State Fault Refusal :=
  .next (s.ccc (fun m => if 8 ≤ len && len ≤ 4100 then { m with mrl := len } else m))

/-- The bytes of a value, most significant first, as a GET CCC sends it (notes/assumptions/43.md). -/
def toBE (n v : Nat) : List Nat := (toLE n v).reverse

/-- The GET CCCs send their value. -/
def execGetmwl (s : State) : Host.Outcome State Fault Refusal := .next (s.ccc (fun m => { m with out := toBE 2 m.mwl }))
/-- `GETMRL`: the third byte is the length of an in-band interrupt's payload, one byte. -/
def execGetmrl (s : State) : Host.Outcome State Fault Refusal :=
  .next (s.ccc (fun m => { m with out := toBE 2 m.mrl ++ [1] }))

/-- The provisioned ID: manufacturer [47:33], part [31:16], `MGMT_ADDR` [13:12], 0x0B0. -/
def State.pid (s : State) : Nat :=
  s.sec.otp.mipiId % 2 ^ 15 * 2 ^ 33 + 0x9664 * 2 ^ 16 + s.get .SYS_STRAP_MGMT_ADDR * 2 ^ 12 + 0x0B0
def execGetpid (s : State) : Host.Outcome State Fault Refusal := .next (s.ccc (fun m => { m with out := toBE 6 s.pid }))
def execGetbcr (s : State) : Host.Outcome State Fault Refusal := .next (s.ccc (fun m => { m with out := [0x0E] }))
def execGetdcr (s : State) : Host.Outcome State Fault Refusal := .next (s.ccc (fun m => { m with out := [0x00] }))

/-- `GETSTATUS`: two bytes whose content the spec does not state (a free value). -/
def execGetstatus (s : State) : Host.Outcome State Fault Refusal :=
  .next ((s.ccc (fun m => { m with out := toBE 2 s.freeVal })).useFree)

/-! ### In-band interrupt (R397) -/

/-- R397: an IBI is sent at a START on the bus; one that is NACKed is repeated at the next. -/
def execIbiRetry (acked : Bool) (s : State) : Host.Outcome State Fault Refusal :=
  if s.mgmt.ibi.isSome && s.domOn dMIF && acked then .next { s with mgmt := { s.mgmt with ibi := none } } else .next s

/-! ### Who may access -/

/-- The domain that holds an indirect target; none for one in an always-on section. -/
def indDomain (a : Nat) : Option Nat :=
  if indSpace a == 4 && indUnit a < 13 && 0x10 ≤ indOff a then some (dSH (indUnit a))
  else if indSpace a == 7 then some dDRAM
  else none

/-- The domain that a debugger's access to a register, direct or indirect, reaches; an access to the debug window reaches
the window's target, that of a word written to `IND_ADDR` the one it names. -/
def State.debugDomain (s : State) (ind : Bool) (addr : Nat) (write : Option Nat) : Option Nat :=
  if ind then indDomain addr
  else if addr / 65536 % 256 == 5 then
    indDomain (if addr % 65536 / 4 == 0 then write.getD (s.indAddr .debug) else s.indAddr .debug)
  else blockDomain (addr / 65536 % 256)

/-- An access for a domain is allowed (R364, R367): the level reaches `need`, the domain is ON, and in FIELD it is the
session's target; SEC is a domain apart. The registers of the always-on sections lie in no domain that a session could
name (notes/assumptions/44.md). -/
def State.debugMay (s : State) (d : Option Nat) (need : Nat) : Bool :=
  need ≤ s.accessLevel &&
  match d with
  | none => true
  | some d =>
    s.domOn d && d != dSEC
    && (s.lifecycle != lcFIELD || (s.flag .SEC_DBG_TARGET_VALID && s.get .SEC_DBG_TARGET == d))

/-- The SEC registers a level may reach (R367): read and write in FACTORY, read in PROVISIONED. -/
def State.debugSec (s : State) (write : Bool) : Bool :=
  1 ≤ s.accessLevel && (s.lifecycle == lcFACTORY || (s.lifecycle == lcPROVISIONED && !write))

/-- The first access of a session in FIELD names its target (R364). -/
def State.nameFor (s : State) (d : Option Nat) : State :=
  match d with
  | some d => s.nameTarget d
  | none => s

/-- A debugger's access ends, with an error response where it may not be made (R364, R367). -/
def State.debugEnds (s : State) (ok : Bool) : State × Bool :=
  ({ s with sec := { s.sec with dbgError := !ok } }, ok)

/-- A path's access to a register, direct or indirect, with the word of a write: whether it may be made. The management
port needs MIF; a debugger needs `DBG_EN` and the level and place of R367 (02_package_and_balls.md R43), its first
access names the target of the session, and one that it may not make completes with an error response
(15_security_and_debug.md R364). -/
def State.permit (s : State) (p : Path) (ind : Bool) (addr : Nat) (write : Option Nat) : State × Bool :=
  if s.pins.porstLow then (s, false)
  else match p with
  | .mgmt => (s, s.domOn dMIF)
  | .ecrax => (s, true)
  | .debug =>
    if !s.pins.dbgEn then (s, false)
    else if !ind && addr / 65536 % 256 == 11 then
      s.debugEnds (s.debugSec write.isSome || (addr % 65536 / 4 == 3 && (write.isNone || s.mayMask)))
    else
      let d := s.debugDomain ind addr write
      let s := s.nameFor d
      s.debugEnds (s.debugMay d (if write.isSome then 2 else 1))

/-! ### Single accesses -/

/-- The management port is in I3C use while it has a dynamic address. -/
def State.inI3c (s : State) : Bool := s.mgmt.dynAddr.isSome

/-- The errors of a path's direct access: `SYS_ERR` records the management port's only; a debugger's access to a domain that is
not ON, or that is refused to it, has an error response (R364, R367). -/
def State.pathCode (s : State) (p : Path) (addr code : Nat) : State :=
  match p with
  | .mgmt => s.mgmtCode addr code
  | .ecrax => s
  | .debug => if code == rASLEEP || code == rFENCED || code == rDENIED then (s.debugEnds false).1 else s

/-- A direct write by a path. -/
def State.pathWrite (s : State) (p : Path) (addr : Nat) (m : WMode) (v : Nat) : State :=
  let a := s.permit p false addr (some v)
  if a.2 then
    a.1.seeInts (fun t =>
      let r := t.directWrite p s.inI3c addr m v
      r.1.pathCode p (addr % 2 ^ 24) r.2)
  else a.1

/-- A direct read by a path; the word read stands in `lastRead`. -/
def State.pathRead (s : State) (p : Path) (addr : Nat) : State :=
  let a := s.permit p false addr none
  if a.2 then
    let r := a.1.directRead p s.inI3c addr
    let s := r.1.pathCode p (addr % 2 ^ 24) r.2.2
    { s with lastRead := r.2.1 }
  else a.1

/-- R386: a write to a register without behaviour of its own. -/
def execRegisterWrite (path : Path) (addr : Nat) (value : Nat) (s : State) : Host.Outcome State Fault Refusal :=
  .next (s.pathWrite path addr .write value)

/-- R387: the set, clear and toggle aliases of the register at `addr`. -/
def execAliasSet (path : Path) (addr : Nat) (value : Nat) (s : State) : Host.Outcome State Fault Refusal :=
  .next (s.pathWrite path (addr / 65536 * 65536 + addr % 0x4000 + 0x4000) .write value)
def execAliasClear (path : Path) (addr : Nat) (value : Nat) (s : State) : Host.Outcome State Fault Refusal :=
  .next (s.pathWrite path (addr / 65536 * 65536 + addr % 0x4000 + 0x8000) .write value)
def execAliasToggle (path : Path) (addr : Nat) (value : Nat) (s : State) : Host.Outcome State Fault Refusal :=
  .next (s.pathWrite path (addr / 65536 * 65536 + addr % 0x4000 + 0xC000) .write value)

/-- R7: a read of a register with RC fields returns and clears them. -/
def execRcRead (path : Path) (addr : Nat) (s : State) : Host.Outcome State Fault Refusal := .next (s.pathRead path addr)

/-- R394: a read of the low word of a 64-bit register latches the high word into the path's shadow. -/
def execLowWordRead (path : Path) (addr : Nat) (s : State) : Host.Outcome State Fault Refusal :=
  .next (s.pathRead path addr)

/-- R395: a write of 1 to `SNAP_CTL.TRIGGER`. -/
def execSnapCtlTrigger (path : Path) (s : State) : Host.Outcome State Fault Refusal :=
  .next (s.pathWrite path 0x060000 .write 1)

/-- R326: a write to the high word of `PWRD_ALARM`, over a path that may make it, arms the alarm. -/
def execAlarmArmWrite (path : Path) (alarm : Nat) (high : Nat) (s : State) : Host.Outcome State Fault Refusal :=
  .next (if alarm < 4 then s.pathWrite path (0x020034 + 8 * alarm) .write high else s)

/-- A write by a path to the register that an `IND_ADDR` value names. -/
def State.pathInd (s : State) (p : Path) (a v : Nat) : State :=
  let r := s.permit p true a (some v)
  if r.2 then r.1.seeInts (fun s => (s.indWrite p a .write v).1) else r.1

/-- R73, R79: a register write of `FEED_CFG`. -/
def execFeedCfgWrite (path : Path) (feed : Nat) (value : Nat) (s : State) : Host.Outcome State Fault Refusal :=
  if feed < 16 then .next (s.pathInd path (3 * 2 ^ 28 + feed * 2 ^ 20) value) else .next s

/-- R82, R85, R104: a register write of `PWR_CFG`. -/
def execPwrCfgWrite (path : Path) (port : Nat) (value : Nat) (s : State) : Host.Outcome State Fault Refusal :=
  if port < 96 then .next (s.pathInd path (2 ^ 28 + port * 2 ^ 20) value) else .next s

/-! ### The windows (R390, R391) -/

/-- A write to a register of a path's window. -/
def State.windowReg (s : State) (p : Path) (off v : Nat) : State := s.pathWrite p (0x050000 + off) .write v

def execIndAddrWrite (path : Path) (value : Nat) (s : State) : Host.Outcome State Fault Refusal :=
  .next (s.windowReg path 0x00 value)
/-- R390: the word read stands in `lastRead`. -/
def execIndDataRead (path : Path) (s : State) : Host.Outcome State Fault Refusal :=
  .next (s.pathRead path 0x050004)
def execIndDataWrite (path : Path) (value : Nat) (s : State) : Host.Outcome State Fault Refusal :=
  .next (s.windowReg path 0x04 value)
def execIndSet (path : Path) (value : Nat) (s : State) : Host.Outcome State Fault Refusal :=
  .next (s.windowReg path 0x08 value)
def execIndClr (path : Path) (value : Nat) (s : State) : Host.Outcome State Fault Refusal :=
  .next (s.windowReg path 0x0C value)
def execIndTgl (path : Path) (value : Nat) (s : State) : Host.Outcome State Fault Refusal :=
  .next (s.windowReg path 0x10 value)
/-- R390: a write of 1 to `FETCH`; `AUTOINC` and `RD_AHEAD` stay as they are. -/
def execIndFetch (path : Path) (s : State) : Host.Outcome State Fault Refusal :=
  .next (s.windowReg path 0x14 (4 + s.get .IND_CTL_AUTOINC path.ix + 2 * s.get .IND_CTL_RD_AHEAD path.ix))
/-- R391: the access in progress completes. -/
def execFetchComplete (path : Path) (s : State) : Host.Outcome State Fault Refusal :=
  .next (s.seeInts (fun s => s.winSettle path true))

/-! ### `REG_READ` and `REG_WRITE` (10_ecrax_opcodes.md R254) -/

/-- The status of a word read, and of a word written, that ended in a code. -/
def readStatus (code : Nat) : Nat :=
  if code == rASLEEP then stDOMAIN_ASLEEP else if code == rFENCED then stTARGET_FENCED else stOK
def writeStatus (code : Nat) : Nat :=
  if code == rOK then stOK else if code == rASLEEP then stDOMAIN_ASLEEP else if code == rFENCED then stTARGET_FENCED
  else if code == rHELD then stBUSY else stBAD_PARAM

/-- One word of `REG_READ`: form 1 goes through the Ecrax window, with no read-ahead. -/
def State.cmdRead (s : State) (ind : Bool) (addr : Nat) : State × Nat × Nat :=
  if ind then
    let r := s.indRead .ecrax (s.indAddr .ecrax)
    (r.1.winStart .ecrax true 0 r.2.1 r.2.2, r.2)
  else s.directRead .ecrax false addr

/-- One word of `REG_WRITE`. -/
def State.cmdWrite (s : State) (ind : Bool) (addr : Nat) (m : WMode) (v : Nat) : State × Nat :=
  if ind then
    let r := s.indWrite .ecrax (s.indAddr .ecrax) m v
    (r.1.winStart .ecrax false 0 0 r.2, r.2)
  else s.directWrite .ecrax false addr m v

/-- The words of `REG_READ` in address order, up to the first that fails: the state, the words and the status. -/
def State.cmdReads (s : State) (ind : Bool) (addr : Nat) : Nat → State × List Nat × Nat
  | 0 => (s, [], stOK)
  | n + 1 =>
    let r := s.cmdRead ind addr
    let st := readStatus r.2.2
    if st != stOK then (r.1, [], st)
    else
      let x := (if ind then r.1.indAdvance .ecrax else r.1).cmdReads ind (addr + 4) n
      (x.1, r.2.1 :: x.2.1, x.2.2)

/-- The words of `REG_WRITE` in address order, up to the first that fails: the state, how many, and the status. -/
def State.cmdWrites (s : State) (ind : Bool) (addr : Nat) (m : WMode) : List Nat → State × Nat × Nat
  | [] => (s, 0, stOK)
  | v :: rest =>
    let r := s.cmdWrite ind addr m v
    let st := writeStatus r.2
    if st != stOK then (r.1, 0, st)
    else
      let x := (if ind then r.1.indAdvance .ecrax else r.1).cmdWrites ind (addr + 4) m rest
      (x.1, x.2.1 + 1, x.2.2)

/-- `REG_READ`. -/
def execRegRead (p : Packet) (s : State) : Host.Outcome State Fault Refusal :=
  .next (runOp 0xA0 p noWake (fun p s =>
    let ind := p.u8 0 == 1
    let r := (if ind then s.setIndAddr .ecrax (p.u32 4) else s).cmdReads ind (p.u32 4) (p.u16 2)
    { st := r.1, status := r.2.2,
      results := if r.2.2 == stOK then r.2.1.flatMap (toLE 4) else toLE 2 r.2.1.length }) s)

/-- The way of a `REG_WRITE` operation. -/
def opMode (n : Nat) : WMode := if n == 0 then .write else if n == 1 then .setBits else if n == 2 then .clearBits else .toggle

/-- `REG_WRITE`. -/
def execRegWrite (p : Packet) (s : State) : Host.Outcome State Fault Refusal :=
  .next (runOp 0xA1 p noWake (fun p s =>
    let ind := p.u8 0 == 1
    let ws := (List.range (p.u16 2)).map (fun i => p.u32 (8 + 4 * i))
    let r := (if ind then s.setIndAddr .ecrax (p.u32 4) else s).ibiCheck.cmdWrites ind (p.u32 4) (opMode (p.u8 1)) ws
    { st := r.1.ibiCheck, status := r.2.2, results := if r.2.2 == stOK then [] else toLE 2 r.2.1 }) s)

end Sys2Proof.Machine
end

