-- ==== Sys2Proof/Machine/DebugCmds.lean ====
section
/-! DEFINITION. The debug access port (15_security_and_debug.md R362 to R367). -/

namespace Sys2Proof.Machine

/-- A register access by the debugger. -/
def State.debugRegister (s : State) (acc : DebugAccess) : State :=
  match acc.what with
  | .read =>
    let r := s.permit .debug acc.ind acc.addr none
    if !r.2 then r.1
    else
      let x := if acc.ind then r.1.indRead .debug acc.addr else r.1.directRead .debug false acc.addr
      { x.1.pathCode .debug acc.addr x.2.2 with lastRead := x.2.1 }
  | .write v =>
    let r := s.permit .debug acc.ind acc.addr (some v)
    if !r.2 then r.1
    else r.1.seeInts (fun s =>
      let x := if acc.ind then s.indWrite .debug acc.addr .write v else s.directWrite .debug false acc.addr .write v
      x.1.pathCode .debug acc.addr x.2)
  | _ => s

/-- A word of a data memory, as a debugger reads it: the word it wrote there last; what stands elsewhere in such a memory, and
where a packet lies in it, the spec does not lay out (DESIGN CHOICE, notes/assumptions/194.md). In FIELD it reads 0 (R367). -/
def State.debugData (s : State) (d a : Nat) : State :=
  if s.lifecycle == lcFIELD then { s with lastRead := 0 }
  else match s.sec.dataWords.find? (fun w => w.1 == d && w.2.1 == a) with
    | some w => { s with lastRead := w.2.2 }
    | none => { s.useFree with lastRead := s.freeVal % 2 ^ 32 }

/-- A debugger writes a word of a data memory; in FIELD the write is ignored (R367). -/
def State.debugStore (s : State) (d a v : Nat) : State :=
  if s.lifecycle == lcFIELD then s
  else { s with sec := { s.sec with
    dataWords := s.sec.dataWords.filter (fun w => !(w.1 == d && w.2.1 == a)) ++ [(d, a, v % 2 ^ 32)] } }

/-- A debugger halts a controller half with its boot, or lets it go on (R362). -/
def State.debugCore (s : State) (h : Nat) (halt : Bool) : State :=
  if halt then { s with sec := { s.sec with halted := bitOr s.sec.halted (2 ^ h) } }
  else { s.superviseAgain with sec := { s.sec with halted := bitClear s.sec.halted (2 ^ h) } }

/-- An access of the debugger that needs a level and a domain, after it has named its target (R364): its effect, or an error
response. -/
def State.debugDo (s : State) (d need : Nat) (ok : Bool) (f : State → State) : State :=
  let s := s.nameTarget d
  let r := s.debugEnds (ok && s.debugMay (some d) need)
  if r.2 then f r.1 else r.1

/-- The boundary-scan instructions that drive pins: EXTEST, CLAMP and HIGHZ, at INVASIVE in FACTORY and RETURN; elsewhere they
act as BYPASS (R362, R367; DEDUCED, notes/assumptions/195.md). -/
def State.mayScan (s : State) : Bool :=
  s.accessLevel == 2 && (s.lifecycle == lcFACTORY || s.lifecycle == lcRETURN)

/-- R367: a debugger's access. What it may not reach completes with an error response and changes nothing; a word read
stands in `lastRead`. -/
def execDebugAccess (acc : DebugAccess) (s : State) : Host.Outcome State Fault Refusal :=
  if !s.pins.dbgEn || s.pins.porstLow then .next s
  else
    match acc.place, acc.what with
    | _, .scan extest => .next { s with sec := { s.sec with scan := extest && s.mayScan } }
    | .secDbg, .read => .next { (s.debugEnds true).1 with lastRead := s.readWord .SEC 0 0x0C }
    | .secDbg, .hbMask on =>
      let r := s.debugEnds s.mayMask
      .next (if r.2 then r.1.superviseAgain.setB .SEC_DBG_HB_MASK 0 on else r.1)
    | .secDbg, _ | .secretRegion, _ => .next (s.debugEnds false).1
    | .register, _ => .next (s.debugRegister acc)
    | .dataMemory, .read => .next (s.debugDo acc.domain 1 true (fun s => s.debugData acc.domain acc.addr))
    | .dataMemory, .write v => .next (s.debugDo acc.domain 2 true (fun s => s.debugStore acc.domain acc.addr v))
    | .core, .halt => .next (s.debugDo acc.domain 2 (acc.domain < 2) (fun s => s.debugCore acc.domain true))
    | .core, .resume => .next (s.debugDo acc.domain 2 (acc.domain < 2) (fun s => s.debugCore acc.domain false))
    | _, _ => .next s

end Sys2Proof.Machine
end

