-- ==== Sys2Proof/Machine/DomainOps.lean ====
section
/-! DEFINITION. The domains and wake group and the faults group of Ecrax opcodes (10_ecrax_opcodes.md R248, R249;
13_power_domains.md R311 to R313, R321; 14_faults_and_takeover.md R337, R351). -/

namespace Sys2Proof.Machine

/-! ### Domains and wake -/

/-- `DOMAIN_SET` (R248, 13_power_domains.md R311, R312). -/
def execDomainSet (p : Packet) (s : State) : Host.Outcome State Fault Refusal :=
  .next (runOp 0x40 p noWake (fun p s =>
    let r := s.requestDomain (p.u8 0) (p.u8 1) 0 (some p.id)
    { st := r.1, status := r.2 }) s)

/-- A domain's byte of `DOMAIN_GET`. -/
def State.domainByte (s : State) (d : Nat) : Nat :=
  (if s.flag .DOM_STAT_TRANS d then 3 else s.get .DOM_STAT_STATE d) + 4 * s.get .DOM_STAT_PEND_STATE d
    + 16 * s.get .DOM_STAT_PEND_VALID d + 32 * s.get .DOM_STAT_FENCED d

/-- `DOMAIN_GET` (R248). -/
def execDomainGet (p : Packet) (s : State) : Host.Outcome State Fault Refusal :=
  .next (runOp 0x41 p noWake (fun _ s => .res s ((List.range 42).map s.domainByte)) s)

/-- `IDLE_POLICY_SET` (R248): refused for a domain that the dependency table never lets leave ON, or never lets take
the state. -/
def execIdlePolicySet (p : Packet) (s : State) : Host.Outcome State Fault Refusal :=
  .next (runOp 0x42 p noWake (fun p s =>
    let d := p.u8 0
    if p.u8 1 != 0 && !bit (allowedMask d) (p.u8 1) then .fail s stDEPENDENCY
    else .ok ((s.set .DOM_IDLE_IDLE_STATE d (p.u8 1)).set .DOM_IDLE_IDLE_MS d (p.u32 4))) s)

/-- `WAKE_CONFIG` (R248, 13_power_domains.md R321): the management-port address match is always enabled. -/
def execWakeConfig (p : Packet) (s : State) : Host.Outcome State Fault Refusal :=
  .next (runOp 0x43 p noWake (fun p s =>
    .res (s.set .PWRD_WAKE_EN_SRC_EN 0 (bits (p.u32 0) 1 5)) (toLE 4 (1 + 2 * s.get .PWRD_WAKE_EN_SRC_EN))) s)

/-- `ALARM_SET` (R248). -/
def execAlarmSet (p : Packet) (s : State) : Host.Outcome State Fault Refusal :=
  .next (runOp 0x44 p noWake (fun p s => .ok (s.set .PWRD_ALARM (p.u8 0) (p.u64 8))) s)

/-! ### Faults -/

/-- `FAULT_STATUS` (R249). -/
def execFaultStatus (p : Packet) (s : State) : Host.Outcome State Fault Refusal :=
  .next (runOp 0x50 p noWake (fun _ s =>
    .res s ((List.range 10).map (fun i => unitMask 8 (fun j => s.gecko (8 * i + j)))
      ++ [s.get .FLT_STAT_CLASS_MAX, b2n s.safeHold] ++ toLE 4 (s.get .FLT_STAT_REACT_CNT))) s)

/-- `FAULT_CLEAR` (R249, 14_faults_and_takeover.md R337). -/
def execFaultClear (p : Packet) (s : State) : Host.Outcome State Fault Refusal :=
  .next (runOp 0x51 p noWake (fun p s =>
    let r := clearFault (p.u8 0) s
    { st := r.1, status := r.2 }) s)

/-- `FAULT_LOG_READ` (R249): the model keeps every entry, so the oldest one kept is number 0. -/
def execFaultLogRead (p : Packet) (s : State) : Host.Outcome State Fault Refusal :=
  .next (runOp 0x52 p (fun _ _ => [dDRAM]) (fun p s =>
    .res s (toLE 4 0 ++ toLE 4 s.ecx.faultLog.length
      ++ ((s.ecx.faultLog.drop (p.u32 0)).take (p.u8 4)).flatMap EvRec.bytes)) s)

/-- `FAULT_INJECT` (R249): the source's error pair is driven as a real fault would drive it; kind 0xF breaks the pair
(14_faults_and_takeover.md R328, R329). A fault of the retention memory is injected in a retention list, where it is a UNIT
fault: in the secret region it would be GRAVE, and class 4 may not be injected. A NOTICE comes by coded message alone, as does
the error of a source whose pair is set aside (R328, R329), and an unacknowledged AVSBus request brings the fallback of R320.
-/
def execFaultInject (p : Packet) (s : State) : Host.Outcome State Fault Refusal :=
  .next (runOp 0x53 p noWake (fun p s =>
    let src := p.u8 0
    let kind := p.u8 1
    if kind == 0xF then
      (if s.flag .FLT_PAIR src then .ok s
       else .ok (((pairSources src).foldl (fun s x => s.set .FLT_PAIR x 1) s).raiseFault src 0xF 0 false))
    else
      let coded := s.flt.aside.contains src || s.classNow src kind 0x800 ≤ 1
      let s := if src == 0x0B && !s.flag .PWRD_AVS_FALLBACK then s.avsFallback else s
      .ok (s.raiseFault src kind (if src == 0x48 then 0x800 else 0) coded)) s)

end Sys2Proof.Machine
end

