-- ==== Sys2Proof/Machine/FaultCmds.lean ====
section
/-! DEFINITION. The commands of the fault collector, the token arbiter and the takeovers
(14_faults_and_takeover.md). -/

namespace Sys2Proof.Machine

/-- The skein die of a source that reports over its die's combined pair (R331). -/
def skeinOfSrc (src : Nat) : Option Nat := if 0x30 ≤ src && src ≤ 0x47 then some (src % 8) else none

/-- The combined pair of a skein has gone to 10, and no message has named its source yet (R331). -/
def State.pairWaits (s : State) (k : Nat) : Option Nat := (s.flt.skPairs.find? (fun p => p.1 == k)).map (·.2)
/-- A reaction window is open: an error is taken in one, or a combined pair at 10 has opened one (R335, R351). -/
def State.noteReacting (s : State) : State :=
  s.setB .FLT_STAT_REACTING 0 (s.flt.window.isSome || !s.flt.skPairs.isEmpty)
def State.dropPair (s : State) (k : Nat) : State :=
  ({ s with flt := { s.flt with skPairs := s.flt.skPairs.filter (fun p => p.1 != k) } } : State).noteReacting

/-- The error that a combined pair showed at `t` has been named: its detection is the pair's (R335), so it comes before an
error that other sources reported meanwhile (R336). -/
def State.detectedAt (s : State) (t src kind addr : Nat) : State :=
  { s with flt := { s.flt with window := s.flt.window.map (fun w =>
    if w.start ≤ t || !w.errs.contains ⟨src, kind, addr⟩ then w
    else if w.src == src then { w with start := t }
    else { w with start := t, src := src, kind := kind, addr := addr, coded := false, second := w.src }) } }

/-- R335 step 4: the lead half is notified, the window closes, one event is formed and `INTC_PEND.FAULT` is set. A takeover of
the lead half is notified once the new lead runs (R335). While a combined pair that read 10 in the window has not been named,
the notification waits for its name, so that the error merges (R336; DESIGN CHOICE, notes/assumptions/189.md). -/
def State.notify (s : State) : State :=
  if !s.flt.skPairs.isEmpty then { s with flt := { s.flt with notifyDue := true } }
  else
    let s := { s with flt := { s.flt with notifyDue := false } }
    match s.flt.window with
    | none => s
    | some w =>
      if s.flt.takeover.isSome && !s.safeHold then s
      else
        let s := s.set .INTC_PEND_FAULT 0 1
        let s := ({ s with flt := { s.flt with window := none } } : State).noteReacting
        s.faultEvent w.src w.kind w.cls w.addr w.second (w.second != 255) w.coded

/-- The notification that waited for a name. -/
def State.notifyWaiting (s : State) : State := if s.flt.notifyDue then s.notify else s

/-- R331: 10 µs after a skein's combined pair went to 10 without a valid message: kind `LINK` on 0x40 + k. -/
def State.pairLate (s : State) (k : Nat) : State :=
  match s.pairWaits k with
  | none => s
  | some t =>
    if t + 10000 ≤ s.dt then ((s.dropPair k).raiseFault (0x40 + k) 0xB 0 false).detectedAt t (0x40 + k) 0xB 0 |>.notifyWaiting else s

/-- The skein die fences its own unit within 2 µs, without waiting for the collector (R331): its die-to-die domain, or its
end of the link; its power path has switched off by itself (03_feeds.md, 04_port_power.md). -/
def State.skeinFence (s : State) (src kind : Nat) : State :=
  if 0x30 ≤ src && src ≤ 0x37 then s.fenceDomain (dSKL (src - 0x30))
  else if 0x40 ≤ src && src ≤ 0x47 && kind == 0xB then s.loseLink (src - 0x40)
  else s

/-- R335, R336: a pair reads 10. The error is the source's own, of class UNIT or above; a pair that was set aside is no
longer acted on (R329), and a NOTICE never drives a pair. A skein die has one pair for its three sources: it fences its own
unit, and the coded message that follows names the one meant (R331). -/
def execErrorPairSet (src kind addr : Nat) (s : State) : Host.Outcome State Fault Refusal :=
  if srcReserved src || s.classNow src kind addr ≤ 1 then .next s
  else match skeinOfSrc src with
  | some k =>
    let s := (s.skeinFence src kind).targetFenced s
    .next (if s.flt.aside.contains src || (s.pairWaits k).isSome then s
      else ({ s with flt := { s.flt with skPairs := s.flt.skPairs ++ [(k, s.dt)] } } : State).noteReacting)
  | none => .next (if s.flt.aside.contains src then s else s.raiseFault src kind addr false)

/-- The fields of a coded message (R330). -/
def codedSrc (w : Nat) : Nat := bits w 40 8
def codedKind (w : Nat) : Nat := bits w 36 4
def codedAddr (w : Nat) : Nat := bits w 8 24
def codedBytes (w : Nat) : List Nat := [bits w 40 8, bits w 32 8, bits w 24 8, bits w 16 8, bits w 8 8]

/-- R330: a coded message. A bad CRC is counted and discarded; a good one is acknowledged and taken. The pair may have opened
the reaction with the same error: then the message is that error, which was not received as a coded message (R336); nor was
one that a combined pair has shown. -/
def execCodedMessage (word : Nat) (s : State) : Host.Outcome State Fault Refusal :=
  if crc8 (codedBytes word) != bits word 0 8 then .next (s.count .FLT_CNT_CODED_BAD_CNT 0)
  else
    let s := { s with flt := { s.flt with coded := s.flt.coded.filter (fun c => c.word != word) } }
    let src := codedSrc word
    let late := match skeinOfSrc src with
      | some k => s.pairLate k
      | none => s
    let pair := (skeinOfSrc src).bind late.pairWaits
    let s := match skeinOfSrc src with
      | some k => late.dropPair k
      | none => late
    if srcReserved src || s.sameError src (codedKind word) (codedAddr word) then .next s.notifyWaiting
    else
      .next ((s.raiseFault src (codedKind word) (codedAddr word) pair.isNone).detectedAt (pair.getD s.dt) src (codedKind word)
        (codedAddr word)).notifyWaiting

/-- R330: an unacknowledged message is sent again after 10 µs, at most 8 sends in all. The first send enters it. -/
def execCodedMessageRepeat (word : Nat) (s : State) : Host.Outcome State Fault Refusal :=
  match s.flt.coded.find? (fun c => c.word == word) with
  | none => .next { s with flt := { s.flt with coded := s.flt.coded ++ [⟨word, 1, s.dt + 10000⟩] } }
  | some c =>
    if s.dt < c.next then .next s
    else if 8 ≤ c.sends + 1 then
      .next { s with flt := { s.flt with coded := s.flt.coded.filter (fun x => x.word != word) } }
    else
      .next { s with flt := { s.flt with coded := s.flt.coded.map (fun x =>
        if x.word == word then { x with sends := x.sends + 1, next := s.dt + 10000 } else x) } }

/-- R331: no valid message followed a skein's pair error within 10 µs. -/
def execLinkMessageTimeout (skein : Nat) (s : State) : Host.Outcome State Fault Refusal :=
  if skein < 8 then .next (s.pairLate skein) else .next s

/-- R328, R329: a pair at 00 or 11 for at least 3 collector clocks is broken; fewer are ignored. The pair that the sources of
a skein die share is broken for all three (R331). -/
def execPairBroken (src clocks : Nat) (s : State) : Host.Outcome State Fault Refusal :=
  if clocks < 3 || srcReserved src || s.flag .FLT_PAIR src then .next s
  else
    let s := (pairSources src).foldl (fun s x => s.set .FLT_PAIR x 1) s
    .next (s.raiseFault src 0xF 0 false)

/-- R329: a pair that has shown 01 for 1 ms continuously is whole again. -/
def execPairWhole (src forNs : Nat) (s : State) : Host.Outcome State Fault Refusal :=
  if forNs < 1000000 then .next s else .next ((pairSources src).foldl (fun s x => s.set .FLT_PAIR x 0) s)

/-- R335 step 4: the notification of the lead half. -/
def execFaultNotification (s : State) : Host.Outcome State Fault Refusal := .next s.notify

/-- R337: writing 1 to gecko bits of register `reg` clears each under its clear condition. -/
def execGeckoClearWrite (reg mask : Nat) (s : State) : Host.Outcome State Fault Refusal :=
  .next (clearGeckos reg mask s)

/-- R340: a 100 µs window since the last heartbeat has ended with none in it; the third missed one raises `TIMEOUT` on the
lead half's source. `SEC_DBG.HB_MASK` suspends the supervision while the lead is halted (15_security_and_debug.md R366). The
windows of a new lead run from the grant of the token; those of one that is still in retention from its ON (R344; DEDUCED,
notes/assumptions/122.md). -/
def State.heartbeatMiss (s : State) : State :=
  if !s.flag .FLT_TOKEN_VALID || s.safeHold || !s.domOn (dCTL s.lead) || (s.flag .SEC_DBG_HB_MASK && bit s.sec.halted s.lead) then s
  else if s.dt < s.flt.lastHb + 100000 * (s.flt.missRun + 1) then s
  else
    let s := s.count .FLT_HB_MISSED_CNT 0
    let n := s.flt.missRun + 1
    let s := { s with flt := { s.flt with missRun := n } }
    if n < 3 then s else s.raiseFault (s.lead + 1) 3 0 false

/-- The heartbeat windows that have ended by now are counted; a heartbeat at the end of one is late (00_scope.md R13). -/
def State.heartbeatMisses (s : State) : State :=
  s.heartbeatMiss.heartbeatMiss.heartbeatMiss

/-- R340, R351: a heartbeat over the lead half's private path; a write from any other path is ignored, and a half that a
debugger halts sends none (15_security_and_debug.md R366). -/
def execFltHb (half seq : Nat) (handover : Bool) (s : State) : Host.Outcome State Fault Refusal :=
  let s := s.heartbeatMisses
  if s.flag .FLT_TOKEN_VALID && s.lead == half && !s.safeHold && !bit s.sec.halted half then
    let s := (s.set .FLT_HB_SEQ 0 seq).setB .FLT_HB_HANDOVER 0 handover
    .next { s with flt := { s.flt with lastHb := s.dt, missRun := 0 } }
  else .next s

/-- R340: a heartbeat window of the lead half ends. -/
def execLeadHeartbeatTimeout (s : State) : Host.Outcome State Fault Refusal :=
  .next s.heartbeatMiss

/-- The record that the vote of its copies gives is the record: the holder, or none (R339, R342). -/
def State.voteToken (s : State) (c : Nat) : State :=
  ({ s with flt := { s.flt with copies := [c, c, c] } }.setB .FLT_TOKEN_HOLDER 0 (c == 2)).setB .FLT_TOKEN_VALID 0 (c == 1 || c == 2)

/-- R342: the three copies of the token record, as they read. -/
def execTokenRecordMismatch (c0 c1 c2 : Nat) (s : State) : Host.Outcome State Fault Refusal :=
  if c0 == c1 && c1 == c2 then .next s
  else
    let maj := if c0 == c1 || c0 == c2 then some c0 else if c1 == c2 then some c1 else none
    match maj with
    | some c => .next ((s.voteToken c).raiseFault 0x03 0xD 0)
    | none =>
      let pref := s.get .SYS_STRAP_PREFHALF
      let s := (s.set .FLT_TOKEN_PREF_USED 0 1).raiseFault 0x03 0xD 0
      if !s.domFenced (dCTL pref) then .next (s.setToken pref)
      else if !s.domFenced (dCTL (1 - pref)) then .next (s.setToken (1 - pref))
      else .next ((s.set .FLT_TOKEN_VALID 0 0).raiseFault 0x03 3 0)

/-- R343: a shared write from the half that does not hold the token. The interrupted half re-enters the standby role
and resynchronises from the journal. -/
def execSharedWriteRefused (half : Nat) (s : State) : Host.Outcome State Fault Refusal :=
  if s.flag .FLT_TOKEN_VALID && s.lead != half && half < 2 then
    .next ((s.count .FLT_TOKEN_REFUSED_CNT 0).raiseFault 0x03 4 0)
  else .next s

/-- R337, R361: the state copy of a cleared or updated half is complete: it is hot standby. -/
def execStateCopyComplete (s : State) : Host.Outcome State Fault Refusal :=
  let h := 1 - s.lead
  if s.flag .FLT_TOKEN_VALID && s.boot.booted.getD h false && s.domOn (dCTL h) then
    .next (s.set .FLT_TOKEN_STANDBY_HOT 0 1)
  else .next s

/-- `FW_DONE` (10_ecrax_opcodes.md R255): status and version. -/
def State.fwDone (s : State) (status version : Nat) : State :=
  s.deviceEvent 3 (detailOf [(0, 2, status), (2, 4, version)])

/-- A takeover has broken off a hitless update (R345): it ends, and `FW_DONE` says `INTERNAL`. -/
def State.endUpdate (s : State) : State :=
  if s.boot.phase == 0 then s
  else ({ s with boot := { s.boot with phase := 0, updated := false } } : State).fwDone stINTERNAL (s.slotVersion s.otherSlot)

/-- R344 steps 5 and 6: the new lead runs once its domain is ON: device event 4; the Ecrax window is back at offset 0 of
space 0 (17_registers.md R393). A hitless update that the takeover broke off ends (notes/assumptions/161.md). -/
def execTakeoverComplete (s : State) : Host.Outcome State Fault Refusal :=
  if s.flt.takeover.isSome && s.domOn (dCTL s.lead) && !s.safeHold then
    let s := ({ s with flt := { s.flt with takeover := none } } : State).rerunCommands
    let s := ((s.set .IND_ADDR_OFFSET 1 0).set .IND_ADDR_UNIT 1 0).set .IND_ADDR_SPACE 1 0
    .next (s.deviceEvent 4 (detailOf [(0, 1, s.lead)])).endUpdate
  else .next s

/-- R334 source 0x0C: the reference absent for 10 µs. -/
def execReferenceAbsentTimeout (absentNs : Nat) (s : State) : Host.Outcome State Fault Refusal :=
  if absentNs < 10000 || !s.flag .PWRD_CLK_REF_RUN then .next s
  else
    let s := { s with flt := { s.flt with refAbsentFrom := some s.dt } }
    .next (s.raiseFault 0x0C 3 0)

/-- R334 source 0x0C: 10 ms of stable oscillation end the live cause. -/
def execReferenceStable (stableNs : Nat) (s : State) : Host.Outcome State Fault Refusal :=
  if stableNs < 10000000 then .next s
  else .next { s with flt := { s.flt with refAbsentFrom := none } }

/-- R334 source 0x00: the periodic comparator self-test and copy vote. -/
def execCollectorSelfTest (outcome : SelfCheck) (s : State) : Host.Outcome State Fault Refusal :=
  match outcome with
  | .pass => .next s
  | .outvoted => .next (s.raiseFault 0x00 0 0)
  | .failed => .next (s.raiseFault 0x00 0xD 0)

/-- R334 source 0x0C, R51: the 32.768 kHz crystal stops after use: the RC oscillator is used, a NOTICE is raised. -/
def execXtal32Stop (s : State) : Host.Outcome State Fault Refusal :=
  if s.flag .AON_CLK_SLOW_SRC then
    let s := ((s.set .AON_CLK_SLOW_SRC 0 0).set .AON_CLK_XTAL_STOPPED 0 1).set .TIME_STAT_XTAL32 0 0
    .next (s.raiseFault 0x0C 0 0)
  else .next s

/-- R338: retraining run by a clear ends. A pass clears the bit; a link then gets its configuration check (R18), a DRAM
channel its mirror rebuild (R347). A failure leaves the bit set. -/
def execTrainingComplete (src : Nat) (pass : Bool) (s : State) : Host.Outcome State Fault Refusal :=
  .next (endTraining src pass s)

/-- R347: the mirror copy is complete. -/
def execMirrorRebuildComplete (s : State) : Host.Outcome State Fault Refusal :=
  if s.flag .FLT_STAT_REBUILDING then
    .next ((s.rebuildEnded.set .FLT_STAT_MIRROR_DEGRADED 0 0).mirrorRebuilt)
  else .next s

/-- R345: step 2 has failed: the standby boots the running image again, and is hot standby once it runs and its state copy is
complete (15_security_and_debug.md R361); `FW_DONE` says why. -/
def State.bootAgain (s : State) (status : Nat) : State :=
  let s := { s with boot := { s.boot with phase := 0, updated := false, booted := s.boot.booted.set (1 - s.lead) false } }
  (s.set .FLT_TOKEN_STANDBY_HOT 0 0).fwDone status (s.slotVersion s.otherSlot)

/-- R345: step 2 is not complete within 1 s. -/
def State.activationLate (s : State) : State :=
  if s.boot.phase == 1 && !s.boot.updated && s.boot.phaseFrom + 1000000000 ≤ s.dt then s.bootAgain stINTERNAL else s

/-- R345 step 2: the standby, whose domain is ON, has booted the new image and holds a full state copy. SEC has verified the
slot before the half loads it, and `verified` says whether the digest of what it loaded agrees (15_security_and_debug.md R360,
R361). When verification or boot fails, it boots the running image again and `FW_DONE` says why. At 1 s it is late
(00_scope.md R13). -/
def execStandbyUpdated (verified booted : Bool) (s : State) : Host.Outcome State Fault Refusal :=
  let s := s.activationLate
  let h := 1 - s.lead
  let c := imageCheck s (s.slot s.otherSlot).bytes
  if s.boot.phase != 1 || s.boot.updated || !s.domOn (dCTL h) || s.domFenced dSEC then .next s
  else if c != 0 then .next ((s.imageRefused c).bootAgain stVERIFY_FAILED)
  else if verified && booted then
    let v := s.slotVersion s.otherSlot
    .next { s.set .FLT_TOKEN_STANDBY_HOT 0 1 with
      boot := { s.boot with updated := true, versions := s.boot.versions.set h v } }
  else if verified then .next (s.bootAgain stINTERNAL)
  else .next ((s.noteRefused 6).bootAgain stVERIFY_FAILED)

/-- R345 step 3: at a commit point the lead writes its final heartbeat with the handover flag and the token moves; no
fault is raised and the takeover is counted. -/
def execHandover (s : State) : Host.Outcome State Fault Refusal :=
  if s.boot.phase == 1 && s.boot.updated && s.flag .FLT_TOKEN_STANDBY_HOT && s.flag .FLT_TOKEN_VALID
      && !s.domFenced (dCTL (1 - s.lead)) then
    let h := 1 - s.lead
    let s := (s.addTo .FLT_HB_SEQ 0 1).set .FLT_HB_HANDOVER 0 1
    let s := ((s.setToken h).count .FLT_TOKEN_TKO_CNT 0).set .FLT_TOKEN_STANDBY_HOT 0 0
    .next { s with boot := { s.boot with phase := 2 } }
  else .next s

/-- R345 step 4: the new lead runs the new image; device event 4. -/
def execNewLeadRunning (s : State) : Host.Outcome State Fault Refusal :=
  if s.boot.phase == 2 then
    let v := s.slotVersion s.otherSlot
    let s := ({ s with boot := { s.boot with phase := 3, versions := s.boot.versions.set s.lead v } } : State).rerunCommands
    let s := ((s.set .IND_ADDR_OFFSET 1 0).set .IND_ADDR_UNIT 1 0).set .IND_ADDR_SPACE 1 0
    .next (s.deviceEvent 4 (detailOf [(0, 1, s.lead)]))
  else .next s

/-- R345 step 5: the former lead has booted the new image and is hot standby; the new slot is marked active for boot,
and its image is the firmware working copy. -/
def execFormerLeadUpdated (s : State) : Host.Outcome State Fault Refusal :=
  if s.boot.phase == 3 && !s.domFenced (dCTL (1 - s.lead)) then
    let slot := s.otherSlot
    let v := s.slotVersion slot
    let s := s.takeImage (s.slot slot).bytes
    let s := { s with boot := { s.boot with phase := 0, updated := false, verified := false,
                                            versions := [v, v] } }
    let s := (s.markActive slot).set .SEC_BOOT_SLOT 0 slot
    .next ((s.set .FLT_TOKEN_STANDBY_HOT 0 1).fwDone stOK v)
  else .next s

/-- R345: the second of step 2 has passed. -/
def execActivationTimeout (s : State) : Host.Outcome State Fault Refusal := .next s.activationLate

end Sys2Proof.Machine
end

