-- ==== Sys2Proof/Machine/FeedCmds.lean ====
section
/-! DEFINITION. The events of the feed controllers (03_feeds.md R55 to R78). Each carries what the controller measured;
a measurement that does not meet the rule's condition leaves the feed as it is. -/

namespace Sys2Proof.Machine

/-- The feed exists and its skein's always-on section is powered (R54). -/
def State.feedRuns (s : State) (u : Nat) : Bool := u < 16 && (s.skein (skeinOfFeed u)).powered

/-! ### What the controller computes from its samples -/

/-- The current in mA from the shunt voltage in µV and `R_UOHM`, rounded down (R75; notes/assumptions/25.md). -/
def State.shuntMa (s : State) (u : Nat) (shuntUv : Int) : Int := shuntUv * 1000 / (s.get .FEED_SHUNT_R_UOHM u : Int)

/-- V_DS of the pair in µV: (VIN − VSNS) − (SNSP − SNSM) (R64). -/
def vdsUv (vinMv railMv : Nat) (shuntUv : Int) : Int := ((vinMv : Int) - railMv) * 1000 - shuntUv

/-- The shunt voltage has reached `ILIM_MV` in a state that it limits (R55, R60). -/
def State.limitHit (s : State) (u : Nat) (shuntUv : Int) : Bool :=
  s.feedRuns u && (s.fst u == fINRUSH || s.fst u == fJOINING || s.fst u == fON)
  && decide ((1000 * s.get .FEED_LIMIT_ILIM_MV u : Nat) ≤ shuntUv)

/-- The fault timer of a feed in `LIMIT` has reached `FTIME_MS` (R62). -/
def State.faultTimeUp (s : State) (u : Nat) : Bool :=
  s.feedRuns u && s.tripState u == fLIMIT
  && decide ((s.feed u).limitFrom + 1000000 * s.get .FEED_LIMIT_FTIME_MS u ≤ s.now)

/-- The inrush timeout of a feed in `INRUSH` has expired (R55). -/
def State.inrushTimeUp (s : State) (u : Nat) : Bool :=
  s.feedRuns u && s.tripState u == fINRUSH && decide ((s.feed u).inrushFrom + 50000000 ≤ s.now)

/-- V_DS of a feed in `ON` is below −5 mV (R64). -/
def State.reverseHit (s : State) (u vinMv railMv : Nat) (shuntUv : Int) : Bool :=
  s.feedRuns u && s.fst u == fON && decide (vdsUv vinMv railMv shuntUv < -5000)

/-- The input of a feed in `ON` or `JOINING` has left [`UV`, `OV`) (R64). -/
def State.inputOut (s : State) (u vinMv : Nat) : Bool :=
  s.feedRuns u && (s.fst u == fON || s.fst u == fJOINING) && !s.vinIn u vinMv

/-- A temperature in nano-°C as the register holds it, in 0.1 °C, rounded down (R79; notes/assumptions/24.md). -/
def tenths (t : Int) : Nat := ofInt 16 (t / 100000000)

/-- One 10 µs step of the Cauer ladder (R76): `p` is P_DS in µW and the nodes are in nano-°C, with each quotient
rounded down (notes/assumptions/24.md). -/
def State.ladder (s : State) (u : Nat) (p : Int) : State :=
  let f := s.feed u
  let tref := toInt 8 (s.get .FEED_TLIM_TREF u) * 1000000000
  let q1 := (f.t1 - f.t2) / (s.get .FEED_RTH1 u : Int)
  let q2 := (f.t2 - f.t3) / (s.get .FEED_RTH2 u : Int)
  let q3 := (f.t3 - tref) / (s.get .FEED_RTH3 u : Int)
  let s := s.modFeed u (fun f => { f with
    t1 := f.t1 + 10 * (p - q1) / (s.get .FEED_CTH1 u : Int)
    t2 := f.t2 + 10 * (q1 - q2) / (s.get .FEED_CTH2 u : Int)
    t3 := f.t3 + 10 * (q2 - q3) / (s.get .FEED_CTH3 u : Int) })
  s.set .FEED_TJ_MODEL u (tenths (s.feed u).t1)

/-- R77: `TJ_WARN` is raised once each time the modelled Tj rises to it. -/
def State.tjWarn (s : State) (u : Nat) : State :=
  let hot := decide ((s.get .FEED_TLIM_TJ_WARN u : Int) * 1000000000 ≤ (s.feed u).t1)
  let was := (s.feed u).warned
  let s := s.modFeed u (fun f => { f with warned := hot })
  if hot && !was then s.feedEvent u 7 else s

/-- The temperature in 0.1 °C that a direct sensor's voltage in µV gives (R78): of a diode, the difference of its forward
voltages; of an NTC, the voltage at its 50 µA source with `NTC_RNOM` and `NTC_BETA`. -/
def State.sensorTenths (s : State) (u uv : Nat) : Int :=
  if s.get .FEED_CFG_TS_TYPE u == 1 then Config.diodeTenths uv
  else Config.ntcTenths uv (s.get .FEED_NTC_NTC_RNOM u) (s.get .FEED_NTC_NTC_BETA u)

/-- The 10 µs update brings the modelled Tj of a conducting feed to `TJ_TRIP` (R77); `p` is P_DS in µW. -/
def State.thermalHit (s : State) (u : Nat) (p : Int) : Bool :=
  feedConducts (s.tripState u) && decide ((s.get .FEED_TLIM_TJ_TRIP u : Int) * 1000000000 ≤ ((s.ladder u p).feed u).t1)

/-- P_DS of the samples in µW, rounded down (R76, R64; notes/assumptions/24.md). -/
def State.pDs (s : State) (u vinMv railMv : Nat) (shuntUv : Int) : Int :=
  vdsUv vinMv railMv shuntUv * s.shuntMa u shuntUv / 1000

/-- A reading of the direct sensor trips the feed (R78). -/
def State.sensorHit (s : State) (u uv : Nat) : Bool :=
  (s.get .FEED_CFG_TS_TYPE u == 1 || s.get .FEED_CFG_TS_TYPE u == 2) && !s.flag .FEED_STAT_TS_FAULT u
  && feedConducts (s.tripState u) && decide ((10 * s.get .FEED_TLIM_TS_TRIP u : Nat) ≤ s.sensorTenths u uv)
  && decide (s.sensorTenths u uv ≤ 2000)

/-- A waiting event of the same tick that limits or switches off feed `u`, or starts its fault timer: it goes before
whatever qualifies (00_scope.md R15, R70; notes/assumptions/139.md). -/
def State.cutsFeed (s : State) (u : Nat) : Instr → Bool
  | .feedCurrentLimit v uv => v == u && s.limitHit u uv
  | .feedFaultTimerExpiry v _ _ => v == u && s.faultTimeUp u
  | .inrushTimeout v => v == u && s.inrushTimeUp u
  | .feedReverseBlock v m => v == u && s.reverseHit u m.vinMv m.railMv m.shuntUv
  | .feedInputOutOfRange v a => v == u && s.inputOut u a
  | .feedThermalModelUpdate v a uv => v == u && s.feedRuns u && s.thermalHit u (s.pDs u a.vinMv a.railMv uv)
  | .feedSensorRead v uv => v == u && s.feedRuns u && s.sensorHit u uv
  | _ => false

/-- Such an event waits for feed `u`, or has run in this tick. -/
def State.cutNow (s : State) (u : Nat) : Bool := s.wasCut u || s.pending.any (s.cutsFeed u)

/-! ### Insertion, joining, limit -/

/-- VIN has been in range for 10 ms and the feed may be inserted (R55). -/
def State.qualifies (s : State) (u vin forNs : Nat) : Bool :=
  s.feedRuns u && s.fst u == fWAITING && decide (10000000 ≤ forNs) && s.vinIn u vin
  && s.flag .FEED_CFG_EN u && s.flag .FEED_CFG_PRESENT u && !(s.feed u).cdlyHigh

/-- Feed A of the skein qualifies in the same tick, so that feed B waits for it (R55). -/
def State.feedAQualifies (s : State) (u : Nat) : Bool :=
  u % 2 == 1 && s.pending.any (fun c => match c with
    | .feedInputQualified v vin n => v == feedMate u && s.qualifies v vin n
    | _ => false)

/-- R55: VIN in range for 10 ms: the first feed slews the rail, one that finds the other in `ON` or `LIMIT` joins, and
one that finds the other slewing keeps its qualification and waits. What limits or switches off the other feed in the same
tick goes before it (00_scope.md R15), and the feed is looked at after that. -/
def execFeedInputQualified (feed vin forNs : Nat) (s : State) : Host.Outcome State Fault Refusal :=
  if s.qualifies feed vin forNs then
    let t := s.modFeed feed (fun f => { f with vin := vin, qualified := true })
    .next (if s.feedAQualifies feed || s.cutNow (feedMate feed) then t else t.letIn feed)
  else .next s

/-- R57, R55: the rail is within 50 mV of VIN: the gate is driven fully. -/
def execRailReached (feed vin rail : Nat) (s : State) : Host.Outcome State Fault Refusal :=
  if s.feedRuns feed && s.fst feed == fINRUSH && vin ≤ rail + 50 && rail ≤ vin + 50 then
    .next (s.modFeed feed (fun f => { f with rail := true }))
  else .next s

/-- R55: GATE − SRC reaches `VGS_FE` after the rail was reached, within the inrush timeout: `ON`. -/
def execFullEnhancement (feed vgsMv : Nat) (s : State) : Host.Outcome State Fault Refusal :=
  if s.feedRuns feed && s.fst feed == fINRUSH && (s.feed feed).rail && 100 * s.get .FEED_LIMIT_VGS_FE feed ≤ vgsMv
      && s.now < (s.feed feed).inrushFrom + 50000000 && !s.cutNow feed then
    .next ((s.set .FEED_STAT_FULL_ENH feed 1).toFeed feed fON)
  else .next s

/-- A feed's share of the skein current in percent (R66). -/
def State.sharePct (s : State) (u : Nat) : Nat :=
  let a := s.get .SKN_CFG_SHARE_A (skeinOfFeed u)
  if u % 2 == 0 then a else 100 - a

/-- A joining feed is within 5 % of skein current of its share, from both feeds' shunt voltages (R55, R66). -/
def State.atShare (s : State) (u : Nat) (ownUv mateUv : Int) : Bool :=
  let i := s.shuntMa u ownUv
  let k := i + s.shuntMa (feedMate u) mateUv
  let d := 100 * i - (s.sharePct u : Int) * k
  decide (d ≤ 5 * k ∧ -(5 * k) ≤ d)

/-- R55, R59: a joining feed is at its share, or its gate is at full drive; where it is not, `FULL_ENH` stays as the last
sample left it (R79). -/
def execShareReached (feed : Nat) (ownUv mateUv : Int) (fullDrive : Bool) (s : State) :
    Host.Outcome State Fault Refusal :=
  if s.feedRuns feed && s.fst feed == fJOINING && (fullDrive || s.atShare feed ownUv mateUv) && !s.cutNow feed then
    .next ((if fullDrive then s.set .FEED_STAT_FULL_ENH feed 1 else s).toFeed feed fON)
  else .next s

/-- R60, R55, R70: the shunt voltage reaches `ILIM_MV`: the limit loop takes the gate and the fault timer starts. -/
def execFeedCurrentLimit (feed : Nat) (shuntUv : Int) (s : State) : Host.Outcome State Fault Refusal :=
  if s.limitHit feed shuntUv then
    .next ((s.modFeed feed (fun f => { f with prev := s.fst feed, limitFrom := s.now })).toFeed feed fLIMIT)
  else .next s

/-- R62, R55: the shunt voltage has been below the threshold for 1 ms and the timer has not expired: the previous state,
the timer at 0. A trip of the same tick goes before (00_scope.md R15). -/
def execFeedLimitExit (feed belowNs : Nat) (s : State) : Host.Outcome State Fault Refusal :=
  if s.feedRuns feed && s.fst feed == fLIMIT && 1000000 ≤ belowNs && !s.faultTimeUp feed && !s.cutNow feed then
    .next (s.toFeed feed (s.feed feed).prev)
  else .next s

/-- The 10 µs thermal update with P_DS = V_DS × I of the samples; at `TJ_TRIP` a conducting feed trips (R76, R77). -/
def State.thermalUpdate (s : State) (u : Nat) (x : FeedSense) : State :=
  let s := (s.ladder u (s.pDs u x.vinMv x.railMv x.shuntUv)).tjWarn u
  if feedConducts (s.tripState u) && (s.get .FEED_TLIM_TJ_TRIP u : Int) * 1000000000 ≤ (s.feed u).t1 then s.feedTrip u [1]
  else s

/-- A reading of the direct sensor: out of range it is a fault of the sensor, else it corrects T3 and trips a conducting
feed at `TS_TRIP` (R78). The quotient of the correction is rounded down, in nano-degrees (notes/assumptions/24.md). -/
def State.sensorRead (s : State) (u uv : Nat) : State :=
  if s.get .FEED_CFG_TS_TYPE u == 1 || s.get .FEED_CFG_TS_TYPE u == 2 then
    let reading := s.sensorTenths u uv
    let s := s.set .FEED_TJ_SENSOR u (ofInt 16 reading)
    if s.flag .FEED_STAT_TS_FAULT u then s
    else if reading < -500 || 2000 < reading then (s.set .FEED_STAT_TS_FAULT u 1).raiseFeedFault u 7
    else
      let s := s.modFeed u (fun f => { f with t3 := f.t3 + (reading * 100000000 - f.t3) / 16 })
      if feedConducts (s.tripState u) && (10 * s.get .FEED_TLIM_TS_TRIP u : Nat) ≤ reading then s.feedTrip u [2] else s
  else s

/-- R62, R63: the fault timer reaches `FTIME_MS`: a trip, one with the thermal trips of the same tick. -/
def execFeedFaultTimerExpiry (feed : Nat) (model : Option FeedSense) (sensorUv : Option Nat) (s : State) :
    Host.Outcome State Fault Refusal :=
  if s.faultTimeUp feed then
    let s := s.feedTrip feed [0]
    let s := match model with
      | some x => s.thermalUpdate feed x
      | none => s
    .next (match sensorUv with
      | some uv => s.sensorRead feed uv
      | none => s)
  else .next s

/-- R55: the insertion is not complete 50 ms after it began. -/
def execInrushTimeout (feed : Nat) (s : State) : Host.Outcome State Fault Refusal :=
  if s.inrushTimeUp feed then .next (s.feedTrip feed [8]) else .next s

/-! ### Thermal model, sensor -/

/-- R76, R77: the 10 µs update of the thermal model. -/
def execFeedThermalModelUpdate (feed : Nat) (volts : FeedVolts) (shuntUv : Int) (s : State) :
    Host.Outcome State Fault Refusal :=
  if s.feedRuns feed then .next (s.thermalUpdate feed { volts with shuntUv := shuntUv }) else .next s

/-- R78: the 10 ms reading of the direct sensor, of which `uv` is the voltage. -/
def execFeedSensorRead (feed uv : Nat) (s : State) : Host.Outcome State Fault Refusal :=
  if s.feedRuns feed then .next (s.sensorRead feed uv) else .next s

/-! ### Reverse blocking and input supervision -/

/-- R64, R55: V_DS below −5 mV: the gate is pulled to SRC. -/
def execFeedReverseBlock (feed : Nat) (sense : FeedSense) (s : State) : Host.Outcome State Fault Refusal :=
  if s.reverseHit feed sense.vinMv sense.railMv sense.shuntUv then
    .next (((s.gateOff feed).toFeed feed fBLOCKED).feedEvent feed 3 |>.count .FEED_CNT_REV_CNT feed)
  else .next s

/-- R64, R55: the input leaves [`UV`, `OV`); of a waiting feed it ends the qualification. -/
def execFeedInputOutOfRange (feed vin : Nat) (s : State) : Host.Outcome State Fault Refusal :=
  if s.inputOut feed vin then
    .next (((s.modFeed feed (fun f => { f with vin := vin })).gateOff feed).toFeed feed fBLOCKED)
  else if s.feedRuns feed && s.fst feed == fWAITING && !s.vinIn feed vin then
    .next (s.modFeed feed (fun f => { f with vin := vin, qualified := false }))
  else .next s

/-- R55: a blocked feed's input is back in range and above the rail; not in a tick that cuts a feed of the skein
(00_scope.md R15). -/
def execFeedBlockedRejoin (feed vin rail : Nat) (s : State) : Host.Outcome State Fault Refusal :=
  if s.feedRuns feed && s.fst feed == fBLOCKED && s.flag .FEED_CFG_EN feed && rail + 20 < vin && s.vinIn feed vin
      && !s.cutNow feed && !s.cutNow (feedMate feed) then
    .next ((s.modFeed feed (fun f => { f with vin := vin })).toFeed feed fJOINING)
  else .next s

/-- R65, R55: a blocked feed's input has stayed out of range for 10 ms: `INPUT_LOST` and a UNIT fault. A later event of
a latched feed shows its input, which the gecko clear looks at (14_faults_and_takeover.md R334). -/
def execInputLost (feed vin forNs : Nat) (s : State) : Host.Outcome State Fault Refusal :=
  if s.feedRuns feed && s.fst feed == fBLOCKED && !s.vinIn feed vin && 10000000 ≤ forNs then
    let s := s.modFeed feed (fun f => { f with vin := vin, inputLost := true })
    .next (((s.toFeed feed fLATCHED).feedEvent feed 4).raiseFeedFault feed 8)
  else .next s

/-- R71, R72: the pin falls below 0.4 V: the cooldown ends. -/
def execCdlyCooldownEnd (feed : Nat) (s : State) : Host.Outcome State Fault Refusal :=
  if s.feedRuns feed && (s.feed feed).cdlyHigh then
    let s := s.modFeed feed (fun f => { f with cdlyHigh := false, charging := false })
    if s.fst feed == fCOOLDOWN || s.fst feed == fINHERITED then .next (s.afterCooldown feed) else .next s
  else .next s

/-! ### The cooldown pin -/

/-- R71: the pin reaches 2.45 V within 20 µs of the start of the charge. -/
def execCdlyCheckMissing (feed : Nat) (s : State) : Host.Outcome State Fault Refusal :=
  if s.feedRuns feed && (s.feed feed).charging && s.now < (s.feed feed).gateOff + 20000 then .next (s.cdlyFailed feed)
  else .next s

/-- R71: the pin is still below 0.4 V 5 ms after the start of the charge. -/
def execCdlyCheckShorted (feed : Nat) (s : State) : Host.Outcome State Fault Refusal :=
  if s.feedRuns feed && (s.feed feed).charging && (s.feed feed).gateOff + 5000000 ≤ s.now then
    .next ((s.modFeed feed (fun f => { f with cdlyHigh := false })).cdlyFailed feed)
  else .next s

/-- R71: the test charge of a gecko clear ends, under the same two checks: the time to 2.45 V and the
level 5 ms after the start. A pass clears `CDLY_FAULT` and leaves the pin at 2.5 V, and the clear that asked for the test is
then taken, if every other cause of the source has ended too. -/
def execCdlyTestCharge (feed : Nat) (charge : CdlyCharge) (s : State) : Host.Outcome State Fault Refusal :=
  if s.feedRuns feed && (s.feed feed).testing && (charge.riseNs < 20000 || (s.feed feed).testFrom + 5000000 ≤ s.now) then
    let s := s.modFeed feed (fun f => { f with testing := false })
    if 20000 ≤ charge.riseNs && 400 ≤ charge.at5Ms then
      let s := (s.set .FEED_STAT_CDLY_FAULT feed 0).modFeed feed (fun f => { f with cdlyHigh := true })
      .next ((takeClear (0x38 + skeinOfFeed feed) s).getD s)
    else .next s
  else .next s

/-- R55, R73: the gate is off and 100 ms have passed since the disable; a deferred enable runs. -/
def execFeedStopped (feed vgsMv : Nat) (s : State) : Host.Outcome State Fault Refusal :=
  if s.feedRuns feed && s.fst feed == fSTOPPING && vgsMv < 1000 && (s.feed feed).gateOff + 100000000 ≤ s.now then
    if s.flag .FEED_STAT_DEFERRED feed then
      .next (((s.set .FEED_CFG_EN feed 1).toFeed feed fWAITING).feedDeferredRan feed)
    else .next (s.toFeed feed fOFF)
  else .next s

/-- R55: 60 s in `ON` with no trip, none in the same tick either (00_scope.md R15). -/
def execFeedRetryReload (feed : Nat) (s : State) : Host.Outcome State Fault Refusal :=
  if s.feedRuns feed && s.fst feed == fON && (s.feed feed).onFrom + 60000000000 ≤ s.now && !s.cutNow feed then
    .next (s.set .FEED_STAT_RETRY_LEFT feed (s.get .FEED_CFG_RETRIES feed))
  else .next s

/-- R55: shunt current above 1 A, 100 µs or more after the gate was switched off: GRAVE. The current exceeds 1 A where
the shunt voltage in µV exceeds `R_UOHM`. -/
def execFeedStuckOn (feed : Nat) (shuntUv : Int) (s : State) : Host.Outcome State Fault Refusal :=
  let p := s.fst feed
  if s.feedRuns feed && (p == fSTOPPING || p == fCOOLDOWN || p == fLATCHED || p == fOFF)
      && (s.get .FEED_SHUNT_R_UOHM feed : Int) < shuntUv && (s.feed feed).gateOff + 100000 ≤ s.now then
    .next (s.raiseFeedFault feed 9)
  else .next s

end Sys2Proof.Machine
end

