-- ==== Sys2Proof/Machine/FeedMeter.lean ====
section
/-! DEFINITION. What the feeds' samples and the end of a settle window do (03_feeds.md R67 to R70, R74, R75), and the
allocation pass of the skein that they feed (04_port_power.md R97). -/

namespace Sys2Proof.Machine

/-- The rail is within ±5 % of `VNOM`, inclusive (R68). -/
def State.railIn (s : State) (k railMv : Nat) : Bool :=
  950 * s.get .SKN_CFG_VNOM k ≤ 100 * railMv && 100 * railMv ≤ 1050 * s.get .SKN_CFG_VNOM k

/-- Add a sample to a feed's window and energy (R74): power in µW times 10 µs is a count of 10 pJ. -/
def State.addFeedSample (s : State) (u vinMv : Nat) (i vds : Int) : State :=
  let e := (s.feed u).eRem + (if 0 < i then vinMv * i.toNat else 0)
  let s := (s.addTo .FEED_E u (e / 100000)).addTo .SKN_E (skeinOfFeed u) (e / 100000)
  s.modFeed u (fun f => { f with
    vin := vinMv, eRem := e % 100000, n := f.n + 1, vinSum := f.vinSum + vinMv, vdsSum := f.vdsSum + vds
    iSum := f.iSum + i, pSum := f.pSum + (vinMv : Int) * i
    qualified := f.qualified && s.vinIn u vinMv })

/-- R74, R69: one 100 kS/s sample of a feed and of the rail: energy, the sums of the window it is stamped in, full
enhancement, and power-good. -/
def execFeedSample (feed vinMv : Nat) (shuntUv : Int) (railMv vgsMv : Nat) (controlled : Bool)
    (s : State) : Host.Outcome State Fault Refusal :=
  if s.feedRuns feed then
    let k := skeinOfFeed feed
    let s := s.closeWindow
    let s := s.addFeedSample feed vinMv (s.shuntMa feed shuntUv) (vdsUv vinMv railMv shuntUv)
    let s := s.modSkein k (fun x => { x with railOk := s.railIn k railMv, vSum := x.vSum + railMv, n := x.n + 1 })
    let s := if s.fst feed == fON || s.fst feed == fJOINING then
        s.setB .FEED_STAT_FULL_ENH feed (decide (100 * s.get .FEED_LIMIT_VGS_FE feed ≤ vgsMv) && !controlled)
      else s
    let s := if s.railIn k railMv then s else s.dropPG k
    .next (s.noteSettle k)
  else .next s

/-- R67: the share loop has held a gate at its floor with an error above 5 % for 20 ms. -/
def execShareLimitSet (feed forNs : Nat) (s : State) : Host.Outcome State Fault Refusal :=
  if s.feedRuns feed && s.flag .SKN_STAT_SHARING (skeinOfFeed feed) && 20000000 ≤ forNs
      && !s.flag .FEED_STAT_SHARE_LIMIT feed then
    .next ((s.set .FEED_STAT_SHARE_LIMIT feed 1).feedEvent feed 6)
  else .next s

/-- R67: the error has been within 5 % for 20 ms. -/
def execShareLimitClear (feed forNs : Nat) (s : State) : Host.Outcome State Fault Refusal :=
  if s.feedRuns feed && 20000000 ≤ forNs then .next (s.set .FEED_STAT_SHARE_LIMIT feed 0) else .next s

/-- R68, R70: the 2 ms settle window is complete: `SKPG_N[k]` is driven low, unless a feed of the skein is limited,
switched off or tripped in the same tick. -/
def execPowerGoodSettled (skein : Nat) (s : State) : Host.Outcome State Fault Refusal :=
  match (s.skein skein).settleFrom with
  | some t =>
    if skein < 8 && t + 2000000 ≤ s.now && s.pgOk skein && !(skeinFeeds skein).any s.cutNow then
      let s := ((s.set .SKN_STAT_PG skein 1).set .SKN_STAT_SETTLING skein 0).modSkein skein
        (fun x => { x with settleFrom := none })
      .next (s.skeinEvent skein 1)
    else .next s
  | none => .next s

/-- What limits or switches off a feed or a port of the skein waits in the same tick. -/
def State.skeinCutNow (s : State) (k : Nat) : Bool := (skeinFeeds k).any s.cutNow || (skeinPorts k).any s.portCutNow

/-- R97: a due allocation pass runs, unless the skein is held (R92) or a limit or a trip of the skein falls in the same tick,
which goes before what grants (00_scope.md R15): the pass stays due. -/
def execAllocationPass (skein : Nat) (s : State) : Host.Outcome State Fault Refusal :=
  if skein < 8 && (s.skein skein).powered && (s.skein skein).passDue && !s.skHeld skein && !s.skeinCutNow skein then
    .next (s.allocationPass skein)
  else .next s

end Sys2Proof.Machine
end

