-- ==== Sys2Proof/Machine/HierCmds.lean ====
section
/-! DEFINITION. The events of the hierarchy: joining, heartbeats, elections, status, Device Time, forwarded packets,
loans, pools and firmware distribution (12_hierarchy.md R277 to R305). -/

namespace Sys2Proof.Machine

/-! ### Membership -/

/-- R284: the listen window of 20 ms ends. A heartbeat was heard: `JOIN`; none, with the role and the strap of a
manager and no election heard: manager. -/
def execListenWindowEnd (s : State) : Host.Outcome State Fault Refusal := .next (s.listenWindowEnd s.dt)

/-- R284: 1 s without a heartbeat: an eligible device starts an election, another becomes a silent island. -/
def execJoinTimeout (s : State) : Host.Outcome State Fault Refusal := .next (s.joinTimeout s.dt)

/-- The device sends heartbeats: a manager, or an eligible island manager (R289). -/
def State.beats (s : State) : Bool := s.hier.st == some 1 || (s.hier.st == some 2 && s.flag .SYS_STRAP_MGR_ELIG)

/-- R285, R280: `HEARTBEAT` at each multiple of 10 ms of DT, on both buses; one not yet sent is replaced. -/
def execHeartbeatSend (s : State) : Host.Outcome State Fault Refusal :=
  let w := s.clock / 10000000
  if !s.beats || w ≤ s.hier.hbTick then .next s
  else
    let h := s.hier
    let data := [h.hbSeq, h.rank, h.active + 2 * b2n (h.st == some 2), h.poolGen % 256] ++ toLE 8 s.memberMask
      ++ toLE 4 h.elections
    let s := (s.hwithdraw tHEARTBEAT).hsendAll tHEARTBEAT 1 63 data
    .next { s with hier := { s.hier with hbTick := w, hbSeq := (h.hbSeq + 1) % 256, hbSent := s.clock } }

/-- A worker of its own manager no longer hears it, and hears another (R290): it takes that one and joins it. -/
def State.missesManager (s : State) : Bool := s.hier.st == some 0 && s.hier.lastHb + 10000000 ≤ s.dt

/-- R290, R284, R280: a manager hears another manager, whose heartbeat names the bus. -/
def State.meetManager (s : State) (src rank stamp : Nat) (bus : Option Nat := none) : State :=
  if better rank src s.hier.rank s.idx then
    (match bus with | some b => s.onBus b | none => s).demote src rank stamp
  else s

/-- R284, R285, R280, R290: a heartbeat. -/
def execHeartbeat (m : HMsg) (s : State) : Host.Outcome State Fault Refusal :=
  .next (receiveMsg tHEARTBEAT m s (fun s =>
    if !m.toAll then s
    else
      let rank := m.u8 1
      let bus := m.u8 2 % 2
      let isle := bit (m.u8 2) 1
      match s.hier.st with
      | some 0 =>
        if m.src == s.hier.mgr then
          let s := s.onBus bus
          { s with hier := { s.hier with lastHb := m.stamp - s.stepped, hbSent := m.stamp,
                                         mgrIsland := isle, memMask := m.u64 4 } }
        else if s.missesManager then ((s.onBus bus).takeManager m.src rank m.stamp true).joined.sendJoin m.src
        else s
      | some 3 =>
        let s := s.onBus bus
        let s := { s with hier := { s.hier with heard := true, mgr := m.src, lastHb := m.stamp - s.stepped,
                                                hbSent := m.stamp, mgrIsland := isle, memMask := m.u64 4 } }
        if s.hier.listened && s.dt < s.hier.tj + 1000000000 then (s.hierMode 1).sendJoin m.src else s
      | some 4 => ((s.onBus bus).takeManager m.src rank m.stamp true).sendWstatus
      | some 1 => s.meetManager m.src rank m.stamp (some bus)
      | some 2 =>
        if s.flag .SYS_STRAP_MGR_ELIG then s.meetManager m.src rank m.stamp (some bus)
        else
          let s := s.onBus bus
          let s := { s with hier := { s.hier with st := some 3, tj := s.dt, listened := true, heard := true,
                                                  mgr := m.src, lastHb := m.stamp - s.stepped,
                                                  hbSent := m.stamp } }
          s.sendJoin m.src
      | _ => s))

/-- R285, R288: the third heartbeat window has ended without one. -/
def execHeartbeatLoss (s : State) : Host.Outcome State Fault Refusal := .next (s.heartbeatLoss s.dt)

/-- R288: a candidate that receives a better `ELECT` withdraws; a joining device listens on (R284). -/
def execElect (m : HMsg) (s : State) : Host.Outcome State Fault Refusal :=
  .next (receiveMsg tELECT m s (fun s =>
    match s.hier.st with
    | some 3 => { s with hier := { s.hier with electOn := true } }
    | some 4 =>
      if s.hier.candidate && better m.src m.seg s.hier.rank s.idx then
        ({ s with hier := { s.hier with candidate := false } } : State).hwithdraw tELECT
      else s
    | _ => s))

/-- R288, R289: the election window of 20 ms ends. With no frame heard since it began the device is alone; a remaining
candidate becomes manager. -/
def execElectionWindowEnd (s : State) : Host.Outcome State Fault Refusal := .next (s.electionWindowEnd s.dt)

/-- R284: no `ANNOUNCE` by tL + 30 ms though frames were heard: a new election. -/
def execElectionRetry (s : State) : Host.Outcome State Fault Refusal := .next (s.electionRetry s.dt)

/-- R284, R288, R290: `ANNOUNCE`. -/
def execAnnounce (m : HMsg) (s : State) : Host.Outcome State Fault Refusal :=
  .next (receiveMsg tANNOUNCE m s (fun s =>
    let rank := m.u8 0
    match s.hier.st with
    | some 0 =>
      if m.src == s.hier.mgr then s.sendWstatus
      else if s.missesManager then (s.takeManager m.src rank m.stamp true).sendWstatus
      else s
    | some 3 => { s with hier := { s.hier with electOn := false } }
    | some 4 => (s.takeManager m.src rank m.stamp true).sendWstatus
    | some 1 => s.meetManager m.src rank m.stamp
    | some 2 => if s.flag .SYS_STRAP_MGR_ELIG then s.meetManager m.src rank m.stamp else s
    | _ => s))

/-- R286, R284, R289: the manager answers a `JOIN`; an eligible island manager becomes a manager by it. -/
def execJoin (m : HMsg) (s : State) : Host.Outcome State Fault Refusal :=
  .next (receiveMsg tJOIN m s (fun s =>
    if !s.forMe m || !s.beats then s
    else
      let s := if s.hier.st == some 2 then
          let t := (s.becomeManager).hierEvent s.idx 5
          { t with hier := { t.hier with hbTick := s.hier.hbTick } }
        else s
      let ack := fun (s : State) (r : Nat) =>
        s.hsend tJOIN_ACK 3 m.src ([r, s.hier.rank, 0, 0] ++ toLE 4 s.hier.poolGen)
      if s.presentWorker m.src then ack s 1
      else
        let elig := bit (m.u8 1) 0
        let old := (s.hier.members.find? (fun x => x.idx == m.src)).getD { idx := m.src }
        let new : Member := { old.settled with rank := m.u8 0, elig := elig, absent := false, last := s.dt }
        let s := { s with hier := { s.hier with
          members := s.hier.members.filter (fun x => x.idx != m.src) ++ [new], lendFrom := s.dt + 200000000 } }
        ((ack s 0).sendPools).hierEvent m.src 0 [(3, 1, b2n elig)]))

/-- R284: an accepted `JOIN_ACK` makes a joining device a worker, whose windows go on from its manager's last heartbeat
(R285); for a worker that has joined a manager it follows already (R290) the delay is to be measured again (R300). -/
def execJoinAck (m : HMsg) (s : State) : Host.Outcome State Fault Refusal :=
  .next (receiveMsg tJOIN_ACK m s (fun s =>
    if !s.forMe m || m.u8 0 != 0 then s
    else if s.fromMgr m then s.joined
    else if s.hier.st != some 3 then s
    else
      let h := s.hier
      let s := (s.takeManager m.src (m.u8 1) m.stamp false).joined
      let s := { s with hier := { s.hier with lastHb := h.lastHb, hbSent := h.hbSent } }
      s.hierEvent s.idx 0 [(3, 1, s.get .SYS_STRAP_MGR_ELIG)]))

/-- R285, R294: `LEAVE` makes the member absent at once. -/
def execLeave (m : HMsg) (s : State) : Host.Outcome State Fault Refusal :=
  .next (receiveMsg tLEAVE m s (fun s =>
    if s.forMe m && s.presentWorker m.src then s.memberGone m.src (m.u8 0) else s))

/-- R285: a worker's `WSTATUS` at its slot, DT 100 n ms + i ms. -/
def execWstatusSend (s : State) : Host.Outcome State Fault Refusal :=
  let w := s.wsSlot
  if s.hier.st != some 0 || 64 ≤ s.hier.mgr || w ≤ s.hier.wsTick then .next s
  else
    let s := s.sendWstatus
    .next { s with hier := { s.hier with wsTick := w } }

/-- R285: no `WSTATUS` has arrived in [last, last + 300 ms): the member is absent. -/
def State.memberTimeout (s : State) (idx : Nat) : State :=
  if (s.hier.st == some 1 || s.hier.st == some 2)
      && s.hier.members.any (fun m => m.idx == idx && !m.absent && m.last + 300000000 ≤ s.dt) then
    s.memberGone idx 3
  else s

/-- R285, R288, R295: the manager records a worker's budgets, loans, wants and currents; the loans stand while a `LOAN` to
it is not acknowledged (R298). -/
def execWstatus (m : HMsg) (s : State) : Host.Outcome State Fault Refusal :=
  .next (receiveMsg tWSTATUS m s (fun s =>
    if !s.forMe m || !(s.hier.st == some 1 || s.hier.st == some 2) then s
    else
      let s := s.memberTimeout m.src
      let col := fun i => (List.range 8).map (fun k => m.u16 (8 * k + i))
      let old := (s.hier.members.find? (fun x => x.idx == m.src)).getD { idx := m.src, target := col 2 }
      let new : Member := { old with absent := false, last := s.dt, budget := col 0,
                                     loan := if old.sentAt.isSome then old.loan else col 2, want := col 4,
                                     draw := col 6 }
      { s with hier := { s.hier with members := s.hier.members.filter (fun x => x.idx != m.src) ++ [new] } }))

/-- R285: no `WSTATUS` in [last, last + 300 ms). -/
def execMemberAbsent (idx : Nat) (s : State) : Host.Outcome State Fault Refusal := .next (s.memberTimeout idx)

/-! ### Device Time -/

/-- R299: `TSYNC` at each multiple of 125 ms of DT, on both buses. -/
def execTsyncSend (s : State) : Host.Outcome State Fault Refusal :=
  let w := s.clock / 125000000
  if s.hier.st != some 1 || w ≤ s.hier.tsTick then .next s
  else
    let q := (s.hier.tsSeq + 1) % 256
    let s := (s.hwithdraw tTSYNC).hsendAll tTSYNC 1 63 [q, 0, 0, 0]
    .next { s with hier := { s.hier with tsTick := w, tsSeq := q, tsSent := [none, none] } }

/-- R299: a worker stamps its manager's `TSYNC`. -/
def execTsync (m : HMsg) (s : State) : Host.Outcome State Fault Refusal :=
  .next (receiveMsg tTSYNC m s (fun s =>
    if s.fromMgr m then
      { s with hier := { s.hier with tsStamp := s.hier.tsStamp.set m.bus (some (m.u8 0, m.stamp)) } }
    else s))

/-- R299: `TFOLLOW` carries the manager's SOF stamp of the `TSYNC` that it has sent on the bus. -/
def execTfollowSend (bus : Nat) (s : State) : Host.Outcome State Fault Refusal :=
  match s.hier.tsSent.getD bus none with
  | some t1 =>
    if s.hier.st != some 1 || 2 ≤ bus then .next s
    else
      let s := s.hsendOn bus tTFOLLOW 1 63 0 s.idx ([s.hier.tsSeq] ++ List.replicate 7 0 ++ toLE 8 t1)
      .next { s with hier := { s.hier with tsSent := s.hier.tsSent.set bus none } }
  | none => .next s

/-- R301: no `TFOLLOW` has arrived in [last, last + 500 ms). -/
def State.followLoss (s : State) : State :=
  if s.flag .TIME_STAT_LOCKED && s.hier.lastFollow + 500000000 ≤ s.dt then s.unlockTime 1 else s

/-- R299 to R302: a worker's offset from the `TSYNC` that a `TFOLLOW` belongs to; the first `TFOLLOW` of a sync sequence
counts (notes/assumptions/38.md). `DREQ` is due 2 ms later for the worker whose turn it is, and after the first one
since it joined. -/
def execTfollow (m : HMsg) (s : State) : Host.Outcome State Fault Refusal :=
  .next (receiveMsg tTFOLLOW m s (fun s =>
    let s := s.followLoss
    if !s.fromMgr m || s.hier.lastFseq == some (m.u8 0) then s
    else match s.hier.tsStamp.getD m.bus none with
      | some (q, t2) =>
        if q != m.u8 0 then s
        else
          let a : Int := (t2 : Int) - m.u64 8
          let turn := s.hier.joinFollow || q % 8 == s.idx % 8
          let s := { s with hier := { s.hier with
            aDiff := some a, lastFollow := s.dt, lastFseq := some q, joinFollow := false,
            dreqAt := if turn then some (s.dt + 2000000) else s.hier.dreqAt } }
          s.judgeOffset (a - s.hier.delay)
      | none => s))

/-- R300: `DREQ`, 2 ms after the `TFOLLOW`. -/
def execDreqSend (s : State) : Host.Outcome State Fault Refusal :=
  match s.hier.dreqAt with
  | some t =>
    if s.hier.st != some 0 || 64 ≤ s.hier.mgr || s.dt < t then .next s
    else
      let q := (s.hier.dreqSeq + 1) % 256
      let s := (s.hwithdraw tDREQ).hsend tDREQ 1 s.hier.mgr [q, 0, 0, 0]
      .next { s with hier := { s.hier with dreqAt := none, dreqSeq := q, dreqStamp := none } }
  | none => .next s

/-- R300, R302: the manager answers a `DREQ` with its stamp, and steps its own DT when the `DREQ` shows the worker ahead
by 1 ms or more (`aheadNs`, what it shows). -/
def execDreq (m : HMsg) (aheadNs : Nat) (s : State) : Host.Outcome State Fault Refusal :=
  .next (receiveMsg tDREQ m s (fun s =>
    if !s.forMe m || s.hier.st != some 1 then s
    else
      let s := s.hsend tDRESP 1 m.src ([m.u8 0] ++ List.replicate 7 0 ++ toLE 8 m.stamp)
      if 1000000 ≤ aheadNs then s.stepTime aheadNs else s))

/-- R300: the path delay and the offset from a `DRESP`; the first one after a join starts the correction. -/
def execDresp (m : HMsg) (s : State) : Host.Outcome State Fault Refusal :=
  .next (receiveMsg tDRESP m s (fun s =>
    if !s.fromMgr m || !s.forMe m || m.u8 0 != s.hier.dreqSeq then s
    else match s.hier.aDiff, s.hier.dreqStamp with
      | some a, some t3 =>
        let b : Int := (m.u64 8 : Int) - t3
        let first := s.hier.delays.isEmpty
        let s := { s with hier := { s.hier with delays := ((a + b) / 2 :: s.hier.delays).take 4, dreqStamp := none } }
        if first then s.judgeOffset ((a - b) / 2) else s
      | _, _ => s))

/-- R301: no `TFOLLOW` in 500 ms. -/
def execTimeUnlockTimeout (s : State) : Host.Outcome State Fault Refusal :=
  .next s.followLoss

/-! ### Forwarded packets and events -/

/-- R292: a segment joins its packet; the whole packet when this was its last one. A segment 5 ms after the one before it is
late (00_scope.md R13). -/
def State.takeSegment (s : State) (reply : Bool) (m : HMsg) (cls : Nat) : State × Option (List Nat) :=
  let mine := fun (x : Segs) => x.reply == reply && x.src == m.src && x.cls == cls
  let old := s.hier.segs.find? mine
  let rest := s.hier.segs.filter (fun x => !mine x)
  let bytes := if m.seg == 0 then some m.data
    else match old with
      | some x => if x.next == m.seg && s.dt < x.last + 5000000 then some (x.bytes ++ m.data) else none
      | none => none
  match bytes with
  | none => ({ s with hier := { s.hier with segs := rest } }, none)
  | some bs =>
    let total := min 4096 (16 + leAt bs 6 2)
    if total ≤ bs.length then ({ s with hier := { s.hier with segs := rest } }, some (bs.take total))
    else
      let x : Segs := { reply := reply, src := m.src, cls := cls, next := m.seg + 1, bytes := bs, last := s.dt }
      ({ s with hier := { s.hier with segs := rest ++ [x] } }, none)

/-- R291, R292: a `CMD` segment; the packet enters the hierarchy channel with its last one. The class is the one of the
frame's priority. -/
def execCmdSegment (m : HMsg) (cls : Nat) (s : State) : Host.Outcome State Fault Refusal :=
  .next (receiveMsg tCMD m s (fun s =>
    if !s.fromMgr m || !s.forMe m || 3 ≤ cls then s
    else
      let r := s.takeSegment false m cls
      match r.2 with
      | some bs => receivePacket .hierarchy m.src bs r.1
      | none => r.1))

/-- The reply that a byte string spells. -/
def replyOf (chan : Chan) (bs : List Nat) : Reply :=
  { chan := chan, opcode := bs.getD 1 0, tag := leAt bs 2 2, dev := bs.getD 4 0, cls := bs.getD 5 0,
    status := leAt bs 8 2, seq := leAt bs 10 2, dup := bit (bs.getD 0 0) 2, results := (bs.drop 16).take (leAt bs 6 2) }

/-- R291, R219: an `RPL` segment; the manager returns the worker's reply on the channel the packet came
from. A reply that arrives at its bound is late (00_scope.md R13). -/
def execRplSegment (m : HMsg) (cls : Nat) (s : State) : Host.Outcome State Fault Refusal :=
  .next (receiveMsg tRPL m s (fun s =>
    if !s.forMe m || !(s.hier.st == some 1 || s.hier.st == some 2) || 3 ≤ cls then s
    else
      let r := s.takeSegment true m cls
      match r.2 with
      | none => r.1
      | some bs =>
        let s := r.1
        match forwardOf s.ecx.forwards m.src bs with
        | none =>
          (match (if leAt bs 8 2 == stREPLACED then forwardOf s.ecx.deferrals m.src bs else none) with
           | some f => s.endDeferral f (replyOf f.pkt.chan bs)
           | none => s)
        | some f =>
          if f.deadline ≤ s.dt then s.forwardLate f
          else
          s.endForward f (replyOf f.pkt.chan bs)))

/-- R292: a partial packet with no segment for 5 ms is discarded. -/
def execSegmentTimeout (reply : Bool) (src : Nat) (cls : Nat) (s : State) : Host.Outcome State Fault Refusal :=
  .next { s with hier := { s.hier with segs := s.hier.segs.filter (fun x =>
    !(x.reply == reply && x.src == src && x.cls == cls && x.last + 5000000 ≤ s.dt)) } }

/-- The event record that 32 bytes spell (09_ecrax_protocol.md R231). -/
def recordOf (bs : List Nat) : EvRec :=
  { cls := bs.getD 1 0, seq := leAt bs 2 2, dev := bs.getD 4 0, unit := leAt bs 6 2, dt := leAt bs 8 8,
    code := leAt bs 16 2, detail := (bs.drop 18).take 10 }

/-- R293: the manager delivers a worker's record on its own paths, unchanged; the fault log holds the device's own
faults only. -/
def execEventFrame (m : HMsg) (s : State) : Host.Outcome State Fault Refusal :=
  .next (receiveMsg tEVENT m s (fun s =>
    if !s.forMe m || !(s.hier.st == some 1 || s.hier.st == some 2) then s
    else
      let t := (s.deliverEvent (recordOf m.data)).flagWake
      { t with ecx := { t.ecx with faultLog := s.ecx.faultLog } }))

/-! ### Loans and pools -/

/-- R296: every 100 ms of DT the manager computes the loans; `LOAN` goes out for every skein whose loan falls (R298), to a
member whose last one is not acknowledged yet at the first computation after its acknowledgement
(notes/assumptions/39.md). -/
def execLoanCompute (s : State) : Host.Outcome State Fault Refusal :=
  let w := s.clock / 100000000
  if s.hier.st != some 1 || w ≤ s.hier.loanTick then .next s
  else
    let s := { s with hier := { s.hier with loanTick := w } }
    if s.dt < s.hier.lendFrom then .next s
    else
      let ls := (List.range 16).flatMap s.poolLoans
      let own := s.selfMember.retarget ls
      let s := { s with hier := { s.hier with
        members := s.hier.members.map (fun (m : Member) => if m.absent then m else m.retarget ls), ownTarget := own.target } }
      let s := (List.range 8).foldl (fun s k =>
        if bit own.falls k then
          let s := s.setLoan k (own.target.getD k 0)
          { s with hier := { s.hier with lowAt := s.dt } }
        else s) s
      let s := (List.range 8).foldl (fun s k => s.set .SKN_BSTAT_LOAN_FROZEN k 0) s
      .next (s.hier.members.foldl (fun (s : State) (m : Member) =>
        if m.absent || m.falls == 0 || m.sentAt.isSome then s
        else
          let g := s.nextGen
          g.1.sendLoan m m.falls g.2) s)

/-- R298: a worker sets its loans, refuses the skeins that are held, and acknowledges; the freeze ends with a `LOAN`
from a manager that is no island. -/
def execLoan (m : HMsg) (s : State) : Host.Outcome State Fault Refusal :=
  .next (receiveMsg tLOAN m s (fun s =>
    if !s.fromMgr m || !s.forMe m then s
    else
      let ks := maskBits 8 (m.u8 1)
      let out := ks.filter (fun k => s.skHeld k || s.linkDead k)
      let s := ks.foldl (fun s k => if out.contains k then s.hierEvent s.idx 16 [(3, 1, k)] else s.setLoan k (m.u16 (4 + 2 * k))) s
      let s := if s.hier.mgrIsland then s else (List.range 8).foldl (fun s k => s.set .SKN_BSTAT_LOAN_FROZEN k 0) s
      s.hsend tLOAN_ACK 2 m.src [m.u8 0, out.foldl (fun w k => w + 2 ^ k) 0, 0, 0]))

/-- R298: the loans a member has applied; a refused skein keeps its old loan. An acknowledgement 50 ms after its `LOAN` is
late (00_scope.md R13): the `LOAN` goes out again. -/
def execLoanAck (m : HMsg) (s : State) : Host.Outcome State Fault Refusal :=
  .next (receiveMsg tLOAN_ACK m s (fun s =>
    match s.hier.members.find? (fun x => x.idx == m.src) with
    | none => s
    | some x =>
      if !s.forMe m || !x.sentAt.any (fun t => s.receivedAt m < t + 50000000) || x.gen != m.u8 0 then s
      else
        let took := fun k => bit x.sentMask k && !bit (m.u8 1) k
        let loan := (List.range 8).map (fun k => if took k then x.sent.getD k 0 else x.loan.getD k 0)
        let target := (List.range 8).map (fun k =>
          if bit x.sentMask k && !took k then x.loan.getD k 0 else x.target.getD k 0)
        let lowered := (List.range 8).any (fun k => took k && x.sent.getD k 0 < x.loan.getD k 0)
        let s := s.modMember m.src (fun x => { x with loan := loan, target := target, sentAt := none })
        if lowered then { s with hier := { s.hier with lowAt := s.dt } } else s))

/-- R298: a `LOAN` not acknowledged for 50 ms goes out again, but none before the manager lends (R288, R290). -/
def execLoanResend (idx : Nat) (s : State) : Host.Outcome State Fault Refusal :=
  match s.hier.members.find? (fun m => m.idx == idx) with
  | none => .next s
  | some m =>
    match m.sentAt with
    | some t =>
      if s.hier.st != some 1 || m.absent || s.dt < t + 50000000 || s.dt < s.hier.lendFrom then .next s
      else .next (s.putLoan m m.sentMask m.gen m.sent)
    | none => .next s

/-- The pool of a skein. -/
def State.poolOfSkein (s : State) (i k : Nat) : Option Nat :=
  (s.hier.poolOf.find? (fun x => x.1 == i && x.2.1 == k)).map (fun x => x.2.2)

/-- What is counted as lent from a pool (R296, R298). -/
def State.poolLent (s : State) (p : Nat) : Nat := (s.poolMembers p).foldl (fun w x => w + x.1.held x.2) 0

/-- The raises of a member that its pools still have room for, beside those already granted in this round, as
(pool, extra). -/
def State.fitRaises (s : State) (m : Member) (extra : List (Nat × Nat)) : Nat × List (Nat × Nat) :=
  (List.range 8).foldl (fun acc k =>
    if !bit m.rises k then acc
    else match s.poolOfSkein m.idx k with
      | none => acc
      | some p =>
        let more := m.target.getD k 0 - m.loan.getD k 0
        let given := ((acc.2.filter (fun x => x.1 == p)).foldl (fun w x => w + x.2) 0)
        if s.poolLent p + given + more ≤ s.hier.caps.getD p 0 then (acc.1 + 2 ^ k, (p, more) :: acc.2) else acc)
    (0, extra)

/-- R298: 100 ms after the lowerings are acknowledged the manager sends the raises, and none before it lends (R288, R290). -/
def execLoanRaise (s : State) : Host.Outcome State Fault Refusal :=
  if s.hier.st != some 1 || s.hier.members.any (fun m => !m.absent && (m.sentAt.isSome || m.falls != 0))
      || (s.hier.lowAt != 0 && s.dt < s.hier.lowAt + 100000000) || s.dt < s.hier.lendFrom then .next s
  else
    let own : Member := { s.selfMember with target := s.hier.ownTarget }
    let r := s.fitRaises own []
    let out := s.hier.members.foldl (fun (acc : State × List (Nat × Nat)) m =>
      if m.absent || m.rises == 0 then acc
      else
        let f := s.fitRaises m acc.2
        if f.1 == 0 then acc
        else
          let g := acc.1.nextGen
          (g.1.sendLoan m f.1 g.2, f.2)) (s, r.2)
    .next ((maskBits 8 r.1).foldl (fun s k => s.setLoan k (own.target.getD k 0)) out.1)

/-- R297: a member keeps the image with the highest generation; a worker discards the frames of a manager that it does not
follow (R290), and the segments of one image come from one manager. -/
def execPoolSync (m : HMsg) (s : State) : Host.Outcome State Fault Refusal :=
  .next (receiveMsg tPOOL_SYNC m s (fun s =>
    if s.hier.st == some 0 && m.src != s.hier.mgr then s
    else
    let old := if s.hier.poolSrc == m.src then s.hier.poolSegs else []
    let parts := old.filter (fun x => x.1 != m.seg && m.seg != 0) ++ [(m.seg, m.data)]
    let img := (List.range 10).flatMap (fun i => ((parts.find? (fun x => x.1 == i)).map (fun x => x.2)).getD [])
    if 580 ≤ img.length && (List.range 10).all (fun i => parts.any (fun x => x.1 == i)) then
      let s := { s with hier := { s.hier with poolSegs := [] } }
      if s.hier.poolGen < leAt img 0 4 then
        let of := (List.range 512).filterMap (fun j =>
          if img.getD (68 + j) 255 ≤ 15 then some (j / 8, j % 8, img.getD (68 + j) 255) else none)
        { s with hier := { s.hier with poolGen := leAt img 0 4, poolOf := of,
                                       caps := (List.range 16).map (fun p => leAt img (4 + 4 * p) 4) } }
      else s
    else { s with hier := { s.hier with poolSegs := parts, poolSrc := m.src } }))

/-- R297: the manager sends the pool image again every 10 s. -/
def execPoolSyncPeriodic (s : State) : Host.Outcome State Fault Refusal :=
  if s.hier.st == some 1 && s.hier.poolAt + 10000000000 ≤ s.dt then .next s.sendPools else .next s

/-! ### Firmware distribution (R303 to R305) -/

/-- Change the worker's or the manager's side of a distribution. -/
def State.modFw (s : State) (f : FwDist → FwDist) : State := { s with hier := { s.hier with fw := f s.hier.fw } }

/-- `FW_NACK` to the manager (R283). -/
def State.sendNack (s : State) (round result : Nat) (chunks : List Nat) : State :=
  s.hsend tFW_NACK 6 s.hier.mgr ([round, result, chunks.length, 0] ++ chunks.flatMap (toLE 2))

/-- The chunks a worker has not gathered, lowest first. -/
def FwDist.lacks (f : FwDist) : List Nat := (List.range f.count).filter (fun c => !(f.chunks.any (fun x => x.1 == c)))

/-- R303 to R305: a worker handles START, CHUNK, END and ABORT; one that the mask of the last START leaves out ignores them
and keeps what it has. -/
def execFwCtrl (m : HMsg) (s : State) : Host.Outcome State Fault Refusal :=
  .next (receiveMsg tFW_CTRL m s (fun s =>
    if !s.fromMgr m then s
    else if m.u8 0 == 1 then
      if bit (m.u64 16) s.idx then
        s.modFw (fun _ => { gather := true, count := m.u16 2, len := m.u32 4, crc := m.u32 8, version := m.u32 12,
                            cur := 65535 })
      else s.modFw (fun f => { f with deaf := true })
    else if !s.hier.fw.gather || s.hier.fw.deaf then s
    else if m.u8 0 == 2 then
      s.modFw (fun f => { f with cur := m.u16 2, curLen := min 4096 (m.u32 4), curCrc := m.u32 8, segs := [] })
    else if m.u8 0 == 3 then
      let f := s.hier.fw
      let s := s.modFw (fun f => { f with rounds := m.u8 1 + 1, segs := [], cur := 65535 })
      if f.writing then s
      else if f.lacks.isEmpty then s.modFw (fun f => { f with writing := true })
      else
        let s := s.sendNack (m.u8 1) 0 (f.lacks.take 30)
        if 7 ≤ m.u8 1 then (s.modFw (fun _ => {})).hierEvent s.idx 14 [(3, 1, 0)] else s
    else if m.u8 0 == 4 then s.modFw (fun _ => {})
    else s))

/-- R303, R304: a data segment; a chunk whose CRC fails is discarded. -/
def execFwData (m : HMsg) (s : State) : Host.Outcome State Fault Refusal :=
  .next (receiveMsg tFW_DATA m s (fun s =>
    let f := s.hier.fw
    if !s.fromMgr m || !f.gather || f.deaf || f.count ≤ f.cur then s
    else
      let segs := f.segs.filter (fun x => x.1 != m.seg) ++ [(m.seg, m.data)]
      let n := (f.curLen + 63) / 64
      if (List.range n).all (fun i => segs.any (fun x => x.1 == i)) then
        let bs := ((List.range n).flatMap (fun i => ((segs.find? (fun x => x.1 == i)).map (fun x => x.2)).getD [])).take f.curLen
        if crc32 bs == f.curCrc then
          s.modFw (fun f => { f with segs := [], chunks := f.chunks.filter (fun x => x.1 != f.cur) ++ [(f.cur, bs)] })
        else s.modFw (fun f => { f with segs := [] })
      else s.modFw (fun f => { f with segs := segs })))

/-- R303: the manager gathers the chunks that some worker misses, within 100 ms of END (00_scope.md R13). -/
def execFwNack (m : HMsg) (s : State) : Host.Outcome State Fault Refusal :=
  .next (receiveMsg tFW_NACK m s (fun s =>
    let f := s.hier.fw
    if !s.forMe m || s.hier.st != some 1 || !f.sending || m.u8 0 != f.round || m.u8 1 != 0
        || (f.endAt != 0 && f.endAt ≤ s.receivedAt m) then s
    else
      let cs := (List.range (min 30 (m.u8 2))).map (fun i => m.u16 (4 + 2 * i))
      s.modFw (fun f => { f with missing := cs.foldl (fun l c =>
        if l.contains c || chunkCount s.fwImage.length ≤ c then l else l ++ [c]) f.missing })))

/-- R303: 100 ms after END the next round starts with what is missing; there are at most eight. -/
def execFwNackWindowEnd (s : State) : Host.Outcome State Fault Refusal :=
  let f := s.hier.fw
  if !f.sending || !f.ended || f.endAt == 0 || s.dt < f.endAt then .next s
  else if f.missing.isEmpty || 7 ≤ f.round then .next (s.modFw (fun _ => {}))
  else
    .next (s.modFw (fun f => { f with round := f.round + 1, ended := false, endAt := 0, missing := [],
                                      waiting := sortBy (fun a b => a < b) f.missing }))

/-- R303 step 6, R305: the gathered image has been written to the inactive slot and checked as `FW_VERIFY` does. -/
def execWorkerImageWritten (s : State) : Host.Outcome State Fault Refusal :=
  let f := s.hier.fw
  if !f.writing then .next s
  else
    let img := ((List.range f.count).flatMap (fun c =>
      ((f.chunks.find? (fun x => x.1 == c)).map (fun x => x.2)).getD [])).take f.len
    let s := s.modFw (fun _ => {})
    let finish := fun (s : State) (result : Nat) =>
      let s := s.sendNack (f.rounds - 1) result []
      if result == 1 then s.hierEvent s.idx 13 [(3, 1, f.rounds), (4, 4, f.version)]
      else s.hierEvent s.idx 14 [(3, 1, result)]
    if s.noFlash then .next (finish s 4)
    else
      let i := s.otherSlot
      let c := if crc32 img != f.crc then 1 else imageCheck s img
      let s := s.setSlot i { bytes := img, state := if c == 0 then 2 else 1 }
      let s := { s with boot := { s.boot with verified := c == 0 } }
      let s := if c == 0 then s else (s.set .SEC_BOOT_FAIL 0 c).setBit .SEC_EVT 0 4
      .next (finish s (if c == 0 then 1 else if c == 5 then 3 else 2))

/-- `FW_BROADCAST` (10_ecrax_opcodes.md R253, R303): answered once sending has started. -/
def execFwBroadcast (p : Packet) (s : State) : Host.Outcome State Fault Refusal :=
  .next (runOp 0x95 p
    (fun _ s => ((List.range 2).filter (fun c => s.get .CAN_CTL_USE c == 0)).map dCAN ++ [dDRAM]) (fun p s =>
      if s.hier.st != some 1 then .fail s stNOT_MANAGER
      else if !s.boot.verified then .fail s stVERIFY_FAILED
      else
        let img := s.fwImage
        let n := chunkCount img.length
        let mask := if p.u64 0 == 0 then 2 ^ 64 - 1 else p.u64 0
        let s := s.modFw (fun _ => { sending := true, waiting := List.range n })
        .ok (s.fwCtrl 1 0 n img.length (crc32 img) (imageVersion img) mask)) s)

end Sys2Proof.Machine
end

