-- ==== Sys2Proof/Machine/HierOpcodes.lean ====
section
/-! DEFINITION. The hierarchy group of Ecrax opcodes (10_ecrax_opcodes.md R250; 12_hierarchy.md R277, R278, R297). -/

namespace Sys2Proof.Machine

/-- The role and rank recorded in the AON domain (12_hierarchy.md R277, R278): a manager given the worker role stops
its heartbeats and does not stand in the election that follows. -/
def State.setRole (s : State) (role rank : Nat) : State :=
  let s := (s.set .AON_HIER_ROLE 0 role).set .AON_HIER_RANK 0 rank
  if role == 0 && s.hier.st == some 1 then
    let s := s.hwithdraw tHEARTBEAT
    { s with hier := { s.hier with st := some 0, mgr := 255, barred := true, lastHb := s.dt } }
  else s

/-- `HIER_ROLE_SET` (R250). -/
def execHierRoleSet (p : Packet) (s : State) : Host.Outcome State Fault Refusal :=
  .next (runOp 0x60 p noWake (fun p s =>
    if p.u8 0 == 1 && !s.flag .SYS_STRAP_MGR_ELIG then .fail s stNOT_ELIGIBLE
    else .ok (s.setRole (p.u8 0) (p.u8 1))) s)

/-- `HIER_STATUS` (R250); a device outside a hierarchy reports state 2 (12_hierarchy.md R279). -/
def execHierStatus (p : Packet) (s : State) : Host.Outcome State Fault Refusal :=
  .next (runOp 0x61 p noWake (fun _ s =>
    let h := s.hier
    let st := h.st.getD 2
    .res s ([st, s.get .AON_HIER_RANK, if h.st.isSome then h.mgr else 255,
        b2n (st == 2) + 2 * b2n (s.hierCans.contains 0) + 4 * b2n (s.hierCans.contains 1)]
      ++ toLE 8 s.memberMask ++ toLE 8 h.hbSent ++ toLE 4 h.elections)) s)

/-- The members a `POOL_DEFINE` names, as (index, skein). -/
def poolMembersOf (p : Packet) : List (Nat × Nat) :=
  ((List.range (p.u16 6)).map (fun i => (p.u8 (8 + 2 * i), p.u8 (9 + 2 * i)))).eraseDups

/-- `POOL_DEFINE` (R250, 12_hierarchy.md R297): the pool is given whole; its image's generation rises and is sent. -/
def execPoolDefine (p : Packet) (s : State) : Host.Outcome State Fault Refusal :=
  .next (runOp 0x62 p noWake (fun p s =>
    let n := p.u8 0
    let cap := p.u32 2
    let named := poolMembersOf p
    let ms := if cap == 0 then [] else named
    if s.hier.st != some 1 then .fail s stNOT_MANAGER
    else if named.any (fun m => s.hier.poolOf.any (fun x => x.1 == m.1 && x.2.1 == m.2 && x.2.2 != n)) then .fail s stBAD_PARAM
    else
      let of := s.hier.poolOf.filter (fun x => x.2.2 != n) ++ ms.map (fun m => (m.1, m.2, n))
      let gen := (s.hier.poolGen + 1) % 2 ^ 32
      let s := { s with hier := { s.hier with caps := s.hier.caps.set n cap, poolOf := of, poolGen := gen } }
      .ok (s.sendPools.hierEvent s.idx 15 [(3, 1, n), (4, 4, gen)])) s)

/-- `POOL_STATUS` (R250). -/
def execPoolStatus (p : Packet) (s : State) : Host.Outcome State Fault Refusal :=
  .next (runOp 0x63 p noWake (fun p s =>
    let n := p.u8 0
    let loanOf := fun (i k : Nat) =>
      if i == s.idx then s.get .SKN_LOAN_LOAN_MA k
      else ((s.hier.members.find? (fun m => m.idx == i)).map (fun m => m.loan.getD k 0)).getD 0
    if s.hier.st != some 1 then .fail s stNOT_MANAGER
    else .res s (toLE 4 (s.hier.caps.getD n 0) ++ toLE 4 (s.poolLent n)
      ++ (s.hier.poolOf.filter (fun x => x.2.2 == n)).flatMap (fun x => [x.1, x.2.1] ++ toLE 2 (loanOf x.1 x.2.1)))) s)

/-- `TIME_GET` (R250). -/
def execTimeGet (p : Packet) (s : State) : Host.Outcome State Fault Refusal :=
  .next (runOp 0x64 p noWake (fun _ s =>
    .res s (toLE 8 s.clock ++ [s.get .TIME_STAT_SYNC + 2 * s.get .TIME_STAT_SLOW_ONLY + 4 * s.get .TIME_STAT_XTAL32,
      0, 0, 0] ++ toLE 4 (s.get .TIME_CORR_CORR_NS))) s)

/-- `TIME_SET` (R250): on a manager, or with no controller in hierarchy use; DT only steps forward. An island manager counts
as a manager here, and as none for pools and firmware (DESIGN CHOICE, notes/assumptions/180.md). -/
def execTimeSet (p : Packet) (s : State) : Host.Outcome State Fault Refusal :=
  .next (runOp 0x65 p noWake (fun p s =>
    if s.hier.st == some 0 then .fail s stNOT_MANAGER
    else if !s.hierCans.isEmpty && s.hier.st != some 1 && s.hier.st != some 2 then .fail s stNOT_MANAGER
    else if p.u64 0 < s.clock then .fail s stBAD_PARAM
    else .ok (s.stepTime (p.u64 0 - s.clock))) s)

/-- `CAN_ASSIGN` (R250, 11_can_controllers.md R262): it takes effect once the frame being transmitted has ended. -/
def execCanAssign (p : Packet) (s : State) : Host.Outcome State Fault Refusal :=
  .next (runOp 0x66 p noWake (fun p s => .ok (s.canUse (p.u8 0) (p.u8 1))) s)

end Sys2Proof.Machine
end

