-- ==== Sys2Proof/Machine/Descriptors.lean ====
section
/-! DEFINITION. The descriptors that the device presents (06_transparent_hub.md R128, 08_loom_function.md R179 to R181,
16_start_up.md R379). Their layouts, string indexes and language are those of USB 2.0, USB 3.2 and DFU 1.1
(notes/assumptions/30.md). -/

namespace Sys2Proof.Machine

/-- What the DFU function of the boot ROM answers to `DFU_GETSTATUS`, six bytes: the status (`errVERIFY` after a failed check),
`bwPollTimeout` in ms, the state and a string index (16_start_up.md R379, R380; the codes are those of DFU 1.1, PRESUMED,
notes/assumptions/30.md). -/
def State.dfuStatus (s : State) : List Nat :=
  let poll := toLE 3 (if s.boot.dfu == .manifestWait then 200 else 10)
  let code := match s.boot.dfu with
    | .dnload => 5
    | .manifestWait => 8
    | .error => 10
    | _ => 2
  [if s.boot.dfu == .error then 7 else 0] ++ poll ++ [code, 0]

/-- A device descriptor. -/
def deviceDesc (bcdUsb cls proto mps0 vid pid : Nat) : List Nat :=
  [18, 1] ++ toLE 2 bcdUsb ++ [cls, 0, proto, mps0] ++ toLE 2 vid ++ toLE 2 pid ++ toLE 2 0x0B00 ++ [1, 2, 3, 1]

/-- A configuration descriptor of one interface with its parts: self-powered, remote wake as given, no bus power. -/
def configDesc (wake : Bool) (parts : List (List Nat)) : List Nat :=
  let body := parts.flatten
  [9, 2] ++ toLE 2 (9 + body.length) ++ [1, 1, 0, 0xC0 + 0x20 * b2n wake, 0] ++ body

/-- An interface descriptor. -/
def ifaceDesc (alt eps cls sub proto : Nat) : List Nat := [9, 4, 0, alt, eps, cls, sub, proto, 0]

/-- An endpoint descriptor. -/
def epDesc (addr attr mps interval : Nat) : List Nat := [7, 5, addr, attr] ++ toLE 2 mps ++ [interval]

/-- A SuperSpeed endpoint companion descriptor. -/
def compDesc (burst attr bytes : Nat) : List Nat := [6, 0x30, burst - 1, attr] ++ toLE 2 bytes

/-- A BOS descriptor with its capabilities. -/
def bosDesc (caps : List (List Nat)) : List Nat :=
  let body := caps.flatten
  [5, 0x0F] ++ toLE 2 (5 + body.length) ++ [caps.length] ++ body

/-- USB 2.0 Extension: LPM and BESL, baseline BESL 4, deep BESL 6 (R128). -/
def usb2Ext : List Nat := [7, 0x10, 2] ++ toLE 4 0x641E

/-- A SuperSpeed capability with its exit latencies, µs: high speed and Gen 1 are among its speeds (R128, 08_loom_function.md
R178); whether it names the two lower ones is open. -/
def ssCap (u1 u2 : Nat) : List Nat :=
  [10, 0x10, 3, 0] ++ toLE 2 (0x000C + Config.ssSpeeds % 4) ++ [Config.ssLowest, u1] ++ toLE 2 u2

/-- A SuperSpeedPlus capability up to Gen 2x2 (R128), in the layout of USB 3.2: four sublink attributes of two identifiers,
receive and transmit at 5 Gb/s (Gen 1) and at 10 Gb/s (Gen 2) a lane, and two lanes each way at the second
(PRESUMED, notes/assumptions/30.md). -/
def sspCap : List Nat :=
  [28, 0x10, 0x0A, 0] ++ toLE 4 0x00000023 ++ toLE 2 0x2202 ++ toLE 2 0
    ++ toLE 4 0x00050031 ++ toLE 4 0x000500B1 ++ toLE 4 0x000A4032 ++ toLE 4 0x000A40B2

/-- The Container ID that both personalities and the Loom function share (R128). -/
def State.containerCap (s : State) : List Nat := [20, 0x10, 4, 0] ++ (Config.containerId s.sec.otp.serial ++ List.replicate 16 0).take 16

/-- A string descriptor. -/
def stringDesc (cs : List Nat) : List Nat := [2 + 2 * cs.length, 3] ++ cs.flatMap (toLE 2)

/-- The characters of a text. -/
def textOf (t : String) : List Nat := t.toList.map Char.toNat

/-- The 16 hexadecimal digits of the serial number (R128, 00_scope.md R3). -/
def hexDigits (v : Nat) : Nat → List Nat
  | 0 => []
  | n + 1 => let d := v / 16 ^ n % 16; (if d < 10 then 48 + d else 55 + d) :: hexDigits v n

/-- The string descriptors: the language, the manufacturer, the product and the serial number. -/
def State.stringOf (s : State) (product : String) (ix : Nat) : Option (List Nat) :=
  if ix == 0 then some [4, 3, 9, 4]
  else if ix == 1 then some (stringDesc (textOf "Brodnor Microdevices"))
  else if ix == 2 then some (stringDesc (textOf product))
  else if ix == 3 then some (stringDesc (hexDigits s.sec.otp.serial 16))
  else none

/-- The USB 2.0 hub's status endpoint and the SuperSpeed hub's. -/
def hubEp : List Nat := epDesc 0x81 3 13 12
def hubSsEp : List Nat := epDesc 0x81 3 2 12 ++ compDesc 1 0 2

/-- The hub descriptors of the two personalities: 97 ports with bit 97 of `DeviceRemovable`, and one. -/
def hubDesc : List Nat :=
  [33, 0x29, 97] ++ toLE 2 0x000D ++ [11, 0] ++ List.replicate 12 0 ++ [0x02] ++ List.replicate 13 0xFF
def hubSsDesc : List Nat := [12, 0x2A, 1] ++ toLE 2 0x0016 ++ [0, 0, 0] ++ toLE 2 50 ++ toLE 2 0x0002

/-- The packet sizes, bursts and intervals of the Loom endpoints (R181): EP1, EP2, the lanes EP3 to EP10 and EP11. -/
def loomEp (ss : Bool) (n : Nat) : List Nat :=
  let pair (attr mps interval burst cattr bytes : Nat) : List Nat :=
    let comp := if ss then compDesc burst cattr bytes else []
    epDesc n attr mps interval ++ comp ++ epDesc (0x80 + n) attr mps interval ++ comp
  if n == 1 then pair 2 (if ss then 1024 else 512) 0 4 0 0
  else if n == 2 then epDesc 0x82 3 1024 1 ++ (if ss then compDesc 1 0 1024 else [])
  else if n ≤ 10 then pair 2 (if ss then 1024 else 512) 0 16 0 0
  else pair 1 (if ss then 1024 else 1024 + 2 * 2048) 1 16 2 49152

/-- The Loom function's interface in its two alternate settings (R179). -/
def loomConfig (ss : Bool) : List Nat :=
  let eps := (List.range 10).map (fun i => loomEp ss (i + 1))
  configDesc true ([ifaceDesc 0 19 0xFF 0x4C 0x01] ++ eps ++ [ifaceDesc 1 21 0xFF 0x4C 0x01] ++ eps ++ [loomEp ss 11])

/-- The descriptor of a function by its type and index; none where it presents none. -/
def State.descriptor (s : State) (fn : UsbFn) (typ ix : Nat) : Option (List Nat) :=
  let vid := s.sec.otp.vendorId
  let ss := 2 ≤ s.get .LOOMS_STAT_RATE
  match fn, typ with
  | .hub2, 1 => some (deviceDesc 0x0210 9 2 64 vid 0x9662)
  | .hub2, 2 => if ix == 0 then some (configDesc true [ifaceDesc 0 1 9 0 1, hubEp, ifaceDesc 1 1 9 0 2, hubEp]) else none
  | .hub2, 3 => s.stringOf "Lamnerel LN9664" ix
  | .hub2, 0x0F => some (bosDesc [usb2Ext, s.containerCap])
  | .hub2, 0x29 => some hubDesc
  | .hubSs, 1 => some (deviceDesc 0x0320 9 3 9 vid 0x966A)
  | .hubSs, 2 => if ix == 0 then some (configDesc true [ifaceDesc 0 1 9 0 0, hubSsEp]) else none
  | .hubSs, 3 => s.stringOf "Lamnerel LN9664" ix
  | .hubSs, 0x0F => some (bosDesc [usb2Ext, ssCap Config.hubU1Lat Config.hubU2Lat, sspCap, s.containerCap])
  | .hubSs, 0x2A => some hubSsDesc
  | .loom, 1 => some (if ss then deviceDesc 0x0320 0 0 9 vid 0x966F else deviceDesc 0x0210 0 0 64 vid 0x966F)
  | .loom, 2 => if ix == 0 then some (loomConfig ss) else none
  | .loom, 3 => s.stringOf "Lamnerel LN9664 Loom" ix
  | .loom, 0x0F => some (bosDesc (if ss then [usb2Ext, ssCap 10 180, sspCap, s.containerCap] else [usb2Ext, s.containerCap]))
  | .dfu, 1 => some (deviceDesc 0x0210 0 0 64 vid 0x966D)
  | .dfu, 2 => if ix == 0 then some (configDesc false [ifaceDesc 0 0 0xFE 1 2, [9, 0x21, 1] ++ toLE 2 0 ++ toLE 2 4096 ++ toLE 2 0x0110])
      else none
  | .dfu, 3 => s.stringOf "Lamnerel LN9664" ix
  | _, _ => none

/-- A function can answer on its EP0: it is connected, and its domain is ON. The hub and the Loom function need no firmware
for it (06_transparent_hub.md R141, 05_port_lifecycle.md R122). -/
def State.answers (s : State) (fn : UsbFn) : Bool :=
  match fn with
  | .hub2 => 1 ≤ s.u2 && s.u2 ≤ 3 && s.domOn dHUB
  | .hubSs => s.get .HUBS_STAT_SS_STATE == 1 && s.domOn dLOOM
  | .loom => s.get .LOOMS_STAT_RATE != 0 && s.get .LOOMS_STAT_LSTATE == 0 && s.domOn dLOOM
  | .dfu => s.boot.dfu != .off && s.boot.dfu != .recovery && s.u2 != 0 && s.domOn dLOOM

/-! ### Split transactions (06_transparent_hub.md R134 to R136) -/

/-- Low- and full-speed traffic of an enabled port goes through its translator. -/
def State.splits (s : State) (n : Nat) : Bool := (s.port n).hpEnable && 1 ≤ (s.port n).hpSpeed && (s.port n).hpSpeed ≤ 2

/-- A start split: a non-periodic one takes one of four buffers of 64 bytes, a periodic one room in its microframe of the
pipeline, 188 bytes. A stopped translator, or one without room, takes nothing. -/
def State.startSplit (s : State) (n dev ep : Nat) (slot : Option Nat) (data : List Nat) : State :=
  let o := s.ttOwner n
  let t := (s.port o).tt
  if !s.splits n || t.stopped then s
  else match slot with
    | none =>
      if 4 ≤ t.bufs.length || 64 < data.length then s
      else s.modPort o (fun p => { p with tt := { t with bufs := t.bufs ++ [⟨dev, ep, data⟩] } })
    | some m =>
      let held := t.pipe.getD (m % 4) []
      if 188 < (held.map (fun b => b.data.length)).sum + data.length then s
      else s.modPort o (fun p => { p with tt := { t with pipe := t.pipe.set (m % 4) (held ++ [⟨dev, ep, data⟩]) } })

/-- A complete split: what the translator holds for the device and endpoint, of a periodic one in its microframe, goes to the
host and is held no more. -/
def State.completeSplit (s : State) (n dev ep : Nat) (slot : Option Nat) : State × Option (List Nat) :=
  let o := s.ttOwner n
  let t := (s.port o).tt
  if !s.splits n || t.stopped then (s, none)
  else match slot with
    | none =>
      match t.bufs.find? (fun b => b.dev == dev && b.ep == ep) with
      | some b => (s.modPort o (fun p => { p with tt := { t with bufs := t.bufs.erase b } }), some b.data)
      | none => (s, none)
    | some m =>
      let held := t.pipe.getD (m % 4) []
      let mine (b : Split) : Bool := b.dev == dev && b.ep == ep
      (s.modPort o (fun p => { p with tt := { t with pipe := t.pipe.set (m % 4) (held.filter (fun b => !mine b)) } }),
        some ((held.filter mine).flatMap (fun b => b.data)))

end Sys2Proof.Machine
end

