-- ==== Sys2Proof/Machine/HubCmds.lean ====
section
/-! DEFINITION. The requests and events of the transparent hub (06_transparent_hub.md R128 to R142). The bit places of
`wPortStatus` and `wPortChange` are those of USB 2.0 (notes/assumptions/29.md). -/

namespace Sys2Proof.Machine

/-- Set the hub's answer to the host's request. -/
def State.hubAnswer (s : State) (stalled : Bool) (data : List Nat) : State :=
  { s with hub := { s.hub with stalled := stalled, data := data } }

/-- A request for a port of a configured hub whose domain is ON; `f` acts on one of hub port 1 to 96, by its device port. A
request for hub port 97 is accepted (R130); one other than `ClearPortFeature(PORT_POWER)` has no effect there either (DESIGN
CHOICE, notes/assumptions/174.md). -/
def State.hubRequest (s : State) (hubPort : Nat) (f : Nat → State → State) : State :=
  if !(s.u2 == 3 && s.domOn dHUB && 1 ≤ hubPort && hubPort ≤ 97) then s
  else if hubPort == 97 then s.hubAnswer false []
  else f (hubPort - 1) (s.hubAnswer false [])

/-- R132, R133: `SetPortFeature(PORT_POWER)`. One that is ignored in a hold is recorded in `HUBS_PWRREQ` too (DESIGN CHOICE,
notes/assumptions/175.md). -/
def execSetPortPower (hubPort : Nat) (s : State) : Host.Outcome State Fault Refusal :=
  .next (s.hubRequest hubPort (fun n s =>
    let s := (s.set .HUBS_PWRREQ_LAST_PORT 0 hubPort).set .HUBS_PWRREQ_LAST_ON 0 1
    if s.skHeld (skeinOfPort n) || s.linkDead (skeinOfPort n) then s else (s.set .PWR_CFG_PWR_EN n 1).evalPower n))

/-- R132, R133: `ClearPortFeature(PORT_POWER)`, recorded for the controlling host; on hub port 97 it has no effect
(R130). -/
def execClearPortPower (hubPort : Nat) (s : State) : Host.Outcome State Fault Refusal :=
  .next (s.hubRequest hubPort (fun n s =>
    let s := (s.set .HUBS_PWRREQ_LAST_PORT 0 hubPort).set .HUBS_PWRREQ_LAST_ON 0 0
    let s := (s.count .HUBS_PWRREQ_OFF_CNT 0).hubEvent 5 hubPort
    if s.linkDead (skeinOfPort n) then s else s.vbusClear n))

/-- R132: `SetPortFeature(PORT_RESET)`: reset is driven and the port's TT buffers are cleared (R136). On hub port 97 it
resets the Loom function's USB 2.0 path (08_loom_function.md R204). -/
def execSetPortReset (hubPort : Nat) (s : State) : Host.Outcome State Fault Refusal :=
  if hubPort == 97 then
    .next (if s.u2 == 3 && s.domOn dHUB && s.flag .HUBS_STAT_P97_CONN then (s.hubAnswer false []).loomReset else s)
  else .next (s.hubRequest hubPort (fun n s =>
    ((s.modPort n (fun p => { p with
      hpReset := some s.dt, hpEnable := false, hpSusp := false, hpL1 := false, hpResume := none })).ttClear n).hubNote n))

/-- R132: the port reset ends, 10 ms to 20 ms after its start; a connected port is enabled at the detected speed
(1 low, 2 full, 3 high). -/
def execPortResetEnd (hubPort speed : Nat) (s : State) : Host.Outcome State Fault Refusal :=
  if hubPort == 0 || 96 < hubPort || speed == 0 || 3 < speed then .next s
  else
    let n := hubPort - 1
    match (s.port n).hpReset with
    | some t =>
      if t + 10000000 ≤ s.dt then
        let s := s.modPort n (fun p => { p with hpReset := none })
        let s := if s.hubConn n then s.modPort n (fun p => { p with hpEnable := true, hpSpeed := speed }) else s
        .next ((s.hubChange n 4).hubNote n)
      else .next s
    | none => .next s

/-- R132: `ClearPortFeature(PORT_ENABLE)`. -/
def execClearPortEnable (hubPort : Nat) (s : State) : Host.Outcome State Fault Refusal :=
  .next (s.hubRequest hubPort (fun n s =>
    (s.modPort n (fun p => { p with hpEnable := false, hpSusp := false, hpL1 := false, hpResume := none })).hubNote n))

/-- R137: selective suspend of an enabled port. -/
def execSetPortSuspend (hubPort : Nat) (s : State) : Host.Outcome State Fault Refusal :=
  .next (s.hubRequest hubPort (fun n s =>
    if (s.port n).hpEnable then (s.modPort n (fun p => { p with hpSusp := true, hpL1 := false })).hubNote n else s))

/-- R137: selective resume: 20 ms of resume signalling start. -/
def execClearPortSuspend (hubPort : Nat) (s : State) : Host.Outcome State Fault Refusal :=
  .next (s.hubRequest hubPort (fun n s =>
    if (s.port n).hpSusp && ((s.port n).hpResume).isNone then s.modPort n (fun p => { p with hpResume := some s.dt })
    else s))

/-- R132: `SetPortFeature(PORT_TEST)`: test modes 1 to 5 (Test_J, Test_K, Test_SE0_NAK, Test_Packet,
Test_Force_Enable). -/
def execSetPortTest (hubPort mode : Nat) (s : State) : Host.Outcome State Fault Refusal :=
  .next (s.hubRequest hubPort (fun n s =>
    if 1 ≤ mode && mode ≤ 5 then s.modPort n (fun p => { p with hpTest := mode }) else s.hubAnswer true []))

/-- R132: `SetPortFeature(PORT_INDICATOR)` is answered with STALL. -/
def execSetPortIndicator (hubPort : Nat) (s : State) : Host.Outcome State Fault Refusal :=
  .next (s.hubRequest hubPort (fun _ s => s.hubAnswer true []))

/-- R136: `ClearTTBuffer` clears the matching non-periodic buffer of the translator that serves the port (R135). -/
def execClearTtBuffer (hubPort dev ep : Nat) (s : State) : Host.Outcome State Fault Refusal :=
  .next (s.hubRequest hubPort (fun n s =>
    (s.count .HUBS_TTCNT_CLEAR_CNT 0).ttDrop (s.ttOwner n) hubPort (fun b => !(b.dev == dev && b.ep == ep)) false))

/-- R136: `ResetTT`: the translator's buffers are cleared and a stopped one runs again. -/
def execResetTt (hubPort : Nat) (s : State) : Host.Outcome State Fault Refusal :=
  .next (s.hubRequest hubPort (fun n s =>
    ((s.count .HUBS_TTCNT_CLEAR_CNT 0).ttClear n).modPort (s.ttOwner n) (fun p => { p with
      tt := { p.tt with stopped := false } })))

/-- R136: `StopTT` halts the translator until the next `ResetTT`. -/
def execStopTt (hubPort : Nat) (s : State) : Host.Outcome State Fault Refusal :=
  .next (s.hubRequest hubPort (fun n s =>
    s.modPort (s.ttOwner n) (fun p => { p with tt := { p.tt with stopped := true } })))

/-- R132: `GetTTState` is answered with STALL. -/
def execGetTtState (hubPort : Nat) (s : State) : Host.Outcome State Fault Refusal :=
  .next (s.hubRequest hubPort (fun _ s => s.hubAnswer true []))

/-- `wPortStatus` of a hub port (R131). -/
def State.portStatusWord (s : State) (n : Nat) : Nat :=
  let p := s.port n
  b2n (s.hubConn n) + 2 * b2n p.hpEnable + 4 * b2n (p.hpSusp || p.hpResume.isSome) + 8 * b2n (s.hubOver n)
    + 16 * b2n p.hpReset.isSome + 32 * b2n p.hpL1 + 256 * s.get .PWR_CFG_PWR_EN n
    + 512 * b2n (p.hpSpeed == 1) + 1024 * b2n (p.hpSpeed == 3) + 2048 * b2n (p.hpTest != 0)

/-- R131: `GetPortStatus`: `wPortStatus` and `wPortChange`; hub port 97 is always powered (R130). -/
def execGetPortStatus (hubPort : Nat) (s : State) : Host.Outcome State Fault Refusal :=
  if hubPort == 97 then
    .next (if s.u2 == 3 && s.domOn dHUB then
        s.hubAnswer false (toLE 2 (s.get .HUBS_CONN 97 + 256) ++ toLE 2 s.hub.p97Change) else s)
  else .next (s.hubRequest hubPort (fun n s =>
    s.hubAnswer false (toLE 2 (s.portStatusWord n) ++ toLE 2 (s.port n).hpChange)))

/-- R135: a change of alternate setting of interface 0 clears every TT buffer. -/
def execHubSetInterface (alt : Nat) (s : State) : Host.Outcome State Fault Refusal :=
  if s.u2 == 3 && s.domOn dHUB && alt ≤ 1 then
    .next (if s.get .HUBS_STAT_ALT_MTT == alt then s else (s.ttClearAll).set .HUBS_STAT_ALT_MTT 0 alt)
  else .next s

/-- R140: an upstream reset of the USB 2.0 hub; on hub port 97 it resets the Loom function's path too
(08_loom_function.md R204). -/
def execUpstreamReset (s : State) : Host.Outcome State Fault Refusal :=
  if s.u2 == 0 then .next s
  else
    let s := (s.hubClear).set .HUBS_STAT_U2_STATE 0 1
    .next (if s.get .LOOMS_STAT_RATE == 1 then s.loomReset else s)

/-- R137: global suspend after 3 ms of upstream idle; the Loom function on hub port 97 is suspended with it. -/
def execHubGlobalSuspend (idleNs : Nat) (s : State) : Host.Outcome State Fault Refusal :=
  if 3000000 ≤ idleNs && 1 ≤ s.u2 && s.u2 ≤ 3 then
    let s := { s with hub := { s.hub with suspFrom := s.dt, fromState := s.u2, resume := false, driving := false } }
    let s := (s.set .HUBS_STAT_U2_STATE 0 4).hubEvent 1 0
    .next (if s.get .LOOMS_STAT_RATE == 1 then (s.set .LOOMS_STAT_LSTATE 0 3).loomEvent 3 else s)
  else .next s

/-- R139: the host's resume from global suspend or from L1: the first K opens the window, the end of its EOP closes it and the
hub is resumed. -/
def execHostResume (eop : Bool) (s : State) : Host.Outcome State Fault Refusal :=
  if s.u2 != 4 && s.u2 != 5 then .next s
  else if !eop then .next { s with hub := { s.hub with resume := true } }
  else if !(s.hub.resume || s.hub.driving) then .next s
  else
    let w := s.wakeBy 1 [dHUB]
    if !w.2 then .next w.1
    else
      let s := if s.u2 == 4 then (w.1.set .HUBS_STAT_U2_STATE 0 s.hub.fromState).hubEvent 2 0
        else w.1.set .HUBS_STAT_U2_STATE 0 3
      let s := { s with hub := { s.hub with resume := false, driving := false, wakeOf := none } }
      let was := s.get .LOOMS_STAT_LSTATE
      .next (if s.get .LOOMS_STAT_RATE == 1 && was == 3 then
          ((s.set .LOOMS_STAT_LSTATE 0 0).set .LOOMS_STAT_WAKE_PEND 0 0).loomEvent 4
        else if s.get .LOOMS_STAT_RATE == 1 && was == 5 then s.set .LOOMS_STAT_LSTATE 0 0 else s)

/-- R138, R139: remote-wake signalling from an enabled port (`signal`), or a connect, disconnect or overcurrent of a
`TRANSPARENT` port: on a suspended hub a wake event, and the port that signalled is resumed. Hub port 97 carries the wake of
the Loom function at high speed (08_loom_function.md R209). -/
def execDownstreamRemoteWake (hubPort : Nat) (signal : Bool) (s : State) : Host.Outcome State Fault Refusal :=
  let n := hubPort - 1
  let may := if hubPort == 97 then s.flag .HUBS_STAT_P97_CONN && s.flag .LOOMS_STAT_WAKE_PEND
    else 1 ≤ hubPort && hubPort ≤ 96 && (if signal then (s.port n).hpEnable else s.mode n == 2)
  if s.u2 == 0 || !may then .next s
  else
    let s := s.hubWake hubPort
    .next (if signal && hubPort ≤ 96 && (s.u2 != 4 || s.hub.resume || s.hub.driving || s.hub.wakeOf.isSome) then
      s.resumePort n else s)

/-- R138: the 20 ms resume of a port ends: `PORT_SUSPEND` clears, `C_PORT_SUSPEND` is set. -/
def execPortResumeEnd (hubPort : Nat) (s : State) : Host.Outcome State Fault Refusal :=
  let n := hubPort - 1
  if hubPort == 0 || 96 < hubPort then .next s
  else match (s.port n).hpResume with
    | some t =>
      if t + 20000000 ≤ s.dt then
        .next (((s.modPort n (fun p => { p with hpResume := none, hpSusp := false })).hubChange n 2).hubNote n)
      else .next s
    | none => .next s

/-- R131: a pull-up appears on, or leaves, the data lines of a hub port whose connect gate is open. -/
def execDownstreamConnectChange (hubPort : Nat) (pullup : Bool) (s : State) : Host.Outcome State Fault Refusal :=
  let n := hubPort - 1
  if 1 ≤ hubPort && hubPort ≤ 96 && s.mode n == 2 && (s.port n).gate && s.domOn (dPHY (groupOfPort n)) then
    .next (s.reconnect n (fun p => { p with pullup := pullup }))
  else .next s

/-- R180, R137, R139: link power states the host asks for: U1 and U2 at SuperSpeed, L1 upstream and on a hub port; the
port whose L1 ends reports its change once. -/
def execLinkPowerStateRequest (pm : LinkPm) (s : State) : Host.Outcome State Fault Refusal :=
  let ss := 2 ≤ s.get .LOOMS_STAT_RATE
  let lst := s.get .LOOMS_STAT_LSTATE
  let on97 := s.get .LOOMS_STAT_RATE == 1
  match pm with
  | .u1 => .next (if ss && lst == 0 then (s.set .LOOMS_STAT_LSTATE 0 1).set .HUBS_STAT_SS_STATE 0 2 else s)
  | .u2 => .next (if ss && lst ≤ 1 then (s.set .LOOMS_STAT_LSTATE 0 2).set .HUBS_STAT_SS_STATE 0 3 else s)
  | .u0 => .next (if ss && (lst == 1 || lst == 2) then (s.set .LOOMS_STAT_LSTATE 0 0).set .HUBS_STAT_SS_STATE 0 1 else s)
  | .l1 =>
    if s.u2 == 3 then
      .next (if on97 then (s.set .HUBS_STAT_U2_STATE 0 5).set .LOOMS_STAT_LSTATE 0 5 else s.set .HUBS_STAT_U2_STATE 0 5)
    else .next s
  | .l0 =>
    if s.u2 == 5 then
      let s := { s with hub := { s.hub with resume := false, driving := false, wakeOf := none } }
      .next (if on97 then (s.set .HUBS_STAT_U2_STATE 0 3).set .LOOMS_STAT_LSTATE 0 0 else s.set .HUBS_STAT_U2_STATE 0 3)
    else .next s
  | .portL1 hp =>
    if hp == 97 then
      .next (if s.u2 == 3 && s.domOn dHUB && on97 && lst == 0 then (s.hubAnswer false []).set .LOOMS_STAT_LSTATE 0 5 else s)
    else .next (s.hubRequest hp (fun n s =>
      if (s.port n).hpEnable && !(s.port n).hpSusp then (s.modPort n (fun p => { p with hpL1 := true })).hubNote n else s))
  | .portL0 hp =>
    if hp == 97 && on97 && lst == 5 && s.u2 != 5 then
      .next { s.set .LOOMS_STAT_LSTATE 0 0 with hub := { s.hub with p97Change := bitOr s.hub.p97Change 32 } }
    else if 1 ≤ hp && hp ≤ 96 && (s.port (hp - 1)).hpL1 then
      .next (((s.modPort (hp - 1) (fun p => { p with hpL1 := false })).hubChange (hp - 1) 5).hubNote (hp - 1))
    else .next s

/-- The status-change bitmap of the USB 2.0 hub (R139, in the layout of USB 2.0): bit p for hub port p with a change bit set. -/
def State.changeMap (s : State) : Nat :=
  ((List.range 96).map (fun n => if (s.port n).hpChange == 0 then 0 else 2 ^ (n + 1))).sum
    + (if s.hub.p97Change == 0 then 0 else 2 ^ 97)

/-- A control read of the Loom function is an access of it (08_loom_function.md R209); its EP0 buffer holds the last packet
(R181). -/
def State.loomEp0 (s : State) (fn : UsbFn) (data : List Nat) : State :=
  let p := if 2 ≤ s.get .LOOMS_STAT_RATE then 512 else 64
  if fn != .loom then s
  else
    let s := s.hostAccess
    { s with loom := { s.loom with ep0 := data.drop ((data.length - 1) / p * p) } }

/-- R128: standard device requests to the USB 2.0 hub, the descriptors that it and the functions behind it present, and the
split transactions it carries (R134 to R136), and a poll of its status endpoint, which answers with the bitmap of the changed
ports (R139) or, with none, not at all. What was read stands in the hub's answer. Alternate setting and translators stay as
they are through `SetConfiguration` (DESIGN CHOICE, notes/assumptions/143.md). -/
def execHubStandardRequest (req : HubReq) (s : State) : Host.Outcome State Fault Refusal :=
  let st := s.u2
  let splits (hp : Nat) : Bool := st == 3 && s.domOn dHUB && 1 ≤ hp && hp ≤ 96
  match req with
    | .getDescriptor fn typ ix len =>
      if !s.answers fn then .next s
      else match s.descriptor fn typ ix with
        | some d => .next ((s.loomEp0 fn (d.take len)).hubAnswer false (d.take len))
        | none => .next ((s.loomEp0 fn []).hubAnswer true [])
    | .startSplit hp dev ep slot data => .next (if splits hp then s.startSplit (hp - 1) dev ep slot data else s)
    | .completeSplit hp dev ep slot =>
      if !splits hp then .next s
      else
        let r := s.completeSplit (hp - 1) dev ep slot
        .next (match r.2 with
          | some bs => r.1.hubAnswer false bs
          | none => r.1)
    | .statusPoll => .next (if st == 3 && s.domOn dHUB && s.changeMap != 0 then s.hubAnswer false (toLE 13 s.changeMap) else s)
    | .setAddress a =>
      if s.domOn dHUB && (st == 1 || st == 2) then
        .next ((s.set .HUBS_STAT_U2_ADDR 0 a).set .HUBS_STAT_U2_STATE 0 (if a % 128 == 0 then 1 else 2))
      else .next s
    | .setConfiguration c =>
      if !s.domOn dHUB then .next s
      else if st == 2 && c == 1 then .next (s.set .HUBS_STAT_U2_STATE 0 3)
      else if st == 3 && c == 0 then .next (s.set .HUBS_STAT_U2_STATE 0 2)
      else .next s
    | .remoteWake on => if s.domOn dHUB && 2 ≤ st && st ≤ 3 then .next (s.setB .HUBS_STAT_RWAKE_EN 0 on) else .next s

end Sys2Proof.Machine
end

