-- ==== Sys2Proof/Machine/PortLife.lean ====
section
/-! DEFINITION. The events of attach, detach, the tadpole window, mode changes and the upstream connection
(05_port_lifecycle.md R106 to R126). -/

namespace Sys2Proof.Machine

/-- A pattern that starts a debounce window (R114). -/
def CcPat.attaches : CcPat → Bool
  | .sink _ | .debugAcc | .audioAcc => true
  | .opened | .other => false

/-- A debounce window starts now. -/
def State.startDebounce (s : State) (n : Nat) (f : PortH → PortH) : State :=
  ((s.set .PORT_DET_DET n 1).setAtt n 2).modPort n (fun p => f { p with debFrom := s.now })

/-- R114: one 100 µs sample of both CC pins of an unattached Type-C port; Rd on the other pin is another pattern
(notes/assumptions/123.md). -/
def execCcSample (port : Nat) (pat : CcPat) (s : State) : Host.Outcome State Fault Refusal :=
  if !s.portSenses port || s.typeA port || s.ccBlind port then .next s
  else if s.get .PORT_DET_DET port == 0 then
    (if pat.attaches then .next (s.startDebounce port (fun p => { p with pattern := pat })) else .next s)
  else if s.get .PORT_DET_DET port == 1 then
    (if pat == (s.port port).pattern then .next s
     else if pat.attaches then .next (s.startDebounce port (fun p => { p with pattern := pat }))
     else .next ((s.set .PORT_DET_DET port 0).setAtt port 1))
  else .next s

/-- R114, R117: the first sample at or after t + 120 ms, the same pattern throughout: the attach. A sample that the device
ignores ends no debounce (18_electrical.md R400). -/
def execTypecDebounceComplete (port : Nat) (s : State) : Host.Outcome State Fault Refusal :=
  if s.portSenses port && !s.typeA port && s.get .PORT_DET_DET port == 1 && !s.ccBlind port
      && (s.port port).debFrom + 120000000 ≤ s.now then
    match (s.port port).pattern with
    | .sink cc2 => .next (s.attach port 2 cc2)
    | .audioAcc => .next (s.attach port 3 false)
    | .debugAcc => .next (s.attach port 4 false)
    | .opened | .other => .next s
  else .next s

/-- R116: what an unattached Type-A port sees: a window starts, goes on while one of the two conditions has held
throughout, or ends. -/
def execTypeaDetect (port : Nat) (iMa : Int) (pullup : Bool) (s : State) : Host.Outcome State Fault Refusal :=
  if !s.portSenses port || !s.typeA port then .next s
  else
    let cur := decide (50 ≤ iMa)
    let line := pullup && 2 ≤ s.mode port
    let start (s : State) : State := s.startDebounce port (fun p => { p with debLine := line, debCur := cur })
    if s.get .PORT_DET_DET port == 0 then .next (if cur || line then start s else s)
    else if s.get .PORT_DET_DET port == 1 then
      let p := s.port port
      if (p.debLine && line) || (p.debCur && cur) then
        .next (s.modPort port (fun p => { p with debLine := p.debLine && line, debCur := p.debCur && cur }))
      else if cur || line then .next (start s)
      else .next ((s.set .PORT_DET_DET port 0).setAtt port 1)
    else .next s

/-- R116: the first 1 ms evaluation at or after t + 100 ms: the attach, by data line or by current. Where both conditions held
throughout, the data line is recorded (DESIGN CHOICE, notes/assumptions/140.md). -/
def execTypeaDebounceComplete (port : Nat) (s : State) : Host.Outcome State Fault Refusal :=
  if s.portSenses port && s.typeA port && s.get .PORT_DET_DET port == 1
      && (s.port port).debFrom + 100000000 ≤ s.now then
    .next (s.attach port (if (s.port port).debLine then 6 else 5) false)
  else .next s

/-- R115: the pin that carried Rd, or both pins of an accessory, have read open for 10 ms. -/
def execTypecDetach (port openNs : Nat) (s : State) : Host.Outcome State Fault Refusal :=
  if s.detaches port (.typecDetach port openNs) then .next (s.detach port).poolService else .next s

/-- R116: a Type-A device is gone: by data line a disconnect of 10 ms, by current less than 10 mA for 5 s. -/
def execTypeaDetach (port forNs : Nat) (s : State) : Host.Outcome State Fault Refusal :=
  if s.detaches port (.typeaDetach port forNs) then .next (s.detach port).poolService else .next s

/-- R116: a pull-up appears on a port attached by current. -/
def execTypeaPullupSeen (port : Nat) (s : State) : Host.Outcome State Fault Refusal :=
  if s.portSenses port && s.typeA port && s.get .PORT_DET_DET port == 5 && 2 ≤ s.mode port then
    .next (s.set .PORT_DET_DET port 6)
  else .next s

/-- R118, R117: the qualify window completes, unless the port enters `LIMIT`, is blocked or trips in that tick. What the next
state needs comes ON first (13_power_domains.md R310). -/
def execQualifyComplete (port : Nat) (s : State) : Host.Outcome State Fault Refusal :=
  let p := s.port port
  if s.portSenses port && s.att port == 5 && s.pwr port == 3 && !s.flag .PWR_STAT_BLOCKED port
      && p.qualFrom + 1000000 * p.qualMs ≤ s.dt && !s.portCutNow port then
    let m := s.mode port
    if m == 1 then .next ((s.setAtt port 9).noteTadpole port)
    else if m == 2 then
      (if s.safeHold || s.domFenced (dPHY (groupOfPort port)) then .next s
       else
        let w := s.wakeBy 2 [dPHY (groupOfPort port), dHUB]
        if w.2 then .next ((w.1.reconnect port (fun p => { p with gate := true, pullup := false })).present port (port + 1))
        else .next w.1)
    else if s.domFenced (dPHY (groupOfPort port)) then .next s
    else match s.serving port with
      | none => .next (s.startEnum port)
      | some j =>
        let w := s.wakeBy 2 [dDRAM, dPHY (groupOfPort port), dSH j]
        .next (if w.2 || s.safeHold then w.1.startEnum port else w.1)
  else .next s

/-- R117: a port in `QUALIFY` whose power is not in `ON`, or whose switch a reverse block holds open, goes back to `POWERING`.
-/
def State.restartQualify (s : State) : State :=
  (List.range 96).foldl (fun s n =>
    if s.att n == 5 && (s.pwr n != 3 || s.flag .PWR_STAT_BLOCKED n) then (s.setAtt n 4).lifeEvent n 4 [(0, 1, s.pwr n)] else s) s

/-- R110: a logical detach is complete: an enumeration that waited for it starts. -/
def execLogicalDetachComplete (port : Nat) (s : State) : Host.Outcome State Fault Refusal :=
  let p := s.port port
  if port < 96 && p.detaching then
    let s := s.modPort port (fun p => { p with detaching := false })
    let s := if p.fabric == 3 then s.endTree port p.afterAtt else s
    let s := s.lifeEvent port 8 [(0, 1, p.fabric)]
    .next (if s.mode port == 3 && s.att port == 6 then s.startEnum port else s).poolService
  else .next s

/-- An `INVASIVE` unlock in FIELD is answered once every mode change it caused is complete (15_security_and_debug.md
R363). -/
def State.answerUnlock (s : State) : State :=
  match s.sec.unlockBy with
  | some q =>
    if s.modesSettled then
      ({ s with sec := { s.sec with unlockBy := none } } : State).answer q q.quiet stOK [s.get .SEC_DBG_LEVEL]
    else s
  | none => s

/-- R112: a mode change is complete: the logical detach is done, the domains that `TERMINATED` needs are ON (R113), and
after a VBUS cycle the port has entered `SOFTSTART` again, or wants no power. -/
def execModeChangeComplete (port : Nat) (s : State) : Host.Outcome State Fault Refusal :=
  let p := s.port port
  let power := !p.cycled || conducting (s.pwr port) || (!p.cycling && !s.powerRequest port)
  let doms := s.mode port != 3 || (s.domOn dDRAM && s.domOn (dPHY (groupOfPort port))
    && (s.serving port).all (fun j => s.domOn (dSH j)))
  if port < 96 && s.flag .PORT_LIFE_CHANGING port && !p.detaching && power && doms then
    .next (s.finishMode port).answerUnlock
  else .next s

/-! ### Upstream connection (R122, R123) -/

/-- R122: upstream VBUS has been present for 10 ms. -/
def execUpstreamVbusQualified (presentNs : Nat) (s : State) : Host.Outcome State Fault Refusal :=
  if !s.pins.porstLow && 10000000 ≤ presentNs then .next (s.set .AON_CONN_VBUS_OK 0 1) else .next s

/-- R122: the pull-up and both terminations are applied together once the device is ready, connection is permitted and VBUS is
present; the hub and, in the SuperSpeed personality, its link then connect. A fenced HUB has no pull-up and a fenced LOOM no
terminations; they are applied once the fence is gone (14_faults_and_takeover.md R334). -/
def execUpstreamConnect (s : State) : Host.Outcome State Fault Refusal :=
  if s.ready && s.flag .AON_CONN_PERMIT && s.flag .AON_CONN_VBUS_OK && !s.flag .AON_CONN_HOLDOFF
      && !(s.up.applied && s.up.ssApplied) then
    let w := s.wakeFor ((if s.domFenced dLOOM then [] else [dLOOM]) ++ (if s.domFenced dHUB then [] else [dHUB]))
    if !w.2 then .next w.1
    else
      let up := { w.1.up with applied := w.1.up.applied || !s.domFenced dHUB, ssApplied := w.1.up.ssApplied || !s.domFenced dLOOM }
      let s := { w.1 with up := up }
      let s := if s.u2 == 0 && up.applied then s.set .HUBS_STAT_U2_STATE 0 1 else s
      .next s.settleDomains
  else .next s

/-- R123: upstream VBUS has been absent for 1 ms. -/
def execUpstreamVbusAbsent (absentNs : Nat) (s : State) : Host.Outcome State Fault Refusal :=
  if !s.pins.porstLow && 1000000 ≤ absentNs then .next ((s.set .AON_CONN_VBUS_OK 0 0).upstreamWithdraw) else .next s

/-- R123: the 100 ms after a `DISCONNECT` have ended; a `CONNECT` accepted in them acts now. -/
def execDisconnectHoldoffEnd (s : State) : Host.Outcome State Fault Refusal :=
  match s.up.holdUntil with
  | some t =>
    if t ≤ s.dt then
      let d := s.up.deferred
      let s := s.markRun s.up.deferBy
      let s := { s with up := { s.up with holdUntil := none, deferred := false, deferBy := none } }.set .AON_CONN_HOLDOFF 0 0
      .next (if d then (s.set .AON_CONN_PERMIT 0 1).settleDomains else s)
    else .next s
  | none => .next s

end Sys2Proof.Machine
end

