-- ==== Sys2Proof/Machine/StartUp.lean ====
section
/-! DEFINITION. Reset, the start-up sequence, boot, DFU recovery and warm restart (16_start_up.md;
02_package_and_balls.md R41 to R51). -/

namespace Sys2Proof.Machine

/-- What the loom die is after `PORST_N` (R41): every register at its reset value but those of the skein dies, all
queues and sessions gone; fuses, flash, the skein dies and the safe-hold latch with its GRAVE bits stay (R350). -/
def State.loomCleared (s : State) : State :=
  let graves := if s.flt.latch then s.flt.causes.filter (fun g => g.cls == 4) else []
  let t : State := {
    regs := s.regs.filter (fun c => c.fld.onSkein || c.fld == .SYS_START_CAUSE)
    freeCtr := s.freeCtr
    epoch := s.epoch
    dt := s.dt
    stepped := s.stepped
    porstNs := s.porstNs
    measBase := s.measBase
    measShift := s.measShift
    measDt := s.measDt
    pending := s.pending
    pins := { s.pins with strapPulls := true, strapIn := true, xspiResetN := false, avsUsed := false, xspiUsed := false }
    boot := { flash := s.boot.flash }
    sec := { otp := s.sec.otp, tap := s.sec.tap }
    flt := { latch := s.flt.latch, causes := graves }
    feeds := s.feeds
    ports := s.ports
    skeins := s.skeins }
  let t := graves.foldl (fun t g => t.set .FLT_GECKO g.src 1)
    ((t.setB .FLT_STAT_SAFE_HOLD 0 s.flt.latch).set .SEC_LC_STATE 0 ((decodeLifecycle s.sec.otp.rowB).getD s.lifecycle))
  (t.noteClassMax).portsAtPorst

/-- R41: a low level on `PORST_N` resets the loom die; the skeins are held while it lasts (R18). Pulses under 100 ns are
ignored and levels of 1 µs recognised; between them recognition is open (a free value). -/
def execPorstNAssert (lowNs : Nat) (s : State) : Host.Outcome State Fault Refusal :=
  let go (s : State) : State :=
    let s := (List.range 8).foldl State.holdSkein s
    let s := s.loomCleared
    { s with pins := { s.pins with porstLow := true } }
  if lowNs < 100 then .next s
  else if 1000 ≤ lowNs then .next (go s)
  else .next (if s.freeVal % 2 == 1 then go s.useFree else s.useFree)

/-- The sums of the running 1 ms windows are dropped. -/
def State.dropSums (s : State) : State :=
  { s with
    feeds := s.feeds.map (fun f => { f with n := 0, vinSum := 0, vdsSum := 0, iSum := 0, pSum := 0 })
    ports := s.ports.map (fun p => { p with n := 0, vSum := 0, iSum := 0 })
    skeins := s.skeins.map (fun k => { k with n := 0, vSum := 0 }) }

/-- The level of a strap: what the board drives, or, for an open one, its internal pull (R46). -/
def strapLevel (pull : Bool) (x : Option Bool) : Nat := b2n (x.getD pull)

/-- The number a group of straps spells, all pulled down (R47). -/
def strapNumber : List (Option Bool) → Nat
  | [] => 0
  | x :: r => strapLevel false x + 2 * strapNumber r

/-- R374 step 1, R45, R10, R316: release of `PORST_N`: DT 0, straps sampled, AON out of reset, sealing key drawn. With
`WARM_N` low the cold start waits for its release and `SYS_START.CAUSE` reads 1 (R41). A release outside R371 is undefined;
the end of a pulse that was not recognised as low is no release (R41). What the samples since the last window's end summed
up belongs to no window of the new DT (03_feeds.md R74). -/
def execPorstNRelease (straps : Straps) (valid : Bool) (s : State) : Host.Outcome State Fault Refusal :=
  if !s.pins.porstLow then .next s
  else if !valid then .fault .undefinedRelease
  else
    let fresh := s.pins.aonFresh
    let s := s.loomCleared
    let s := s.set .SYS_STRAP_IDX 0 (strapNumber straps.idx)
    let s := s.set .SYS_STRAP_MGMT_ADDR 0 (strapNumber straps.mgmtAddr)
    let s := s.set .SYS_STRAP_BOOT 0 (strapNumber straps.boot)
    let s := s.set .SYS_STRAP_PREFHALF 0 (strapLevel false straps.prefHalf)
    let s := s.set .SYS_STRAP_MGR_ELIG 0 (strapLevel true straps.mgrElig)
    let s := s.set .SYS_START_CAUSE 0 (if fresh && !s.pins.warmLow then 0 else 1)
    let s := { s with
      epoch := s.now, dt := 0, stepped := 0, porstNs := 0, measBase := 0, measShift := 0, measDt := 0,
      pins := { s.pins with porstLow := false, aonFresh := false },
      sec := { s.sec with sealKey := Config.random s.freeCtr % 2 ^ 256 } }
    let s := { s.useFree with boot := { s.boot with waitWarm := s.pins.warmLow } }.dropSums
    let s := if s.pins.dbgEn then s.set .SEC_DBG_DBG_EN_PIN 0 1 else s
    .next ((s.requestOn [dCTL 0, dCTL 1] 1))

/-- The start-up sequence is under way and not waiting for `WARM_N`. -/
def State.starting (s : State) : Bool := s.boot.running && !s.pins.porstLow && !s.boot.waitWarm

/-- R46: at DT 50 µs the strap pulls and input buffers are disabled. -/
def execStrapPullDisable (s : State) : Host.Outcome State Fault Refusal :=
  if s.pins.porstLow || s.dt < 50000 then .next s
  else .next { s with pins := { s.pins with strapPulls := false, strapIn := false } }

/-- R41: release of a `WARM_N` held low through the `PORST_N` release lets the cold start go on; its steps are counted
from here. -/
def execWarmNRelease (s : State) : Host.Outcome State Fault Refusal :=
  let s := { s with pins := { s.pins with warmLow := false, warmHolds := false } }
  if s.boot.waitWarm && !s.pins.porstLow then .next { s with boot := { s.boot with waitWarm := false, base := s.dt } }
  else .next s

/-- Commands that wait or run are not answered any more; the mailbox replies that waited for them alone go out, those of the
channels that are gone are discarded (R225, 09_ecrax_protocol.md R229). -/
def State.dropWaiting (s : State) : State :=
  let s := { s with ecx := { s.ecx with awaits := s.ecx.awaits.filter (·.done) } }
  [Chan.loom, .mailbox, .hierarchy].foldl (fun s c => [0, 1, 2].foldl (fun s k => s.releaseReplies c k) s) s

/-- The capture of a `SNAP_TRIGGER` that has not committed ends with it (R225): nothing is latched, and no capture is counted.
-/
def State.dropCapture (s : State) : State :=
  if s.ecx.snapBy.isNone then s
  else { s.set .SNAP_STAT_BUSY 0 0 with snap := { s.snap with latched := false, taken := [] }, ecx := { s.ecx with snapBy := none } }

/-- R381, R225, R125: the start of a warm restart, `cause` 2 for `WARM_N`, 3 for `WARM_RESTART`. A command that has not
committed has no effect and keeps its entry; the queued ones leave none (notes/assumptions/149.md). -/
def State.warmRestart (s : State) (cause : Nat) : State :=
  let s := s.endSession 4
  let s := s.dropChallenge
  let s := ((s.set .SYS_START_CAUSE 0 cause).count .SYS_START_WARM_CNT 0).set .MBOX_STAT_READY 0 0
  let s := (s.set .FLT_TOKEN_VALID 0 0).set .FLT_TOKEN_STANDBY_HOT 0 0
  let s := ((s.set .IND_ADDR_OFFSET 1 0).set .IND_ADDR_UNIT 1 0).set .IND_ADDR_SPACE 1 0
  let s := (List.range 8).foldl State.holdSkein s
  let s := (s.warmFabric).warmCan.dropWaiting
  let s := s.dropCapture.requestOn [dCTL 0, dCTL 1] 1
  { s with
    ecx := { s.ecx with queue := [], staging := [], faultLog := [], restart := none, restartOf := none, restartOut := false, forwards := [], deferrals := [],
                        measBy := [], mapBy := [],
                        kept := s.ecx.kept.map (fun k => (k.1, { k.2 with status := some (k.2.status.getD stINTERNAL) })) },
    flt := { s.flt with takeover := none, copies := [0, 0, 0] },
    boot := { s.boot with running := true, warm := true, base := s.dt, tried := [], imageOk := false,
                          booted := [false, false], asked := [false, false], firstAsk := none, selfTest := false,
                          phase := 0, updated := false },
    sec := { s.sec with unlockBy := none } }

/-- R41, R381, R350: a `WARM_N` low level. It has no effect while `PORST_N` is low, while the safe-hold latch is set or
before the device has reported ready; the level itself is kept for R41, and holds the loom die in reset only where it started
the restart. -/
def execWarmNLow (lowNs : Nat) (s : State) : Host.Outcome State Fault Refusal :=
  let go (s : State) : State :=
    let s := { s with pins := { s.pins with warmLow := true } }
    if s.pins.porstLow || s.flt.latch || !s.ready then s
    else ({ s with pins := { s.pins with warmHolds := true } } : State).warmRestart 2
  if lowNs < 100 then .next s
  else if 1000 ≤ lowNs then .next (go s)
  else .next (if s.freeVal % 2 == 1 then go s.useFree else s.useFree)

/-- R242, R350: the restart that `WARM_RESTART` committed begins once its reply is read or 5 ms after it is ready. -/
def execWarmRestartBegin (s : State) : Host.Outcome State Fault Refusal :=
  match s.ecx.restart with
  | some t => if t ≤ s.dt && !s.flt.latch then .next (s.warmRestart 3) else .next s
  | none => .next s

/-- R350: removal of `VDD_AON` clears the safe-hold latch and releases `FAULT_N`; every skein is held (R18). -/
def execVddAonRemoval (s : State) : Host.Outcome State Fault Refusal :=
  let s := { s with flt := { s.flt with latch := false, causes := [] } }
  let s := ((List.range 8).foldl State.holdSkein s).loomCleared.set .SYS_START_CAUSE 0 0
  .next { s with pins := { s.pins with faultN := true, aonFresh := true, porstLow := true, xtalGone := false } }

/-- R48: at DT 100 µs of the start `XSPI_RESET_N` is driven high. -/
def execXspiResetRelease (s : State) : Host.Outcome State Fault Refusal :=
  if s.starting && s.boot.base + 100000 ≤ s.dt then .next { s with pins := { s.pins with xspiResetN := true } }
  else .next s

/-- A device that wakes from its slow clock joins its hierarchy again: the domains of the controllers in hierarchy use are
asked for (12_hierarchy.md R279; notes/assumptions/155.md). -/
def State.rejoin (s : State) : State :=
  if s.flag .TIME_STAT_SLOW_ONLY then
    s.requestOn (((List.range 2).filter (fun c => s.get .CAN_CTL_USE c == 0 && !s.domOn (dCAN c)
      && !s.domFenced (dCAN c))).map dCAN) 1
  else s

/-- R374 step 3, R11, R307: the crystal, started because something needs it, runs and the PLLs are locked; DT moves to the
40 MHz clock. -/
def execReferenceLocked (s : State) : Host.Outcome State Fault Refusal :=
  if s.pins.porstLow || s.boot.waitWarm || s.flt.refAbsentFrom.isSome || s.refLost || !s.refNeeded then .next s
  else
    let s := s.rejoin.fastClock
    .next { s with boot := { s.boot with refLocked := true } }

/-- A seed partly blown with `SEED_VALID` unblown: the generation is lost, and the key state reads destroyed (R357). -/
def State.checkSeed (s : State) : State :=
  let o := s.sec.otp
  if o.seed != 0 && !o.seedValid && !o.destroyed then { s with sec := { s.sec with otp := o.destroy } } else s

/-- The lifecycle decode of R353 at step 5. -/
def State.readLifecycle (s : State) : State :=
  let o := s.sec.otp
  if o.rowA == o.rowB then
    match decodeLifecycle o.rowA with
    | some lc => s.set .SEC_LC_STATE 0 lc
    | none => s.raiseFault 0x0A 0xE 0
  else
    match (List.range 4).find? (fun i => bit o.rowA i && !bit o.rowB i && o.rowA == bitOr o.rowB (2 ^ i)),
        decodeLifecycle o.rowA with
    | some i, some lc => ((s.blowTransition i lc).lifecycleEffects lc).set .SEC_LC_COMPLETED 0 1
    | _, _ => s.raiseFault 0x0A 0xE 0

/-- R374 step 5, R353, R350: the OTP is read, the lifecycle decoded, the safe-hold latch read. With the latch set the
device re-enters safe hold and goes no further. -/
def execOtpReadComplete (s : State) : Host.Outcome State Fault Refusal :=
  if s.starting && !s.boot.warm && !s.boot.otpRead && s.boot.refLocked then
    let latched := s.flt.latch
    let s := { s.forceOn dSEC with boot := { s.boot with otpRead := true } }
    let s := s.checkSeed.readLifecycle
    if latched then
      .next (((s.enterSafeHold).set .FLT_STAT_HOLD_PORST 0 1).set .SYS_START_CAUSE 0 4)
    else .next s
  else .next s

/-- R374 step 6: DRAM is initialised and trained. A device strapped to boot from USB only enters DFU recovery
(R373). -/
def execDramInitComplete (s : State) : Host.Outcome State Fault Refusal :=
  if s.starting && s.boot.otpRead && !s.boot.dramInit && !s.safeHold then
    let s := { (s.forceOn dDRAM).dramFresh Config.dramPages with boot := { s.boot with dramInit := true } }
    .next (if 2 ≤ s.get .SYS_STRAP_BOOT then { s with boot := { s.boot with dfu := .recovery } } else s)
  else .next s

/-- The slot that is verified next: the active one of the boot record, or at a warm restart `SEC_BOOT.SLOT`, then the
other (R373, R381). -/
def State.nextSlot (s : State) : Option Nat :=
  let a := if s.boot.warm then s.get .SEC_BOOT_SLOT else s.activeSlot
  if !s.boot.tried.contains a then some a
  else if !s.boot.tried.contains (1 - a) then some (1 - a) else none

/-- R373, R381: the verification of a slot ends; the image boots, the other slot is tried, or DFU recovery is entered.
At a warm restart after a DFU boot the working copy is verified instead, and its digest compared. The flash interface is
configured from the first access to it (02_package_and_balls.md R48). -/
def execImageVerified (slot : Nat) (s : State) : Host.Outcome State Fault Refusal :=
  if !(s.starting && s.boot.dramInit && !s.boot.imageOk && s.boot.dfu == .off && !s.safeHold && !s.domFenced dSEC) then .next s
  else if s.boot.warm && s.flag .SEC_BOOT_DFU then
    if s.sec.secretUpset then .next s.secretFailed
    else
    let bs := if s.boot.copyLost then [] else s.boot.working
    if imageCheck s bs == 0 && Config.sha384 bs == s.sec.imgDigest then .next (s.takeImage bs)
    else
      let s := s.imageRefused (if imageCheck s bs == 0 then 6 else imageCheck s bs)
      .next { s with boot := { s.boot with dfu := .recovery } }
  else if s.nextSlot != some slot then .next s
  else
    let s := { s with pins := { s.pins with xspiUsed := true } }
    let bs := (s.slot slot).bytes
    let c := imageCheck s bs
    let other := !s.boot.tried.isEmpty || (s.boot.warm && s.flag .SEC_BOOT_OTHER_SLOT)
    let s := { s with boot := { s.boot with tried := s.boot.tried ++ [slot] } }
    if c == 0 then
      .next ((s.takeImage bs).set .SEC_BOOT_SLOT 0 slot |>.setB .SEC_BOOT_OTHER_SLOT 0 other)
    else
      let s := s.imageRefused c
      .next (if s.nextSlot.isNone then { s with boot := { s.boot with dfu := .recovery } } else s)

/-- R361, R376: a half has loaded the image and checked its digest: it runs and requests the token, or, with a differing
digest, stays in reset and `UNCORRECTED` is raised on its source. A half that boots later joins as standby. At a warm
restart a half boots once its domain is ON (13_power_domains.md R314). While SEC is fenced none boots from OFF
(14_faults_and_takeover.md R334), and one that a debugger halts goes no further (15_security_and_debug.md R362). -/
def execHalfBootComplete (half : Nat) (digestOk : Bool) (s : State) : Host.Outcome State Fault Refusal :=
  if !(half < 2 && !bit s.sec.halted half && s.boot.imageOk && !s.domFenced (dCTL half)
      && !(s.domFenced dSEC && !s.domOn (dCTL half)) && !s.safeHold && !s.boot.booted.getD half false
      && ((s.boot.running && !s.boot.warm) || s.domOn (dCTL half))) then .next s
  else if s.sec.secretUpset then .next s.secretFailed
  else if !digestOk then
    .next ((s.set .SEC_BOOT_FAIL 0 6).raiseFault (half + 1) 1 0)
  else
    let s := s.forceOn (dCTL half)
    .next { s with boot := { s.boot with
      booted := s.boot.booted.set half true
      versions := s.boot.versions.set half (imageVersion s.boot.working)
      asked := s.boot.asked.set half true
      firstAsk := some (s.boot.firstAsk.getD s.dt) } }

/-- R376: the grant of the token: both halves have asked, or 50 ms have passed since the first asked. DFU recovery grants
nothing. -/
def execTokenGrant (s : State) : Host.Outcome State Fault Refusal :=
  let a := s.boot.asked.getD 0 false
  let b := s.boot.asked.getD 1 false
  match s.boot.firstAsk with
  | none => .next s
  | some t =>
    if s.flag .FLT_TOKEN_VALID || s.boot.dfu != .off || s.safeHold || !(a || b) || !((a && b) || t + 50000000 ≤ s.dt) then
      .next s
    else
      let pref := s.get .SYS_STRAP_PREFHALF
      let h := if s.boot.asked.getD pref false then pref else 1 - pref
      let s := s.setToken h
      .next (s.setB .FLT_TOKEN_STANDBY_HOT 0 (a && b))

/-- R376, R341: no half that is not fenced has requested the token by 2 s from the start. -/
def execTokenArbitrationTimeout (s : State) : Host.Outcome State Fault Refusal :=
  if s.boot.running && !s.boot.asked.any id && s.boot.dfu == .off && !s.flag .FLT_TOKEN_VALID && !s.safeHold
      && !s.boot.waitWarm && s.boot.base + 2000000000 ≤ s.dt then
    .next (s.raiseFault 0x03 3 0)
  else .next s

/-- R377: the self test ends: its failures are raised; a skein whose link item passed leaves hold, one whose training or
configuration check failed, with `LANE` or `LINK`, here or in a check before, stays held (01_architecture.md R18), and one
whose die is unpowered has `LINK` raised and stays held. A `LANE` of the list counts as a failure of the whole item (DESIGN
CHOICE, notes/assumptions/182.md). -/
def execSelfTestComplete (failed : List Failure) (s : State) : Host.Outcome State Fault Refusal :=
  if !(s.boot.running && s.flag .FLT_TOKEN_VALID && !s.boot.selfTest && !s.safeHold) then .next s
  else
    let s := failed.foldl (fun s f => s.raiseFault f.src f.kind f.addr) s
    let s := (List.range 8).foldl (fun s k =>
      if !(s.skein k).powered then s.raiseFault (0x40 + k) 0xB 0
      else if s.unitFenced (0x40 + k) || failed.any (fun f => f.src == 0x40 + k) || (s.skein k).checkFailed
          || s.holdCause then s
      else ((s.modSkein k (fun x => { x with linkSilent := false })).leaveHold k).readFeedEvents k) s
    .next { s with boot := { s.boot with selfTest := true } }

/-- R51: the crystal has not started by DT 2 s: the RC oscillator stays for this power cycle
(notes/assumptions/128.md). -/
def State.xtalAbandon (s : State) : State :=
  if s.pins.porstLow || s.flag .AON_CLK_SLOW_SRC || s.flag .AON_CLK_XTAL_STOPPED || s.dt < 2000000000 then s
  else { s.set .AON_CLK_XTAL_ABANDONED 0 1 with pins := { s.pins with xtalGone := true } }

/-- R51: after 512 consecutive crystal cycles the slow clock changes to the crystal, unless DT 2 s has come or the crystal
was given up before in this power cycle. -/
def execXtal32Start (cycles : Nat) (s : State) : Host.Outcome State Fault Refusal :=
  if s.pins.porstLow || cycles < 512 || s.pins.xtalGone || s.flag .AON_CLK_SLOW_SRC || s.flag .AON_CLK_XTAL_STOPPED then
    .next s
  else if 2000000000 ≤ s.dt then .next s.xtalAbandon
  else .next ((s.set .AON_CLK_SLOW_SRC 0 1).set .TIME_STAT_XTAL32 0 1)

def execXtal32Abandon (s : State) : Host.Outcome State Fault Refusal := .next s.xtalAbandon

/-- R379: in DFU recovery, once VBUS has been present for 10 ms, the USB 2.0 hub connects with the DFU function on hub
port 97; again after a loss of VBUS, where the download begins anew unless the image has passed its check (DESIGN CHOICE,
notes/assumptions/193.md). -/
def execDfuConnect (vbusNs : Nat) (s : State) : Host.Outcome State Fault Refusal :=
  if s.boot.dfu != .off && s.u2 == 0 && 10000000 ≤ vbusNs then
    let s := (s.forceOn dLOOM).forceOn dHUB
    let s := { s.set .HUBS_STAT_U2_STATE 0 1 with up := { s.up with applied := true } }
    let s := { s.set .HUBS_CONN 97 1 with hub := { s.hub with p97Change := bitOr s.hub.p97Change 1 } }
    .next (if s.boot.dfu == .manifestWait then s else { s with boot := { s.boot with dfu := .idle, dfuImg := [] } })
  else .next s

/-- R380: a download block, at most 4,096 bytes, is stored in DRAM. -/
def execDfuDnload (block : List Nat) (s : State) : Host.Outcome State Fault Refusal :=
  if block.isEmpty || 4096 < block.length || s.u2 == 0 then .next s
  else match s.boot.dfu with
    | .idle | .error => .next { s with boot := { s.boot with dfu := .dnload, dfuImg := block } }
    | .dnload => .next { s with boot := { s.boot with dfuImg := s.boot.dfuImg ++ block } }
    | _ => .next s

/-- R380: the zero-length download checks the image. -/
def execDfuManifest (s : State) : Host.Outcome State Fault Refusal :=
  if s.boot.dfu == .dnload && s.u2 != 0 && !s.domFenced dSEC then
    let c := imageCheck s s.boot.dfuImg
    if c == 0 then .next { s with boot := { s.boot with dfu := .manifestWait } }
    else
      let s := s.noteRefused c
      .next { s with boot := { s.boot with dfu := .error } }
  else .next s

/-- R380: the host's bus reset after manifestation resets the hub (06_transparent_hub.md R140) and withdraws the pull-up, and
the start goes on from the DRAM copy; `SEC_BOOT.DFU` and the connect permission are set. The time in which a half must ask for
the token counts from here (R376; DESIGN CHOICE, notes/assumptions/192.md). -/
def execDfuBusReset (s : State) : Host.Outcome State Fault Refusal :=
  if s.boot.dfu == .manifestWait && s.u2 != 0 then
    let s := ((s.takeImage s.boot.dfuImg).hubDisconnect).set .HUBS_CONN 97 0
    let s := (s.set .SEC_BOOT_DFU 0 1).set .AON_CONN_PERMIT 0 1
    .next { s with boot := { s.boot with dfu := .off, dfuImg := [], base := s.dt } }
  else .next s

end Sys2Proof.Machine
end

