-- ==== Sys2Proof/Machine/Ready.lean ====
section
/-! DEFINITION. The last step of the start: the standing profile and ready (16_start_up.md R378; 09_ecrax_protocol.md
R234, R235; 05_port_lifecycle.md R125). -/

namespace Sys2Proof.Machine

/-- The first status that failed, of the entries applied so far and the next (R235). -/
def firstFailure (a b : Nat) : Nat := if a == stOK && b != stDEFERRED then b else a

/-- The port-mode entry of port `n` (R233, R235): `PORT_MODE_SET` without a reply, with its check of the units it
names (R214). -/
def State.applyMode (r : State × Nat) (n m pub : Nat) : State × Nat :=
  let p : Packet := { chan := .profile, origin := 255, opcode := 0x10, tag := 0, cls := 1, seq := 0, noReply := false,
                      params := [n, m, 1 + 2 * pub, 0] }
  if unitFencedFor r.1 p then (r.1, firstFailure r.2 stTARGET_FENCED)
  else
    let x := r.1.setMode n m (some pub) none
    (x.1, firstFailure r.2 x.2)

/-- The register-image entry that writes `v` at the indirect address `a` (R233, R235). -/
def State.applyWord (r : State × Nat) (a v : Nat) : State × Nat :=
  let x := r.1.indWrite .ecrax a .write v
  (x.1, firstFailure r.2 (writeStatus x.2))

/-- One section of the profile (R233, R235). The device section sets role, rank and `CHANNEL_MASK` and assigns both CAN
controllers to hierarchy use (11_can_controllers.md R262). -/
def State.applySection (r : State × Nat) (x : Section) : State × Nat :=
  if x.1 == 1 then
    let s := (r.1.setRole (x.2.getD 0 0) (x.2.getD 1 0)).set .AON_HIER_CHMASK 0 (leAt x.2 2 2)
    ((s.canUse 0 0).canUse 1 0, r.2)
  else if x.1 == 2 then
    (List.range 96).foldl (fun (r : State × Nat) n => State.applyMode r n (x.2.getD (2 * n) 0) (x.2.getD (2 * n + 1) 0)) r
  else if x.1 == 3 then
    (imageEntries x.2).foldl (fun (r : State × Nat) e => State.applyWord r e.1 e.2) r
  else r

/-- R235: apply a profile that passed R234: the state and the status of the first entry that failed. Its journal entry
follows, and the connect permission where it carries auto-connect (05_port_lifecycle.md R122). -/
def State.applyProfile (s : State) (bs : List Nat) : State × Nat :=
  let r := (profileSections bs).foldl State.applySection (s, stOK)
  let s := r.1.addEntry { tag := 0, opcode := 0xFF, chan := .profile, cls := 1, status := r.2, committed := true,
                          origin := 0xFF, seq := profileGen bs, dt := r.1.clock % 2 ^ 32 }
  let s := if profileAuto bs then (s.set .AON_CONN_AUTO 0 1).set .AON_CONN_PERMIT 0 1 else s
  (s.noteProfile, r.2)

/-- The copies in the order R234 checks them: the higher generation first, the first copy of two equal ones. -/
def State.checkOrder (s : State) : List Nat :=
  if profileGen (s.copyBytes 0) < profileGen (s.copyBytes 1) then [1, 0] else [0, 1]

/-- R234: check the copies until one passes, raising a NOTICE for each that is not blank and fails: the state, the copy
that passed, and whether one failed. -/
def State.checkCopies (s : State) : List Nat → State × Option Nat × Bool
  | [] => (s, none, false)
  | i :: rest =>
    if s.copyBlank i then s.checkCopies rest
    else if s.copyPasses i then (s, some i, false)
    else
      let r := (s.raiseFault 0x49 0xE 0).checkCopies rest
      (r.1, r.2.1, true)

/-- R378: the standing profile at a cold start: the state, the generation and the status that device event 2 carries. -/
def State.standingProfile (s : State) : State × Nat × Nat :=
  if s.noFlash then (s, 0, stNO_FLASH)
  else
    let r := s.checkCopies s.checkOrder
    match r.2.1 with
    | some i =>
      let bs := r.1.copyBytes i
      let x := r.1.applyProfile bs
      (x.1, profileGen bs, x.2)
    | none => (r.1, 0, if r.2.2 then stVERIFY_FAILED else stOK)

/-- R125: the attach state of a port rebuilt at a cold start from `PORT_DET` and `PWR_STAT` (notes/assumptions/124.md for
`PORT_TADPOLE`). -/
def State.rebuildPort (s : State) (n : Nat) : State :=
  let d := s.get .PORT_DET_DET n
  if s.att n != 0 then s
  else if d == 0 then (if s.mode n == 0 then s else s.setAtt n 1)
  else if d == 1 then s.setAtt n 2
  else if d == 3 || d == 4 then s.setAtt n 3
  else if s.pwr n == 3 && s.mode n != 0 then
    (if s.mode n == 1 then (s.setAtt n 9).noteTadpole n else s.startQualify n)
  else s.setAtt n 4

/-- R125: a `TERMINATED` port that waits in `ENUMERATE` for the Shuttles to restart starts its attempt 1. -/
def State.reenumerate (s : State) (n : Nat) : State :=
  if !(s.port n).restart then s
  else
    let s := s.modPort n (fun p => { p with restart := false })
    if s.mode n == 3 && s.att n == 6 then s.startEnum n else s

/-- R378, R397, R125: the Shuttles run, and ready is reported; the SuperSpeed terminations that a warm restart withdrew are
applied again; each port names the Shuttle its group is routed to (07_shuttle_engines.md R143); the hierarchy starts on the
controllers in hierarchy use (12_hierarchy.md R284). -/
def State.reportReady (s : State) : State :=
  let s := (s.set .MBOX_STAT_READY 0 1).set .INTC_CTL_OUT_EN 0 1
  let s := { s with boot := { s.boot with running := false }, up := { s.up with ssApplied := s.up.applied } }
  let s := (List.range 96).foldl (fun s n => s.set .PORT_LIFE_SHUTTLE n ((s.serving n).getD 15)) s
  ((List.range 96).foldl State.reenumerate s).startHierarchy.deviceEvent 1 []

/-- R378, R234, R235, R125: step 11 of the start. A cold start rebuilds the attach states, checks and applies the
standing profile, derives every effective mode again (05_port_lifecycle.md R107) and raises device event 2. Then ready is
reported. -/
def execStandingProfileApply (s : State) : Host.Outcome State Fault Refusal :=
  if !(s.starting && s.flag .FLT_TOKEN_VALID && s.boot.selfTest && s.boot.dfu == .off && !s.safeHold) then .next s
  else if s.boot.warm then .next s.reportReady
  else
    let r := ((List.range 96).foldl State.rebuildPort s).standingProfile
    .next (r.1.recomputeAll.deviceEvent 2 (detailOf [(0, 4, r.2.1), (4, 2, r.2.2)])).reportReady

end Sys2Proof.Machine
end

