-- ==== Sys2Proof/Machine/ShuttleOps.lean ====
section
/-! DEFINITION. The Shuttle and Loom group of Ecrax opcodes (10_ecrax_opcodes.md R251; 07_shuttle_engines.md R157, R164,
R170, R171, R174; 08_loom_function.md R188, R189). -/

namespace Sys2Proof.Machine

/-- The context of an open handle that a command names. -/
def State.openCtx (s : State) (v : Nat) : Option Ctx := (s.ctx? (v % 16384)).filter (fun c => c.isOpen)

/-- The device whose open EP0 handle a command names. -/
def State.openDev (s : State) (v : Nat) : Option Dev :=
  match s.openCtx v with
  | some c => if c.typ == 0 && c.num == c.devEp0 then s.devByEp0 c.num else none
  | none => none

/-- The handle of an endpoint address of a device, in the order of R157: EP0, EP1 OUT, EP1 IN and so on. -/
def State.epHandle (s : State) (d : Dev) (i : Nat) : Nat :=
  let a := if i == 0 then 0 else (i + 1) / 2 + (if i % 2 == 0 then 128 else 0)
  if i == 0 then s.handleOf d.ep0
  else match s.loom.ctxs.find? (fun c => c.port == d.port && c.devEp0 == d.ep0 && c.num != d.ep0 && c.epAddr == a
      && !c.closing) with
    | some c => s.handleOf c.num
    | none => 0xFFFFFFFF

/-- The 144 bytes of `SHUTTLE_DEV_INFO` (R251). -/
def State.devInfo (s : State) (d : Dev) : List Nat :=
  let str (i : Nat) : Nat := b2n ((d.strings.getD i none).isSome)
  [d.port, d.speed] ++ toLE 2 d.route ++ toLE 4 (s.handleOf d.parent) ++ toLE 2 d.devDesc.length
    ++ toLE 2 d.cachedConfig.length ++ toLE 2 d.bos.length
    ++ [b2n d.truncated + 2 * b2n d.isHub + 4 * b2n d.canWake, str 0 + 2 * str 1 + 4 * str 2, 0, 0, 0, 0]
    ++ (List.range 31).flatMap (fun i => toLE 4 (s.epHandle d i))

/-- `SHUTTLE_DEV_INFO` (R251, R157). -/
def execShuttleDevInfo (p : Packet) (s : State) : Host.Outcome State Fault Refusal :=
  .next (runOp 0x70 p (fun _ _ => [dDRAM]) (fun p s =>
    match s.openDev (p.u32 0) with
    | some d => .res s (s.devInfo d)
    | none => .fail s stBAD_PARAM) s)

/-- A handle's share changes (07_shuttle_engines.md R164): a larger one gives it OUT credit, a smaller one withholds what
returns until the difference is made up (notes/assumptions/99.md). -/
def State.setShare (s : State) (c : Ctx) (share : Nat) : State :=
  let s := s.modCtx c.num (fun c => { c with
    share := share
    outDue := if c.takesData then (c.outDue + (share - c.share - c.debt)) % 2 ^ 32 else c.outDue
    debt := if c.takesData then c.debt - (share - c.share) + (c.share - share) else 0 })
  (s.commitCtx c.num).grant c.num

/-- `SHUTTLE_SHARE_SET` (R251, 07_shuttle_engines.md R164): the previous share is answered in whole 4 KiB units. -/
def execShuttleShareSet (p : Packet) (s : State) : Host.Outcome State Fault Refusal :=
  .next (runOp 0x71 p (fun _ _ => [dDRAM]) (fun p s =>
    match s.openCtx (p.u32 0) with
    | some c => .res (s.setShare c (4096 * p.u16 4)) (toLE 2 (c.share / 4096))
    | none => .fail s stBAD_PARAM) s)

/-- `SHUTTLE_RETURN` (R251, 07_shuttle_engines.md R170). -/
def execShuttleReturn (p : Packet) (s : State) : Host.Outcome State Fault Refusal :=
  .next (runOp 0x72 p
    (fun p s => if s.get .SHT_STAT_STATE (p.u8 0) == 6 then [dSH (p.u8 0), dSH 12] else [])
    (fun p s =>
      let j := p.u8 0
      if s.gecko (0x10 + j) then .fail s stBUSY
      else if s.get .SHT_STAT_STATE j != 6 then .fail s stBAD_PARAM
      else .ok (s.startMove j j (if s.servingGroup j == some 12 then 12 else 15) true)) s)

/-- What a command on a port's Shuttle brings to ON. -/
def State.servingNeed (s : State) (n : Nat) : List Nat := match s.serving n with | some j => [dSH j] | none => []

/-- `SHUTTLE_RESET_DEVICE` (R251, 07_shuttle_engines.md R174): answered once the reset has started. -/
def execShuttleResetDevice (p : Packet) (s : State) : Host.Outcome State Fault Refusal :=
  .next (runOp 0x73 p
    (fun p s => match s.openDev (p.u32 0) with | some d => dDRAM :: s.servingNeed d.port | none => [])
    (fun p s =>
      match s.openDev (p.u32 0) with
      | some d => if (s.serving d.port).isNone then .fail s stTARGET_FENCED else .ok (s.startDevReset d)
      | none => .fail s stBAD_PARAM) s)

/-- `SHUTTLE_IDLE_SET` (R251, 07_shuttle_engines.md R171). -/
def execShuttleIdleSet (p : Packet) (s : State) : Host.Outcome State Fault Refusal :=
  .next (runOp 0x74 p (fun p s => s.servingNeed (p.u8 0)) (fun p s =>
    match s.serving (p.u8 0) with
    | some j => .ok (s.set .SHT_IDLE (8 * j + p.u8 0 % 8) (p.u16 2))
    | none => .fail s stTARGET_FENCED) s)

/-- A handle moves to another lane (08_loom_function.md R189): `LANE_MOVED` is formed behind the records formed before
it, which go with it on the old lane (notes/assumptions/42.md). -/
def State.moveLane (s : State) (c : Ctx) (lane : Nat) : State :=
  if lane == c.lane then s
  else
    let q := (c.txNext + c.unformed.length) % 65536
    let s := s.formEventRec c.num 4 (toLE 2 ((q + 65535) % 65536) ++ [lane])
    let s := s.modCtx c.num (fun c => { c with moves := c.moves ++ [(c.lane, q)], lane := lane })
    if 16 ≤ c.num then
      (s.set .LOOMS_LANE_HANDLES c.lane (s.get .LOOMS_LANE_HANDLES c.lane - 1)).addTo .LOOMS_LANE_HANDLES lane 1
    else s

/-- `HANDLE_MAP` (R251, 08_loom_function.md R188, R189): lane handles stay on their lanes (R187). It is answered once
`LANE_MOVED` has been formed, which waits where the handle has its most records (R190). -/
def execHandleMap (p : Packet) (s : State) : Host.Outcome State Fault Refusal :=
  .next (runOp 0x75 p (fun _ _ => [dDRAM]) (fun p s =>
    match s.openCtx (p.u32 0) with
    | some c =>
      if (p.u8 4 == 8) != c.isIso || c.num ≤ 7 || c.num == 9 then .fail s stBAD_PARAM
      else if p.u8 4 != c.lane && c.recsFull then
        let s := s.moveLane c (p.u8 4)
        { st := { s with ecx := { s.ecx with mapBy := s.ecx.mapBy ++ [(p.id, c.num, c.lane)] } }, later := true }
      else .res (s.moveLane c (p.u8 4)) [c.lane]
    | none => .fail s stBAD_PARAM) s)

/-- `SHUTTLE_STATUS` (R251). -/
def execShuttleStatus (p : Packet) (s : State) : Host.Outcome State Fault Refusal :=
  .next (runOp 0x76 p noWake (fun _ s =>
    .res s ((List.range 13).flatMap (fun j => s.readBytes .SHUTTLE j 0x00 4) ++ s.readBytes .SHF 0 0x00 4
      ++ s.readBytes .SHF 0 0x1C 4)) s)

end Sys2Proof.Machine
end

