-- ==== Sys2Proof/Machine/SkeinCmds.lean ====
section
/-! DEFINITION. The skein dies' power, hold line, link and configuration check (01_architecture.md R18,
16_start_up.md R372). -/

namespace Sys2Proof.Machine

/-- A stored field belongs to a skein's always-on section. -/
def cellOfSkein (k : Nat) (c : Cell) : Bool :=
  let u := c.unit / c.fld.info.cnt
  c.fld.onSkein && (match c.fld.info.space with
    | .FEED => u / 2 == k
    | .SKEIN => u == k
    | .PORT => u / 12 == k
    | _ => false)

/-- What a skein die's power-up and power-down leave of a port: nothing but what the hub and the loom die hold of it, the
change bits, the speed found at the last port reset, the test mode and the translator of its hub port (06_transparent_hub.md
R131, R134) and the session and the mode change that still end. -/
def blankPort (p : PortH) : PortH :=
  { ({} : PortH) with detaching := p.detaching, fabric := p.fabric, afterAtt := p.afterAtt, pendBy := p.pendBy
                      hpChange := p.hpChange, hpSpeed := p.hpSpeed, hpTest := p.hpTest, tt := p.tt }

/-- What a skein die's power-up and power-down leave of it: every register at its reset value, no timers (R372); an
overcurrent that a hub port reported ends with its change bit (06_transparent_hub.md R131). The loom die asserts the hold
line only for a cause of R18. -/
def State.skeinBlank (s : State) (k : Nat) (powered : Bool) : State :=
  let s := (skeinPorts k).foldl (fun s n => if s.hubOver n then s.hubChange n 3 else s) s
  let s := s.resetRegs (cellOfSkein k)
  let s := (skeinFeeds k).foldl (fun s u => s.modFeed u (fun _ => {})) s
  let s := (skeinPorts k).foldl (fun s n => s.modPort n blankPort) s
  s.modSkein k (fun _ => { powered := powered, holdLine := s.holdCause })

/-- R372: either feed input has reached 3.6 V ± 0.2 V (mV): registers at reset, each feed in `WAITING` or
`COOLDOWN_INHERITED` by its `SKkf_CDLY` pin (R55), ports `OFF` and `DISABLED`, the skein held. Between 3.4 V and 3.8 V
the threshold is open (a free value). -/
def execSkeinAonPowerUp (skein vinA vinB cdlyA cdlyB : Nat) (s : State) : Host.Outcome State Fault Refusal :=
  let v := max vinA vinB
  let go (s : State) : State :=
    let s := (s.skeinBlank skein true).set .SKN_STAT_HELD skein 1
    let s := s.set .SKN_BSTAT_SUSPENDED skein 1
    [(2 * skein, cdlyA), (2 * skein + 1, cdlyB)].foldl (fun s uv =>
      let s := s.set .FEED_STAT_RETRY_LEFT uv.1 (s.get .FEED_CFG_RETRIES uv.1)
      if 400 ≤ uv.2 then
        let s := s.modFeed uv.1 (fun f => { f with cdlyHigh := true, unread := 2 ^ 5 })
        ((s.set .FEED_STAT_STATE uv.1 fINHERITED).count .FEED_CNT_INHERIT_CNT uv.1).setBit .FEED_EVT uv.1 5
      else s.set .FEED_STAT_STATE uv.1 fWAITING) s
  if 8 ≤ skein || (s.skein skein).powered || v < 3400 then .next s
  else if 3800 ≤ v then .next (go s)
  else .next (if s.freeVal % 2 == 1 then go s.useFree else s.useFree)

/-- R372: both feed inputs have fallen below 3.3 V ± 0.2 V: the always-on section powers down; what its ports' data
sessions held ends. Between 3.1 V and 3.5 V the threshold is open (a free value). -/
def execSkeinAonPowerDown (skein vinA vinB : Nat) (s : State) : Host.Outcome State Fault Refusal :=
  let v := max vinA vinB
  let go (s : State) : State :=
    let s := (skeinPorts skein).foldl (fun s n => (s.startDetach n wDEVICE_GONE).setAtt n 0) s
    let s := s.skeinBlank skein false
    ((skeinPorts skein).foldl State.noteServing s).settleDomains
  if 8 ≤ skein || !(s.skein skein).powered || 3500 ≤ v then .next s
  else if v < 3100 then .next (go s)
  else .next (if s.freeVal % 2 == 1 then go s.useFree else s.useFree)

/-- R18: the hold line asserts. -/
def execHoldLineAssert (skein : Nat) (s : State) : Host.Outcome State Fault Refusal :=
  if skein < 8 && s.holdCause then .next (s.holdSkein skein) else .next s

/-- R18: the hold line deasserts; the skein stays held until its configuration check. -/
def execHoldLineDeassert (skein : Nat) (s : State) : Host.Outcome State Fault Refusal :=
  if skein < 8 && !s.holdCause then .next (s.modSkein skein (fun x => { x with holdLine := false })) else .next s

/-- R18: a link silent for 100 µs counts as an asserted hold line. -/
def execLinkSilentTimeout (skein silentNs : Nat) (s : State) : Host.Outcome State Fault Refusal :=
  if skein < 8 && 100000 ≤ silentNs && (s.skein skein).powered then
    .next (s.loseLink skein)
  else .next s

/-- R18: the lead half starts a configuration check of a held skein, or of one whose link has just been trained
(14_faults_and_takeover.md R338), whose hold line is deasserted and whose link works. -/
def execConfigCheckStart (skein : Nat) (s : State) : Host.Outcome State Fault Refusal :=
  if skein < 8 && (s.skein skein).powered && !(s.skein skein).holdLine
      && (s.skHeld skein || (s.skein skein).checkDue) && !s.holdCause && !s.unitFenced (0x40 + skein) then
    .next ((s.modSkein skein (fun x => { x with
      linkSilent := false, checkDue := false, checkFailed := false, checkFrom := some s.dt })).readFeedEvents skein)
  else .next s

/-- R18, R377: a check ends: on a pass the skein leaves hold; on a failure it stays held and `LANE`, or `LINK`, is
raised. -/
def execConfigCheckDone (skein : Nat) (pass link : Bool) (s : State) : Host.Outcome State Fault Refusal :=
  if skein < 8 && ((s.skein skein).checkFrom).isSome then
    let s := s.modSkein skein (fun x => { x with checkFrom := none })
    if pass then .next (s.leaveHold skein)
    else
      let s := s.modSkein skein (fun x => { x with checkFailed := true })
      .next (s.raiseFault (0x40 + skein) (if link then 0xB else 0xA) 0)
  else .next s

end Sys2Proof.Machine
end

