-- ==== Sys2Proof/Machine/Dispatch.lean ====
section
/-! DEFINITION. One arm per command: the one place where a command is given its meaning. -/

namespace Sys2Proof.Machine

def exec (i : Instr) (s : State) : Host.Outcome State Fault Refusal :=
  match i with
  | .porstNAssert lowNs => Sys2Proof.Machine.execPorstNAssert lowNs s
  | .porstNRelease straps valid => Sys2Proof.Machine.execPorstNRelease straps valid s
  | .strapPullDisable => Sys2Proof.Machine.execStrapPullDisable s
  | .warmNRelease => Sys2Proof.Machine.execWarmNRelease s
  | .warmNLow lowNs => Sys2Proof.Machine.execWarmNLow lowNs s
  | .warmRestartBegin => Sys2Proof.Machine.execWarmRestartBegin s
  | .vddAonRemoval => Sys2Proof.Machine.execVddAonRemoval s
  | .xspiResetRelease => Sys2Proof.Machine.execXspiResetRelease s
  | .referenceLocked => Sys2Proof.Machine.execReferenceLocked s
  | .otpReadComplete => Sys2Proof.Machine.execOtpReadComplete s
  | .dramInitComplete => Sys2Proof.Machine.execDramInitComplete s
  | .imageVerified slot => Sys2Proof.Machine.execImageVerified slot s
  | .halfBootComplete half digestOk => Sys2Proof.Machine.execHalfBootComplete half digestOk s
  | .tokenGrant => Sys2Proof.Machine.execTokenGrant s
  | .tokenArbitrationTimeout => Sys2Proof.Machine.execTokenArbitrationTimeout s
  | .selfTestComplete failed => Sys2Proof.Machine.execSelfTestComplete failed s
  | .standingProfileApply => Sys2Proof.Machine.execStandingProfileApply s
  | .xtal32Start cycles => Sys2Proof.Machine.execXtal32Start cycles s
  | .xtal32Abandon => Sys2Proof.Machine.execXtal32Abandon s
  | .dfuConnect vbusNs => Sys2Proof.Machine.execDfuConnect vbusNs s
  | .dfuDnload block => Sys2Proof.Machine.execDfuDnload block s
  | .dfuManifest => Sys2Proof.Machine.execDfuManifest s
  | .dfuBusReset => Sys2Proof.Machine.execDfuBusReset s
  | .skeinAonPowerUp skein vinA vinB cdlyA cdlyB => Sys2Proof.Machine.execSkeinAonPowerUp skein vinA vinB cdlyA cdlyB s
  | .skeinAonPowerDown skein vinA vinB => Sys2Proof.Machine.execSkeinAonPowerDown skein vinA vinB s
  | .holdLineAssert skein => Sys2Proof.Machine.execHoldLineAssert skein s
  | .holdLineDeassert skein => Sys2Proof.Machine.execHoldLineDeassert skein s
  | .linkSilentTimeout skein silentNs => Sys2Proof.Machine.execLinkSilentTimeout skein silentNs s
  | .configCheckStart skein => Sys2Proof.Machine.execConfigCheckStart skein s
  | .configCheckDone skein pass link => Sys2Proof.Machine.execConfigCheckDone skein pass link s
  | .trainingComplete src pass => Sys2Proof.Machine.execTrainingComplete src pass s
  | .feedInputQualified feed vin forNs => Sys2Proof.Machine.execFeedInputQualified feed vin forNs s
  | .railReached feed vin rail => Sys2Proof.Machine.execRailReached feed vin rail s
  | .fullEnhancement feed vgsMv => Sys2Proof.Machine.execFullEnhancement feed vgsMv s
  | .shareReached feed ownUv mateUv fullDrive => Sys2Proof.Machine.execShareReached feed ownUv mateUv fullDrive s
  | .feedCurrentLimit feed shuntUv => Sys2Proof.Machine.execFeedCurrentLimit feed shuntUv s
  | .feedLimitExit feed belowNs => Sys2Proof.Machine.execFeedLimitExit feed belowNs s
  | .feedFaultTimerExpiry feed model sensorUv => Sys2Proof.Machine.execFeedFaultTimerExpiry feed model sensorUv s
  | .inrushTimeout feed => Sys2Proof.Machine.execInrushTimeout feed s
  | .feedThermalModelUpdate feed volts shuntUv => Sys2Proof.Machine.execFeedThermalModelUpdate feed volts shuntUv s
  | .feedSensorRead feed uv => Sys2Proof.Machine.execFeedSensorRead feed uv s
  | .feedReverseBlock feed sense => Sys2Proof.Machine.execFeedReverseBlock feed sense s
  | .feedInputOutOfRange feed vin => Sys2Proof.Machine.execFeedInputOutOfRange feed vin s
  | .feedBlockedRejoin feed vin rail => Sys2Proof.Machine.execFeedBlockedRejoin feed vin rail s
  | .inputLost feed vin forNs => Sys2Proof.Machine.execInputLost feed vin forNs s
  | .cdlyCooldownEnd feed => Sys2Proof.Machine.execCdlyCooldownEnd feed s
  | .cdlyCheckMissing feed => Sys2Proof.Machine.execCdlyCheckMissing feed s
  | .cdlyCheckShorted feed => Sys2Proof.Machine.execCdlyCheckShorted feed s
  | .cdlyTestCharge feed charge => Sys2Proof.Machine.execCdlyTestCharge feed charge s
  | .feedStopped feed vgsMv => Sys2Proof.Machine.execFeedStopped feed vgsMv s
  | .feedRetryReload feed => Sys2Proof.Machine.execFeedRetryReload feed s
  | .feedStuckOn feed shuntUv => Sys2Proof.Machine.execFeedStuckOn feed shuntUv s
  | .feedSample feed vinMv shuntUv railMv vgsMv controlled => Sys2Proof.Machine.execFeedSample feed vinMv shuntUv railMv vgsMv controlled s
  | .measurementWindowEnd => Sys2Proof.Machine.execMeasurementWindowEnd s
  | .shareLimitSet feed forNs => Sys2Proof.Machine.execShareLimitSet feed forNs s
  | .shareLimitClear feed forNs => Sys2Proof.Machine.execShareLimitClear feed forNs s
  | .powerGoodSettled skein => Sys2Proof.Machine.execPowerGoodSettled skein s
  | .feedCfgWrite path feed value => Sys2Proof.Machine.execFeedCfgWrite path feed value s
  | .softstartComplete port vbus rail => Sys2Proof.Machine.execSoftstartComplete port vbus rail s
  | .ssTimeout port => Sys2Proof.Machine.execSsTimeout port s
  | .portCurrentLimit port iMa => Sys2Proof.Machine.execPortCurrentLimit port iMa s
  | .portLimitExit port belowNs => Sys2Proof.Machine.execPortLimitExit port belowNs s
  | .portFaultTimerExpiry port shortMa sensor model => Sys2Proof.Machine.execPortFaultTimerExpiry port shortMa sensor model s
  | .shortCircuitTrip port iMa => Sys2Proof.Machine.execShortCircuitTrip port iMa s
  | .portSensorRead port reading => Sys2Proof.Machine.execPortSensorRead port reading s
  | .portModelUpdate port heat => Sys2Proof.Machine.execPortModelUpdate port heat s
  | .portReverseBlock port vbus rail => Sys2Proof.Machine.execPortReverseBlock port vbus rail s
  | .portReverseRelease port vbus rail forNs => Sys2Proof.Machine.execPortReverseRelease port vbus rail forNs s
  | .dischargeComplete port vbus => Sys2Proof.Machine.execDischargeComplete port vbus s
  | .dischargeDisconnect port belowNs => Sys2Proof.Machine.execDischargeDisconnect port belowNs s
  | .retryPeriodExpiry port => Sys2Proof.Machine.execRetryPeriodExpiry port s
  | .retryEnd port vbus => Sys2Proof.Machine.execRetryEnd port vbus s
  | .portRetryReload port => Sys2Proof.Machine.execPortRetryReload port s
  | .portStuckOn port iMa => Sys2Proof.Machine.execPortStuckOn port iMa s
  | .portSample port vbus iMa => Sys2Proof.Machine.execPortSample port vbus iMa s
  | .pwrCfgWrite path port value => Sys2Proof.Machine.execPwrCfgWrite path port value s
  | .allocationPass skein => Sys2Proof.Machine.execAllocationPass skein s
  | .rpLevelApplied port => Sys2Proof.Machine.execRpLevelApplied port s
  | .shedHoldEnd skein => Sys2Proof.Machine.execShedHoldEnd skein s
  | .shedCapRestore skein => Sys2Proof.Machine.execShedCapRestore skein s
  | .complianceCheck port => Sys2Proof.Machine.execComplianceCheck port s
  | .sinkLimitImposed port => Sys2Proof.Machine.execSinkLimitImposed port s
  | .ccOvervoltage port mv belowNs => Sys2Proof.Machine.execCcOvervoltage port mv belowNs s
  | .vbusBackfeedClear port belowNs => Sys2Proof.Machine.execVbusBackfeedClear port belowNs s
  | .ccSample port pat => Sys2Proof.Machine.execCcSample port pat s
  | .typecDebounceComplete port => Sys2Proof.Machine.execTypecDebounceComplete port s
  | .typeaDetect port iMa pullup => Sys2Proof.Machine.execTypeaDetect port iMa pullup s
  | .typeaDebounceComplete port => Sys2Proof.Machine.execTypeaDebounceComplete port s
  | .typecDetach port openNs => Sys2Proof.Machine.execTypecDetach port openNs s
  | .typeaDetach port forNs => Sys2Proof.Machine.execTypeaDetach port forNs s
  | .typeaPullupSeen port => Sys2Proof.Machine.execTypeaPullupSeen port s
  | .qualifyComplete port => Sys2Proof.Machine.execQualifyComplete port s
  | .logicalDetachComplete port => Sys2Proof.Machine.execLogicalDetachComplete port s
  | .modeChangeComplete port => Sys2Proof.Machine.execModeChangeComplete port s
  | .upstreamVbusQualified presentNs => Sys2Proof.Machine.execUpstreamVbusQualified presentNs s
  | .upstreamConnect => Sys2Proof.Machine.execUpstreamConnect s
  | .upstreamVbusAbsent absentNs => Sys2Proof.Machine.execUpstreamVbusAbsent absentNs s
  | .disconnectHoldoffEnd => Sys2Proof.Machine.execDisconnectHoldoffEnd s
  | .setPortPower hubPort => Sys2Proof.Machine.execSetPortPower hubPort s
  | .clearPortPower hubPort => Sys2Proof.Machine.execClearPortPower hubPort s
  | .setPortReset hubPort => Sys2Proof.Machine.execSetPortReset hubPort s
  | .portResetEnd hubPort speed => Sys2Proof.Machine.execPortResetEnd hubPort speed s
  | .clearPortEnable hubPort => Sys2Proof.Machine.execClearPortEnable hubPort s
  | .setPortSuspend hubPort => Sys2Proof.Machine.execSetPortSuspend hubPort s
  | .clearPortSuspend hubPort => Sys2Proof.Machine.execClearPortSuspend hubPort s
  | .setPortTest hubPort mode => Sys2Proof.Machine.execSetPortTest hubPort mode s
  | .setPortIndicator hubPort => Sys2Proof.Machine.execSetPortIndicator hubPort s
  | .clearTtBuffer hubPort dev ep => Sys2Proof.Machine.execClearTtBuffer hubPort dev ep s
  | .resetTt hubPort => Sys2Proof.Machine.execResetTt hubPort s
  | .stopTt hubPort => Sys2Proof.Machine.execStopTt hubPort s
  | .getTtState hubPort => Sys2Proof.Machine.execGetTtState hubPort s
  | .getPortStatus hubPort => Sys2Proof.Machine.execGetPortStatus hubPort s
  | .hubSetInterface alt => Sys2Proof.Machine.execHubSetInterface alt s
  | .upstreamReset => Sys2Proof.Machine.execUpstreamReset s
  | .hubGlobalSuspend idleNs => Sys2Proof.Machine.execHubGlobalSuspend idleNs s
  | .hostResume eop => Sys2Proof.Machine.execHostResume eop s
  | .downstreamRemoteWake hubPort signal => Sys2Proof.Machine.execDownstreamRemoteWake hubPort signal s
  | .portResumeEnd hubPort => Sys2Proof.Machine.execPortResumeEnd hubPort s
  | .microframeBoundary shuttle late => Sys2Proof.Machine.execMicroframeBoundary shuttle late s
  | .downstreamTransaction ctx txn => Sys2Proof.Machine.execDownstreamTransaction ctx txn s
  | .enumResetEnd port route speed => Sys2Proof.Machine.execEnumResetEnd port route speed s
  | .enumRecoveryEnd port route => Sys2Proof.Machine.execEnumRecoveryEnd port route s
  | .enumRequestComplete port route status data => Sys2Proof.Machine.execEnumRequestComplete port route status data s
  | .enumRequestTimeout port route => Sys2Proof.Machine.execEnumRequestTimeout port route s
  | .setAddressTimeout port route => Sys2Proof.Machine.execSetAddressTimeout port route s
  | .enumAttemptTimeout port route => Sys2Proof.Machine.execEnumAttemptTimeout port route s
  | .enumRetryWaitEnd port route => Sys2Proof.Machine.execEnumRetryWaitEnd port route s
  | .enumerationComplete port route => Sys2Proof.Machine.execEnumerationComplete port route s
  | .contextRelease ctx => Sys2Proof.Machine.execContextRelease ctx s
  | .spareLoaded shuttle => Sys2Proof.Machine.execSpareLoaded shuttle s
  | .takeoverConfirm shuttle => Sys2Proof.Machine.execTakeoverConfirm shuttle s
  | .treeIdleTimeout port => Sys2Proof.Machine.execTreeIdleTimeout port s
  | .deviceResumeSignal port => Sys2Proof.Machine.execDeviceResumeSignal port s
  | .treeResumeEnd port => Sys2Proof.Machine.execTreeResumeEnd port s
  | .treeRecoveryEnd port => Sys2Proof.Machine.execTreeRecoveryEnd port s
  | .deviceResetComplete port route descs => Sys2Proof.Machine.execDeviceResetComplete port route descs s
  | .mirrorRebuildComplete => Sys2Proof.Machine.execMirrorRebuildComplete s
  | .laneOutTransfer lane bytes => Sys2Proof.Machine.execLaneOutTransfer lane bytes s
  | .outDmaComplete lane => Sys2Proof.Machine.execOutDmaComplete lane s
  | .hostDataRecord lane => Sys2Proof.Machine.execHostDataRecord lane s
  | .setupRecord lane cfg => Sys2Proof.Machine.execSetupRecord lane cfg s
  | .statusRecord lane => Sys2Proof.Machine.execStatusRecord lane s
  | .abortRecord lane => Sys2Proof.Machine.execAbortRecord lane s
  | .hostAckRecord lane => Sys2Proof.Machine.execHostAckRecord lane s
  | .hostCreditRecord lane => Sys2Proof.Machine.execHostCreditRecord lane s
  | .outRecordComplete handle => Sys2Proof.Machine.execOutRecordComplete handle s
  | .laneInTransfer lane => Sys2Proof.Machine.execLaneInTransfer lane s
  | .ep2InTransfer => Sys2Proof.Machine.execEp2InTransfer s
  | .linkReset lost => Sys2Proof.Machine.execLinkReset lost s
  | .loomSetConfiguration value => Sys2Proof.Machine.execLoomSetConfiguration value s
  | .loomSetInterface alt => Sys2Proof.Machine.execLoomSetInterface alt s
  | .loomClearHalt lane => Sys2Proof.Machine.execLoomClearHalt lane s
  | .functionSuspend suspend u3 wake => Sys2Proof.Machine.execFunctionSuspend suspend u3 wake s
  | .hostU3Exit done => Sys2Proof.Machine.execHostU3Exit done s
  | .wakeNotifyRepeat => Sys2Proof.Machine.execWakeNotifyRepeat s
  | .u1Initiate idleNs => Sys2Proof.Machine.execU1Initiate idleNs s
  | .linkTrained rate => Sys2Proof.Machine.execLinkTrained rate s
  | .loomPacketReceived chan origin bytes => Sys2Proof.Machine.execLoomPacketReceived chan origin bytes s
  | .inRing => Sys2Proof.Machine.execInRing s
  | .mailboxPacketTaken => Sys2Proof.Machine.execMailboxPacketTaken s
  | .outDone => Sys2Proof.Machine.execOutDone s
  | .forwardTimeout tag chan => Sys2Proof.Machine.execForwardTimeout tag chan s
  | .deviceInfo p => Sys2Proof.Machine.execDeviceInfo p s
  | .deviceStatus p => Sys2Proof.Machine.execDeviceStatus p s
  | .connect p => Sys2Proof.Machine.execConnect p s
  | .disconnect p => Sys2Proof.Machine.execDisconnect p s
  | .warmRestart p => Sys2Proof.Machine.execWarmRestart p s
  | .journalRead p => Sys2Proof.Machine.execJournalRead p s
  | .channelMask p => Sys2Proof.Machine.execChannelMask p s
  | .profileWrite p => Sys2Proof.Machine.execProfileWrite p s
  | .profileRead p => Sys2Proof.Machine.execProfileRead p s
  | .profileErase p => Sys2Proof.Machine.execProfileErase p s
  | .portModeSet p => Sys2Proof.Machine.execPortModeSet p s
  | .portDataEnable p => Sys2Proof.Machine.execPortDataEnable p s
  | .portDataDisable p => Sys2Proof.Machine.execPortDataDisable p s
  | .portVbusOn p => Sys2Proof.Machine.execPortVbusOn p s
  | .portVbusOff p => Sys2Proof.Machine.execPortVbusOff p s
  | .portLatchClear p => Sys2Proof.Machine.execPortLatchClear p s
  | .portPwrConfig p => Sys2Proof.Machine.execPortPwrConfig p s
  | .portStatus p => Sys2Proof.Machine.execPortStatus p s
  | .portRescan p => Sys2Proof.Machine.execPortRescan p s
  | .feedEnable p => Sys2Proof.Machine.execFeedEnable p s
  | .feedDisable p => Sys2Proof.Machine.execFeedDisable p s
  | .feedConfig p => Sys2Proof.Machine.execFeedConfig p s
  | .skeinConfig p => Sys2Proof.Machine.execSkeinConfig p s
  | .skeinBudget p => Sys2Proof.Machine.execSkeinBudget p s
  | .powerStatus p => Sys2Proof.Machine.execPowerStatus p s
  | .measPorts p => Sys2Proof.Machine.execMeasPorts p s
  | .measFeeds p => Sys2Proof.Machine.execMeasFeeds p s
  | .snapTrigger p => Sys2Proof.Machine.execSnapTrigger p s
  | .countersRead p => Sys2Proof.Machine.execCountersRead p s
  | .energyRead p => Sys2Proof.Machine.execEnergyRead p s
  | .domainSet p => Sys2Proof.Machine.execDomainSet p s
  | .domainGet p => Sys2Proof.Machine.execDomainGet p s
  | .idlePolicySet p => Sys2Proof.Machine.execIdlePolicySet p s
  | .wakeConfig p => Sys2Proof.Machine.execWakeConfig p s
  | .alarmSet p => Sys2Proof.Machine.execAlarmSet p s
  | .faultStatus p => Sys2Proof.Machine.execFaultStatus p s
  | .faultClear p => Sys2Proof.Machine.execFaultClear p s
  | .faultLogRead p => Sys2Proof.Machine.execFaultLogRead p s
  | .faultInject p => Sys2Proof.Machine.execFaultInject p s
  | .hierRoleSet p => Sys2Proof.Machine.execHierRoleSet p s
  | .hierStatus p => Sys2Proof.Machine.execHierStatus p s
  | .poolDefine p => Sys2Proof.Machine.execPoolDefine p s
  | .poolStatus p => Sys2Proof.Machine.execPoolStatus p s
  | .timeGet p => Sys2Proof.Machine.execTimeGet p s
  | .timeSet p => Sys2Proof.Machine.execTimeSet p s
  | .canAssign p => Sys2Proof.Machine.execCanAssign p s
  | .shuttleDevInfo p => Sys2Proof.Machine.execShuttleDevInfo p s
  | .shuttleShareSet p => Sys2Proof.Machine.execShuttleShareSet p s
  | .shuttleReturn p => Sys2Proof.Machine.execShuttleReturn p s
  | .shuttleResetDevice p => Sys2Proof.Machine.execShuttleResetDevice p s
  | .shuttleIdleSet p => Sys2Proof.Machine.execShuttleIdleSet p s
  | .handleMap p => Sys2Proof.Machine.execHandleMap p s
  | .shuttleStatus p => Sys2Proof.Machine.execShuttleStatus p s
  | .identityReport p => Sys2Proof.Machine.execIdentityReport p s
  | .attest p => Sys2Proof.Machine.execAttest p s
  | .lifecycleAdvance p => Sys2Proof.Machine.execLifecycleAdvance p s
  | .challenge p => Sys2Proof.Machine.execChallenge p s
  | .debugUnlock p => Sys2Proof.Machine.execDebugUnlock p s
  | .debugEnd p => Sys2Proof.Machine.execDebugEnd p s
  | .keyRevoke p => Sys2Proof.Machine.execKeyRevoke p s
  | .fwWrite p => Sys2Proof.Machine.execFwWrite p s
  | .fwVerify p => Sys2Proof.Machine.execFwVerify p s
  | .fwActivate p => Sys2Proof.Machine.execFwActivate p s
  | .fwCommit p => Sys2Proof.Machine.execFwCommit p s
  | .fwStatus p => Sys2Proof.Machine.execFwStatus p s
  | .fwBroadcast p => Sys2Proof.Machine.execFwBroadcast p s
  | .regRead p => Sys2Proof.Machine.execRegRead p s
  | .regWrite p => Sys2Proof.Machine.execRegWrite p s
  | .standbyUpdated verified booted => Sys2Proof.Machine.execStandbyUpdated verified booted s
  | .handover => Sys2Proof.Machine.execHandover s
  | .newLeadRunning => Sys2Proof.Machine.execNewLeadRunning s
  | .formerLeadUpdated => Sys2Proof.Machine.execFormerLeadUpdated s
  | .activationTimeout => Sys2Proof.Machine.execActivationTimeout s
  | .canModeWrite can mode => Sys2Proof.Machine.execCanModeWrite can mode s
  | .canModeChange can => Sys2Proof.Machine.execCanModeChange can s
  | .canSynced can recessiveBits => Sys2Proof.Machine.execCanSynced can recessiveBits s
  | .canTimingWrite can off data => Sys2Proof.Machine.execCanTimingWrite can off data s
  | .txRequest can mask => Sys2Proof.Machine.execTxRequest can mask s
  | .txAbort can mask req => Sys2Proof.Machine.execTxAbort can mask req s
  | .txbWrite can buf off data => Sys2Proof.Machine.execTxbWrite can buf off data s
  | .txChoice can => Sys2Proof.Machine.execTxChoice can s
  | .canTxAttemptEnd can stamp loopDelay fin => Sys2Proof.Machine.execCanTxAttemptEnd can stamp loopDelay fin s
  | .loneSlot can => Sys2Proof.Machine.execLoneSlot can s
  | .canFrameReceived can frame stamp => Sys2Proof.Machine.execCanFrameReceived can frame stamp s
  | .fifoPop can => Sys2Proof.Machine.execFifoPop can s
  | .busoffRecovery can occurrences => Sys2Proof.Machine.execBusoffRecovery can occurrences s
  | .canUseChange can => Sys2Proof.Machine.execCanUseChange can s
  | .listenWindowEnd => Sys2Proof.Machine.execListenWindowEnd s
  | .joinTimeout => Sys2Proof.Machine.execJoinTimeout s
  | .heartbeatSend => Sys2Proof.Machine.execHeartbeatSend s
  | .heartbeat m => Sys2Proof.Machine.execHeartbeat m s
  | .heartbeatLoss => Sys2Proof.Machine.execHeartbeatLoss s
  | .elect m => Sys2Proof.Machine.execElect m s
  | .electionWindowEnd => Sys2Proof.Machine.execElectionWindowEnd s
  | .electionRetry => Sys2Proof.Machine.execElectionRetry s
  | .announce m => Sys2Proof.Machine.execAnnounce m s
  | .join m => Sys2Proof.Machine.execJoin m s
  | .joinAck m => Sys2Proof.Machine.execJoinAck m s
  | .leave m => Sys2Proof.Machine.execLeave m s
  | .wstatusSend => Sys2Proof.Machine.execWstatusSend s
  | .wstatus m => Sys2Proof.Machine.execWstatus m s
  | .memberAbsent idx => Sys2Proof.Machine.execMemberAbsent idx s
  | .tsyncSend => Sys2Proof.Machine.execTsyncSend s
  | .tsync m => Sys2Proof.Machine.execTsync m s
  | .tfollowSend bus => Sys2Proof.Machine.execTfollowSend bus s
  | .tfollow m => Sys2Proof.Machine.execTfollow m s
  | .dreqSend => Sys2Proof.Machine.execDreqSend s
  | .dreq m aheadNs => Sys2Proof.Machine.execDreq m aheadNs s
  | .dresp m => Sys2Proof.Machine.execDresp m s
  | .timeUnlockTimeout => Sys2Proof.Machine.execTimeUnlockTimeout s
  | .cmdSegment m cls => Sys2Proof.Machine.execCmdSegment m cls s
  | .rplSegment m cls => Sys2Proof.Machine.execRplSegment m cls s
  | .segmentTimeout reply src cls => Sys2Proof.Machine.execSegmentTimeout reply src cls s
  | .eventFrame m => Sys2Proof.Machine.execEventFrame m s
  | .loanCompute => Sys2Proof.Machine.execLoanCompute s
  | .loan m => Sys2Proof.Machine.execLoan m s
  | .loanAck m => Sys2Proof.Machine.execLoanAck m s
  | .loanResend idx => Sys2Proof.Machine.execLoanResend idx s
  | .loanRaise => Sys2Proof.Machine.execLoanRaise s
  | .poolSync m => Sys2Proof.Machine.execPoolSync m s
  | .poolSyncPeriodic => Sys2Proof.Machine.execPoolSyncPeriodic s
  | .fwCtrl m => Sys2Proof.Machine.execFwCtrl m s
  | .fwData m => Sys2Proof.Machine.execFwData m s
  | .fwNack m => Sys2Proof.Machine.execFwNack m s
  | .fwNackWindowEnd => Sys2Proof.Machine.execFwNackWindowEnd s
  | .domainStepReady domain sealOk => Sys2Proof.Machine.execDomainStepReady domain sealOk s
  | .domainStepTimeout domain => Sys2Proof.Machine.execDomainStepTimeout domain s
  | .domainEntryComplete domain => Sys2Proof.Machine.execDomainEntryComplete domain s
  | .idleTimeout domain => Sys2Proof.Machine.execIdleTimeout domain s
  | .domReqWrite domain value => Sys2Proof.Machine.execDomReqWrite domain value s
  | .avsAck readMv => Sys2Proof.Machine.execAvsAck readMv s
  | .avsNoAck => Sys2Proof.Machine.execAvsNoAck s
  | .avsRetry => Sys2Proof.Machine.execAvsRetry s
  | .addressMatch addr i3c => Sys2Proof.Machine.execAddressMatch addr i3c s
  | .upstreamResumeDetect lfps => Sys2Proof.Machine.execUpstreamResumeDetect lfps s
  | .wakeInEdge highNs => Sys2Proof.Machine.execWakeInEdge highNs s
  | .alarmFire alarm => Sys2Proof.Machine.execAlarmFire alarm s
  | .alarmArmWrite path alarm high => Sys2Proof.Machine.execAlarmArmWrite path alarm high s
  | .dbgEnRise => Sys2Proof.Machine.execDbgEnRise s
  | .dbgEnFall => Sys2Proof.Machine.execDbgEnFall s
  | .errorPairSet src kind addr => Sys2Proof.Machine.execErrorPairSet src kind addr s
  | .codedMessage word => Sys2Proof.Machine.execCodedMessage word s
  | .codedMessageRepeat word => Sys2Proof.Machine.execCodedMessageRepeat word s
  | .linkMessageTimeout skein => Sys2Proof.Machine.execLinkMessageTimeout skein s
  | .pairBroken src clocks => Sys2Proof.Machine.execPairBroken src clocks s
  | .pairWhole src forNs => Sys2Proof.Machine.execPairWhole src forNs s
  | .faultNotification => Sys2Proof.Machine.execFaultNotification s
  | .geckoClearWrite reg mask => Sys2Proof.Machine.execGeckoClearWrite reg mask s
  | .fltHb half seq handover => Sys2Proof.Machine.execFltHb half seq handover s
  | .leadHeartbeatTimeout => Sys2Proof.Machine.execLeadHeartbeatTimeout s
  | .tokenRecordMismatch c0 c1 c2 => Sys2Proof.Machine.execTokenRecordMismatch c0 c1 c2 s
  | .sharedWriteRefused half => Sys2Proof.Machine.execSharedWriteRefused half s
  | .stateCopyComplete => Sys2Proof.Machine.execStateCopyComplete s
  | .takeoverComplete => Sys2Proof.Machine.execTakeoverComplete s
  | .referenceAbsentTimeout absentNs => Sys2Proof.Machine.execReferenceAbsentTimeout absentNs s
  | .referenceStable stableNs => Sys2Proof.Machine.execReferenceStable stableNs s
  | .otpProgram slot => Sys2Proof.Machine.execOtpProgram slot s
  | .otpProgramDone readBackOk => Sys2Proof.Machine.execOtpProgramDone readBackOk s
  | .challengeExpiry => Sys2Proof.Machine.execChallengeExpiry s
  | .debugAccess acc => Sys2Proof.Machine.execDebugAccess acc s
  | .debugWakeRequest domain state => Sys2Proof.Machine.execDebugWakeRequest domain state s
  | .mgmtWrite i3c bytes => Sys2Proof.Machine.execMgmtWrite i3c bytes s
  | .mgmtRead i3c count => Sys2Proof.Machine.execMgmtRead i3c count s
  | .enec events => Sys2Proof.Machine.execEnec events s
  | .disec events => Sys2Proof.Machine.execDisec events s
  | .rstdaa => Sys2Proof.Machine.execRstdaa s
  | .entdaa addr => Sys2Proof.Machine.execEntdaa addr s
  | .setdasa static addr => Sys2Proof.Machine.execSetdasa static addr s
  | .setnewda addr => Sys2Proof.Machine.execSetnewda addr s
  | .setmwl len => Sys2Proof.Machine.execSetmwl len s
  | .setmrl len => Sys2Proof.Machine.execSetmrl len s
  | .getmwl => Sys2Proof.Machine.execGetmwl s
  | .getmrl => Sys2Proof.Machine.execGetmrl s
  | .getpid => Sys2Proof.Machine.execGetpid s
  | .getbcr => Sys2Proof.Machine.execGetbcr s
  | .getdcr => Sys2Proof.Machine.execGetdcr s
  | .getstatus => Sys2Proof.Machine.execGetstatus s
  | .ibiRetry acked => Sys2Proof.Machine.execIbiRetry acked s
  | .indAddrWrite path value => Sys2Proof.Machine.execIndAddrWrite path value s
  | .indDataRead path => Sys2Proof.Machine.execIndDataRead path s
  | .indDataWrite path value => Sys2Proof.Machine.execIndDataWrite path value s
  | .indSet path value => Sys2Proof.Machine.execIndSet path value s
  | .indClr path value => Sys2Proof.Machine.execIndClr path value s
  | .indTgl path value => Sys2Proof.Machine.execIndTgl path value s
  | .indFetch path => Sys2Proof.Machine.execIndFetch path s
  | .fetchComplete path => Sys2Proof.Machine.execFetchComplete path s
  | .aliasSet path addr value => Sys2Proof.Machine.execAliasSet path addr value s
  | .aliasClear path addr value => Sys2Proof.Machine.execAliasClear path addr value s
  | .aliasToggle path addr value => Sys2Proof.Machine.execAliasToggle path addr value s
  | .registerWrite path addr value => Sys2Proof.Machine.execRegisterWrite path addr value s
  | .rcRead path addr => Sys2Proof.Machine.execRcRead path addr s
  | .lowWordRead path addr => Sys2Proof.Machine.execLowWordRead path addr s
  | .snapCtlTrigger path => Sys2Proof.Machine.execSnapCtlTrigger path s
  | .snapLatch => Sys2Proof.Machine.execSnapLatch s
  | .snapComplete => Sys2Proof.Machine.execSnapComplete s
  | .downstreamConnectChange hubPort pullup => Sys2Proof.Machine.execDownstreamConnectChange hubPort pullup s
  | .linkPowerStateRequest pm => Sys2Proof.Machine.execLinkPowerStateRequest pm s
  | .u2InactivityTimeout => Sys2Proof.Machine.execU2InactivityTimeout s
  | .hubStandardRequest req => Sys2Proof.Machine.execHubStandardRequest req s
  | .enumWaitEnd port route => Sys2Proof.Machine.execEnumWaitEnd port route s
  | .ep1ReplyTransfer => Sys2Proof.Machine.execEp1ReplyTransfer s
  | .domainClockStop domain => Sys2Proof.Machine.execDomainClockStop domain s
  | .collectorSelfTest outcome => Sys2Proof.Machine.execCollectorSelfTest outcome s
  | .xtal32Stop => Sys2Proof.Machine.execXtal32Stop s
  | .canRxError can lec dataPhase eights => Sys2Proof.Machine.execCanRxError can lec dataPhase eights s
  | .workerImageWritten => Sys2Proof.Machine.execWorkerImageWritten s

end Sys2Proof.Machine
end

