-- ==== Sys2Proof/Machine/Tick.lean ====
section
/-! DEFINITION. One tick of Device Time, which the block takes when no command waits (00_scope.md R11; 12_hierarchy.md
R301; 13_power_domains.md R310, R319; 17_registers.md R397; notes/assumptions/5.md). -/

namespace Sys2Proof.Machine

/-- What of the slew is due by now: its share of the 125 ms since it began (12_hierarchy.md R301). -/
def State.slewDue (s : State) : Nat :=
  s.hier.slew.natAbs * min (s.dt - s.hier.slewFrom) 125000000 / 125000000

/-- Move DT forward by `n` ns and what of the slew has come due; a slew backwards withholds no more than `n`, so DT never
decreases (00_scope.md R10). -/
def State.advance (s : State) (n : Nat) : State :=
  let due := s.slewDue
  let adj := due - s.hier.slewDone
  let n := if s.hier.slew < 0 then n - adj else n + adj
  { s with dt := s.dt + n, hier := { s.hier with slewDone := due } }

/-- One clock tick of DT: 25 ns of the time clock, or 30,517 ns and 37/64 of the slow clock (00_scope.md R11). The phase
of the slow clock, in 1/64 ns, runs on beside the time clock: 1,953,125 of them are one slow tick, and DT changes to the
slow clock at such a tick only (notes/assumptions/127.md). -/
def State.clockTick (s : State) : State :=
  if s.flag .TIME_STAT_SLOW_ONLY then
    let f := s.dtFrac + 37
    ({ s with dtFrac := f % 64 } : State).advance (30517 + f / 64)
  else
    let p := s.slowPhase + 1600
    let s := s.advance 25
    if p < 1953125 then { s with slowPhase := p } else ({ s with slowPhase := p - 1953125 } : State).slowBoundary

/-- The accesses of the windows complete within their bounds (17_registers.md R391). -/
def State.windowsDue (s : State) : State := (s.winSettle .mgmt false).winSettle .debug false

/-- What is ready passes to the IN buffers of the lanes (08_loom_function.md R202). -/
def State.fillLanes (s : State) : State :=
  if s.flag .LOOMS_STAT_CONFIGURED then (List.range 9).foldl State.fillLane s else s

/-- What the device does of itself at a tick; with `PORST_N` low DT stands still and the skein dies count on
(03_feeds.md R54, 04_port_power.md R92). -/
def State.tick (s : State) : State :=
  if s.pins.porstLow then ({ s with porstNs := s.porstNs + 25 } : State).admitFeeds
  else s.popsOver.clockTick.admitFeeds.snapLatch.windowsDue.restartQualify.ibiCheck.settleDomains.sessionCheck.avsRequest.driveWake.fillLanes.fillMailbox

end Sys2Proof.Machine
end

