-- ==== Sys2Proof/Safety.lean ====
section
/-! DEFINITION. What counts as a sound state: the register store in its canonical form, and one record for every unit
the device has. Claims are stated in these terms. -/

namespace Sys2Proof.Safety

open Sys2Proof.Machine

/-- One record for each domain, feed, port, skein, Shuttle and CAN controller (01_architecture.md R31;
13_power_domains.md R308). -/
def sized (s : State) : Bool :=
  s.doms.length == 42 && s.feeds.length == 16 && s.ports.length == 96 && s.skeins.length == 8
  && s.shuts.length == 13 && s.cans.length == 2

/-- A sound state: no field holds more than its width or is listed at its reset value, every field is listed at most
once, in order; every unit has its record; and the inbound mailbox window is in its canonical form. -/
def sound (s : State) : Bool := regWf s.regs && sized s && Memory.wf s.mbox.inWin

/-- The command ran: no fault and no refusal. -/
def ran (o : Host.Outcome State Fault Refusal) : Bool :=
  match o with
  | .next _ => true
  | .fault _ | .refused _ => false

/-- An Ecrax command runs now (09_ecrax_protocol.md R214, R222; 10_ecrax_opcodes.md R239): no waiting command goes before it,
a lead half runs (14_faults_and_takeover.md R344), no check of R214 refuses it, and those of the domains `ds` that are not
fenced are ON. -/
def runs (opcode : Nat) (ds : List Nat) (p : Packet) (s : State) : Bool :=
  !mustWait s.ecx.queue (opPacket opcode p) && !s.noLead && (refusalOf s (opPacket opcode p)).isNone
  && (ds.filter (fun d => !s.domFenced d)).all s.domOn

/-- The state from which its effect starts: it has left its queue, its domains are in use and its journal entry is
made. -/
def started (opcode : Nat) (ds : List Nat) (p : Packet) (s : State) : State :=
  let p := opPacket opcode p
  ((ds.filter (fun d => !s.domFenced d)).foldl State.touch (s.opWaiting p)).opStart p

/-- An Ecrax command runs now, and its effect starts from `t`. -/
def startsAs (opcode : Nat) (ds : List Nat) (p : Packet) (s t : State) : Prop :=
  runs opcode ds p s = true ∧ started opcode ds p s = t

/-- What a hierarchy message that is heard leaves behind before its own effect (12_hierarchy.md R282, R288, R294): it
has left the receive FIFO and its bus has delivered a frame, to which a manager whose active bus is out of use moves; the
election and heartbeat bounds that had run out by its stamp have acted first (00_scope.md R13). -/
def heard (typ : Nat) (m : HMsg) (s : State) : State :=
  let s := s.memberTimers (s.receivedAt m)
  let q := takeEntry (fun id => bits id 18 8 == typ && bits id 0 18 == m.src * 4096 + m.dst * 64 + m.seg)
    (s.can m.bus).fifo
  let s := (s.modCan m.bus (fun x => { x with fifo := q })).syncFifo m.bus
  let s := { s with hier := { s.hier with busLast := s.hier.busLast.set m.bus s.dt, frames := true } }
  s.followBus

/-- A message is heard, it is from another device, and its own effect starts from `t`. -/
def heardAs (typ : Nat) (m : HMsg) (s t : State) : Prop :=
  s.hears m = true ∧ (if typ == tELECT then m.seg else m.src) ≠ t.idx ∧ heard typ m s = t

/-- The next record of a lane's buffer passes the checks of R193 for the context `c` (08_loom_function.md R193), the
staging memory has room for its answers (R181), and its own effect starts from `t`, in which it has left the buffer. -/
def recordAs (lane : Nat) (r : WRec) (c : Ctx) (s t : State) : Prop :=
  ∃ rest, (s.lane lane).inbox = r :: rest ∧ s.stagingFree 2 = true ∧ s.modLane lane (fun l => { l with inbox := rest }) = t
    ∧ (t.lane lane).refused.contains r.handle = false ∧ t.checkRec lane r = .passed c

/-- The channel has room for a packet and its CRC is right (09_ecrax_protocol.md R212, R214, R218). -/
def crcRight (c : Chan) (bs : List Nat) (s : State) : Prop :=
  c ≠ .profile ∧ s.held c < 16 ∧ crc32 (bs.take 12 ++ packetParams c bs) = leAt bs 12 4

/-- A packet whose CRC and length are right (09_ecrax_protocol.md R214). -/
def lengthRight (c : Chan) (bs : List Nat) (s : State) : Prop :=
  crcRight c bs s ∧ leAt bs 6 2 ≤ 4080 ∧ leAt bs 6 2 = (packetParams c bs).length

/-- A packet whose CRC and length are right and that repeats none its channel keeps (09_ecrax_protocol.md R214, R216). -/
def isNew (c : Chan) (bs : List Nat) (s : State) : Prop :=
  lengthRight c bs s ∧ ∀ k, s.kept c = some k → ¬(k.seq = leAt bs 8 4 ∧ k.tag = leAt bs 2 2)

end Sys2Proof.Safety
end

