-- ==== Sys2Proof/Certificates/Slice0/Obligations.lean ====
section
/-! DEFINITION. The statements about the block. The first group says, command by command, when a command has its own
effect and what the whole next state then is; the second states rules of the spec and invariants. -/

open Sys2Proof Sys2Proof.Machine

namespace Sys2Proof

/-- The opcodes and the commands that run them (10_ecrax_opcodes.md R241 to R254). -/
def opcodeRows : List (Nat × (Packet → Instr)) :=
  [(0x00, Instr.deviceInfo), (0x01, Instr.deviceStatus), (0x02, Instr.connect), (0x03, Instr.disconnect),
   (0x04, Instr.warmRestart), (0x05, Instr.journalRead), (0x06, Instr.channelMask), (0x07, Instr.profileWrite),
   (0x08, Instr.profileRead), (0x09, Instr.profileErase), (0x10, Instr.portModeSet), (0x11, Instr.portDataEnable),
   (0x12, Instr.portDataDisable), (0x13, Instr.portVbusOn), (0x14, Instr.portVbusOff), (0x15, Instr.portLatchClear),
   (0x16, Instr.portPwrConfig), (0x17, Instr.portStatus), (0x18, Instr.portRescan), (0x20, Instr.feedEnable),
   (0x21, Instr.feedDisable), (0x22, Instr.feedConfig), (0x23, Instr.skeinConfig), (0x24, Instr.skeinBudget),
   (0x25, Instr.powerStatus), (0x30, Instr.measPorts), (0x31, Instr.measFeeds), (0x32, Instr.snapTrigger),
   (0x33, Instr.countersRead), (0x34, Instr.energyRead), (0x40, Instr.domainSet), (0x41, Instr.domainGet),
   (0x42, Instr.idlePolicySet), (0x43, Instr.wakeConfig), (0x44, Instr.alarmSet), (0x50, Instr.faultStatus),
   (0x51, Instr.faultClear), (0x52, Instr.faultLogRead), (0x53, Instr.faultInject), (0x60, Instr.hierRoleSet),
   (0x61, Instr.hierStatus), (0x62, Instr.poolDefine), (0x63, Instr.poolStatus), (0x64, Instr.timeGet),
   (0x65, Instr.timeSet), (0x66, Instr.canAssign), (0x70, Instr.shuttleDevInfo), (0x71, Instr.shuttleShareSet),
   (0x72, Instr.shuttleReturn), (0x73, Instr.shuttleResetDevice), (0x74, Instr.shuttleIdleSet), (0x75, Instr.handleMap),
   (0x76, Instr.shuttleStatus), (0x80, Instr.identityReport), (0x81, Instr.attest), (0x82, Instr.lifecycleAdvance),
   (0x83, Instr.challenge), (0x84, Instr.debugUnlock), (0x85, Instr.debugEnd), (0x86, Instr.keyRevoke),
   (0x90, Instr.fwWrite), (0x91, Instr.fwVerify), (0x92, Instr.fwActivate), (0x93, Instr.fwCommit),
   (0x94, Instr.fwStatus), (0x95, Instr.fwBroadcast), (0xA0, Instr.regRead), (0xA1, Instr.regWrite)]

/-- One step of the polynomial 0x04C1_1DB7 over a 32-bit remainder, most significant bit first (09_ecrax_protocol.md
R212). -/
def polyStep (c : BitVec 32) (b : Bool) : BitVec 32 := (c <<< 1) ^^^ (if c.msb != b then 0x04C11DB7#32 else 0#32)

/-- The CRC-32 as R212 words it: each input byte reflected, the remainder reflected at the end. -/
def crcOfSpec (bs : List Nat) : Nat :=
  (((bs.flatMap (fun x => (List.range 8).map (fun i => bit x i))).foldl polyStep 0xFFFFFFFF#32).reverse
    ^^^ 0xFFFFFFFF#32).toNat

end Sys2Proof

/-- For every command c and state s, a step of s with c at the front of its queue is exec of c on s with the rest of the
queue. The queue is the model's own (notes/assumptions/6.md). (00_scope.md R13, 16_start_up.md R374) -/
def Obligations.StepRunsFront : Prop :=
  ∀ (c : Instr) (s : State), step { s with pending := c :: s.pending } = exec c s

/-- On an empty queue a step is one tick: while PORST_N is low DT stands still and only the time that the skein dies count
goes on, in which a qualified feed is admitted; else the pops of the clock cycle end, DT advances, a qualified feed is
admitted, a snapshot whose instant has come is latched, window accesses complete within their bounds, a qualification
whose power has gone goes back to POWERING, a due in-band interrupt is raised, the domains settle, the rail request is
renewed, the hub drives a wake that waited, and what is ready passes to the IN buffers of the lanes and to the
outbound mailbox window. That the empty queue is the tick is the model's choice (notes/assumptions/5.md). (00_scope.md
R11, 00_scope.md R10, 03_feeds.md R54, 17_registers.md R391, 17_registers.md R397, 13_power_domains.md R310,
06_transparent_hub.md R138, 05_port_lifecycle.md R117, 08_loom_function.md R202, 09_ecrax_protocol.md R220,
17_registers.md R395, 03_feeds.md R55) -/
def Obligations.IdleTick : Prop :=
  ∀ s : State, s.pending = [] →
    (s.pins.porstLow = true → step s = .next ({ s with porstNs := s.porstNs + 25 } : State).admitFeeds)
    ∧ (s.pins.porstLow = false → step s =
        .next s.popsOver.clockTick.admitFeeds.snapLatch.windowsDue.restartQualify.ibiCheck.settleDomains.sessionCheck.avsRequest.driveWake.fillLanes.fillMailbox)

/-- State.reset has its register store and its mailbox window in canonical form, one record for every unit, and an empty
queue. (01_architecture.md R31, 13_power_domains.md R308, 00_scope.md R9) -/
def Obligations.ResetIsSound : Prop :=
  Safety.sound State.reset = true ∧ State.reset.pending = []

/-- After reset DT is 0, the queues are empty, and the identity, the hierarchy role and rank, the slow clock flag, the
interrupt enables, the window control, the port power limits, the feed limits and the domain states read the values of
the field maps. (00_scope.md R9, 00_scope.md R10, 12_hierarchy.md R277, 17_registers.md R398, 17_registers.md R397).
It rests on the model's own choices of notes/assumptions/1.md and notes/assumptions/15.md. -/
def Obligations.ResetValues : Prop :=
  let r := State.reset
  r.clock = 0 ∧ r.dtFrac = 0 ∧ r.ecx.queue = [] ∧ r.ecx.journal = [] ∧ r.mbox.inWin = [] ∧ r.hier.st = none
  ∧ r.get .SYS_ID_PART 0 = 0x9664 ∧ r.get .SYS_ID_REV 0 = 0x0B ∧ r.get .AON_HIER_ROLE 0 = 0 ∧ r.get .AON_HIER_RANK 0 = 63
  ∧ r.get .TIME_STAT_SLOW_ONLY 0 = 1 ∧ r.get .INTC_EN 0 = 0x1800 ∧ r.get .INTC_CTL_OUT_EN 0 = 0
  ∧ (∀ p : Path, r.get .IND_CTL_AUTOINC p.ix = 1 ∧ r.get .IND_CTL_RD_AHEAD p.ix = 1)
  ∧ (∀ n < 96, r.get .PORT_MODE_MODE_EFF n = 0 ∧ r.get .PORT_MODE_PUBLIC n = 1 ∧ r.get .PWR_LIMIT_ILIM n = 132
      ∧ r.get .PORT_QUAL_QUAL_MS n = 50)
  ∧ (∀ u < 16, r.get .FEED_CFG_EN u = 1 ∧ r.get .FEED_LIMIT_ILIM_MV u = 40 ∧ r.get .FEED_TLIM_TJ_TRIP u = 150)
  ∧ (∀ c < 2, r.get .CAN_CTL_USE c = 2 ∧ r.get .CAN_RXF_STAT_WM c = 16)
  ∧ (∀ d < 42, r.get .DOM_STAT_STATE d = 2) ∧ r.get .SHF_POOL_FREE 0 = 16368

/-- A release that ends a recognised low level of PORST_N outside the supply conditions is the fault undefinedRelease,
whatever the straps and the state; the end of a low pulse that was not recognised changes nothing. (16_start_up.md
R371, 02_package_and_balls.md R41) -/
def Obligations.InvalidReleaseStops : Prop :=
  ∀ (x : Straps) (s : State),
    (s.pins.porstLow = true → exec (.porstNRelease x false) s = .fault .undefinedRelease)
    ∧ (∀ valid : Bool, s.pins.porstLow = false → exec (.porstNRelease x valid) s = .next s)

/-- From every sound state, a step that answers a next state answers a sound one: the register store and the mailbox
window keep their canonical form, and every unit keeps its record. (01_architecture.md R31, 13_power_domains.md R308,
00_scope.md R7, 09_ecrax_protocol.md R220) -/
def Obligations.StepKeepsSound : Prop :=
  ∀ s t : State, Safety.sound s = true → step s = .next t → Safety.sound t = true

/-- From every sound state, a step that answers a next state leaves the rest of the queue as it was. The queue is the
model's own (notes/assumptions/6.md). (09_ecrax_protocol.md R222, 16_start_up.md R374) -/
def Obligations.StepTakesOneCommand : Prop :=
  ∀ s t : State, Safety.sound s = true → step s = .next t → t.pending = s.pending.drop 1

/-- For every opcode in every state: behind a waiting command of a more urgent class it waits, and so it does while the
token has moved to a half that does not run yet; otherwise a device in safe hold or not ready answers INTERNAL unless
the responder runs the opcode, or SAFE_HOLD where it is a FAULT_CLEAR of a bit of a GRAVE reaction, then a channel
that does not permit it answers DENIED_CHANNEL, a lifecycle state that does not permit it DENIED_LIFECYCLE, bad
parameters BAD_PARAM and a fenced unit TARGET_FENCED, each with its journal entry, its reply and no other effect.
(09_ecrax_protocol.md R214, 09_ecrax_protocol.md R222, 09_ecrax_protocol.md R229, 14_faults_and_takeover.md R349,
16_start_up.md R375). It rests on the model's own choices of notes/assumptions/190.md. -/
def Obligations.OpcodeTurnsAndRefusals : Prop :=
  ∀ (o : Nat) (c : Packet → Instr), (o, c) ∈ opcodeRows → ∀ (p : Packet) (s : State),
    let q := opPacket o p
    let turned (st : Nat) : Prop := exec (c p) s = .next ((s.takePacket q).refusePacket q st)
    (∀ w ∈ s.ecx.queue, w.cls < opcodeClass o → samePacket w q = false → exec (c p) s = .next (s.opWaiting q))
    ∧ (s.noLead = true → exec (c p) s = .next (s.opWaiting q))
    ∧ (mustWait s.ecx.queue q = false → s.noLead = false → (s.safeHold = true ∨ s.ready = false) →
        responderRuns q = false → turned (if s.graveClear q = true then stSAFE_HOLD else stINTERNAL))
    ∧ (mustWait s.ecx.queue q = false → s.noLead = false → s.safeHold = false → s.ready = true →
        ((channelOk o p.chan = false ∨ s.masked o p.chan = true) → turned stDENIED_CHANNEL)
        ∧ (channelOk o p.chan = true → s.masked o p.chan = false →
            (lifecycleOk s.lifecycle q = false → turned stDENIED_LIFECYCLE)
            ∧ (lifecycleOk s.lifecycle q = true → paramsOk s q = false → turned stBAD_PARAM)
            ∧ (lifecycleOk s.lifecycle q = true → paramsOk s q = true → unitFencedFor s q = true →
                turned stTARGET_FENCED)))

/-- For every pool, what the manager lends to its present members and what its absent members still hold together stay
within the capacity, or, where the absent ones hold more than a capacity that was lowered, within what they hold, for
nothing is lent then; and no loan exceeds its member's demand. (12_hierarchy.md R296) -/
def Obligations.LoansWithinCapacity : Prop :=
  ∀ (s : State) (p : Nat),
    ((s.poolLoans p).map (fun l => l.2.2)).sum + (((s.poolMembers p).filter (fun x => x.1.absent)).map (fun x =>
        x.1.held x.2)).sum ≤ max (s.hier.caps.getD p 0) (((s.poolMembers p).filter (fun x => x.1.absent)).map (fun x =>
        x.1.held x.2)).sum
    ∧ ∀ l ∈ s.poolLoans p, ∃ x ∈ s.poolMembers p, x.1.absent = false ∧ x.1.idx = l.1 ∧ x.2 = l.2.1
        ∧ l.2.2 ≤ x.1.want.getD x.2 0 - x.1.budget.getD x.2 0

/-- With no slew due, a tick of the time clock adds 25 ns and 64 ticks of the slow clock add 1,953,125 ns and leave the
accumulator as it was; a tick never takes DT back, whatever the slew; DT passes from the time clock to the slow clock
only at a tick at which the slow clock, counted beside the time clock, ticks, and only when the reference is lost or
nothing needs it any more. (00_scope.md R11, 00_scope.md R10, 12_hierarchy.md R301, 13_power_domains.md R307). It
rests on the model's own choices of notes/assumptions/127.md and notes/assumptions/80.md. -/
def Obligations.ClockTicks : Prop :=
  (∀ s : State, s.clock ≤ s.clockTick.clock)
  ∧ (∀ s : State, s.hier.slew = 0 → s.hier.slewDone = 0 → s.flag .TIME_STAT_SLOW_ONLY = false →
      s.clockTick.clock = s.clock + 25 ∧ s.clockTick.dtFrac = s.dtFrac)
  ∧ (∀ s : State, s.hier.slew = 0 → s.hier.slewDone = 0 → s.flag .TIME_STAT_SLOW_ONLY = true → s.dtFrac < 64 →
      (Nat.repeat State.clockTick 64 s).clock = s.clock + 1953125 ∧ (Nat.repeat State.clockTick 64 s).dtFrac = s.dtFrac)
  ∧ (∀ s : State, s.flag .TIME_STAT_SLOW_ONLY = false → s.clockTick.flag .TIME_STAT_SLOW_ONLY = true →
      1953125 ≤ s.slowPhase + 1600
      ∧ ((s.flag .PWRD_CLK_REF_RUN = false ∧ s.slowDue = true)
        ∨ (s.flag .PWRD_CLK_REF_RUN = true ∧ s.refNeeded = false)))

/-- A high pulse of WAKE_IN under 1 us changes nothing; one of at least 10 us is recognised: while the domains it wakes
are ON and the clock of the lead half runs it is recorded and counted in PWRD_WAKE_LAST and nothing else changes, else
it is the wake source of bit 3 for them. Between the two either happens. That this is what a device already awake does
is the model's reading (notes/assumptions/46.md). (02_package_and_balls.md R42, 13_power_domains.md R321) -/
def Obligations.WakePin : Prop :=
  ∀ (n : Nat) (s : State),
    let ds := ((List.range 2).filter (fun c => s.get .CAN_CTL_USE c == 0)).map dCAN
    (n < 1000 → exec (.wakeInEdge n) s = .next s)
    ∧ (10000 ≤ n → ds.all s.domOn = true → s.flag .DOM_STAT_CLK_STOPPED (dCTL s.lead) = false →
        exec (.wakeInEdge n) s = .next ((s.setBit .PWRD_WAKE_LAST_SRC 0 3).count .PWRD_WAKE_LAST_WAKE_CNT 0))
    ∧ (10000 ≤ n → (ds.all s.domOn = false ∨ s.flag .DOM_STAT_CLK_STOPPED (dCTL s.lead) = true) →
        exec (.wakeInEdge n) s = .next (s.wake 3 ds))
    ∧ (1000 ≤ n → n < 10000 → exec (.wakeInEdge n) s = .next s.useFree
        ∨ exec (.wakeInEdge n) s = .next s.useFree.wakeInEdge)

/-- A PENDING or LONE_WAIT buffer becomes ABORTED at once and TXABORT is raised; an ACTIVE one goes on, becoming DONE if
the frame succeeds and ABORTED, not sent again, if it fails; in any other state nothing changes; a request written
with the abort for the same buffer has no effect. An attempt in LOOPBACK has no other node, so only an error fails it;
and a frame with bit-rate switching whose measured loop delay puts the secondary sample point past 127 cycles fails
(11_can_controllers.md R260). (11_can_controllers.md R267) -/
def Obligations.AbortOfTransmitBuffers : Prop :=
  ∀ (c b mask req : Nat) (s : State), c < 2 → b < 3 → bit mask b = true → Safety.sound s = true →
    s.domOn (dCAN c) = true → s.get .CAN_CTL_USE c ≠ 0 →
    ∃ t, exec (.txAbort c mask req) s = .next t
      ∧ ((s.txb c b = 1 ∨ s.txb c b = 6) → t.txb c b = 4 ∧ bit (t.get .CAN_INT c) 3 = true)
      ∧ (s.txb c b = 2 → t.txb c b = 2 ∧ t.get .CAN_STAT_TX_ACTIVE c = s.get .CAN_STAT_TX_ACTIVE c
          ∧ b ∈ (t.can c).abortOf)
      ∧ (s.txb c b ≠ 1 → s.txb c b ≠ 6 → s.txb c b ≠ 2 → t.txb c b = s.txb c b)
      ∧ (s.canOn c = true → t.flag .CAN_STAT_TX_ACTIVE c = true → t.txbIn c [2] = [b] →
          ∀ stamp d,
          let ends (fin : TxEnd) (st : Nat) : Prop := ∃ u, exec (.canTxAttemptEnd c stamp d fin) t = .next u ∧ u.txb c b = st
          (∀ lec ph n, ends (.err lec ph n) 4)
          ∧ (t.get .CAN_STAT_MODE_NOW c = 3 → ends .ok 3 ∧ ends .lost 3 ∧ ∀ dom, ends (.noAck dom) 3)
          ∧ (t.get .CAN_STAT_MODE_NOW c ≠ 3 → ends .lost 4 ∧ (∀ dom, ends (.noAck dom) 4)
              ∧ (((t.txFrame c b).brs = false ∨ t.flag .CAN_CTL_TDC_EN c = false ∨ d + t.get .CAN_TDC_TDCO c ≤ 127) →
                  ends .ok 3)
              ∧ ((t.txFrame c b).brs = true → t.flag .CAN_CTL_TDC_EN c = true → 127 < d + t.get .CAN_TDC_TDCO c →
                  ends .ok 4)))

/-- The CRC is the division by 0x04C1_1DB7 with input and output reflected, initial value and final XOR 0xFFFF_FFFF, and
gives 0xCBF4_3926 for "123456789"; replies hold it at bytes 12 to 15 and event records at 28 to 31, least significant
byte first; a packet whose bytes 12 to 15 do not hold it is answered CRC_ERROR, and a standing profile whose last four
do not hold it fails check 2. (09_ecrax_protocol.md R212) -/
def Obligations.CrcOfTheSpec : Prop :=
  (∀ bs : List Nat, crc32 bs = crcOfSpec bs)
  ∧ crc32 [0x31, 0x32, 0x33, 0x34, 0x35, 0x36, 0x37, 0x38, 0x39] = 0xCBF43926
  ∧ (∀ r : Reply, ((r.bytes.drop 12).take 4) = toLE 4 (crc32 (r.bytes.take 12 ++ r.bytes.drop 16)))
  ∧ (∀ r : EvRec, r.bytes.length = 32 ∧ r.bytes.drop 28 = toLE 4 (crc32 (r.bytes.take 28)))
  ∧ (∀ (c : Chan) (o : Nat) (bs : List Nat) (s : State), c ≠ .profile → s.held c < 16 →
      16 + min (leAt bs 6 2) 4080 ≤ bs.length → (c = .loom → 16 + min (leAt bs 6 2) 4080 = bs.length) →
      crc32 (bs.take 12 ++ (bs.drop 16).take (min (leAt bs 6 2) 4080)) ≠ leAt bs 12 4 →
      exec (.loomPacketReceived c o bs) s =
        .next ((s.touch (dCTL s.lead)).bareReply c (bs.getD 1 0 % 256) (leAt bs 2 2) (bs.getD 5 0 % 256) (leAt bs 8 4)
          stCRC_ERROR false s.idx))
  ∧ (∀ (s : State) (bs : List Nat), profileStructOk bs = true →
      (profileCheck s bs = 2 ↔ crc32 (bs.take (bs.length - 4)) ≠ leAt bs (bs.length - 4) 4))

/-- For every event record and every reply whose fields have their widths, reading its bytes gives it back, with every
field at every value; no bit of the layouts is dropped. (09_ecrax_protocol.md R231, 09_ecrax_protocol.md R213,
12_hierarchy.md R293) -/
def Obligations.RecordsAndRepliesReadBack : Prop :=
  (∀ r : EvRec, r.cls < 256 → r.seq < 2 ^ 16 → r.dev < 256 → r.unit < 2 ^ 16 → r.dt < 2 ^ 64 → r.code < 2 ^ 16 →
      r.detail.length = 10 → recordOf r.bytes = r)
  ∧ (∀ r : Reply, r.opcode < 256 → r.tag < 2 ^ 16 → r.dev < 256 → r.cls < 256 → r.status < 2 ^ 16 → r.seq < 2 ^ 16 →
      r.results.length < 2 ^ 16 → replyOf r.chan r.bytes = r)

/-- For two different paths, a direct read of any address on one, the fetch a window read starts included, while no write
that the window still has to make waits on that path, changes neither the address, nor the fetched word, nor the
access in progress, nor any shadow of the other. (17_registers.md R393, 17_registers.md R394, 17_registers.md R390) -/
def Obligations.WindowsAreSeparate : Prop :=
  ∀ (s : State) (p q : Path) (i3c : Bool) (addr : Nat), p ≠ q →
    (∀ w, s.winOp p = some w → ∀ m a v, w.later ≠ some (.write m a v)) →
    let t := (s.directRead p i3c addr).1
    t.indAddr q = s.indAddr q ∧ t.get .IND_DATA q.ix = s.get .IND_DATA q.ix ∧ t.winOp q = s.winOp q
    ∧ ∀ (f : Fld) (k : Nat) (write bank : Bool), t.shadowOf q f k write bank = s.shadowOf q f k write bank

/-- A direct access to a fenced block answers FENCED, one to a block whose domain is not ON answers ASLEEP, one to a
reserved block is a reserved access; each reads 0 and changes nothing, on every path. In FIELD a debugger's write to
the port power, feed or skein registers is denied and changes nothing. (17_registers.md R386, 17_registers.md R385,
15_security_and_debug.md R366) -/
def Obligations.RefusedAccesses : Prop :=
  (∀ (s : State) (p : Path) (i3c : Bool) (addr data d : Nat) (m : WMode), blockDomain (addr / 65536 % 256) = some d →
      (s.domFenced d = true → s.directRead p i3c addr = (s, 0, rFENCED) ∧ s.directWrite p i3c addr m data = (s, rFENCED))
      ∧ (s.domFenced d = false → s.domOn d = false →
          s.directRead p i3c addr = (s, 0, rASLEEP) ∧ s.directWrite p i3c addr m data = (s, rASLEEP)))
  ∧ (∀ (s : State) (p : Path) (i3c : Bool) (addr data : Nat) (m : WMode), 0x0E ≤ addr / 65536 % 256 →
      s.directRead p i3c addr = (s, 0, rBLOCK) ∧ s.directWrite p i3c addr m data = (s, rBLOCK))
  ∧ (∀ (s : State) (a data : Nat) (m : WMode) (sp : Space), s.lifecycle = lcFIELD →
      spaceOf (indSpace a) (indUnit a) = some sp → (fieldsAt sp (indOff a)).isEmpty = false →
      s.reach sp (unitIn sp (indUnit a)) (indOff a) = rOK →
      ((sp = .PORT ∧ indOff a < 0x100) ∨ sp = .FEED ∨ sp = .SKEIN) → s.indWrite .debug a m data = (s, rDENIED))

/-- For INTC_EN, a register of RW bits, a write at the offset stores, at + 0x4000 sets, at + 0x8000 clears and at + 0xC000
inverts the bits written 1, and no other register changes; for PWRD_EVT every alias acts as the W1C write; the
doorbell acts at + 0x4000 and is ignored at the other two; SYS_ID ignores all four; a read at an alias gives 0 and
changes nothing; an alias write to the mailbox windows is ignored. (17_registers.md R387, 00_scope.md R7,
09_ecrax_protocol.md R220) -/
def Obligations.AliasWrites : Prop :=
  ∀ (s : State) (p : Path) (i3c : Bool) (d : Nat),
    (∀ j < 4, ∃ t, s.directWrite p i3c (0xC0004 + 0x4000 * j) .write d = (t, rOK)
      ∧ (∀ i < 13, (t.get .INTC_EN 0).testBit i =
          [d.testBit i, (s.get .INTC_EN 0).testBit i || d.testBit i, (s.get .INTC_EN 0).testBit i && !d.testBit i,
            (s.get .INTC_EN 0).testBit i ^^ d.testBit i].getD j false)
      ∧ ∀ f k, f ≠ .INTC_EN → t.get f k = s.get f k)
    ∧ (∀ j < 4, ∃ t, s.directWrite p i3c (0x2001C + 0x4000 * j) .write d = (t, rOK)
      ∧ (∀ i < 7, (t.get .PWRD_EVT 0).testBit i = ((s.get .PWRD_EVT 0).testBit i && !d.testBit i))
      ∧ ∀ f k, f ≠ .PWRD_EVT → t.get f k = s.get f k)
    ∧ (s.directWrite p i3c 0xD0000 .write 1 = (inRing s, rOK) ∧ s.directWrite p i3c 0xD4000 .write 1 = (inRing s, rOK)
      ∧ s.directWrite p i3c 0xD8000 .write 1 = (s, rOK) ∧ s.directWrite p i3c 0xDC000 .write 1 = (s, rOK))
    ∧ (∀ j < 4, s.directWrite p i3c (0x4000 * j) .write d = (s, rOK))
    ∧ (∀ j < 3, s.directRead p i3c (0xC4004 + 0x4000 * j) = (s, 0, rOK))
    ∧ (∀ j < 3, ∀ off < 0x2000, s.directWrite p i3c (0xD5000 + 0x4000 * j + off) .write d = (s, rOK))

/-- While IN_BUSY is 0 a word written at offset 4n of the window stores its four bytes there, least significant first, and
leaves every other byte of the window and every register as they were; while IN_BUSY is 1 the write is ignored and
counted in RING_LOST. (09_ecrax_protocol.md R220, 00_scope.md R4) -/
def Obligations.InboundWindow : Prop :=
  ∀ (s : State) (p : Path) (i3c : Bool) (n d : Nat), n < 0x400 →
    (s.flag .MBOX_STAT_IN_BUSY = false → ∃ t, s.directWrite p i3c (0xD1000 + 4 * n) .write d = (t, rOK)
      ∧ t.regs = s.regs
      ∧ (∀ i < 4, Memory.get t.mbox.inWin (4 * n + i) = d / 256 ^ i % 256)
      ∧ (∀ a, (a < 4 * n ∨ 4 * n + 4 ≤ a) → Memory.get t.mbox.inWin a = Memory.get s.mbox.inWin a))
    ∧ (s.flag .MBOX_STAT_IN_BUSY = true →
        s.directWrite p i3c (0xD1000 + 4 * n) .write d = (s.count .MBOX_STAT_RING_LOST 0, rOK))

/-- A PORST_N low level of at least 1 us resets the loom die and holds the skeins, one under 100 ns is ignored; a valid
release starts the block; WARM_N, the strap pulls, the flash reset, the reference, the crystal and the removal of
VDD_AON each have the effect given, and nothing else changes. (02_package_and_balls.md R41, 16_start_up.md R374,
02_package_and_balls.md R46, 02_package_and_balls.md R48, 02_package_and_balls.md R51, 14_faults_and_takeover.md R350,
16_start_up.md R381). It rests on the model's own choices of notes/assumptions/155.md, notes/assumptions/102.md and
notes/assumptions/103.md. -/
def Obligations.CommandsOfResetAndPins : Prop :=
  (∀ (n : Nat) (s : State), 1000 ≤ n →
    exec (.porstNAssert n) s = .next (
      let t := ((List.range 8).foldl State.holdSkein s).loomCleared
      { t with pins := { t.pins with porstLow := true } }))
  ∧ (∀ (n : Nat) (s : State), n < 100 →
    exec (.porstNAssert n) s = .next (s))
  ∧ (∀ (st : Straps) (v : Bool) (s : State), s.pins.porstLow = false →
    exec (.porstNRelease st v) s = .next (s))
  ∧ (∀ (st : Straps) (s : State), s.pins.porstLow = true →
    exec (.porstNRelease st true) s = .next (
      let t := (((((s.loomCleared.set .SYS_STRAP_IDX 0 (strapNumber st.idx)).set
        .SYS_STRAP_MGMT_ADDR 0 (strapNumber st.mgmtAddr)).set .SYS_STRAP_BOOT 0 (strapNumber st.boot)).set
        .SYS_STRAP_PREFHALF 0 (strapLevel false st.prefHalf)).set .SYS_STRAP_MGR_ELIG 0 (strapLevel true st.mgrElig)).set
        .SYS_START_CAUSE 0 (if s.pins.aonFresh && !s.pins.warmLow then 0 else 1)
      let t : State := { t with
                        epoch := s.now, dt := 0, stepped := 0, porstNs := 0, measBase := 0, measShift := 0, measDt := 0,
                        pins := { t.pins with porstLow := false, aonFresh := false },
                        sec := { t.sec with sealKey := Config.random s.freeCtr % 2 ^ 256 } }
      let t : State := ({ t.useFree with boot := { t.boot with waitWarm := s.pins.warmLow } } : State).dropSums
      (if s.pins.dbgEn then t.set .SEC_DBG_DBG_EN_PIN 0 1 else t).requestOn [dCTL 0, dCTL 1] 1))
  ∧ (∀ (s : State), s.pins.porstLow = false → 50000 ≤ s.dt →
    exec (.strapPullDisable) s = .next ({ s with pins := { s.pins with strapPulls := false, strapIn := false } }))
  ∧ (∀ (s : State), s.boot.waitWarm = true → s.pins.porstLow = false →
    exec (.warmNRelease) s = .next ({ s with pins := { s.pins with warmLow := false, warmHolds := false }, boot := { s.boot with waitWarm := false, base := s.dt } }))
  ∧ (∀ (n : Nat) (s : State), 1000 ≤ n → s.pins.porstLow = false → s.flt.latch = false → s.ready = true →
    exec (.warmNLow n) s = .next (({ s with pins := { s.pins with warmLow := true, warmHolds := true } } : State).warmRestart 2))
  ∧ (∀ (n : Nat) (s : State), n < 100 →
    exec (.warmNLow n) s = .next (s))
  ∧ (∀ (k : Nat) (s : State), s.ecx.restart = some k → k ≤ s.dt → s.flt.latch = false →
    exec (.warmRestartBegin) s = .next (s.warmRestart 3))
  ∧ (∀ (s : State), 
    exec (.vddAonRemoval) s = .next (
      let t := { s with flt := { s.flt with latch := false, causes := [] } }
      let t := ((List.range 8).foldl State.holdSkein t).loomCleared.set .SYS_START_CAUSE 0 0
      { t with pins := { t.pins with faultN := true, aonFresh := true, porstLow := true, xtalGone := false } }))
  ∧ (∀ (s : State), s.starting = true → s.boot.base + 100000 ≤ s.dt →
    exec (.xspiResetRelease) s = .next ({ s with pins := { s.pins with xspiResetN := true } }))
  ∧ (∀ (s : State), s.pins.porstLow = false → s.boot.waitWarm = false → s.flt.refAbsentFrom = none → s.refLost = false → s.refNeeded = true →
    exec (.referenceLocked) s = .next ({ s.rejoin.fastClock with boot := { s.rejoin.fastClock.boot with refLocked := true } }))
  ∧ (∀ (n : Nat) (s : State), 512 ≤ n → s.pins.porstLow = false → s.pins.xtalGone = false → s.dt < 2000000000 → s.flag .AON_CLK_SLOW_SRC = false → s.flag .AON_CLK_XTAL_STOPPED = false →
    exec (.xtal32Start n) s = .next ((s.set .AON_CLK_SLOW_SRC 0 1).set .TIME_STAT_XTAL32 0 1))
  ∧ (∀ (s : State), s.pins.porstLow = false → s.flag .AON_CLK_SLOW_SRC = false → s.flag .AON_CLK_XTAL_STOPPED = false → 2000000000 ≤ s.dt →
    exec (.xtal32Abandon) s = .next ({ s.set .AON_CLK_XTAL_ABANDONED 0 1 with pins := { s.pins with xtalGone := true } }))

/-- The OTP read, the DRAM initialisation, an accepted image, a half that boots, the token grant, the arbitration timeout
and the self test each have the effect given, and nothing else changes. (16_start_up.md R374, 16_start_up.md R373,
15_security_and_debug.md R361, 16_start_up.md R376, 16_start_up.md R377, 15_security_and_debug.md R353). It rests on
the model's own choices of notes/assumptions/12.md and notes/assumptions/182.md. -/
def Obligations.CommandsOfBoot : Prop :=
  (∀ (s : State), s.starting = true → s.boot.warm = false → s.boot.otpRead = false → s.boot.refLocked = true →
    exec (.otpReadComplete) s = .next (
      let t := ({ s.forceOn dSEC with boot := { s.boot with otpRead := true } } : State).checkSeed.readLifecycle
      if s.flt.latch then (t.enterSafeHold.set .FLT_STAT_HOLD_PORST 0 1).set .SYS_START_CAUSE 0 4 else t))
  ∧ (∀ (s : State), s.starting = true → s.boot.otpRead = true → s.boot.dramInit = false → s.safeHold = false →
    exec (.dramInitComplete) s = .next (
      let t : State := { (s.forceOn dDRAM).dramFresh Config.dramPages with boot := { s.boot with dramInit := true } }
      if 2 ≤ t.get .SYS_STRAP_BOOT then { t with boot := { t.boot with dfu := .recovery } } else t))
  ∧ (∀ (k : Nat) (s : State), s.starting = true → s.boot.dramInit = true → s.boot.imageOk = false → s.boot.dfu = .off → s.safeHold = false → s.domFenced dSEC = false → s.boot.warm = false → s.nextSlot = some k →
    exec (.imageVerified k) s = .next (
      let t : State := { s with pins := { s.pins with xspiUsed := true }, boot := { s.boot with tried := s.boot.tried ++ [k] } }
      let r := t.imageRefused (imageCheck s (s.slot k).bytes)
      if imageCheck s (s.slot k).bytes = 0 then
        ((t.takeImage (s.slot k).bytes).set .SEC_BOOT_SLOT 0 k).setB .SEC_BOOT_OTHER_SLOT 0 (!s.boot.tried.isEmpty)
      else if r.nextSlot = none then { r with boot := { r.boot with dfu := .recovery } } else r))
  ∧ (∀ (h : Nat) (s : State), h < 2 → bit s.sec.halted h = false → s.boot.imageOk = true → s.domFenced (dCTL h) = false → (s.domFenced dSEC = false ∨ s.domOn (dCTL h) = true) → s.safeHold = false → s.boot.booted.getD h false = false → ((s.boot.running = true ∧ s.boot.warm = false) ∨ s.domOn (dCTL h) = true) → s.sec.secretUpset = false →
    exec (.halfBootComplete h true) s = .next (
      let t := s.forceOn (dCTL h)
      { t with
          boot := { t.boot with
          booted := t.boot.booted.set h true, versions := t.boot.versions.set h (imageVersion t.boot.working),
          asked := t.boot.asked.set h true, firstAsk := some (t.boot.firstAsk.getD t.dt) } }))
  ∧ (∀ (k : Nat) (s : State), s.boot.firstAsk = some k → s.flag .FLT_TOKEN_VALID = false → s.boot.dfu = .off → s.safeHold = false → (s.boot.asked = [true, true] ∨ (k + 50000000 ≤ s.dt ∧ (s.boot.asked.getD 0 false = true ∨ s.boot.asked.getD 1 false = true))) →
    exec (.tokenGrant) s = .next (
      let p := s.get .SYS_STRAP_PREFHALF
      (s.setToken (if s.boot.asked.getD p false then p else 1 - p)).setB .FLT_TOKEN_STANDBY_HOT 0
        (s.boot.asked.getD 0 false && s.boot.asked.getD 1 false)))
  ∧ (∀ (s : State), s.boot.running = true → s.boot.asked.any id = false → s.boot.dfu = .off → s.flag .FLT_TOKEN_VALID = false → s.safeHold = false → s.boot.waitWarm = false → s.boot.base + 2000000000 ≤ s.dt →
    exec (.tokenArbitrationTimeout) s = .next (s.raiseFault 0x03 3 0))
  ∧ (∀ (fs : List Failure) (s : State), s.boot.running = true → s.flag .FLT_TOKEN_VALID = true → s.boot.selfTest = false → s.safeHold = false →
    exec (.selfTestComplete fs) s = .next (
      let t := (List.range 8).foldl (fun t k =>
        if !(t.skein k).powered then t.raiseFault (0x40 + k) 0xB 0
        else if t.unitFenced (0x40 + k) || fs.any (fun f => f.src == 0x40 + k) || (t.skein k).checkFailed || t.holdCause then t
        else ((t.modSkein k (fun x => { x with linkSilent := false })).leaveHold k).readFeedEvents k)
        (fs.foldl (fun t f => t.raiseFault f.src f.kind f.addr) s)
      { t with boot := { t.boot with selfTest := true } }))

/-- The connect after 10 ms of VBUS, each download block, the zero-length download of a good image and the bus reset after
it move DFU recovery on as given, and nothing else changes. (16_start_up.md R379, 16_start_up.md R380). It rests on
the model's own choices of notes/assumptions/12.md, notes/assumptions/192.md, notes/assumptions/193.md and
notes/assumptions/191.md. -/
def Obligations.CommandsOfDfu : Prop :=
  (∀ (n : Nat) (s : State), s.boot.dfu ≠ .off → s.boot.dfu ≠ .manifestWait → s.u2 = 0 → 10000000 ≤ n →
    exec (.dfuConnect n) s = .next (
      let t := (s.forceOn dLOOM).forceOn dHUB
      let t : State := { t.set .HUBS_STAT_U2_STATE 0 1 with up := { t.up with applied := true } }
      let t : State := { t.set .HUBS_CONN 97 1 with hub := { t.hub with p97Change := bitOr t.hub.p97Change 1 } }
      { t with boot := { t.boot with dfu := .idle, dfuImg := [] } }))
  ∧ (∀ (b : List Nat) (s : State), b ≠ [] → b.length ≤ 4096 → s.u2 ≠ 0 → (s.boot.dfu = .idle ∨ s.boot.dfu = .error) →
    exec (.dfuDnload b) s = .next ({ s with boot := { s.boot with dfu := .dnload, dfuImg := b } }))
  ∧ (∀ (b : List Nat) (s : State), b ≠ [] → b.length ≤ 4096 → s.u2 ≠ 0 → s.boot.dfu = .dnload →
    exec (.dfuDnload b) s = .next ({ s with boot := { s.boot with dfuImg := s.boot.dfuImg ++ b } }))
  ∧ (∀ (s : State), s.boot.dfu = .dnload → s.u2 ≠ 0 → s.domFenced dSEC = false →
    exec (.dfuManifest) s = .next (
      let c := imageCheck s s.boot.dfuImg
      if c = 0 then { s with boot := { s.boot with dfu := .manifestWait } }
      else
        let t := (s.set .SEC_BOOT_FAIL 0 c).setBit .SEC_EVT 0 4
        { t with boot := { t.boot with dfu := .error } }))
  ∧ (∀ (s : State), s.boot.dfu = .manifestWait → s.u2 ≠ 0 →
    exec (.dfuBusReset) s = .next (
      let t := ((((s.takeImage s.boot.dfuImg).hubDisconnect).set .HUBS_CONN 97 0).set .SEC_BOOT_DFU 0 1).set
        .AON_CONN_PERMIT 0 1
      { t with boot := { t.boot with dfu := .off, dfuImg := [], base := s.dt } }))

/-- An in-range input of 10 ms starts the inrush of the first feed or the joining of the second; the rail, full
enhancement and the share move the feed on to ON; the limit loop takes a conducting feed and gives it back; nothing
else changes. (03_feeds.md R55, 03_feeds.md R57, 03_feeds.md R59, 03_feeds.md R60, 03_feeds.md R62) -/
def Obligations.FeedInsertionEvents : Prop :=
  (∀ (u v n : Nat) (s : State), s.feedRuns u = true → s.fst u = fWAITING → 10000000 ≤ n → s.vinIn u v = true → s.flag .FEED_CFG_EN u = true → s.flag .FEED_CFG_PRESENT u = true → (s.feed u).cdlyHigh = false → s.feeds.length = 16 → s.feedAQualifies u = false → s.cutNow (feedMate u) = false → feedConducts (s.fst (feedMate u)) = false →
    exec (.feedInputQualified u v n) s = .next (((s.modFeed u (fun f => { f with vin := v, qualified := true })).modFeed u (fun f =>
      { f with inrushFrom := s.now, rail := false })).toFeed u fINRUSH))
  ∧ (∀ (u v n : Nat) (s : State), s.feedRuns u = true → s.fst u = fWAITING → 10000000 ≤ n → s.vinIn u v = true → s.flag .FEED_CFG_EN u = true → s.flag .FEED_CFG_PRESENT u = true → (s.feed u).cdlyHigh = false → s.feeds.length = 16 → s.feedAQualifies u = false → s.cutNow (feedMate u) = false → (s.fst (feedMate u) = fON ∨ s.fst (feedMate u) = fLIMIT) →
    exec (.feedInputQualified u v n) s = .next ((s.modFeed u (fun f => { f with vin := v, qualified := true })).toFeed u fJOINING))
  ∧ (∀ (u v n : Nat) (s : State), s.feedRuns u = true → s.fst u = fWAITING → 10000000 ≤ n → s.vinIn u v = true → s.flag .FEED_CFG_EN u = true → s.flag .FEED_CFG_PRESENT u = true → (s.feed u).cdlyHigh = false → (s.feedAQualifies u = true ∨ s.fst (feedMate u) = fINRUSH ∨ s.fst (feedMate u) = fJOINING) →
    exec (.feedInputQualified u v n) s = .next (s.modFeed u (fun f => { f with vin := v, qualified := true })))
  ∧ (∀ (u v r : Nat) (s : State), s.feedRuns u = true → s.fst u = fINRUSH → v ≤ r + 50 → r ≤ v + 50 →
    exec (.railReached u v r) s = .next (s.modFeed u (fun f => { f with rail := true })))
  ∧ (∀ (u v : Nat) (s : State), s.feedRuns u = true → s.fst u = fINRUSH → (s.feed u).rail = true → 100 * s.get .FEED_LIMIT_VGS_FE u ≤ v → s.now < (s.feed u).inrushFrom + 50000000 → s.cutNow u = false →
    exec (.fullEnhancement u v) s = .next ((s.set .FEED_STAT_FULL_ENH u 1).toFeed u fON))
  ∧ (∀ (u : Nat) (i j : Int) (s : State), s.feedRuns u = true → s.fst u = fJOINING → s.cutNow u = false →
    exec (.shareReached u i j true) s = .next ((s.set .FEED_STAT_FULL_ENH u 1).toFeed u fON))
  ∧ (∀ (u : Nat) (i j : Int) (s : State), s.feedRuns u = true → s.fst u = fJOINING → 100 * s.shuntMa u i - (s.sharePct u : Int) * (s.shuntMa u i + s.shuntMa (feedMate u) j)
      ≤ 5 * (s.shuntMa u i + s.shuntMa (feedMate u) j) → -(5 * (s.shuntMa u i + s.shuntMa (feedMate u) j))
      ≤ 100 * s.shuntMa u i - (s.sharePct u : Int) * (s.shuntMa u i + s.shuntMa (feedMate u) j) → s.cutNow u = false →
    exec (.shareReached u i j false) s = .next (s.toFeed u fON))
  ∧ (∀ (u : Nat) (v : Int) (s : State), s.feedRuns u = true → (s.fst u = fINRUSH ∨ s.fst u = fJOINING ∨ s.fst u = fON) → (1000 * s.get .FEED_LIMIT_ILIM_MV u : Nat) ≤ v →
    exec (.feedCurrentLimit u v) s = .next ((s.modFeed u (fun f => { f with prev := s.fst u, limitFrom := s.now })).toFeed u fLIMIT))
  ∧ (∀ (u n : Nat) (s : State), s.feedRuns u = true → s.fst u = fLIMIT → 1000000 ≤ n → s.now < (s.feed u).limitFrom + 1000000 * s.get .FEED_LIMIT_FTIME_MS u → s.cutNow u = false →
    exec (.feedLimitExit u n) s = .next (s.toFeed u (s.feed u).prev))
  ∧ (∀ (u : Nat) (s : State), s.feedRuns u = true → s.fst u = fON → (s.feed u).onFrom + 60000000000 ≤ s.now → s.cutNow u = false →
    exec (.feedRetryReload u) s = .next (s.set .FEED_STAT_RETRY_LEFT u (s.get .FEED_CFG_RETRIES u)))

/-- The fault timer and the inrush timeout trip a feed once with their event bits; the reverse block, the input out of
range, its return and its loss block, rejoin and latch it; a stuck feed is a GRAVE fault; nothing else changes.
(03_feeds.md R55, 03_feeds.md R62, 03_feeds.md R63, 03_feeds.md R64, 03_feeds.md R65) -/
def Obligations.FeedTripEvents : Prop :=
  (∀ (u : Nat) (m : Option FeedSense) (x : Option Nat) (s : State), s.feedRuns u = true → s.tripState u = fLIMIT → (s.feed u).limitFrom + 1000000 * s.get .FEED_LIMIT_FTIME_MS u ≤ s.now →
    exec (.feedFaultTimerExpiry u m x) s = .next (
      let t := s.feedTrip u [0]
      let t := match m with | some v => t.thermalUpdate u v | none => t
      match x with | some r => t.sensorRead u r | none => t))
  ∧ (∀ (u : Nat) (s : State), s.feedRuns u = true → s.tripState u = fINRUSH → (s.feed u).inrushFrom + 50000000 ≤ s.now →
    exec (.inrushTimeout u) s = .next (s.feedTrip u [8]))
  ∧ (∀ (u : Nat) (v : FeedSense) (s : State), s.feedRuns u = true → s.fst u = fON → vdsUv v.vinMv v.railMv v.shuntUv < -5000 →
    exec (.feedReverseBlock u v) s = .next ((((s.gateOff u).toFeed u fBLOCKED).feedEvent u 3).count .FEED_CNT_REV_CNT u))
  ∧ (∀ (u v : Nat) (s : State), s.feedRuns u = true → (s.fst u = fON ∨ s.fst u = fJOINING) → s.vinIn u v = false →
    exec (.feedInputOutOfRange u v) s = .next (((s.modFeed u (fun f => { f with vin := v })).gateOff u).toFeed u fBLOCKED))
  ∧ (∀ (u v : Nat) (s : State), s.feedRuns u = true → s.fst u = fWAITING → s.vinIn u v = false →
    exec (.feedInputOutOfRange u v) s = .next (s.modFeed u (fun f => { f with vin := v, qualified := false })))
  ∧ (∀ (u v r : Nat) (s : State), s.feedRuns u = true → s.fst u = fBLOCKED → s.flag .FEED_CFG_EN u = true → r + 20 < v → s.vinIn u v = true → s.cutNow u = false → s.cutNow (feedMate u) = false →
    exec (.feedBlockedRejoin u v r) s = .next ((s.modFeed u (fun f => { f with vin := v })).toFeed u fJOINING))
  ∧ (∀ (u v n : Nat) (s : State), s.feedRuns u = true → s.fst u = fBLOCKED → s.vinIn u v = false → 10000000 ≤ n →
    exec (.inputLost u v n) s = .next ((((s.modFeed u (fun f => { f with vin := v, inputLost := true })).toFeed u fLATCHED).feedEvent u 4).raiseFeedFault u 8))
  ∧ (∀ (u : Nat) (i : Int) (s : State), s.feedRuns u = true → (s.fst u = fSTOPPING ∨ s.fst u = fCOOLDOWN ∨ s.fst u = fLATCHED ∨ s.fst u = fOFF) → (s.get .FEED_SHUNT_R_UOHM u : Int) < i → (s.feed u).gateOff + 100000 ≤ s.now →
    exec (.feedStuckOn u i) s = .next (s.raiseFeedFault u 9))

/-- The pin below 0.4 V ends a cooldown; a charge that is too fast or too slow latches the feed; a test charge that passes
lets the clear go on; a stopped feed takes OFF or runs its deferred enable; nothing else changes. (03_feeds.md R55,
03_feeds.md R71, 03_feeds.md R72, 03_feeds.md R73) -/
def Obligations.CooldownPinEvents : Prop :=
  (∀ (u : Nat) (s : State), s.feedRuns u = true → (s.feed u).cdlyHigh = true → (s.fst u = fCOOLDOWN ∨ s.fst u = fINHERITED) →
    exec (.cdlyCooldownEnd u) s = .next ((s.modFeed u (fun f => { f with cdlyHigh := false, charging := false })).afterCooldown u))
  ∧ (∀ (u : Nat) (s : State), s.feedRuns u = true → (s.feed u).charging = true → s.now < (s.feed u).gateOff + 20000 →
    exec (.cdlyCheckMissing u) s = .next (s.cdlyFailed u))
  ∧ (∀ (u : Nat) (s : State), s.feedRuns u = true → (s.feed u).charging = true → (s.feed u).gateOff + 5000000 ≤ s.now →
    exec (.cdlyCheckShorted u) s = .next ((s.modFeed u (fun f => { f with cdlyHigh := false })).cdlyFailed u))
  ∧ (∀ (u : Nat) (r : CdlyCharge) (s : State), s.feedRuns u = true → (s.feed u).testing = true → (s.feed u).testFrom + 5000000 ≤ s.now → 20000 ≤ r.riseNs → 400 ≤ r.at5Ms →
    exec (.cdlyTestCharge u r) s = .next (
      let t := ((s.modFeed u (fun f => { f with testing := false })).set .FEED_STAT_CDLY_FAULT u 0).modFeed u
        (fun f => { f with cdlyHigh := true })
      (takeClear (0x38 + skeinOfFeed u) t).getD t))
  ∧ (∀ (u : Nat) (r : CdlyCharge) (s : State), s.feedRuns u = true → (s.feed u).testing = true → (r.riseNs < 20000 ∨ ((s.feed u).testFrom + 5000000 ≤ s.now ∧ r.at5Ms < 400)) →
    exec (.cdlyTestCharge u r) s = .next (s.modFeed u (fun f => { f with testing := false })))
  ∧ (∀ (u v : Nat) (s : State), s.feedRuns u = true → s.fst u = fSTOPPING → v < 1000 → (s.feed u).gateOff + 100000000 ≤ s.now → s.flag .FEED_STAT_DEFERRED u = false →
    exec (.feedStopped u v) s = .next (s.toFeed u fOFF))
  ∧ (∀ (u v : Nat) (s : State), s.feedRuns u = true → s.fst u = fSTOPPING → v < 1000 → (s.feed u).gateOff + 100000000 ≤ s.now → s.flag .FEED_STAT_DEFERRED u = true →
    exec (.feedStopped u v) s = .next (((s.set .FEED_CFG_EN u 1).toFeed u fWAITING).feedDeferredRan u))

/-- A thermal update runs the ladder and trips at TJ_TRIP, a sensor reading is stored and fused and trips at TS_TRIP, a
sample enters the window and the energy, and the share limit and power-good follow their times; nothing else changes.
(03_feeds.md R66, 03_feeds.md R67, 03_feeds.md R68, 03_feeds.md R74, 03_feeds.md R76, 03_feeds.md R77, 03_feeds.md
R78). It rests on the model's own choices of notes/assumptions/24.md, notes/assumptions/25.md,
notes/assumptions/104.md and notes/assumptions/106.md. -/
def Obligations.FeedMeasurementEvents : Prop :=
  (∀ (u : Nat) (v : FeedVolts) (i : Int) (s : State), s.feedRuns u = true →
    exec (.feedThermalModelUpdate u v i) s = .next (
      let t := (s.ladder u (vdsUv v.vinMv v.railMv i * s.shuntMa u i / 1000)).tjWarn u
      if feedConducts (t.tripState u) = true ∧ (t.get .FEED_TLIM_TJ_TRIP u : Int) * 1000000000 ≤ (t.feed u).t1 then t.feedTrip u [1]
      else t))
  ∧ (∀ (u x : Nat) (s : State), s.feedRuns u = true → (s.get .FEED_CFG_TS_TYPE u = 1 ∨ s.get .FEED_CFG_TS_TYPE u = 2) → s.flag .FEED_STAT_TS_FAULT u = true →
    exec (.feedSensorRead u x) s = .next (s.set .FEED_TJ_SENSOR u (ofInt 16 (s.sensorTenths u x))))
  ∧ (∀ (u x : Nat) (s : State), s.feedRuns u = true → (s.get .FEED_CFG_TS_TYPE u = 1 ∨ s.get .FEED_CFG_TS_TYPE u = 2) → s.flag .FEED_STAT_TS_FAULT u = false →
    exec (.feedSensorRead u x) s = .next (
      let r := s.sensorTenths u x
      let t := s.set .FEED_TJ_SENSOR u (ofInt 16 r)
      let c := t.modFeed u (fun f => { f with t3 := f.t3 + (r * 100000000 - f.t3) / 16 })
      if r < -500 ∨ 2000 < r then (t.set .FEED_STAT_TS_FAULT u 1).raiseFeedFault u 7
      else if feedConducts (s.tripState u) = true ∧ (10 * s.get .FEED_TLIM_TS_TRIP u : Nat) ≤ r then c.feedTrip u [2]
      else c))
  ∧ (∀ (u v r g : Nat) (sh : Int) (c : Bool) (s : State), s.feedRuns u = true →
    exec (.feedSample u v sh r g c) s = .next (
      let k := skeinOfFeed u
      let t := s.closeWindow
      let t := t.addFeedSample u v (sh * 1000 / (t.get .FEED_SHUNT_R_UOHM u : Int)) (((v : Int) - r) * 1000 - sh)
      let t := t.modSkein k (fun x => { x with railOk := t.railIn k r, vSum := x.vSum + r, n := x.n + 1 })
      let t := if t.fst u = fON ∨ t.fst u = fJOINING then t.setB .FEED_STAT_FULL_ENH u (decide (100 * t.get .FEED_LIMIT_VGS_FE u ≤ g) && !c) else t
      (if t.railIn k r = true then t else t.dropPG k).noteSettle k))
  ∧ (∀ (u n : Nat) (s : State), s.feedRuns u = true → s.flag .SKN_STAT_SHARING (skeinOfFeed u) = true → 20000000 ≤ n → s.flag .FEED_STAT_SHARE_LIMIT u = false →
    exec (.shareLimitSet u n) s = .next ((s.set .FEED_STAT_SHARE_LIMIT u 1).feedEvent u 6))
  ∧ (∀ (u n : Nat) (s : State), s.feedRuns u = true → 20000000 ≤ n →
    exec (.shareLimitClear u n) s = .next (s.set .FEED_STAT_SHARE_LIMIT u 0))
  ∧ (∀ (k t : Nat) (s : State), k < 8 → (s.skein k).settleFrom = some t → t + 2000000 ≤ s.now → s.pgOk k = true → (skeinFeeds k).any s.cutNow = false →
    exec (.powerGoodSettled k) s = .next ((((s.set .SKN_STAT_PG k 1).set .SKN_STAT_SETTLING k 0).modSkein k (fun x => { x with settleFrom := none })).skeinEvent k 1))
  ∧ (∀ (e : Nat) (s : State), e = 1000000 * (s.measBase + 1) + s.measShift → e ≤ s.skDt →
    exec (.measurementWindowEnd) s = .next (
      let w := s.now - (s.skDt - e)
      let ks := (List.range 8).filter (fun k => (s.skein k).powered)
      let t := ks.foldl (fun s k => (skeinFeeds k).foldl State.feedWindow s) s
      let t := ks.foldl (fun s k => (skeinPorts k).foldl (fun s n => s.portWindow w n) s) t
      let t := ks.foldl (fun s k => s.skeinWindow w k) t
      let t := ks.foldl (fun s k => (s.noteShare k).budgetWindow (w - 1000000) k) t
      ({ t with measBase := s.skDt / 1000000, measShift := 0, measDt := e } : State).answerMeas))

/-- A skein die powers up with its registers at reset and held, and powers down with its port sessions ended; the hold
line follows its causes; a silent link holds; a configuration check runs and releases the skein or raises its fault;
nothing else changes. (16_start_up.md R372, 01_architecture.md R18, 03_feeds.md R55) -/
def Obligations.SkeinPowerAndHold : Prop :=
  (∀ (k a b ca cb : Nat) (s : State), k < 8 → (s.skein k).powered = false → 3800 ≤ max a b →
    exec (.skeinAonPowerUp k a b ca cb) s = .next (
      let t := ((s.skeinBlank k true).set .SKN_STAT_HELD k 1).set .SKN_BSTAT_SUSPENDED k 1
      [(2 * k, ca), (2 * k + 1, cb)].foldl (fun t uv =>
        let t := t.set .FEED_STAT_RETRY_LEFT uv.1 (t.get .FEED_CFG_RETRIES uv.1)
        if 400 ≤ uv.2 then
          let t := t.modFeed uv.1 (fun f => { f with cdlyHigh := true, unread := 2 ^ 5 })
          ((t.set .FEED_STAT_STATE uv.1 fINHERITED).count .FEED_CNT_INHERIT_CNT uv.1).setBit .FEED_EVT uv.1 5
        else t.set .FEED_STAT_STATE uv.1 fWAITING) t))
  ∧ (∀ (k a b : Nat) (s : State), k < 8 → (s.skein k).powered = true → max a b < 3100 →
    exec (.skeinAonPowerDown k a b) s = .next (
      let t := (skeinPorts k).foldl (fun t n => (t.startDetach n wDEVICE_GONE).setAtt n 0) s
      ((skeinPorts k).foldl State.noteServing (t.skeinBlank k false)).settleDomains))
  ∧ (∀ (k : Nat) (s : State), k < 8 → s.holdCause = true →
    exec (.holdLineAssert k) s = .next (s.holdSkein k))
  ∧ (∀ (k : Nat) (s : State), k < 8 → s.holdCause = false →
    exec (.holdLineDeassert k) s = .next (s.modSkein k (fun x => { x with holdLine := false })))
  ∧ (∀ (k n : Nat) (s : State), k < 8 → 100000 ≤ n → (s.skein k).powered = true →
    exec (.linkSilentTimeout k n) s = .next (s.loseLink k))
  ∧ (∀ (k : Nat) (s : State), k < 8 → (s.skein k).powered = true → (s.skein k).holdLine = false → (s.skHeld k = true ∨ (s.skein k).checkDue = true) → s.holdCause = false → s.unitFenced (0x40 + k) = false →
    exec (.configCheckStart k) s = .next ((s.modSkein k (fun x => { x with
        linkSilent := false, checkDue := false, checkFailed := false, checkFrom := some s.dt })).readFeedEvents k))
  ∧ (∀ (k t : Nat) (l : Bool) (s : State), k < 8 → (s.skein k).checkFrom = some t →
    exec (.configCheckDone k true l) s = .next ((s.modSkein k (fun x => { x with checkFrom := none })).leaveHold k))
  ∧ (∀ (k t : Nat) (l : Bool) (s : State), k < 8 → (s.skein k).checkFrom = some t →
    exec (.configCheckDone k false l) s = .next (((s.modSkein k (fun x => { x with checkFrom := none })).modSkein k (fun x => { x with checkFailed := true })).raiseFault
        (0x40 + k) (if l then 0xB else 0xA) 0))

/-- A due pass runs on a skein that is not held; the shed hold ends at its time; after 1 s of headroom one cap step is
removed; nothing else changes. (04_port_power.md R97, 04_port_power.md R99, 04_port_power.md R101) -/
def Obligations.SkeinBudgetEvents : Prop :=
  (∀ (k : Nat) (s : State), k < 8 → (s.skein k).powered = true → (s.skein k).passDue = true → s.skHeld k = false → s.skeinCutNow k = false →
    exec (.allocationPass k) s = .next (s.allocationPass k))
  ∧ (∀ (k t : Nat) (s : State), (s.skein k).shedHold = some t → t ≤ s.now →
    exec (.shedHoldEnd k) s = .next (s.set .SKN_BSTAT_SHED_HOLD k 0))
  ∧ (∀ (k t n : Nat) (s : State), (s.skein k).headroom = some t → s.capPort k = some n → s.skHeld k = false → t + 1000000000 ≤ (s.skein k).window → (s.skein k).headStep = s.capStep n →
    exec (.shedCapRestore k) s = .next (
      let c := ((s.port n).cap).getD 3 + 1
      let t := s.modPort n (fun x => { x with cap := if c < 3 then some c else none })
      let t := t.modSkein k (fun x => { x with headroom := none })
      let lvl := t.levelOf n (t.port n).grant
      (t.decideRp n lvl).setB .PWR_STAT_SHED n (lvl < rpCode (t.port n).grant)))

/-- Each event of the switch of a port moves PWR_STAT as the rules give it: soft start ends ON or trips, the limit loop is
entered and left, trips take the event bits given, the retry and the discharge end in OFF; nothing else changes.
(04_port_power.md R80, 04_port_power.md R81, 04_port_power.md R83, 04_port_power.md R84, 04_port_power.md R88). It
rests on the model's own choices of notes/assumptions/118.md. -/
def Obligations.PortSwitchEvents : Prop :=
  (∀ (n v r : Nat) (s : State), s.portRuns n = true → s.pwr n = 2 → v ≤ r + 100 → r ≤ v + 100 → s.ssTimeUp n = false → s.portCutNow n = false →
    exec (.softstartComplete n v r) s = .next (s.toPower n 3))
  ∧ (∀ (n : Nat) (s : State), s.portRuns n = true → s.tripFrom n = 2 → ((s.port n).ssFrom + 10000000) * s.get .PWR_LIMIT_SLEW n + 20000 * s.get .SKN_CFG_VNOM (skeinOfPort n)
      ≤ s.now * s.get .PWR_LIMIT_SLEW n →
    exec (.ssTimeout n) s = .next (s.portTrip n [4]))
  ∧ (∀ (n : Nat) (i : Int) (s : State), s.portRuns n = true → (s.pwr n = 2 ∨ s.pwr n = 3) → (s.effLimit n : Int) ≤ i →
    exec (.portCurrentLimit n i) s = .next ((s.modPort n (fun x => { x with
        prev := s.pwr n, limitFrom := s.now, cutTick := some s.skTick })).toPower n 4))
  ∧ (∀ (n b : Nat) (s : State), s.portRuns n = true → s.pwr n = 4 → 1000000 ≤ b → s.now < (s.port n).limitFrom + 500000 * s.get .PWR_LIMIT_FTIME n →
    exec (.portLimitExit n b) s = .next (if (s.port n).prev = 2 then s.set .PWR_STAT_STATE n 2 else s.toPower n 3))
  ∧ (∀ (n : Nat) (i r : Option Int) (x : Option PortHeat) (s : State), s.portRuns n = true → s.tripFrom n = 4 → (s.port n).limitFrom + 500000 * s.get .PWR_LIMIT_FTIME n ≤ s.now →
    exec (.portFaultTimerExpiry n i r x) s = .next (
      let t := s.portTrip n [0]
      let t := match i with | some i => t.shortTrip n i | none => t
      let t := match r with | some r => t.portSensor n r | none => t
      match x with | some x => t.portModel n x | none => t))
  ∧ (∀ (n : Nat) (i : Int) (s : State), s.portRuns n = true → conducting (s.tripFrom n) = true → 7000 ≤ i →
    exec (.shortCircuitTrip n i) s = .next (s.portTrip n [1]))
  ∧ (∀ (n v : Nat) (s : State), s.portRuns n = true → s.pwr n = 5 → v < 800 → (s.port n).offFrom + 100000000 ≤ s.now →
    exec (.dischargeComplete n v) s = .next (s.reachOff n))
  ∧ (∀ (n b : Nat) (s : State), s.portRuns n = true → 10000000 ≤ b → conducting (s.pwr n) = false →
    exec (.dischargeDisconnect n b) s = .next (s.modPort n (fun x => { x with discharge := false })))
  ∧ (∀ (n : Nat) (s : State), s.portRuns n = true → s.pwr n = 6 → (s.port n).retryFrom + 250000000 * s.get .PWR_LIMIT_RETRY_PER n ≤ s.now →
    exec (.retryPeriodExpiry n) s = .next (s.modPort n (fun x => { x with retryDone := true })))
  ∧ (∀ (n v : Nat) (s : State), s.portRuns n = true → s.pwr n = 6 → (s.port n).retryDone = true → v < 800 → (s.port n).offFrom + 100000000 ≤ s.now → ((s.port n).thermal = false ∨ (s.port n).tj < 1200) →
    exec (.retryEnd n v) s = .next (s.reachOff n))
  ∧ (∀ (n : Nat) (s : State), s.portRuns n = true → s.pwr n = 3 → (s.port n).onFrom + 60000000000 ≤ s.now → s.portCutNow n = false →
    exec (.portRetryReload n) s = .next (s.set .PWR_STAT_RETRY_LEFT n (s.get .PWR_CFG_RETRIES n)))
  ∧ (∀ (n : Nat) (i : Int) (s : State), s.portRuns n = true → (s.pwr n = 0 ∨ s.pwr n = 5 ∨ s.pwr n = 6 ∨ s.pwr n = 7) → 100 < i → (s.port n).offFrom + 100000 ≤ s.now →
    exec (.portStuckOn n i) s = .next (s.raisePortFault n 9))

/-- A junction reading, a model update and a sample are stored and counted and trip at their limits; the reverse block and
the back-feed open and close; a CC overvoltage stops the Rp source; an advertised level is applied and checked for
compliance; nothing else changes. (04_port_power.md R83, 04_port_power.md R86, 04_port_power.md R87, 04_port_power.md
R94, 04_port_power.md R102, 04_port_power.md R103, 18_electrical.md R400). It rests on the model's own choices of
notes/assumptions/27.md, notes/assumptions/117.md, notes/assumptions/107.md, notes/assumptions/196.md and
notes/assumptions/172.md. -/
def Obligations.PortMeasurementEvents : Prop :=
  (∀ (n : Nat) (r : Int) (s : State), s.portRuns n = true →
    exec (.portSensorRead n r) s = .next (
      let t := (s.set .PWR_TJ_SENSOR n (ofInt 16 r)).stressReading n r
      if conducting (s.tripFrom n) = true ∧ 1600 ≤ r then t.portTrip n [2] else t))
  ∧ (∀ (n : Nat) (h : PortHeat) (s : State), s.portRuns n = true →
    exec (.portModelUpdate n h) s = .next (
      let w := h.iMa.natAbs * h.iMa.natAbs * Config.portOnResistance (poleSum h.substrate (s.port n).poles)
      let p := polesStep w (s.port n).poles
      let r := poleSum h.substrate (polesAfter w 50 p)
      let t := (s.set .PWR_TJ_MODEL n (ofInt 16 r)).modPort n (fun x => { x with poles := polesStep w x.poles })
      if conducting (s.tripFrom n) = true ∧ 1500 ≤ r then t.portTrip n [3] else t))
  ∧ (∀ (n v r : Nat) (s : State), s.portRuns n = true → s.pwr n = 3 → r + 20 ≤ v → s.flag .PWR_STAT_BLOCKED n = false → v ≤ 6000 →
    exec (.portReverseBlock n v r) s = .next ((((s.modPort n (fun x => { x with cutTick := some s.skTick })).set .PWR_STAT_BLOCKED n 1).powerMoved n 3).powerEvent n 6))
  ∧ (∀ (n v r : Nat) (s : State), s.portRuns n = true → conducting (s.pwr n) = true → s.flag .PWR_STAT_BLOCKED n = false → (s.port n).backfeed = false → 6000 < v →
    exec (.portReverseBlock n v r) s = .next (((((s.modPort n (fun x => { x with cutTick := some s.skTick })).set .PWR_STAT_BLOCKED n 1).powerMoved n 3).modPort n
        (fun x => { x with backfeed := true })).powerEvent n 6))
  ∧ (∀ (n v r : Nat) (s : State), s.portRuns n = true → conducting (s.pwr n) = false → (s.port n).backfeed = false → 6000 < v →
    exec (.portReverseBlock n v r) s = .next ((s.modPort n (fun x => { x with backfeed := true })).powerEvent n 6))
  ∧ (∀ (n v r t : Nat) (s : State), s.portRuns n = true → conducting (s.pwr n) = true → v < r + 5 → 100000 ≤ t →
    exec (.portReverseRelease n v r t) s = .next ((s.set .PWR_STAT_BLOCKED n 0).powerMoved n 3))
  ∧ (∀ (n b : Nat) (s : State), s.portRuns n = true → 1000000 ≤ b → (s.port n).backfeed = true →
    exec (.vbusBackfeedClear n b) s = .next (
      let t := s.modPort n (fun x => { x with backfeed := false })
      if s.pwr n = 1 ∧ t.powerRequest n = true ∧ t.feedsReady (skeinOfPort n) = true then t.toPower n 2 else t.evalPower n))
  ∧ (∀ (n v : Nat) (i : Int) (s : State), s.portRuns n = true →
    exec (.portSample n v i) s = .next (
      let s := s.closeWindow
      let x := s.port n
      let e := x.eRem + (if 0 < i then 20 * (v * i.toNat) else 0)
      let o := x.onRem + (if conducting (s.pwr n) && !s.flag .PWR_STAT_BLOCKED n then 20000 else 0)
      ((s.count .PWR_E n (e / 1000000000)).count .PWR_ONTIME n (o / 1000000000)).modPort n (fun x => { x with
        eRem := e % 1000000000, onRem := o % 1000000000, n := x.n + 1, vSum := x.vSum + v, iSum := x.iSum + i })))
  ∧ (∀ (n c : Nat) (s : State), (s.port n).nextRp = some c → s.portRuns n = true → s.skHeld (skeinOfPort n) = false → s.portCutNow n = false → (s.port n).ccOver = false → c < s.get .PWR_STAT_RP_ADV n →
    exec (.rpLevelApplied n) s = .next (((s.setRp n c).modPort n (fun x => { x with nextRp := none })).modPort n (fun x =>
        { x with tc := some s.now, checked := false })))
  ∧ (∀ (n c : Nat) (s : State), (s.port n).nextRp = some c → s.portRuns n = true → s.skHeld (skeinOfPort n) = false → s.portCutNow n = false → (s.port n).ccOver = false → s.get .PWR_STAT_RP_ADV n < c →
    exec (.rpLevelApplied n) s = .next ((((s.setRp n c).modPort n (fun x => { x with nextRp := none })).modPort n (fun x =>
        { x with tc := none, imposed := none })).set .PWR_STAT_SINK_LIMITED n 0))
  ∧ (∀ (n t : Nat) (s : State), (s.port n).tc = some t → s.portRuns n = true → (s.port n).checked = false → t + 61000000 ≤ (s.port n).winEnd → (s.port n).winEnd < t + 62000000 →
    exec (.complianceCheck n) s = .next (
      let u := s.modPort n (fun x => { x with checked := true })
      if (rpThreshold (s.get .PWR_STAT_RP_ADV n) : Int) < (s.port n).iWin then
        (u.count .PWR_NONCOMPLY_CNT n).powerEvent n 7
      else u))
  ∧ (∀ (n t : Nat) (s : State), (s.port n).tc = some t → s.portRuns n = true → s.skHeld (skeinOfPort n) = false → t + 100000000 ≤ s.now → t + 99000000 < (s.port n).winEnd → (s.port n).winEnd ≤ t + 100000000 →
    exec (.sinkLimitImposed n) s = .next (
      let thr := rpThreshold (s.get .PWR_STAT_RP_ADV n)
      let u := s.modPort n (fun x => { x with tc := none })
      if (thr : Int) < (s.port n).iWin then
        ((u.modPort n (fun x => { x with imposed := some thr })).set .PWR_STAT_SINK_LIMITED n 1).powerEvent n 8
      else u))
  ∧ (∀ (n v b : Nat) (s : State), s.portRuns n = true → 5500 < v →
    exec (.ccOvervoltage n v b) s = .next (s.modPort n (fun x => { x with ccOver := true })))
  ∧ (∀ (n v b : Nat) (s : State), s.portRuns n = true → v ≤ 5500 → 1000000 ≤ b →
    exec (.ccOvervoltage n v b) s = .next (s.modPort n (fun x => { x with ccOver := false })))

/-- A sample starts, keeps or ends a debounce window; a complete window is the attach it saw; an open pin, a disconnect or
a low current is the detach; nothing else changes. (05_port_lifecycle.md R114, 05_port_lifecycle.md R115,
05_port_lifecycle.md R116, 05_port_lifecycle.md R117). It rests on the model's own choices of notes/assumptions/140.md
and notes/assumptions/123.md. -/
def Obligations.AttachEvents : Prop :=
  (∀ (n : Nat) (p : CcPat) (s : State), s.portSenses n = true → s.typeA n = false → s.ccBlind n = false → s.get .PORT_DET_DET n = 0 → p.attaches = true →
    exec (.ccSample n p) s = .next (s.startDebounce n (fun x => { x with pattern := p })))
  ∧ (∀ (n : Nat) (p : CcPat) (s : State), s.portSenses n = true → s.typeA n = false → s.ccBlind n = false → s.get .PORT_DET_DET n = 1 → p ≠ (s.port n).pattern → p.attaches = false →
    exec (.ccSample n p) s = .next ((s.set .PORT_DET_DET n 0).setAtt n 1))
  ∧ (∀ (n : Nat) (c : Bool) (s : State), s.portSenses n = true → s.typeA n = false → s.ccBlind n = false → s.get .PORT_DET_DET n = 1 → (s.port n).debFrom + 120000000 ≤ s.now → (s.port n).pattern = .sink c →
    exec (.typecDebounceComplete n) s = .next (s.attach n 2 c))
  ∧ (∀ (n : Nat) (s : State), s.portSenses n = true → s.typeA n = false → s.ccBlind n = false → s.get .PORT_DET_DET n = 1 → (s.port n).debFrom + 120000000 ≤ s.now → (s.port n).pattern = .debugAcc →
    exec (.typecDebounceComplete n) s = .next (s.attach n 4 false))
  ∧ (∀ (n : Nat) (s : State), s.portSenses n = true → s.typeA n = false → s.ccBlind n = false → s.get .PORT_DET_DET n = 1 → (s.port n).debFrom + 120000000 ≤ s.now → (s.port n).pattern = .audioAcc →
    exec (.typecDebounceComplete n) s = .next (s.attach n 3 false))
  ∧ (∀ (n : Nat) (i : Int) (l : Bool) (s : State), s.portSenses n = true → s.typeA n = true → s.get .PORT_DET_DET n = 0 → 50 ≤ i →
    exec (.typeaDetect n i l) s = .next (s.startDebounce n (fun p => { p with debLine := l && 2 ≤ s.mode n, debCur := true })))
  ∧ (∀ (n : Nat) (i : Int) (l : Bool) (s : State), s.portSenses n = true → s.typeA n = true → s.get .PORT_DET_DET n = 1 → i < 50 → l = false →
    exec (.typeaDetect n i l) s = .next ((s.set .PORT_DET_DET n 0).setAtt n 1))
  ∧ (∀ (n : Nat) (s : State), s.portSenses n = true → s.typeA n = true → s.get .PORT_DET_DET n = 1 → (s.port n).debFrom + 100000000 ≤ s.now →
    exec (.typeaDebounceComplete n) s = .next (s.attach n (if (s.port n).debLine then 6 else 5) false))
  ∧ (∀ (n t : Nat) (s : State), s.portSenses n = true → s.typeA n = false → (s.get .PORT_DET_DET n = 2 ∨ s.get .PORT_DET_DET n = 3 ∨ s.get .PORT_DET_DET n = 4) → 10000000 ≤ t → s.ccBlind n = false →
    exec (.typecDetach n t) s = .next ((s.detach n).poolService))
  ∧ (∀ (n t : Nat) (s : State), s.portSenses n = true → s.typeA n = true → (s.get .PORT_DET_DET n = 6 ∧ 10000000 ≤ t ∨ s.get .PORT_DET_DET n = 5 ∧ 5000000000 ≤ t) →
    exec (.typeaDetach n t) s = .next ((s.detach n).poolService))
  ∧ (∀ (n : Nat) (s : State), s.portSenses n = true → s.typeA n = true → s.get .PORT_DET_DET n = 5 → 2 ≤ s.mode n →
    exec (.typeaPullupSeen n) s = .next (s.set .PORT_DET_DET n 6))

/-- A qualified port is charge-only, presented to the hub or enumerated by its mode; a logical detach and a mode change
complete with their events; the upstream VBUS, the connect and the hold-off act as given; nothing else changes.
(05_port_lifecycle.md R110, 05_port_lifecycle.md R112, 05_port_lifecycle.md R117, 05_port_lifecycle.md R118,
05_port_lifecycle.md R122, 05_port_lifecycle.md R123) -/
def Obligations.PresentationEvents : Prop :=
  (∀ (n : Nat) (s : State), s.portSenses n = true → s.att n = 5 → s.pwr n = 3 → s.flag .PWR_STAT_BLOCKED n = false → (s.port n).qualFrom + 1000000 * (s.port n).qualMs ≤ s.dt → s.portCutNow n = false → s.mode n = 1 →
    exec (.qualifyComplete n) s = .next ((s.setAtt n 9).noteTadpole n))
  ∧ (∀ (n : Nat) (s : State), s.portSenses n = true → s.att n = 5 → s.pwr n = 3 → s.flag .PWR_STAT_BLOCKED n = false → (s.port n).qualFrom + 1000000 * (s.port n).qualMs ≤ s.dt → s.portCutNow n = false → s.mode n = 2 → s.safeHold = false → s.domFenced (dPHY (groupOfPort n)) = false → s.domOn (dPHY (groupOfPort n)) = true → s.domOn dHUB = true →
    exec (.qualifyComplete n) s = .next (
      let t := (s.touch (dPHY (groupOfPort n))).touch dHUB
      (t.reconnect n (fun p => { p with gate := true, pullup := false })).present n (n + 1)))
  ∧ (∀ (n j : Nat) (s : State), s.portSenses n = true → s.att n = 5 → s.pwr n = 3 → s.flag .PWR_STAT_BLOCKED n = false → (s.port n).qualFrom + 1000000 * (s.port n).qualMs ≤ s.dt → s.portCutNow n = false → s.mode n = 3 → s.domFenced (dPHY (groupOfPort n)) = false → s.serving n = some j → s.domOn dDRAM = true → s.domOn (dPHY (groupOfPort n)) = true → s.domOn (dSH j) = true →
    exec (.qualifyComplete n) s = .next ((((s.touch dDRAM).touch (dPHY (groupOfPort n))).touch (dSH j)).startEnum n))
  ∧ (∀ (n : Nat) (s : State), n < 96 → (s.port n).detaching = true →
    exec (.logicalDetachComplete n) s = .next (
      let t := s.modPort n (fun p => { p with detaching := false })
      let t := if (s.port n).fabric = 3 then t.endTree n (s.port n).afterAtt else t
      let t := t.lifeEvent n 8 [(0, 1, (s.port n).fabric)]
      (if t.mode n = 3 ∧ t.att n = 6 then t.startEnum n else t).poolService))
  ∧ (∀ (n : Nat) (s : State), n < 96 → s.flag .PORT_LIFE_CHANGING n = true → (s.port n).detaching = false → (s.port n).cycled = false → s.mode n ≠ 3 →
    exec (.modeChangeComplete n) s = .next ((s.finishMode n).answerUnlock))
  ∧ (∀ (n : Nat) (s : State), n < 96 → s.flag .PORT_LIFE_CHANGING n = true → (s.port n).detaching = false → (s.port n).cycled = false → s.mode n = 3 → s.domOn dDRAM = true → s.domOn (dPHY (groupOfPort n)) = true → (∀ j, s.serving n = some j → s.domOn (dSH j) = true) →
    exec (.modeChangeComplete n) s = .next ((s.finishMode n).answerUnlock))
  ∧ (∀ (n : Nat) (s : State), n < 96 → s.flag .PORT_LIFE_CHANGING n = true → (s.port n).detaching = false → (conducting (s.pwr n) = true ∨ ((s.port n).cycling = false ∧ s.powerRequest n = false)) → s.mode n ≠ 3 →
    exec (.modeChangeComplete n) s = .next ((s.finishMode n).answerUnlock))
  ∧ (∀ (t : Nat) (s : State), s.pins.porstLow = false → 10000000 ≤ t →
    exec (.upstreamVbusQualified t) s = .next (s.set .AON_CONN_VBUS_OK 0 1))
  ∧ (∀ (s : State), s.ready = true → s.flag .AON_CONN_PERMIT = true → s.flag .AON_CONN_VBUS_OK = true → s.flag .AON_CONN_HOLDOFF = false → (s.up.applied = false ∨ s.up.ssApplied = false) → s.domFenced dLOOM = false → s.domFenced dHUB = false → s.domOn dLOOM = true → s.domOn dHUB = true → s.u2 = 0 →
    exec (.upstreamConnect) s = .next (
      let t := (s.touch dLOOM).touch dHUB
      (({ t with up := { t.up with applied := true, ssApplied := true } } : State).set .HUBS_STAT_U2_STATE 0 1).settleDomains))
  ∧ (∀ (t : Nat) (s : State), s.pins.porstLow = false → 1000000 ≤ t →
    exec (.upstreamVbusAbsent t) s = .next ((s.set .AON_CONN_VBUS_OK 0 0).upstreamWithdraw))
  ∧ (∀ (t : Nat) (s : State), s.up.holdUntil = some t → t ≤ s.dt →
    exec (.disconnectHoldoffEnd) s = .next (
      let u := s.markRun s.up.deferBy
      let u := ({ u with up := { u.up with holdUntil := none, deferred := false, deferBy := none } } : State).set
        .AON_CONN_HOLDOFF 0 0
      if s.up.deferred then (u.set .AON_CONN_PERMIT 0 1).settleDomains else u))

/-- On a configured hub that is ON each request for hub port 1 to 96 has the effect given on that port; PORT_INDICATOR,
GetTTState and test modes outside 1 to 5 answer STALL; nothing else changes. (06_transparent_hub.md R130,
06_transparent_hub.md R131, 06_transparent_hub.md R132, 06_transparent_hub.md R133, 06_transparent_hub.md R136,
06_transparent_hub.md R137). It rests on the model's own choices of notes/assumptions/29.md, notes/assumptions/174.md
and notes/assumptions/175.md. -/
def Obligations.HubPortRequests : Prop :=
  (∀ (h : Nat) (s : State), s.u2 = 3 → s.domOn dHUB = true → 1 ≤ h → h ≤ 96 → s.skHeld (skeinOfPort (h - 1)) = false → s.linkDead (skeinOfPort (h - 1)) = false →
    exec (.setPortPower h) s = .next (((((s.hubAnswer false []).set .HUBS_PWRREQ_LAST_PORT 0 h).set .HUBS_PWRREQ_LAST_ON 0 1).set .PWR_CFG_PWR_EN (h - 1) 1).evalPower
        (h - 1)))
  ∧ (∀ (h : Nat) (s : State), s.u2 = 3 → s.domOn dHUB = true → 1 ≤ h → h ≤ 96 → (s.skHeld (skeinOfPort (h - 1)) = true ∨ s.linkDead (skeinOfPort (h - 1)) = true) →
    exec (.setPortPower h) s = .next (((s.hubAnswer false []).set .HUBS_PWRREQ_LAST_PORT 0 h).set .HUBS_PWRREQ_LAST_ON 0 1))
  ∧ (∀ (h : Nat) (s : State), s.u2 = 3 → s.domOn dHUB = true → 1 ≤ h → h ≤ 96 → s.linkDead (skeinOfPort (h - 1)) = false →
    exec (.clearPortPower h) s = .next (
      let t := ((((s.hubAnswer false []).set .HUBS_PWRREQ_LAST_PORT 0 h).set .HUBS_PWRREQ_LAST_ON 0 0).count .HUBS_PWRREQ_OFF_CNT 0).hubEvent
        5 h
      if t.linkDead (skeinOfPort (h - 1)) then t else t.vbusClear (h - 1)))
  ∧ (∀ (h : Nat) (s : State), s.u2 = 3 → s.domOn dHUB = true → 1 ≤ h → h ≤ 96 →
    exec (.setPortReset h) s = .next ((((s.hubAnswer false []).modPort (h - 1) (fun p =>
        { p with hpReset := some s.dt, hpEnable := false, hpSusp := false, hpL1 := false, hpResume := none })).ttClear
          (h - 1)).hubNote (h - 1)))
  ∧ (∀ (s : State), s.u2 = 3 → s.domOn dHUB = true → s.flag .HUBS_STAT_P97_CONN = true →
    exec (.setPortReset 97) s = .next ((s.hubAnswer false []).loomReset))
  ∧ (∀ (h v t : Nat) (s : State), 1 ≤ h → h ≤ 96 → 1 ≤ v → v ≤ 3 → (s.port (h - 1)).hpReset = some t → t + 10000000 ≤ s.dt →
    exec (.portResetEnd h v) s = .next (
      let u := s.modPort (h - 1) (fun p => { p with hpReset := none })
      let u := if u.hubConn (h - 1) then u.modPort (h - 1) (fun p => { p with hpEnable := true, hpSpeed := v }) else u
      (u.hubChange (h - 1) 4).hubNote (h - 1)))
  ∧ (∀ (h : Nat) (s : State), s.u2 = 3 → s.domOn dHUB = true → 1 ≤ h → h ≤ 96 →
    exec (.clearPortEnable h) s = .next (((s.hubAnswer false []).modPort (h - 1) (fun p =>
        { p with hpEnable := false, hpSusp := false, hpL1 := false, hpResume := none })).hubNote (h - 1)))
  ∧ (∀ (h : Nat) (s : State), s.u2 = 3 → s.domOn dHUB = true → 1 ≤ h → h ≤ 96 → (s.port (h - 1)).hpEnable = true →
    exec (.setPortSuspend h) s = .next (((s.hubAnswer false []).modPort (h - 1) (fun p => { p with hpSusp := true, hpL1 := false })).hubNote (h - 1)))
  ∧ (∀ (h : Nat) (s : State), s.u2 = 3 → s.domOn dHUB = true → 1 ≤ h → h ≤ 96 → (s.port (h - 1)).hpSusp = true → (s.port (h - 1)).hpResume = none →
    exec (.clearPortSuspend h) s = .next ((s.hubAnswer false []).modPort (h - 1) (fun p => { p with hpResume := some s.dt })))
  ∧ (∀ (h m : Nat) (s : State), s.u2 = 3 → s.domOn dHUB = true → 1 ≤ h → h ≤ 96 → 1 ≤ m → m ≤ 5 →
    exec (.setPortTest h m) s = .next ((s.hubAnswer false []).modPort (h - 1) (fun p => { p with hpTest := m })))
  ∧ (∀ (h m : Nat) (s : State), s.u2 = 3 → s.domOn dHUB = true → 1 ≤ h → h ≤ 96 → (m = 0 ∨ 5 < m) →
    exec (.setPortTest h m) s = .next (s.hubAnswer true []))
  ∧ (∀ (h : Nat) (s : State), s.u2 = 3 → s.domOn dHUB = true → 1 ≤ h → h ≤ 96 →
    exec (.setPortIndicator h) s = .next (s.hubAnswer true []))
  ∧ (∀ (h d e : Nat) (s : State), s.u2 = 3 → s.domOn dHUB = true → 1 ≤ h → h ≤ 96 → s.flag .HUBS_STAT_ALT_MTT = true →
    exec (.clearTtBuffer h d e) s = .next (((s.hubAnswer false []).count .HUBS_TTCNT_CLEAR_CNT 0).ttDrop (h - 1) h
        (fun b => !(b.dev == d && b.ep == e)) false))
  ∧ (∀ (h d e : Nat) (s : State), s.u2 = 3 → s.domOn dHUB = true → 1 ≤ h → h ≤ 96 → s.flag .HUBS_STAT_ALT_MTT = false →
    exec (.clearTtBuffer h d e) s = .next (((s.hubAnswer false []).count .HUBS_TTCNT_CLEAR_CNT 0).ttDrop 0 h
        (fun b => !(b.dev == d && b.ep == e)) false))
  ∧ (∀ (h : Nat) (s : State), s.u2 = 3 → s.domOn dHUB = true → 1 ≤ h → h ≤ 96 → s.flag .HUBS_STAT_ALT_MTT = true →
    exec (.resetTt h) s = .next ((((s.hubAnswer false []).count .HUBS_TTCNT_CLEAR_CNT 0).ttDrop (h - 1) h (fun _ => false) true).modPort (h - 1) (fun p =>
        { p with tt := { p.tt with stopped := false } })))
  ∧ (∀ (h : Nat) (s : State), s.u2 = 3 → s.domOn dHUB = true → 1 ≤ h → h ≤ 96 → s.flag .HUBS_STAT_ALT_MTT = false →
    exec (.resetTt h) s = .next ((((s.hubAnswer false []).count .HUBS_TTCNT_CLEAR_CNT 0).ttDrop 0 h (fun _ => false) true).modPort 0 (fun p =>
        { p with tt := { p.tt with stopped := false } })))
  ∧ (∀ (h : Nat) (s : State), s.u2 = 3 → s.domOn dHUB = true → 1 ≤ h → h ≤ 96 → s.flag .HUBS_STAT_ALT_MTT = true →
    exec (.stopTt h) s = .next ((s.hubAnswer false []).modPort (h - 1) (fun p => { p with tt := { p.tt with stopped := true } })))
  ∧ (∀ (h : Nat) (s : State), s.u2 = 3 → s.domOn dHUB = true → 1 ≤ h → h ≤ 96 → s.flag .HUBS_STAT_ALT_MTT = false →
    exec (.stopTt h) s = .next ((s.hubAnswer false []).modPort 0 (fun p => { p with tt := { p.tt with stopped := true } })))
  ∧ (∀ (s : State), s.u2 = 3 → s.domOn dHUB = true →
    exec (.clearPortPower 97) s = .next (s.hubAnswer false []))
  ∧ (∀ (h : Nat) (s : State), s.u2 = 3 → s.domOn dHUB = true → 1 ≤ h → h ≤ 96 →
    exec (.getTtState h) s = .next (s.hubAnswer true []))
  ∧ (∀ (h : Nat) (s : State), s.u2 = 3 → s.domOn dHUB = true → 1 ≤ h → h ≤ 96 →
    exec (.getPortStatus h) s = .next (s.hubAnswer false (toLE 2 (s.portStatusWord (h - 1)) ++ toLE 2 (s.port (h - 1)).hpChange)))
  ∧ (∀ (s : State), s.u2 = 3 → s.domOn dHUB = true →
    exec (.getPortStatus 97) s = .next (s.hubAnswer false (toLE 2 (s.get .HUBS_CONN 97 + 256) ++ toLE 2 s.hub.p97Change)))

/-- An upstream reset clears the hub, 3 ms of idle suspends it, the host resume and the wake of a port act as given, and
the link power requests, the alternate setting and the standard requests set their states; nothing else changes.
(06_transparent_hub.md R128, 06_transparent_hub.md R131, 06_transparent_hub.md R135, 06_transparent_hub.md R137,
06_transparent_hub.md R138, 06_transparent_hub.md R139, 06_transparent_hub.md R140, 08_loom_function.md R180). It
rests on the model's own choices of notes/assumptions/143.md, notes/assumptions/109.md and notes/assumptions/142.md. -/
def Obligations.HubStateEvents : Prop :=
  (∀ (a : Nat) (s : State), s.u2 = 3 → s.domOn dHUB = true → a ≤ 1 → s.get .HUBS_STAT_ALT_MTT ≠ a →
    exec (.hubSetInterface a) s = .next ((s.ttClearAll).set .HUBS_STAT_ALT_MTT 0 a))
  ∧ (∀ (s : State), s.u2 ≠ 0 →
    exec (.upstreamReset) s = .next (
      let t := (s.hubClear).set .HUBS_STAT_U2_STATE 0 1
      if t.get .LOOMS_STAT_RATE = 1 then t.loomReset else t))
  ∧ (∀ (n : Nat) (s : State), 3000000 ≤ n → 1 ≤ s.u2 → s.u2 ≤ 3 →
    exec (.hubGlobalSuspend n) s = .next (
      let t : State := { s with hub := { s.hub with suspFrom := s.dt, fromState := s.u2, resume := false, driving := false } }
      let t := (t.set .HUBS_STAT_U2_STATE 0 4).hubEvent 1 0
      if t.get .LOOMS_STAT_RATE = 1 then (t.set .LOOMS_STAT_LSTATE 0 3).loomEvent 3 else t))
  ∧ (∀ (s : State), (s.u2 = 4 ∨ s.u2 = 5) →
    exec (.hostResume false) s = .next ({ s with hub := { s.hub with resume := true } }))
  ∧ (∀ (s : State), s.u2 = 4 → s.hub.resume = true → s.domOn dHUB = true →
    exec (.hostResume true) s = .next (
      let t := ((s.touch dHUB).set .HUBS_STAT_U2_STATE 0 s.hub.fromState).hubEvent 2 0
      let t : State := { t with hub := { t.hub with resume := false, driving := false, wakeOf := none } }
      if t.get .LOOMS_STAT_RATE = 1 ∧ t.get .LOOMS_STAT_LSTATE = 3 then
        ((t.set .LOOMS_STAT_LSTATE 0 0).set .LOOMS_STAT_WAKE_PEND 0 0).loomEvent 4
      else if t.get .LOOMS_STAT_RATE = 1 ∧ t.get .LOOMS_STAT_LSTATE = 5 then t.set .LOOMS_STAT_LSTATE 0 0
      else t))
  ∧ (∀ (s : State), s.u2 = 5 → s.hub.resume = true → s.domOn dHUB = true →
    exec (.hostResume true) s = .next (
      let t := (s.touch dHUB).set .HUBS_STAT_U2_STATE 0 3
      let t : State := { t with hub := { t.hub with resume := false, driving := false, wakeOf := none } }
      if t.get .LOOMS_STAT_RATE = 1 ∧ t.get .LOOMS_STAT_LSTATE = 3 then
        ((t.set .LOOMS_STAT_LSTATE 0 0).set .LOOMS_STAT_WAKE_PEND 0 0).loomEvent 4
      else if t.get .LOOMS_STAT_RATE = 1 ∧ t.get .LOOMS_STAT_LSTATE = 5 then t.set .LOOMS_STAT_LSTATE 0 0
      else t))
  ∧ (∀ (h : Nat) (s : State), 1 ≤ h → h ≤ 96 → (s.port (h - 1)).hpEnable = true → s.u2 = 4 → s.hub.resume = false → s.hub.driving = false → s.flag .HUBS_STAT_RWAKE_EN = true → s.hub.wakeOf = none → s.domOn dHUB = true → s.hub.suspFrom + 5000000 ≤ s.dt →
    exec (.downstreamRemoteWake h true) s = .next (
      let t : State := { s with hub := { s.hub with wakeOf := some h } }
      let t := t.touch dHUB
      (({ t with hub := { t.hub with driving := true, wakeOf := none } } : State).hubEvent 3 h).resumePort (h - 1)))
  ∧ (∀ (h : Nat) (s : State), 1 ≤ h → h ≤ 96 → (s.port (h - 1)).hpEnable = true → s.u2 = 4 → s.hub.resume = false → s.hub.driving = false → s.flag .HUBS_STAT_RWAKE_EN = true → s.hub.wakeOf = none → s.dt < s.hub.suspFrom + 5000000 →
    exec (.downstreamRemoteWake h true) s = .next (
      let t : State := { s with hub := { s.hub with wakeOf := some h } }
      t.resumePort (h - 1)))
  ∧ (∀ (h : Nat) (s : State), 1 ≤ h → h ≤ 96 → (s.port (h - 1)).hpEnable = true → (s.u2 = 4 ∨ s.u2 = 5) → s.hub.resume = true →
    exec (.downstreamRemoteWake h true) s = .next ((s.hubEvent 4 h).resumePort (h - 1)))
  ∧ (∀ (h t : Nat) (s : State), 1 ≤ h → h ≤ 96 → (s.port (h - 1)).hpResume = some t → t + 20000000 ≤ s.dt →
    exec (.portResumeEnd h) s = .next (((s.modPort (h - 1) (fun p => { p with hpResume := none, hpSusp := false })).hubChange (h - 1) 2).hubNote (h - 1)))
  ∧ (∀ (h : Nat) (b : Bool) (s : State), 1 ≤ h → h ≤ 96 → s.mode (h - 1) = 2 → (s.port (h - 1)).gate = true → s.domOn (dPHY (groupOfPort (h - 1))) = true →
    exec (.downstreamConnectChange h b) s = .next (s.reconnect (h - 1) (fun p => { p with pullup := b })))
  ∧ (∀ (s : State), 2 ≤ s.get .LOOMS_STAT_RATE → s.get .LOOMS_STAT_LSTATE = 0 →
    exec (.linkPowerStateRequest .u1) s = .next ((s.set .LOOMS_STAT_LSTATE 0 1).set .HUBS_STAT_SS_STATE 0 2))
  ∧ (∀ (s : State), 2 ≤ s.get .LOOMS_STAT_RATE → s.get .LOOMS_STAT_LSTATE ≤ 1 →
    exec (.linkPowerStateRequest .u2) s = .next ((s.set .LOOMS_STAT_LSTATE 0 2).set .HUBS_STAT_SS_STATE 0 3))
  ∧ (∀ (s : State), 2 ≤ s.get .LOOMS_STAT_RATE → (s.get .LOOMS_STAT_LSTATE = 1 ∨ s.get .LOOMS_STAT_LSTATE = 2) →
    exec (.linkPowerStateRequest .u0) s = .next ((s.set .LOOMS_STAT_LSTATE 0 0).set .HUBS_STAT_SS_STATE 0 1))
  ∧ (∀ (s : State), s.u2 = 3 → s.get .LOOMS_STAT_RATE = 1 →
    exec (.linkPowerStateRequest .l1) s = .next ((s.set .HUBS_STAT_U2_STATE 0 5).set .LOOMS_STAT_LSTATE 0 5))
  ∧ (∀ (s : State), s.u2 = 5 → s.get .LOOMS_STAT_RATE = 1 →
    exec (.linkPowerStateRequest .l0) s = .next (
      let t : State := { s with hub := { s.hub with resume := false, driving := false, wakeOf := none } }
      (t.set .HUBS_STAT_U2_STATE 0 3).set .LOOMS_STAT_LSTATE 0 0))
  ∧ (∀ (h : Nat) (s : State), s.u2 = 3 → s.domOn dHUB = true → 1 ≤ h → h ≤ 96 → (s.port (h - 1)).hpEnable = true → (s.port (h - 1)).hpSusp = false →
    exec (.linkPowerStateRequest (.portL1 h)) s = .next (((s.hubAnswer false []).modPort (h - 1) (fun p => { p with hpL1 := true })).hubNote (h - 1)))
  ∧ (∀ (s : State), s.u2 = 3 → s.domOn dHUB = true → s.get .LOOMS_STAT_RATE = 1 → s.get .LOOMS_STAT_LSTATE = 0 →
    exec (.linkPowerStateRequest (.portL1 97)) s = .next ((s.hubAnswer false []).set .LOOMS_STAT_LSTATE 0 5))
  ∧ (∀ (h : Nat) (s : State), 1 ≤ h → h ≤ 96 → (s.port (h - 1)).hpL1 = true →
    exec (.linkPowerStateRequest (.portL0 h)) s = .next (((s.modPort (h - 1) (fun p => { p with hpL1 := false })).hubChange (h - 1) 5).hubNote (h - 1)))
  ∧ (∀ (a : Nat) (s : State), s.domOn dHUB = true → (s.u2 = 1 ∨ s.u2 = 2) →
    exec (.hubStandardRequest (.setAddress a)) s = .next ((s.set .HUBS_STAT_U2_ADDR 0 a).set .HUBS_STAT_U2_STATE 0 (if a % 128 = 0 then 1 else 2)))
  ∧ (∀ (s : State), s.domOn dHUB = true → s.u2 = 2 →
    exec (.hubStandardRequest (.setConfiguration 1)) s = .next (s.set .HUBS_STAT_U2_STATE 0 3))
  ∧ (∀ (s : State), s.domOn dHUB = true → s.u2 = 3 →
    exec (.hubStandardRequest (.setConfiguration 0)) s = .next (s.set .HUBS_STAT_U2_STATE 0 2))
  ∧ (∀ (b : Bool) (s : State), s.domOn dHUB = true → 2 ≤ s.u2 → s.u2 ≤ 3 →
    exec (.hubStandardRequest (.remoteWake b)) s = .next (s.setB .HUBS_STAT_RWAKE_EN 0 b))
  ∧ (∀ (f : UsbFn) (y i n : Nat) (d : List Nat) (s : State), s.answers f = true → s.descriptor f y i = some d →
    exec (.hubStandardRequest (.getDescriptor f y i n)) s = .next ((s.loomEp0 f (d.take n)).hubAnswer false (d.take n)))
  ∧ (∀ (h d e : Nat) (bs : List Nat) (s : State), s.u2 = 3 → s.domOn dHUB = true → 1 ≤ h → h ≤ 96 → s.splits (h - 1) = true → (s.port (s.ttOwner (h - 1))).tt.stopped = false → (s.port (s.ttOwner (h - 1))).tt.bufs.length < 4 → bs.length ≤ 64 →
    exec (.hubStandardRequest (.startSplit h d e none bs)) s = .next (s.modPort (s.ttOwner (h - 1)) (fun p => { p with
          tt := { (s.port (s.ttOwner (h - 1))).tt with
          bufs := (s.port (s.ttOwner (h - 1))).tt.bufs ++ [⟨d, e, bs⟩] } })))
  ∧ (∀ (h d e : Nat) (b : Split) (s : State), s.u2 = 3 → s.domOn dHUB = true → 1 ≤ h → h ≤ 96 → s.splits (h - 1) = true → (s.port (s.ttOwner (h - 1))).tt.stopped = false → (s.port (s.ttOwner (h - 1))).tt.bufs.find? (fun b => b.dev == d && b.ep == e) = some b →
    exec (.hubStandardRequest (.completeSplit h d e none)) s = .next ((s.modPort (s.ttOwner (h - 1)) (fun p => { p with
          tt := { (s.port (s.ttOwner (h - 1))).tt with
          bufs := (s.port (s.ttOwner (h - 1))).tt.bufs.erase b } })).hubAnswer false b.data))

/-- At a cold start the attach states are rebuilt, the standing profile is checked and applied and device event 2 raised;
at a warm restart the terminated ports enumerate again; then ready is reported; nothing else changes. (16_start_up.md
R378, 09_ecrax_protocol.md R234, 09_ecrax_protocol.md R235, 05_port_lifecycle.md R125). It rests on the model's own
choices of notes/assumptions/82.md and notes/assumptions/84.md. -/
def Obligations.ReadyCommand : Prop :=
  (∀ (s : State), s.starting = true → s.flag .FLT_TOKEN_VALID = true → s.boot.selfTest = true → s.boot.dfu = .off → s.safeHold = false → s.boot.warm = true →
    exec (.standingProfileApply) s = .next (s.reportReady))
  ∧ (∀ (s : State), s.starting = true → s.flag .FLT_TOKEN_VALID = true → s.boot.selfTest = true → s.boot.dfu = .off → s.safeHold = false → s.boot.warm = false →
    exec (.standingProfileApply) s = .next (
      let r := ((List.range 96).foldl State.rebuildPort s).standingProfile
      (r.1.recomputeAll.deviceEvent 2 (detailOf [(0, 4, r.2.1), (4, 2, r.2.2)])).reportReady))

/-- Each opcode of the device group that runs answers the results given or changes the state as given, and is then
answered; nothing else changes. (10_ecrax_opcodes.md R241, 10_ecrax_opcodes.md R242, 10_ecrax_opcodes.md R243,
05_port_lifecycle.md R122, 05_port_lifecycle.md R123, 09_ecrax_protocol.md R227, 09_ecrax_protocol.md R230). It rests
on the model's own choices of notes/assumptions/14.md. -/
def Obligations.DeviceGroupOpcodes : Prop :=
  (∀ (p : Packet) (s t : State), Safety.startsAs 0x00 [] p s t →
    exec (.deviceInfo p) s = .next (opEnd (opPacket 0x00 p) (.res t (toLE 2 t.sec.otp.vendorId ++ toLE 2 0x9664 ++ toLE 2 0x0B00 ++ [t.idx, t.lifecycle]
        ++ toLE 8 t.sec.otp.serial ++ toLE 4 (t.versionOf 0) ++ toLE 4 (t.versionOf 1) ++ [t.strapByte]
        ++ List.replicate 7 0))))
  ∧ (∀ (p : Packet) (s t : State), Safety.startsAs 0x01 [] p s t →
    exec (.deviceStatus p) s = .next (opEnd (opPacket 0x01 p) (.res t ([t.statusByte, t.lifecycle, t.debugLevel, t.geckoCount] ++ toLE 8 t.clock
        ++ List.replicate 4 0))))
  ∧ (∀ (p : Packet) (s t : State), Safety.startsAs 0x02 [] p s t → t.flag .AON_CONN_HOLDOFF = false →
    exec (.connect p) s = .next (opEnd (opPacket 0x02 p) (.ok ((t.set .AON_CONN_PERMIT 0 1).settleDomains))))
  ∧ (∀ (p : Packet) (s t : State), Safety.startsAs 0x02 [] p s t → t.flag .AON_CONN_HOLDOFF = true →
    exec (.connect p) s = .next (opEnd (opPacket 0x02 p) (
        let u := t.displaceOpt t.up.deferBy
        { st := { u with up := { u.up with deferred := true, deferBy := some (opPacket 0x02 p).id } },
          status := stDEFERRED })))
  ∧ (∀ (p : Packet) (s t : State), Safety.startsAs 0x03 [] p s t →
    exec (.disconnect p) s = .next (opEnd (opPacket 0x03 p) (
        let u := (((t.set .AON_CONN_PERMIT 0 0).upstreamWithdraw).set .AON_CONN_HOLDOFF 0 1)
        let u := u.displaceOpt u.up.deferBy
        .ok { u with up := { u.up with holdUntil := some (u.dt + 100000000), deferred := false, deferBy := none } })))
  ∧ (∀ (p : Packet) (s t : State), Safety.startsAs 0x04 [] p s t →
    exec (.warmRestart p) s = .next (opEnd (opPacket 0x04 p) (.ok { t with ecx := { t.ecx with restart := some (t.dt + 5000000), restartOf := some (opPacket 0x04 p).id, restartOut := false } })))
  ∧ (∀ (p : Packet) (s t : State), Safety.startsAs 0x05 [] p s t → p.u8 1 = 0 →
    exec (.journalRead p) s = .next (opEnd (opPacket 0x05 p) (.res t ([t.ecx.journal.length, 0, 0, 0] ++ t.ecx.journal.flatMap JEntry.bytes))))
  ∧ (∀ (p : Packet) (s t : State), Safety.startsAs 0x05 [] p s t → p.u8 1 = 1 →
    exec (.journalRead p) s = .next (opEnd (opPacket 0x05 p) (
        let es := t.ecx.journal.filter (fun e => e.chan.code == p.u8 0 && e.tag == p.u16 2)
        .res t ([es.length, 0, 0, 0] ++ es.flatMap JEntry.bytes))))
  ∧ (∀ (p : Packet) (s t : State), Safety.startsAs 0x06 [] p s t →
    exec (.channelMask p) s = .next (opEnd (opPacket 0x06 p) (.res (t.set .AON_HIER_CHMASK 0 (p.u16 0)) (toLE 2 (t.get .AON_HIER_CHMASK)))))
  ∧ (∀ (p : Packet) (s t : State), Safety.startsAs 0x07 [] p s t → t.noFlash = false → p.u32 0 = 0 → p.u8 4 = 0 → (p.params.drop 8).length ≤ 65536 →
    exec (.profileWrite p) s = .next (opEnd (opPacket 0x07 p) (.ok { t with ecx := { t.ecx with staging := p.params.drop 8 } })))
  ∧ (∀ (p : Packet) (s t : State), Safety.startsAs 0x07 [] p s t → t.noFlash = false → p.u32 0 ≠ 0 → p.u32 0 = t.ecx.staging.length → p.u8 4 = 0 → t.ecx.staging.length + (p.params.drop 8).length ≤ 65536 →
    exec (.profileWrite p) s = .next (opEnd (opPacket 0x07 p) (.ok { t with ecx := { t.ecx with staging := t.ecx.staging ++ p.params.drop 8 } })))
  ∧ (∀ (p : Packet) (s t : State), Safety.startsAs 0x07 [] p s t → t.noFlash = false → p.u32 0 = 0 → p.u8 4 = 1 → (p.params.drop 8).length ≤ 65536 →
    exec (.profileWrite p) s = .next (opEnd (opPacket 0x07 p) (
        let u : State := { t with ecx := { t.ecx with staging := p.params.drop 8 } }
        let w := u.writeProfile (p.params.drop 8)
        let v : State := { w.1 with ecx := { w.1.ecx with staging := [] } }
        if w.2 = 0 then .ok v else { st := v, status := stVERIFY_FAILED, results := [w.2] })))
  ∧ (∀ (p : Packet) (s t : State), Safety.startsAs 0x07 [] p s t → t.noFlash = false → p.u32 0 ≠ 0 → p.u32 0 = t.ecx.staging.length → p.u8 4 = 1 → t.ecx.staging.length + (p.params.drop 8).length ≤ 65536 →
    exec (.profileWrite p) s = .next (opEnd (opPacket 0x07 p) (
        let bs := t.ecx.staging ++ p.params.drop 8
        let u : State := { t with ecx := { t.ecx with staging := bs } }
        let w := u.writeProfile bs
        let v : State := { w.1 with ecx := { w.1.ecx with staging := [] } }
        if w.2 = 0 then .ok v else { st := v, status := stVERIFY_FAILED, results := [w.2] })))
  ∧ (∀ (p : Packet) (s t : State), Safety.startsAs 0x08 [] p s t → t.noFlash = false →
    exec (.profileRead p) s = .next (opEnd (opPacket 0x08 p) (
        let cur := t.inForce.getD 0
        let bs := t.copyBytes (if p.u8 0 = 0 then cur else 1 - cur)
        .res t ((List.range 4).map (fun k => bs.getD (8 + k) 0xFF) ++ [0, 0, 0, 0]
          ++ (List.range (p.u16 2)).map (fun k => bs.getD (p.u32 4 + k) 0xFF)))))
  ∧ (∀ (p : Packet) (s t : State), Safety.startsAs 0x09 [] p s t → t.noFlash = false →
    exec (.profileErase p) s = .next (opEnd (opPacket 0x09 p) (
        let fl := t.boot.flash
        .ok ({ t with boot := { t.boot with flash := { fl with profiles := [[], []] } } } : State).noteProfile)))

/-- Each opcode of the port group that runs and that its rule accepts acts on the port it names as given; nothing else
changes. (10_ecrax_opcodes.md R244, 04_port_power.md R89, 04_port_power.md R91, 05_port_lifecycle.md R108,
05_port_lifecycle.md R112, 05_port_lifecycle.md R113, 07_shuttle_engines.md R158) -/
def Obligations.PortGroupOpcodes : Prop :=
  (∀ (p : Packet) (s t : State), Safety.startsAs 0x10 [] p s t → p.u8 1 ≤ 2 → t.lifecycle ≠ lcRETIRED → t.linkDead (skeinOfPort (p.u8 0)) = false → t.skHeld (skeinOfPort (p.u8 0)) = false →
    exec (.portModeSet p) s = .next (opEnd (opPacket 0x10 p) (
        let u := if bit (p.u8 2) 0 then t.set .PORT_MODE_PUBLIC (p.u8 0) (bits (p.u8 2) 1 1) else t
        let r := u.requestMode (p.u8 0) (p.u8 1) (some (opPacket 0x10 p).id)
        { st := r.1, status := r.2 })))
  ∧ (∀ (p : Packet) (s t : State) (i : Nat), Safety.startsAs 0x10 ((modeNeeds p s)) p s t → p.u8 1 = 3 → s.skHeld (skeinOfPort (p.u8 0)) = false → s.serving (p.u8 0) = some i → t.lifecycle ≠ lcRETIRED → t.linkDead (skeinOfPort (p.u8 0)) = false → t.serving (p.u8 0) = some i → t.skHeld (skeinOfPort (p.u8 0)) = false →
    exec (.portModeSet p) s = .next (opEnd (opPacket 0x10 p) (
        let u := if bit (p.u8 2) 0 then t.set .PORT_MODE_PUBLIC (p.u8 0) (bits (p.u8 2) 1 1) else t
        let r := u.requestMode (p.u8 0) 3 (some (opPacket 0x10 p).id)
        { st := r.1, status := r.2 })))
  ∧ (∀ (p : Packet) (s t : State), Safety.startsAs 0x11 [] p s t → t.isAttached (p.u8 0) = true →
    exec (.portDataEnable p) s = .next (opEnd (opPacket 0x11 p) (.ok ((t.set .PORT_MODE_DATA_EN (p.u8 0) 1).recompute (p.u8 0)))))
  ∧ (∀ (p : Packet) (s t : State), Safety.startsAs 0x12 [] p s t →
    exec (.portDataDisable p) s = .next (opEnd (opPacket 0x12 p) (.ok ((t.set .PORT_MODE_DATA_EN (p.u8 0) 0).recompute (p.u8 0)))))
  ∧ (∀ (p : Packet) (s t : State), Safety.startsAs 0x13 [] p s t → t.skHeld (skeinOfPort (p.u8 0)) = false → t.mode (p.u8 0) ≠ 0 → t.flag .PWR_STAT_DEFERRED (p.u8 0) = false → t.pwr (p.u8 0) < 5 →
    exec (.portVbusOn p) s = .next (opEnd (opPacket 0x13 p) (.ok ((t.set .PWR_CFG_PWR_EN (p.u8 0) 1).evalPower (p.u8 0)))))
  ∧ (∀ (p : Packet) (s t : State), Safety.startsAs 0x13 [] p s t → t.skHeld (skeinOfPort (p.u8 0)) = false → t.mode (p.u8 0) ≠ 0 → t.flag .PWR_STAT_DEFERRED (p.u8 0) = false → (t.pwr (p.u8 0) = 5 ∨ t.pwr (p.u8 0) = 6) →
    exec (.portVbusOn p) s = .next (opEnd (opPacket 0x13 p) (
        let u := (t.set .PWR_CFG_PWR_EN (p.u8 0) 1).set .PWR_STAT_DEFERRED (p.u8 0) 1
        let u := u.modPort (p.u8 0) (fun x => { x with deferBy := some (opPacket 0x13 p).id })
        { st := u, status := stDEFERRED })))
  ∧ (∀ (p : Packet) (s t : State), Safety.startsAs 0x14 [] p s t →
    exec (.portVbusOff p) s = .next (opEnd (opPacket 0x14 p) (.ok (t.vbusClear (p.u8 0)))))
  ∧ (∀ (p : Packet) (s t : State), Safety.startsAs 0x15 [] p s t → t.skHeld (skeinOfPort (p.u8 0)) = false → t.pwr (p.u8 0) = 7 →
    exec (.portLatchClear p) s = .next (opEnd (opPacket 0x15 p) (.ok ((t.set .PWR_STAT_RETRY_LEFT (p.u8 0) (t.get .PWR_CFG_RETRIES (p.u8 0))).toPower (p.u8 0) 5))))
  ∧ (∀ (p : Packet) (s t : State), Safety.startsAs 0x16 [] p s t → t.skHeld (skeinOfPort (p.u8 0)) = false → (bit (p.u16 2) 0 = false ∨ t.mode (p.u8 0) = 0) →
    exec (.portPwrConfig p) s = .next (opEnd (opPacket 0x16 p) (
        let cfg := pwrConfigWord (p.u16 2) 0 (p.u32 4) (t.readWord .PORT (p.u8 0) 0)
        let lim := pwrConfigWord (p.u16 2) 4 (p.u32 8) (t.readWord .PORT (p.u8 0) 4)
        .ok ((t.pwrCfgFields (p.u8 0) cfg).pwrLimitFields (p.u8 0) (bits lim 0 8) (bits lim 8 6) (bits lim 16 4)
          (bits lim 24 6)))))
  ∧ (∀ (p : Packet) (s t : State), Safety.startsAs 0x17 [] p s t →
    exec (.portStatus p) s = .next (opEnd (opPacket 0x17 p) (
        let n := p.u8 0
        .res t (t.readBytes .PORT n 0x008 4 ++ t.readBytes .PORT n 0x00C 4 ++ t.readBytes .PORT n 0x100 4
          ++ t.readBytes .PORT n 0x104 4 ++ t.readBytes .PORT n 0x110 4 ++ t.readBytes .PORT n 0x114 4
          ++ toLE 2 (t.get .PWR_VBUS n) ++ toLE 2 (t.get .PWR_I n) ++ t.readBytes .PORT n 0x124 4))))
  ∧ (∀ (p : Packet) (s t : State) (i : Nat), Safety.startsAs 0x18 [dSH i, dDRAM] p s t → s.mode (p.u8 0) = 3 → s.serving (p.u8 0) = some i → t.mode (p.u8 0) = 3 → t.serving (p.u8 0) = some i → t.att (p.u8 0) = 8 →
    exec (.portRescan p) s = .next (opEnd (opPacket 0x18 p) (.ok (t.startEnum (p.u8 0)))))

/-- Each opcode of the power and budget group that runs and that its rule accepts acts on the feed or the skein it names
as given; nothing else changes. (10_ecrax_opcodes.md R245, 10_ecrax_opcodes.md R246, 03_feeds.md R73, 03_feeds.md R79,
04_port_power.md R96) -/
def Obligations.PowerGroupOpcodes : Prop :=
  (∀ (p : Packet) (s t : State), Safety.startsAs 0x20 [] p s t → t.skHeld (skeinOfFeed (p.u8 0)) = false → t.flag .FEED_STAT_DEFERRED (p.u8 0) = false → t.fst (p.u8 0) = fOFF →
    exec (.feedEnable p) s = .next (opEnd (opPacket 0x20 p) (.ok ((t.set .FEED_CFG_EN (p.u8 0) 1).toFeed (p.u8 0) fWAITING))))
  ∧ (∀ (p : Packet) (s t : State), Safety.startsAs 0x21 [] p s t → t.skHeld (skeinOfFeed (p.u8 0)) = false → t.flag .FEED_STAT_DEFERRED (p.u8 0) = false → feedConducts (t.fst (p.u8 0)) = true → (t.onlyConducting (p.u8 0) = false ∨ p.u8 1 = 1) →
    exec (.feedDisable p) s = .next (opEnd (opPacket 0x21 p) (.ok (((t.set .FEED_CFG_EN (p.u8 0) 0).gateOff (p.u8 0)).toFeed (p.u8 0) fSTOPPING))))
  ∧ (∀ (p : Packet) (s t : State), Safety.startsAs 0x22 [] p s t → t.skHeld (skeinOfFeed (p.u8 0)) = false → (feedConfigWrites p).find? (fun w => w.1 == 0) = none → (((feedConfigWrites p).filter (fun w => w.1 != 0)).foldl (fun s w => applyWord s .write .FEED (p.u8 0) w.1 w.2) t).ladderOk (p.u8 0) = true → (((feedConfigWrites p).filter (fun w => w.1 != 0)).foldl (fun s w => applyWord s .write .FEED (p.u8 0) w.1 w.2) t).limitOk (p.u8 0) = true →
    exec (.feedConfig p) s = .next (opEnd (opPacket 0x22 p) (.ok (((feedConfigWrites p).filter (fun w => w.1 != 0)).foldl (fun s w => applyWord s .write .FEED (p.u8 0) w.1 w.2) t))))
  ∧ (∀ (p : Packet) (s t : State), Safety.startsAs 0x23 [] p s t → t.skHeld (p.u8 0) = false →
    exec (.skeinConfig p) s = .next (opEnd (opPacket 0x23 p) (.ok (t.skeinCfg (p.u8 0) (p.u32 4)))))
  ∧ (∀ (p : Packet) (s t : State), Safety.startsAs 0x24 [] p s t → t.skHeld (p.u8 0) = false → p.u16 2 ≤ 1000 * t.get .SKN_CFG_IRATED (p.u8 0) →
    exec (.skeinBudget p) s = .next (opEnd (opPacket 0x24 p) (
        let u := (t.set .SKN_BUDGET_BUDGET_MA (p.u8 0) (p.u16 2)).budgetMoved (p.u8 0)
        .res u (toLE 2 (u.effBudget (p.u8 0))))))
  ∧ (∀ (p : Packet) (s t : State), Safety.startsAs 0x25 [] p s t →
    exec (.powerStatus p) s = .next (opEnd (opPacket 0x25 p) (
        let k := p.u8 0
        .res t (t.readBytes .SKEIN k 0x04 4 ++ toLE 2 (t.get .SKN_VRAIL k) ++ [0, 0] ++ t.readBytes .SKEIN k 0x0C 4
          ++ t.readBytes .SKEIN k 0x28 4 ++ t.readBytes .SKEIN k 0x2C 4 ++ t.readBytes .SKEIN k 0x24 4
          ++ t.readBytes .FEED (2 * k) 0x10 4 ++ t.readBytes .FEED (2 * k + 1) 0x10 4
          ++ t.readBytes .FEED (2 * k) 0x20 4 ++ t.readBytes .FEED (2 * k + 1) 0x20 4))))

/-- Each measurement opcode that runs answers from the last window or the snapshot as given; a capture starts, latches
every bank that can be reached and completes as given; nothing else changes. What a feed of a skein without a link
reports is a free value (assumption 41). (10_ecrax_opcodes.md R247, 17_registers.md R395, 17_registers.md R396). It
rests on the model's own choices of notes/assumptions/22.md and notes/assumptions/41.md. -/
def Obligations.MeasurementGroupOpcodes : Prop :=
  (∀ (p : Packet) (s t : State), Safety.startsAs 0x30 [] p s t → t.measDt ≠ 0 →
    exec (.measPorts p) s = .next (opEnd (opPacket 0x30 p) (.res t (t.measPorts (p.u8 0) (p.u8 1)))))
  ∧ (∀ (p : Packet) (s t : State), Safety.startsAs 0x30 [] p s t → t.measDt = 0 →
    exec (.measPorts p) s = .next (opEnd (opPacket 0x30 p) (
        let u := { t with ecx := { t.ecx with measBy := t.ecx.measBy ++ [((opPacket 0x30 p).id, p.u8 0, p.u8 1)] } }
        { st := u, later := true })))
  ∧ (∀ (p : Packet) (s t : State), Safety.startsAs 0x31 [] p s t → t.measDt ≠ 0 →
    exec (.measFeeds p) s = .next (opEnd (opPacket 0x31 p) (.res { t with freeCtr := t.freeCtr + 16 } t.measFeeds)))
  ∧ (∀ (p : Packet) (s t : State), Safety.startsAs 0x32 [] p s t → t.flag .SNAP_STAT_BUSY = false →
    exec (.snapTrigger p) s = .next (opEnd (opPacket 0x32 p) ({ st := { t.startSnap with ecx := { t.ecx with snapBy := some (opPacket 0x32 p).id } }, later := true })))
  ∧ (∀ (p : Packet) (s t : State), Safety.startsAs 0x33 [] p s t → p.u8 2 = 0 →
    exec (.countersRead p) s = .next (opEnd (opPacket 0x33 p) (.res t (toLE 8 t.clock ++ (List.range (p.u8 1)).flatMap (fun i =>
          countersRec (fun f => t.readFld f (p.u8 0 + i)))))))
  ∧ (∀ (p : Packet) (s t : State), Safety.startsAs 0x33 [] p s t → p.u8 2 = 1 →
    exec (.countersRead p) s = .next (opEnd (opPacket 0x33 p) (.res t (toLE 8 (t.get .SNAP_DT) ++ (List.range (p.u8 1)).flatMap (fun i =>
          countersRec (fun f => t.snapRead (skeinOfPort (p.u8 0 + i)) f (p.u8 0 + i)))))))
  ∧ (∀ (p : Packet) (s t : State), Safety.startsAs 0x34 [] p s t → p.u8 0 = 1 →
    exec (.energyRead p) s = .next (opEnd (opPacket 0x34 p) (.res { t with freeCtr := t.freeCtr + 24 } (toLE 8 (t.get .SNAP_DT) ++ toLE 8 (t.bankGet .SYS_E 0)
          ++ (List.range 8).flatMap (fun k => toLE 8 (t.snapRead k .SKN_E k))
          ++ (List.range 16).flatMap (fun u => toLE 8 (t.snapRead (skeinOfFeed u) .FEED_E u))))))
  ∧ (∀ (p : Packet) (s t : State), Safety.startsAs 0x34 [] p s t → p.u8 0 = 0 →
    exec (.energyRead p) s = .next (opEnd (opPacket 0x34 p) (.res { t with freeCtr := t.freeCtr + 24 } (toLE 8 t.clock ++ toLE 8 t.deviceEnergy
          ++ (List.range 8).flatMap (fun k => toLE 8 (t.energyOf false k .SKN_E k))
          ++ (List.range 16).flatMap (fun u => toLE 8 (t.energyOf false (skeinOfFeed u) .FEED_E u))))))
  ∧ (∀ (s : State), s.flag .SNAP_STAT_BUSY = true → s.snap.latched = false → s.snap.latchAt ≤ s.clock →
    exec (.snapLatch) s = .next ({ s with snap := { s.snap with latched := true, taken := s.captured, lost := unitMask 8 (fun k => s.linkDead k || s.domFenced (dSKL k)) } }))
  ∧ (∀ (s : State), s.flag .SNAP_STAT_BUSY = true → s.snap.latched = true → (s.ecx.snapBy = none ∨ s.flt.takeover ≠ none) →
    exec (.snapComplete) s = .next (
      let t := (s.set .SNAP_STAT_BUSY 0 0).set .SNAP_STAT_VALID 0 1
      let t := ((t.count .SNAP_STAT_SNAP_CNT 0).set .SNAP_DT 0 s.snap.latchAt).set .SNAP_STAT_SKIP 0 s.snap.lost
      { t with snap := { s.snap with bank := s.snap.taken, taken := [], latched := false } }))
  ∧ (∀ (q : ReqId) (s : State), s.flag .SNAP_STAT_BUSY = true → s.snap.latched = true → s.ecx.snapBy = some q → s.flt.takeover = none →
    exec (.snapComplete) s = .next (
      let t := (s.set .SNAP_STAT_BUSY 0 0).set .SNAP_STAT_VALID 0 1
      let t := ((t.count .SNAP_STAT_SNAP_CNT 0).set .SNAP_DT 0 s.snap.latchAt).set .SNAP_STAT_SKIP 0 s.snap.lost
      let t := { t with snap := { s.snap with bank := s.snap.taken, taken := [], latched := false }, ecx := { s.ecx with snapBy := none } }
      t.answer q q.quiet stOK (toLE 8 (t.get .SNAP_DT))))

/-- Each opcode of the two groups that runs and that its rule accepts answers or acts as given; nothing else changes.
(10_ecrax_opcodes.md R248, 10_ecrax_opcodes.md R249, 13_power_domains.md R311, 13_power_domains.md R312,
13_power_domains.md R321, 14_faults_and_takeover.md R337). It rests on the model's own choices of
notes/assumptions/79.md and notes/assumptions/17.md. -/
def Obligations.DomainAndFaultOpcodes : Prop :=
  (∀ (p : Packet) (s t : State), Safety.startsAs 0x40 [] p s t → t.flag .DOM_STAT_TRANS (p.u8 0) = false → t.domFenced (p.u8 0) = false → p.u8 1 ≠ 0 → t.get .DOM_STAT_STATE (p.u8 0) ≠ p.u8 1 → t.domainAllowed (p.u8 0) (p.u8 1) = true →
    exec (.domainSet p) s = .next (opEnd (opPacket 0x40 p) (.ok ((t.modDom (p.u8 0) (fun x => { x with idleFrom := t.dt })).startTransition (p.u8 0) (p.u8 1) 0 0))))
  ∧ (∀ (p : Packet) (s t : State), Safety.startsAs 0x40 [] p s t → t.flag .DOM_STAT_TRANS (p.u8 0) = false → t.domFenced (p.u8 0) = false → p.u8 1 = 0 → t.requires (p.u8 0) = [] → t.get .DOM_STAT_STATE (p.u8 0) ≠ 0 → t.domainAllowed (p.u8 0) 0 = true →
    exec (.domainSet p) s = .next (opEnd (opPacket 0x40 p) (.ok ((t.modDom (p.u8 0) (fun x => { x with idleFrom := t.dt })).startTransition (p.u8 0) 0 0 0))))
  ∧ (∀ (p : Packet) (s t : State), Safety.startsAs 0x41 [] p s t →
    exec (.domainGet p) s = .next (opEnd (opPacket 0x41 p) (.res t ((List.range 42).map t.domainByte))))
  ∧ (∀ (p : Packet) (s t : State), Safety.startsAs 0x42 [] p s t → (p.u8 1 = 0 ∨ bit (allowedMask (p.u8 0)) (p.u8 1) = true) →
    exec (.idlePolicySet p) s = .next (opEnd (opPacket 0x42 p) (.ok ((t.set .DOM_IDLE_IDLE_STATE (p.u8 0) (p.u8 1)).set .DOM_IDLE_IDLE_MS (p.u8 0) (p.u32 4)))))
  ∧ (∀ (p : Packet) (s t : State), Safety.startsAs 0x43 [] p s t →
    exec (.wakeConfig p) s = .next (opEnd (opPacket 0x43 p) (
        let u := t.set .PWRD_WAKE_EN_SRC_EN 0 (bits (p.u32 0) 1 5)
        .res u (toLE 4 (1 + 2 * t.get .PWRD_WAKE_EN_SRC_EN)))))
  ∧ (∀ (p : Packet) (s t : State), Safety.startsAs 0x44 [] p s t →
    exec (.alarmSet p) s = .next (opEnd (opPacket 0x44 p) (.ok (t.set .PWRD_ALARM (p.u8 0) (p.u64 8)))))
  ∧ (∀ (p : Packet) (s t : State), Safety.startsAs 0x50 [] p s t →
    exec (.faultStatus p) s = .next (opEnd (opPacket 0x50 p) (.res t ((List.range 10).map (fun i => unitMask 8 (fun j => t.gecko (8 * i + j)))
          ++ [t.get .FLT_STAT_CLASS_MAX, b2n t.safeHold] ++ toLE 4 (t.get .FLT_STAT_REACT_CNT)))))
  ∧ (∀ (p : Packet) (s t : State), Safety.startsAs 0x51 [] p s t → t.gecko (p.u8 0) = true → (t.causesOf (p.u8 0)).any (fun g => g.cls == 4) = false → needsTraining t (p.u8 0) = false → (t.causesOf (p.u8 0)).any (fun g => g.src == 0x49 && g.kind != 0xF) = false → (t.causesOf (p.u8 0)).all t.causeEnded = true →
    exec (.faultClear p) s = .next (opEnd (opPacket 0x51 p) (.ok ((t.causesOf (p.u8 0)).foldl State.relieve (t.dropGecko (p.u8 0))))))
  ∧ (∀ (p : Packet) (s t : State), Safety.startsAs 0x52 [dDRAM] p s t →
    exec (.faultLogRead p) s = .next (opEnd (opPacket 0x52 p) (.res t (toLE 4 0 ++ toLE 4 t.ecx.faultLog.length
          ++ ((t.ecx.faultLog.drop (p.u32 0)).take (p.u8 4)).flatMap EvRec.bytes))))
  ∧ (∀ (p : Packet) (s t : State), Safety.startsAs 0x53 [] p s t → p.u8 1 ≠ 0xF →
    exec (.faultInject p) s = .next (opEnd (opPacket 0x53 p) (
        let coded := t.flt.aside.contains (p.u8 0) || t.classNow (p.u8 0) (p.u8 1) 0x800 ≤ 1
        let u := if p.u8 0 = 0x0B ∧ t.flag .PWRD_AVS_FALLBACK = false then t.avsFallback else t
        .ok (u.raiseFault (p.u8 0) (p.u8 1) (if p.u8 0 = 0x48 then 0x800 else 0) coded))))
  ∧ (∀ (p : Packet) (s t : State), Safety.startsAs 0x53 [] p s t → p.u8 1 = 0xF → t.flag .FLT_PAIR (p.u8 0) = false →
    exec (.faultInject p) s = .next (opEnd (opPacket 0x53 p) (.ok (((pairSources (p.u8 0)).foldl (fun s x => s.set .FLT_PAIR x 1) t).raiseFault (p.u8 0) 0xF 0 false))))

/-- Each opcode of the hierarchy group that runs and that its rule accepts answers or acts as given; nothing else changes.
(10_ecrax_opcodes.md R250, 12_hierarchy.md R277, 12_hierarchy.md R278, 12_hierarchy.md R279, 12_hierarchy.md R297,
11_can_controllers.md R262). It rests on the model's own choices of notes/assumptions/53.md, notes/assumptions/56.md,
notes/assumptions/57.md and notes/assumptions/180.md. -/
def Obligations.HierarchyGroupOpcodes : Prop :=
  (∀ (p : Packet) (s t : State), Safety.startsAs 0x60 [] p s t → (p.u8 0 = 0 ∨ t.flag .SYS_STRAP_MGR_ELIG = true) →
    exec (.hierRoleSet p) s = .next (opEnd (opPacket 0x60 p) (.ok (t.setRole (p.u8 0) (p.u8 1)))))
  ∧ (∀ (p : Packet) (s t : State), Safety.startsAs 0x61 [] p s t →
    exec (.hierStatus p) s = .next (opEnd (opPacket 0x61 p) (.res t ([t.hier.st.getD 2, t.get .AON_HIER_RANK, if t.hier.st.isSome then t.hier.mgr else 255,
          b2n (t.hier.st.getD 2 == 2) + 2 * b2n (t.hierCans.contains 0) + 4 * b2n (t.hierCans.contains 1)]
          ++ toLE 8 t.memberMask ++ toLE 8 t.hier.hbSent ++ toLE 4 t.hier.elections))))
  ∧ (∀ (p : Packet) (s t : State), Safety.startsAs 0x62 [] p s t → t.hier.st = some 1 → p.u32 2 ≠ 0 → (poolMembersOf p).all (fun m => t.hier.poolOf.all (fun x => x.1 != m.1 || x.2.1 != m.2 || x.2.2 == p.u8 0)) = true →
    exec (.poolDefine p) s = .next (opEnd (opPacket 0x62 p) (
        let gen := (t.hier.poolGen + 1) % 2 ^ 32
        let of := t.hier.poolOf.filter (fun x => x.2.2 != p.u8 0) ++ (poolMembersOf p).map (fun m => (m.1, m.2, p.u8 0))
        let u := { t with hier := { t.hier with caps := t.hier.caps.set (p.u8 0) (p.u32 2), poolOf := of, poolGen := gen } }
        .ok (u.sendPools.hierEvent t.idx 15 [(3, 1, p.u8 0), (4, 4, gen)]))))
  ∧ (∀ (p : Packet) (s t : State), Safety.startsAs 0x62 [] p s t → t.hier.st = some 1 → p.u32 2 = 0 → (poolMembersOf p).all (fun m => t.hier.poolOf.all (fun x => x.1 != m.1 || x.2.1 != m.2 || x.2.2 == p.u8 0)) = true →
    exec (.poolDefine p) s = .next (opEnd (opPacket 0x62 p) (
        let gen := (t.hier.poolGen + 1) % 2 ^ 32
        let of := t.hier.poolOf.filter (fun x => x.2.2 != p.u8 0)
        let u := { t with hier := { t.hier with caps := t.hier.caps.set (p.u8 0) 0, poolOf := of, poolGen := gen } }
        .ok (u.sendPools.hierEvent t.idx 15 [(3, 1, p.u8 0), (4, 4, gen)]))))
  ∧ (∀ (p : Packet) (s t : State), Safety.startsAs 0x63 [] p s t → t.hier.st = some 1 →
    exec (.poolStatus p) s = .next (opEnd (opPacket 0x63 p) (
        let loan (i k : Nat) : Nat :=
          if i = t.idx then t.get .SKN_LOAN_LOAN_MA k
          else ((t.hier.members.find? (fun m => m.idx == i)).map (fun m => m.loan.getD k 0)).getD 0
        .res t (toLE 4 (t.hier.caps.getD (p.u8 0) 0) ++ toLE 4 (t.poolLent (p.u8 0))
          ++ (t.hier.poolOf.filter (fun x => x.2.2 == p.u8 0)).flatMap (fun x => [x.1, x.2.1] ++ toLE 2 (loan x.1 x.2.1))))))
  ∧ (∀ (p : Packet) (s t : State), Safety.startsAs 0x64 [] p s t →
    exec (.timeGet p) s = .next (opEnd (opPacket 0x64 p) (.res t (toLE 8 t.clock ++ [t.get .TIME_STAT_SYNC + 2 * t.get .TIME_STAT_SLOW_ONLY
          + 4 * t.get .TIME_STAT_XTAL32, 0, 0, 0] ++ toLE 4 (t.get .TIME_CORR_CORR_NS)))))
  ∧ (∀ (p : Packet) (s t : State), Safety.startsAs 0x65 [] p s t → (t.hier.st = some 1 ∨ t.hier.st = some 2 ∨ (t.hier.st ≠ some 0 ∧ t.hierCans = [])) → t.clock ≤ p.u64 0 →
    exec (.timeSet p) s = .next (opEnd (opPacket 0x65 p) (.ok (t.stepTime (p.u64 0 - t.clock)))))
  ∧ (∀ (p : Packet) (s t : State), Safety.startsAs 0x66 [] p s t →
    exec (.canAssign p) s = .next (opEnd (opPacket 0x66 p) (.ok (t.canUse (p.u8 0) (p.u8 1)))))

/-- Each opcode of the Shuttle and Loom group that runs and that its rule accepts answers or acts as given; nothing else
changes. (10_ecrax_opcodes.md R251, 07_shuttle_engines.md R157, 07_shuttle_engines.md R164, 07_shuttle_engines.md
R170, 07_shuttle_engines.md R171, 07_shuttle_engines.md R174, 08_loom_function.md R188, 08_loom_function.md R189). It
rests on the model's own choices of notes/assumptions/97.md. -/
def Obligations.ShuttleAndLoomGroupOpcodes : Prop :=
  (∀ (p : Packet) (s t : State) (d : Dev), Safety.startsAs 0x70 [dDRAM] p s t → t.openDev (p.u32 0) = some d →
    exec (.shuttleDevInfo p) s = .next (opEnd (opPacket 0x70 p) (.res t (t.devInfo d))))
  ∧ (∀ (p : Packet) (s t : State) (c : Ctx), Safety.startsAs 0x71 [dDRAM] p s t → t.openCtx (p.u32 0) = some c →
    exec (.shuttleShareSet p) s = .next (opEnd (opPacket 0x71 p) (.res (t.setShare c (4096 * p.u16 4)) (toLE 2 (c.share / 4096)))))
  ∧ (∀ (p : Packet) (s t : State), Safety.startsAs 0x72 [dSH (p.u8 0), dSH 12] p s t → s.get .SHT_STAT_STATE (p.u8 0) = 6 → t.gecko (0x10 + p.u8 0) = false → t.get .SHT_STAT_STATE (p.u8 0) = 6 →
    exec (.shuttleReturn p) s = .next (opEnd (opPacket 0x72 p) (.ok (t.startMove (p.u8 0) (p.u8 0) (if t.servingGroup (p.u8 0) = some 12 then 12 else 15) true))))
  ∧ (∀ (p : Packet) (s t : State) (d : Dev) (e : Dev), Safety.startsAs 0x73 (dDRAM :: s.servingNeed d.port) p s t → s.openDev (p.u32 0) = some d → t.openDev (p.u32 0) = some e → (t.serving e.port).isSome = true →
    exec (.shuttleResetDevice p) s = .next (opEnd (opPacket 0x73 p) (.ok (t.startDevReset e))))
  ∧ (∀ (p : Packet) (s t : State) (j : Nat), Safety.startsAs 0x74 (s.servingNeed (p.u8 0)) p s t → t.serving (p.u8 0) = some j →
    exec (.shuttleIdleSet p) s = .next (opEnd (opPacket 0x74 p) (.ok (t.set .SHT_IDLE (8 * j + p.u8 0 % 8) (p.u16 2)))))
  ∧ (∀ (p : Packet) (s t : State) (c : Ctx), Safety.startsAs 0x75 [dDRAM] p s t → t.openCtx (p.u32 0) = some c → 7 < c.num → c.num ≠ 9 → (c.isIso = true ↔ p.u8 4 = 8) → (p.u8 4 = c.lane ∨ c.recsFull = false) →
    exec (.handleMap p) s = .next (opEnd (opPacket 0x75 p) (.res (t.moveLane c (p.u8 4)) [c.lane])))
  ∧ (∀ (p : Packet) (s t : State), Safety.startsAs 0x76 [] p s t →
    exec (.shuttleStatus p) s = .next (opEnd (opPacket 0x76 p) (.res t ((List.range 13).flatMap (fun j => t.readBytes .SHUTTLE j 0x00 4) ++ t.readBytes .SHF 0 0x00 4
          ++ t.readBytes .SHF 0 0x1C 4))))

/-- Each opcode of the security group that runs and that its rule accepts answers or acts as given; nothing else changes.
Whether an authorisation verifies is decided by the signature function, which the model leaves opaque: the two
outcomes are both given. The challenge value is a free value. (10_ecrax_opcodes.md R252, 15_security_and_debug.md
R356, 15_security_and_debug.md R357, 15_security_and_debug.md R358, 15_security_and_debug.md R363). It rests on the
model's own choices of notes/assumptions/4.md, notes/assumptions/160.md and notes/assumptions/162.md. -/
def Obligations.SecurityGroupOpcodes : Prop :=
  (∀ (p : Packet) (s t : State), Safety.startsAs 0x80 [] p s t →
    exec (.identityReport p) s = .next (opEnd (opPacket 0x80 p) (.res t ([t.lifecycle, t.sec.otp.keyState] ++ List.replicate 6 0 ++ toLE 8 t.sec.otp.serial
          ++ (if t.sec.otp.keyState = 1 then Config.publicKey t.sec.otp.scalar else List.replicate 97 0)))))
  ∧ (∀ (p : Packet) (s t : State), Safety.startsAs 0x81 [dSEC] p s t → t.lifecycle ≠ lcFACTORY → t.lifecycle ≠ lcRETURN → t.sec.otp.keyState = 1 → t.sec.secretUpset = false →
    exec (.attest p) s = .next (opEnd (opPacket 0x81 p) (
        let b := p.params ++ toLE 8 t.sec.otp.serial ++ [t.lifecycle, t.debugLevel, t.sec.otp.arb, 0]
          ++ toLE 4 (t.versionOf 0) ++ toLE 4 (t.versionOf 1) ++ toLE 8 t.clock ++ toLE 48 t.sec.imgDigest
          ++ toLE 48 t.sec.profDigest
        .res t.useFree (b ++ Config.ecdsaSign (t.sec.otp.seed % (Config.p384Order - 1) + 1) (Config.random t.freeCtr) (Config.sha384 b)))))
  ∧ (∀ (p : Packet) (s t : State) (c : Chal), Safety.startsAs 0x82 [dSEC] p s t → ((p.u8 0 = t.lifecycle + 1 ∧ p.u8 0 ≤ 3) ∨ p.u8 0 = lcRETIRED) → t.challenge = some c → t.sec.secretUpset = false →
    exec (.lifecycleAdvance p) s = .next (opEnd (opPacket 0x82 p) (if c.purpose == 1 && c.arg == p.u8 0
            && t.authOk (p.params.drop 4) c (if p.u8 0 == lcRETIRED then .retire else .advance) then
          let u := (t.dropChallenge.endSession 5).superviseAgain.set .SEC_DBG_HB_MASK 0 0
          let u := { u with sec := { u.sec with halted := 0, scan := false } }
          .ok ((((u.blowTransition (if p.u8 0 == lcRETIRED then 3 else p.u8 0 - 1)
            (p.u8 0)).lifecycleEffects (p.u8 0)).setBit .SEC_EVT 0 0).lifecycleOverride)
        else .fail (t.dropChallenge.setBit .SEC_EVT 0 4) stVERIFY_FAILED)))
  ∧ (∀ (p : Packet) (s t : State), Safety.startsAs 0x83 [dSEC] p s t →
    exec (.challenge p) s = .next (opEnd (opPacket 0x83 p) (
        let v := Config.random t.freeCtr % 2 ^ 256
        let u := { t.useFree with sec := { t.sec with chal := some ⟨v, p.u8 0, p.u8 1, t.dt⟩, secretUpset := false } }
        let u := ((u.set .SEC_CHAL_CURRENT 0 1).set .SEC_CHAL_PURPOSE 0 (p.u8 0)).set .SEC_CHAL_ARG 0 (p.u8 1)
        .res u (toLE 32 v ++ toLE 8 t.sec.otp.serial))))
  ∧ (∀ (p : Packet) (s t : State) (c : Chal), Safety.startsAs 0x84 [dSEC] p s t → t.challenge = some c → c.purpose = 0 → t.pins.dbgEn = true → (t.lifecycle ≠ lcFIELD ∨ c.arg ≠ 2) → t.sec.secretUpset = false →
    exec (.debugUnlock p) s = .next (opEnd (opPacket 0x84 p) (if t.authOk p.params c (if c.arg == 1 then .observe else .invasive) then
          let v := t.dropChallenge
          let u := ((((v.set .SEC_DBG_SESSION 0 1).set .SEC_DBG_LEVEL 0 c.arg).count
            .SEC_DBG_SESSION_CNT 0).setBit .SEC_EVT 0 1).set .SEC_DBG_TARGET_VALID 0 0 |>.set .SEC_DBG_TARGET 0 0
          .res (if v.flag .SEC_DBG_SESSION && v.lifecycle == lcFIELD && v.get .SEC_DBG_LEVEL == 2 then u.debugOverride false
            else u) [c.arg]
        else .fail (t.dropChallenge.setBit .SEC_EVT 0 4) stVERIFY_FAILED)))
  ∧ (∀ (p : Packet) (s t : State) (c : Chal), Safety.startsAs 0x84 [dSEC] p s t → t.challenge = some c → c.purpose = 0 → t.pins.dbgEn = true → t.lifecycle = lcFIELD → c.arg = 2 → t.sec.secretUpset = false →
    exec (.debugUnlock p) s = .next (opEnd (opPacket 0x84 p) (if t.authOk p.params c .invasive then
          let u := (((((t.dropChallenge.set .SEC_DBG_SESSION 0 1).set .SEC_DBG_LEVEL 0 2).count
            .SEC_DBG_SESSION_CNT 0).setBit .SEC_EVT 0 1).set .SEC_DBG_TARGET_VALID 0 0 |>.set .SEC_DBG_TARGET 0 0).debugOverride true
          if u.modesSettled = true then .res u [2]
          else { st := { u with sec := { u.sec with unlockBy := some (opPacket 0x84 p).id } }, results := [2], later := true }
        else .fail (t.dropChallenge.setBit .SEC_EVT 0 4) stVERIFY_FAILED)))
  ∧ (∀ (p : Packet) (s t : State), Safety.startsAs 0x85 [] p s t →
    exec (.debugEnd p) s = .next (opEnd (opPacket 0x85 p) (.ok (t.endSession 1))))
  ∧ (∀ (p : Packet) (s t : State) (c : Chal), Safety.startsAs 0x86 [dSEC] p s t → t.sec.otp.programmed (p.u8 0) = true → ((t.lifecycle ≠ lcPROVISIONED ∧ t.lifecycle ≠ lcFIELD) ∨ (List.range 3).filter (fun j => t.sec.otp.owner j && j != p.u8 0) ≠ []) → t.challenge = some c → t.sec.secretUpset = false →
    exec (.keyRevoke p) s = .next (opEnd (opPacket 0x86 p) (if c.purpose == 2 && c.arg == p.u8 0 && t.authOk (p.params.drop 4) c .revoke then
          let o := t.sec.otp
          let u := { t.dropChallenge with sec := { t.dropChallenge.sec with
            otp := { o with revoked := bitOr o.revoked (2 ^ p.u8 0) } } }
          .ok (u.setBit .SEC_EVT 0 3)
        else .fail (t.dropChallenge.setBit .SEC_EVT 0 4) stVERIFY_FAILED)))

/-- Each opcode of the firmware group that runs and that its rule accepts answers or acts as given; nothing else changes.
What an image check answers is computed by imageCheck, whose signature step is opaque: both outcomes are given.
(10_ecrax_opcodes.md R253, 15_security_and_debug.md R359, 15_security_and_debug.md R360, 14_faults_and_takeover.md
R345, 16_start_up.md R373). It rests on the model's own choices of notes/assumptions/191.md. -/
def Obligations.FirmwareGroupOpcodes : Prop :=
  (∀ (p : Packet) (s t : State), Safety.startsAs 0x90 [] p s t → t.noFlash = false → p.u32 0 = 0 → (p.params.drop 8).length ≤ 4194304 →
    exec (.fwWrite p) s = .next (opEnd (opPacket 0x90 p) (
        let u := t.setSlot t.otherSlot { bytes := p.params.drop 8, state := 1 }
        .ok { u with boot := { u.boot with verified := false } })))
  ∧ (∀ (p : Packet) (s t : State), Safety.startsAs 0x90 [] p s t → t.noFlash = false → p.u32 0 ≠ 0 → p.u32 0 = (t.slot t.otherSlot).bytes.length → p.u32 0 + (p.params.drop 8).length ≤ 4194304 →
    exec (.fwWrite p) s = .next (opEnd (opPacket 0x90 p) (
        let u := t.setSlot t.otherSlot { bytes := (t.slot t.otherSlot).bytes ++ p.params.drop 8, state := 1 }
        .ok { u with boot := { u.boot with verified := false } })))
  ∧ (∀ (p : Packet) (s t : State), Safety.startsAs 0x91 [dSEC] p s t →
    exec (.fwVerify p) s = .next (opEnd (opPacket 0x91 p) (
        let bs := (t.slot t.otherSlot).bytes
        if imageCheck t bs = 0 then
          let u := t.setSlot t.otherSlot { bytes := bs, state := 2 }
          .res { u with boot := { u.boot with verified := true } }
            (toLE 4 (imageVersion bs) ++ [imageSecVersion bs, 0, 0, 0] ++ toLE 4 (leAt bs 12 4))
        else .fail ((t.set .SEC_BOOT_FAIL 0 (imageCheck t bs)).setBit .SEC_EVT 0 4)
          (if imageCheck t bs = 5 then stROLLBACK else stVERIFY_FAILED))))
  ∧ (∀ (p : Packet) (s t : State), Safety.startsAs 0x92 [] p s t → t.boot.verified = true → t.boot.phase = 0 → p.u8 0 = 1 →
    exec (.fwActivate p) s = .next (opEnd (opPacket 0x92 p) (.ok (t.markActive t.otherSlot))))
  ∧ (∀ (p : Packet) (s t : State), Safety.startsAs 0x92 [] p s t → t.boot.verified = true → t.boot.phase = 0 → p.u8 0 = 0 → t.standbyReady = true → (t.slot t.otherSlot).bytes.getD 9 0 = t.boot.working.getD 9 0 → t.domOn (dCTL (1 - t.lead)) = true →
    exec (.fwActivate p) s = .next (opEnd (opPacket 0x92 p) (
        let u := t.set .FLT_TOKEN_STANDBY_HOT 0 0
        .ok { u with boot := { t.boot with phase := 1, phaseFrom := t.dt, updated := false } })))
  ∧ (∀ (p : Packet) (s t : State), Safety.startsAs 0x93 [dSEC] p s t → t.versionOf 0 = imageVersion t.boot.working → t.versionOf 1 = imageVersion t.boot.working → t.boot.booted = [true, true] → t.boot.phase = 0 →
    exec (.fwCommit p) s = .next (opEnd (opPacket 0x93 p) (
        let n := max t.sec.otp.arb (min 128 (imageSecVersion t.boot.working))
        let u := if t.sec.otp.arb < n then t.setBit .SEC_EVT 0 5 else t
        .res { u with sec := { u.sec with otp := { u.sec.otp with arb := n } } } [n])))
  ∧ (∀ (p : Packet) (s t : State), Safety.startsAs 0x94 [] p s t →
    exec (.fwStatus p) s = .next (opEnd (opPacket 0x94 p) (.res t (toLE 4 (t.versionOf 0) ++ toLE 4 (t.versionOf 1)
          ++ [t.get .SEC_BOOT_SLOT, t.slotState 0 + 4 * t.slotState 1, t.boot.phase, t.sec.otp.arb]
          ++ toLE 4 (t.slotVersion 0) ++ toLE 4 (t.slotVersion 1) ++ List.replicate 4 0))))

/-- A register access group command whose words all succeed answers the words read, or leaves the state its writes leave;
one that fails at a word answers the count of the words before it; FW_BROADCAST on the manager with a verified image
begins the transfer. (10_ecrax_opcodes.md R254, 10_ecrax_opcodes.md R253, 17_registers.md R390, 12_hierarchy.md R303,
12_hierarchy.md R304) -/
def Obligations.RegisterAndBroadcastOpcodes : Prop :=
  (∀ (p : Packet) (s t : State) (u : State) (ws : List Nat), Safety.startsAs 0xA0 [] p s t → (if p.u8 0 = 1 then t.setIndAddr .ecrax (p.u32 4) else t).cmdReads (p.u8 0 == 1) (p.u32 4) (p.u16 2) = (u, ws, stOK) →
    exec (.regRead p) s = .next (opEnd (opPacket 0xA0 p) (.res u (ws.flatMap (toLE 4)))))
  ∧ (∀ (p : Packet) (s t : State) (u : State), Safety.startsAs 0xA1 [] p s t → (if p.u8 0 = 1 then t.setIndAddr .ecrax (p.u32 4) else t).ibiCheck.cmdWrites (p.u8 0 == 1) (p.u32 4) (opMode (p.u8 1)) ((List.range (p.u16 2)).map (fun i => p.u32 (8 + 4 * i))) = (u, p.u16 2, stOK) →
    exec (.regWrite p) s = .next (opEnd (opPacket 0xA1 p) (.ok u.ibiCheck)))
  ∧ (∀ (p : Packet) (s t : State) (u : State) (ws : List Nat) (e : Nat), Safety.startsAs 0xA0 [] p s t → (if p.u8 0 = 1 then t.setIndAddr .ecrax (p.u32 4) else t).cmdReads (p.u8 0 == 1) (p.u32 4) (p.u16 2) = (u, ws, e) → e ≠ stOK →
    exec (.regRead p) s = .next (opEnd (opPacket 0xA0 p) ({ st := u, status := e, results := toLE 2 ws.length })))
  ∧ (∀ (p : Packet) (s t : State) (u : State) (n : Nat) (e : Nat), Safety.startsAs 0xA1 [] p s t → (if p.u8 0 = 1 then t.setIndAddr .ecrax (p.u32 4) else t).ibiCheck.cmdWrites (p.u8 0 == 1) (p.u32 4) (opMode (p.u8 1)) ((List.range (p.u16 2)).map (fun i => p.u32 (8 + 4 * i))) = (u, n, e) → e ≠ stOK →
    exec (.regWrite p) s = .next (opEnd (opPacket 0xA1 p) ({ st := u.ibiCheck, status := e, results := toLE 2 n })))
  ∧ (∀ (p : Packet) (s t : State), Safety.startsAs 0x95 (((List.range 2).filter (fun c => s.get .CAN_CTL_USE c == 0)).map dCAN ++ [dDRAM]) p s t → t.hier.st = some 1 → t.boot.verified = true →
    exec (.fwBroadcast p) s = .next (opEnd (opPacket 0x95 p) (
        let img := t.fwImage
        let n := chunkCount img.length
        let u := t.modFw (fun _ => { sending := true, waiting := List.range n })
        .ok (u.fwCtrl 1 0 n img.length (crc32 img) (imageVersion img) (if p.u64 0 = 0 then 2 ^ 64 - 1 else p.u64 0)))))

/-- With MIF ON and PORST_N high, a write of an aligned address and whole words sets the pointer and writes the words from
it on; a read sends the bytes from the pointer on; each CCC sets or sends what R382 gives; the CCCs that assign an
address act only where the target has none, or has one, as R382 says. The status word is a free value.
(17_registers.md R382, 17_registers.md R383, 17_registers.md R384, 17_registers.md R385, 17_registers.md R397). It
rests on the model's own choices of notes/assumptions/43.md, notes/assumptions/76.md, notes/assumptions/77.md and
notes/assumptions/166.md. -/
def Obligations.ManagementTransfers : Prop :=
  (∀ (i3c : Bool) (bytes : List Nat) (s : State), s.pins.porstLow = false → s.domOn dMIF = true → 3 ≤ bytes.length → leAt (bytes.map (· % 256)) 0 3 % 4 = 0 → bytes.length % 4 = 3 →
    exec (.mgmtWrite i3c bytes) s = .next (
      let t := s.touch dMIF
      let t := { t with mgmt := { t.mgmt with pointer := leAt (bytes.map (· % 256)) 0 3, past := false, busy := false } }
      t.writeWords i3c (wordsOf (bytes.drop 3))))
  ∧ (∀ (i3c : Bool) (n : Nat) (s : State), s.pins.porstLow = false → s.domOn dMIF = true →
    exec (.mgmtRead i3c n) s = .next (
      let r := (s.touch dMIF).readBytesFrom i3c n
      { r.1 with mgmt := { r.1.mgmt with out := r.2, busy := false } }))
  ∧ (∀ (e : Nat) (s : State), s.pins.porstLow = false → s.domOn dMIF = true → s.domFenced dMIF = false → e % 2 = 1 →
    exec (.enec e) s = .next (
      let t := s.touch dMIF
      { t with mgmt := { t.mgmt with ibiEn := true, busy := false } }))
  ∧ (∀ (e : Nat) (s : State), s.pins.porstLow = false → s.domOn dMIF = true → s.domFenced dMIF = false → e % 2 = 1 →
    exec (.disec e) s = .next (
      let t := s.touch dMIF
      { t with mgmt := { t.mgmt with ibiEn := false, busy := false } }))
  ∧ (∀ (s : State), s.pins.porstLow = false → s.domOn dMIF = true → s.domFenced dMIF = false →
    exec (.rstdaa ) s = .next (
      let t := s.touch dMIF
      { t with mgmt := { t.mgmt with dynAddr := none, busy := false } }))
  ∧ (∀ (s : State), s.pins.porstLow = false → s.domOn dMIF = true → s.domFenced dMIF = false →
    exec (.getmwl ) s = .next (
      let t := s.touch dMIF
      { t with mgmt := { t.mgmt with out := toBE 2 s.mgmt.mwl, busy := false } }))
  ∧ (∀ (s : State), s.pins.porstLow = false → s.domOn dMIF = true → s.domFenced dMIF = false →
    exec (.getmrl ) s = .next (
      let t := s.touch dMIF
      { t with mgmt := { t.mgmt with out := toBE 2 s.mgmt.mrl ++ [1], busy := false } }))
  ∧ (∀ (s : State), s.pins.porstLow = false → s.domOn dMIF = true → s.domFenced dMIF = false →
    exec (.getpid ) s = .next (
      let t := s.touch dMIF
      { t with mgmt := { t.mgmt with out := toBE 6 s.pid, busy := false } }))
  ∧ (∀ (s : State), s.pins.porstLow = false → s.domOn dMIF = true → s.domFenced dMIF = false →
    exec (.getbcr ) s = .next (
      let t := s.touch dMIF
      { t with mgmt := { t.mgmt with out := [0x0E], busy := false } }))
  ∧ (∀ (s : State), s.pins.porstLow = false → s.domOn dMIF = true → s.domFenced dMIF = false →
    exec (.getdcr ) s = .next (
      let t := s.touch dMIF
      { t with mgmt := { t.mgmt with out := [0x00], busy := false } }))
  ∧ (∀ (n : Nat) (s : State), s.pins.porstLow = false → s.domOn dMIF = true → s.domFenced dMIF = false → 8 ≤ n → n ≤ 4100 →
    exec (.setmwl n) s = .next (
      let t := s.touch dMIF
      { t with mgmt := { t.mgmt with mwl := n, busy := false } }))
  ∧ (∀ (n : Nat) (s : State), s.pins.porstLow = false → s.domOn dMIF = true → s.domFenced dMIF = false → 8 ≤ n → n ≤ 4100 →
    exec (.setmrl n) s = .next (
      let t := s.touch dMIF
      { t with mgmt := { t.mgmt with mrl := n, busy := false } }))
  ∧ (∀ (a : Nat) (s : State), s.pins.porstLow = false → s.domOn dMIF = true → s.domFenced dMIF = false → s.mgmt.dynAddr = none →
    exec (.entdaa a) s = .next (
      let t := s.touch dMIF
      { t with mgmt := { t.mgmt with dynAddr := some (a % 128), busy := false } }))
  ∧ (∀ (b a : Nat) (s : State), s.pins.porstLow = false → s.domOn dMIF = true → s.domFenced dMIF = false → s.mgmt.dynAddr = none → b = s.staticAddr →
    exec (.setdasa b a) s = .next (
      let t := s.touch dMIF
      { t with mgmt := { t.mgmt with dynAddr := some (a % 128), busy := false } }))
  ∧ (∀ (a : Nat) (s : State), s.pins.porstLow = false → s.domOn dMIF = true → s.domFenced dMIF = false → s.mgmt.dynAddr ≠ none →
    exec (.setnewda a) s = .next (
      let t := s.touch dMIF
      { t with mgmt := { t.mgmt with dynAddr := some (a % 128), busy := false } }))
  ∧ (∀ (s : State), s.pins.porstLow = false → s.domOn dMIF = true → s.domFenced dMIF = false →
    exec (.getstatus) s = .next (
      let t := s.touch dMIF
      { t with mgmt := { t.mgmt with out := toBE 2 s.freeVal, busy := false }, freeCtr := t.freeCtr + 1 }))
  ∧ (∀ (s : State), s.mgmt.ibi ≠ none → s.domOn dMIF = true →
    exec (.ibiRetry true) s = .next ({ s with mgmt := { s.mgmt with ibi := none } }))

/-- Where the path may make the access, a write the register accepts leaves the state that write leaves, at the register
itself or at its set, clear and toggle aliases; a read leaves the word read in lastRead with its side effects; the
window commands act on the path's own window; a trigger of a snapshot and the writes of FEED_CFG and PWR_CFG act as
the register's write. (17_registers.md R386, 17_registers.md R387, 17_registers.md R390, 17_registers.md R391,
17_registers.md R394, 17_registers.md R395, 00_scope.md R7, 03_feeds.md R73, 04_port_power.md R104). It rests on the
model's own choices of notes/assumptions/164.md and notes/assumptions/166.md. -/
def Obligations.RegisterAccessCommands : Prop :=
  (∀ (path : Path) (addr value : Nat) (s u t : State), s.permit path false (addr) (some value) = (u, true) → u.ibiCheck.directWrite path s.inI3c (addr) .write value = (t, rOK) →
    exec (.registerWrite path addr value) s = .next (t.ibiCheck))
  ∧ (∀ (path : Path) (addr value : Nat) (s u t : State), s.permit path false (addr / 65536 * 65536 + addr % 0x4000 + 0x4000) (some value) = (u, true) → u.ibiCheck.directWrite path s.inI3c (addr / 65536 * 65536 + addr % 0x4000 + 0x4000) .write value = (t, rOK) →
    exec (.aliasSet path addr value) s = .next (t.ibiCheck))
  ∧ (∀ (path : Path) (addr value : Nat) (s u t : State), s.permit path false (addr / 65536 * 65536 + addr % 0x4000 + 0x8000) (some value) = (u, true) → u.ibiCheck.directWrite path s.inI3c (addr / 65536 * 65536 + addr % 0x4000 + 0x8000) .write value = (t, rOK) →
    exec (.aliasClear path addr value) s = .next (t.ibiCheck))
  ∧ (∀ (path : Path) (addr value : Nat) (s u t : State), s.permit path false (addr / 65536 * 65536 + addr % 0x4000 + 0xC000) (some value) = (u, true) → u.ibiCheck.directWrite path s.inI3c (addr / 65536 * 65536 + addr % 0x4000 + 0xC000) .write value = (t, rOK) →
    exec (.aliasToggle path addr value) s = .next (t.ibiCheck))
  ∧ (∀ (path : Path) (addr v : Nat) (s u t : State), s.permit path false (addr) (none) = (u, true) → u.directRead path s.inI3c addr = (t, v, rOK) →
    exec (.rcRead path addr) s = .next ({ t with lastRead := v }))
  ∧ (∀ (path : Path) (addr v : Nat) (s u t : State), s.permit path false (addr) (none) = (u, true) → u.directRead path s.inI3c addr = (t, v, rOK) →
    exec (.lowWordRead path addr) s = .next ({ t with lastRead := v }))
  ∧ (∀ (path : Path) (s u : State), s.permit path false (0x060000) (some 1) = (u, true) → u.ibiCheck.flag .SNAP_STAT_BUSY = false →
    exec (.snapCtlTrigger path) s = .next (u.ibiCheck.startSnap.ibiCheck))
  ∧ (∀ (path : Path) (n v : Nat) (s u t : State), n < 16 → s.permit path true (3 * 2 ^ 28 + n * 2 ^ 20) (some v) = (u, true) → u.ibiCheck.indWrite path (3 * 2 ^ 28 + n * 2 ^ 20) .write v = (t, rOK) →
    exec (.feedCfgWrite path n v) s = .next (t.ibiCheck))
  ∧ (∀ (path : Path) (n v : Nat) (s u t : State), n < 96 → s.permit path true (2 ^ 28 + n * 2 ^ 20) (some v) = (u, true) → u.ibiCheck.indWrite path (2 ^ 28 + n * 2 ^ 20) .write v = (t, rOK) →
    exec (.pwrCfgWrite path n v) s = .next (t.ibiCheck))
  ∧ (∀ (path : Path) (v : Nat) (s u w : State), s.permit path false (0x050000 + 0) (some v) = (u, true) → u.ibiCheck = w → w.domOn dMIF = true → w.domFenced dMIF = false → w.winOp path = none →
    exec (.indAddrWrite path v) s = .next (
      let t := ((w.set .IND_ADDR_OFFSET path.ix (indOff v)).set .IND_ADDR_UNIT path.ix (indUnit v)).set
        .IND_ADDR_SPACE path.ix (indSpace v)
      (if t.flag .IND_CTL_RD_AHEAD path.ix then t.indFetch path else t).ibiCheck))
  ∧ (∀ (path : Path) (s u : State), s.permit path false (0x050004) (none) = (u, true) → u.domOn dMIF = true → u.domFenced dMIF = false → u.winOp path = none → u.flag .IND_CTL_AUTOINC path.ix = false →
    exec (.indDataRead path) s = .next ({ u with lastRead := u.get .IND_DATA path.ix }))
  ∧ (∀ (path : Path) (s u : State), s.permit path false (0x050004) (none) = (u, true) → u.domOn dMIF = true → u.domFenced dMIF = false → u.winOp path = none → u.flag .IND_CTL_AUTOINC path.ix = true →
    exec (.indDataRead path) s = .next (
      let t := u.indAdvance path
      { (if t.flag .IND_CTL_RD_AHEAD path.ix then t.indFetch path else t) with lastRead := u.get .IND_DATA path.ix }))
  ∧ (∀ (path : Path) (v : Nat) (s u w : State), s.permit path false (0x050000 + 0x04) (some v) = (u, true) → u.ibiCheck = w → w.domOn dMIF = true → w.domFenced dMIF = false → w.winOp path = none →
    exec (.indDataWrite path v) s = .next ((w.indTarget path .write v).ibiCheck))
  ∧ (∀ (path : Path) (v : Nat) (s u w : State), s.permit path false (0x050000 + 0x08) (some v) = (u, true) → u.ibiCheck = w → w.domOn dMIF = true → w.domFenced dMIF = false → w.winOp path = none →
    exec (.indSet path v) s = .next ((w.indTarget path .setBits v).ibiCheck))
  ∧ (∀ (path : Path) (v : Nat) (s u w : State), s.permit path false (0x050000 + 0x0C) (some v) = (u, true) → u.ibiCheck = w → w.domOn dMIF = true → w.domFenced dMIF = false → w.winOp path = none →
    exec (.indClr path v) s = .next ((w.indTarget path .clearBits v).ibiCheck))
  ∧ (∀ (path : Path) (v : Nat) (s u w : State), s.permit path false (0x050000 + 0x10) (some v) = (u, true) → u.ibiCheck = w → w.domOn dMIF = true → w.domFenced dMIF = false → w.winOp path = none →
    exec (.indTgl path v) s = .next ((w.indTarget path .toggle v).ibiCheck))
  ∧ (∀ (path : Path) (v : Nat) (s u w : State), v = 4 + s.get .IND_CTL_AUTOINC path.ix + 2 * s.get .IND_CTL_RD_AHEAD path.ix → s.permit path false (0x050000 + 0x14) (some v) = (u, true) → u.ibiCheck = w → w.domOn dMIF = true → w.domFenced dMIF = false → w.winOp path = none → applyWord w .write .IND path.ix 0x14 v = w →
    exec (.indFetch path) s = .next ((w.indFetch path).ibiCheck))
  ∧ (∀ (path : Path) (w : WinOp) (s : State), s.ibiCheck.winOp path = some w →
    exec (.fetchComplete path) s = .next ((s.ibiCheck.winFinish w).ibiCheck))

/-- An error pair, a coded message, a broken pair, a link timeout, a reference failure or a failed self-test raises the
fault its rule gives on its source; an error on the combined pair of a skein waits for the message that names its
source; a good coded message of an error already known notes it; repeats follow R330; the notification closes the
window and forms one event. (14_faults_and_takeover.md R328, 14_faults_and_takeover.md R329, 14_faults_and_takeover.md
R330, 14_faults_and_takeover.md R331, 14_faults_and_takeover.md R334, 14_faults_and_takeover.md R335,
14_faults_and_takeover.md R336, 14_faults_and_takeover.md R337, 14_faults_and_takeover.md R338,
14_faults_and_takeover.md R347). It rests on the model's own choices of notes/assumptions/132.md,
notes/assumptions/165.md and notes/assumptions/189.md. -/
def Obligations.FaultCommands : Prop :=
  (∀ (src kind addr : Nat) (s : State), srcReserved src = false → src ∉ s.flt.aside → 2 ≤ s.classNow src kind addr → skeinOfSrc src = none →
    exec (.errorPairSet src kind addr) s = .next (s.raiseFault src kind addr false))
  ∧ (∀ (src kind addr k : Nat) (s : State), srcReserved src = false → 2 ≤ s.classNow src kind addr → skeinOfSrc src = some k →
    exec (.errorPairSet src kind addr) s = .next (
      let t := (s.skeinFence src kind).targetFenced s
      if t.flt.aside.contains src = false ∧ t.pairWaits k = none then
        ({ t with flt := { t.flt with skPairs := t.flt.skPairs ++ [(k, t.dt)] } } : State).noteReacting
      else t))
  ∧ (∀ (w : Nat) (s : State), crc8 (codedBytes w) = bits w 0 8 → srcReserved (codedSrc w) = false → skeinOfSrc (codedSrc w) = none → ({ s with flt := { s.flt with coded := s.flt.coded.filter (fun c => c.word != w) } } : State).sameError (codedSrc w) (codedKind w) (codedAddr w) = false →
    exec (.codedMessage w) s = .next (
      let t := { s with flt := { s.flt with coded := s.flt.coded.filter (fun c => c.word != w) } }
      ((t.raiseFault (codedSrc w) (codedKind w) (codedAddr w)).detectedAt t.dt (codedSrc w) (codedKind w) (codedAddr w)).notifyWaiting))
  ∧ (∀ (w k : Nat) (s t : State), crc8 (codedBytes w) = bits w 0 8 → srcReserved (codedSrc w) = false → skeinOfSrc (codedSrc w) = some k → t = ({ s with flt := { s.flt with coded := s.flt.coded.filter (fun c => c.word != w) } } : State).pairLate k → (t.dropPair k).sameError (codedSrc w) (codedKind w) (codedAddr w) = false →
    exec (.codedMessage w) s = .next ((((t.dropPair k).raiseFault (codedSrc w) (codedKind w) (codedAddr w) (t.pairWaits k).isNone).detectedAt
        ((t.pairWaits k).getD (t.dropPair k).dt) (codedSrc w) (codedKind w) (codedAddr w)).notifyWaiting))
  ∧ (∀ (w : Nat) (s : State), s.flt.coded.find? (fun c => c.word == w) = none →
    exec (.codedMessageRepeat w) s = .next ({ s with flt := { s.flt with coded := s.flt.coded ++ [⟨w, 1, s.dt + 10000⟩] } }))
  ∧ (∀ (w : Nat) (c : Coded) (s : State), s.flt.coded.find? (fun c => c.word == w) = some c → c.next ≤ s.dt → c.sends < 7 →
    exec (.codedMessageRepeat w) s = .next ({ s with flt := { s.flt with coded := s.flt.coded.map (fun x =>
        if x.word = w then { x with sends := x.sends + 1, next := s.dt + 10000 } else x) } }))
  ∧ (∀ (k t : Nat) (s : State), k < 8 → s.pairWaits k = some t → t + 10000 ≤ s.dt →
    exec (.linkMessageTimeout k) s = .next ((((s.dropPair k).raiseFault (0x40 + k) 0xB 0 false).detectedAt t (0x40 + k) 0xB 0).notifyWaiting))
  ∧ (∀ (src n : Nat) (s : State), 3 ≤ n → srcReserved src = false → s.flag .FLT_PAIR src = false →
    exec (.pairBroken src n) s = .next (((pairSources src).foldl (fun s x => s.set .FLT_PAIR x 1) s).raiseFault src 0xF 0 false))
  ∧ (∀ (src n : Nat) (s : State), 1000000 ≤ n →
    exec (.pairWhole src n) s = .next ((pairSources src).foldl (fun s x => s.set .FLT_PAIR x 0) s))
  ∧ (∀ (w : Reaction) (s : State), s.flt.window = some w → s.flt.skPairs = [] → (s.flt.takeover = none ∨ s.safeHold = true) →
    exec (.faultNotification) s = .next (
      let t := s.set .INTC_PEND_FAULT 0 1
      let t := ({ t with flt := { t.flt with notifyDue := false, window := none } } : State).noteReacting
      t.faultEvent w.src w.kind w.cls w.addr w.second (w.second != 255) w.coded))
  ∧ (∀ (s : State), s.flt.skPairs ≠ [] →
    exec (.faultNotification) s = .next ({ s with flt := { s.flt with notifyDue := true } }))
  ∧ (∀ (r m : Nat) (s : State), r < 3 →
    exec (.geckoClearWrite r m) s = .next ((List.range 32).foldl (fun s i =>
        if bit m i && 32 * r + i < 80 then (clearFault (32 * r + i) s).1 else s) s))
  ∧ (∀ (n : Nat) (s : State), 10000 ≤ n → s.flag .PWRD_CLK_REF_RUN = true →
    exec (.referenceAbsentTimeout n) s = .next (({ s with flt := { s.flt with refAbsentFrom := some s.dt } } : State).raiseFault 0x0C 3 0))
  ∧ (∀ (n : Nat) (s : State), 10000000 ≤ n →
    exec (.referenceStable n) s = .next ({ s with flt := { s.flt with refAbsentFrom := none } }))
  ∧ (∀ (s : State), 
    exec (.collectorSelfTest .outvoted) s = .next (s.raiseFault 0x00 0 0))
  ∧ (∀ (s : State), 
    exec (.collectorSelfTest .failed) s = .next (s.raiseFault 0x00 0xD 0))
  ∧ (∀ (s : State), s.flag .AON_CLK_SLOW_SRC = true →
    exec (.xtal32Stop) s = .next ((((s.set .AON_CLK_SLOW_SRC 0 0).set .AON_CLK_XTAL_STOPPED 0 1).set .TIME_STAT_XTAL32 0 0).raiseFault 0x0C 0 0))
  ∧ (∀ (src : Nat) (pass : Bool) (s : State), s.flt.training.any (fun t => t.1 == src) = true →
    exec (.trainingComplete src pass) s = .next (
      let t := { s with flt := { s.flt with training := s.flt.training.filter (fun t => t.1 != src) } }
      if pass = false then t
      else
        let t := t.dropCauses src (fun g => !(g.kind == 0xF && t.flag .FLT_PAIR src))
        if src = 0x06 ∨ src = 0x07 then (t.unfenceDomain dDRAM).dramChannelBack (src - 6)
        else (if t.gecko (0x30 + (src - 0x40)) then t else t.unfenceDomain (dSKL (src - 0x40))).linkTrained
          (src - 0x40)))
  ∧ (∀ (s : State), s.flag .FLT_STAT_REBUILDING = true →
    exec (.mirrorRebuildComplete) s = .next ((s.rebuildEnded.set .FLT_STAT_MIRROR_DEGRADED 0 0).mirrorRebuilt))

/-- A heartbeat of the lead half is taken; a window without one is counted and the third raises TIMEOUT; a mismatch of the
token copies is decided by majority, else by the preferred usable half; a shared write of the other half is refused; a
takeover, a handover and an update advance as R344 and R345 give. (14_faults_and_takeover.md R340,
14_faults_and_takeover.md R342, 14_faults_and_takeover.md R343, 14_faults_and_takeover.md R344,
14_faults_and_takeover.md R345, 14_faults_and_takeover.md R351, 15_security_and_debug.md R366). It rests on the
model's own choices of notes/assumptions/122.md, notes/assumptions/136.md and notes/assumptions/161.md. -/
def Obligations.TokenAndUpdateCommands : Prop :=
  (∀ (half seq : Nat) (ho : Bool) (s t : State), t = s.heartbeatMisses → t.flag .FLT_TOKEN_VALID = true → t.lead = half → t.safeHold = false → bit t.sec.halted half = false →
    exec (.fltHb half seq ho) s = .next (
      let u := (t.set .FLT_HB_SEQ 0 seq).set .FLT_HB_HANDOVER 0 (if ho then 1 else 0)
      { u with flt := { u.flt with lastHb := t.dt, missRun := 0 } }))
  ∧ (∀ (s : State), s.flag .FLT_TOKEN_VALID = true → s.safeHold = false → s.domOn (dCTL s.lead) = true → (s.flag .SEC_DBG_HB_MASK = false ∨ bit s.sec.halted s.lead = false) → s.flt.lastHb + 100000 * (s.flt.missRun + 1) ≤ s.dt →
    exec (.leadHeartbeatTimeout) s = .next (
      let t := s.count .FLT_HB_MISSED_CNT 0
      let t := { t with flt := { t.flt with missRun := s.flt.missRun + 1 } }
      if s.flt.missRun < 2 then t else t.raiseFault (t.lead + 1) 3 0 false))
  ∧ (∀ (a b c m : Nat) (s : State), (¬(a = b ∧ b = c)) → ((a = b ∧ m = a) ∨ (a = c ∧ m = a) ∨ (b = c ∧ m = b)) →
    exec (.tokenRecordMismatch a b c) s = .next (((({ s with flt := { s.flt with copies := [m, m, m] } } : State).setB .FLT_TOKEN_HOLDER 0 (m == 2)).setB .FLT_TOKEN_VALID 0
        (m == 1 || m == 2)).raiseFault 0x03 0xD 0))
  ∧ (∀ (a b c h : Nat) (s : State), a ≠ b → b ≠ c → a ≠ c → h = s.get .SYS_STRAP_PREFHALF → ((s.set .FLT_TOKEN_PREF_USED 0 1).raiseFault 0x03 0xD 0).domFenced (dCTL h) = false →
    exec (.tokenRecordMismatch a b c) s = .next (((s.set .FLT_TOKEN_PREF_USED 0 1).raiseFault 0x03 0xD 0).setToken h))
  ∧ (∀ (half : Nat) (s : State), s.flag .FLT_TOKEN_VALID = true → s.lead ≠ half → half < 2 →
    exec (.sharedWriteRefused half) s = .next ((s.count .FLT_TOKEN_REFUSED_CNT 0).raiseFault 0x03 4 0))
  ∧ (∀ (s : State), s.flag .FLT_TOKEN_VALID = true → s.boot.booted.getD (1 - s.lead) false = true → s.domOn (dCTL (1 - s.lead)) = true →
    exec (.stateCopyComplete) s = .next (s.set .FLT_TOKEN_STANDBY_HOT 0 1))
  ∧ (∀ (s : State), s.flt.takeover ≠ none → s.domOn (dCTL s.lead) = true → s.safeHold = false →
    exec (.takeoverComplete) s = .next (
      let t := { s with flt := { s.flt with takeover := none } }
      let t := if s.ecx.snapBy = none then t else t.startSnap
      let t := ((t.set .IND_ADDR_OFFSET 1 0).set .IND_ADDR_UNIT 1 0).set .IND_ADDR_SPACE 1 0
      (t.deviceEvent 4 (detailOf [(0, 1, t.lead)])).endUpdate))
  ∧ (∀ (v b : Bool) (s : State), s.boot.phase = 1 → s.boot.updated = false → s.dt < s.boot.phaseFrom + 1000000000 → s.domOn (dCTL (1 - s.lead)) = true → s.domFenced dSEC = false →
    exec (.standbyUpdated v b) s = .next (
      let c := imageCheck s (s.slot s.otherSlot).bytes
      if c ≠ 0 then (s.imageRefused c).bootAgain stVERIFY_FAILED
      else if v = false then ((s.set .SEC_BOOT_FAIL 0 6).setBit .SEC_EVT 0 4).bootAgain stVERIFY_FAILED
      else if b = false then s.bootAgain stINTERNAL
      else { s.set .FLT_TOKEN_STANDBY_HOT 0 1 with
        boot := { s.boot with updated := true, versions := s.boot.versions.set (1 - s.lead) (s.slotVersion s.otherSlot) } }))
  ∧ (∀ (s : State), s.boot.phase = 1 → s.boot.updated = true → s.flag .FLT_TOKEN_STANDBY_HOT = true → s.flag .FLT_TOKEN_VALID = true → s.domFenced (dCTL (1 - s.lead)) = false →
    exec (.handover) s = .next (
      let t := ((s.addTo .FLT_HB_SEQ 0 1).set .FLT_HB_HANDOVER 0 1).setToken (1 - s.lead)
      let t := (t.count .FLT_TOKEN_TKO_CNT 0).set .FLT_TOKEN_STANDBY_HOT 0 0
      { t with boot := { t.boot with phase := 2 } }))
  ∧ (∀ (s : State), s.boot.phase = 2 →
    exec (.newLeadRunning) s = .next (
      let t := { s with
        boot := { s.boot with phase := 3, versions := s.boot.versions.set s.lead (s.slotVersion s.otherSlot) } }
      let t := if s.ecx.snapBy = none then t else t.startSnap
      let t := ((t.set .IND_ADDR_OFFSET 1 0).set .IND_ADDR_UNIT 1 0).set .IND_ADDR_SPACE 1 0
      t.deviceEvent 4 (detailOf [(0, 1, t.lead)])))
  ∧ (∀ (s : State), s.boot.phase = 3 → s.domFenced (dCTL (1 - s.lead)) = false →
    exec (.formerLeadUpdated) s = .next (
      let v := s.slotVersion s.otherSlot
      let t := s.takeImage (s.slot s.otherSlot).bytes
      let t := { t with boot := { t.boot with phase := 0, updated := false, verified := false, versions := [v, v] } }
      let t := (t.markActive s.otherSlot).set .SEC_BOOT_SLOT 0 s.otherSlot
      (t.set .FLT_TOKEN_STANDBY_HOT 0 1).fwDone stOK v))
  ∧ (∀ (s : State), s.boot.phase = 1 → s.boot.updated = false → s.boot.phaseFrom + 1000000000 ≤ s.dt →
    exec (.activationTimeout) s = .next (
      let t := { s with boot := { s.boot with phase := 0, updated := false, booted := s.boot.booted.set (1 - s.lead) false } }
      (t.set .FLT_TOKEN_STANDBY_HOT 0 0).fwDone stINTERNAL (s.slotVersion s.otherSlot)))

/-- Each step of a transition advances it and the last one completes it; a step that is late twice fails and fences the
domain; an entry completes; clocks, the rail target, the wake sources and the alarms act as their rules give.
(13_power_domains.md R307, 13_power_domains.md R311, 13_power_domains.md R312, 13_power_domains.md R313,
13_power_domains.md R315, 13_power_domains.md R317, 13_power_domains.md R318, 13_power_domains.md R320,
13_power_domains.md R321, 13_power_domains.md R322, 13_power_domains.md R326, 15_security_and_debug.md R364). It rests
on the model's own choices of notes/assumptions/46.md, notes/assumptions/83.md and notes/assumptions/134.md. -/
def Obligations.DomainCommands : Prop :=
  (∀ (d : Nat) (ok : Bool) (s : State), d < 42 → s.flag .DOM_STAT_TRANS d = true → s.get .DOM_STAT_TARGET d = 0 → s.dt < (s.dom d).stepEnd → s.get .DOM_STAT_STEP d = 1 → s.standing d = true → (railDomain d = false ∨ s.flag .PWRD_AVS_LOW_RAIL = false) → 2 ≤ d →
    exec (.domainStepReady d ok) s = .next (s.beginStep d 2))
  ∧ (∀ (d : Nat) (ok : Bool) (s : State), d < 42 → s.flag .DOM_STAT_TRANS d = true → s.get .DOM_STAT_TARGET d = 0 → s.dt < (s.dom d).stepEnd → s.get .DOM_STAT_STEP d = 2 → (needsRef d = false ∨ s.flag .PWRD_CLK_REF_RUN = true ∨ ((d = 0 ∨ d = 1 ∨ d = dSEC) ∧ s.refLost = true)) →
    exec (.domainStepReady d ok) s = .next (s.beginStep d 3))
  ∧ (∀ (d : Nat) (ok : Bool) (s : State), d < 42 → s.flag .DOM_STAT_TRANS d = true → s.get .DOM_STAT_TARGET d = 0 → s.dt < (s.dom d).stepEnd → s.get .DOM_STAT_STEP d = 3 →
    exec (.domainStepReady d ok) s = .next (s.beginStep d 4))
  ∧ (∀ (d : Nat) (ok : Bool) (s : State), d < 42 → s.flag .DOM_STAT_TRANS d = true → s.get .DOM_STAT_TARGET d = 0 → s.dt < (s.dom d).stepEnd → s.get .DOM_STAT_STEP d = 4 → ((s.dom d).saved = none ∨ ok = true) →
    exec (.domainStepReady d ok) s = .next (
      let t := (s.finishOn d ok).domainCameOn d
      (if d = dSEC then t.recheckLifecycle else t).startPending d))
  ∧ (∀ (d : Nat) (s : State), d < 42 → s.flag .DOM_STAT_TRANS d = true → s.get .DOM_STAT_TARGET d = 0 → (s.dom d).stepEnd ≤ s.dt → (s.get .DOM_STAT_STEP d ≠ 1 ∨ s.standing d = true) → (s.get .DOM_STAT_STEP d ≠ 2 ∨ s.refHeld d = false) → (s.dom d).fails = 0 →
    exec (.domainStepTimeout d) s = .next (s.modDom d (fun x => { x with fails := 1, stepEnd := s.stepDue d (s.get .DOM_STAT_STEP d) })))
  ∧ (∀ (d : Nat) (s : State), d < 42 → s.flag .DOM_STAT_TRANS d = true → s.get .DOM_STAT_TARGET d = 0 → (s.dom d).stepEnd ≤ s.dt → (s.get .DOM_STAT_STEP d ≠ 1 ∨ s.standing d = true) → (s.get .DOM_STAT_STEP d ≠ 2 ∨ s.refHeld d = false) → (s.dom d).fails ≠ 0 →
    exec (.domainStepTimeout d) s = .next (
      let x := s.dom d
      let t := s.domainEvent d 2
        (domDetail x.fromSt 0 (s.get .DOM_STAT_LAST_CAUSE d) x.wakeBit (s.get .DOM_STAT_STEP d) 0)
      (t.raiseFault (srcOfDomain d) 5 0).fenceDomain d))
  ∧ (∀ (d : Nat) (s : State), d < 42 → d ≠ 30 → d ≠ 31 → s.flag .DOM_STAT_TRANS d = true → s.get .DOM_STAT_TARGET d ≠ 0 →
    exec (.domainEntryComplete d) s = .next ((((s.sessionCheck.finishEntry d).domainLeftOn d).startPending d).avsRequest))
  ∧ (∀ (d : Nat) (s t : State), (d = 30 ∨ d = 31) → s.flag .DOM_STAT_TRANS d = true → s.get .DOM_STAT_TARGET d ≠ 0 → s.sessionCheck.quiesced d = (t, true) →
    exec (.domainEntryComplete d) s = .next ((((t.finishEntry d).domainLeftOn d).startPending d).avsRequest))
  ∧ (∀ (d : Nat) (s : State), d < 42 → s.domOn d = true →
    exec (.domainClockStop d) s = .next (((s.set .DOM_STAT_CLK_STOPPED d 1).modDom d (fun x => { x with clkAsk := false })).avsRequest))
  ∧ (∀ (d : Nat) (s t : State), d < 42 → s.get .DOM_IDLE_IDLE_MS d ≠ 0 → s.get .DOM_IDLE_IDLE_STATE d ≠ 0 → (s.dom d).idleFrom + s.get .DOM_IDLE_IDLE_MS d * 1000000 ≤ s.dt → t = s.modDom d (fun x => { x with idleFrom := s.dt }) →
    exec (.idleTimeout d) s = .next (if t.domainAllowed d (s.get .DOM_IDLE_IDLE_STATE d) then (t.requestDomain d (s.get .DOM_IDLE_IDLE_STATE d) 2).1 else t))
  ∧ (∀ (d v : Nat) (s : State), d < 42 → v % 4 ≠ 3 → s.domFenced d = false → (s.get .DOM_STAT_STATE d ≠ v % 4 ∨ s.flag .DOM_STAT_TRANS d = true) → s.domainAllowed d (v % 4) = true →
    exec (.domReqWrite d v) s = .next ((s.requestDomain d (v % 4) 0).1))
  ∧ (∀ (mv : Nat) (s t : State), s.avsIdle = false → t = s.avsRequest → t.avsWaits = true → mv ≤ t.get .PWRD_AVS_TARGET_MV + 10 → t.get .PWRD_AVS_TARGET_MV ≤ mv + 10 →
    exec (.avsAck mv) s = .next (
      let g := t.get .PWRD_AVS_TARGET_MV
      let u := (t.set .PWRD_AVS_LAST_ACK_MV 0 g).set .PWRD_AVS_LOW_RAIL 0 (if g = 650 then 1 else 0)
      let u := { u with avsTries := 0, avsAt := none }
      if u.flag .PWRD_AVS_FALLBACK then (u.set .PWRD_AVS_FALLBACK 0 0).domainEvent 0xFFFF 5 (detailOf [(4, 2, g)]) else u))
  ∧ (∀ (a : Nat) (s t : State), s.avsRequest.avsIdle = false → t = s.avsRequest.count .PWRD_AVS_RETRY_CNT 0 → t.avsAt = some a → a + 200000 ≤ t.dt → t.flag .PWRD_AVS_FALLBACK = false → t.avsTries < 3 →
    exec (.avsNoAck) s = .next ({ t with avsTries := t.avsTries + 1, avsAt := some t.dt }))
  ∧ (∀ (a : Nat) (s t : State), s.avsRequest.avsIdle = false → t = s.avsRequest.count .PWRD_AVS_RETRY_CNT 0 → t.avsAt = some a → a + 200000 ≤ t.dt → t.flag .PWRD_AVS_FALLBACK = false → t.avsTries = 3 →
    exec (.avsNoAck) s = .next (
      let u := { t with avsTries := 0, avsAt := none, avsFrom := t.dt }
      let u := (u.set .PWRD_AVS_FALLBACK 0 1).set .PWRD_AVS_LOW_RAIL 0 0
      (u.domainEvent 0xFFFF 4 (detailOf [(4, 2, u.get .PWRD_AVS_LAST_ACK_MV)])).raiseFault 0x0B 0xC 0))
  ∧ (∀ (s : State), s.flag .PWRD_AVS_FALLBACK = true → s.avsIdle = false → s.avsFrom + 10000000000 ≤ s.dt →
    exec (.avsRetry) s = .next (({ s with avsFrom := s.dt, avsTries := 1, avsAt := some s.dt } : State).set .PWRD_AVS_TARGET_MV 0 s.nominalMv))
  ∧ (∀ (a : Nat) (i3c : Bool) (s : State), s.pins.porstLow = false → (a = 0x7E ∨ a = 0x5C + s.get .SYS_STRAP_MGMT_ADDR ∨ s.mgmt.dynAddr = some a) → s.domFenced dMIF = false → s.domOn dMIF = true →
    exec (.addressMatch a i3c) s = .next ({ s.touch dMIF with mgmt := { s.mgmt with nacked := false, sclHeld := false, busy := true } }))
  ∧ (∀ (a : Nat) (i3c : Bool) (s : State), s.pins.porstLow = false → a ≠ 0x7E → (a = 0x5C + s.get .SYS_STRAP_MGMT_ADDR ∨ s.mgmt.dynAddr = some a) → s.domFenced dMIF = false → s.domOn dMIF = false →
    exec (.addressMatch a i3c) s = .next (
      let hold := !i3c && s.mgmt.dynAddr.isNone && !s.flag .PWRD_WAKE_EN_I2C_WAKE_NACK
      { s.wake 0 [dMIF] with mgmt := { s.mgmt with nacked := !hold, sclHeld := hold, busy := hold } }))
  ∧ (∀ (lfps : Bool) (s : State), 
    exec (.upstreamResumeDetect lfps) s = .next (s.wake 1 (if lfps then [dLOOM] else if s.get .LOOMS_STAT_RATE = 1 then [dHUB, dLOOM] else [dHUB])))
  ∧ (∀ (n : Nat) (s : State), 10000 ≤ n →
    exec (.wakeInEdge n) s = .next (
      let ds := ((List.range 2).filter (fun c => s.get .CAN_CTL_USE c == 0)).map dCAN
      if ds.all s.domOn ∧ s.flag .DOM_STAT_CLK_STOPPED (dCTL s.lead) = false then
        (s.setBit .PWRD_WAKE_LAST_SRC 0 3).count .PWRD_WAKE_LAST_WAKE_CNT 0
      else s.wake 3 ds))
  ∧ (∀ (i : Nat) (s : State), i < 4 → s.get .PWRD_ALARM i ≠ 0 → s.get .PWRD_ALARM i ≤ s.clock →
    exec (.alarmFire i) s = .next (((s.set .PWRD_ALARM i 0).wake 5 []).domainEvent i 6 (detailOf [(4, 6, s.get .PWRD_ALARM i)])))
  ∧ (∀ (path : Path) (i high : Nat) (s u t : State), i < 4 → s.permit path false (0x020034 + 8 * i) (some high) = (u, true) → u.ibiCheck.directWrite path s.inI3c (0x020034 + 8 * i) .write high = (t, rOK) →
    exec (.alarmArmWrite path i high) s = .next (t.ibiCheck))
  ∧ (∀ (d st : Nat) (s : State), d < 42 → st < 3 → s.debugMayWake d = true → s.lifecycle = lcFACTORY → (s.nameTarget d).lifecycle = lcFACTORY →
    exec (.debugWakeRequest d st) s = .next (((s.nameTarget d).requestDomain d st 4).1))

/-- An OTP programming begins where the slot is blank and the lifecycle permits it and ends with its result; a challenge
expires; DBG_EN rising and falling act as R43 and R363 give; a debugger halts and resumes a half, reads and writes a
register, and writes a word of a data memory and reads it back, where its level permits it; an access that it may not
make ends with an error response and changes nothing else. (02_package_and_balls.md R43, 15_security_and_debug.md
R354, 15_security_and_debug.md R363, 15_security_and_debug.md R364, 15_security_and_debug.md R367,
15_security_and_debug.md R369, 10_ecrax_opcodes.md R252). It rests on the model's own choices of
notes/assumptions/129.md, notes/assumptions/162.md and notes/assumptions/194.md. -/
def Obligations.SecurityAndDebugCommands : Prop :=
  (∀ (n : Nat) (s : State), s.flag .SEC_OTP_STAT_BUSY = false → n < 3 → s.lifecycle ≤ lcPROVISIONED → s.sec.otp.programmed n = false →
    exec (.otpProgram n) s = .next ({ s.set .SEC_OTP_STAT_BUSY 0 1 with sec := { s.sec with otpSlot := n, otpData := s.otpDataWord } }))
  ∧ (∀ (ok : Bool) (s : State), s.flag .SEC_OTP_STAT_BUSY = true →
    exec (.otpProgramDone ok) s = .next (
      let t := (s.set .SEC_OTP_STAT_BUSY 0 0).set .SEC_OTP_STAT_RESULT 0 (if ok then 0 else 3)
      let o := s.sec.otp
      let o := if ok then { o with okh := o.okh.set s.sec.otpSlot s.sec.otpData } else o
      let t := { t with sec := { t.sec with otp := o } }
      ((List.range 12).foldl (fun s w => s.set .SEC_OTP_DATA w 0) t).setBit .SEC_EVT 0 6))
  ∧ (∀ (c : Chal) (s : State), s.sec.chal = some c → c.issued + 60000000000 ≤ s.dt →
    exec (.challengeExpiry) s = .next (s.dropChallenge))
  ∧ (∀ (s : State), 
    exec (.dbgEnRise) s = .next (
      let t := s.set .SEC_DBG_DBG_EN_PIN 0 1
      { t with pins := { t.pins with dbgEn := true }, sec := { t.sec with tap := true } }))
  ∧ (∀ (s : State), 
    exec (.dbgEnFall) s = .next (
      let t := ((s.endSession 2).superviseAgain.set .SEC_DBG_DBG_EN_PIN 0 0).set .SEC_DBG_HB_MASK 0 0
      let t := t.set .IND_STAT_BUSY 2 0
      { t with winOps := t.winOps.filter (fun w => w.path != .debug), pins := { t.pins with dbgEn := false }, sec := { t.sec with tap := false, halted := 0, scan := false } }))
  ∧ (∀ (a : DebugAccess) (s t : State), s.pins.dbgEn = true → s.pins.porstLow = false → a.place = .core → a.what = .halt → a.domain < 2 → t = s.nameTarget a.domain → t.debugMay (some a.domain) 2 = true →
    exec (.debugAccess a) s = .next ({ t with sec := { t.sec with dbgError := false, halted := bitOr t.sec.halted (2 ^ a.domain) } }))
  ∧ (∀ (a : DebugAccess) (s t : State), s.pins.dbgEn = true → s.pins.porstLow = false → a.place = .core → a.what = .resume → a.domain < 2 → t = s.nameTarget a.domain → t.debugMay (some a.domain) 2 = true →
    exec (.debugAccess a) s = .next (
      let u : State := { t with sec := { t.sec with dbgError := false } }
      { u.superviseAgain with sec := { u.sec with halted := bitClear u.sec.halted (2 ^ a.domain) } }))
  ∧ (∀ (a : DebugAccess) (s t : State), s.pins.dbgEn = true → s.pins.porstLow = false → a.place = .register → a.what = .read → a.ind = false → s.permit .debug false a.addr none = (t, true) →
    exec (.debugAccess a) s = .next (
      let r := t.directRead .debug false a.addr
      { r.1.pathCode .debug a.addr r.2.2 with lastRead := r.2.1 }))
  ∧ (∀ (a : DebugAccess) (v : Nat) (s t : State), s.pins.dbgEn = true → s.pins.porstLow = false → a.place = .register → a.what = .write v → a.ind = false → s.permit .debug false a.addr (some v) = (t, true) →
    exec (.debugAccess a) s = .next (
      let x := t.ibiCheck.directWrite .debug false a.addr .write v
      (x.1.pathCode .debug a.addr x.2).ibiCheck))
  ∧ (∀ (a : DebugAccess) (s t : State), s.pins.dbgEn = true → s.pins.porstLow = false → a.place = .dataMemory → (a.what = .read ∨ ∃ v, a.what = .write v) → t = s.nameTarget a.domain → t.debugMay (some a.domain) 1 = false →
    exec (.debugAccess a) s = .next ({ t with sec := { t.sec with dbgError := true } }))
  ∧ (∀ (a : DebugAccess) (v : Nat) (s t : State), s.pins.dbgEn = true → s.pins.porstLow = false → a.place = .dataMemory → a.what = .write v → t = s.nameTarget a.domain → t.debugMay (some a.domain) 2 = true → t.lifecycle ≠ lcFIELD →
    exec (.debugAccess a) s = .next ({ t with
          sec := { t.sec with
          dbgError := false
          dataWords := t.sec.dataWords.filter (fun w => !(w.1 == a.domain && w.2.1 == a.addr)) ++ [(a.domain, a.addr, v % 2 ^ 32)] } }))
  ∧ (∀ (a : DebugAccess) (v : Nat) (s t : State), s.pins.dbgEn = true → s.pins.porstLow = false → a.place = .dataMemory → a.what = .read → t = s.nameTarget a.domain → t.debugMay (some a.domain) 1 = true → t.lifecycle ≠ lcFIELD → t.sec.dataWords.find? (fun w => w.1 == a.domain && w.2.1 == a.addr) = some (a.domain, a.addr, v) →
    exec (.debugAccess a) s = .next ({ t with sec := { t.sec with dbgError := false }, lastRead := v }))

/-- On a controller that is not in hierarchy use, a write of MODE, of a timing register in INIT, of a buffer's words while
the buffer is not pending, of REQ and ABORT bits and of POP takes effect as given; the mode and the use requested take
effect when no frame is in progress. (11_can_controllers.md R259, 11_can_controllers.md R261, 11_can_controllers.md
R262, 11_can_controllers.md R263, 11_can_controllers.md R264, 11_can_controllers.md R267, 11_can_controllers.md R270,
11_can_controllers.md R276). It rests on the model's own choices of notes/assumptions/49.md and
notes/assumptions/139.md. -/
def Obligations.CanHostCommands : Prop :=
  (∀ (c m : Nat) (s : State), c < 2 → s.domOn (dCAN c) = true → s.get .CAN_CTL_USE c ≠ 0 →
    exec (.canModeWrite c m) s = .next (applyWord s .write .CAN c 0 (putBits (wordOf (fun f k => s.get f k) .CAN c 0) 0 2 m)))
  ∧ (∀ (c off v : Nat) (s : State), c < 2 → s.domOn (dCAN c) = true → s.get .CAN_CTL_USE c ≠ 0 → (off = 0x08 ∨ off = 0x0C ∨ off = 0x10) → s.get .CAN_STAT_MODE_NOW c = 0 → canTimingOk (applyWord s .write .CAN c off v) c = true →
    exec (.canTimingWrite c off v) s = .next (applyWord s .write .CAN c off v))
  ∧ (∀ (c m : Nat) (s : State), c < 2 → s.domOn (dCAN c) = true → s.get .CAN_CTL_USE c ≠ 0 → (m = 1 ∨ m = 2 ∨ m = 4) → s.txb c (if m = 4 then 2 else m - 1) ∉ [1, 2, 6] →
    exec (.txRequest c m) s = .next (
      let b := if m = 4 then 2 else m - 1
      ((s.setTxb c b 1).set .TXB_ATTEMPTS (3 * c + b) 0).set .TXB_TS_VALID (3 * c + b) 0))
  ∧ (∀ (c m r : Nat) (s : State), c < 2 → s.domOn (dCAN c) = true → s.get .CAN_CTL_USE c ≠ 0 → r = 0 → (m = 1 ∨ m = 2 ∨ m = 4) → (s.txb c (if m = 4 then 2 else m - 1) = 1 ∨ s.txb c (if m = 4 then 2 else m - 1) = 6) →
    exec (.txAbort c m r) s = .next ((s.setTxb c (if m = 4 then 2 else m - 1) 4).canInt c 3))
  ∧ (∀ (c m r : Nat) (s : State), c < 2 → s.domOn (dCAN c) = true → s.get .CAN_CTL_USE c ≠ 0 → r = 0 → (m = 1 ∨ m = 2 ∨ m = 4) → s.txb c (if m = 4 then 2 else m - 1) = 2 →
    exec (.txAbort c m r) s = .next (s.modCan c (fun x => { x with abortOf := (if m = 4 then 2 else m - 1) :: x.abortOf })))
  ∧ (∀ (c b off v : Nat) (s : State), c < 2 → s.domOn (dCAN c) = true → s.get .CAN_CTL_USE c ≠ 0 → b < 3 → off < 0x80 → s.txb c b ∉ [1, 2, 6] →
    exec (.txbWrite c b off v) s = .next (applyWord s .write .CAN c (0x100 + 0x80 * b + off / 4 * 4) v))
  ∧ (∀ (c : Nat) (s : State), c < 2 → s.domOn (dCAN c) = true → s.get .CAN_CTL_USE c ≠ 0 → (s.can c).popped ≠ 0 →
    exec (.fifoPop c) s = .next (s.modCan c (fun x => { x with popped := x.popped - 1 })))
  ∧ (∀ (c : Nat) (s : State), c < 2 → s.domOn (dCAN c) = true → s.get .CAN_CTL_USE c ≠ 0 → (s.can c).popped = 0 →
    exec (.fifoPop c) s = .next ((s.modCan c (fun x => { x with fifo := x.fifo.drop 1 })).syncFifo c))
  ∧ (∀ (c : Nat) (s : State), c < 2 → s.canOn c = true → s.canBusy c = false → s.get .CAN_CTL_USE c ≠ 2 → s.get .CAN_CTL_MODE c ≠ s.get .CAN_STAT_MODE_NOW c →
    exec (.canModeChange c) s = .next (
      let m := s.get .CAN_CTL_MODE c
      if m = 0 then s.enterInit c
      else if s.get .CAN_STAT_MODE_NOW c = 0 then
        let t := ((s.set .CAN_STAT_MODE_NOW c m).set .CAN_STAT_SYNCED c 0).set .CAN_STAT_BUS_IDLE c 0
        if m = 1 ∧ t.get .CAN_STAT_ESTATE c = 2 then t.modCan c (fun x => { x with recover := true }) else t
      else s.set .CAN_STAT_MODE_NOW c m))
  ∧ (∀ (c u : Nat) (s : State), (s.can c).newUse = some u → s.canBusy c = false → u ≠ s.get .CAN_CTL_USE c → u = 0 →
    exec (.canUseChange c) s = .next (s.takeUse c 0))
  ∧ (∀ (c u : Nat) (s t : State), (s.can c).newUse = some u → s.canBusy c = false → u ≠ s.get .CAN_CTL_USE c → u ≠ 0 → s.leaveFirst c 0 = (t, true) →
    exec (.canUseChange c) s = .next (t.takeUse c u))

/-- Synchronisation, the choice of a buffer, the ends of an attempt, a frame received, an error in reception and the end
of bus-off act on the controller as given. Where REC falls from above 127 its value is a free value between 119 and
127. (11_can_controllers.md R260, 11_can_controllers.md R265, 11_can_controllers.md R266, 11_can_controllers.md R268,
11_can_controllers.md R270, 11_can_controllers.md R271, 11_can_controllers.md R272). It rests on the model's own
choices of notes/assumptions/47.md and notes/assumptions/152.md. -/
def Obligations.CanBusCommands : Prop :=
  (∀ (c n : Nat) (s : State), c < 2 → s.canOn c = true → s.get .CAN_STAT_MODE_NOW c ≠ 0 → 11 ≤ n → s.flag .CAN_STAT_SYNCED c = false →
    exec (.canSynced c n) s = .next ((s.set .CAN_STAT_SYNCED c 1).set .CAN_STAT_BUS_IDLE c 1))
  ∧ (∀ (c b : Nat) (s : State), c < 2 → s.canSend c = true → (s.feedTx c).flag .CAN_STAT_LONE c = false → (s.feedTx c).chooseTxb c [1] = some b →
    exec (.txChoice c) s = .next (((((s.feedTx c).setTxb c b 2).set .CAN_STAT_TX_ACTIVE c 1).set .CAN_STAT_BUS_IDLE c 0).modCan c (fun x => { x with sof := (s.feedTx c).clock })))
  ∧ (∀ (c b m : Nat) (s : State), c < 2 → s.canSend c = true → s.flag .CAN_STAT_LONE c = true → m = (s.dt - (s.can c).loneAt) / 100000000 → m ≠ 0 → (s.can c).loneWin < m → ((s.feedTx c).modCan c (fun x => { x with loneWin := m })).chooseTxb c [1, 6] = some b →
    exec (.loneSlot c) s = .next (((s.feedTx c).modCan c (fun x => { x with loneWin := m })).startAttempt c b))
  ∧ (∀ (c b stamp d : Nat) (s : State), c < 2 → s.canOn c = true → s.flag .CAN_STAT_TX_ACTIVE c = true → (s.txbIn c [2]).head? = some b → ((s.txFrame c b).brs = false ∨ s.flag .CAN_CTL_TDC_EN c = false ∨ s.get .CAN_STAT_MODE_NOW c = 3) →
    exec (.canTxAttemptEnd c stamp d .ok) s = .next (
      let t := s.set .CAN_STAT_TX_ACTIVE c 0
      ((t.count .TXB_ATTEMPTS (3 * c + b)).set .CAN_STAT_BUS_IDLE c 1).attemptDone c b (max (s.can c).sof (s.clock - (s.clock - stamp) / 25 * 25))))
  ∧ (∀ (c b stamp d : Nat) (s : State), c < 2 → s.canOn c = true → s.flag .CAN_STAT_TX_ACTIVE c = true → (s.txbIn c [2]).head? = some b → s.get .CAN_STAT_MODE_NOW c ≠ 3 →
    exec (.canTxAttemptEnd c stamp d .lost) s = .next (
      let t := (s.set .CAN_STAT_TX_ACTIVE c 0).set .CAN_STAT_RX_ACTIVE c 1
      if b ∈ (t.can c).abortOf then t.failAttempt c b 1 else t.setTxb c b 1))
  ∧ (∀ (c b stamp d : Nat) (dom : Bool) (s : State), c < 2 → s.canOn c = true → s.flag .CAN_STAT_TX_ACTIVE c = true → (s.txbIn c [2]).head? = some b → s.get .CAN_STAT_MODE_NOW c ≠ 3 → ((s.txFrame c b).brs = false ∨ s.flag .CAN_CTL_TDC_EN c = false) →
    exec (.canTxAttemptEnd c stamp d (.noAck dom)) s = .next (
      let t := s.set .CAN_STAT_TX_ACTIVE c 0
      let t := (t.count .TXB_ATTEMPTS (3 * c + b)).set .CAN_STAT_BUS_IDLE c 1
      t.attemptError c b 3 false (if t.get .CAN_STAT_ESTATE c = 1 ∧ dom = false then 0 else 8)))
  ∧ (∀ (c b stamp d lec n : Nat) (dp : Bool) (s : State), c < 2 → s.canOn c = true → s.flag .CAN_STAT_TX_ACTIVE c = true → (s.txbIn c [2]).head? = some b → ((s.txFrame c b).brs = false ∨ s.flag .CAN_CTL_TDC_EN c = false ∨ s.get .CAN_STAT_MODE_NOW c = 3) →
    exec (.canTxAttemptEnd c stamp d (.err lec dp n)) s = .next (
      let t := s.set .CAN_STAT_TX_ACTIVE c 0
      ((t.count .TXB_ATTEMPTS (3 * c + b)).set .CAN_STAT_BUS_IDLE c 1).attemptError c b (lec % 8) dp (8 * n)))
  ∧ (∀ (c b stamp d : Nat) (s : State), c < 2 → s.canOn c = true → s.flag .CAN_STAT_TX_ACTIVE c = true → (s.txbIn c [2]).head? = some b → (s.txFrame c b).brs = true → s.flag .CAN_CTL_TDC_EN c = true → s.get .CAN_STAT_MODE_NOW c ≠ 3 → d + s.get .CAN_TDC_TDCO c ≤ 127 →
    exec (.canTxAttemptEnd c stamp d .ok) s = .next (
      let t := (s.set .CAN_TDC_TDCV c (min 127 d)).set .CAN_STAT_TX_ACTIVE c 0
      ((t.count .TXB_ATTEMPTS (3 * c + b)).set .CAN_STAT_BUS_IDLE c 1).attemptDone c b (max (s.can c).sof (s.clock - (s.clock - stamp) / 25 * 25))))
  ∧ (∀ (c b stamp d : Nat) (dom : Bool) (s : State), c < 2 → s.canOn c = true → s.flag .CAN_STAT_TX_ACTIVE c = true → (s.txbIn c [2]).head? = some b → (s.txFrame c b).brs = true → s.flag .CAN_CTL_TDC_EN c = true → s.get .CAN_STAT_MODE_NOW c ≠ 3 → d + s.get .CAN_TDC_TDCO c ≤ 127 →
    exec (.canTxAttemptEnd c stamp d (.noAck dom)) s = .next (
      let t := (s.set .CAN_TDC_TDCV c (min 127 d)).set .CAN_STAT_TX_ACTIVE c 0
      let t := (t.count .TXB_ATTEMPTS (3 * c + b)).set .CAN_STAT_BUS_IDLE c 1
      t.attemptError c b 3 false (if t.get .CAN_STAT_ESTATE c = 1 ∧ dom = false then 0 else 8)))
  ∧ (∀ (c b stamp d lec n : Nat) (dp : Bool) (s : State), c < 2 → s.canOn c = true → s.flag .CAN_STAT_TX_ACTIVE c = true → (s.txbIn c [2]).head? = some b → (s.txFrame c b).brs = true → s.flag .CAN_CTL_TDC_EN c = true → s.get .CAN_STAT_MODE_NOW c ≠ 3 → (dp = true ∨ d ≠ 0) → d + s.get .CAN_TDC_TDCO c ≤ 127 →
    exec (.canTxAttemptEnd c stamp d (.err lec dp n)) s = .next (
      let t := (s.set .CAN_TDC_TDCV c (min 127 d)).set .CAN_STAT_TX_ACTIVE c 0
      ((t.count .TXB_ATTEMPTS (3 * c + b)).set .CAN_STAT_BUS_IDLE c 1).attemptError c b (lec % 8) dp (8 * n)))
  ∧ (∀ (c b stamp d : Nat) (s : State), c < 2 → s.canOn c = true → s.flag .CAN_STAT_TX_ACTIVE c = true → (s.txbIn c [2]).head? = some b → (s.txFrame c b).brs = true → s.flag .CAN_CTL_TDC_EN c = true → s.get .CAN_STAT_MODE_NOW c ≠ 3 → 127 < d + s.get .CAN_TDC_TDCO c →
    exec (.canTxAttemptEnd c stamp d .ok) s = .next (
      let t := (s.set .CAN_TDC_TDCV c (min 127 d)).set .CAN_STAT_TX_ACTIVE c 0
      let t := (t.count .TXB_ATTEMPTS (3 * c + b)).set .CAN_STAT_BUS_IDLE c 1
      t.useFree.attemptError c b (4 + t.freeVal % 2) true 8))
  ∧ (∀ (c lec n : Nat) (dp : Bool) (s : State), c < 2 → s.canHears c = true →
    exec (.canRxError c lec dp n) s = .next (
      let t := ((s.set .CAN_ERR_LEC c (lec % 8)).set .CAN_ERR_LEC_DATA c (if dp then 1 else 0)).canInt c 11
      let t := (t.set .CAN_STAT_RX_ACTIVE c 0).set .CAN_STAT_BUS_IDLE c 1
      (t.set .CAN_ERR_REC c (min 255 (t.get .CAN_ERR_REC c + (1 + 8 * n)))).noteEstate c))
  ∧ (∀ (c stamp : Nat) (f : CanFrame) (s : State), c < 2 → s.canHears c = true → (f.fdf = false ∨ (s.flag .CAN_CTL_FD_EN c = true ∧ f.rtr = false)) → s.get .CAN_ERR_REC c ≤ 127 →
    exec (.canFrameReceived c f stamp) s = .next (
      let t := ((s.set .CAN_STAT_RX_ACTIVE c 0).set .CAN_STAT_BUS_IDLE c 1).addTo .CAN_FCNT c 1
      let t := t.set .CAN_ERR_REC c (t.get .CAN_ERR_REC c - 1)
      let t := (t.endLone c).noteEstate c
      let t := if t.get .CAN_CTL_USE c = 0 then { t with hier := { t.hier with busLast := t.hier.busLast.set c t.dt } } else t
      t.acceptFrame c f (s.clock - (s.clock - stamp) / 25 * 25)))
  ∧ (∀ (c stamp : Nat) (f : CanFrame) (s : State), c < 2 → s.canHears c = true → (f.fdf = false ∨ (s.flag .CAN_CTL_FD_EN c = true ∧ f.rtr = false)) → 127 < s.get .CAN_ERR_REC c →
    exec (.canFrameReceived c f stamp) s = .next (
      let t := ((s.set .CAN_STAT_RX_ACTIVE c 0).set .CAN_STAT_BUS_IDLE c 1).addTo .CAN_FCNT c 1
      let t := (t.set .CAN_ERR_REC c (119 + t.freeVal % 9)).useFree
      let t := (t.endLone c).noteEstate c
      let t := if t.get .CAN_CTL_USE c = 0 then { t with hier := { t.hier with busLast := t.hier.busLast.set c t.dt } } else t
      t.acceptFrame c f (s.clock - (s.clock - stamp) / 25 * 25)))
  ∧ (∀ (c stamp : Nat) (f : CanFrame) (s : State), c < 2 → s.canHears c = true → f.fdf = true → (s.flag .CAN_CTL_FD_EN c = false ∨ f.rtr = true) →
    exec (.canFrameReceived c f stamp) s = .next (s.rxError c 2 false 0))
  ∧ (∀ (c n : Nat) (s : State), c < 2 → s.canOn c = true → s.get .CAN_STAT_ESTATE c = 2 → s.get .CAN_STAT_MODE_NOW c ≠ 0 → 128 ≤ n → (s.flag .CAN_CTL_AUTO_RECOVER c = true ∨ (s.can c).recover = true) →
    exec (.busoffRecovery c n) s = .next (
      let t := ((s.set .CAN_ERR_TEC c 0).set .CAN_ERR_REC c 0).set .CAN_STAT_ESTATE c 0
      (t.canInt c 7).modCan c (fun x => { x with recover := false })))

/-- The listen window, the join timeout, heartbeats sent, lost and heard, elections and their ends, announcements, joins
and leaves act as given on a device in the state each rule names. (12_hierarchy.md R277, 12_hierarchy.md R278,
12_hierarchy.md R284, 12_hierarchy.md R285, 12_hierarchy.md R286, 12_hierarchy.md R288, 12_hierarchy.md R289,
12_hierarchy.md R290, 12_hierarchy.md R294). It rests on the model's own choices of notes/assumptions/130.md and
notes/assumptions/154.md. -/
def Obligations.MembershipEvents : Prop :=
  (∀ (s : State), s.hier.st = some 3 → s.hier.conflict = false → s.hier.listened = false → s.hier.tj + 20000000 ≤ s.dt →
    exec (.listenWindowEnd) s = .next (
      let t := { s with hier := { s.hier with listened := true } }
      if s.hier.heard then (t.hierMode 1).sendJoin s.hier.mgr
      else if t.flag .AON_HIER_ROLE && t.flag .SYS_STRAP_MGR_ELIG && !s.hier.electOn then (t.hierMode 1).becomeManager
      else t))
  ∧ (∀ (s : State), s.hier.st = some 3 → s.hier.conflict = false → s.hier.heard = false → s.hier.tj + 1000000000 ≤ s.dt →
    exec (.joinTimeout) s = .next (
      let t := s.hierMode 1
      if t.flag .SYS_STRAP_MGR_ELIG then t.startElection (s.hier.tj + 1000000000) else t.becomeIsland false))
  ∧ (∀ (s : State), s.beats = true → s.hier.hbTick < s.clock / 10000000 →
    exec (.heartbeatSend) s = .next (
      let data := [s.hier.hbSeq, s.hier.rank, s.hier.active + 2 * b2n (s.hier.st == some 2), s.hier.poolGen % 256]
        ++ toLE 8 s.memberMask ++ toLE 4 s.hier.elections
      let t := (s.hwithdraw tHEARTBEAT).hsendAll tHEARTBEAT 1 63 data
      { t with hier := { t.hier with hbTick := s.clock / 10000000, hbSeq := (s.hier.hbSeq + 1) % 256, hbSent := t.clock } }))
  ∧ (∀ (m : HMsg) (s t : State), Safety.heardAs tHEARTBEAT m s t → m.dst = 63 → t.hier.st = some 0 → m.src = t.hier.mgr →
    exec (.heartbeat m) s = .next (
      let u := t.onBus (m.u8 2 % 2)
      { u with hier := { u.hier with
          lastHb := m.stamp - u.stepped, hbSent := m.stamp,
          mgrIsland := bit (m.u8 2) 1, memMask := m.u64 4 } }))
  ∧ (∀ (m : HMsg) (s t : State), Safety.heardAs tHEARTBEAT m s t → m.dst = 63 → t.hier.st = some 1 →
    exec (.heartbeat m) s = .next (if better (m.u8 1) m.src t.hier.rank t.idx then (t.onBus (m.u8 2 % 2)).demote m.src (m.u8 1) m.stamp else t))
  ∧ (∀ (m : HMsg) (s t : State), Safety.heardAs tHEARTBEAT m s t → m.dst = 63 → t.hier.st = some 4 →
    exec (.heartbeat m) s = .next (((t.onBus (m.u8 2 % 2)).takeManager m.src (m.u8 1) m.stamp true).sendWstatus))
  ∧ (∀ (m : HMsg) (s t : State), Safety.heardAs tHEARTBEAT m s t → m.dst = 63 → t.hier.st = some 3 →
    exec (.heartbeat m) s = .next (
      let u := t.onBus (m.u8 2 % 2)
      let u := { u with hier := { u.hier with
          heard := true, mgr := m.src, lastHb := m.stamp - u.stepped, hbSent := m.stamp,
          mgrIsland := bit (m.u8 2) 1, memMask := m.u64 4 } }
      if u.hier.listened = true ∧ u.dt < u.hier.tj + 1000000000 then (u.hierMode 1).sendJoin m.src else u))
  ∧ (∀ (s : State), s.hier.st = some 0 → s.hier.lastHb + 30000000 ≤ s.dt →
    exec (.heartbeatLoss) s = .next (s.startElection (s.hier.lastHb + 30000000)))
  ∧ (∀ (m : HMsg) (s t : State), Safety.heardAs tELECT m s t → t.hier.st = some 4 → t.hier.candidate = true → better m.src m.seg t.hier.rank t.idx = true →
    exec (.elect m) s = .next (({ t with hier := { t.hier with candidate := false } } : State).hwithdraw tELECT))
  ∧ (∀ (m : HMsg) (s t : State), Safety.heardAs tELECT m s t → t.hier.st = some 3 →
    exec (.elect m) s = .next ({ t with hier := { t.hier with electOn := true } }))
  ∧ (∀ (s : State), s.hier.st = some 4 → s.hier.tL + 20000000 ≤ s.dt → s.hier.frames = false →
    exec (.electionWindowEnd) s = .next ((s.hwithdraw tELECT).becomeIsland true))
  ∧ (∀ (s : State), s.hier.st = some 4 → s.hier.tL + 20000000 ≤ s.dt → s.hier.frames = true → s.hier.candidate = true →
    exec (.electionWindowEnd) s = .next (
      let t := (s.hwithdraw tELECT).becomeManager
      let t := { t with hier := { t.hier with
        elections := s.hier.elections + 1, lendFrom := s.hier.tL + 221000000,
        members := t.hier.members.map (fun (m : Member) => { m with absent := true }) } }
      let t := t.hsend tANNOUNCE 0 63 ([s.hier.rank, 0, 0, 0] ++ toLE 4 t.hier.elections)
      t.hierEvent t.idx 3 [(3, 1, s.hier.mgr)]))
  ∧ (∀ (s : State), s.hier.st = some 4 → s.hier.frames = true → s.hier.tL + 30000000 ≤ s.dt →
    exec (.electionRetry) s = .next (s.startElection (s.hier.tL + 30000000)))
  ∧ (∀ (m : HMsg) (s t : State), Safety.heardAs tANNOUNCE m s t → t.hier.st = some 0 → m.src = t.hier.mgr →
    exec (.announce m) s = .next (t.sendWstatus))
  ∧ (∀ (m : HMsg) (s t : State), Safety.heardAs tANNOUNCE m s t → t.hier.st = some 3 →
    exec (.announce m) s = .next ({ t with hier := { t.hier with electOn := false } }))
  ∧ (∀ (m : HMsg) (s t : State), Safety.heardAs tANNOUNCE m s t → t.hier.st = some 4 →
    exec (.announce m) s = .next ((t.takeManager m.src (m.u8 0) m.stamp true).sendWstatus))
  ∧ (∀ (m : HMsg) (s t : State), Safety.heardAs tANNOUNCE m s t → t.hier.st = some 1 →
    exec (.announce m) s = .next (if better (m.u8 0) m.src t.hier.rank t.idx then t.demote m.src (m.u8 0) m.stamp else t))
  ∧ (∀ (m : HMsg) (s t : State), Safety.heardAs tJOIN m s t → t.forMe m = true → t.hier.st = some 1 → t.presentWorker m.src = true →
    exec (.join m) s = .next (t.hsend tJOIN_ACK 3 m.src ([1, t.hier.rank, 0, 0] ++ toLE 4 t.hier.poolGen)))
  ∧ (∀ (m : HMsg) (s t : State), Safety.heardAs tJOIN m s t → t.forMe m = true → t.hier.st = some 1 → t.presentWorker m.src = false →
    exec (.join m) s = .next (
      let old := (t.hier.members.find? (fun (x : Member) => x.idx == m.src)).getD ({ idx := m.src } : Member)
      let new : Member := { old.settled with rank := m.u8 0, elig := bit (m.u8 1) 0, absent := false, last := t.dt }
      let u := { t with
          hier := { t.hier with
          members := t.hier.members.filter (fun (x : Member) => x.idx != m.src) ++ [new], lendFrom := t.dt + 200000000 } }
      let u := u.hsend tJOIN_ACK 3 m.src ([0, u.hier.rank, 0, 0] ++ toLE 4 u.hier.poolGen)
      u.sendPools.hierEvent m.src 0 [(3, 1, b2n (bit (m.u8 1) 0))]))
  ∧ (∀ (m : HMsg) (s t : State), Safety.heardAs tJOIN_ACK m s t → t.forMe m = true → t.hier.st = some 3 → m.u8 0 = 0 →
    exec (.joinAck m) s = .next (
      let u := (t.takeManager m.src (m.u8 1) m.stamp false).joined
      let u := { u with hier := { u.hier with lastHb := t.hier.lastHb, hbSent := t.hier.hbSent } }
      u.hierEvent u.idx 0 [(3, 1, u.get .SYS_STRAP_MGR_ELIG)]))
  ∧ (∀ (m : HMsg) (s t : State), Safety.heardAs tLEAVE m s t → t.forMe m = true → t.presentWorker m.src = true →
    exec (.leave m) s = .next (t.memberGone m.src (m.u8 0)))
  ∧ (∀ (w : Nat) (s : State), w = s.wsSlot → s.hier.st = some 0 → s.hier.mgr < 64 → s.hier.wsTick < w →
    exec (.wstatusSend) s = .next (
      let t := s.sendWstatus
      { t with hier := { t.hier with wsTick := w } }))
  ∧ (∀ (m : HMsg) (s t : State), Safety.heardAs tWSTATUS m s t → t.forMe m = true → (t.hier.st = some 1 ∨ t.hier.st = some 2) →
    exec (.wstatus m) s = .next (
      let v := t.memberTimeout m.src
      let col (i : Nat) : List Nat := (List.range 8).map (fun k => m.u16 (8 * k + i))
      let old := (v.hier.members.find? (fun (x : Member) => x.idx == m.src)).getD { idx := m.src, target := col 2 }
      let new : Member := { old with
          absent := false, last := v.dt, budget := col 0,
          loan := if old.sentAt = none then col 2 else old.loan, want := col 4, draw := col 6 }
      { v with hier := { v.hier with members := v.hier.members.filter (fun (x : Member) => x.idx != m.src) ++ [new] } }))
  ∧ (∀ (i : Nat) (s : State), (s.hier.st = some 1 ∨ s.hier.st = some 2) → s.hier.members.any (fun m => m.idx == i && !m.absent && m.last + 300000000 ≤ s.dt) = true →
    exec (.memberAbsent i) s = .next (s.memberGone i 3))

/-- TSYNC and TFOLLOW go out as given and are stamped; a worker's offset is judged; DREQ and DRESP give the path delay;
the lock is lost after 500 ms. (12_hierarchy.md R299, 12_hierarchy.md R300, 12_hierarchy.md R301, 12_hierarchy.md
R302). It rests on the model's own choices of notes/assumptions/51.md, notes/assumptions/52.md and
notes/assumptions/38.md. -/
def Obligations.DeviceTimeEvents : Prop :=
  (∀ (s : State), s.hier.st = some 1 → s.hier.tsTick < s.clock / 125000000 →
    exec (.tsyncSend) s = .next (
      let q := (s.hier.tsSeq + 1) % 256
      let t := (s.hwithdraw tTSYNC).hsendAll tTSYNC 1 63 [q, 0, 0, 0]
      { t with hier := { t.hier with tsTick := s.clock / 125000000, tsSeq := q, tsSent := [none, none] } }))
  ∧ (∀ (m : HMsg) (s t : State), Safety.heardAs tTSYNC m s t → t.fromMgr m = true →
    exec (.tsync m) s = .next ({ t with hier := { t.hier with tsStamp := t.hier.tsStamp.set m.bus (some (m.u8 0, m.stamp)) } }))
  ∧ (∀ (b t1 : Nat) (s : State), s.hier.tsSent.getD b none = some t1 → s.hier.st = some 1 → b < 2 →
    exec (.tfollowSend b) s = .next (
      let t := s.hsendOn b tTFOLLOW 1 63 0 s.idx ([s.hier.tsSeq] ++ List.replicate 7 0 ++ toLE 8 t1)
      { t with hier := { t.hier with tsSent := t.hier.tsSent.set b none } }))
  ∧ (∀ (m : HMsg) (t2 : Nat) (v : State) (s t : State), Safety.heardAs tTFOLLOW m s t → v = t.followLoss → v.fromMgr m = true → v.hier.lastFseq ≠ some (m.u8 0) → v.hier.tsStamp.getD m.bus none = some (m.u8 0, t2) →
    exec (.tfollow m) s = .next (
      let a : Int := (t2 : Int) - m.u64 8
      let due := if v.hier.joinFollow = true ∨ m.u8 0 % 8 = v.idx % 8 then some (v.dt + 2000000) else v.hier.dreqAt
      let u := { v with hier := { v.hier with
          aDiff := some a, lastFollow := v.dt, lastFseq := some (m.u8 0),
          joinFollow := false, dreqAt := due } }
      u.judgeOffset (a - v.hier.delay)))
  ∧ (∀ (d : Nat) (s : State), s.hier.dreqAt = some d → s.hier.st = some 0 → s.hier.mgr < 64 → d ≤ s.dt →
    exec (.dreqSend) s = .next (
      let q := (s.hier.dreqSeq + 1) % 256
      let t := (s.hwithdraw tDREQ).hsend tDREQ 1 s.hier.mgr [q, 0, 0, 0]
      { t with hier := { t.hier with dreqAt := none, dreqSeq := q, dreqStamp := none } }))
  ∧ (∀ (m : HMsg) (a : Nat) (s t : State), Safety.heardAs tDREQ m s t → t.forMe m = true → t.hier.st = some 1 →
    exec (.dreq m a) s = .next (
      let u := t.hsend tDRESP 1 m.src ([m.u8 0] ++ List.replicate 7 0 ++ toLE 8 m.stamp)
      if 1000000 ≤ a then u.stepTime a else u))
  ∧ (∀ (m : HMsg) (a : Int) (t3 : Nat) (s t : State), Safety.heardAs tDRESP m s t → t.fromMgr m = true → t.forMe m = true → m.u8 0 = t.hier.dreqSeq → t.hier.aDiff = some a → t.hier.dreqStamp = some t3 →
    exec (.dresp m) s = .next (
      let b : Int := (m.u64 8 : Int) - t3
      let u := { t with hier := { t.hier with delays := ((a + b) / 2 :: t.hier.delays).take 4, dreqStamp := none } }
      if t.hier.delays = [] then u.judgeOffset ((a - b) / 2) else u))
  ∧ (∀ (s : State), s.flag .TIME_STAT_LOCKED = true → s.hier.lastFollow + 500000000 ≤ s.dt →
    exec (.timeUnlockTimeout) s = .next (s.unlockTime 1))

/-- A segment joins its packet and the last one delivers it; a partial packet is dropped after 5 ms; an event of a worker
is delivered; loans are computed, sent, applied, acknowledged and raised; the pool image is kept by its generation; a
firmware distribution gathers chunks, asks for what is missing and checks the image as given. (12_hierarchy.md R291,
12_hierarchy.md R292, 12_hierarchy.md R293, 12_hierarchy.md R296, 12_hierarchy.md R297, 12_hierarchy.md R298,
12_hierarchy.md R303, 12_hierarchy.md R304, 12_hierarchy.md R305). It rests on the model's own choices of
notes/assumptions/39.md, notes/assumptions/55.md and notes/assumptions/186.md. -/
def Obligations.ForwardingLoanAndFirmwareEvents : Prop :=
  (∀ (m : HMsg) (cls : Nat) (s t : State), Safety.heardAs tCMD m s t → t.fromMgr m = true → t.forMe m = true → cls < 3 →
    exec (.cmdSegment m cls) s = .next (match (t.takeSegment false m cls).2 with
      | some bs => receivePacket .hierarchy m.src bs (t.takeSegment false m cls).1
      | none => (t.takeSegment false m cls).1))
  ∧ (∀ (m : HMsg) (cls : Nat) (u : State) (s t : State), Safety.heardAs tRPL m s t → t.forMe m = true → (t.hier.st = some 1 ∨ t.hier.st = some 2) → cls < 3 → t.takeSegment true m cls = (u, none) →
    exec (.rplSegment m cls) s = .next (u))
  ∧ (∀ (m : HMsg) (cls : Nat) (u : State) (bs : List Nat) (f : Forwarded) (s t : State), Safety.heardAs tRPL m s t → t.forMe m = true → (t.hier.st = some 1 ∨ t.hier.st = some 2) → cls < 3 → t.takeSegment true m cls = (u, some bs) → forwardOf u.ecx.forwards m.src bs = some f → u.dt < f.deadline →
    exec (.rplSegment m cls) s = .next (u.endForward f (replyOf f.pkt.chan bs)))
  ∧ (∀ (m : HMsg) (cls : Nat) (u : State) (bs : List Nat) (f : Forwarded) (s t : State), Safety.heardAs tRPL m s t → t.forMe m = true → (t.hier.st = some 1 ∨ t.hier.st = some 2) → cls < 3 → t.takeSegment true m cls = (u, some bs) → forwardOf u.ecx.forwards m.src bs = some f → f.deadline ≤ u.dt →
    exec (.rplSegment m cls) s = .next (u.forwardLate f))
  ∧ (∀ (m : HMsg) (cls : Nat) (u : State) (bs : List Nat) (f : Forwarded) (s t : State), Safety.heardAs tRPL m s t → t.forMe m = true → (t.hier.st = some 1 ∨ t.hier.st = some 2) → cls < 3 → t.takeSegment true m cls = (u, some bs) → forwardOf u.ecx.forwards m.src bs = none → leAt bs 8 2 = stREPLACED → forwardOf u.ecx.deferrals m.src bs = some f →
    exec (.rplSegment m cls) s = .next (u.endDeferral f (replyOf f.pkt.chan bs)))
  ∧ (∀ (r : Bool) (src cls : Nat) (s : State), 
    exec (.segmentTimeout r src cls) s = .next ({ s with hier := { s.hier with
          segs := s.hier.segs.filter (fun x =>
          !(x.reply == r && x.src == src && x.cls == cls && x.last + 5000000 ≤ s.dt)) } }))
  ∧ (∀ (m : HMsg) (s t : State), Safety.heardAs tEVENT m s t → t.forMe m = true → (t.hier.st = some 1 ∨ t.hier.st = some 2) →
    exec (.eventFrame m) s = .next (
      let u := (t.deliverEvent (recordOf m.data)).flagWake
      { u with ecx := { u.ecx with faultLog := t.ecx.faultLog } }))
  ∧ (∀ (s t : State), s.hier.st = some 1 → s.hier.loanTick < s.clock / 100000000 → s.hier.lendFrom ≤ s.dt → t = { s with hier := { s.hier with loanTick := s.clock / 100000000 } } →
    exec (.loanCompute) s = .next (
      let ls := (List.range 16).flatMap t.poolLoans
      let own := t.selfMember.retarget ls
      let u := { t with
          hier := { t.hier with
          members := t.hier.members.map (fun (m : Member) => if m.absent then m else m.retarget ls), ownTarget := own.target } }
      let u := (List.range 8).foldl (fun s k =>
        if bit own.falls k then
          let v := s.setLoan k (own.target.getD k 0)
          { v with hier := { v.hier with lowAt := v.dt } }
        else s) u
      let u := (List.range 8).foldl (fun s k => s.set .SKN_BSTAT_LOAN_FROZEN k 0) u
      u.hier.members.foldl (fun (s : State) (m : Member) =>
        if m.absent || m.falls == 0 || m.sentAt.isSome then s else s.nextGen.1.sendLoan m m.falls s.nextGen.2) u))
  ∧ (∀ (m : HMsg) (s t : State), Safety.heardAs tLOAN m s t → t.fromMgr m = true → t.forMe m = true → (maskBits 8 (m.u8 1)).all (fun k => !t.skHeld k && !t.linkDead k) = true →
    exec (.loan m) s = .next (
      let u := (maskBits 8 (m.u8 1)).foldl (fun s k => s.setLoan k (m.u16 (4 + 2 * k))) t
      let u := if u.hier.mgrIsland then u else (List.range 8).foldl (fun s k => s.set .SKN_BSTAT_LOAN_FROZEN k 0) u
      u.hsend tLOAN_ACK 2 m.src [m.u8 0, 0, 0, 0]))
  ∧ (∀ (m : HMsg) (x : Member) (a : Nat) (s t : State), Safety.heardAs tLOAN_ACK m s t → t.forMe m = true → t.hier.members.find? (fun (x : Member) => x.idx == m.src) = some x → x.sentAt = some a → t.receivedAt m < a + 50000000 → x.gen = m.u8 0 →
    exec (.loanAck m) s = .next (
      let took (k : Nat) : Bool := bit x.sentMask k && !bit (m.u8 1) k
      let loan := (List.range 8).map (fun k => if took k then x.sent.getD k 0 else x.loan.getD k 0)
      let target := (List.range 8).map (fun k =>
        if bit x.sentMask k && !took k then x.loan.getD k 0 else x.target.getD k 0)
      let u := t.modMember m.src (fun x => { x with loan := loan, target := target, sentAt := none })
      if (List.range 8).any (fun k => took k && x.sent.getD k 0 < x.loan.getD k 0) then { u with hier := { u.hier with lowAt := u.dt } } else u))
  ∧ (∀ (i a : Nat) (m : Member) (s : State), s.hier.members.find? (fun m => m.idx == i) = some m → m.sentAt = some a → s.hier.st = some 1 → m.absent = false → a + 50000000 ≤ s.dt → s.hier.lendFrom ≤ s.dt →
    exec (.loanResend i) s = .next (s.putLoan m m.sentMask m.gen m.sent))
  ∧ (∀ (s : State), s.hier.st = some 1 → s.hier.members.all (fun m => m.absent || (m.sentAt.isNone && m.falls == 0)) = true → (s.hier.lowAt = 0 ∨ s.hier.lowAt + 100000000 ≤ s.dt) → s.hier.lendFrom ≤ s.dt →
    exec (.loanRaise) s = .next (
      let own : Member := { s.selfMember with target := s.hier.ownTarget }
      let r := s.fitRaises own []
      let out := s.hier.members.foldl (fun (acc : State × List (Nat × Nat)) (m : Member) =>
        if m.absent || m.rises == 0 || (s.fitRaises m acc.2).1 == 0 then acc
        else (acc.1.nextGen.1.sendLoan m (s.fitRaises m acc.2).1 acc.1.nextGen.2, (s.fitRaises m acc.2).2)) (s, r.2)
      (maskBits 8 r.1).foldl (fun s k => s.setLoan k (own.target.getD k 0)) out.1))
  ∧ (∀ (m : HMsg) (parts : List (Nat × List Nat)) (img : List Nat) (s t : State), Safety.heardAs tPOOL_SYNC m s t → (t.hier.st ≠ some 0 ∨ m.src = t.hier.mgr) → parts = (if t.hier.poolSrc = m.src then t.hier.poolSegs else []).filter (fun x => x.1 != m.seg && m.seg != 0) ++ [(m.seg, m.data)] → img = (List.range 10).flatMap (fun i => ((parts.find? (fun x => x.1 == i)).map (fun x => x.2)).getD []) → 580 ≤ img.length → (List.range 10).all (fun i => parts.any (fun x => x.1 == i)) = true → t.hier.poolGen < leAt img 0 4 →
    exec (.poolSync m) s = .next (
      let of := (List.range 512).filterMap (fun j =>
        if img.getD (68 + j) 255 ≤ 15 then some (j / 8, j % 8, img.getD (68 + j) 255) else none)
      { t with hier := { t.hier with
          poolSegs := [], poolGen := leAt img 0 4, poolOf := of,
          caps := (List.range 16).map (fun p => leAt img (4 + 4 * p) 4) } }))
  ∧ (∀ (s : State), s.hier.st = some 1 → s.hier.poolAt + 10000000000 ≤ s.dt →
    exec (.poolSyncPeriodic) s = .next (s.sendPools))
  ∧ (∀ (m : HMsg) (s t : State), Safety.heardAs tFW_CTRL m s t → t.fromMgr m = true → m.u8 0 = 1 → bit (m.u64 16) t.idx = false →
    exec (.fwCtrl m) s = .next (t.modFw (fun f => { f with deaf := true })))
  ∧ (∀ (m : HMsg) (s t : State), Safety.heardAs tFW_CTRL m s t → t.fromMgr m = true → m.u8 0 = 1 → bit (m.u64 16) t.idx = true →
    exec (.fwCtrl m) s = .next (
      let f : FwDist := { gather := true, count := m.u16 2, len := m.u32 4, crc := m.u32 8, version := m.u32 12, cur := 65535 }
      t.modFw (fun _ => f)))
  ∧ (∀ (m : HMsg) (s t : State), Safety.heardAs tFW_CTRL m s t → t.fromMgr m = true → t.hier.fw.gather = true → t.hier.fw.deaf = false → m.u8 0 = 2 →
    exec (.fwCtrl m) s = .next (t.modFw (fun f => { f with cur := m.u16 2, curLen := min 4096 (m.u32 4), curCrc := m.u32 8, segs := [] })))
  ∧ (∀ (m : HMsg) (s t : State), Safety.heardAs tFW_CTRL m s t → t.fromMgr m = true → t.hier.fw.gather = true → t.hier.fw.deaf = false → m.u8 0 = 3 → t.hier.fw.writing = false → t.hier.fw.lacks = [] →
    exec (.fwCtrl m) s = .next (t.modFw (fun f => { f with rounds := m.u8 1 + 1, segs := [], cur := 65535, writing := true })))
  ∧ (∀ (m : HMsg) (s t : State), Safety.heardAs tFW_CTRL m s t → t.fromMgr m = true → t.hier.fw.gather = true → t.hier.fw.deaf = false → m.u8 0 = 3 → t.hier.fw.writing = false → t.hier.fw.lacks ≠ [] →
    exec (.fwCtrl m) s = .next (
      let u := t.modFw (fun f => { f with rounds := m.u8 1 + 1, segs := [], cur := 65535 })
      let u := u.sendNack (m.u8 1) 0 (t.hier.fw.lacks.take 30)
      if 7 ≤ m.u8 1 then (u.modFw (fun _ => {})).hierEvent (u.modFw (fun _ => {})).idx 14 [(3, 1, 0)] else u))
  ∧ (∀ (m : HMsg) (s t : State), Safety.heardAs tFW_CTRL m s t → t.fromMgr m = true → t.hier.fw.gather = true → t.hier.fw.deaf = false → m.u8 0 = 4 →
    exec (.fwCtrl m) s = .next (t.modFw (fun _ => {})))
  ∧ (∀ (m : HMsg) (segs : List (Nat × List Nat)) (s t : State), Safety.heardAs tFW_DATA m s t → t.fromMgr m = true → t.hier.fw.gather = true → t.hier.fw.deaf = false → t.hier.fw.cur < t.hier.fw.count → segs = t.hier.fw.segs.filter (fun x => x.1 != m.seg) ++ [(m.seg, m.data)] →
    exec (.fwData m) s = .next (
      let f := t.hier.fw
      let n := (f.curLen + 63) / 64
      if (List.range n).all (fun i => segs.any (fun x => x.1 == i)) then
        let bs := ((List.range n).flatMap (fun i => ((segs.find? (fun x => x.1 == i)).map (fun x => x.2)).getD [])).take
          f.curLen
        if crc32 bs = f.curCrc then
          t.modFw (fun f => { f with segs := [], chunks := f.chunks.filter (fun x => x.1 != f.cur) ++ [(f.cur, bs)] })
        else t.modFw (fun f => { f with segs := [] })
      else t.modFw (fun f => { f with segs := segs })))
  ∧ (∀ (m : HMsg) (s t : State), Safety.heardAs tFW_NACK m s t → t.forMe m = true → t.hier.st = some 1 → t.hier.fw.sending = true → m.u8 0 = t.hier.fw.round → m.u8 1 = 0 → (t.hier.fw.endAt = 0 ∨ t.receivedAt m < t.hier.fw.endAt) →
    exec (.fwNack m) s = .next (
      let cs := (List.range (min 30 (m.u8 2))).map (fun i => m.u16 (4 + 2 * i))
      t.modFw (fun f => { f with
          missing := cs.foldl (fun l c =>
          if l.contains c || chunkCount t.fwImage.length ≤ c then l else l ++ [c]) f.missing })))
  ∧ (∀ (s : State), s.hier.fw.sending = true → s.hier.fw.ended = true → s.hier.fw.endAt ≠ 0 → s.hier.fw.endAt ≤ s.dt → s.hier.fw.missing ≠ [] → s.hier.fw.round < 7 →
    exec (.fwNackWindowEnd) s = .next (s.modFw (fun f => { f with
          round := f.round + 1, ended := false, endAt := 0, missing := [],
          waiting := sortBy (fun a b => a < b) s.hier.fw.missing })))
  ∧ (∀ (s : State), s.hier.fw.sending = true → s.hier.fw.ended = true → s.hier.fw.endAt ≠ 0 → s.hier.fw.endAt ≤ s.dt → (s.hier.fw.missing = [] ∨ 7 ≤ s.hier.fw.round) →
    exec (.fwNackWindowEnd) s = .next (s.modFw (fun _ => {})))
  ∧ (∀ (img : List Nat) (s t : State), s.hier.fw.writing = true → img = ((List.range s.hier.fw.count).flatMap (fun c => ((s.hier.fw.chunks.find? (fun x => x.1 == c)).map (fun x => x.2)).getD [])).take s.hier.fw.len → t = s.modFw (fun _ => {}) → t.noFlash = false →
    exec (.workerImageWritten) s = .next (
      let f := s.hier.fw
      let c := if crc32 img != f.crc then 1 else imageCheck t img
      let u := t.setSlot t.otherSlot { bytes := img, state := if c = 0 then 2 else 1 }
      let u := { u with boot := { u.boot with verified := c == 0 } }
      let u := if c = 0 then u else (u.set .SEC_BOOT_FAIL 0 c).setBit .SEC_EVT 0 4
      let r := if c = 0 then 1 else if c = 5 then 3 else 2
      let u := u.sendNack (f.rounds - 1) r []
      if c = 0 then u.hierEvent u.idx 13 [(3, 1, f.rounds), (4, 4, f.version)] else u.hierEvent u.idx 14 [(3, 1, r)]))

/-- Each step of an enumeration that runs moves the device on as given; a failure, a timeout or a rejection ends the
attempt; the reset of a device restores it or treats it as detached. (07_shuttle_engines.md R154,
07_shuttle_engines.md R157, 07_shuttle_engines.md R158, 07_shuttle_engines.md R159, 07_shuttle_engines.md R161,
07_shuttle_engines.md R163, 07_shuttle_engines.md R174, 05_port_lifecycle.md R117). It rests on the model's own
choices of notes/assumptions/121.md and notes/assumptions/125.md. -/
def Obligations.EnumerationEvents : Prop :=
  (∀ (port route : Nat) (speed : Nat) (d : Dev) (s : State), s.dev? port route = some d → s.enumRuns port = true → d.stage = .reset → d.since + 50000000 ≤ s.dt → 1 ≤ speed → speed ≤ 3 →
    exec (.enumResetEnd port route speed) s = .next (
      let t := s.modDev port route (fun d => { d with stage := .recovery, since := s.dt, speed := speed })
      let t := t.modCtx d.ep0 (fun c => { c with
        speed := speed, mps := ep0Mps speed, ttPort := t.ttPortOf speed d.hubPort (t.devByEp0 d.parent) })
      if d.tier = 1 then t.set .PORT_LIFE_SPEED port speed else t))
  ∧ (∀ (port route : Nat) (d : Dev) (s : State), s.dev? port route = some d → s.enumRuns port = true → d.stage = .recovery → d.since + 10000000 ≤ s.dt →
    exec (.enumRecoveryEnd port route) s = .next (s.enumRequest d .dev8))
  ∧ (∀ (port route : Nat) (st : Nat) (data : List Nat) (d : Dev) (s : State), s.dev? port route = some d → s.enumRuns port = true → d.inTime .dev8 s.dt = true → d.stage = .request .dev8 → (st = wOK ∨ st = wSHORT) →
    exec (.enumRequestComplete port route st data) s = .next ((s.modCtx d.ep0 (fun c => { c with mps := data.getD 7 64 })).enumNext port route .dev8))
  ∧ (∀ (port route : Nat) (r : EnumReq) (st : Nat) (data : List Nat) (d : Dev) (s : State), s.dev? port route = some d → s.enumRuns port = true → d.inTime r s.dt = true → d.stage = .request r → (st = wSTALL ∨ st = wBABBLE ∨ st = wXACT_ERR) → r.isString = false → r ≠ .hubSetup →
    exec (.enumRequestComplete port route st data) s = .next (
      let t := if st = wXACT_ERR then (s.count .SHT_ERR_XACT_ERR_CNT (s.shuttleOf port) 3).modCtx d.ep0 (fun c => { c with errors := satAdd c.errors 3 65535 }) else s
      (t.attemptFailed d st).poolService))
  ∧ (∀ (port route : Nat) (st a : Nat) (data : List Nat) (d : Dev) (s : State), s.dev? port route = some d → s.enumRuns port = true → d.inTime .setAddress s.dt = true → d.stage = .request .setAddress → (st = wOK ∨ st = wSHORT) → s.freeAddr port = some a →
    exec (.enumRequestComplete port route st data) s = .next (
      let t := s.modCtx d.ep0 (fun c => { c with addr := a })
      t.modDev port route (fun d => { d with addr := a, stage := .addrWait, since := t.dt })))
  ∧ (∀ (port route : Nat) (d : Dev) (s : State), s.dev? port route = some d → s.enumRuns port = true → d.stage = .addrWait → d.since + 2000000 ≤ s.dt → s.dt < d.attempt + 2000000000 →
    exec (.enumWaitEnd port route) s = .next (s.enumRequest d .devFull))
  ∧ (∀ (port route : Nat) (d : Dev) (s : State), s.dev? port route = some d → s.enumRuns port = true → d.stage = .powerWait → d.since + 2000000 * d.need ≤ s.dt → s.dt < d.attempt + 2000000000 →
    exec (.enumWaitEnd port route) s = .next (s.modDev port route (fun d => { d with stage := .step7, since := s.dt })))
  ∧ (∀ (port route : Nat) (r : EnumReq) (d : Dev) (s : State), s.dev? port route = some d → s.enumRuns port = true → d.stage = .request r → r ≠ .setAddress → r ≠ .hubSetup → d.since + 500000000 ≤ s.dt →
    exec (.enumRequestTimeout port route) s = .next (if r.isString then (s.enumStore d r false []).enumNext port route r else (s.attemptFailed d wENUM_TIMEOUT).poolService))
  ∧ (∀ (port route : Nat) (d : Dev) (s : State), s.dev? port route = some d → s.enumRuns port = true → d.stage = .request .setAddress → d.since + 50000000 ≤ s.dt →
    exec (.setAddressTimeout port route) s = .next ((s.attemptFailed d wENUM_TIMEOUT).poolService))
  ∧ (∀ (port route : Nat) (d : Dev) (s : State), s.dev? port route = some d → s.enumRuns port = true → d.stage.beforeStep7 = true → d.attempt + 2000000000 ≤ s.dt →
    exec (.enumAttemptTimeout port route) s = .next ((s.attemptFailed d wENUM_TIMEOUT).poolService))
  ∧ (∀ (port route : Nat) (d : Dev) (s : State), s.dev? port route = some d → s.enumRuns port = true → d.stage = .retryWait → d.since + 100000000 ≤ s.dt →
    exec (.enumRetryWaitEnd port route) s = .next (s.beginAttempt d))
  ∧ (∀ (port route : Nat) (d : Dev) (s : State), s.dev? port route = some d → s.enumRuns port = true → d.stage = .step7 →
    exec (.enumerationComplete port route) s = .next ((s.enumDone d).poolService))
  ∧ (∀ (port route : Nat) (ds : DevDescs) (d : Dev) (s : State), s.dev? port route = some d → s.enumRuns port = true → d.stage = .restore → d.since + 50000000 ≤ s.dt → ds.device = d.devDesc → ds.config.take 7168 = d.cachedConfig →
    exec (.deviceResetComplete port route ds) s = .next (
      let t := s.modDev port route (fun d => { d with stage := .done })
      let t := { t with loom := { t.loom with ctxs := t.loom.ctxs.map (fun (c : Ctx) =>
        if c.devEp0 = d.ep0 ∧ c.port = port then { c with toggle := 0, errRun := 0 } else c) } }
      t.resumeSetup { d with stage := .done }))
  ∧ (∀ (port route : Nat) (ds : DevDescs) (d : Dev) (s : State), s.dev? port route = some d → s.enumRuns port = true → d.stage = .restore → d.since + 50000000 ≤ s.dt → (ds.device ≠ d.devDesc ∨ ds.config.take 7168 ≠ d.cachedConfig) → d.tier = 1 →
    exec (.deviceResetComplete port route ds) s = .next (((s.startDetach port wDEVICE_GONE).startEnum port).poolService))
  ∧ (∀ (port route : Nat) (ds : DevDescs) (d : Dev) (s : State), s.dev? port route = some d → s.enumRuns port = true → d.stage = .restore → d.since + 50000000 ≤ s.dt → (ds.device ≠ d.devDesc ∨ ds.config.take 7168 ≠ d.cachedConfig) → d.tier ≠ 1 →
    exec (.deviceResetComplete port route ds) s = .next (
      let t := s.devGone d
      let e : Dev := { port := port, route := route, tier := d.tier, hubPort := d.hubPort, parent := d.parent, conn := t.now, since := t.dt, attempt := t.dt }
      (({ t with loom := { t.loom with devs := t.loom.devs ++ [e] } } : State).beginAttempt e).poolService))
  ∧ (∀ (n : Nat) (c : Ctx) (s : State), s.ctx? n = some c → 16 ≤ n → c.closing = true → c.recs = [] → c.unformed = [] →
    exec (.contextRelease n) s = .next (
      let u := (s.releaseCtx n).swapContext c
      (u.loom.devs.foldl State.resumeSetup u).poolService))

/-- A microframe, a move, a transaction of an open endpoint of an enumerated device, and the suspend and resume of a tree
act as given; what a transaction leaves is the rule's own function of its context. (07_shuttle_engines.md R145,
07_shuttle_engines.md R149, 07_shuttle_engines.md R150, 07_shuttle_engines.md R151, 07_shuttle_engines.md R152,
07_shuttle_engines.md R153, 07_shuttle_engines.md R167, 07_shuttle_engines.md R168, 07_shuttle_engines.md R170,
07_shuttle_engines.md R171, 07_shuttle_engines.md R172). It rests on the model's own choices of
notes/assumptions/31.md, notes/assumptions/109.md and notes/assumptions/185.md. -/
def Obligations.ShuttleEvents : Prop :=
  (∀ (j l : Nat) (s : State), j < 13 → s.domOn (dSH j) = true → s.flag .PWRD_CLK_TCLK_RUN = true → (s.shut j).lastMf < s.microframe → (s.get .SHT_STAT_STATE j = 1 ∨ s.get .SHT_STAT_STATE j = 3) →
    exec (.microframeBoundary j l) s = .next (s.newMicroframe j (s.get .SHT_STAT_PHYG j) s.microframe l))
  ∧ (∀ (j l a : Nat) (s : State), j < 13 → s.domOn (dSH j) = true → s.flag .PWRD_CLK_TCLK_RUN = true → (s.shut j).lastMf < s.microframe → s.get .SHT_STAT_STATE j = 5 → (s.shut j).moveFrom = some a → (s.shut j).loaded = true → (¬((s.shut j).back = true ∧ s.get .SHT_STAT_PHYG 12 = s.get .SHT_STAT_PHYG j ∧ s.get .SHT_STAT_STATE 12 = 3)) → a + s.stepped + 60000 ≤ s.microframe * 125000 →
    exec (.microframeBoundary j l) s = .next (s.endMove j (s.get .SHT_STAT_PHYG j) l))
  ∧ (∀ (j l a : Nat) (s : State), j < 13 → s.domOn (dSH j) = true → s.flag .PWRD_CLK_TCLK_RUN = true → (s.shut j).lastMf < s.microframe → s.get .SHT_STAT_STATE j = 5 → (s.shut j).moveFrom = some a → (s.shut j).loaded = true → (s.shut j).back = true → s.get .SHT_STAT_PHYG 12 = s.get .SHT_STAT_PHYG j → s.get .SHT_STAT_STATE 12 = 3 → a + s.stepped < s.microframe * 125000 → (s.shut 12).lastMf < s.microframe →
    exec (.microframeBoundary j l) s = .next (s.endMove j (s.get .SHT_STAT_PHYG j) l))
  ∧ (∀ (j : Nat) (s : State), j < 13 → s.get .SHT_STAT_STATE j = 5 → s.domOn (dSH j) = true →
    exec (.spareLoaded j) s = .next (s.modShut j (fun x => { x with loaded := true })))
  ∧ (∀ (j : Nat) (s : State), j < 13 → (s.shut j).confirm = true → s.get .SHT_STAT_PHYG j < 12 → s.safeHold = false →
    exec (.takeoverConfirm j) s = .next (
      let x := s.shut j
      let g := s.get .SHT_STAT_PHYG j
      let t := s.modShut j (fun x => { x with confirm := false })
      let t := (groupPorts g).foldl (fun s n => s.set .PORT_LIFE_SHUTTLE n j) t
      let t := ((t.set .SHF_TKO_FROM 0 x.from_).set .SHF_TKO_TO 0 j).set .SHF_TKO_PHYG 0 g
      let t := t.count .SHF_TKO_TKO_CNT 0
      if j = 12 then (t.shutEvent x.from_ 0 0 255 g 0 0).shutEvent 12 1 0 255 g 0 0 else t.shutEvent j 2 0 255 g 0 0))
  ∧ (∀ (n : Nat) (data : List Nat) (c : Ctx) (d : Dev) (s t v : State), s.ctx? n = some c → s.devByEp0 c.devEp0 = some d → s.served c.port = true → d.stage = .done → s.cached c = true → s.isTurn c s.microframe = true → c.recs.length + 3 ≤ 32768 → (s.ttOf 5 d = none ∨ c.split = true) → t = s.modCtx c.num (fun c => { c with split := false }) → c.isIn = true → v = t.stagePacket c.port data [] → (c.typ = 0 ∨ v.hasRoom c = true) → data.length ≤ c.fullPacket →
    exec (.downstreamTransaction n (.inData data)) s = .next ((if c.typ = 0 then v.controlIn c data else if c.typ = 2 then v.bulkIn c data else v.periodicIn c data).tookTurn c s.microframe))
  ∧ (∀ (n : Nat) (data : List Nat) (c : Ctx) (d : Dev) (s t : State), s.ctx? n = some c → s.devByEp0 c.devEp0 = some d → s.served c.port = true → d.stage = .done → s.cached c = true → s.isTurn c s.microframe = true → c.recs.length + 3 ≤ 32768 → (s.ttOf 5 d = none ∨ c.split = true) → t = s.modCtx c.num (fun c => { c with split := false }) → c.isIn = true → c.fullPacket < data.length →
    exec (.downstreamTransaction n (.inData data)) s = .next (((t.stagePacket c.port data []).haltEp c.num wBABBLE).tookTurn c s.microframe))
  ∧ (∀ (n : Nat) (k : Nat) (c : Ctx) (d : Dev) (s t : State), s.ctx? n = some c → s.devByEp0 c.devEp0 = some d → s.served c.port = true → d.stage = .done → s.cached c = true → s.isTurn c s.microframe = true → c.recs.length + 3 ≤ 32768 → (s.ttOf 5 d = none ∨ c.split = true) → t = s.modCtx c.num (fun c => { c with split := false }) → ((c.typ = 1 ∧ c.isIn = false) ∨ c.typ = 0 ∨ (c.typ ≠ 1 ∧ c.epAddr < 128)) →
    exec (.downstreamTransaction n (.outAck k)) s = .next ((if c.typ = 1 then (t.stageOut c k).isoOut c k else (t.stageOut c k).outPacket c k).tookTurn c s.microframe))
  ∧ (∀ (n : Nat) (c : Ctx) (d : Dev) (s t : State), s.ctx? n = some c → s.devByEp0 c.devEp0 = some d → s.served c.port = true → d.stage = .done → s.cached c = true → s.isTurn c s.microframe = true → c.recs.length + 3 ≤ 32768 → (s.ttOf 5 d = none ∨ c.split = true) → t = s.modCtx c.num (fun c => { c with split := false }) → c.typ = 0 → c.xstate = 1 →
    exec (.downstreamTransaction n .setupAck) s = .next ((t.modCtx c.num (fun x => { x with
        xstate := if x.xferLen = 0 then 3 else 2, toggle := 1, epoch := x.epoch + 1, errRun := 0
        stored := match x.current with | some r => markDone r.seq x.stored | none => x.stored })).tookTurn c s.microframe))
  ∧ (∀ (n : Nat) (c : Ctx) (d : Dev) (s t : State), s.ctx? n = some c → s.devByEp0 c.devEp0 = some d → s.served c.port = true → d.stage = .done → s.cached c = true → s.isTurn c s.microframe = true → c.recs.length + 3 ≤ 32768 → (s.ttOf 5 d = none ∨ c.split = true) → t = s.modCtx c.num (fun c => { c with split := false }) → c.typ = 0 →
    exec (.downstreamTransaction n .statusOk) s = .next ((t.controlDone c).tookTurn c s.microframe))
  ∧ (∀ (n : Nat) (c : Ctx) (d : Dev) (s t : State), s.ctx? n = some c → s.devByEp0 c.devEp0 = some d → s.served c.port = true → d.stage = .done → s.cached c = true → s.isTurn c s.microframe = true → c.recs.length + 3 ≤ 32768 → (s.ttOf 5 d = none ∨ c.split = true) → t = s.modCtx c.num (fun c => { c with split := false }) → c.isIso = false →
    exec (.downstreamTransaction n .nak) s = .next ((if c.typ = 0 then (t.modCtx c.num (fun c => { c with nextPoll := c.pollAfter t.microframe, errRun := 0 })).passTurn c
      else t.modCtx c.num (fun c => { c with nextPoll := c.pollAfter t.microframe, errRun := 0 })).tookTurn c s.microframe))
  ∧ (∀ (n : Nat) (c : Ctx) (d : Dev) (s t : State), s.ctx? n = some c → s.devByEp0 c.devEp0 = some d → s.served c.port = true → d.stage = .done → s.cached c = true → s.isTurn c s.microframe = true → c.recs.length + 3 ≤ 32768 → (s.ttOf 5 d = none ∨ c.split = true) → t = s.modCtx c.num (fun c => { c with split := false }) → c.isIso = false →
    exec (.downstreamTransaction n .stall) s = .next ((t.haltEp c.num wSTALL).tookTurn c s.microframe))
  ∧ (∀ (n : Nat) (c : Ctx) (d : Dev) (s t : State), s.ctx? n = some c → s.devByEp0 c.devEp0 = some d → s.served c.port = true → d.stage = .done → s.cached c = true → s.isTurn c s.microframe = true → c.recs.length + 3 ≤ 32768 → (s.ttOf 5 d = none ∨ c.split = true) → t = s.modCtx c.num (fun c => { c with split := false }) →
    exec (.downstreamTransaction n .babble) s = .next ((t.haltEp c.num wBABBLE).tookTurn c s.microframe))
  ∧ (∀ (n : Nat) (c : Ctx) (d : Dev) (s t : State), s.ctx? n = some c → s.devByEp0 c.devEp0 = some d → s.served c.port = true → d.stage = .done → s.cached c = true → s.isTurn c s.microframe = true → c.recs.length + 3 ≤ 32768 → (s.ttOf 5 d = none ∨ c.split = true) → t = s.modCtx c.num (fun c => { c with split := false }) → c.isIso = false →
    exec (.downstreamTransaction n .error) s = .next ((t.transactionError c).tookTurn c s.microframe))
  ∧ (∀ (n : Nat) (c : Ctx) (d : Dev) (s t : State), s.ctx? n = some c → s.devByEp0 c.devEp0 = some d → s.served c.port = true → d.stage = .done → s.cached c = true → s.isTurn c s.microframe = true → c.recs.length + 3 ≤ 32768 → (s.ttOf 5 d = none ∨ c.split = true) → t = s.modCtx c.num (fun c => { c with split := false }) → c.isIso = true →
    exec (.downstreamTransaction n .error) s = .next ((t.isoMiss c).tookTurn c s.microframe))
  ∧ (∀ (n : Nat) (c : Ctx) (d : Dev) (s t : State), s.ctx? n = some c → s.devByEp0 c.devEp0 = some d → s.served c.port = true → d.stage = .done → s.cached c = true → s.isTurn c s.microframe = true → c.recs.length + 3 ≤ 32768 → (s.ttOf 5 d = none ∨ c.split = true) → t = s.modCtx c.num (fun c => { c with split := false }) →
    exec (.downstreamTransaction n .isoMissed) s = .next ((t.isoMiss c).tookTurn c s.microframe))
  ∧ (∀ (n : Nat) (c : Ctx) (d : Dev) (s : State), s.ctx? n = some c → s.devByEp0 c.devEp0 = some d → s.served c.port = true → d.stage = .done → s.cached c = true → s.isTurn c s.microframe = true → c.recs.length + 3 ≤ 32768 → s.ttOf 5 d ≠ none →
    exec (.downstreamTransaction n .startSplit) s = .next ((s.modCtx c.num (fun c => { c with split := true })).passTurn c))
  ∧ (∀ (n : Nat) (c : Ctx) (d : Dev) (s : State), s.ctx? n = some c → s.devByEp0 c.devEp0 = some d → s.served c.port = true → d.stage = .done → s.cached c = true → s.isTurn c s.microframe = true → c.recs.length + 3 ≤ 32768 →
    exec (.downstreamTransaction n .nyet) s = .next (if (s.ttOf 5 d).isSome then s.passTurn c else s))
  ∧ (∀ (n p : Nat) (c : Ctx) (d : Dev) (s : State), s.ctx? n = some c → s.devByEp0 c.devEp0 = some d → s.served c.port = true → d.stage = .done → d.isHub = true → s.safeHold = false →
    exec (.downstreamTransaction n (.hubConnect p)) s = .next (s.hubPortConnect d p))
  ∧ (∀ (n p : Nat) (c : Ctx) (d e : Dev) (s : State), s.ctx? n = some c → s.devByEp0 c.devEp0 = some d → s.served c.port = true → d.stage = .done → s.loom.devs.find? (fun e => e.port == d.port && e.parent == d.ep0 && e.hubPort == p) = some e →
    exec (.downstreamTransaction n (.hubDisconnect p)) s = .next ((s.devGone e).poolService))
  ∧ (∀ (n : Nat) (s : State), n < 96 → s.att n = 10 → s.served n = true → s.idleUnits n ≠ 0 → (s.port n).treeAct + 10000000 * s.idleUnits n ≤ s.dt →
    exec (.treeIdleTimeout n) s = .next (if (s.loom.ctxs.filter (fun c => c.port == n && c.isOpen)).any (fun c => c.isIso || (c.typ == 3 && c.isIn && !c.rwake)) then
        s.treeActive n
      else
        let cs := s.loom.ctxs.filter (fun c => c.port == n && c.isOpen)
        let t : State := { s with loom := { s.loom with devs := s.loom.devs.map (fun (d : Dev) =>
            if d.port == n && cs.any (fun c => c.devEp0 == d.ep0 && c.typ == 3 && c.isIn) then { d with rwakeOn := true } else d) } }
        t.modPort n (fun p => { p with tree := 1 })))
  ∧ (∀ (n : Nat) (s : State), n < 96 →
    exec (.deviceResumeSignal n) s = .next ((if 2 ≤ s.mode n then s.wake 2 (s.attachDomains n) else s).resumeTree n 2))
  ∧ (∀ (n : Nat) (s : State), (s.port n).tree = 3 → (s.port n).treeRec = false → (s.port n).treeFrom + 20000000 ≤ s.dt →
    exec (.treeResumeEnd n) s = .next (s.modPort n (fun p => { p with treeRec := true, treeFrom := s.dt })))
  ∧ (∀ (n : Nat) (s : State), (s.port n).tree = 3 → (s.port n).treeRec = true → (s.port n).treeFrom + 10000000 ≤ s.dt →
    exec (.treeRecoveryEnd n) s = .next (
      let t := s.modPort n (fun p => { p with tree := 0, treeRec := false, treeAct := s.dt })
      t.shutEvent (t.shuttleOf n) 8 0 n (groupOfPort n) 0 (s.port n).treeCause))

/-- A transfer passes its records to the DMA; a record that passes the checks of R193 is stored and acts as given; records
complete and are acknowledged; an IN transfer packs what is ready. (08_loom_function.md R182, 08_loom_function.md
R191, 08_loom_function.md R192, 08_loom_function.md R193, 08_loom_function.md R195, 08_loom_function.md R196,
08_loom_function.md R197, 08_loom_function.md R198, 08_loom_function.md R199, 08_loom_function.md R200,
08_loom_function.md R202, 07_shuttle_engines.md R155). It rests on the model's own choices of notes/assumptions/90.md,
notes/assumptions/100.md, notes/assumptions/120.md and notes/assumptions/184.md. -/
def Obligations.LoomRecordEvents : Prop :=
  (∀ (l : Nat) (bs : List Nat) (s : State), s.laneOpen l = true → bs.length ≤ laneBuffer l → s.flag .LOOMS_LANE_OUT_DMA l = false →
    exec (.laneOutTransfer l bs) s = .next (
      let q := parseRecs bs.length (bs.map (· % 256))
      let t := (s.hostAccess.set .LOOMS_LANE_OUT_DMA l 1).modLane l (fun l => { l with inbox := q.1, refused := [] })
      if q.2 then t.loomEvent 7 else t))
  ∧ (∀ (l : Nat) (bs : List Nat) (s : State), s.laneOpen l = true → bs.length ≤ laneBuffer l → s.flag .LOOMS_LANE_OUT_DMA l = true →
    exec (.laneOutTransfer l bs) s = .next (s.count .LOOMS_LANE_NRDY_CNT l))
  ∧ (∀ (l : Nat) (s : State), l < 9 → (s.lane l).inbox = [] →
    exec (.outDmaComplete l) s = .next (s.set .LOOMS_LANE_OUT_DMA l 0))
  ∧ (∀ (l : Nat) (r : WRec) (c : Ctx) (s t : State), Safety.recordAs l r c s t → r.typ = 0 → 16 ≤ c.num → c.takesData = true →
    exec (.hostDataRecord l) s = .next (
      let u := t.storeRec c r
      if u.serving c.port = none then u.fencedRecord c r else u))
  ∧ (∀ (l : Nat) (r : WRec) (c : Ctx) (s t : State), Safety.recordAs l r c s t → r.typ = 0 → c.num = 8 →
    exec (.hostDataRecord l) s = .next (((t.storeRec c r).mark 8 r.seq).formRec 8 0 (r.flags % 2) wOK r.data))
  ∧ (∀ (l : Nat) (r : WRec) (c : Ctx) (s t : State), Safety.recordAs l r c s t → r.typ = 0 → c.num ≠ 8 → (c.num < 16 ∨ c.takesData = false) →
    exec (.hostDataRecord l) s = .next ((t.storeRec c r).mark c.num r.seq))
  ∧ (∀ (l : Nat) (cfg : List Nat) (d : Dev) (u v : State) (r : WRec) (c : Ctx) (s t : State), Safety.recordAs l r c s t → r.typ = 1 → v = (if c.transferOpen then (t.flushPart c.num).completion c.num wABORT c.xferDone else t.flushPart c.num).settleStored c.num → u = (match v.devByEp0 c.num with | some d => v.dropLater d | none => v).storeRec c r → u.serving c.port ≠ none → u.devByEp0 c.num = some d → d.stage = .done →
    exec (.setupRecord l cfg) s = .next ((u.treatSetup { d with later := none } r cfg).poolService))
  ∧ (∀ (l : Nat) (cfg : List Nat) (d : Dev) (u v : State) (r : WRec) (c : Ctx) (s t : State), Safety.recordAs l r c s t → r.typ = 1 → v = (if c.transferOpen then (t.flushPart c.num).completion c.num wABORT c.xferDone else t.flushPart c.num).settleStored c.num → u = (match v.devByEp0 c.num with | some d => v.dropLater d | none => v).storeRec c r → u.serving c.port ≠ none → u.devByEp0 c.num = some d → d.stage ≠ .done →
    exec (.setupRecord l cfg) s = .next (u.modDev d.port d.route (fun d => { d with later := some (r, cfg) })))
  ∧ (∀ (l : Nat) (b : Bool) (e : Ctx) (r : WRec) (c : Ctx) (s t : State), Safety.recordAs l r c s t → r.typ = 2 → (t.storeRec c r).ctx? c.num = some e → b = (decide (c.port < 96) && (t.port c.port).tree == 2) →
    exec (.statusRecord l) s = .next (((t.storeRec c r).formRec e.num 2 0 wOK ((t.storeRec c r).statusBytes e b)).mark e.num r.seq))
  ∧ (∀ (l : Nat) (r : WRec) (c : Ctx) (s t : State), Safety.recordAs l r c s t → r.typ = 4 →
    exec (.abortRecord l) s = .next (
      let u := ((t.flushPart c.num).storeRec c r).completion c.num wABORT c.xferDone
      let u := match u.devByEp0 c.num with | some d => u.dropLater d | none => u
      let b := c.typ == 2 && c.isIn
      let u := u.modCtx c.num (fun c => { c with
        inLimit := if b then c.inRead else c.inLimit, unlimited := c.unlimited && !b
        stored := c.stored.map (fun (q : WRec) => if q.typ == 4 then { q with askAck := true } else q) })
      u.settleStored c.num))
  ∧ (∀ (l : Nat) (i : Nat) (r : WRec) (c : Ctx) (s t : State), Safety.recordAs l r c s t → r.typ = 5 → c.sentAt r.seq = some i →
    exec (.hostAckRecord l) s = .next (
      let k := i + 1
      let u := ((t.hostRecord c).modCtx c.num (fun x => { x with
        recs := x.recs.drop k, sent := x.sent - k, high := x.high - k, old := x.old - k
        txAck := if x.old < k then r.seq else x.txAck
        used := x.used - ((c.recs.take k).map (fun q => q.data.length)).sum })).notePages
      (State.formWaiting c.unformed.length c.num u).grantAll))
  ∧ (∀ (l : Nat) (r : WRec) (c : Ctx) (s t : State), Safety.recordAs l r c s t → r.typ = 5 → c.sentAt r.seq = none → ((r.seq + 65536 - c.txAck) % 65536 = 0 ∨ 32768 < (r.seq + 65536 - c.txAck) % 65536) →
    exec (.hostAckRecord l) s = .next (t.hostRecord c))
  ∧ (∀ (l : Nat) (r : WRec) (c : Ctx) (s t : State), Safety.recordAs l r c s t → r.typ = 5 → c.sentAt r.seq = none → (r.seq + 65536 - c.txAck) % 65536 ≠ 0 → (r.seq + 65536 - c.txAck) % 65536 ≤ 32768 →
    exec (.hostAckRecord l) s = .next ((t.hostRecord c).count .LOOMS_ERR_GAP_CNT 0))
  ∧ (∀ (l : Nat) (r : WRec) (c : Ctx) (s t : State), Safety.recordAs l r c s t → r.typ = 6 → c.isIso = false →
    exec (.hostCreditRecord l) s = .next (
      let u := (t.hostRecord c).modCtx c.num (fun c => { c with inLimit := leAt r.data 0 4, unlimited := r.data.getD 4 0 % 2 == 1 })
      match u.ctx? c.num with
      | some d => if d.asksRead ∧ (u.serving d.port).isNone then u.handleFenced d else u
      | none => u))
  ∧ (∀ (l : Nat) (r : WRec) (c : Ctx) (s t : State), Safety.recordAs l r c s t → r.typ = 6 → c.isIso = true →
    exec (.hostCreditRecord l) s = .next (t.hostRecord c))
  ∧ (∀ (h : Nat) (c : Ctx) (s : State), s.ctx? (h % 16384) = some c → h / 16384 = s.idx → s.stagingFree (2 * c.doneHead) = true →
    exec (.outRecordComplete h) s = .next (s.recordsDone c.num c.doneHead))
  ∧ (∀ (l : Nat) (s : State), s.laneOpen l = true → (s.lane l).inBuf = [] →
    exec (.laneInTransfer l) s = .next ((s.count .LOOMS_LANE_NRDY_CNT l).fillLane l))
  ∧ (∀ (l : Nat) (s : State), s.laneOpen l = true → (s.lane l).inBuf ≠ [] →
    exec (.laneInTransfer l) s = .next (
      let bs := (s.lane l).inBuf.flatMap WRec.bytes
      let z := bs.length % s.lanePacket l == 0 && decide (bs.length < laneBuffer l)
      (s.hostAccess.modLane l (fun x => { x with inBuf := [], out := bs, zlp := z })).fillLane l))
  ∧ (∀ (s : State), s.flag .LOOMS_STAT_CONFIGURED = true → s.loomSuspended = false → (s.ecx.loomEvts ≠ [] ∨ s.ecx.loomLost ≠ 0) →
    exec (.ep2InTransfer) s = .next (
      let t := s.hostAccess
      let ov := if t.ecx.loomLost = 0 then [] else [t.overflowRec t.ecx.loomLost]
      { t with
          ecx := { t.ecx with
          ep2Out := ov ++ t.ecx.loomEvts.take (32 - ov.length), loomEvts := t.ecx.loomEvts.drop (32 - ov.length), loomLost := 0, evSeq := (t.ecx.evSeq + ov.length) % 65536 } }))

/-- Each event of the function's link and configuration acts as given while its conditions hold; nothing else changes.
(08_loom_function.md R178, 08_loom_function.md R180, 08_loom_function.md R204, 08_loom_function.md R205,
08_loom_function.md R207, 08_loom_function.md R208, 08_loom_function.md R209). It rests on the model's own choices of
notes/assumptions/21.md and notes/assumptions/147.md. -/
def Obligations.LoomFunctionEvents : Prop :=
  (∀ (lost : Bool) (s : State), 2 ≤ s.get .LOOMS_STAT_RATE →
    exec (.linkReset lost) s = .next (if lost then s.ssDisconnect.settleDomains else (if 2 ≤ s.loomReset.get .LOOMS_STAT_RATE then (s.loomReset.set .HUBS_STAT_SS_STATE 0 5).set .LOOMS_STAT_LSTATE 0 4 else s.loomReset)))
  ∧ (∀ (r : Nat) (s : State), s.up.applied = true → s.up.ssApplied = true → 2 ≤ r → r ≤ 5 → s.domFenced dLOOM = false → s.get .LOOMS_STAT_RATE = 0 →
    exec (.linkTrained r) s = .next (((s.set .HUBS_STAT_SS_STATE 0 1).set .LOOMS_STAT_LSTATE 0 0).setRate r))
  ∧ (∀ (r : Nat) (s : State), (if 2 ≤ r then s.up.ssApplied else s.up.applied) = true → r ≠ 0 → r ≤ 5 → s.domFenced dLOOM = false → s.get .LOOMS_STAT_RATE = r → s.loom.ownExit = false →
    exec (.linkTrained r) s = .next (s.linkRecovered))
  ∧ (∀ (s : State), s.up.applied = true → s.domFenced dLOOM = false → s.get .LOOMS_STAT_RATE = 0 → s.u2 ≠ 0 →
    exec (.linkTrained 1) s = .next (
      let t := s.ssDisconnect
      let t := { t with hub := { t.hub with p97Change := bitOr t.hub.p97Change 1 } }
      ((t.set .HUBS_STAT_P97_CONN 0 1).set .HUBS_CONN 97 1).setRate 1))
  ∧ (∀ (s t : State), t = s.linkRecovered → t.get .LOOMS_STAT_RATE ≠ 0 → t.domOn dLOOM = true → t.flag .LOOMS_STAT_CONFIGURED = true →
    exec (.loomSetConfiguration 0) s = .next (t.hostAccess.unconfigure))
  ∧ (∀ (s r : State), r = s.linkRecovered → r.get .LOOMS_STAT_RATE ≠ 0 → r.domOn dLOOM = true →
    exec (.loomSetConfiguration 1) s = .next (
      let t := (((if r.flag .LOOMS_STAT_CONFIGURED then r.unconfigure else r).hostAccess.set .LOOMS_STAT_CONFIGURED 0 1).set .LOOMS_STAT_ALT 0 0).ownHandles
      let t := { t with loom := { t.loom with cfgCount := (t.loom.cfgCount + 1) % 2 ^ 32, fromReset := false } }
      let t := (List.range 8).foldl (fun t l => t.resyncLane l (if r.loom.fromReset then 1 else 2)) t
      (t.loomEvent 2).settleDomains))
  ∧ (∀ (a : Nat) (s : State), s.flag .LOOMS_STAT_CONFIGURED = true → a ≤ 1 →
    exec (.loomSetInterface a) s = .next (
      let t := ((s.hostAccess.clearLane 8).set .LOOMS_STAT_ALT 0 a).ownHandles
      if a = 1 then t.resyncLane 8 2 else t))
  ∧ (∀ (l : Nat) (s : State), s.laneOpen l = true →
    exec (.loomClearHalt l) s = .next (s.hostAccess.resyncLane l 3))
  ∧ (∀ (w : Bool) (s : State), 2 ≤ s.get .LOOMS_STAT_RATE →
    exec (.functionSuspend true true w) s = .next (
      let t := (s.set .LOOMS_STAT_LSTATE 0 3).set .HUBS_STAT_SS_STATE 0 4
      if s.loomSuspended then t else t.loomEvent 3))
  ∧ (∀ (w : Bool) (s : State), 2 ≤ s.get .LOOMS_STAT_RATE → s.flag .LOOMS_STAT_CONFIGURED = true →
    exec (.functionSuspend true false w) s = .next (
      let t := (s.set .LOOMS_STAT_FSUSP 0 1).set .LOOMS_STAT_FRWAKE_EN 0 (if w then 1 else 0)
      if s.loomSuspended then t else t.loomEvent 3))
  ∧ (∀ (sus u3 w : Bool) (s : State), s.get .LOOMS_STAT_RATE = 1 →
    exec (.functionSuspend sus u3 w) s = .next (s.set .LOOMS_STAT_FRWAKE_EN 0 (if w then 1 else 0)))
  ∧ (∀ (u3 w : Bool) (s : State), 2 ≤ s.get .LOOMS_STAT_RATE → s.flag .LOOMS_STAT_CONFIGURED = true → s.flag .LOOMS_STAT_FSUSP = true → s.flag .LOOMS_STAT_WAKE_PEND = false →
    exec (.functionSuspend false u3 w) s = .next (
      let t := (s.set .LOOMS_STAT_FRWAKE_EN 0 (if w then 1 else 0)).hostAccess.set .LOOMS_STAT_FSUSP 0 0
      if t.get .LOOMS_STAT_LSTATE = 3 then t else t.loomEvent 4))
  ∧ (∀ (u3 w : Bool) (s : State), 2 ≤ s.get .LOOMS_STAT_RATE → s.flag .LOOMS_STAT_CONFIGURED = true → s.flag .LOOMS_STAT_FSUSP = false →
    exec (.functionSuspend false u3 w) s = .next (s.set .LOOMS_STAT_FRWAKE_EN 0 (if w then 1 else 0)))
  ∧ (∀ (s : State), 2 ≤ s.get .LOOMS_STAT_RATE → s.get .LOOMS_STAT_LSTATE = 3 → s.loom.ownExit = false →
    exec (.hostU3Exit false) s = .next ((({ s with loom := { s.loom with u3Exit := true } } : State).set .LOOMS_STAT_LSTATE 0 4).set .HUBS_STAT_SS_STATE 0 5))
  ∧ (∀ (s : State), 2 ≤ s.get .LOOMS_STAT_RATE → (s.get .LOOMS_STAT_LSTATE = 3 ∨ (s.get .LOOMS_STAT_LSTATE = 4 ∧ (s.loom.u3Exit = true ∨ s.loom.ownExit = true))) → (s.wakeBy 1 [dLOOM]).2 = true → (s.wakeBy 1 [dLOOM]).1.flag .LOOMS_STAT_WAKE_PEND = false →
    exec (.hostU3Exit true) s = .next (
      let t := { (s.wakeBy 1 [dLOOM]).1 with loom := { (s.wakeBy 1 [dLOOM]).1.loom with u3Exit := false, ownExit := false } }
      let t := (t.set .LOOMS_STAT_LSTATE 0 0).set .HUBS_STAT_SS_STATE 0 1
      if t.flag .LOOMS_STAT_FSUSP then t else t.loomEvent 4))
  ∧ (∀ (n : Nat) (s : State), s.loom.notifyAt = some n → n ≤ s.dt → s.flag .LOOMS_STAT_WAKE_PEND = true →
    exec (.wakeNotifyRepeat) s = .next ({ s with loom := { s.loom with notifyAt := some (n + 2500000000) } }))
  ∧ (∀ (n : Nat) (s : State), 2000 ≤ n → 2 ≤ s.get .LOOMS_STAT_RATE → s.get .LOOMS_STAT_LSTATE = 0 → s.flag .LOOMS_CFG_U1_INIT = true → s.buffersIdle = true →
    exec (.u1Initiate n) s = .next ((s.set .LOOMS_STAT_LSTATE 0 1).set .HUBS_STAT_SS_STATE 0 2))
  ∧ (∀ (s : State), 2 ≤ s.get .LOOMS_STAT_RATE → s.get .LOOMS_STAT_LSTATE ≤ 1 → s.flag .LOOMS_CFG_U2_INIT = true →
    exec (.u2InactivityTimeout) s = .next ((s.set .LOOMS_STAT_LSTATE 0 2).set .HUBS_STAT_SS_STATE 0 3))

/-- A packet with a right CRC is refused for its length, answered again if it repeats the one its channel keeps, refused
for its header, its opcode, its target or the checks of its device, kept for a worker, or put into its channel's
queue, as R214, R216 and R219 give; a full hierarchy channel answers BUSY; the doorbell, the outbound window, EP1 and
a forwarded command act as R217, R219 and R220 give. (09_ecrax_protocol.md R214, 09_ecrax_protocol.md R216,
09_ecrax_protocol.md R217, 09_ecrax_protocol.md R218, 09_ecrax_protocol.md R219, 09_ecrax_protocol.md R220,
09_ecrax_protocol.md R229). It rests on the model's own choices of notes/assumptions/177.md, notes/assumptions/178.md,
notes/assumptions/179.md and notes/assumptions/187.md. -/
def Obligations.EcraxChannelEvents : Prop :=
  (∀ (c : Chan) (o : Nat) (bs : List Nat) (p : Packet) (s t : State), Safety.crcRight c bs s → p = packetOf c o bs → t = s.touch (dCTL s.lead) → (leAt bs 6 2 > 4080 ∨ leAt bs 6 2 ≠ (packetParams c bs).length) →
    exec (.loomPacketReceived c o bs) s = .next ((t.addEntry (entryOf t p stBAD_LENGTH false)).bareReply c p.opcode p.tag p.cls p.seq stBAD_LENGTH false t.idx))
  ∧ (∀ (c : Chan) (o : Nat) (bs : List Nat) (p : Packet) (k : KeptPacket) (st : Nat) (s t : State), Safety.lengthRight c bs s → p = packetOf c o bs → t = s.touch (dCTL s.lead) → s.kept c = some k → k.seq = p.seq → k.tag = p.tag → k.status = some st →
    exec (.loomPacketReceived c o bs) s = .next (t.bareReply c k.opcode p.tag k.cls p.seq st true k.dev))
  ∧ (∀ (c : Chan) (o : Nat) (bs : List Nat) (p : Packet) (k : KeptPacket) (s t : State), Safety.lengthRight c bs s → p = packetOf c o bs → t = s.touch (dCTL s.lead) → s.kept c = some k → k.seq = p.seq → k.tag = p.tag → k.status = none →
    exec (.loomPacketReceived c o bs) s = .next (t.await { id := { chan := c, tag := p.tag, cls := k.cls, opcode := k.opcode, seq := p.seq }, dup := true }))
  ∧ (∀ (c : Chan) (o : Nat) (bs : List Nat) (p : Packet) (s t : State), Safety.isNew c bs s → p = packetOf c o bs → (t = (s.touch (dCTL s.lead)).accept p (if bs.getD 4 0 % 256 ≠ 255 ∧ bs.getD 4 0 % 256 ≠ s.idx ∧ s.presentWorker (bs.getD 4 0 % 256) = true then bs.getD 4 0 % 256 else s.idx)) → headerRight bs = false →
    exec (.loomPacketReceived c o bs) s = .next (t.refusePacket p stBAD_PARAM))
  ∧ (∀ (c : Chan) (o : Nat) (bs : List Nat) (p : Packet) (s t : State), Safety.isNew c bs s → p = packetOf c o bs → (t = (s.touch (dCTL s.lead)).accept p (if bs.getD 4 0 % 256 ≠ 255 ∧ bs.getD 4 0 % 256 ≠ s.idx ∧ s.presentWorker (bs.getD 4 0 % 256) = true then bs.getD 4 0 % 256 else s.idx)) → headerRight bs = true → opcodeDefined p.opcode = false →
    exec (.loomPacketReceived c o bs) s = .next (t.refusePacket p stBAD_OPCODE))
  ∧ (∀ (c : Chan) (o : Nat) (bs : List Nat) (p : Packet) (s t : State), Safety.isNew c bs s → p = packetOf c o bs → t = (s.touch (dCTL s.lead)).accept p (s.idx) → headerRight bs = true → opcodeDefined p.opcode = true → bs.getD 4 0 % 256 ≠ 255 → bs.getD 4 0 % 256 ≠ s.idx → s.presentWorker (bs.getD 4 0 % 256) = false →
    exec (.loomPacketReceived c o bs) s = .next (t.refusePacket p stTARGET_ABSENT))
  ∧ (∀ (c : Chan) (o : Nat) (bs : List Nat) (p : Packet) (s t : State), Safety.isNew c bs s → p = packetOf c o bs → t = (s.touch (dCTL s.lead)).accept p (bs.getD 4 0 % 256) → headerRight bs = true → opcodeDefined p.opcode = true → bs.getD 4 0 % 256 ≠ 255 → bs.getD 4 0 % 256 ≠ s.idx → s.presentWorker (bs.getD 4 0 % 256) = true →
    exec (.loomPacketReceived c o bs) s = .next (
      let u := t.addEntry (entryOf t p stINTERNAL false)
      { u with ecx := { u.ecx with
          forwards := u.ecx.forwards ++
          [{ pkt := p, worker := bs.getD 4 0 % 256, deadline := u.dt + forwardBound p.cls, bytes := bs.take 16 ++ packetParams c bs }] } }))
  ∧ (∀ (c : Chan) (o : Nat) (bs : List Nat) (p : Packet) (st : Nat) (s t : State), Safety.isNew c bs s → p = packetOf c o bs → t = (s.touch (dCTL s.lead)).accept p (s.idx) → headerRight bs = true → opcodeDefined p.opcode = true → (bs.getD 4 0 % 256 = 255 ∨ bs.getD 4 0 % 256 = s.idx) → refusalOf t p = some st →
    exec (.loomPacketReceived c o bs) s = .next (t.refusePacket p st))
  ∧ (∀ (c : Chan) (o : Nat) (bs : List Nat) (p : Packet) (s t : State), Safety.isNew c bs s → p = packetOf c o bs → t = (s.touch (dCTL s.lead)).accept p (s.idx) → headerRight bs = true → opcodeDefined p.opcode = true → (bs.getD 4 0 % 256 = 255 ∨ bs.getD 4 0 % 256 = s.idx) → refusalOf t p = none →
    exec (.loomPacketReceived c o bs) s = .next ({ t with ecx := { t.ecx with queue := t.ecx.queue ++ [p] } }))
  ∧ (∀ (o : Nat) (bs : List Nat) (s : State), 16 ≤ s.held .hierarchy →
    exec (.loomPacketReceived .hierarchy o bs) s = .next ((s.touch (dCTL s.lead)).bareReply .hierarchy (bs.getD 1 0 % 256) (leAt bs 2 2) (bs.getD 5 0 % 256) (leAt bs 8 4) stBUSY false s.idx))
  ∧ (∀ (s : State), s.flag .MBOX_STAT_IN_BUSY = false →
    exec (.inRing) s = .next ((s.touch (dCTL s.lead)).set .MBOX_STAT_IN_BUSY 0 1))
  ∧ (∀ (s : State), s.flag .MBOX_STAT_IN_BUSY = true →
    exec (.inRing) s = .next (s.count .MBOX_STAT_RING_LOST 0))
  ∧ (∀ (s : State), s.flag .MBOX_STAT_IN_BUSY = true → s.held .mailbox < 16 →
    exec (.mailboxPacketTaken) s = .next ((receivePacket .mailbox 255 (s.inBytes 4096) s).set .MBOX_STAT_IN_BUSY 0 0))
  ∧ (∀ (s : State), 
    exec (.outDone) s = .next (
      let v := s.ibiCheck
      let w := v.mbox.outWin
      let t := if v.flag .MBOX_STAT_OUT_REPLY = true ∧ v.restartReply .mailbox (w.getD 1 0) (leAt w 2 2) (leAt w 10 2) = true
          ∧ bit (w.getD 0 0) 2 = false then v.restartNow else v
      (((t.set .MBOX_STAT_OUT_REPLY 0 0).set .MBOX_STAT_OUT_EVT 0 0).fillMailbox).ibiCheck))
  ∧ (∀ (tag : Nat) (c : Chan) (f : Forwarded) (s : State), s.ecx.forwards.find? (fun f => f.pkt.tag == tag && f.pkt.chan == c && f.deadline ≤ s.dt) = some f →
    exec (.forwardTimeout tag c) s = .next (s.forwardLate f))
  ∧ (∀ (r : Reply) (rest : List Reply) (s : State), s.ecx.loomOut = r :: rest → s.flag .LOOMS_STAT_CONFIGURED = true →
    exec (.ep1ReplyTransfer) s = .next (
      let t := { s with ecx := { s.ecx with loomOut := rest } }
      if t.restartReply .loom r.opcode r.tag r.seq = true ∧ r.dup = false then t.restartNow else t))
end

