-- ==== Sys2Proof/Laws/Regs.lean ====
section
/-! SUPPORT. The register store: a read after a write, and that every write keeps the canonical form. -/

namespace Sys2Proof.Machine

theorem Fld.ctorIdx_inj {f g : Fld} (h : f.ctorIdx = g.ctorIdx) : f = g := by
  have := congrArg Fld.ofNat h
  simpa [Fld.ofNat_ctorIdx] using this

/-- Two keys of the store are ordered one way, the other way, or equal. -/
theorem keyLt_total (f : Fld) (u : Nat) (g : Fld) (v : Nat) :
    keyLt f u g v = true ∨ (f = g ∧ u = v) ∨ keyLt g v f u = true := by
  by_cases h : f.ctorIdx = g.ctorIdx
  · have := Fld.ctorIdx_inj h
    subst this
    simp [keyLt]; omega
  · simp [keyLt, h, Ne.symm h]; omega

theorem keyLt_trans {f g k : Fld} {u v w : Nat} (h : keyLt f u g v = true) (h' : keyLt g v k w = true) :
    keyLt f u k w = true := by
  simp [keyLt] at *; omega

theorem keyLt_irrefl (f : Fld) (u : Nat) : keyLt f u f u = false := by simp [keyLt]

theorem keyLt_ne {f g : Fld} {u v : Nat} (h : keyLt f u g v = true) : ¬(f = g ∧ u = v) := by
  rintro ⟨rfl, rfl⟩; simp [keyLt_irrefl] at h

/-! ### Reading after writing -/

theorem regGet_insert_same (l : List Cell) (f : Fld) (u v : Nat) : regGet (regInsert l f u v) f u = v := by
  induction l with
  | nil => simp [regInsert, regGet]
  | cons c r ih =>
    simp only [regInsert]
    split
    · simp [regGet]
    · split
      · rename_i h _; simp [regGet, h, ih]
      · simp [regGet]

theorem regGet_insert_other (l : List Cell) {f g : Fld} {u w : Nat} (v : Nat) (h : ¬(f = g ∧ u = w)) :
    regGet (regInsert l f u v) g w = regGet l g w := by
  induction l with
  | nil => simp [regInsert, regGet, h]
  | cons c r ih =>
    simp only [regInsert]
    split
    · rename_i hc
      have : ¬(c.fld = g ∧ c.unit = w) := by rw [hc.1, hc.2]; exact h
      simp [regGet, h, this]
    · split
      · simp [regGet, ih]
      · simp [regGet, h]

/-- The first cell's key is below every later key of a canonical store. -/
theorem regWf_tail {c : Cell} {r : List Cell} (h : regWf (c :: r) = true) : regWf r = true := by
  cases r with
  | nil => rfl
  | cons d r => simp [regWf] at h; exact h.2

theorem regWf_head {c : Cell} {r : List Cell} (h : regWf (c :: r) = true) : cellWf c = true := by
  cases r with
  | nil => simpa [regWf] using h
  | cons d r => simp [regWf] at h; exact h.1.1

theorem regWf_lt {c : Cell} {r : List Cell} (h : regWf (c :: r) = true) :
    ∀ d ∈ r, keyLt c.fld c.unit d.fld d.unit = true := by
  induction r generalizing c with
  | nil => simp
  | cons d r ih =>
    simp [regWf] at h
    intro e he
    rcases List.mem_cons.1 he with rfl | he
    · exact h.1.2
    · exact keyLt_trans h.1.2 (ih h.2 e he)

/-- A canonical store from its parts. -/
theorem regWf_cons {c : Cell} {r : List Cell} (hc : cellWf c = true) (hr : regWf r = true)
    (hl : ∀ d ∈ r, keyLt c.fld c.unit d.fld d.unit = true) : regWf (c :: r) = true := by
  cases r with
  | nil => simpa [regWf] using hc
  | cons d r => simp [regWf, hc, hr, hl d (by simp)]

theorem regGet_notIn {l : List Cell} {f : Fld} {u : Nat} (h : ∀ c ∈ l, ¬(c.fld = f ∧ c.unit = u)) :
    regGet l f u = f.reset u := by
  induction l with
  | nil => rfl
  | cons c r ih =>
    simp only [regGet, h c (by simp), if_false]
    exact ih (fun d hd => h d (by simp [hd]))

theorem regGet_erase_same {l : List Cell} (hl : regWf l = true) (f : Fld) (u : Nat) :
    regGet (regErase l f u) f u = f.reset u := by
  induction l with
  | nil => rfl
  | cons c r ih =>
    simp only [regErase]
    split
    · rename_i h
      apply regGet_notIn
      intro d hd he
      have := regWf_lt hl d hd
      rw [h.1, h.2, he.1, he.2, keyLt_irrefl] at this
      exact absurd this (by simp)
    · rename_i h
      simp only [regGet, h, if_false]
      exact ih (regWf_tail hl)

theorem regGet_erase_other (l : List Cell) {f g : Fld} {u w : Nat} (h : ¬(f = g ∧ u = w)) :
    regGet (regErase l f u) g w = regGet l g w := by
  induction l with
  | nil => rfl
  | cons c r ih =>
    simp only [regErase]
    split
    · rename_i hc
      have : ¬(c.fld = g ∧ c.unit = w) := by rw [hc.1, hc.2]; exact h
      simp [regGet, this]
    · simp [regGet, ih]

/-- A field reads back the low bits written to it. -/
theorem regGet_set_same {l : List Cell} (hl : regWf l = true) (f : Fld) (u v : Nat) :
    regGet (regSet l f u v) f u = v % 2 ^ f.info.width := by
  simp only [regSet]
  split
  · rename_i h; rw [regGet_erase_same hl, ← h]
  · exact regGet_insert_same ..

/-- A write leaves every other field alone. -/
theorem regGet_set_other (l : List Cell) {f g : Fld} {u w : Nat} (v : Nat) (h : ¬(f = g ∧ u = w)) :
    regGet (regSet l f u v) g w = regGet l g w := by
  simp only [regSet]
  split
  · exact regGet_erase_other l h
  · exact regGet_insert_other l _ h

/-! ### The canonical form -/

theorem regInsert_keys {l : List Cell} {f : Fld} {u v : Nat} {c : Cell} (h : c ∈ regInsert l f u v) :
    (c.fld = f ∧ c.unit = u) ∨ c ∈ l := by
  induction l with
  | nil => simp [regInsert] at h; subst h; simp
  | cons d r ih =>
    simp only [regInsert] at h
    split at h
    · rcases List.mem_cons.1 h with rfl | h <;> simp [*]
    · split at h
      · rcases List.mem_cons.1 h with rfl | h
        · simp
        · rcases ih h with h | h <;> simp [h]
      · rcases List.mem_cons.1 h with rfl | h <;> simp [*]

theorem regWf_insert {l : List Cell} (hl : regWf l = true) (f : Fld) (u v : Nat)
    (hv : v ≠ f.reset u) (hw : v < 2 ^ f.info.width) : regWf (regInsert l f u v) = true := by
  have hc : cellWf ⟨f, u, v⟩ = true := by simp [cellWf, hv, hw]
  induction l with
  | nil => simpa [regInsert, regWf] using hc
  | cons c r ih =>
    simp only [regInsert]
    split
    · rename_i h
      refine regWf_cons hc (regWf_tail hl) (fun d hd => ?_)
      have := regWf_lt hl d hd
      rwa [h.1, h.2] at this
    · split
      · rename_i h hk
        refine regWf_cons (regWf_head hl) (ih (regWf_tail hl)) (fun d hd => ?_)
        rcases regInsert_keys hd with h | h
        · rw [h.1, h.2]; exact hk
        · exact regWf_lt hl d h
      · rename_i h hk
        refine regWf_cons hc hl (fun d hd => ?_)
        have h1 : keyLt f u c.fld c.unit = true := by
          rcases keyLt_total c.fld c.unit f u with h' | h' | h'
          · exact absurd h' hk
          · exact absurd h' h
          · exact h'
        rcases List.mem_cons.1 hd with rfl | hd
        · exact h1
        · exact keyLt_trans h1 (regWf_lt hl d hd)

theorem regErase_sub {l : List Cell} {f : Fld} {u : Nat} {c : Cell} (h : c ∈ regErase l f u) : c ∈ l := by
  induction l with
  | nil => simp [regErase] at h
  | cons d r ih =>
    simp only [regErase] at h
    split at h
    · simp [h]
    · rcases List.mem_cons.1 h with rfl | h
      · simp
      · simp [ih h]

theorem regWf_erase {l : List Cell} (hl : regWf l = true) (f : Fld) (u : Nat) : regWf (regErase l f u) = true := by
  induction l with
  | nil => rfl
  | cons c r ih =>
    simp only [regErase]
    split
    · exact regWf_tail hl
    · exact regWf_cons (regWf_head hl) (ih (regWf_tail hl)) (fun d hd => regWf_lt hl d (regErase_sub hd))

/-- A write keeps the canonical form. -/
theorem regWf_set {l : List Cell} (hl : regWf l = true) (f : Fld) (u v : Nat) : regWf (regSet l f u v) = true := by
  simp only [regSet]
  split
  · exact regWf_erase hl f u
  · exact regWf_insert hl f u _ ‹_› (Nat.mod_lt _ (Nat.two_pow_pos _))

/-- Dropping fields keeps the canonical form. -/
theorem regWf_filter {l : List Cell} (hl : regWf l = true) (p : Cell → Bool) : regWf (l.filter p) = true := by
  induction l with
  | nil => rfl
  | cons c r ih =>
    simp only [List.filter]
    split
    · exact regWf_cons (regWf_head hl) (ih (regWf_tail hl))
        (fun d hd => regWf_lt hl d (List.mem_of_mem_filter hd))
    · exact ih (regWf_tail hl)

/-! ### Fields of the state -/

/-- A field reads back the low bits written to it. -/
theorem State.get_set_same {s : State} (h : regWf s.regs = true) (f : Fld) (u v : Nat) :
    (s.set f u v).get f u = v % 2 ^ f.info.width := regGet_set_same h f u v

/-- A write leaves every other field and unit alone. -/
theorem State.get_set_other (s : State) {f g : Fld} {u w : Nat} (v : Nat) (h : ¬(f = g ∧ u = w)) :
    (s.set f u v).get g w = s.get g w := regGet_set_other s.regs v h

end Sys2Proof.Machine
end

