-- ==== Sys2Proof/Laws/Ecrax.lean ====
section
/-! SUPPORT. What one Ecrax command does (09_ecrax_protocol.md R214, R222, R225): it waits, or is refused, or wakes its
domains, or has its effect and is answered. What one hierarchy message does (12_hierarchy.md R282): it is heard, or has
no effect. What one record of a lane does (08_loom_function.md R193). -/

namespace Sys2Proof.Laws

open Sys2Proof.Machine Sys2Proof.Safety

variable {o : Nat} {p : Packet} {need : Packet → State → List Nat} {eff : Packet → State → OpOut} {s t : State}

theorem domFenced_opWaiting (s : State) (p : Packet) (d : Nat) : (s.opWaiting p).domFenced d = s.domFenced d := by
  unfold State.opWaiting; split <;> rfl

theorem domOn_opWaiting (s : State) (p : Packet) (d : Nat) : (s.opWaiting p).domOn d = s.domOn d := by
  unfold State.opWaiting; split <;> rfl

/-! ### What `State.touch` leaves alone (13_power_domains.md R307, R321) -/

@[simp] theorem touch_ecx (s : State) (d : Nat) : (s.touch d).ecx = s.ecx := by
  unfold State.touch; dsimp only; (repeat' split) <;> rfl

@[simp] theorem touch_hier (s : State) (d : Nat) : (s.touch d).hier = s.hier := by
  unfold State.touch; dsimp only; (repeat' split) <;> rfl

@[simp] theorem touch_mbox (s : State) (d : Nat) : (s.touch d).mbox = s.mbox := by
  unfold State.touch; dsimp only; (repeat' split) <;> rfl

@[simp] theorem touch_dt (s : State) (d : Nat) : (s.touch d).dt = s.dt := by
  unfold State.touch; dsimp only; (repeat' split) <;> rfl

/-- Of the registers it changes `CLK_STOPPED` of its domain alone. -/
theorem touch_get (s : State) (d u : Nat) {f : Fld} (h : f ≠ .DOM_STAT_CLK_STOPPED) :
    (s.touch d).get f u = s.get f u := by
  unfold State.touch; dsimp only
  repeat' split
  · rfl
  · rfl
  · exact (State.get_set_other _ _ (fun e => h e.1.symm)).trans rfl

@[simp] theorem touch_idx (s : State) (d : Nat) : (s.touch d).idx = s.idx :=
  touch_get s d 0 (by decide)

@[simp] theorem touch_kept (s : State) (d : Nat) (c : Chan) : (s.touch d).kept c = s.kept c := by
  unfold State.kept; rw [touch_ecx]

@[simp] theorem touch_held (s : State) (d : Nat) (c : Chan) : (s.touch d).held c = s.held c := by
  unfold State.held; rw [touch_ecx]

@[simp] theorem touch_presentWorker (s : State) (d i : Nat) : (s.touch d).presentWorker i = s.presentWorker i := by
  unfold State.presentWorker; rw [touch_hier]

@[simp] theorem opPacket_params (o : Nat) (p : Packet) : (opPacket o p).params = p.params := rfl
@[simp] theorem opPacket_u8 (o : Nat) (p : Packet) (k : Nat) : (opPacket o p).u8 k = p.u8 k := rfl
@[simp] theorem opPacket_u16 (o : Nat) (p : Packet) (k : Nat) : (opPacket o p).u16 k = p.u16 k := rfl
@[simp] theorem opPacket_u32 (o : Nat) (p : Packet) (k : Nat) : (opPacket o p).u32 k = p.u32 k := rfl
@[simp] theorem opPacket_u64 (o : Nat) (p : Packet) (k : Nat) : (opPacket o p).u64 k = p.u64 k := rfl
@[simp] theorem opPacket_opcode (o : Nat) (p : Packet) : (opPacket o p).opcode = o := rfl
@[simp] theorem opPacket_cls (o : Nat) (p : Packet) : (opPacket o p).cls = opcodeClass o := rfl
@[simp] theorem opPacket_chan (o : Nat) (p : Packet) : (opPacket o p).chan = p.chan := rfl
@[simp] theorem opPacket_origin (o : Nat) (p : Packet) : (opPacket o p).origin = p.origin := rfl
@[simp] theorem opPacket_tag (o : Nat) (p : Packet) : (opPacket o p).tag = p.tag := rfl
@[simp] theorem opPacket_seq (o : Nat) (p : Packet) : (opPacket o p).seq = p.seq := rfl
@[simp] theorem opPacket_noReply (o : Nat) (p : Packet) : (opPacket o p).noReply = p.noReply := rfl

/-- A command that runs now has its effect, from the state it starts in, and is answered. -/
theorem runOp_starts (h : startsAs o (need (opPacket o p) s) p s t) :
    runOp o p need eff s = opEnd (opPacket o p) (eff (opPacket o p) t) := by
  obtain ⟨h, rfl⟩ := h
  simp only [runs, Bool.and_eq_true, Bool.not_eq_true', Option.isNone_iff_eq_none] at h
  obtain ⟨⟨⟨h1, h0⟩, h2⟩, h3⟩ := h
  have h4 : ((need (opPacket o p) s).filter (fun d => !s.domFenced d)).all (s.opWaiting (opPacket o p)).domOn = true := by
    simpa [domOn_opWaiting] using h3
  simp [runOp, h1, h0, h2, State.opWake, State.wakeFor, domOn_opWaiting] at h4 ⊢
  rw [if_pos h4]
  simp [started]

/-- A command waits in its queue while the token has moved to a half that does not run yet. -/
theorem runOp_waits_lead (h : s.noLead = true) : runOp o p need eff s = s.opWaiting (opPacket o p) := by
  simp [runOp, h]

/-- A command behind one that goes before it waits in its queue. -/
theorem runOp_waits (h : mustWait s.ecx.queue (opPacket o p) = true) : runOp o p need eff s = s.opWaiting (opPacket o p) := by
  simp [runOp, h]

/-- A command that a check of R214 refuses is answered with that check's status and does nothing else. -/
theorem runOp_refused {st : Nat} (h : mustWait s.ecx.queue (opPacket o p) = false) (h0 : s.noLead = false)
    (h2 : refusalOf s (opPacket o p) = some st) :
    runOp o p need eff s = (s.takePacket (opPacket o p)).refusePacket (opPacket o p) st := by
  simp [runOp, h, h0, h2]

/-- A message that is heard has its effect, from the state it starts in. -/
theorem receiveMsg_heard {typ : Nat} {m : HMsg} {f : State → State} (h : heardAs typ m s t) :
    receiveMsg typ m s f = f t := by
  obtain ⟨h1, h2, rfl⟩ := h
  unfold receiveMsg
  rw [if_neg (by simp [h1])]
  exact if_neg (by rw [beq_iff_eq]; exact h2)

/-- A message that is not heard has no effect. -/
theorem receiveMsg_deaf {typ : Nat} {m : HMsg} {f : State → State} (h : s.hears m = false) :
    receiveMsg typ m s f = s := by
  simp [receiveMsg, h]

/-- A record that passes its checks, of a type that is asked for, has its effect. -/
theorem takeRec_passed {lane : Nat} {mine : Nat → Bool} {f : WRec → Ctx → State → State} {r : WRec} {c : Ctx}
    (h : recordAs lane r c s t) (hm : mine r.typ = true) : s.takeRec lane mine f = f r c t := by
  obtain ⟨rest, h1, h2, rfl, h3, h4⟩ := h
  unfold State.takeRec
  rw [h1]
  simp only [hm, h2, Bool.not_true, Bool.or_self, Bool.false_eq_true, if_false, h3, h4]

end Sys2Proof.Laws
end

