-- ==== Sys2Proof/Laws/Memory.lean ====
section
/-! SUPPORT. The inbound mailbox window: a read after a write, and that every write keeps the canonical form. -/

namespace Sys2Proof.Machine

theorem Memory.wf_tail {c : Host.Cell} {r : List Host.Cell} (h : Memory.wf (c :: r) = true) : Memory.wf r = true := by
  cases r with
  | nil => rfl
  | cons d r => simp [Memory.wf] at h; exact h.2

theorem Memory.wf_head {c : Host.Cell} {r : List Host.Cell} (h : Memory.wf (c :: r) = true) : c.2 ≠ 0 := by
  cases r <;> simp [Memory.wf] at h
  · exact h
  · exact h.1.1

/-- The first address is below every later one. -/
theorem Memory.wf_lt {c : Host.Cell} {r : List Host.Cell} (h : Memory.wf (c :: r) = true) :
    ∀ d ∈ r, c.1 < d.1 := by
  induction r generalizing c with
  | nil => simp
  | cons e r ih =>
    have hc : c.1 < e.1 := by simp [Memory.wf] at h; exact h.1.2
    intro d hd
    rcases List.mem_cons.1 hd with rfl | hd
    · exact hc
    · exact hc.trans (ih (Memory.wf_tail h) d hd)

theorem Memory.wf_cons {c : Host.Cell} {r : List Host.Cell} (hc : c.2 ≠ 0) (hl : ∀ d ∈ r, c.1 < d.1)
    (h : Memory.wf r = true) : Memory.wf (c :: r) = true := by
  cases r with
  | nil => simpa [Memory.wf] using hc
  | cons d r => simp [Memory.wf, hl d (by simp), h]; exact hc

theorem Memory.byte_ne {v : Nat} (h : v % 256 ≠ 0) : BitVec.ofNat 8 v ≠ 0 := by
  intro e; have := congrArg BitVec.toNat e; simp at this; omega

theorem Memory.mem_put {a v : Nat} {m : List Host.Cell} {d : Host.Cell} (h : d ∈ Memory.put a v m) :
    d.1 = a ∨ d ∈ m := by
  induction m with
  | nil => simp only [Memory.put] at h; split at h <;> simp_all
  | cons c r ih =>
    simp only [Memory.put] at h
    split at h
    · rcases List.mem_cons.1 h with rfl | h
      · simp
      · rcases ih h with h | h <;> simp [h]
    · split at h <;> split at h <;> simp_all
      all_goals (rcases h with rfl | h <;> simp_all)

/-- A write keeps the canonical form. -/
theorem Memory.wf_put (a v : Nat) {m : List Host.Cell} (h : Memory.wf m = true) :
    Memory.wf (Memory.put a v m) = true := by
  induction m with
  | nil =>
    simp only [Memory.put]
    split
    · rfl
    · rename_i hv; simpa [Memory.wf] using Memory.byte_ne (by simpa using hv)
  | cons c r ih =>
    have ht := Memory.wf_tail h
    have hl := Memory.wf_lt h
    simp only [Memory.put]
    split
    · rename_i hc
      refine Memory.wf_cons (Memory.wf_head h) (fun d hd => ?_) (ih ht)
      rcases Memory.mem_put hd with e | hd
      · omega
      · exact hl d hd
    · split
      · rename_i _ hc
        have hc : c.1 = a := by simpa using hc
        split
        · exact ht
        · rename_i hv
          exact Memory.wf_cons (Memory.byte_ne (by simpa using hv)) (by simpa [← hc] using hl) ht
      · rename_i h1 h2
        have hlt : a < c.1 := by simp at h2; omega
        split
        · exact h
        · rename_i hv
          refine Memory.wf_cons (Memory.byte_ne (by simpa using hv)) (fun d hd => ?_) h
          rcases List.mem_cons.1 hd with rfl | hd
          · exact hlt
          · exact hlt.trans (hl d hd)

theorem Memory.wf_putAll (a : Nat) (l : List Nat) {m : List Host.Cell} (h : Memory.wf m = true) :
    Memory.wf (Memory.putAll a l m) = true := by
  induction l generalizing a m with
  | nil => exact h
  | cons v r ih => exact ih _ (Memory.wf_put a v h)

theorem Memory.get_nil (a : Nat) : Memory.get [] a = 0 := rfl

theorem Memory.get_cons (c : Host.Cell) (r : List Host.Cell) (a : Nat) :
    Memory.get (c :: r) a = if c.1 = a then c.2.toNat else Memory.get r a := by
  by_cases h : c.1 = a <;> simp [Memory.get, h]

theorem Memory.get_above {m : List Host.Cell} {a : Nat} (h : ∀ d ∈ m, a < d.1) : Memory.get m a = 0 := by
  induction m with
  | nil => rfl
  | cons c r ih =>
    have := h c (by simp)
    rw [Memory.get_cons, if_neg (by omega), ih (fun d hd => h d (by simp [hd]))]

/-- A read after a write to the same address gives the byte written. -/
theorem Memory.get_put_same (a v : Nat) {m : List Host.Cell} (h : Memory.wf m = true) :
    Memory.get (Memory.put a v m) a = v % 256 := by
  induction m with
  | nil =>
    simp only [Memory.put]
    split
    · rename_i hv; simp at hv; simp [Memory.get, hv]
    · simp [Memory.get_cons]
  | cons c r ih =>
    simp only [Memory.put]
    split
    · rename_i hc
      rw [Memory.get_cons, if_neg (by omega), ih (Memory.wf_tail h)]
    · split
      · rename_i _ hc
        have hc : c.1 = a := by simpa using hc
        split
        · rename_i hv
          rw [Memory.get_above (by simpa [← hc] using Memory.wf_lt h)]; simp at hv; omega
        · simp [Memory.get_cons]
      · rename_i h1 h2
        have hlt : a < c.1 := by simp at h2; omega
        split
        · rename_i hv
          rw [Memory.get_above]
          · simp at hv; omega
          · intro d hd
            rcases List.mem_cons.1 hd with rfl | hd
            · exact hlt
            · exact hlt.trans (Memory.wf_lt h d hd)
        · simp [Memory.get_cons]

/-- A write leaves every other address as it was. -/
theorem Memory.get_put_other (a v b : Nat) {m : List Host.Cell} (hb : b ≠ a) :
    Memory.get (Memory.put a v m) b = Memory.get m b := by
  have hb' : a ≠ b := Ne.symm hb
  induction m with
  | nil => simp only [Memory.put]; split <;> simp [Memory.get_cons, Memory.get_nil, hb']
  | cons c r ih =>
    simp only [Memory.put]
    split
    · simp [Memory.get_cons, ih]
    · split
      · rename_i _ hc
        have hc : c.1 = a := by simpa using hc
        split <;> simp [Memory.get_cons, hc, hb']
      · split <;> simp [Memory.get_cons, hb']

end Sys2Proof.Machine
end

