-- ==== Sys2Proof/Laws/State.lean ====
section
/-! SUPPORT. What each update of the state leaves as it was, one lemma for each field and update. -/

namespace Sys2Proof.Machine

/-! ### `State.set` changes `regs` only -/

@[simp] theorem State.set_dt (s : State) (f : Fld) (u v : Nat) : (s.set f u v).dt = s.dt := rfl
@[simp] theorem State.set_stepped (s : State) (f : Fld) (u v : Nat) : (s.set f u v).stepped = s.stepped := rfl
@[simp] theorem State.set_epoch (s : State) (f : Fld) (u v : Nat) : (s.set f u v).epoch = s.epoch := rfl
@[simp] theorem State.set_dtFrac (s : State) (f : Fld) (u v : Nat) : (s.set f u v).dtFrac = s.dtFrac := rfl
@[simp] theorem State.set_slowPhase (s : State) (f : Fld) (u v : Nat) : (s.set f u v).slowPhase = s.slowPhase := rfl
@[simp] theorem State.set_slowDue (s : State) (f : Fld) (u v : Nat) : (s.set f u v).slowDue = s.slowDue := rfl
@[simp] theorem State.set_freeCtr (s : State) (f : Fld) (u v : Nat) : (s.set f u v).freeCtr = s.freeCtr := rfl
@[simp] theorem State.set_pending (s : State) (f : Fld) (u v : Nat) : (s.set f u v).pending = s.pending := rfl
@[simp] theorem State.set_pins (s : State) (f : Fld) (u v : Nat) : (s.set f u v).pins = s.pins := rfl
@[simp] theorem State.set_boot (s : State) (f : Fld) (u v : Nat) : (s.set f u v).boot = s.boot := rfl
@[simp] theorem State.set_ecx (s : State) (f : Fld) (u v : Nat) : (s.set f u v).ecx = s.ecx := rfl
@[simp] theorem State.set_mbox (s : State) (f : Fld) (u v : Nat) : (s.set f u v).mbox = s.mbox := rfl
@[simp] theorem State.set_doms (s : State) (f : Fld) (u v : Nat) : (s.set f u v).doms = s.doms := rfl
@[simp] theorem State.set_flt (s : State) (f : Fld) (u v : Nat) : (s.set f u v).flt = s.flt := rfl
@[simp] theorem State.set_sec (s : State) (f : Fld) (u v : Nat) : (s.set f u v).sec = s.sec := rfl
@[simp] theorem State.set_mgmt (s : State) (f : Fld) (u v : Nat) : (s.set f u v).mgmt = s.mgmt := rfl
@[simp] theorem State.set_shadows (s : State) (f : Fld) (u v : Nat) : (s.set f u v).shadows = s.shadows := rfl
@[simp] theorem State.set_winOps (s : State) (f : Fld) (u v : Nat) : (s.set f u v).winOps = s.winOps := rfl
@[simp] theorem State.set_lastRead (s : State) (f : Fld) (u v : Nat) : (s.set f u v).lastRead = s.lastRead := rfl
@[simp] theorem State.set_snap (s : State) (f : Fld) (u v : Nat) : (s.set f u v).snap = s.snap := rfl
@[simp] theorem State.set_up (s : State) (f : Fld) (u v : Nat) : (s.set f u v).up = s.up := rfl
@[simp] theorem State.set_avsTries (s : State) (f : Fld) (u v : Nat) : (s.set f u v).avsTries = s.avsTries := rfl
@[simp] theorem State.set_avsFrom (s : State) (f : Fld) (u v : Nat) : (s.set f u v).avsFrom = s.avsFrom := rfl
@[simp] theorem State.set_avsAt (s : State) (f : Fld) (u v : Nat) : (s.set f u v).avsAt = s.avsAt := rfl
@[simp] theorem State.set_feeds (s : State) (f : Fld) (u v : Nat) : (s.set f u v).feeds = s.feeds := rfl
@[simp] theorem State.set_ports (s : State) (f : Fld) (u v : Nat) : (s.set f u v).ports = s.ports := rfl
@[simp] theorem State.set_skeins (s : State) (f : Fld) (u v : Nat) : (s.set f u v).skeins = s.skeins := rfl
@[simp] theorem State.set_loom (s : State) (f : Fld) (u v : Nat) : (s.set f u v).loom = s.loom := rfl
@[simp] theorem State.set_shuts (s : State) (f : Fld) (u v : Nat) : (s.set f u v).shuts = s.shuts := rfl
@[simp] theorem State.set_hub (s : State) (f : Fld) (u v : Nat) : (s.set f u v).hub = s.hub := rfl
@[simp] theorem State.set_cans (s : State) (f : Fld) (u v : Nat) : (s.set f u v).cans = s.cans := rfl
@[simp] theorem State.set_hier (s : State) (f : Fld) (u v : Nat) : (s.set f u v).hier = s.hier := rfl
@[simp] theorem State.set_measBase (s : State) (f : Fld) (u v : Nat) : (s.set f u v).measBase = s.measBase := rfl
@[simp] theorem State.set_measShift (s : State) (f : Fld) (u v : Nat) : (s.set f u v).measShift = s.measShift := rfl
@[simp] theorem State.set_measDt (s : State) (f : Fld) (u v : Nat) : (s.set f u v).measDt = s.measDt := rfl
@[simp] theorem State.set_porstNs (s : State) (f : Fld) (u v : Nat) : (s.set f u v).porstNs = s.porstNs := rfl

/-! ### `State.resetRegs` changes `regs` only -/

@[simp] theorem State.resetRegs_dt (s : State) (p : Cell → Bool) : (s.resetRegs p).dt = s.dt := rfl
@[simp] theorem State.resetRegs_stepped (s : State) (p : Cell → Bool) : (s.resetRegs p).stepped = s.stepped := rfl
@[simp] theorem State.resetRegs_epoch (s : State) (p : Cell → Bool) : (s.resetRegs p).epoch = s.epoch := rfl
@[simp] theorem State.resetRegs_dtFrac (s : State) (p : Cell → Bool) : (s.resetRegs p).dtFrac = s.dtFrac := rfl
@[simp] theorem State.resetRegs_slowPhase (s : State) (p : Cell → Bool) : (s.resetRegs p).slowPhase = s.slowPhase :=
  rfl
@[simp] theorem State.resetRegs_slowDue (s : State) (p : Cell → Bool) : (s.resetRegs p).slowDue = s.slowDue := rfl
@[simp] theorem State.resetRegs_freeCtr (s : State) (p : Cell → Bool) : (s.resetRegs p).freeCtr = s.freeCtr := rfl
@[simp] theorem State.resetRegs_pending (s : State) (p : Cell → Bool) : (s.resetRegs p).pending = s.pending := rfl
@[simp] theorem State.resetRegs_pins (s : State) (p : Cell → Bool) : (s.resetRegs p).pins = s.pins := rfl
@[simp] theorem State.resetRegs_boot (s : State) (p : Cell → Bool) : (s.resetRegs p).boot = s.boot := rfl
@[simp] theorem State.resetRegs_ecx (s : State) (p : Cell → Bool) : (s.resetRegs p).ecx = s.ecx := rfl
@[simp] theorem State.resetRegs_mbox (s : State) (p : Cell → Bool) : (s.resetRegs p).mbox = s.mbox := rfl
@[simp] theorem State.resetRegs_doms (s : State) (p : Cell → Bool) : (s.resetRegs p).doms = s.doms := rfl
@[simp] theorem State.resetRegs_flt (s : State) (p : Cell → Bool) : (s.resetRegs p).flt = s.flt := rfl
@[simp] theorem State.resetRegs_sec (s : State) (p : Cell → Bool) : (s.resetRegs p).sec = s.sec := rfl
@[simp] theorem State.resetRegs_mgmt (s : State) (p : Cell → Bool) : (s.resetRegs p).mgmt = s.mgmt := rfl
@[simp] theorem State.resetRegs_shadows (s : State) (p : Cell → Bool) : (s.resetRegs p).shadows = s.shadows := rfl
@[simp] theorem State.resetRegs_winOps (s : State) (p : Cell → Bool) : (s.resetRegs p).winOps = s.winOps := rfl
@[simp] theorem State.resetRegs_lastRead (s : State) (p : Cell → Bool) : (s.resetRegs p).lastRead = s.lastRead := rfl
@[simp] theorem State.resetRegs_snap (s : State) (p : Cell → Bool) : (s.resetRegs p).snap = s.snap := rfl
@[simp] theorem State.resetRegs_up (s : State) (p : Cell → Bool) : (s.resetRegs p).up = s.up := rfl
@[simp] theorem State.resetRegs_avsTries (s : State) (p : Cell → Bool) : (s.resetRegs p).avsTries = s.avsTries := rfl
@[simp] theorem State.resetRegs_avsFrom (s : State) (p : Cell → Bool) : (s.resetRegs p).avsFrom = s.avsFrom := rfl
@[simp] theorem State.resetRegs_avsAt (s : State) (p : Cell → Bool) : (s.resetRegs p).avsAt = s.avsAt := rfl
@[simp] theorem State.resetRegs_feeds (s : State) (p : Cell → Bool) : (s.resetRegs p).feeds = s.feeds := rfl
@[simp] theorem State.resetRegs_ports (s : State) (p : Cell → Bool) : (s.resetRegs p).ports = s.ports := rfl
@[simp] theorem State.resetRegs_skeins (s : State) (p : Cell → Bool) : (s.resetRegs p).skeins = s.skeins := rfl
@[simp] theorem State.resetRegs_loom (s : State) (p : Cell → Bool) : (s.resetRegs p).loom = s.loom := rfl
@[simp] theorem State.resetRegs_shuts (s : State) (p : Cell → Bool) : (s.resetRegs p).shuts = s.shuts := rfl
@[simp] theorem State.resetRegs_hub (s : State) (p : Cell → Bool) : (s.resetRegs p).hub = s.hub := rfl
@[simp] theorem State.resetRegs_cans (s : State) (p : Cell → Bool) : (s.resetRegs p).cans = s.cans := rfl
@[simp] theorem State.resetRegs_hier (s : State) (p : Cell → Bool) : (s.resetRegs p).hier = s.hier := rfl
@[simp] theorem State.resetRegs_measBase (s : State) (p : Cell → Bool) : (s.resetRegs p).measBase = s.measBase := rfl
@[simp] theorem State.resetRegs_measShift (s : State) (p : Cell → Bool) : (s.resetRegs p).measShift = s.measShift :=
  rfl
@[simp] theorem State.resetRegs_measDt (s : State) (p : Cell → Bool) : (s.resetRegs p).measDt = s.measDt := rfl
@[simp] theorem State.resetRegs_porstNs (s : State) (p : Cell → Bool) : (s.resetRegs p).porstNs = s.porstNs := rfl

/-! ### `State.useFree` changes `freeCtr` only -/

@[simp] theorem State.useFree_regs (s : State) : (s.useFree).regs = s.regs := rfl
@[simp] theorem State.useFree_dt (s : State) : (s.useFree).dt = s.dt := rfl
@[simp] theorem State.useFree_stepped (s : State) : (s.useFree).stepped = s.stepped := rfl
@[simp] theorem State.useFree_epoch (s : State) : (s.useFree).epoch = s.epoch := rfl
@[simp] theorem State.useFree_dtFrac (s : State) : (s.useFree).dtFrac = s.dtFrac := rfl
@[simp] theorem State.useFree_slowPhase (s : State) : (s.useFree).slowPhase = s.slowPhase := rfl
@[simp] theorem State.useFree_slowDue (s : State) : (s.useFree).slowDue = s.slowDue := rfl
@[simp] theorem State.useFree_pending (s : State) : (s.useFree).pending = s.pending := rfl
@[simp] theorem State.useFree_pins (s : State) : (s.useFree).pins = s.pins := rfl
@[simp] theorem State.useFree_boot (s : State) : (s.useFree).boot = s.boot := rfl
@[simp] theorem State.useFree_ecx (s : State) : (s.useFree).ecx = s.ecx := rfl
@[simp] theorem State.useFree_mbox (s : State) : (s.useFree).mbox = s.mbox := rfl
@[simp] theorem State.useFree_doms (s : State) : (s.useFree).doms = s.doms := rfl
@[simp] theorem State.useFree_flt (s : State) : (s.useFree).flt = s.flt := rfl
@[simp] theorem State.useFree_sec (s : State) : (s.useFree).sec = s.sec := rfl
@[simp] theorem State.useFree_mgmt (s : State) : (s.useFree).mgmt = s.mgmt := rfl
@[simp] theorem State.useFree_shadows (s : State) : (s.useFree).shadows = s.shadows := rfl
@[simp] theorem State.useFree_winOps (s : State) : (s.useFree).winOps = s.winOps := rfl
@[simp] theorem State.useFree_lastRead (s : State) : (s.useFree).lastRead = s.lastRead := rfl
@[simp] theorem State.useFree_snap (s : State) : (s.useFree).snap = s.snap := rfl
@[simp] theorem State.useFree_up (s : State) : (s.useFree).up = s.up := rfl
@[simp] theorem State.useFree_avsTries (s : State) : (s.useFree).avsTries = s.avsTries := rfl
@[simp] theorem State.useFree_avsFrom (s : State) : (s.useFree).avsFrom = s.avsFrom := rfl
@[simp] theorem State.useFree_avsAt (s : State) : (s.useFree).avsAt = s.avsAt := rfl
@[simp] theorem State.useFree_feeds (s : State) : (s.useFree).feeds = s.feeds := rfl
@[simp] theorem State.useFree_ports (s : State) : (s.useFree).ports = s.ports := rfl
@[simp] theorem State.useFree_skeins (s : State) : (s.useFree).skeins = s.skeins := rfl
@[simp] theorem State.useFree_loom (s : State) : (s.useFree).loom = s.loom := rfl
@[simp] theorem State.useFree_shuts (s : State) : (s.useFree).shuts = s.shuts := rfl
@[simp] theorem State.useFree_hub (s : State) : (s.useFree).hub = s.hub := rfl
@[simp] theorem State.useFree_cans (s : State) : (s.useFree).cans = s.cans := rfl
@[simp] theorem State.useFree_hier (s : State) : (s.useFree).hier = s.hier := rfl
@[simp] theorem State.useFree_measBase (s : State) : (s.useFree).measBase = s.measBase := rfl
@[simp] theorem State.useFree_measShift (s : State) : (s.useFree).measShift = s.measShift := rfl
@[simp] theorem State.useFree_measDt (s : State) : (s.useFree).measDt = s.measDt := rfl
@[simp] theorem State.useFree_porstNs (s : State) : (s.useFree).porstNs = s.porstNs := rfl

@[simp] theorem State.get_useFree (s : State)  (g : Fld) (w : Nat) :
    (s.useFree).get g w = s.get g w := rfl

/-! ### `State.modDom` changes `doms` only -/

@[simp] theorem State.modDom_regs (s : State) (d : Nat) (f : Dom → Dom) : (s.modDom d f).regs = s.regs := rfl
@[simp] theorem State.modDom_dt (s : State) (d : Nat) (f : Dom → Dom) : (s.modDom d f).dt = s.dt := rfl
@[simp] theorem State.modDom_stepped (s : State) (d : Nat) (f : Dom → Dom) : (s.modDom d f).stepped = s.stepped := rfl
@[simp] theorem State.modDom_epoch (s : State) (d : Nat) (f : Dom → Dom) : (s.modDom d f).epoch = s.epoch := rfl
@[simp] theorem State.modDom_dtFrac (s : State) (d : Nat) (f : Dom → Dom) : (s.modDom d f).dtFrac = s.dtFrac := rfl
@[simp] theorem State.modDom_slowPhase (s : State) (d : Nat) (f : Dom → Dom) : (s.modDom d f).slowPhase = s.slowPhase :=
  rfl
@[simp] theorem State.modDom_slowDue (s : State) (d : Nat) (f : Dom → Dom) : (s.modDom d f).slowDue = s.slowDue := rfl
@[simp] theorem State.modDom_freeCtr (s : State) (d : Nat) (f : Dom → Dom) : (s.modDom d f).freeCtr = s.freeCtr := rfl
@[simp] theorem State.modDom_pending (s : State) (d : Nat) (f : Dom → Dom) : (s.modDom d f).pending = s.pending := rfl
@[simp] theorem State.modDom_pins (s : State) (d : Nat) (f : Dom → Dom) : (s.modDom d f).pins = s.pins := rfl
@[simp] theorem State.modDom_boot (s : State) (d : Nat) (f : Dom → Dom) : (s.modDom d f).boot = s.boot := rfl
@[simp] theorem State.modDom_ecx (s : State) (d : Nat) (f : Dom → Dom) : (s.modDom d f).ecx = s.ecx := rfl
@[simp] theorem State.modDom_mbox (s : State) (d : Nat) (f : Dom → Dom) : (s.modDom d f).mbox = s.mbox := rfl
@[simp] theorem State.modDom_flt (s : State) (d : Nat) (f : Dom → Dom) : (s.modDom d f).flt = s.flt := rfl
@[simp] theorem State.modDom_sec (s : State) (d : Nat) (f : Dom → Dom) : (s.modDom d f).sec = s.sec := rfl
@[simp] theorem State.modDom_mgmt (s : State) (d : Nat) (f : Dom → Dom) : (s.modDom d f).mgmt = s.mgmt := rfl
@[simp] theorem State.modDom_shadows (s : State) (d : Nat) (f : Dom → Dom) : (s.modDom d f).shadows = s.shadows := rfl
@[simp] theorem State.modDom_winOps (s : State) (d : Nat) (f : Dom → Dom) : (s.modDom d f).winOps = s.winOps := rfl
@[simp] theorem State.modDom_lastRead (s : State) (d : Nat) (f : Dom → Dom) : (s.modDom d f).lastRead = s.lastRead :=
  rfl
@[simp] theorem State.modDom_snap (s : State) (d : Nat) (f : Dom → Dom) : (s.modDom d f).snap = s.snap := rfl
@[simp] theorem State.modDom_up (s : State) (d : Nat) (f : Dom → Dom) : (s.modDom d f).up = s.up := rfl
@[simp] theorem State.modDom_avsTries (s : State) (d : Nat) (f : Dom → Dom) : (s.modDom d f).avsTries = s.avsTries :=
  rfl
@[simp] theorem State.modDom_avsFrom (s : State) (d : Nat) (f : Dom → Dom) : (s.modDom d f).avsFrom = s.avsFrom := rfl
@[simp] theorem State.modDom_avsAt (s : State) (d : Nat) (f : Dom → Dom) : (s.modDom d f).avsAt = s.avsAt := rfl
@[simp] theorem State.modDom_feeds (s : State) (d : Nat) (f : Dom → Dom) : (s.modDom d f).feeds = s.feeds := rfl
@[simp] theorem State.modDom_ports (s : State) (d : Nat) (f : Dom → Dom) : (s.modDom d f).ports = s.ports := rfl
@[simp] theorem State.modDom_skeins (s : State) (d : Nat) (f : Dom → Dom) : (s.modDom d f).skeins = s.skeins := rfl
@[simp] theorem State.modDom_loom (s : State) (d : Nat) (f : Dom → Dom) : (s.modDom d f).loom = s.loom := rfl
@[simp] theorem State.modDom_shuts (s : State) (d : Nat) (f : Dom → Dom) : (s.modDom d f).shuts = s.shuts := rfl
@[simp] theorem State.modDom_hub (s : State) (d : Nat) (f : Dom → Dom) : (s.modDom d f).hub = s.hub := rfl
@[simp] theorem State.modDom_cans (s : State) (d : Nat) (f : Dom → Dom) : (s.modDom d f).cans = s.cans := rfl
@[simp] theorem State.modDom_hier (s : State) (d : Nat) (f : Dom → Dom) : (s.modDom d f).hier = s.hier := rfl
@[simp] theorem State.modDom_measBase (s : State) (d : Nat) (f : Dom → Dom) : (s.modDom d f).measBase = s.measBase :=
  rfl
@[simp] theorem State.modDom_measShift (s : State) (d : Nat) (f : Dom → Dom) : (s.modDom d f).measShift = s.measShift :=
  rfl
@[simp] theorem State.modDom_measDt (s : State) (d : Nat) (f : Dom → Dom) : (s.modDom d f).measDt = s.measDt := rfl
@[simp] theorem State.modDom_porstNs (s : State) (d : Nat) (f : Dom → Dom) : (s.modDom d f).porstNs = s.porstNs := rfl

@[simp] theorem State.get_modDom (s : State) (d : Nat) (f : Dom → Dom) (g : Fld) (w : Nat) :
    (s.modDom d f).get g w = s.get g w := rfl

/-! ### `State.modFeed` changes `feeds` only -/

@[simp] theorem State.modFeed_regs (s : State) (n : Nat) (f : FeedH → FeedH) : (s.modFeed n f).regs = s.regs := rfl
@[simp] theorem State.modFeed_dt (s : State) (n : Nat) (f : FeedH → FeedH) : (s.modFeed n f).dt = s.dt := rfl
@[simp] theorem State.modFeed_stepped (s : State) (n : Nat) (f : FeedH → FeedH) : (s.modFeed n f).stepped = s.stepped :=
  rfl
@[simp] theorem State.modFeed_epoch (s : State) (n : Nat) (f : FeedH → FeedH) : (s.modFeed n f).epoch = s.epoch := rfl
@[simp] theorem State.modFeed_dtFrac (s : State) (n : Nat) (f : FeedH → FeedH) : (s.modFeed n f).dtFrac = s.dtFrac :=
  rfl
@[simp] theorem State.modFeed_slowPhase (s : State) (n : Nat) (f : FeedH → FeedH) : (s.modFeed n f).slowPhase = s.slowPhase :=
  rfl
@[simp] theorem State.modFeed_slowDue (s : State) (n : Nat) (f : FeedH → FeedH) : (s.modFeed n f).slowDue = s.slowDue :=
  rfl
@[simp] theorem State.modFeed_freeCtr (s : State) (n : Nat) (f : FeedH → FeedH) : (s.modFeed n f).freeCtr = s.freeCtr :=
  rfl
@[simp] theorem State.modFeed_pending (s : State) (n : Nat) (f : FeedH → FeedH) : (s.modFeed n f).pending = s.pending :=
  rfl
@[simp] theorem State.modFeed_pins (s : State) (n : Nat) (f : FeedH → FeedH) : (s.modFeed n f).pins = s.pins := rfl
@[simp] theorem State.modFeed_boot (s : State) (n : Nat) (f : FeedH → FeedH) : (s.modFeed n f).boot = s.boot := rfl
@[simp] theorem State.modFeed_ecx (s : State) (n : Nat) (f : FeedH → FeedH) : (s.modFeed n f).ecx = s.ecx := rfl
@[simp] theorem State.modFeed_mbox (s : State) (n : Nat) (f : FeedH → FeedH) : (s.modFeed n f).mbox = s.mbox := rfl
@[simp] theorem State.modFeed_doms (s : State) (n : Nat) (f : FeedH → FeedH) : (s.modFeed n f).doms = s.doms := rfl
@[simp] theorem State.modFeed_flt (s : State) (n : Nat) (f : FeedH → FeedH) : (s.modFeed n f).flt = s.flt := rfl
@[simp] theorem State.modFeed_sec (s : State) (n : Nat) (f : FeedH → FeedH) : (s.modFeed n f).sec = s.sec := rfl
@[simp] theorem State.modFeed_mgmt (s : State) (n : Nat) (f : FeedH → FeedH) : (s.modFeed n f).mgmt = s.mgmt := rfl
@[simp] theorem State.modFeed_shadows (s : State) (n : Nat) (f : FeedH → FeedH) : (s.modFeed n f).shadows = s.shadows :=
  rfl
@[simp] theorem State.modFeed_winOps (s : State) (n : Nat) (f : FeedH → FeedH) : (s.modFeed n f).winOps = s.winOps :=
  rfl
@[simp] theorem State.modFeed_lastRead (s : State) (n : Nat) (f : FeedH → FeedH) : (s.modFeed n f).lastRead = s.lastRead :=
  rfl
@[simp] theorem State.modFeed_snap (s : State) (n : Nat) (f : FeedH → FeedH) : (s.modFeed n f).snap = s.snap := rfl
@[simp] theorem State.modFeed_up (s : State) (n : Nat) (f : FeedH → FeedH) : (s.modFeed n f).up = s.up := rfl
@[simp] theorem State.modFeed_avsTries (s : State) (n : Nat) (f : FeedH → FeedH) : (s.modFeed n f).avsTries = s.avsTries :=
  rfl
@[simp] theorem State.modFeed_avsFrom (s : State) (n : Nat) (f : FeedH → FeedH) : (s.modFeed n f).avsFrom = s.avsFrom :=
  rfl
@[simp] theorem State.modFeed_avsAt (s : State) (n : Nat) (f : FeedH → FeedH) : (s.modFeed n f).avsAt = s.avsAt := rfl
@[simp] theorem State.modFeed_ports (s : State) (n : Nat) (f : FeedH → FeedH) : (s.modFeed n f).ports = s.ports := rfl
@[simp] theorem State.modFeed_skeins (s : State) (n : Nat) (f : FeedH → FeedH) : (s.modFeed n f).skeins = s.skeins :=
  rfl
@[simp] theorem State.modFeed_loom (s : State) (n : Nat) (f : FeedH → FeedH) : (s.modFeed n f).loom = s.loom := rfl
@[simp] theorem State.modFeed_shuts (s : State) (n : Nat) (f : FeedH → FeedH) : (s.modFeed n f).shuts = s.shuts := rfl
@[simp] theorem State.modFeed_hub (s : State) (n : Nat) (f : FeedH → FeedH) : (s.modFeed n f).hub = s.hub := rfl
@[simp] theorem State.modFeed_cans (s : State) (n : Nat) (f : FeedH → FeedH) : (s.modFeed n f).cans = s.cans := rfl
@[simp] theorem State.modFeed_hier (s : State) (n : Nat) (f : FeedH → FeedH) : (s.modFeed n f).hier = s.hier := rfl
@[simp] theorem State.modFeed_measBase (s : State) (n : Nat) (f : FeedH → FeedH) : (s.modFeed n f).measBase = s.measBase :=
  rfl
@[simp] theorem State.modFeed_measShift (s : State) (n : Nat) (f : FeedH → FeedH) : (s.modFeed n f).measShift = s.measShift :=
  rfl
@[simp] theorem State.modFeed_measDt (s : State) (n : Nat) (f : FeedH → FeedH) : (s.modFeed n f).measDt = s.measDt :=
  rfl
@[simp] theorem State.modFeed_porstNs (s : State) (n : Nat) (f : FeedH → FeedH) : (s.modFeed n f).porstNs = s.porstNs :=
  rfl

@[simp] theorem State.get_modFeed (s : State) (n : Nat) (f : FeedH → FeedH) (g : Fld) (w : Nat) :
    (s.modFeed n f).get g w = s.get g w := rfl

/-! ### `State.modPort` changes `ports` only -/

@[simp] theorem State.modPort_regs (s : State) (n : Nat) (f : PortH → PortH) : (s.modPort n f).regs = s.regs := rfl
@[simp] theorem State.modPort_dt (s : State) (n : Nat) (f : PortH → PortH) : (s.modPort n f).dt = s.dt := rfl
@[simp] theorem State.modPort_stepped (s : State) (n : Nat) (f : PortH → PortH) : (s.modPort n f).stepped = s.stepped :=
  rfl
@[simp] theorem State.modPort_epoch (s : State) (n : Nat) (f : PortH → PortH) : (s.modPort n f).epoch = s.epoch := rfl
@[simp] theorem State.modPort_dtFrac (s : State) (n : Nat) (f : PortH → PortH) : (s.modPort n f).dtFrac = s.dtFrac :=
  rfl
@[simp] theorem State.modPort_slowPhase (s : State) (n : Nat) (f : PortH → PortH) : (s.modPort n f).slowPhase = s.slowPhase :=
  rfl
@[simp] theorem State.modPort_slowDue (s : State) (n : Nat) (f : PortH → PortH) : (s.modPort n f).slowDue = s.slowDue :=
  rfl
@[simp] theorem State.modPort_freeCtr (s : State) (n : Nat) (f : PortH → PortH) : (s.modPort n f).freeCtr = s.freeCtr :=
  rfl
@[simp] theorem State.modPort_pending (s : State) (n : Nat) (f : PortH → PortH) : (s.modPort n f).pending = s.pending :=
  rfl
@[simp] theorem State.modPort_pins (s : State) (n : Nat) (f : PortH → PortH) : (s.modPort n f).pins = s.pins := rfl
@[simp] theorem State.modPort_boot (s : State) (n : Nat) (f : PortH → PortH) : (s.modPort n f).boot = s.boot := rfl
@[simp] theorem State.modPort_ecx (s : State) (n : Nat) (f : PortH → PortH) : (s.modPort n f).ecx = s.ecx := rfl
@[simp] theorem State.modPort_mbox (s : State) (n : Nat) (f : PortH → PortH) : (s.modPort n f).mbox = s.mbox := rfl
@[simp] theorem State.modPort_doms (s : State) (n : Nat) (f : PortH → PortH) : (s.modPort n f).doms = s.doms := rfl
@[simp] theorem State.modPort_flt (s : State) (n : Nat) (f : PortH → PortH) : (s.modPort n f).flt = s.flt := rfl
@[simp] theorem State.modPort_sec (s : State) (n : Nat) (f : PortH → PortH) : (s.modPort n f).sec = s.sec := rfl
@[simp] theorem State.modPort_mgmt (s : State) (n : Nat) (f : PortH → PortH) : (s.modPort n f).mgmt = s.mgmt := rfl
@[simp] theorem State.modPort_shadows (s : State) (n : Nat) (f : PortH → PortH) : (s.modPort n f).shadows = s.shadows :=
  rfl
@[simp] theorem State.modPort_winOps (s : State) (n : Nat) (f : PortH → PortH) : (s.modPort n f).winOps = s.winOps :=
  rfl
@[simp] theorem State.modPort_lastRead (s : State) (n : Nat) (f : PortH → PortH) : (s.modPort n f).lastRead = s.lastRead :=
  rfl
@[simp] theorem State.modPort_snap (s : State) (n : Nat) (f : PortH → PortH) : (s.modPort n f).snap = s.snap := rfl
@[simp] theorem State.modPort_up (s : State) (n : Nat) (f : PortH → PortH) : (s.modPort n f).up = s.up := rfl
@[simp] theorem State.modPort_avsTries (s : State) (n : Nat) (f : PortH → PortH) : (s.modPort n f).avsTries = s.avsTries :=
  rfl
@[simp] theorem State.modPort_avsFrom (s : State) (n : Nat) (f : PortH → PortH) : (s.modPort n f).avsFrom = s.avsFrom :=
  rfl
@[simp] theorem State.modPort_avsAt (s : State) (n : Nat) (f : PortH → PortH) : (s.modPort n f).avsAt = s.avsAt := rfl
@[simp] theorem State.modPort_feeds (s : State) (n : Nat) (f : PortH → PortH) : (s.modPort n f).feeds = s.feeds := rfl
@[simp] theorem State.modPort_skeins (s : State) (n : Nat) (f : PortH → PortH) : (s.modPort n f).skeins = s.skeins :=
  rfl
@[simp] theorem State.modPort_loom (s : State) (n : Nat) (f : PortH → PortH) : (s.modPort n f).loom = s.loom := rfl
@[simp] theorem State.modPort_shuts (s : State) (n : Nat) (f : PortH → PortH) : (s.modPort n f).shuts = s.shuts := rfl
@[simp] theorem State.modPort_hub (s : State) (n : Nat) (f : PortH → PortH) : (s.modPort n f).hub = s.hub := rfl
@[simp] theorem State.modPort_cans (s : State) (n : Nat) (f : PortH → PortH) : (s.modPort n f).cans = s.cans := rfl
@[simp] theorem State.modPort_hier (s : State) (n : Nat) (f : PortH → PortH) : (s.modPort n f).hier = s.hier := rfl
@[simp] theorem State.modPort_measBase (s : State) (n : Nat) (f : PortH → PortH) : (s.modPort n f).measBase = s.measBase :=
  rfl
@[simp] theorem State.modPort_measShift (s : State) (n : Nat) (f : PortH → PortH) : (s.modPort n f).measShift = s.measShift :=
  rfl
@[simp] theorem State.modPort_measDt (s : State) (n : Nat) (f : PortH → PortH) : (s.modPort n f).measDt = s.measDt :=
  rfl
@[simp] theorem State.modPort_porstNs (s : State) (n : Nat) (f : PortH → PortH) : (s.modPort n f).porstNs = s.porstNs :=
  rfl

@[simp] theorem State.get_modPort (s : State) (n : Nat) (f : PortH → PortH) (g : Fld) (w : Nat) :
    (s.modPort n f).get g w = s.get g w := rfl

/-! ### `State.modSkein` changes `skeins` only -/

@[simp] theorem State.modSkein_regs (s : State) (k : Nat) (f : SkeinH → SkeinH) : (s.modSkein k f).regs = s.regs :=
  rfl
@[simp] theorem State.modSkein_dt (s : State) (k : Nat) (f : SkeinH → SkeinH) : (s.modSkein k f).dt = s.dt := rfl
@[simp] theorem State.modSkein_stepped (s : State) (k : Nat) (f : SkeinH → SkeinH) : (s.modSkein k f).stepped = s.stepped :=
  rfl
@[simp] theorem State.modSkein_epoch (s : State) (k : Nat) (f : SkeinH → SkeinH) : (s.modSkein k f).epoch = s.epoch :=
  rfl
@[simp] theorem State.modSkein_dtFrac (s : State) (k : Nat) (f : SkeinH → SkeinH) : (s.modSkein k f).dtFrac = s.dtFrac :=
  rfl
@[simp] theorem State.modSkein_slowPhase (s : State) (k : Nat) (f : SkeinH → SkeinH) : (s.modSkein k f).slowPhase = s.slowPhase :=
  rfl
@[simp] theorem State.modSkein_slowDue (s : State) (k : Nat) (f : SkeinH → SkeinH) : (s.modSkein k f).slowDue = s.slowDue :=
  rfl
@[simp] theorem State.modSkein_freeCtr (s : State) (k : Nat) (f : SkeinH → SkeinH) : (s.modSkein k f).freeCtr = s.freeCtr :=
  rfl
@[simp] theorem State.modSkein_pending (s : State) (k : Nat) (f : SkeinH → SkeinH) : (s.modSkein k f).pending = s.pending :=
  rfl
@[simp] theorem State.modSkein_pins (s : State) (k : Nat) (f : SkeinH → SkeinH) : (s.modSkein k f).pins = s.pins :=
  rfl
@[simp] theorem State.modSkein_boot (s : State) (k : Nat) (f : SkeinH → SkeinH) : (s.modSkein k f).boot = s.boot :=
  rfl
@[simp] theorem State.modSkein_ecx (s : State) (k : Nat) (f : SkeinH → SkeinH) : (s.modSkein k f).ecx = s.ecx := rfl
@[simp] theorem State.modSkein_mbox (s : State) (k : Nat) (f : SkeinH → SkeinH) : (s.modSkein k f).mbox = s.mbox :=
  rfl
@[simp] theorem State.modSkein_doms (s : State) (k : Nat) (f : SkeinH → SkeinH) : (s.modSkein k f).doms = s.doms :=
  rfl
@[simp] theorem State.modSkein_flt (s : State) (k : Nat) (f : SkeinH → SkeinH) : (s.modSkein k f).flt = s.flt := rfl
@[simp] theorem State.modSkein_sec (s : State) (k : Nat) (f : SkeinH → SkeinH) : (s.modSkein k f).sec = s.sec := rfl
@[simp] theorem State.modSkein_mgmt (s : State) (k : Nat) (f : SkeinH → SkeinH) : (s.modSkein k f).mgmt = s.mgmt :=
  rfl
@[simp] theorem State.modSkein_shadows (s : State) (k : Nat) (f : SkeinH → SkeinH) : (s.modSkein k f).shadows = s.shadows :=
  rfl
@[simp] theorem State.modSkein_winOps (s : State) (k : Nat) (f : SkeinH → SkeinH) : (s.modSkein k f).winOps = s.winOps :=
  rfl
@[simp] theorem State.modSkein_lastRead (s : State) (k : Nat) (f : SkeinH → SkeinH) : (s.modSkein k f).lastRead = s.lastRead :=
  rfl
@[simp] theorem State.modSkein_snap (s : State) (k : Nat) (f : SkeinH → SkeinH) : (s.modSkein k f).snap = s.snap :=
  rfl
@[simp] theorem State.modSkein_up (s : State) (k : Nat) (f : SkeinH → SkeinH) : (s.modSkein k f).up = s.up := rfl
@[simp] theorem State.modSkein_avsTries (s : State) (k : Nat) (f : SkeinH → SkeinH) : (s.modSkein k f).avsTries = s.avsTries :=
  rfl
@[simp] theorem State.modSkein_avsFrom (s : State) (k : Nat) (f : SkeinH → SkeinH) : (s.modSkein k f).avsFrom = s.avsFrom :=
  rfl
@[simp] theorem State.modSkein_avsAt (s : State) (k : Nat) (f : SkeinH → SkeinH) : (s.modSkein k f).avsAt = s.avsAt :=
  rfl
@[simp] theorem State.modSkein_feeds (s : State) (k : Nat) (f : SkeinH → SkeinH) : (s.modSkein k f).feeds = s.feeds :=
  rfl
@[simp] theorem State.modSkein_ports (s : State) (k : Nat) (f : SkeinH → SkeinH) : (s.modSkein k f).ports = s.ports :=
  rfl
@[simp] theorem State.modSkein_loom (s : State) (k : Nat) (f : SkeinH → SkeinH) : (s.modSkein k f).loom = s.loom :=
  rfl
@[simp] theorem State.modSkein_shuts (s : State) (k : Nat) (f : SkeinH → SkeinH) : (s.modSkein k f).shuts = s.shuts :=
  rfl
@[simp] theorem State.modSkein_hub (s : State) (k : Nat) (f : SkeinH → SkeinH) : (s.modSkein k f).hub = s.hub := rfl
@[simp] theorem State.modSkein_cans (s : State) (k : Nat) (f : SkeinH → SkeinH) : (s.modSkein k f).cans = s.cans :=
  rfl
@[simp] theorem State.modSkein_hier (s : State) (k : Nat) (f : SkeinH → SkeinH) : (s.modSkein k f).hier = s.hier :=
  rfl
@[simp] theorem State.modSkein_measBase (s : State) (k : Nat) (f : SkeinH → SkeinH) : (s.modSkein k f).measBase = s.measBase :=
  rfl
@[simp] theorem State.modSkein_measShift (s : State) (k : Nat) (f : SkeinH → SkeinH) : (s.modSkein k f).measShift = s.measShift :=
  rfl
@[simp] theorem State.modSkein_measDt (s : State) (k : Nat) (f : SkeinH → SkeinH) : (s.modSkein k f).measDt = s.measDt :=
  rfl
@[simp] theorem State.modSkein_porstNs (s : State) (k : Nat) (f : SkeinH → SkeinH) : (s.modSkein k f).porstNs = s.porstNs :=
  rfl

@[simp] theorem State.get_modSkein (s : State) (k : Nat) (f : SkeinH → SkeinH) (g : Fld) (w : Nat) :
    (s.modSkein k f).get g w = s.get g w := rfl

/-! ### `State.modShut` changes `shuts` only -/

@[simp] theorem State.modShut_regs (s : State) (n : Nat) (f : ShutH → ShutH) : (s.modShut n f).regs = s.regs := rfl
@[simp] theorem State.modShut_dt (s : State) (n : Nat) (f : ShutH → ShutH) : (s.modShut n f).dt = s.dt := rfl
@[simp] theorem State.modShut_stepped (s : State) (n : Nat) (f : ShutH → ShutH) : (s.modShut n f).stepped = s.stepped :=
  rfl
@[simp] theorem State.modShut_epoch (s : State) (n : Nat) (f : ShutH → ShutH) : (s.modShut n f).epoch = s.epoch := rfl
@[simp] theorem State.modShut_dtFrac (s : State) (n : Nat) (f : ShutH → ShutH) : (s.modShut n f).dtFrac = s.dtFrac :=
  rfl
@[simp] theorem State.modShut_slowPhase (s : State) (n : Nat) (f : ShutH → ShutH) : (s.modShut n f).slowPhase = s.slowPhase :=
  rfl
@[simp] theorem State.modShut_slowDue (s : State) (n : Nat) (f : ShutH → ShutH) : (s.modShut n f).slowDue = s.slowDue :=
  rfl
@[simp] theorem State.modShut_freeCtr (s : State) (n : Nat) (f : ShutH → ShutH) : (s.modShut n f).freeCtr = s.freeCtr :=
  rfl
@[simp] theorem State.modShut_pending (s : State) (n : Nat) (f : ShutH → ShutH) : (s.modShut n f).pending = s.pending :=
  rfl
@[simp] theorem State.modShut_pins (s : State) (n : Nat) (f : ShutH → ShutH) : (s.modShut n f).pins = s.pins := rfl
@[simp] theorem State.modShut_boot (s : State) (n : Nat) (f : ShutH → ShutH) : (s.modShut n f).boot = s.boot := rfl
@[simp] theorem State.modShut_ecx (s : State) (n : Nat) (f : ShutH → ShutH) : (s.modShut n f).ecx = s.ecx := rfl
@[simp] theorem State.modShut_mbox (s : State) (n : Nat) (f : ShutH → ShutH) : (s.modShut n f).mbox = s.mbox := rfl
@[simp] theorem State.modShut_doms (s : State) (n : Nat) (f : ShutH → ShutH) : (s.modShut n f).doms = s.doms := rfl
@[simp] theorem State.modShut_flt (s : State) (n : Nat) (f : ShutH → ShutH) : (s.modShut n f).flt = s.flt := rfl
@[simp] theorem State.modShut_sec (s : State) (n : Nat) (f : ShutH → ShutH) : (s.modShut n f).sec = s.sec := rfl
@[simp] theorem State.modShut_mgmt (s : State) (n : Nat) (f : ShutH → ShutH) : (s.modShut n f).mgmt = s.mgmt := rfl
@[simp] theorem State.modShut_shadows (s : State) (n : Nat) (f : ShutH → ShutH) : (s.modShut n f).shadows = s.shadows :=
  rfl
@[simp] theorem State.modShut_winOps (s : State) (n : Nat) (f : ShutH → ShutH) : (s.modShut n f).winOps = s.winOps :=
  rfl
@[simp] theorem State.modShut_lastRead (s : State) (n : Nat) (f : ShutH → ShutH) : (s.modShut n f).lastRead = s.lastRead :=
  rfl
@[simp] theorem State.modShut_snap (s : State) (n : Nat) (f : ShutH → ShutH) : (s.modShut n f).snap = s.snap := rfl
@[simp] theorem State.modShut_up (s : State) (n : Nat) (f : ShutH → ShutH) : (s.modShut n f).up = s.up := rfl
@[simp] theorem State.modShut_avsTries (s : State) (n : Nat) (f : ShutH → ShutH) : (s.modShut n f).avsTries = s.avsTries :=
  rfl
@[simp] theorem State.modShut_avsFrom (s : State) (n : Nat) (f : ShutH → ShutH) : (s.modShut n f).avsFrom = s.avsFrom :=
  rfl
@[simp] theorem State.modShut_avsAt (s : State) (n : Nat) (f : ShutH → ShutH) : (s.modShut n f).avsAt = s.avsAt := rfl
@[simp] theorem State.modShut_feeds (s : State) (n : Nat) (f : ShutH → ShutH) : (s.modShut n f).feeds = s.feeds := rfl
@[simp] theorem State.modShut_ports (s : State) (n : Nat) (f : ShutH → ShutH) : (s.modShut n f).ports = s.ports := rfl
@[simp] theorem State.modShut_skeins (s : State) (n : Nat) (f : ShutH → ShutH) : (s.modShut n f).skeins = s.skeins :=
  rfl
@[simp] theorem State.modShut_loom (s : State) (n : Nat) (f : ShutH → ShutH) : (s.modShut n f).loom = s.loom := rfl
@[simp] theorem State.modShut_hub (s : State) (n : Nat) (f : ShutH → ShutH) : (s.modShut n f).hub = s.hub := rfl
@[simp] theorem State.modShut_cans (s : State) (n : Nat) (f : ShutH → ShutH) : (s.modShut n f).cans = s.cans := rfl
@[simp] theorem State.modShut_hier (s : State) (n : Nat) (f : ShutH → ShutH) : (s.modShut n f).hier = s.hier := rfl
@[simp] theorem State.modShut_measBase (s : State) (n : Nat) (f : ShutH → ShutH) : (s.modShut n f).measBase = s.measBase :=
  rfl
@[simp] theorem State.modShut_measShift (s : State) (n : Nat) (f : ShutH → ShutH) : (s.modShut n f).measShift = s.measShift :=
  rfl
@[simp] theorem State.modShut_measDt (s : State) (n : Nat) (f : ShutH → ShutH) : (s.modShut n f).measDt = s.measDt :=
  rfl
@[simp] theorem State.modShut_porstNs (s : State) (n : Nat) (f : ShutH → ShutH) : (s.modShut n f).porstNs = s.porstNs :=
  rfl

@[simp] theorem State.get_modShut (s : State) (n : Nat) (f : ShutH → ShutH) (g : Fld) (w : Nat) :
    (s.modShut n f).get g w = s.get g w := rfl

/-! ### `State.modCan` changes `cans` only -/

@[simp] theorem State.modCan_regs (s : State) (c : Nat) (f : CanH → CanH) : (s.modCan c f).regs = s.regs := rfl
@[simp] theorem State.modCan_dt (s : State) (c : Nat) (f : CanH → CanH) : (s.modCan c f).dt = s.dt := rfl
@[simp] theorem State.modCan_stepped (s : State) (c : Nat) (f : CanH → CanH) : (s.modCan c f).stepped = s.stepped :=
  rfl
@[simp] theorem State.modCan_epoch (s : State) (c : Nat) (f : CanH → CanH) : (s.modCan c f).epoch = s.epoch := rfl
@[simp] theorem State.modCan_dtFrac (s : State) (c : Nat) (f : CanH → CanH) : (s.modCan c f).dtFrac = s.dtFrac := rfl
@[simp] theorem State.modCan_slowPhase (s : State) (c : Nat) (f : CanH → CanH) : (s.modCan c f).slowPhase = s.slowPhase :=
  rfl
@[simp] theorem State.modCan_slowDue (s : State) (c : Nat) (f : CanH → CanH) : (s.modCan c f).slowDue = s.slowDue :=
  rfl
@[simp] theorem State.modCan_freeCtr (s : State) (c : Nat) (f : CanH → CanH) : (s.modCan c f).freeCtr = s.freeCtr :=
  rfl
@[simp] theorem State.modCan_pending (s : State) (c : Nat) (f : CanH → CanH) : (s.modCan c f).pending = s.pending :=
  rfl
@[simp] theorem State.modCan_pins (s : State) (c : Nat) (f : CanH → CanH) : (s.modCan c f).pins = s.pins := rfl
@[simp] theorem State.modCan_boot (s : State) (c : Nat) (f : CanH → CanH) : (s.modCan c f).boot = s.boot := rfl
@[simp] theorem State.modCan_ecx (s : State) (c : Nat) (f : CanH → CanH) : (s.modCan c f).ecx = s.ecx := rfl
@[simp] theorem State.modCan_mbox (s : State) (c : Nat) (f : CanH → CanH) : (s.modCan c f).mbox = s.mbox := rfl
@[simp] theorem State.modCan_doms (s : State) (c : Nat) (f : CanH → CanH) : (s.modCan c f).doms = s.doms := rfl
@[simp] theorem State.modCan_flt (s : State) (c : Nat) (f : CanH → CanH) : (s.modCan c f).flt = s.flt := rfl
@[simp] theorem State.modCan_sec (s : State) (c : Nat) (f : CanH → CanH) : (s.modCan c f).sec = s.sec := rfl
@[simp] theorem State.modCan_mgmt (s : State) (c : Nat) (f : CanH → CanH) : (s.modCan c f).mgmt = s.mgmt := rfl
@[simp] theorem State.modCan_shadows (s : State) (c : Nat) (f : CanH → CanH) : (s.modCan c f).shadows = s.shadows :=
  rfl
@[simp] theorem State.modCan_winOps (s : State) (c : Nat) (f : CanH → CanH) : (s.modCan c f).winOps = s.winOps := rfl
@[simp] theorem State.modCan_lastRead (s : State) (c : Nat) (f : CanH → CanH) : (s.modCan c f).lastRead = s.lastRead :=
  rfl
@[simp] theorem State.modCan_snap (s : State) (c : Nat) (f : CanH → CanH) : (s.modCan c f).snap = s.snap := rfl
@[simp] theorem State.modCan_up (s : State) (c : Nat) (f : CanH → CanH) : (s.modCan c f).up = s.up := rfl
@[simp] theorem State.modCan_avsTries (s : State) (c : Nat) (f : CanH → CanH) : (s.modCan c f).avsTries = s.avsTries :=
  rfl
@[simp] theorem State.modCan_avsFrom (s : State) (c : Nat) (f : CanH → CanH) : (s.modCan c f).avsFrom = s.avsFrom :=
  rfl
@[simp] theorem State.modCan_avsAt (s : State) (c : Nat) (f : CanH → CanH) : (s.modCan c f).avsAt = s.avsAt := rfl
@[simp] theorem State.modCan_feeds (s : State) (c : Nat) (f : CanH → CanH) : (s.modCan c f).feeds = s.feeds := rfl
@[simp] theorem State.modCan_ports (s : State) (c : Nat) (f : CanH → CanH) : (s.modCan c f).ports = s.ports := rfl
@[simp] theorem State.modCan_skeins (s : State) (c : Nat) (f : CanH → CanH) : (s.modCan c f).skeins = s.skeins := rfl
@[simp] theorem State.modCan_loom (s : State) (c : Nat) (f : CanH → CanH) : (s.modCan c f).loom = s.loom := rfl
@[simp] theorem State.modCan_shuts (s : State) (c : Nat) (f : CanH → CanH) : (s.modCan c f).shuts = s.shuts := rfl
@[simp] theorem State.modCan_hub (s : State) (c : Nat) (f : CanH → CanH) : (s.modCan c f).hub = s.hub := rfl
@[simp] theorem State.modCan_hier (s : State) (c : Nat) (f : CanH → CanH) : (s.modCan c f).hier = s.hier := rfl
@[simp] theorem State.modCan_measBase (s : State) (c : Nat) (f : CanH → CanH) : (s.modCan c f).measBase = s.measBase :=
  rfl
@[simp] theorem State.modCan_measShift (s : State) (c : Nat) (f : CanH → CanH) : (s.modCan c f).measShift = s.measShift :=
  rfl
@[simp] theorem State.modCan_measDt (s : State) (c : Nat) (f : CanH → CanH) : (s.modCan c f).measDt = s.measDt := rfl
@[simp] theorem State.modCan_porstNs (s : State) (c : Nat) (f : CanH → CanH) : (s.modCan c f).porstNs = s.porstNs :=
  rfl

@[simp] theorem State.get_modCan (s : State) (c : Nat) (f : CanH → CanH) (g : Fld) (w : Nat) :
    (s.modCan c f).get g w = s.get g w := rfl

/-! ### `State.setB` changes `regs` only -/

@[simp] theorem State.setB_dt (s : State) (f : Fld) (u : Nat) (b : Bool) : (s.setB f u b).dt = s.dt := rfl
@[simp] theorem State.setB_stepped (s : State) (f : Fld) (u : Nat) (b : Bool) : (s.setB f u b).stepped = s.stepped :=
  rfl
@[simp] theorem State.setB_epoch (s : State) (f : Fld) (u : Nat) (b : Bool) : (s.setB f u b).epoch = s.epoch := rfl
@[simp] theorem State.setB_dtFrac (s : State) (f : Fld) (u : Nat) (b : Bool) : (s.setB f u b).dtFrac = s.dtFrac := rfl
@[simp] theorem State.setB_slowPhase (s : State) (f : Fld) (u : Nat) (b : Bool) : (s.setB f u b).slowPhase = s.slowPhase :=
  rfl
@[simp] theorem State.setB_slowDue (s : State) (f : Fld) (u : Nat) (b : Bool) : (s.setB f u b).slowDue = s.slowDue :=
  rfl
@[simp] theorem State.setB_freeCtr (s : State) (f : Fld) (u : Nat) (b : Bool) : (s.setB f u b).freeCtr = s.freeCtr :=
  rfl
@[simp] theorem State.setB_pending (s : State) (f : Fld) (u : Nat) (b : Bool) : (s.setB f u b).pending = s.pending :=
  rfl
@[simp] theorem State.setB_pins (s : State) (f : Fld) (u : Nat) (b : Bool) : (s.setB f u b).pins = s.pins := rfl
@[simp] theorem State.setB_boot (s : State) (f : Fld) (u : Nat) (b : Bool) : (s.setB f u b).boot = s.boot := rfl
@[simp] theorem State.setB_ecx (s : State) (f : Fld) (u : Nat) (b : Bool) : (s.setB f u b).ecx = s.ecx := rfl
@[simp] theorem State.setB_mbox (s : State) (f : Fld) (u : Nat) (b : Bool) : (s.setB f u b).mbox = s.mbox := rfl
@[simp] theorem State.setB_doms (s : State) (f : Fld) (u : Nat) (b : Bool) : (s.setB f u b).doms = s.doms := rfl
@[simp] theorem State.setB_flt (s : State) (f : Fld) (u : Nat) (b : Bool) : (s.setB f u b).flt = s.flt := rfl
@[simp] theorem State.setB_sec (s : State) (f : Fld) (u : Nat) (b : Bool) : (s.setB f u b).sec = s.sec := rfl
@[simp] theorem State.setB_mgmt (s : State) (f : Fld) (u : Nat) (b : Bool) : (s.setB f u b).mgmt = s.mgmt := rfl
@[simp] theorem State.setB_shadows (s : State) (f : Fld) (u : Nat) (b : Bool) : (s.setB f u b).shadows = s.shadows :=
  rfl
@[simp] theorem State.setB_winOps (s : State) (f : Fld) (u : Nat) (b : Bool) : (s.setB f u b).winOps = s.winOps := rfl
@[simp] theorem State.setB_lastRead (s : State) (f : Fld) (u : Nat) (b : Bool) : (s.setB f u b).lastRead = s.lastRead :=
  rfl
@[simp] theorem State.setB_snap (s : State) (f : Fld) (u : Nat) (b : Bool) : (s.setB f u b).snap = s.snap := rfl
@[simp] theorem State.setB_up (s : State) (f : Fld) (u : Nat) (b : Bool) : (s.setB f u b).up = s.up := rfl
@[simp] theorem State.setB_avsTries (s : State) (f : Fld) (u : Nat) (b : Bool) : (s.setB f u b).avsTries = s.avsTries :=
  rfl
@[simp] theorem State.setB_avsFrom (s : State) (f : Fld) (u : Nat) (b : Bool) : (s.setB f u b).avsFrom = s.avsFrom :=
  rfl
@[simp] theorem State.setB_avsAt (s : State) (f : Fld) (u : Nat) (b : Bool) : (s.setB f u b).avsAt = s.avsAt := rfl
@[simp] theorem State.setB_feeds (s : State) (f : Fld) (u : Nat) (b : Bool) : (s.setB f u b).feeds = s.feeds := rfl
@[simp] theorem State.setB_ports (s : State) (f : Fld) (u : Nat) (b : Bool) : (s.setB f u b).ports = s.ports := rfl
@[simp] theorem State.setB_skeins (s : State) (f : Fld) (u : Nat) (b : Bool) : (s.setB f u b).skeins = s.skeins := rfl
@[simp] theorem State.setB_loom (s : State) (f : Fld) (u : Nat) (b : Bool) : (s.setB f u b).loom = s.loom := rfl
@[simp] theorem State.setB_shuts (s : State) (f : Fld) (u : Nat) (b : Bool) : (s.setB f u b).shuts = s.shuts := rfl
@[simp] theorem State.setB_hub (s : State) (f : Fld) (u : Nat) (b : Bool) : (s.setB f u b).hub = s.hub := rfl
@[simp] theorem State.setB_cans (s : State) (f : Fld) (u : Nat) (b : Bool) : (s.setB f u b).cans = s.cans := rfl
@[simp] theorem State.setB_hier (s : State) (f : Fld) (u : Nat) (b : Bool) : (s.setB f u b).hier = s.hier := rfl
@[simp] theorem State.setB_measBase (s : State) (f : Fld) (u : Nat) (b : Bool) : (s.setB f u b).measBase = s.measBase :=
  rfl
@[simp] theorem State.setB_measShift (s : State) (f : Fld) (u : Nat) (b : Bool) : (s.setB f u b).measShift = s.measShift :=
  rfl
@[simp] theorem State.setB_measDt (s : State) (f : Fld) (u : Nat) (b : Bool) : (s.setB f u b).measDt = s.measDt := rfl
@[simp] theorem State.setB_porstNs (s : State) (f : Fld) (u : Nat) (b : Bool) : (s.setB f u b).porstNs = s.porstNs :=
  rfl

/-! ### `State.count` changes `regs` only -/

@[simp] theorem State.count_dt (s : State) (f : Fld) (u n : Nat) : (s.count f u n).dt = s.dt := rfl
@[simp] theorem State.count_stepped (s : State) (f : Fld) (u n : Nat) : (s.count f u n).stepped = s.stepped := rfl
@[simp] theorem State.count_epoch (s : State) (f : Fld) (u n : Nat) : (s.count f u n).epoch = s.epoch := rfl
@[simp] theorem State.count_dtFrac (s : State) (f : Fld) (u n : Nat) : (s.count f u n).dtFrac = s.dtFrac := rfl
@[simp] theorem State.count_slowPhase (s : State) (f : Fld) (u n : Nat) : (s.count f u n).slowPhase = s.slowPhase :=
  rfl
@[simp] theorem State.count_slowDue (s : State) (f : Fld) (u n : Nat) : (s.count f u n).slowDue = s.slowDue := rfl
@[simp] theorem State.count_freeCtr (s : State) (f : Fld) (u n : Nat) : (s.count f u n).freeCtr = s.freeCtr := rfl
@[simp] theorem State.count_pending (s : State) (f : Fld) (u n : Nat) : (s.count f u n).pending = s.pending := rfl
@[simp] theorem State.count_pins (s : State) (f : Fld) (u n : Nat) : (s.count f u n).pins = s.pins := rfl
@[simp] theorem State.count_boot (s : State) (f : Fld) (u n : Nat) : (s.count f u n).boot = s.boot := rfl
@[simp] theorem State.count_ecx (s : State) (f : Fld) (u n : Nat) : (s.count f u n).ecx = s.ecx := rfl
@[simp] theorem State.count_mbox (s : State) (f : Fld) (u n : Nat) : (s.count f u n).mbox = s.mbox := rfl
@[simp] theorem State.count_doms (s : State) (f : Fld) (u n : Nat) : (s.count f u n).doms = s.doms := rfl
@[simp] theorem State.count_flt (s : State) (f : Fld) (u n : Nat) : (s.count f u n).flt = s.flt := rfl
@[simp] theorem State.count_sec (s : State) (f : Fld) (u n : Nat) : (s.count f u n).sec = s.sec := rfl
@[simp] theorem State.count_mgmt (s : State) (f : Fld) (u n : Nat) : (s.count f u n).mgmt = s.mgmt := rfl
@[simp] theorem State.count_shadows (s : State) (f : Fld) (u n : Nat) : (s.count f u n).shadows = s.shadows := rfl
@[simp] theorem State.count_winOps (s : State) (f : Fld) (u n : Nat) : (s.count f u n).winOps = s.winOps := rfl
@[simp] theorem State.count_lastRead (s : State) (f : Fld) (u n : Nat) : (s.count f u n).lastRead = s.lastRead := rfl
@[simp] theorem State.count_snap (s : State) (f : Fld) (u n : Nat) : (s.count f u n).snap = s.snap := rfl
@[simp] theorem State.count_up (s : State) (f : Fld) (u n : Nat) : (s.count f u n).up = s.up := rfl
@[simp] theorem State.count_avsTries (s : State) (f : Fld) (u n : Nat) : (s.count f u n).avsTries = s.avsTries := rfl
@[simp] theorem State.count_avsFrom (s : State) (f : Fld) (u n : Nat) : (s.count f u n).avsFrom = s.avsFrom := rfl
@[simp] theorem State.count_avsAt (s : State) (f : Fld) (u n : Nat) : (s.count f u n).avsAt = s.avsAt := rfl
@[simp] theorem State.count_feeds (s : State) (f : Fld) (u n : Nat) : (s.count f u n).feeds = s.feeds := rfl
@[simp] theorem State.count_ports (s : State) (f : Fld) (u n : Nat) : (s.count f u n).ports = s.ports := rfl
@[simp] theorem State.count_skeins (s : State) (f : Fld) (u n : Nat) : (s.count f u n).skeins = s.skeins := rfl
@[simp] theorem State.count_loom (s : State) (f : Fld) (u n : Nat) : (s.count f u n).loom = s.loom := rfl
@[simp] theorem State.count_shuts (s : State) (f : Fld) (u n : Nat) : (s.count f u n).shuts = s.shuts := rfl
@[simp] theorem State.count_hub (s : State) (f : Fld) (u n : Nat) : (s.count f u n).hub = s.hub := rfl
@[simp] theorem State.count_cans (s : State) (f : Fld) (u n : Nat) : (s.count f u n).cans = s.cans := rfl
@[simp] theorem State.count_hier (s : State) (f : Fld) (u n : Nat) : (s.count f u n).hier = s.hier := rfl
@[simp] theorem State.count_measBase (s : State) (f : Fld) (u n : Nat) : (s.count f u n).measBase = s.measBase := rfl
@[simp] theorem State.count_measShift (s : State) (f : Fld) (u n : Nat) : (s.count f u n).measShift = s.measShift :=
  rfl
@[simp] theorem State.count_measDt (s : State) (f : Fld) (u n : Nat) : (s.count f u n).measDt = s.measDt := rfl
@[simp] theorem State.count_porstNs (s : State) (f : Fld) (u n : Nat) : (s.count f u n).porstNs = s.porstNs := rfl

/-! ### `State.addTo` changes `regs` only -/

@[simp] theorem State.addTo_dt (s : State) (f : Fld) (u n : Nat) : (s.addTo f u n).dt = s.dt := rfl
@[simp] theorem State.addTo_stepped (s : State) (f : Fld) (u n : Nat) : (s.addTo f u n).stepped = s.stepped := rfl
@[simp] theorem State.addTo_epoch (s : State) (f : Fld) (u n : Nat) : (s.addTo f u n).epoch = s.epoch := rfl
@[simp] theorem State.addTo_dtFrac (s : State) (f : Fld) (u n : Nat) : (s.addTo f u n).dtFrac = s.dtFrac := rfl
@[simp] theorem State.addTo_slowPhase (s : State) (f : Fld) (u n : Nat) : (s.addTo f u n).slowPhase = s.slowPhase :=
  rfl
@[simp] theorem State.addTo_slowDue (s : State) (f : Fld) (u n : Nat) : (s.addTo f u n).slowDue = s.slowDue := rfl
@[simp] theorem State.addTo_freeCtr (s : State) (f : Fld) (u n : Nat) : (s.addTo f u n).freeCtr = s.freeCtr := rfl
@[simp] theorem State.addTo_pending (s : State) (f : Fld) (u n : Nat) : (s.addTo f u n).pending = s.pending := rfl
@[simp] theorem State.addTo_pins (s : State) (f : Fld) (u n : Nat) : (s.addTo f u n).pins = s.pins := rfl
@[simp] theorem State.addTo_boot (s : State) (f : Fld) (u n : Nat) : (s.addTo f u n).boot = s.boot := rfl
@[simp] theorem State.addTo_ecx (s : State) (f : Fld) (u n : Nat) : (s.addTo f u n).ecx = s.ecx := rfl
@[simp] theorem State.addTo_mbox (s : State) (f : Fld) (u n : Nat) : (s.addTo f u n).mbox = s.mbox := rfl
@[simp] theorem State.addTo_doms (s : State) (f : Fld) (u n : Nat) : (s.addTo f u n).doms = s.doms := rfl
@[simp] theorem State.addTo_flt (s : State) (f : Fld) (u n : Nat) : (s.addTo f u n).flt = s.flt := rfl
@[simp] theorem State.addTo_sec (s : State) (f : Fld) (u n : Nat) : (s.addTo f u n).sec = s.sec := rfl
@[simp] theorem State.addTo_mgmt (s : State) (f : Fld) (u n : Nat) : (s.addTo f u n).mgmt = s.mgmt := rfl
@[simp] theorem State.addTo_shadows (s : State) (f : Fld) (u n : Nat) : (s.addTo f u n).shadows = s.shadows := rfl
@[simp] theorem State.addTo_winOps (s : State) (f : Fld) (u n : Nat) : (s.addTo f u n).winOps = s.winOps := rfl
@[simp] theorem State.addTo_lastRead (s : State) (f : Fld) (u n : Nat) : (s.addTo f u n).lastRead = s.lastRead := rfl
@[simp] theorem State.addTo_snap (s : State) (f : Fld) (u n : Nat) : (s.addTo f u n).snap = s.snap := rfl
@[simp] theorem State.addTo_up (s : State) (f : Fld) (u n : Nat) : (s.addTo f u n).up = s.up := rfl
@[simp] theorem State.addTo_avsTries (s : State) (f : Fld) (u n : Nat) : (s.addTo f u n).avsTries = s.avsTries := rfl
@[simp] theorem State.addTo_avsFrom (s : State) (f : Fld) (u n : Nat) : (s.addTo f u n).avsFrom = s.avsFrom := rfl
@[simp] theorem State.addTo_avsAt (s : State) (f : Fld) (u n : Nat) : (s.addTo f u n).avsAt = s.avsAt := rfl
@[simp] theorem State.addTo_feeds (s : State) (f : Fld) (u n : Nat) : (s.addTo f u n).feeds = s.feeds := rfl
@[simp] theorem State.addTo_ports (s : State) (f : Fld) (u n : Nat) : (s.addTo f u n).ports = s.ports := rfl
@[simp] theorem State.addTo_skeins (s : State) (f : Fld) (u n : Nat) : (s.addTo f u n).skeins = s.skeins := rfl
@[simp] theorem State.addTo_loom (s : State) (f : Fld) (u n : Nat) : (s.addTo f u n).loom = s.loom := rfl
@[simp] theorem State.addTo_shuts (s : State) (f : Fld) (u n : Nat) : (s.addTo f u n).shuts = s.shuts := rfl
@[simp] theorem State.addTo_hub (s : State) (f : Fld) (u n : Nat) : (s.addTo f u n).hub = s.hub := rfl
@[simp] theorem State.addTo_cans (s : State) (f : Fld) (u n : Nat) : (s.addTo f u n).cans = s.cans := rfl
@[simp] theorem State.addTo_hier (s : State) (f : Fld) (u n : Nat) : (s.addTo f u n).hier = s.hier := rfl
@[simp] theorem State.addTo_measBase (s : State) (f : Fld) (u n : Nat) : (s.addTo f u n).measBase = s.measBase := rfl
@[simp] theorem State.addTo_measShift (s : State) (f : Fld) (u n : Nat) : (s.addTo f u n).measShift = s.measShift :=
  rfl
@[simp] theorem State.addTo_measDt (s : State) (f : Fld) (u n : Nat) : (s.addTo f u n).measDt = s.measDt := rfl
@[simp] theorem State.addTo_porstNs (s : State) (f : Fld) (u n : Nat) : (s.addTo f u n).porstNs = s.porstNs := rfl

/-! ### `State.setBit` changes `regs` only -/

@[simp] theorem State.setBit_dt (s : State) (f : Fld) (u i : Nat) : (s.setBit f u i).dt = s.dt := rfl
@[simp] theorem State.setBit_stepped (s : State) (f : Fld) (u i : Nat) : (s.setBit f u i).stepped = s.stepped := rfl
@[simp] theorem State.setBit_epoch (s : State) (f : Fld) (u i : Nat) : (s.setBit f u i).epoch = s.epoch := rfl
@[simp] theorem State.setBit_dtFrac (s : State) (f : Fld) (u i : Nat) : (s.setBit f u i).dtFrac = s.dtFrac := rfl
@[simp] theorem State.setBit_slowPhase (s : State) (f : Fld) (u i : Nat) : (s.setBit f u i).slowPhase = s.slowPhase :=
  rfl
@[simp] theorem State.setBit_slowDue (s : State) (f : Fld) (u i : Nat) : (s.setBit f u i).slowDue = s.slowDue := rfl
@[simp] theorem State.setBit_freeCtr (s : State) (f : Fld) (u i : Nat) : (s.setBit f u i).freeCtr = s.freeCtr := rfl
@[simp] theorem State.setBit_pending (s : State) (f : Fld) (u i : Nat) : (s.setBit f u i).pending = s.pending := rfl
@[simp] theorem State.setBit_pins (s : State) (f : Fld) (u i : Nat) : (s.setBit f u i).pins = s.pins := rfl
@[simp] theorem State.setBit_boot (s : State) (f : Fld) (u i : Nat) : (s.setBit f u i).boot = s.boot := rfl
@[simp] theorem State.setBit_ecx (s : State) (f : Fld) (u i : Nat) : (s.setBit f u i).ecx = s.ecx := rfl
@[simp] theorem State.setBit_mbox (s : State) (f : Fld) (u i : Nat) : (s.setBit f u i).mbox = s.mbox := rfl
@[simp] theorem State.setBit_doms (s : State) (f : Fld) (u i : Nat) : (s.setBit f u i).doms = s.doms := rfl
@[simp] theorem State.setBit_flt (s : State) (f : Fld) (u i : Nat) : (s.setBit f u i).flt = s.flt := rfl
@[simp] theorem State.setBit_sec (s : State) (f : Fld) (u i : Nat) : (s.setBit f u i).sec = s.sec := rfl
@[simp] theorem State.setBit_mgmt (s : State) (f : Fld) (u i : Nat) : (s.setBit f u i).mgmt = s.mgmt := rfl
@[simp] theorem State.setBit_shadows (s : State) (f : Fld) (u i : Nat) : (s.setBit f u i).shadows = s.shadows := rfl
@[simp] theorem State.setBit_winOps (s : State) (f : Fld) (u i : Nat) : (s.setBit f u i).winOps = s.winOps := rfl
@[simp] theorem State.setBit_lastRead (s : State) (f : Fld) (u i : Nat) : (s.setBit f u i).lastRead = s.lastRead :=
  rfl
@[simp] theorem State.setBit_snap (s : State) (f : Fld) (u i : Nat) : (s.setBit f u i).snap = s.snap := rfl
@[simp] theorem State.setBit_up (s : State) (f : Fld) (u i : Nat) : (s.setBit f u i).up = s.up := rfl
@[simp] theorem State.setBit_avsTries (s : State) (f : Fld) (u i : Nat) : (s.setBit f u i).avsTries = s.avsTries :=
  rfl
@[simp] theorem State.setBit_avsFrom (s : State) (f : Fld) (u i : Nat) : (s.setBit f u i).avsFrom = s.avsFrom := rfl
@[simp] theorem State.setBit_avsAt (s : State) (f : Fld) (u i : Nat) : (s.setBit f u i).avsAt = s.avsAt := rfl
@[simp] theorem State.setBit_feeds (s : State) (f : Fld) (u i : Nat) : (s.setBit f u i).feeds = s.feeds := rfl
@[simp] theorem State.setBit_ports (s : State) (f : Fld) (u i : Nat) : (s.setBit f u i).ports = s.ports := rfl
@[simp] theorem State.setBit_skeins (s : State) (f : Fld) (u i : Nat) : (s.setBit f u i).skeins = s.skeins := rfl
@[simp] theorem State.setBit_loom (s : State) (f : Fld) (u i : Nat) : (s.setBit f u i).loom = s.loom := rfl
@[simp] theorem State.setBit_shuts (s : State) (f : Fld) (u i : Nat) : (s.setBit f u i).shuts = s.shuts := rfl
@[simp] theorem State.setBit_hub (s : State) (f : Fld) (u i : Nat) : (s.setBit f u i).hub = s.hub := rfl
@[simp] theorem State.setBit_cans (s : State) (f : Fld) (u i : Nat) : (s.setBit f u i).cans = s.cans := rfl
@[simp] theorem State.setBit_hier (s : State) (f : Fld) (u i : Nat) : (s.setBit f u i).hier = s.hier := rfl
@[simp] theorem State.setBit_measBase (s : State) (f : Fld) (u i : Nat) : (s.setBit f u i).measBase = s.measBase :=
  rfl
@[simp] theorem State.setBit_measShift (s : State) (f : Fld) (u i : Nat) : (s.setBit f u i).measShift = s.measShift :=
  rfl
@[simp] theorem State.setBit_measDt (s : State) (f : Fld) (u i : Nat) : (s.setBit f u i).measDt = s.measDt := rfl
@[simp] theorem State.setBit_porstNs (s : State) (f : Fld) (u i : Nat) : (s.setBit f u i).porstNs = s.porstNs := rfl

/-! ### `State.clear` changes `regs` only -/

@[simp] theorem State.clear_dt (s : State) (f : Fld) (u : Nat) : (s.clear f u).dt = s.dt := rfl
@[simp] theorem State.clear_stepped (s : State) (f : Fld) (u : Nat) : (s.clear f u).stepped = s.stepped := rfl
@[simp] theorem State.clear_epoch (s : State) (f : Fld) (u : Nat) : (s.clear f u).epoch = s.epoch := rfl
@[simp] theorem State.clear_dtFrac (s : State) (f : Fld) (u : Nat) : (s.clear f u).dtFrac = s.dtFrac := rfl
@[simp] theorem State.clear_slowPhase (s : State) (f : Fld) (u : Nat) : (s.clear f u).slowPhase = s.slowPhase := rfl
@[simp] theorem State.clear_slowDue (s : State) (f : Fld) (u : Nat) : (s.clear f u).slowDue = s.slowDue := rfl
@[simp] theorem State.clear_freeCtr (s : State) (f : Fld) (u : Nat) : (s.clear f u).freeCtr = s.freeCtr := rfl
@[simp] theorem State.clear_pending (s : State) (f : Fld) (u : Nat) : (s.clear f u).pending = s.pending := rfl
@[simp] theorem State.clear_pins (s : State) (f : Fld) (u : Nat) : (s.clear f u).pins = s.pins := rfl
@[simp] theorem State.clear_boot (s : State) (f : Fld) (u : Nat) : (s.clear f u).boot = s.boot := rfl
@[simp] theorem State.clear_ecx (s : State) (f : Fld) (u : Nat) : (s.clear f u).ecx = s.ecx := rfl
@[simp] theorem State.clear_mbox (s : State) (f : Fld) (u : Nat) : (s.clear f u).mbox = s.mbox := rfl
@[simp] theorem State.clear_doms (s : State) (f : Fld) (u : Nat) : (s.clear f u).doms = s.doms := rfl
@[simp] theorem State.clear_flt (s : State) (f : Fld) (u : Nat) : (s.clear f u).flt = s.flt := rfl
@[simp] theorem State.clear_sec (s : State) (f : Fld) (u : Nat) : (s.clear f u).sec = s.sec := rfl
@[simp] theorem State.clear_mgmt (s : State) (f : Fld) (u : Nat) : (s.clear f u).mgmt = s.mgmt := rfl
@[simp] theorem State.clear_shadows (s : State) (f : Fld) (u : Nat) : (s.clear f u).shadows = s.shadows := rfl
@[simp] theorem State.clear_winOps (s : State) (f : Fld) (u : Nat) : (s.clear f u).winOps = s.winOps := rfl
@[simp] theorem State.clear_lastRead (s : State) (f : Fld) (u : Nat) : (s.clear f u).lastRead = s.lastRead := rfl
@[simp] theorem State.clear_snap (s : State) (f : Fld) (u : Nat) : (s.clear f u).snap = s.snap := rfl
@[simp] theorem State.clear_up (s : State) (f : Fld) (u : Nat) : (s.clear f u).up = s.up := rfl
@[simp] theorem State.clear_avsTries (s : State) (f : Fld) (u : Nat) : (s.clear f u).avsTries = s.avsTries := rfl
@[simp] theorem State.clear_avsFrom (s : State) (f : Fld) (u : Nat) : (s.clear f u).avsFrom = s.avsFrom := rfl
@[simp] theorem State.clear_avsAt (s : State) (f : Fld) (u : Nat) : (s.clear f u).avsAt = s.avsAt := rfl
@[simp] theorem State.clear_feeds (s : State) (f : Fld) (u : Nat) : (s.clear f u).feeds = s.feeds := rfl
@[simp] theorem State.clear_ports (s : State) (f : Fld) (u : Nat) : (s.clear f u).ports = s.ports := rfl
@[simp] theorem State.clear_skeins (s : State) (f : Fld) (u : Nat) : (s.clear f u).skeins = s.skeins := rfl
@[simp] theorem State.clear_loom (s : State) (f : Fld) (u : Nat) : (s.clear f u).loom = s.loom := rfl
@[simp] theorem State.clear_shuts (s : State) (f : Fld) (u : Nat) : (s.clear f u).shuts = s.shuts := rfl
@[simp] theorem State.clear_hub (s : State) (f : Fld) (u : Nat) : (s.clear f u).hub = s.hub := rfl
@[simp] theorem State.clear_cans (s : State) (f : Fld) (u : Nat) : (s.clear f u).cans = s.cans := rfl
@[simp] theorem State.clear_hier (s : State) (f : Fld) (u : Nat) : (s.clear f u).hier = s.hier := rfl
@[simp] theorem State.clear_measBase (s : State) (f : Fld) (u : Nat) : (s.clear f u).measBase = s.measBase := rfl
@[simp] theorem State.clear_measShift (s : State) (f : Fld) (u : Nat) : (s.clear f u).measShift = s.measShift := rfl
@[simp] theorem State.clear_measDt (s : State) (f : Fld) (u : Nat) : (s.clear f u).measDt = s.measDt := rfl
@[simp] theorem State.clear_porstNs (s : State) (f : Fld) (u : Nat) : (s.clear f u).porstNs = s.porstNs := rfl

/-! ### The record of a unit after an update -/

@[simp] theorem State.dom_modDom_same {s : State} {u : Nat} (f : Dom → Dom) (h : u < s.doms.length) :
    (s.modDom u f).dom u = f (s.dom u) := by
  simp [State.dom, State.modDom, h]

@[simp] theorem State.dom_modDom_other {s : State} {u v : Nat} (f : Dom → Dom) (h : u ≠ v) :
    (s.modDom u f).dom v = s.dom v := by
  simp [State.dom, State.modDom, h]

@[simp] theorem State.modDom_doms_length (s : State) (u : Nat) (f : Dom → Dom) : (s.modDom u f).doms.length = s.doms.length := by
  simp [State.modDom]

@[simp] theorem State.dom_set (s : State) (f : Fld) (u v : Nat) (w : Nat) : (s.set f u v).dom w = s.dom w := rfl
@[simp] theorem State.dom_resetRegs (s : State) (p : Cell → Bool) (w : Nat) : (s.resetRegs p).dom w = s.dom w := rfl
@[simp] theorem State.dom_useFree (s : State) (w : Nat) : (s.useFree).dom w = s.dom w := rfl
@[simp] theorem State.dom_modFeed (s : State) (n : Nat) (f : FeedH → FeedH) (w : Nat) : (s.modFeed n f).dom w = s.dom w :=
  rfl
@[simp] theorem State.dom_modPort (s : State) (n : Nat) (f : PortH → PortH) (w : Nat) : (s.modPort n f).dom w = s.dom w :=
  rfl
@[simp] theorem State.dom_modSkein (s : State) (k : Nat) (f : SkeinH → SkeinH) (w : Nat) : (s.modSkein k f).dom w = s.dom w :=
  rfl
@[simp] theorem State.dom_modShut (s : State) (n : Nat) (f : ShutH → ShutH) (w : Nat) : (s.modShut n f).dom w = s.dom w :=
  rfl
@[simp] theorem State.dom_modCan (s : State) (c : Nat) (f : CanH → CanH) (w : Nat) : (s.modCan c f).dom w = s.dom w :=
  rfl
@[simp] theorem State.dom_setB (s : State) (f : Fld) (u : Nat) (b : Bool) (w : Nat) : (s.setB f u b).dom w = s.dom w :=
  rfl
@[simp] theorem State.dom_count (s : State) (f : Fld) (u n : Nat) (w : Nat) : (s.count f u n).dom w = s.dom w := rfl
@[simp] theorem State.dom_addTo (s : State) (f : Fld) (u n : Nat) (w : Nat) : (s.addTo f u n).dom w = s.dom w := rfl
@[simp] theorem State.dom_setBit (s : State) (f : Fld) (u i : Nat) (w : Nat) : (s.setBit f u i).dom w = s.dom w := rfl
@[simp] theorem State.dom_clear (s : State) (f : Fld) (u : Nat) (w : Nat) : (s.clear f u).dom w = s.dom w := rfl

@[simp] theorem State.feed_modFeed_same {s : State} {u : Nat} (f : FeedH → FeedH) (h : u < s.feeds.length) :
    (s.modFeed u f).feed u = f (s.feed u) := by
  simp [State.feed, State.modFeed, h]

@[simp] theorem State.feed_modFeed_other {s : State} {u v : Nat} (f : FeedH → FeedH) (h : u ≠ v) :
    (s.modFeed u f).feed v = s.feed v := by
  simp [State.feed, State.modFeed, h]

@[simp] theorem State.modFeed_feeds_length (s : State) (u : Nat) (f : FeedH → FeedH) : (s.modFeed u f).feeds.length = s.feeds.length := by
  simp [State.modFeed]

@[simp] theorem State.feed_set (s : State) (f : Fld) (u v : Nat) (w : Nat) : (s.set f u v).feed w = s.feed w := rfl
@[simp] theorem State.feed_resetRegs (s : State) (p : Cell → Bool) (w : Nat) : (s.resetRegs p).feed w = s.feed w :=
  rfl
@[simp] theorem State.feed_useFree (s : State) (w : Nat) : (s.useFree).feed w = s.feed w := rfl
@[simp] theorem State.feed_modDom (s : State) (d : Nat) (f : Dom → Dom) (w : Nat) : (s.modDom d f).feed w = s.feed w :=
  rfl
@[simp] theorem State.feed_modPort (s : State) (n : Nat) (f : PortH → PortH) (w : Nat) : (s.modPort n f).feed w = s.feed w :=
  rfl
@[simp] theorem State.feed_modSkein (s : State) (k : Nat) (f : SkeinH → SkeinH) (w : Nat) : (s.modSkein k f).feed w = s.feed w :=
  rfl
@[simp] theorem State.feed_modShut (s : State) (n : Nat) (f : ShutH → ShutH) (w : Nat) : (s.modShut n f).feed w = s.feed w :=
  rfl
@[simp] theorem State.feed_modCan (s : State) (c : Nat) (f : CanH → CanH) (w : Nat) : (s.modCan c f).feed w = s.feed w :=
  rfl
@[simp] theorem State.feed_setB (s : State) (f : Fld) (u : Nat) (b : Bool) (w : Nat) : (s.setB f u b).feed w = s.feed w :=
  rfl
@[simp] theorem State.feed_count (s : State) (f : Fld) (u n : Nat) (w : Nat) : (s.count f u n).feed w = s.feed w :=
  rfl
@[simp] theorem State.feed_addTo (s : State) (f : Fld) (u n : Nat) (w : Nat) : (s.addTo f u n).feed w = s.feed w :=
  rfl
@[simp] theorem State.feed_setBit (s : State) (f : Fld) (u i : Nat) (w : Nat) : (s.setBit f u i).feed w = s.feed w :=
  rfl
@[simp] theorem State.feed_clear (s : State) (f : Fld) (u : Nat) (w : Nat) : (s.clear f u).feed w = s.feed w := rfl

@[simp] theorem State.port_modPort_same {s : State} {u : Nat} (f : PortH → PortH) (h : u < s.ports.length) :
    (s.modPort u f).port u = f (s.port u) := by
  simp [State.port, State.modPort, h]

@[simp] theorem State.port_modPort_other {s : State} {u v : Nat} (f : PortH → PortH) (h : u ≠ v) :
    (s.modPort u f).port v = s.port v := by
  simp [State.port, State.modPort, h]

@[simp] theorem State.modPort_ports_length (s : State) (u : Nat) (f : PortH → PortH) : (s.modPort u f).ports.length = s.ports.length := by
  simp [State.modPort]

@[simp] theorem State.port_set (s : State) (f : Fld) (u v : Nat) (w : Nat) : (s.set f u v).port w = s.port w := rfl
@[simp] theorem State.port_resetRegs (s : State) (p : Cell → Bool) (w : Nat) : (s.resetRegs p).port w = s.port w :=
  rfl
@[simp] theorem State.port_useFree (s : State) (w : Nat) : (s.useFree).port w = s.port w := rfl
@[simp] theorem State.port_modDom (s : State) (d : Nat) (f : Dom → Dom) (w : Nat) : (s.modDom d f).port w = s.port w :=
  rfl
@[simp] theorem State.port_modFeed (s : State) (n : Nat) (f : FeedH → FeedH) (w : Nat) : (s.modFeed n f).port w = s.port w :=
  rfl
@[simp] theorem State.port_modSkein (s : State) (k : Nat) (f : SkeinH → SkeinH) (w : Nat) : (s.modSkein k f).port w = s.port w :=
  rfl
@[simp] theorem State.port_modShut (s : State) (n : Nat) (f : ShutH → ShutH) (w : Nat) : (s.modShut n f).port w = s.port w :=
  rfl
@[simp] theorem State.port_modCan (s : State) (c : Nat) (f : CanH → CanH) (w : Nat) : (s.modCan c f).port w = s.port w :=
  rfl
@[simp] theorem State.port_setB (s : State) (f : Fld) (u : Nat) (b : Bool) (w : Nat) : (s.setB f u b).port w = s.port w :=
  rfl
@[simp] theorem State.port_count (s : State) (f : Fld) (u n : Nat) (w : Nat) : (s.count f u n).port w = s.port w :=
  rfl
@[simp] theorem State.port_addTo (s : State) (f : Fld) (u n : Nat) (w : Nat) : (s.addTo f u n).port w = s.port w :=
  rfl
@[simp] theorem State.port_setBit (s : State) (f : Fld) (u i : Nat) (w : Nat) : (s.setBit f u i).port w = s.port w :=
  rfl
@[simp] theorem State.port_clear (s : State) (f : Fld) (u : Nat) (w : Nat) : (s.clear f u).port w = s.port w := rfl

@[simp] theorem State.skein_modSkein_same {s : State} {u : Nat} (f : SkeinH → SkeinH) (h : u < s.skeins.length) :
    (s.modSkein u f).skein u = f (s.skein u) := by
  simp [State.skein, State.modSkein, h]

@[simp] theorem State.skein_modSkein_other {s : State} {u v : Nat} (f : SkeinH → SkeinH) (h : u ≠ v) :
    (s.modSkein u f).skein v = s.skein v := by
  simp [State.skein, State.modSkein, h]

@[simp] theorem State.modSkein_skeins_length (s : State) (u : Nat) (f : SkeinH → SkeinH) : (s.modSkein u f).skeins.length = s.skeins.length := by
  simp [State.modSkein]

@[simp] theorem State.skein_set (s : State) (f : Fld) (u v : Nat) (w : Nat) : (s.set f u v).skein w = s.skein w := rfl
@[simp] theorem State.skein_resetRegs (s : State) (p : Cell → Bool) (w : Nat) : (s.resetRegs p).skein w = s.skein w :=
  rfl
@[simp] theorem State.skein_useFree (s : State) (w : Nat) : (s.useFree).skein w = s.skein w := rfl
@[simp] theorem State.skein_modDom (s : State) (d : Nat) (f : Dom → Dom) (w : Nat) : (s.modDom d f).skein w = s.skein w :=
  rfl
@[simp] theorem State.skein_modFeed (s : State) (n : Nat) (f : FeedH → FeedH) (w : Nat) : (s.modFeed n f).skein w = s.skein w :=
  rfl
@[simp] theorem State.skein_modPort (s : State) (n : Nat) (f : PortH → PortH) (w : Nat) : (s.modPort n f).skein w = s.skein w :=
  rfl
@[simp] theorem State.skein_modShut (s : State) (n : Nat) (f : ShutH → ShutH) (w : Nat) : (s.modShut n f).skein w = s.skein w :=
  rfl
@[simp] theorem State.skein_modCan (s : State) (c : Nat) (f : CanH → CanH) (w : Nat) : (s.modCan c f).skein w = s.skein w :=
  rfl
@[simp] theorem State.skein_setB (s : State) (f : Fld) (u : Nat) (b : Bool) (w : Nat) : (s.setB f u b).skein w = s.skein w :=
  rfl
@[simp] theorem State.skein_count (s : State) (f : Fld) (u n : Nat) (w : Nat) : (s.count f u n).skein w = s.skein w :=
  rfl
@[simp] theorem State.skein_addTo (s : State) (f : Fld) (u n : Nat) (w : Nat) : (s.addTo f u n).skein w = s.skein w :=
  rfl
@[simp] theorem State.skein_setBit (s : State) (f : Fld) (u i : Nat) (w : Nat) : (s.setBit f u i).skein w = s.skein w :=
  rfl
@[simp] theorem State.skein_clear (s : State) (f : Fld) (u : Nat) (w : Nat) : (s.clear f u).skein w = s.skein w := rfl

@[simp] theorem State.shut_modShut_same {s : State} {u : Nat} (f : ShutH → ShutH) (h : u < s.shuts.length) :
    (s.modShut u f).shut u = f (s.shut u) := by
  simp [State.shut, State.modShut, h]

@[simp] theorem State.shut_modShut_other {s : State} {u v : Nat} (f : ShutH → ShutH) (h : u ≠ v) :
    (s.modShut u f).shut v = s.shut v := by
  simp [State.shut, State.modShut, h]

@[simp] theorem State.modShut_shuts_length (s : State) (u : Nat) (f : ShutH → ShutH) : (s.modShut u f).shuts.length = s.shuts.length := by
  simp [State.modShut]

@[simp] theorem State.shut_set (s : State) (f : Fld) (u v : Nat) (w : Nat) : (s.set f u v).shut w = s.shut w := rfl
@[simp] theorem State.shut_resetRegs (s : State) (p : Cell → Bool) (w : Nat) : (s.resetRegs p).shut w = s.shut w :=
  rfl
@[simp] theorem State.shut_useFree (s : State) (w : Nat) : (s.useFree).shut w = s.shut w := rfl
@[simp] theorem State.shut_modDom (s : State) (d : Nat) (f : Dom → Dom) (w : Nat) : (s.modDom d f).shut w = s.shut w :=
  rfl
@[simp] theorem State.shut_modFeed (s : State) (n : Nat) (f : FeedH → FeedH) (w : Nat) : (s.modFeed n f).shut w = s.shut w :=
  rfl
@[simp] theorem State.shut_modPort (s : State) (n : Nat) (f : PortH → PortH) (w : Nat) : (s.modPort n f).shut w = s.shut w :=
  rfl
@[simp] theorem State.shut_modSkein (s : State) (k : Nat) (f : SkeinH → SkeinH) (w : Nat) : (s.modSkein k f).shut w = s.shut w :=
  rfl
@[simp] theorem State.shut_modCan (s : State) (c : Nat) (f : CanH → CanH) (w : Nat) : (s.modCan c f).shut w = s.shut w :=
  rfl
@[simp] theorem State.shut_setB (s : State) (f : Fld) (u : Nat) (b : Bool) (w : Nat) : (s.setB f u b).shut w = s.shut w :=
  rfl
@[simp] theorem State.shut_count (s : State) (f : Fld) (u n : Nat) (w : Nat) : (s.count f u n).shut w = s.shut w :=
  rfl
@[simp] theorem State.shut_addTo (s : State) (f : Fld) (u n : Nat) (w : Nat) : (s.addTo f u n).shut w = s.shut w :=
  rfl
@[simp] theorem State.shut_setBit (s : State) (f : Fld) (u i : Nat) (w : Nat) : (s.setBit f u i).shut w = s.shut w :=
  rfl
@[simp] theorem State.shut_clear (s : State) (f : Fld) (u : Nat) (w : Nat) : (s.clear f u).shut w = s.shut w := rfl

@[simp] theorem State.can_modCan_same {s : State} {u : Nat} (f : CanH → CanH) (h : u < s.cans.length) :
    (s.modCan u f).can u = f (s.can u) := by
  simp [State.can, State.modCan, h]

@[simp] theorem State.can_modCan_other {s : State} {u v : Nat} (f : CanH → CanH) (h : u ≠ v) :
    (s.modCan u f).can v = s.can v := by
  simp [State.can, State.modCan, h]

@[simp] theorem State.modCan_cans_length (s : State) (u : Nat) (f : CanH → CanH) : (s.modCan u f).cans.length = s.cans.length := by
  simp [State.modCan]

@[simp] theorem State.can_set (s : State) (f : Fld) (u v : Nat) (w : Nat) : (s.set f u v).can w = s.can w := rfl
@[simp] theorem State.can_resetRegs (s : State) (p : Cell → Bool) (w : Nat) : (s.resetRegs p).can w = s.can w := rfl
@[simp] theorem State.can_useFree (s : State) (w : Nat) : (s.useFree).can w = s.can w := rfl
@[simp] theorem State.can_modDom (s : State) (d : Nat) (f : Dom → Dom) (w : Nat) : (s.modDom d f).can w = s.can w :=
  rfl
@[simp] theorem State.can_modFeed (s : State) (n : Nat) (f : FeedH → FeedH) (w : Nat) : (s.modFeed n f).can w = s.can w :=
  rfl
@[simp] theorem State.can_modPort (s : State) (n : Nat) (f : PortH → PortH) (w : Nat) : (s.modPort n f).can w = s.can w :=
  rfl
@[simp] theorem State.can_modSkein (s : State) (k : Nat) (f : SkeinH → SkeinH) (w : Nat) : (s.modSkein k f).can w = s.can w :=
  rfl
@[simp] theorem State.can_modShut (s : State) (n : Nat) (f : ShutH → ShutH) (w : Nat) : (s.modShut n f).can w = s.can w :=
  rfl
@[simp] theorem State.can_setB (s : State) (f : Fld) (u : Nat) (b : Bool) (w : Nat) : (s.setB f u b).can w = s.can w :=
  rfl
@[simp] theorem State.can_count (s : State) (f : Fld) (u n : Nat) (w : Nat) : (s.count f u n).can w = s.can w := rfl
@[simp] theorem State.can_addTo (s : State) (f : Fld) (u n : Nat) (w : Nat) : (s.addTo f u n).can w = s.can w := rfl
@[simp] theorem State.can_setBit (s : State) (f : Fld) (u i : Nat) (w : Nat) : (s.setBit f u i).can w = s.can w := rfl
@[simp] theorem State.can_clear (s : State) (f : Fld) (u : Nat) (w : Nat) : (s.clear f u).can w = s.can w := rfl

end Sys2Proof.Machine
end

