-- ==== Sys2Proof/Laws/Ok.lean ====
section
/-! SUPPORT. What every operation keeps: a sound state stays sound, and the queue of waiting commands is left alone. The
rules by which this passes through the parts of a meaning; the files beside this one apply them to each operation. -/

namespace Sys2Proof.Laws

open Sys2Proof.Machine

/-- The state is sound and its queue is `q`. -/
def Ok (q : List Instr) (s : State) : Prop :=
  s.pending = q ∧ regWf s.regs = true ∧ s.doms.length = 42 ∧ s.feeds.length = 16 ∧ s.ports.length = 96
  ∧ s.skeins.length = 8 ∧ s.shuts.length = 13 ∧ s.cans.length = 2 ∧ Memory.wf s.mbox.inWin = true

theorem ok_iff (q : List Instr) (s : State) : Ok q s ↔ s.pending = q ∧ Safety.sound s = true := by
  simp [Ok, Safety.sound, Safety.sized, and_assoc]

/-- An outcome's next state is so. -/
@[irreducible] def OutOk (q : List Instr) (o : Host.Outcome State Fault Refusal) : Prop := ∀ t, o = .next t → Ok q t

/-- A state that may be missing is so. -/
@[irreducible] def OptOk (q : List Instr) (o : Option State) : Prop := ∀ t, o = some t → Ok q t

variable {q : List Instr} {s t : State} {α : Type}

/-- A change of anything but the store, the queue and the sizes. -/
theorem Ok.upd (h : Ok q s) (h1 : t.regs = s.regs) (h2 : t.pending = s.pending)
    (h3 : t.doms.length = s.doms.length) (h4 : t.feeds.length = s.feeds.length)
    (h5 : t.ports.length = s.ports.length) (h6 : t.skeins.length = s.skeins.length)
    (h7 : t.shuts.length = s.shuts.length) (h8 : t.cans.length = s.cans.length)
    (h9 : t.mbox.inWin = s.mbox.inWin) : Ok q t := by
  simp only [Ok, h1, h2, h3, h4, h5, h6, h7, h8, h9] at *; exact h

/-- A change of the store that keeps its form. -/
theorem Ok.regs (h : Ok q s) (h1 : regWf t.regs = true) (h2 : t.pending = s.pending)
    (h3 : t.doms.length = s.doms.length) (h4 : t.feeds.length = s.feeds.length)
    (h5 : t.ports.length = s.ports.length) (h6 : t.skeins.length = s.skeins.length)
    (h7 : t.shuts.length = s.shuts.length) (h8 : t.cans.length = s.cans.length)
    (h9 : t.mbox.inWin = s.mbox.inWin) : Ok q t := by
  simp only [Ok, h1, h2, h3, h4, h5, h6, h7, h8, h9, true_and] at *; exact ⟨h.1, h.2.2⟩

theorem Ok.wf (h : Ok q s) : regWf s.regs = true := h.2.1

theorem ok_ite {c : Prop} [Decidable c] {a b : State} (ha : Ok q a) (hb : Ok q b) : Ok q (if c then a else b) := by
  split <;> assumption

theorem ok_ite_fst {c : Prop} [Decidable c] {a b : State × α} (ha : Ok q a.1) (hb : Ok q b.1) :
    Ok q (if c then a else b).1 := by
  split <;> assumption

theorem ok_foldl {f : State → α → State} (l : List α) (hf : ∀ s a, Ok q s → Ok q (f s a)) (h : Ok q s) :
    Ok q (l.foldl f s) := by
  induction l generalizing s with
  | nil => exact h
  | cons a r ih => exact ih (hf s a h)

theorem ok_foldl_fst {β : Type} {f : State × β → α → State × β} (l : List α) {x : State × β}
    (hf : ∀ x a, Ok q x.1 → Ok q (f x a).1) (h : Ok q x.1) : Ok q (l.foldl f x).1 := by
  induction l generalizing x with
  | nil => exact h
  | cons a r ih => exact ih (hf x a h)

theorem out_next (h : Ok q t) : OutOk q (.next t) := by unfold OutOk; intro u hu; cases hu; exact h
theorem out_fault {r : Fault} : OutOk q (.fault r) := by unfold OutOk; intro u hu; cases hu
theorem out_refused {r : Refusal} : OutOk q (.refused r) := by unfold OutOk; intro u hu; cases hu
theorem out_ite {c : Prop} [Decidable c] {a b : Host.Outcome State Fault Refusal} (ha : OutOk q a) (hb : OutOk q b) :
    OutOk q (if c then a else b) := by
  split <;> assumption

theorem out_elim {o : Host.Outcome State Fault Refusal} (h : OutOk q o) (t : State) (e : o = .next t) : Ok q t := by
  unfold OutOk at h; exact h t e
theorem opt_elim {o : Option State} (h : OptOk q o) (t : State) (e : o = some t) : Ok q t := by
  unfold OptOk at h; exact h t e

theorem opt_some (h : Ok q t) : OptOk q (some t) := by unfold OptOk; intro u hu; cases hu; exact h
theorem opt_none : OptOk q none := by unfold OptOk; intro u hu; cases hu
theorem opt_getD {o : Option State} (h : OptOk q o) (hs : Ok q s) : Ok q (o.getD s) := by
  cases o with
  | none => exact hs
  | some t => exact opt_elim h t rfl
theorem opt_ite {c : Prop} [Decidable c] {a b : Option State} (ha : OptOk q a) (hb : OptOk q b) :
    OptOk q (if c then a else b) := by
  split <;> assumption

/-! ### The operations of Machine/Ops.lean on fields and records -/

theorem set_ok (f : Fld) (u v : Nat) (h : Ok q s) : Ok q (s.set f u v) :=
  h.regs (regWf_set h.wf f u v) rfl rfl rfl rfl rfl rfl rfl rfl

theorem resetRegs_ok (p : Cell → Bool) (h : Ok q s) : Ok q (s.resetRegs p) :=
  h.regs (regWf_filter h.wf _) rfl rfl rfl rfl rfl rfl rfl rfl

theorem modDom_ok (d : Nat) (f : Dom → Dom) (h : Ok q s) : Ok q (s.modDom d f) :=
  h.upd rfl rfl (by simp [State.modDom]) rfl rfl rfl rfl rfl rfl
theorem modFeed_ok (d : Nat) (f : FeedH → FeedH) (h : Ok q s) : Ok q (s.modFeed d f) :=
  h.upd rfl rfl rfl (by simp [State.modFeed]) rfl rfl rfl rfl rfl
theorem modPort_ok (d : Nat) (f : PortH → PortH) (h : Ok q s) : Ok q (s.modPort d f) :=
  h.upd rfl rfl rfl rfl (by simp [State.modPort]) rfl rfl rfl rfl
theorem modSkein_ok (d : Nat) (f : SkeinH → SkeinH) (h : Ok q s) : Ok q (s.modSkein d f) :=
  h.upd rfl rfl rfl rfl rfl (by simp [State.modSkein]) rfl rfl rfl
theorem modShut_ok (d : Nat) (f : ShutH → ShutH) (h : Ok q s) : Ok q (s.modShut d f) :=
  h.upd rfl rfl rfl rfl rfl rfl (by simp [State.modShut]) rfl rfl
theorem modCan_ok (d : Nat) (f : CanH → CanH) (h : Ok q s) : Ok q (s.modCan d f) :=
  h.upd rfl rfl rfl rfl rfl rfl rfl (by simp [State.modCan]) rfl

end Sys2Proof.Laws
end

