-- ==== Sys2Proof/Laws/OkMk.lean ====
section
/-! SUPPORT. A record update of the state, for Laws/Ok.lean. -/

namespace Sys2Proof.Laws

open Sys2Proof.Machine

theorem mk_ok {cq : List Instr} {s : State}
    {dt : Nat} {stepped : Nat} {epoch : Nat} {dtFrac : Nat} {slowPhase : Nat} {slowDue : Bool} {freeCtr : Nat} {pins : Pins} {boot : Boot} {ecx : Ecrax} {mbox : Mailbox} {doms : List Dom} {flt : Faults} {sec : Sec} {mgmt : Mgmt} {shadows : List Shadow} {winOps : List WinOp} {lastRead : Nat} {snap : Snap} {up : Upstream} {avsTries : Nat} {avsFrom : Nat} {avsAt : Option Nat} {feeds : List FeedH} {ports : List PortH} {skeins : List SkeinH} {loom : Loom} {shuts : List ShutH} {hub : HubH} {cans : List CanH} {hier : Hier} {measBase : Nat} {measShift : Nat} {measDt : Nat} {porstNs : Nat}
    (h : Ok cq s) (h_mbox : mbox.inWin = s.mbox.inWin) (h_doms : doms.length = s.doms.length) (h_feeds : feeds.length = s.feeds.length) (h_ports : ports.length = s.ports.length) (h_skeins : skeins.length = s.skeins.length) (h_shuts : shuts.length = s.shuts.length) (h_cans : cans.length = s.cans.length) :
    Ok cq (State.mk s.regs dt stepped epoch dtFrac slowPhase slowDue freeCtr s.pending pins boot ecx mbox doms flt sec mgmt shadows winOps lastRead snap up avsTries avsFrom avsAt feeds ports skeins loom shuts hub cans hier measBase measShift measDt porstNs) :=
  Ok.upd h rfl rfl h_doms h_feeds h_ports h_skeins h_shuts h_cans h_mbox

theorem mkRegs_ok {cq : List Instr} {s : State}
    {regs : List Cell} {dt : Nat} {stepped : Nat} {epoch : Nat} {dtFrac : Nat} {slowPhase : Nat} {slowDue : Bool} {freeCtr : Nat} {pins : Pins} {boot : Boot} {ecx : Ecrax} {mbox : Mailbox} {doms : List Dom} {flt : Faults} {sec : Sec} {mgmt : Mgmt} {shadows : List Shadow} {winOps : List WinOp} {lastRead : Nat} {snap : Snap} {up : Upstream} {avsTries : Nat} {avsFrom : Nat} {avsAt : Option Nat} {feeds : List FeedH} {ports : List PortH} {skeins : List SkeinH} {loom : Loom} {shuts : List ShutH} {hub : HubH} {cans : List CanH} {hier : Hier} {measBase : Nat} {measShift : Nat} {measDt : Nat} {porstNs : Nat}
    (h : Ok cq s) (hr : regWf regs = true) (h_mbox : mbox.inWin = s.mbox.inWin) (h_doms : doms.length = s.doms.length) (h_feeds : feeds.length = s.feeds.length) (h_ports : ports.length = s.ports.length) (h_skeins : skeins.length = s.skeins.length) (h_shuts : shuts.length = s.shuts.length) (h_cans : cans.length = s.cans.length) :
    Ok cq (State.mk regs dt stepped epoch dtFrac slowPhase slowDue freeCtr s.pending pins boot ecx mbox doms flt sec mgmt shadows winOps lastRead snap up avsTries avsFrom avsAt feeds ports skeins loom shuts hub cans hier measBase measShift measDt porstNs) :=
  Ok.regs h hr rfl h_doms h_feeds h_ports h_skeins h_shuts h_cans h_mbox

end Sys2Proof.Laws
end

