-- ==== Sys2Proof/Laws/OkOps.lean ====
section
/-! SUPPORT. The operations of Machine/Ops.lean keep a sound state sound and the queue as it is. -/

namespace Sys2Proof.Laws

open Sys2Proof.Machine

theorem setB_ok {cq : List Instr} {s : State} (f : Fld) (u : Nat) (b : Bool) (h : Ok cq s) :
    Ok cq (State.setB s f u b) := by
  unfold State.setB
  repeat' first
    | (with_reducible first | assumption | rfl | intro _ | apply set_ok)

theorem count_ok {cq : List Instr} {s : State} (f : Fld) (u : Nat) (n : Nat) (h : Ok cq s) :
    Ok cq (State.count s f u n) := by
  unfold State.count
  repeat' first
    | (with_reducible first | assumption | rfl | intro _ | apply set_ok)

theorem addTo_ok {cq : List Instr} {s : State} (f : Fld) (u : Nat) (n : Nat) (h : Ok cq s) :
    Ok cq (State.addTo s f u n) := by
  unfold State.addTo
  repeat' first
    | (with_reducible first | assumption | rfl | intro _ | apply set_ok)

theorem setBit_ok {cq : List Instr} {s : State} (f : Fld) (u : Nat) (i : Nat) (h : Ok cq s) :
    Ok cq (State.setBit s f u i) := by
  unfold State.setBit
  repeat' first
    | (with_reducible first | assumption | rfl | intro _ | apply set_ok)

theorem clear_ok {cq : List Instr} {s : State} (f : Fld) (u : Nat) (h : Ok cq s) :
    Ok cq (State.clear s f u) := by
  unfold State.clear
  repeat' first
    | (with_reducible first | assumption | rfl | intro _ | apply reset_ok | apply set_ok)

theorem useFree_ok {cq : List Instr} {s : State} (h : Ok cq s) :
    Ok cq (State.useFree s) := by
  unfold State.useFree
  repeat' first
    | (with_reducible first
        | assumption | rfl | intro _ | apply ok_ite | apply ok_ite_fst)
    | split | fail_if_no_progress ((with_reducible apply mk_ok) <;> (try with_reducible rfl))

theorem modLane_ok {cq : List Instr} {s : State} (l : Nat) (f : LaneH → LaneH) (h : Ok cq s) :
    Ok cq (State.modLane s l f) := by
  unfold State.modLane
  repeat' first
    | (with_reducible first
        | assumption | rfl | intro _ | apply ok_ite | apply ok_ite_fst)
    | split | fail_if_no_progress ((with_reducible apply mk_ok) <;> (try with_reducible rfl))

theorem placeEvent_ok {cq : List Instr} {s : State} (r : EvRec) (h : Ok cq s) :
    Ok cq (State.placeEvent s r) := by
  unfold State.placeEvent
  repeat' first
    | (with_reducible first
        | assumption | rfl | intro _ | apply ok_ite | apply ok_ite_fst)
    | split | fail_if_no_progress ((with_reducible apply mk_ok) <;> (try with_reducible rfl)) | dsimp only
    | (simp; done)

theorem newEvent_ok {cq : List Instr} {s : State} (put : State → EvRec → State) (cls : Nat) (unit : Nat) (code : Nat) (detail : List Nat) (h : Ok cq s) (hf : ∀ s r, Ok cq s → Ok cq (put s r)) :
    Ok cq (State.newEvent s put cls unit code detail) := by
  unfold State.newEvent
  repeat' first
    | (with_reducible first
        | assumption | apply hf | rfl | intro _ | apply ok_ite | apply ok_ite_fst)
    | split | fail_if_no_progress ((with_reducible apply mk_ok) <;> (try with_reducible rfl)) | dsimp only
    | (simp; done)

theorem deliverEvent_ok {cq : List Instr} {s : State} (r : EvRec) (h : Ok cq s) :
    Ok cq (State.deliverEvent s r) := by
  unfold State.deliverEvent
  repeat' first
    | (with_reducible first
        | assumption | rfl | intro _ | apply newEvent_ok | apply placeEvent_ok | apply setBit_ok | apply ok_ite
        | apply ok_ite_fst)
    | split | fail_if_no_progress ((with_reducible apply mk_ok) <;> (try with_reducible rfl))

theorem formEvent_ok {cq : List Instr} {s : State} (cls : Nat) (unit : Nat) (code : Nat) (detail : List Nat) (h : Ok cq s) :
    Ok cq (State.formEvent s cls unit code detail) := by
  unfold State.formEvent
  repeat' first
    | (with_reducible first
        | assumption | rfl | intro _ | apply deliverEvent_ok | apply newEvent_ok | apply ok_ite | apply ok_ite_fst)
    | split | fail_if_no_progress ((with_reducible apply mk_ok) <;> (try with_reducible rfl))

theorem loomNote_ok {cq : List Instr} {s : State} (code : Nat) (handle : Nat) (extra : Nat) (h : Ok cq s) :
    Ok cq (State.loomNote s code handle extra) := by
  unfold State.loomNote
  repeat' first
    | (with_reducible first
        | assumption | rfl | intro _ | apply formEvent_ok | apply setBit_ok | apply ok_ite | apply ok_ite_fst)
    | split | fail_if_no_progress ((with_reducible apply mk_ok) <;> (try with_reducible rfl)) | dsimp only
    | (simp; done)

theorem notifyWake_ok {cq : List Instr} {s : State} (h : Ok cq s) :
    Ok cq (State.notifyWake s) := by
  unfold State.notifyWake
  repeat' first
    | (with_reducible first
        | assumption | rfl | intro _ | apply loomNote_ok | apply set_ok | apply ok_ite | apply ok_ite_fst)
    | split | fail_if_no_progress ((with_reducible apply mk_ok) <;> (try with_reducible rfl)) | dsimp only
    | (simp; done)

theorem wakeOn97_ok {cq : List Instr} {s : State} (h : Ok cq s) :
    Ok cq (State.wakeOn97 s) := by
  unfold State.wakeOn97
  repeat' first
    | (with_reducible first
        | assumption | rfl | intro _ | apply formEvent_ok | apply setBit_ok | apply ok_ite | apply ok_ite_fst)
    | split | fail_if_no_progress ((with_reducible apply mk_ok) <;> (try with_reducible rfl)) | dsimp only
    | (simp; done)

theorem flagWake_ok {cq : List Instr} {s : State} (h : Ok cq s) :
    Ok cq (State.flagWake s) := by
  unfold State.flagWake
  repeat' first
    | (with_reducible first
        | assumption | rfl | intro _ | apply notifyWake_ok | apply set_ok | apply wakeOn97_ok | apply ok_ite
        | apply ok_ite_fst)
    | split | fail_if_no_progress ((with_reducible apply mk_ok) <;> (try with_reducible rfl))

theorem loomEvent_ok {cq : List Instr} {s : State} (code : Nat) (handle : Nat) (extra : Nat) (h : Ok cq s) :
    Ok cq (State.loomEvent s code handle extra) := by
  unfold State.loomEvent
  repeat' first
    | (with_reducible first
        | assumption | rfl | intro _ | apply flagWake_ok | apply loomNote_ok | apply ok_ite | apply ok_ite_fst)
    | split | fail_if_no_progress ((with_reducible apply mk_ok) <;> (try with_reducible rfl)) | dsimp only
    | (simp; done)

theorem postEvent_ok {cq : List Instr} {s : State} (cls : Nat) (unit : Nat) (code : Nat) (detail : List Nat) (h : Ok cq s) :
    Ok cq (State.postEvent s cls unit code detail) := by
  unfold State.postEvent
  repeat' first
    | (with_reducible first
        | assumption | rfl | intro _ | apply flagWake_ok | apply formEvent_ok)

theorem deviceEvent_ok {cq : List Instr} {s : State} (code : Nat) (detail : List Nat) (h : Ok cq s) :
    Ok cq (State.deviceEvent s code detail) := by
  unfold State.deviceEvent
  repeat' first
    | (with_reducible first | assumption | rfl | intro _ | apply postEvent_ok)

theorem shutEvent_ok {cq : List Instr} {s : State} (j : Nat) (code : Nat) (handle : Nat) (port : Nat) (phyg : Nat) (route : Nat) (extra : Nat) (h : Ok cq s) :
    Ok cq (State.shutEvent s j code handle port phyg route extra) := by
  unfold State.shutEvent
  repeat' first
    | (with_reducible first
        | assumption | rfl | intro _ | apply postEvent_ok | apply setBit_ok)

theorem hubEvent_ok {cq : List Instr} {s : State} (code : Nat) (port : Nat) (h : Ok cq s) :
    Ok cq (State.hubEvent s code port) := by
  unfold State.hubEvent
  repeat' first
    | (with_reducible first
        | assumption | rfl | intro _ | apply postEvent_ok | apply setBit_ok)

theorem hierEvent_ok {cq : List Instr} {s : State} (unit : Nat) (code : Nat) (extra : List (Nat × Nat × Nat)) (h : Ok cq s) :
    Ok cq (State.hierEvent s unit code extra) := by
  unfold State.hierEvent
  repeat' first
    | (with_reducible first | assumption | rfl | intro _ | apply postEvent_ok)

theorem domainEvent_ok {cq : List Instr} {s : State} (d : Nat) (code : Nat) (detail : List Nat) (h : Ok cq s) :
    Ok cq (State.domainEvent s d code detail) := by
  unfold State.domainEvent
  repeat' first
    | (with_reducible first
        | assumption | rfl | intro _ | apply postEvent_ok | apply setBit_ok)

theorem fillMailbox_ok {cq : List Instr} {s : State} (h : Ok cq s) :
    Ok cq (State.fillMailbox s) := by
  unfold State.fillMailbox
  repeat' first
    | (with_reducible first
        | assumption | rfl | intro _ | apply set_ok | apply ok_ite | apply ok_ite_fst)
    | split | fail_if_no_progress ((with_reducible apply mk_ok) <;> (try with_reducible rfl)) | dsimp only
    | (simp; done)

theorem addEntry_ok {cq : List Instr} {s : State} (e : JEntry) (h : Ok cq s) :
    Ok cq (State.addEntry s e) := by
  unfold State.addEntry
  repeat' first
    | (with_reducible first
        | assumption | rfl | intro _ | apply set_ok | apply ok_ite | apply ok_ite_fst)
    | split | fail_if_no_progress ((with_reducible apply mk_ok) <;> (try with_reducible rfl))

theorem updateEntry_ok {cq : List Instr} {s : State} (q : ReqId) (f : JEntry → JEntry) (h : Ok cq s) :
    Ok cq (State.updateEntry s q f) := by
  unfold State.updateEntry
  repeat' first
    | (with_reducible first
        | assumption | rfl | intro _ | apply ok_ite | apply ok_ite_fst)
    | split | fail_if_no_progress ((with_reducible apply mk_ok) <;> (try with_reducible rfl))

theorem setKept_ok {cq : List Instr} {s : State} (c : Chan) (k : KeptPacket) (h : Ok cq s) :
    Ok cq (State.setKept s c k) := by
  unfold State.setKept
  repeat' first
    | (with_reducible first
        | assumption | rfl | intro _ | apply ok_ite | apply ok_ite_fst)
    | split | fail_if_no_progress ((with_reducible apply mk_ok) <;> (try with_reducible rfl))

theorem keepStatus_ok {cq : List Instr} {s : State} (q : ReqId) (status : Nat) (h : Ok cq s) :
    Ok cq (State.keepStatus s q status) := by
  unfold State.keepStatus
  repeat' first
    | (with_reducible first
        | assumption | rfl | intro _ | apply setKept_ok | apply ok_ite | apply ok_ite_fst)
    | split | fail_if_no_progress ((with_reducible apply mk_ok) <;> (try with_reducible rfl)) | dsimp only
    | (simp; done)

theorem noteDiscard_ok {cq : List Instr} {s : State} (r : Reply) (h : Ok cq s) :
    Ok cq (State.noteDiscard s r) := by
  unfold State.noteDiscard
  repeat' first
    | (with_reducible first
        | assumption | rfl | intro _ | apply ok_ite | apply ok_ite_fst)
    | split | fail_if_no_progress ((with_reducible apply mk_ok) <;> (try with_reducible rfl)) | dsimp only
    | (simp; done)

theorem sendReply_ok {cq : List Instr} {s : State} (r : Reply) (h : Ok cq s) :
    Ok cq (State.sendReply s r) := by
  unfold State.sendReply
  repeat' first
    | (with_reducible first
        | assumption | rfl | intro _ | apply fillMailbox_ok | apply noteDiscard_ok | apply ok_ite
        | apply ok_ite_fst)
    | split | fail_if_no_progress ((with_reducible apply mk_ok) <;> (try with_reducible rfl))

theorem await_ok {cq : List Instr} {s : State} (a : Await) (h : Ok cq s) :
    Ok cq (State.await s a) := by
  unfold State.await
  repeat' first
    | (with_reducible first
        | assumption | rfl | intro _ | apply ok_ite | apply ok_ite_fst)
    | split | fail_if_no_progress ((with_reducible apply mk_ok) <;> (try with_reducible rfl)) | dsimp only
    | (simp; done)

theorem releaseReplies_ok {cq : List Instr} {s : State} (c : Chan) (cls : Nat) (h : Ok cq s) :
    Ok cq (State.releaseReplies s c cls) := by
  unfold State.releaseReplies
  repeat' first
    | (with_reducible first
        | assumption | apply ok_foldl | apply ok_foldl_fst | rfl | intro _ | apply sendReply_ok | apply ok_ite
        | apply ok_ite_fst)
    | split | fail_if_no_progress ((with_reducible apply mk_ok) <;> (try with_reducible rfl)) | dsimp only
    | (simp; done)

theorem dropReady_ok {cq : List Instr} {s : State} (c : Chan) (h : Ok cq s) :
    Ok cq (State.dropReady s c) := by
  unfold State.dropReady
  repeat' first
    | (with_reducible first
        | assumption | rfl | intro _ | apply ok_ite | apply ok_ite_fst)
    | split | fail_if_no_progress ((with_reducible apply mk_ok) <;> (try with_reducible rfl)) | dsimp only
    | (simp; done)

theorem replyNow_ok {cq : List Instr} {s : State} (r : Reply) (h : Ok cq s) :
    Ok cq (State.replyNow s r) := by
  unfold State.replyNow
  repeat' first
    | (with_reducible first
        | assumption | rfl | intro _ | apply await_ok | apply releaseReplies_ok | apply ok_ite | apply ok_ite_fst)
    | split | fail_if_no_progress ((with_reducible apply mk_ok) <;> (try with_reducible rfl)) | dsimp only
    | (simp; done)

theorem finish_ok {cq : List Instr} {s : State} (q : ReqId) (dev : Nat) (status : Nat) (r : Option Reply) (h : Ok cq s) :
    Ok cq (State.finish s q dev status r) := by
  unfold State.finish
  repeat' first
    | (with_reducible first
        | assumption | rfl | intro _ | apply await_ok | apply noteDiscard_ok | apply releaseReplies_ok
        | apply ok_ite | apply ok_ite_fst)
    | split | fail_if_no_progress ((with_reducible apply mk_ok) <;> (try with_reducible rfl)) | dsimp only
    | (simp; done)

theorem commit_ok {cq : List Instr} {s : State} (q : ReqId) (status : Nat) (h : Ok cq s) :
    Ok cq (State.commit s q status) := by
  unfold State.commit
  repeat' first
    | (with_reducible first
        | assumption | rfl | intro _ | apply updateEntry_ok | apply ok_ite | apply ok_ite_fst)
    | split | fail_if_no_progress ((with_reducible apply mk_ok) <;> (try with_reducible rfl)) | dsimp only
    | (simp; done)

theorem answer_ok {cq : List Instr} {s : State} (q : ReqId) (noReply : Bool) (status : Nat) (results : List Nat) (h : Ok cq s) :
    Ok cq (State.answer s q noReply status results) := by
  unfold State.answer
  repeat' first
    | (with_reducible first
        | assumption | rfl | intro _ | apply commit_ok | apply finish_ok | apply keepStatus_ok | apply ok_ite)

theorem displaceAs_ok {cq : List Instr} {s : State} (q : ReqId) (r : Reply) (h : Ok cq s) :
    Ok cq (State.displaceAs s q r) := by
  unfold State.displaceAs
  repeat' first
    | (with_reducible first
        | assumption | rfl | intro _ | apply keepStatus_ok | apply sendReply_ok | apply updateEntry_ok
        | apply ok_ite | apply ok_ite_fst)
    | split | fail_if_no_progress ((with_reducible apply mk_ok) <;> (try with_reducible rfl)) | dsimp only
    | (simp; done)

theorem displace_ok {cq : List Instr} {s : State} (q : ReqId) (h : Ok cq s) :
    Ok cq (State.displace s q) := by
  unfold State.displace
  repeat' first
    | (with_reducible first
        | assumption | rfl | intro _ | apply displaceAs_ok | apply ok_ite | apply ok_ite_fst)
    | split | fail_if_no_progress ((with_reducible apply mk_ok) <;> (try with_reducible rfl)) | dsimp only
    | (simp; done)

theorem markRun_ok {cq : List Instr} {s : State} (q : Option ReqId) (h : Ok cq s) :
    Ok cq (State.markRun s q) := by
  unfold State.markRun
  repeat' first
    | (with_reducible first
        | assumption | rfl | intro _ | apply updateEntry_ok | apply ok_ite | apply ok_ite_fst)
    | split

theorem displaceOpt_ok {cq : List Instr} {s : State} (q : Option ReqId) (h : Ok cq s) :
    Ok cq (State.displaceOpt s q) := by
  unfold State.displaceOpt
  repeat' first
    | (with_reducible first
        | assumption | rfl | intro _ | apply displace_ok | apply ok_ite | apply ok_ite_fst)
    | split

end Sys2Proof.Laws
end

