-- ==== Sys2Proof/Laws/OkWords.lean ====
section
/-! SUPPORT. The operations of Machine/Words.lean keep a sound state sound and the queue as it is. -/

namespace Sys2Proof.Laws

open Sys2Proof.Machine

theorem applyWord_ok {cq : List Instr} {s : State} (m : WMode) (sp : Space) (u : Nat) (off : Nat) (data : Nat) (h : Ok cq s) :
    Ok cq (applyWord s m sp u off data) := by
  unfold applyWord
  repeat' first
    | (with_reducible first
        | assumption | apply ok_foldl | apply ok_foldl_fst | rfl | intro _ | apply set_ok)

theorem clearRC_ok {cq : List Instr} {s : State} (sp : Space) (u : Nat) (off : Nat) (h : Ok cq s) :
    Ok cq (clearRC s sp u off) := by
  unfold clearRC
  repeat' first
    | (with_reducible first
        | assumption | apply ok_foldl | apply ok_foldl_fst | rfl | intro _ | apply set_ok)

end Sys2Proof.Laws
end

