-- ==== Sys2Proof/Laws/OkDomains.lean ====
section
/-! SUPPORT. The operations of Machine/Domains.lean keep a sound state sound and the queue as it is. -/

namespace Sys2Proof.Laws

open Sys2Proof.Machine

theorem clocksBack_ok {cq : List Instr} {s : State} (h : Ok cq s) :
    Ok cq (State.clocksBack s) := by
  unfold State.clocksBack
  repeat' first
    | (with_reducible first
        | assumption | apply ok_foldl | apply ok_foldl_fst | rfl | intro _ | apply modDom_ok | apply set_ok
        | apply ok_ite | apply ok_ite_fst)
    | split | fail_if_no_progress ((with_reducible apply mk_ok) <;> (try with_reducible rfl)) | dsimp only
    | (simp; done)

theorem fastClock_ok {cq : List Instr} {s : State} (h : Ok cq s) :
    Ok cq (State.fastClock s) := by
  unfold State.fastClock
  repeat' first
    | (with_reducible first
        | assumption | rfl | intro _ | apply clocksBack_ok | apply set_ok | apply ok_ite | apply ok_ite_fst)
    | split | fail_if_no_progress ((with_reducible apply mk_ok) <;> (try with_reducible rfl))

theorem slowBoundary_ok {cq : List Instr} {s : State} (h : Ok cq s) :
    Ok cq (State.slowBoundary s) := by
  unfold State.slowBoundary
  repeat' first
    | (with_reducible first
        | assumption | rfl | intro _ | apply set_ok | apply ok_ite | apply ok_ite_fst)
    | split | fail_if_no_progress ((with_reducible apply mk_ok) <;> (try with_reducible rfl))

theorem beginStep_ok {cq : List Instr} {s : State} (d : Nat) (step : Nat) (h : Ok cq s) :
    Ok cq (State.beginStep s d step) := by
  unfold State.beginStep
  repeat' first
    | (with_reducible first
        | assumption | rfl | intro _ | apply modDom_ok | apply set_ok)

theorem startTransition_ok {cq : List Instr} {s : State} (d : Nat) (st : Nat) (cause : Nat) (wake : Nat) (h : Ok cq s) :
    Ok cq (State.startTransition s d st cause wake) := by
  unfold State.startTransition
  repeat' first
    | (with_reducible first
        | assumption | rfl | intro _ | apply beginStep_ok | apply modDom_ok | apply set_ok | apply ok_ite)

theorem keepPending_ok {cq : List Instr} {s : State} (d : Nat) (st : Nat) (cause : Nat) (q : Option ReqId) (wake : Nat) (h : Ok cq s) :
    Ok cq (State.keepPending s d st cause q wake) := by
  unfold State.keepPending
  repeat' first
    | (with_reducible first
        | assumption | rfl | intro _ | apply modDom_ok | apply set_ok)

theorem emptyPending_ok {cq : List Instr} {s : State} (d : Nat) (h : Ok cq s) :
    Ok cq (State.emptyPending s d) := by
  unfold State.emptyPending
  repeat' first
    | (with_reducible first
        | assumption | rfl | intro _ | apply modDom_ok | apply set_ok)

theorem requestDropped_ok {cq : List Instr} {s : State} (d : Nat) (cause : Nat) (wake : Nat) (why : Nat) (st : Nat) (h : Ok cq s) :
    Ok cq (State.requestDropped s d cause wake why st) := by
  unfold State.requestDropped
  repeat' first
    | (with_reducible first | assumption | rfl | intro _ | apply domainEvent_ok)

theorem replacePending_ok {cq : List Instr} {s : State} (d : Nat) (h : Ok cq s) :
    Ok cq (State.replacePending s d) := by
  unfold State.replacePending
  repeat' first
    | (with_reducible first
        | assumption | rfl | intro _ | apply displace_ok | apply emptyPending_ok | apply requestDropped_ok
        | apply ok_ite | apply ok_ite_fst)
    | split

theorem requestOne_ok {cq : List Instr} {s : State} (d : Nat) (st : Nat) (cause : Nat) (q : Option ReqId) (wake : Nat) (h : Ok cq s) :
    Ok cq (State.requestOne s d st cause q wake).1 := by
  unfold State.requestOne
  repeat' first
    | (with_reducible first
        | assumption | rfl | intro _ | apply keepPending_ok | apply modDom_ok | apply replacePending_ok
        | apply requestDropped_ok | apply startTransition_ok | apply ok_ite | apply ok_ite_fst)

theorem bringUp_ok {cq : List Instr} {s : State} (ds : List Nat) (own : List Nat) (cause : Nat) (wake : Nat) (h : Ok cq s) :
    Ok cq (State.bringUp s ds own cause wake) := by
  unfold State.bringUp
  repeat' first
    | (with_reducible first
        | assumption | apply ok_foldl | apply ok_foldl_fst | rfl | intro _ | apply requestOne_ok | apply ok_ite
        | apply ok_ite_fst)
    | split | fail_if_no_progress ((with_reducible apply mk_ok) <;> (try with_reducible rfl)) | dsimp only
    | (simp; done)

theorem requestDomain_ok {cq : List Instr} {s : State} (d : Nat) (st : Nat) (cause : Nat) (q : Option ReqId) (wake : Nat) (own : List Nat) (h : Ok cq s) :
    Ok cq (State.requestDomain s d st cause q wake own).1 := by
  unfold State.requestDomain
  repeat' first
    | (with_reducible first
        | assumption | rfl | intro _ | apply bringUp_ok | apply requestOne_ok | apply ok_ite | apply ok_ite_fst)

theorem requestOn_ok {cq : List Instr} {s : State} (ds : List Nat) (cause : Nat) (wake : Nat) (h : Ok cq s) :
    Ok cq (State.requestOn s ds cause wake) := by
  unfold State.requestOn
  repeat' first
    | (with_reducible first
        | assumption | apply ok_foldl | apply ok_foldl_fst | rfl | intro _ | apply requestDomain_ok)

theorem settleDomains_ok {cq : List Instr} {s : State} (h : Ok cq s) :
    Ok cq (State.settleDomains s) := by
  unfold State.settleDomains
  repeat' first
    | (with_reducible first
        | assumption | apply ok_foldl | apply ok_foldl_fst | rfl | intro _ | apply requestDomain_ok | apply ok_ite)

theorem saveList_ok {cq : List Instr} {s : State} (d : Nat) (h : Ok cq s) :
    Ok cq (State.saveList s d) := by
  unfold State.saveList
  repeat' first
    | (with_reducible first | assumption | rfl | intro _ | apply modDom_ok)

theorem noteSaved_ok {cq : List Instr} {s : State} (h : Ok cq s) :
    Ok cq (State.noteSaved s) := by
  unfold State.noteSaved
  repeat' first
    | (with_reducible first
        | assumption | apply ok_foldl | apply ok_foldl_fst | rfl | intro _ | apply set_ok)

theorem startPending_ok {cq : List Instr} {s : State} (d : Nat) (h : Ok cq s) :
    Ok cq (State.startPending s d) := by
  unfold State.startPending
  repeat' first
    | (with_reducible first
        | assumption | rfl | intro _ | apply emptyPending_ok | apply markRun_ok | apply requestDomain_ok
        | apply requestDropped_ok | apply ok_ite)

theorem mifLeft_ok {cq : List Instr} {s : State} (d : Nat) (h : Ok cq s) :
    Ok cq (State.mifLeft s d) := by
  unfold State.mifLeft
  repeat' first
    | (with_reducible first
        | assumption | rfl | intro _ | apply ok_ite | apply ok_ite_fst)
    | split | fail_if_no_progress ((with_reducible apply mk_ok) <;> (try with_reducible rfl))

theorem keepInts_ok {cq : List Instr} {s : State} (d : Nat) (h : Ok cq s) :
    Ok cq (State.keepInts s d) := by
  unfold State.keepInts
  repeat' first
    | (with_reducible first
        | assumption | rfl | intro _ | apply modCan_ok | apply ok_ite | apply ok_ite_fst)
    | split | fail_if_no_progress ((with_reducible apply mk_ok) <;> (try with_reducible rfl)) | dsimp only
    | (simp; done)

theorem finishEntry_ok {cq : List Instr} {s : State} (d : Nat) (h : Ok cq s) :
    Ok cq (State.finishEntry s d) := by
  unfold State.finishEntry
  repeat' first
    | (with_reducible first
        | assumption | rfl | intro _ | apply count_ok | apply domainEvent_ok | apply keepInts_ok
        | apply mifLeft_ok | apply noteSaved_ok | apply resetRegs_ok | apply saveList_ok | apply set_ok
        | apply ok_ite)

theorem renewWaiting_ok {cq : List Instr} {s : State} (d : Nat) (h : Ok cq s) :
    Ok cq (State.renewWaiting s d) := by
  unfold State.renewWaiting
  repeat' first
    | (with_reducible first
        | assumption | apply ok_foldl | apply ok_foldl_fst | rfl | intro _ | apply beginStep_ok | apply ok_ite
        | apply ok_ite_fst)
    | split | fail_if_no_progress ((with_reducible apply mk_ok) <;> (try with_reducible rfl)) | dsimp only
    | (simp; done)

theorem finishOn_ok {cq : List Instr} {s : State} (d : Nat) (sealOk : Bool) (h : Ok cq s) :
    Ok cq (State.finishOn s d sealOk) := by
  unfold State.finishOn
  repeat' first
    | (with_reducible first
        | assumption | rfl | intro _ | apply count_ok | apply domainEvent_ok | apply modDom_ok
        | apply noteSaved_ok | apply renewWaiting_ok | apply resetRegs_ok | apply set_ok | apply ok_ite)

theorem forceOn_ok {cq : List Instr} {s : State} (d : Nat) (h : Ok cq s) :
    Ok cq (State.forceOn s d) := by
  unfold State.forceOn
  repeat' first
    | (with_reducible first
        | assumption | rfl | intro _ | apply finishOn_ok | apply startPending_ok | apply startTransition_ok
        | apply ok_ite)

theorem fenceDomain_ok {cq : List Instr} {s : State} (d : Nat) (h : Ok cq s) :
    Ok cq (State.fenceDomain s d) := by
  unfold State.fenceDomain
  repeat' first
    | (with_reducible first
        | assumption | rfl | intro _ | apply emptyPending_ok | apply keepInts_ok | apply mifLeft_ok
        | apply modDom_ok | apply requestDropped_ok | apply resetRegs_ok | apply set_ok | apply ok_ite)

theorem unfenceDomain_ok {cq : List Instr} {s : State} (d : Nat) (h : Ok cq s) :
    Ok cq (State.unfenceDomain s d) := by
  unfold State.unfenceDomain
  repeat' first
    | (with_reducible first | assumption | rfl | intro _ | apply set_ok)

theorem touch_ok {cq : List Instr} {s : State} (d : Nat) (h : Ok cq s) :
    Ok cq (State.touch s d) := by
  unfold State.touch
  repeat' first
    | (with_reducible first
        | assumption | rfl | intro _ | apply modDom_ok | apply set_ok | apply ok_ite | apply ok_ite_fst)
    | split | fail_if_no_progress ((with_reducible apply mk_ok) <;> (try with_reducible rfl)) | dsimp only
    | (simp; done)

theorem wake_ok {cq : List Instr} {s : State} (bitNo : Nat) (ds : List Nat) (h : Ok cq s) :
    Ok cq (State.wake s bitNo ds) := by
  unfold State.wake
  repeat' first
    | (with_reducible first
        | assumption | rfl | intro _ | apply count_ok | apply requestOn_ok | apply setBit_ok | apply touch_ok
        | apply ok_ite)

theorem wakeFor_ok {cq : List Instr} {s : State} (ds : List Nat) (cause : Nat) (h : Ok cq s) :
    Ok cq (State.wakeFor s ds cause).1 := by
  unfold State.wakeFor
  repeat' first
    | (with_reducible first
        | assumption | apply ok_foldl | apply ok_foldl_fst | rfl | intro _ | apply requestOn_ok | apply touch_ok
        | apply ok_ite | apply ok_ite_fst)

theorem wakeBy_ok {cq : List Instr} {s : State} (bitNo : Nat) (ds : List Nat) (h : Ok cq s) :
    Ok cq (State.wakeBy s bitNo ds).1 := by
  unfold State.wakeBy
  repeat' first
    | (with_reducible first
        | assumption | rfl | intro _ | apply wakeFor_ok | apply ok_ite | apply ok_ite_fst)
    | split | fail_if_no_progress ((with_reducible apply mk_ok) <;> (try with_reducible rfl)) | dsimp only
    | (simp; done)

end Sys2Proof.Laws
end

