-- ==== Sys2Proof/Laws/OkRecords.lean ====
section
/-! SUPPORT. The operations of Machine/Records.lean keep a sound state sound and the queue as it is. -/

namespace Sys2Proof.Laws

open Sys2Proof.Machine

theorem modCtx_ok {cq : List Instr} {s : State} (n : Nat) (f : Ctx → Ctx) (h : Ok cq s) :
    Ok cq (State.modCtx s n f) := by
  unfold State.modCtx
  repeat' first
    | (with_reducible first
        | assumption | rfl | intro _ | apply ok_ite | apply ok_ite_fst)
    | split | fail_if_no_progress ((with_reducible apply mk_ok) <;> (try with_reducible rfl))

theorem commitCtx_ok {cq : List Instr} {s : State} (n : Nat) (h : Ok cq s) :
    Ok cq (State.commitCtx s n) := by
  unfold State.commitCtx
  repeat' first
    | (with_reducible first
        | assumption | rfl | intro _ | apply ok_ite | apply ok_ite_fst)
    | split | fail_if_no_progress ((with_reducible apply mk_ok) <;> (try with_reducible rfl))

theorem setFree_ok {cq : List Instr} {s : State} (v : Nat) (h : Ok cq s) :
    Ok cq (State.setFree s v) := by
  unfold State.setFree
  repeat' first
    | (with_reducible first | assumption | rfl | intro _ | apply set_ok)

theorem allocCtx_ok {cq : List Instr} {s : State} (ep0 : Bool) (reserved : Bool) (mk : Nat → Ctx) (h : Ok cq s) :
    Ok cq (State.allocCtx s ep0 reserved mk).1 := by
  unfold State.allocCtx
  repeat' first
    | (with_reducible first
        | assumption | rfl | intro _ | apply setFree_ok | apply ok_ite | apply ok_ite_fst)
    | split | fail_if_no_progress ((with_reducible apply mk_ok) <;> (try with_reducible rfl))

theorem notePages_ok {cq : List Instr} {s : State} (h : Ok cq s) :
    Ok cq (State.notePages s) := by
  unfold State.notePages
  repeat' first
    | (with_reducible first | assumption | rfl | intro _ | apply set_ok)

theorem numberRec_ok {cq : List Instr} {s : State} (n : Nat) (r : WRec) (h : Ok cq s) :
    Ok cq (State.numberRec s n r) := by
  unfold State.numberRec
  repeat' first
    | (with_reducible first
        | assumption | rfl | intro _ | apply modCtx_ok | apply notePages_ok)

theorem formAt_ok {cq : List Instr} {s : State} (n : Nat) (typ : Nat) (flags : Nat) (status : Nat) (data : List Nat) (stamp : Nat) (h : Ok cq s) :
    Ok cq (State.formAt s n typ flags status data stamp) := by
  unfold State.formAt
  repeat' first
    | (with_reducible first
        | assumption | rfl | intro _ | apply flagWake_ok | apply modCtx_ok | apply numberRec_ok | apply wake_ok
        | apply ok_ite | apply ok_ite_fst)
    | split

theorem formRec_ok {cq : List Instr} {s : State} (n : Nat) (typ : Nat) (flags : Nat) (status : Nat) (data : List Nat) (h : Ok cq s) :
    Ok cq (State.formRec s n typ flags status data) := by
  unfold State.formRec
  repeat' first
    | (with_reducible first | assumption | rfl | intro _ | apply formAt_ok)

theorem laneMoved_ok {cq : List Instr} {s : State} (n : Nat) (h : Ok cq s) :
    Ok cq (State.laneMoved s n) := by
  unfold State.laneMoved
  repeat' first
    | (with_reducible first
        | assumption | rfl | intro _ | apply answer_ok | apply ok_ite | apply ok_ite_fst)
    | split | fail_if_no_progress ((with_reducible apply mk_ok) <;> (try with_reducible rfl)) | dsimp only
    | (simp; done)

theorem formWaiting_ok {cq : List Instr} (x1 : Nat) (x2 : Nat) {x3 : State} (hx3 : Ok cq x3) :
    Ok cq (State.formWaiting x1 x2 x3) := by
  induction x1 generalizing x3 with
  | zero => unfold State.formWaiting; assumption
  | succ n ih =>
    unfold State.formWaiting
    repeat' first
      | (with_reducible first
          | assumption | apply ih | rfl | intro _ | apply laneMoved_ok | apply modCtx_ok | apply numberRec_ok
          | apply ok_ite | apply ok_ite_fst)
      | split

theorem formEventRec_ok {cq : List Instr} {s : State} (n : Nat) (code : Nat) (data : List Nat) (h : Ok cq s) :
    Ok cq (State.formEventRec s n code data) := by
  unfold State.formEventRec
  repeat' first
    | (with_reducible first | assumption | rfl | intro _ | apply formRec_ok)

theorem noteXfer_ok {cq : List Instr} {s : State} (c : Ctx) (bytes : Nat) (h : Ok cq s) :
    Ok cq (State.noteXfer s c bytes) := by
  unfold State.noteXfer
  repeat' first
    | (with_reducible first
        | assumption | rfl | intro _ | apply count_ok | apply modCtx_ok | apply ok_ite | apply ok_ite_fst)
    | split

theorem completionAt_ok {cq : List Instr} {s : State} (n : Nat) (status : Nat) (bytes : Nat) (stamp : Nat) (h : Ok cq s) :
    Ok cq (State.completionAt s n status bytes stamp) := by
  unfold State.completionAt
  repeat' first
    | (with_reducible first
        | assumption | rfl | intro _ | apply count_ok | apply formAt_ok | apply modCtx_ok | apply noteXfer_ok
        | apply ok_ite | apply ok_ite_fst)
    | split

theorem completion_ok {cq : List Instr} {s : State} (n : Nat) (status : Nat) (bytes : Nat) (h : Ok cq s) :
    Ok cq (State.completion s n status bytes) := by
  unfold State.completion
  repeat' first
    | (with_reducible first | assumption | rfl | intro _ | apply completionAt_ok)

theorem stage_ok {cq : List Instr} {s : State} (lane : Nat) (r : WRec) (h : Ok cq s) :
    Ok cq (State.stage s lane r) := by
  unfold State.stage
  repeat' first
    | (with_reducible first | assumption | rfl | intro _ | apply modLane_ok)

theorem stageLater_ok {cq : List Instr} {s : State} (c : Ctx) (h : Ok cq s) :
    Ok cq (State.stageLater s c) := by
  unfold State.stageLater
  repeat' first
    | (with_reducible first
        | assumption | rfl | intro _ | apply modLane_ok | apply ok_ite | apply ok_ite_fst)
    | split | fail_if_no_progress ((with_reducible apply mk_ok) <;> (try with_reducible rfl)) | dsimp only
    | (simp; done)

theorem stageAck_ok {cq : List Instr} {s : State} (c : Ctx) (burst : Nat) (bcount : Nat) (h : Ok cq s) :
    Ok cq (State.stageAck s c burst bcount) := by
  unfold State.stageAck
  repeat' first
    | (with_reducible first
        | assumption | rfl | intro _ | apply stageLater_ok | apply stage_ok | apply ok_ite)

theorem stageCredit_ok {cq : List Instr} {s : State} (n : Nat) (h : Ok cq s) :
    Ok cq (State.stageCredit s n) := by
  unfold State.stageCredit
  repeat' first
    | (with_reducible first
        | assumption | rfl | intro _ | apply modCtx_ok | apply stageLater_ok | apply stage_ok | apply ok_ite
        | apply ok_ite_fst)
    | split

theorem grant_ok {cq : List Instr} {s : State} (n : Nat) (h : Ok cq s) :
    Ok cq (State.grant s n) := by
  unfold State.grant
  repeat' first
    | (with_reducible first
        | assumption | rfl | intro _ | apply modCtx_ok | apply notePages_ok | apply stageCredit_ok | apply ok_ite
        | apply ok_ite_fst)
    | split | fail_if_no_progress ((with_reducible apply mk_ok) <;> (try with_reducible rfl)) | dsimp only

theorem grantAll_ok {cq : List Instr} {s : State} (h : Ok cq s) :
    Ok cq (State.grantAll s) := by
  unfold State.grantAll
  repeat' first
    | (with_reducible first
        | assumption | apply ok_foldl | apply ok_foldl_fst | rfl | intro _ | apply grant_ok)

theorem refuseRec_ok {cq : List Instr} {s : State} (lane : Nat) (r : WRec) (code : Nat) (h : Ok cq s) :
    Ok cq (State.refuseRec s lane r code) := by
  unfold State.refuseRec
  repeat' first
    | (with_reducible first
        | assumption | rfl | intro _ | apply count_ok | apply loomEvent_ok | apply modLane_ok | apply stage_ok
        | apply ok_ite)

theorem recordDone_ok {cq : List Instr} {s : State} (n : Nat) (h : Ok cq s) :
    Ok cq (State.recordDone s n) := by
  unfold State.recordDone
  repeat' first
    | (with_reducible first
        | assumption | rfl | intro _ | apply grantAll_ok | apply grant_ok | apply modCtx_ok | apply notePages_ok
        | apply stageAck_ok | apply ok_ite | apply ok_ite_fst)
    | split

theorem recordsDone_ok {cq : List Instr} {s : State} (n : Nat) (x1 : Nat) (h : Ok cq s) :
    Ok cq (State.recordsDone s n x1) := by
  induction x1 generalizing s with
  | zero => unfold State.recordsDone; assumption
  | succ n ih =>
    unfold State.recordsDone
    repeat' first
      | (with_reducible first
          | assumption | apply ih | rfl | intro _ | apply recordDone_ok)

theorem settleStored_ok {cq : List Instr} {s : State} (n : Nat) (h : Ok cq s) :
    Ok cq (State.settleStored s n) := by
  unfold State.settleStored
  repeat' first
    | (with_reducible first
        | assumption | rfl | intro _ | apply modCtx_ok | apply recordsDone_ok | apply ok_ite | apply ok_ite_fst)
    | split

theorem flushPart_ok {cq : List Instr} {s : State} (n : Nat) (h : Ok cq s) :
    Ok cq (State.flushPart s n) := by
  unfold State.flushPart
  repeat' first
    | (with_reducible first
        | assumption | rfl | intro _ | apply formRec_ok | apply modCtx_ok | apply notePages_ok | apply ok_ite
        | apply ok_ite_fst)
    | split

theorem handleFenced_ok {cq : List Instr} {s : State} (c : Ctx) (h : Ok cq s) :
    Ok cq (State.handleFenced s c) := by
  unfold State.handleFenced
  repeat' first
    | (with_reducible first
        | assumption | rfl | intro _ | apply completion_ok | apply flushPart_ok | apply modCtx_ok
        | apply settleStored_ok | apply ok_ite | apply ok_ite_fst)
    | split | fail_if_no_progress ((with_reducible apply mk_ok) <;> (try with_reducible rfl)) | dsimp only
    | (simp; done)

theorem closeHandle_ok {cq : List Instr} {s : State} (n : Nat) (cause : Nat) (h : Ok cq s) :
    Ok cq (State.closeHandle s n cause) := by
  unfold State.closeHandle
  repeat' first
    | (with_reducible first
        | assumption | rfl | intro _ | apply completion_ok | apply flushPart_ok | apply formEventRec_ok
        | apply modCtx_ok | apply notePages_ok | apply set_ok | apply settleStored_ok | apply ok_ite
        | apply ok_ite_fst)
    | split | fail_if_no_progress ((with_reducible apply mk_ok) <;> (try with_reducible rfl)) | dsimp only
    | (simp; done)

theorem openHandle_ok {cq : List Instr} {s : State} (n : Nat) (h : Ok cq s) :
    Ok cq (State.openHandle s n) := by
  unfold State.openHandle
  repeat' first
    | (with_reducible first
        | assumption | rfl | intro _ | apply addTo_ok | apply commitCtx_ok | apply formEventRec_ok
        | apply modCtx_ok | apply notePages_ok | apply ok_ite | apply ok_ite_fst)
    | split | fail_if_no_progress ((with_reducible apply mk_ok) <;> (try with_reducible rfl))

theorem shutHandle_ok {cq : List Instr} {s : State} (n : Nat) (cause : Nat) (h : Ok cq s) :
    Ok cq (State.shutHandle s n cause) := by
  unfold State.shutHandle
  repeat' first
    | (with_reducible first
        | assumption | rfl | intro _ | apply closeHandle_ok | apply modCtx_ok | apply ok_ite | apply ok_ite_fst)
    | split

theorem releaseCtx_ok {cq : List Instr} {s : State} (n : Nat) (h : Ok cq s) :
    Ok cq (State.releaseCtx s n) := by
  unfold State.releaseCtx
  repeat' first
    | (with_reducible first
        | assumption | rfl | intro _ | apply commitCtx_ok | apply setFree_ok | apply ok_ite | apply ok_ite_fst)
    | split | fail_if_no_progress ((with_reducible apply mk_ok) <;> (try with_reducible rfl))

theorem dropContexts_ok {cq : List Instr} {s : State} (p : Ctx → Bool) (cause : Nat) (h : Ok cq s) :
    Ok cq (State.dropContexts s p cause) := by
  unfold State.dropContexts
  repeat' first
    | (with_reducible first
        | assumption | apply ok_foldl | apply ok_foldl_fst | rfl | intro _ | apply closeHandle_ok
        | apply releaseCtx_ok | apply ok_ite | apply ok_ite_fst)
    | split | fail_if_no_progress ((with_reducible apply mk_ok) <;> (try with_reducible rfl)) | dsimp only

theorem modDev_ok {cq : List Instr} {s : State} (port : Nat) (route : Nat) (f : Dev → Dev) (h : Ok cq s) :
    Ok cq (State.modDev s port route f) := by
  unfold State.modDev
  repeat' first
    | (with_reducible first
        | assumption | rfl | intro _ | apply ok_ite | apply ok_ite_fst)
    | split | fail_if_no_progress ((with_reducible apply mk_ok) <;> (try with_reducible rfl))

theorem dropDev_ok {cq : List Instr} {s : State} (port : Nat) (route : Nat) (h : Ok cq s) :
    Ok cq (State.dropDev s port route) := by
  unfold State.dropDev
  repeat' first
    | (with_reducible first
        | assumption | rfl | intro _ | apply ok_ite | apply ok_ite_fst)
    | split | fail_if_no_progress ((with_reducible apply mk_ok) <;> (try with_reducible rfl))

theorem noteWaiting_ok {cq : List Instr} {s : State} (h : Ok cq s) :
    Ok cq (State.noteWaiting s) := by
  unfold State.noteWaiting
  repeat' first
    | (with_reducible first | assumption | rfl | intro _ | apply set_ok)

theorem freeReserve_ok {cq : List Instr} {s : State} (d : Dev) (h : Ok cq s) :
    Ok cq (State.freeReserve s d) := by
  unfold State.freeReserve
  repeat' first
    | (with_reducible first
        | assumption | rfl | intro _ | apply modDev_ok | apply setFree_ok | apply ok_ite)

theorem endDev_ok {cq : List Instr} {s : State} (d : Dev) (cause : Nat) (h : Ok cq s) :
    Ok cq (State.endDev s d cause) := by
  unfold State.endDev
  repeat' first
    | (with_reducible first
        | assumption | rfl | intro _ | apply dropContexts_ok | apply dropDev_ok | apply freeReserve_ok
        | apply noteWaiting_ok | apply ok_ite)

theorem endTree_ok {cq : List Instr} {s : State} (port : Nat) (cause : Nat) (h : Ok cq s) :
    Ok cq (State.endTree s port cause) := by
  unfold State.endTree
  repeat' first
    | (with_reducible first
        | assumption | apply ok_foldl | apply ok_foldl_fst | rfl | intro _ | apply endDev_ok)

end Sys2Proof.Laws
end

