-- ==== Sys2Proof/Laws/OkPorts.lean ====
section
/-! SUPPORT. The operations of Machine/Ports.lean keep a sound state sound and the queue as it is. -/

namespace Sys2Proof.Laws

open Sys2Proof.Machine

theorem powerEvent_ok {cq : List Instr} {s : State} (n : Nat) (code : Nat) (h : Ok cq s) :
    Ok cq (State.powerEvent s n code) := by
  unfold State.powerEvent
  repeat' first
    | (with_reducible first
        | assumption | rfl | intro _ | apply postEvent_ok | apply setBit_ok | apply ok_ite)

theorem lifeEvent_ok {cq : List Instr} {s : State} (n : Nat) (code : Nat) (detail : List (Nat × Nat × Nat)) (h : Ok cq s) :
    Ok cq (State.lifeEvent s n code detail) := by
  unfold State.lifeEvent
  repeat' first
    | (with_reducible first
        | assumption | rfl | intro _ | apply postEvent_ok | apply setBit_ok | apply ok_ite)

theorem skeinEvent_ok {cq : List Instr} {s : State} (k : Nat) (code : Nat) (h : Ok cq s) :
    Ok cq (State.skeinEvent s k code) := by
  unfold State.skeinEvent
  repeat' first
    | (with_reducible first
        | assumption | rfl | intro _ | apply postEvent_ok | apply ok_ite)

theorem setAtt_ok {cq : List Instr} {s : State} (n : Nat) (a : Nat) (h : Ok cq s) :
    Ok cq (State.setAtt s n a) := by
  unfold State.setAtt
  repeat' first
    | (with_reducible first | assumption | rfl | intro _ | apply set_ok | apply ok_ite)

theorem beHeld_ok {cq : List Instr} {s : State} (k : Nat) (h : Ok cq s) :
    Ok cq (State.beHeld s k) := by
  unfold State.beHeld
  repeat' first
    | (with_reducible first
        | assumption | rfl | intro _ | apply modSkein_ok | apply set_ok | apply skeinEvent_ok | apply ok_ite)

theorem holdSkein_ok {cq : List Instr} {s : State} (k : Nat) (h : Ok cq s) :
    Ok cq (State.holdSkein s k) := by
  unfold State.holdSkein
  repeat' first
    | (with_reducible first
        | assumption | rfl | intro _ | apply beHeld_ok | apply modSkein_ok)

theorem loseLink_ok {cq : List Instr} {s : State} (k : Nat) (h : Ok cq s) :
    Ok cq (State.loseLink s k) := by
  unfold State.loseLink
  repeat' first
    | (with_reducible first
        | assumption | rfl | intro _ | apply beHeld_ok | apply modSkein_ok)

theorem duePass_ok {cq : List Instr} {s : State} (k : Nat) (h : Ok cq s) :
    Ok cq (State.duePass s k) := by
  unfold State.duePass
  repeat' first
    | (with_reducible first | assumption | rfl | intro _ | apply modSkein_ok)

theorem leaveHold_ok {cq : List Instr} {s : State} (k : Nat) (h : Ok cq s) :
    Ok cq (State.leaveHold s k) := by
  unfold State.leaveHold
  repeat' first
    | (with_reducible first
        | assumption | rfl | intro _ | apply duePass_ok | apply modSkein_ok | apply set_ok | apply skeinEvent_ok
        | apply ok_ite)

theorem linkTrained_ok {cq : List Instr} {s : State} (k : Nat) (h : Ok cq s) :
    Ok cq (State.linkTrained s k) := by
  unfold State.linkTrained
  repeat' first
    | (with_reducible first
        | assumption | rfl | intro _ | apply modSkein_ok | apply ok_ite)

theorem hubNote_ok {cq : List Instr} {s : State} (n : Nat) (h : Ok cq s) :
    Ok cq (State.hubNote s n) := by
  unfold State.hubNote
  repeat' first
    | (with_reducible first | assumption | rfl | intro _ | apply setB_ok)

theorem hubChange_ok {cq : List Instr} {s : State} (n : Nat) (i : Nat) (h : Ok cq s) :
    Ok cq (State.hubChange s n i) := by
  unfold State.hubChange
  repeat' first
    | (with_reducible first | assumption | rfl | intro _ | apply modPort_ok)

theorem noteOver_ok {cq : List Instr} {s : State} (n : Nat) (f : State → State) (h : Ok cq s) (hf : ∀ s, Ok cq s → Ok cq (f s)) :
    Ok cq (State.noteOver s n f) := by
  unfold State.noteOver
  repeat' first
    | (with_reducible first
        | assumption | apply hf | rfl | intro _ | apply hubChange_ok | apply ok_ite)

theorem ttDrop_ok {cq : List Instr} {s : State} (n : Nat) (hubPort : Nat) (keep : Split → Bool) (pipe : Bool) (h : Ok cq s) :
    Ok cq (State.ttDrop s n hubPort keep pipe) := by
  unfold State.ttDrop
  repeat' first
    | (with_reducible first
        | assumption | rfl | intro _ | apply count_ok | apply hubEvent_ok | apply modPort_ok | apply ok_ite)

theorem ttClear_ok {cq : List Instr} {s : State} (n : Nat) (h : Ok cq s) :
    Ok cq (State.ttClear s n) := by
  unfold State.ttClear
  repeat' first
    | (with_reducible first | assumption | rfl | intro _ | apply ttDrop_ok)

theorem resumePort_ok {cq : List Instr} {s : State} (n : Nat) (h : Ok cq s) :
    Ok cq (State.resumePort s n) := by
  unfold State.resumePort
  repeat' first
    | (with_reducible first
        | assumption | rfl | intro _ | apply hubChange_ok | apply hubNote_ok | apply modPort_ok | apply ok_ite)

theorem driveWake_ok {cq : List Instr} {s : State} (h : Ok cq s) :
    Ok cq (State.driveWake s) := by
  unfold State.driveWake
  repeat' first
    | (with_reducible first
        | assumption | rfl | intro _ | apply hubEvent_ok | apply loomNote_ok | apply wakeBy_ok | apply ok_ite
        | apply ok_ite_fst)
    | split | fail_if_no_progress ((with_reducible apply mk_ok) <;> (try with_reducible rfl))

theorem hubWake_ok {cq : List Instr} {s : State} (hubPort : Nat) (h : Ok cq s) :
    Ok cq (State.hubWake s hubPort) := by
  unfold State.hubWake
  repeat' first
    | (with_reducible first
        | assumption | rfl | intro _ | apply driveWake_ok | apply hubEvent_ok | apply ok_ite | apply ok_ite_fst)
    | split | fail_if_no_progress ((with_reducible apply mk_ok) <;> (try with_reducible rfl))

theorem reconnect_ok {cq : List Instr} {s : State} (n : Nat) (f : PortH → PortH) (h : Ok cq s) :
    Ok cq (State.reconnect s n f) := by
  unfold State.reconnect
  repeat' first
    | (with_reducible first
        | assumption | rfl | intro _ | apply hubChange_ok | apply hubNote_ok | apply hubWake_ok | apply modPort_ok
        | apply ttClear_ok | apply ok_ite)

theorem enumFail_ok {cq : List Instr} {s : State} (n : Nat) (status : Nat) (h : Ok cq s) :
    Ok cq (State.enumFail s n status) := by
  unfold State.enumFail
  repeat' first
    | (with_reducible first
        | assumption | rfl | intro _ | apply lifeEvent_ok | apply modPort_ok | apply setAtt_ok)

theorem beginAttempt_ok {cq : List Instr} {s : State} (d : Dev) (h : Ok cq s) :
    Ok cq (State.beginAttempt s d) := by
  unfold State.beginAttempt
  repeat' first
    | (with_reducible first
        | assumption | rfl | intro _ | apply allocCtx_ok | apply lifeEvent_ok | apply modDev_ok
        | apply noteWaiting_ok | apply reset_ok | apply setAtt_ok | apply set_ok | apply stage_ok | apply ok_ite
        | apply ok_ite_fst)
    | split | fail_if_no_progress ((with_reducible apply mk_ok) <;> (try with_reducible rfl)) | dsimp only

theorem firstAttempt_ok {cq : List Instr} {s : State} (n : Nat) (h : Ok cq s) :
    Ok cq (State.firstAttempt s n) := by
  unfold State.firstAttempt
  repeat' first
    | (with_reducible first
        | assumption | rfl | intro _ | apply beginAttempt_ok | apply endTree_ok | apply enumFail_ok | apply set_ok
        | apply ok_ite | apply ok_ite_fst)
    | split | fail_if_no_progress ((with_reducible apply mk_ok) <;> (try with_reducible rfl)) | dsimp only

theorem startEnum_ok {cq : List Instr} {s : State} (n : Nat) (h : Ok cq s) :
    Ok cq (State.startEnum s n) := by
  unfold State.startEnum
  repeat' first
    | (with_reducible first
        | assumption | rfl | intro _ | apply firstAttempt_ok | apply modPort_ok | apply setAtt_ok | apply set_ok
        | apply ok_ite)

theorem serveWaiter_ok {cq : List Instr} {s : State} (d : Dev) (h : Ok cq s) :
    Ok cq (State.serveWaiter s d) := by
  unfold State.serveWaiter
  repeat' first
    | (with_reducible first
        | assumption | rfl | intro _ | apply beginAttempt_ok | apply endTree_ok | apply enumFail_ok
        | apply modDev_ok | apply noteWaiting_ok | apply setAtt_ok | apply setFree_ok | apply ok_ite)

theorem serveWaiters_ok {cq : List Instr} (x1 : Nat) {x2 : State} (hx2 : Ok cq x2) :
    Ok cq (State.serveWaiters x1 x2) := by
  induction x1 generalizing x2 with
  | zero => unfold State.serveWaiters; assumption
  | succ n ih =>
    unfold State.serveWaiters
    repeat' first
      | (with_reducible first
          | assumption | apply ih | rfl | intro _ | apply serveWaiter_ok | apply ok_ite | apply ok_ite_fst)
      | split

theorem poolService_ok {cq : List Instr} {s : State} (h : Ok cq s) :
    Ok cq (State.poolService s) := by
  unfold State.poolService
  repeat' first
    | (with_reducible first
        | assumption | rfl | intro _ | apply serveWaiters_ok | apply ok_ite)

theorem startDetach_ok {cq : List Instr} {s : State} (n : Nat) (cause : Nat) (h : Ok cq s) :
    Ok cq (State.startDetach s n cause) := by
  unfold State.startDetach
  repeat' first
    | (with_reducible first
        | assumption | rfl | intro _ | apply endTree_ok | apply modPort_ok | apply reconnect_ok | apply ttClear_ok
        | apply ok_ite)

theorem startQualify_ok {cq : List Instr} {s : State} (n : Nat) (h : Ok cq s) :
    Ok cq (State.startQualify s n) := by
  unfold State.startQualify
  repeat' first
    | (with_reducible first
        | assumption | rfl | intro _ | apply modPort_ok | apply setAtt_ok | apply ok_ite | apply ok_ite_fst)
    | split | fail_if_no_progress ((with_reducible apply mk_ok) <;> (try with_reducible rfl)) | dsimp only
    | (simp; done)

theorem setRp_ok {cq : List Instr} {s : State} (n : Nat) (code : Nat) (h : Ok cq s) :
    Ok cq (State.setRp s n code) := by
  unfold State.setRp
  repeat' first
    | (with_reducible first
        | assumption | rfl | intro _ | apply modPort_ok | apply set_ok | apply ok_ite)

theorem switchOff_ok {cq : List Instr} {s : State} (n : Nat) (h : Ok cq s) :
    Ok cq (State.switchOff s n) := by
  unfold State.switchOff
  repeat' first
    | (with_reducible first
        | assumption | rfl | intro _ | apply modPort_ok | apply set_ok)

theorem noteAlloc_ok {cq : List Instr} {s : State} (k : Nat) (h : Ok cq s) :
    Ok cq (State.noteAlloc s k) := by
  unfold State.noteAlloc
  repeat' first
    | (with_reducible first
        | assumption | rfl | intro _ | apply set_ok | apply ok_ite | apply ok_ite_fst)
    | split | fail_if_no_progress ((with_reducible apply mk_ok) <;> (try with_reducible rfl)) | dsimp only
    | (simp; done)

theorem raiseDetach_ok {cq : List Instr} {s : State} (n : Nat) (h : Ok cq s) :
    Ok cq (State.raiseDetach s n) := by
  unfold State.raiseDetach
  repeat' first
    | (with_reducible first
        | assumption | rfl | intro _ | apply duePass_ok | apply grant_ok | apply lifeEvent_ok | apply modPort_ok
        | apply noteAlloc_ok | apply setAtt_ok | apply setRp_ok | apply set_ok | apply ok_ite)

theorem powerMoved_ok {cq : List Instr} {s : State} (n : Nat) (old : Nat) (h : Ok cq s) :
    Ok cq (State.powerMoved s n old) := by
  unfold State.powerMoved
  repeat' first
    | (with_reducible first
        | assumption | rfl | intro _ | apply lifeEvent_ok | apply raiseDetach_ok | apply setAtt_ok
        | apply startDetach_ok | apply startQualify_ok | apply ok_ite)

theorem toPower_ok {cq : List Instr} {s : State} (n : Nat) (p : Nat) (h : Ok cq s) :
    Ok cq (State.toPower s n p) := by
  unfold State.toPower
  repeat' first
    | (with_reducible first
        | assumption | rfl | intro _ | apply modPort_ok | apply noteOver_ok | apply powerMoved_ok | apply set_ok
        | apply ok_ite)

theorem evalPower_ok {cq : List Instr} {s : State} (n : Nat) (h : Ok cq s) :
    Ok cq (State.evalPower s n) := by
  unfold State.evalPower
  repeat' first
    | (with_reducible first
        | assumption | rfl | intro _ | apply modPort_ok | apply switchOff_ok | apply toPower_ok | apply ok_ite)

theorem feedsMoved_ok {cq : List Instr} {s : State} (k : Nat) (h : Ok cq s) :
    Ok cq (State.feedsMoved s k) := by
  unfold State.feedsMoved
  repeat' first
    | (with_reducible first
        | assumption | apply ok_foldl | apply ok_foldl_fst | rfl | intro _ | apply toPower_ok | apply ok_ite)

theorem runDeferred_ok {cq : List Instr} {s : State} (n : Nat) (h : Ok cq s) :
    Ok cq (State.runDeferred s n) := by
  unfold State.runDeferred
  repeat' first
    | (with_reducible first
        | assumption | rfl | intro _ | apply markRun_ok | apply modPort_ok | apply set_ok)

theorem reachOff_ok {cq : List Instr} {s : State} (n : Nat) (h : Ok cq s) :
    Ok cq (State.reachOff s n) := by
  unfold State.reachOff
  repeat' first
    | (with_reducible first
        | assumption | rfl | intro _ | apply evalPower_ok | apply modPort_ok | apply noteOver_ok
        | apply runDeferred_ok | apply set_ok)

theorem vbusClear_ok {cq : List Instr} {s : State} (n : Nat) (h : Ok cq s) :
    Ok cq (State.vbusClear s n) := by
  unfold State.vbusClear
  repeat' first
    | (with_reducible first
        | assumption | rfl | intro _ | apply displaceOpt_ok | apply evalPower_ok | apply modPort_ok | apply set_ok
        | apply ok_ite)

theorem portCauses_ok {cq : List Instr} {s : State} (n : Nat) (bits : List Nat) (h : Ok cq s) :
    Ok cq (State.portCauses s n bits) := by
  unfold State.portCauses
  repeat' first
    | (with_reducible first
        | assumption | apply ok_foldl | apply ok_foldl_fst | rfl | intro _ | apply count_ok | apply modPort_ok
        | apply powerEvent_ok | apply ok_ite)

theorem portTrip_ok {cq : List Instr} {s : State} (n : Nat) (bits : List Nat) (h : Ok cq s) :
    Ok cq (State.portTrip s n bits) := by
  unfold State.portTrip
  repeat' first
    | (with_reducible first
        | assumption | rfl | intro _ | apply hubChange_ok | apply hubWake_ok | apply modPort_ok
        | apply portCauses_ok | apply powerEvent_ok | apply set_ok | apply switchOff_ok | apply toPower_ok
        | apply ok_ite)

theorem decideRp_ok {cq : List Instr} {s : State} (n : Nat) (code : Nat) (h : Ok cq s) :
    Ok cq (State.decideRp s n code) := by
  unfold State.decideRp
  repeat' first
    | (with_reducible first
        | assumption | rfl | intro _ | apply modPort_ok | apply ok_ite)

theorem startShedHold_ok {cq : List Instr} {s : State} (k : Nat) (h : Ok cq s) :
    Ok cq (State.startShedHold s k) := by
  unfold State.startShedHold
  repeat' first
    | (with_reducible first
        | assumption | rfl | intro _ | apply modSkein_ok | apply set_ok)

theorem afterHold_ok {cq : List Instr} {s : State} (n : Nat) (h : Ok cq s) :
    Ok cq (State.afterHold s n) := by
  unfold State.afterHold
  repeat' first
    | (with_reducible first
        | assumption | rfl | intro _ | apply startQualify_ok | apply ok_ite)

theorem grantPort_ok {cq : List Instr} {s : State} (n : Nat) (left : Int) (h : Ok cq s) :
    Ok cq (State.grantPort s n left).1 := by
  unfold State.grantPort
  repeat' first
    | (with_reducible first
        | assumption | rfl | intro _ | apply decideRp_ok | apply grant_ok | apply modPort_ok | apply powerEvent_ok
        | apply setB_ok | apply set_ok | apply ok_ite)

theorem allocationPass_ok {cq : List Instr} {s : State} (k : Nat) (h : Ok cq s) :
    Ok cq (State.allocationPass s k) := by
  unfold State.allocationPass
  repeat' first
    | (with_reducible first
        | assumption | apply ok_foldl | apply ok_foldl_fst | rfl | intro _ | apply afterHold_ok
        | apply evalPower_ok | apply grantPort_ok | apply grant_ok | apply modSkein_ok | apply noteAlloc_ok
        | apply set_ok | apply startShedHold_ok | apply ok_ite)

theorem budgetMoved_ok {cq : List Instr} {s : State} (k : Nat) (h : Ok cq s) :
    Ok cq (State.budgetMoved s k) := by
  unfold State.budgetMoved
  repeat' first
    | (with_reducible first
        | assumption | rfl | intro _ | apply duePass_ok | apply set_ok | apply ok_ite)

theorem showOverride_ok {cq : List Instr} {s : State} (n : Nat) (h : Ok cq s) :
    Ok cq (State.showOverride s n) := by
  unfold State.showOverride
  repeat' first
    | (with_reducible first
        | assumption | rfl | intro _ | apply lifeEvent_ok | apply setB_ok | apply ok_ite)

theorem noteShuttle_ok {cq : List Instr} {s : State} (j : Nat) (h : Ok cq s) :
    Ok cq (State.noteShuttle s j) := by
  unfold State.noteShuttle
  repeat' first
    | (with_reducible first | assumption | rfl | intro _ | apply set_ok | apply ok_ite)

theorem noteServing_ok {cq : List Instr} {s : State} (n : Nat) (h : Ok cq s) :
    Ok cq (State.noteServing s n) := by
  unfold State.noteServing
  repeat' first
    | (with_reducible first
        | assumption | rfl | intro _ | apply noteShuttle_ok | apply ok_ite | apply ok_ite_fst)
    | split

theorem cycleVbus_ok {cq : List Instr} {s : State} (n : Nat) (h : Ok cq s) :
    Ok cq (State.cycleVbus s n) := by
  unfold State.cycleVbus
  repeat' first
    | (with_reducible first
        | assumption | rfl | intro _ | apply evalPower_ok | apply modPort_ok | apply reachOff_ok | apply ok_ite)

theorem enterMode_ok {cq : List Instr} {s : State} (n : Nat) (m : Nat) (override : Bool) (h : Ok cq s) :
    Ok cq (State.enterMode s n m override) := by
  unfold State.enterMode
  repeat' first
    | (with_reducible first
        | assumption | rfl | intro _ | apply cycleVbus_ok | apply evalPower_ok | apply noteOver_ok
        | apply noteServing_ok | apply raiseDetach_ok | apply setAtt_ok | apply setRp_ok | apply set_ok
        | apply settleDomains_ok | apply startDetach_ok | apply startQualify_ok | apply ok_ite)

theorem startMode_ok {cq : List Instr} {s : State} (n : Nat) (m : Nat) (h : Ok cq s) :
    Ok cq (State.startMode s n m) := by
  unfold State.startMode
  repeat' first
    | (with_reducible first
        | assumption | rfl | intro _ | apply enterMode_ok | apply modPort_ok | apply requestOn_ok | apply set_ok
        | apply showOverride_ok | apply ok_ite)

theorem settleRole_ok {cq : List Instr} {s : State} (n : Nat) (h : Ok cq s) :
    Ok cq (State.settleRole s n) := by
  unfold State.settleRole
  repeat' first
    | (with_reducible first | assumption | rfl | intro _ | apply modPort_ok)

theorem recompute_ok {cq : List Instr} {s : State} (n : Nat) (h : Ok cq s) :
    Ok cq (State.recompute s n) := by
  unfold State.recompute
  repeat' first
    | (with_reducible first
        | assumption | rfl | intro _ | apply settleRole_ok | apply showOverride_ok | apply startMode_ok
        | apply ok_ite)

theorem startChange_ok {cq : List Instr} {s : State} (n : Nat) (h : Ok cq s) :
    Ok cq (State.startChange s n) := by
  unfold State.startChange
  repeat' first
    | (with_reducible first
        | assumption | rfl | intro _ | apply set_ok | apply settleRole_ok | apply showOverride_ok
        | apply startMode_ok | apply ok_ite)

theorem finishMode_ok {cq : List Instr} {s : State} (n : Nat) (h : Ok cq s) :
    Ok cq (State.finishMode s n) := by
  unfold State.finishMode
  repeat' first
    | (with_reducible first
        | assumption | rfl | intro _ | apply lifeEvent_ok | apply markRun_ok | apply modPort_ok
        | apply recompute_ok | apply set_ok | apply startChange_ok | apply ok_ite)

theorem requestMode_ok {cq : List Instr} {s : State} (n : Nat) (m : Nat) (q : Option ReqId) (h : Ok cq s) :
    Ok cq (State.requestMode s n m q).1 := by
  unfold State.requestMode
  repeat' first
    | (with_reducible first
        | assumption | rfl | intro _ | apply displaceOpt_ok | apply modPort_ok | apply recompute_ok | apply set_ok
        | apply startChange_ok | apply ok_ite | apply ok_ite_fst)

theorem attach_ok {cq : List Instr} {s : State} (n : Nat) (det : Nat) (cc2 : Bool) (h : Ok cq s) :
    Ok cq (State.attach s n det cc2) := by
  unfold State.attach
  repeat' first
    | (with_reducible first
        | assumption | rfl | intro _ | apply count_ok | apply duePass_ok | apply lifeEvent_ok | apply modPort_ok
        | apply noteServing_ok | apply setAtt_ok | apply setB_ok | apply set_ok | apply settleDomains_ok
        | apply startQualify_ok | apply wake_ok | apply ok_ite)

theorem detach_ok {cq : List Instr} {s : State} (n : Nat) (h : Ok cq s) :
    Ok cq (State.detach s n) := by
  unfold State.detach
  repeat' first
    | (with_reducible first
        | assumption | rfl | intro _ | apply evalPower_ok | apply noteServing_ok | apply raiseDetach_ok
        | apply recompute_ok | apply set_ok | apply settleDomains_ok | apply startDetach_ok | apply ok_ite)

theorem noteTadpole_ok {cq : List Instr} {s : State} (n : Nat) (h : Ok cq s) :
    Ok cq (State.noteTadpole s n) := by
  unfold State.noteTadpole
  repeat' first
    | (with_reducible first | assumption | rfl | intro _ | apply set_ok)

theorem present_ok {cq : List Instr} {s : State} (n : Nat) (what : Nat) (h : Ok cq s) :
    Ok cq (State.present s n what) := by
  unfold State.present
  repeat' first
    | (with_reducible first
        | assumption | rfl | intro _ | apply lifeEvent_ok | apply noteTadpole_ok | apply setAtt_ok | apply set_ok)

end Sys2Proof.Laws
end

