-- ==== Sys2Proof/Laws/OkBus.lean ====
section
/-! SUPPORT. The operations of Machine/Bus.lean keep a sound state sound and the queue as it is. -/

namespace Sys2Proof.Laws

open Sys2Proof.Machine

theorem canInt_ok {cq : List Instr} {s : State} (c : Nat) (i : Nat) (h : Ok cq s) :
    Ok cq (State.canInt s c i) := by
  unfold State.canInt
  repeat' first
    | (with_reducible first | assumption | rfl | intro _ | apply setBit_ok)

theorem setTxb_ok {cq : List Instr} {s : State} (c : Nat) (b : Nat) (st : Nat) (h : Ok cq s) :
    Ok cq (State.setTxb s c b st) := by
  unfold State.setTxb
  repeat' first
    | (with_reducible first | assumption | rfl | intro _ | apply set_ok)

theorem syncFifo_ok {cq : List Instr} {s : State} (c : Nat) (h : Ok cq s) :
    Ok cq (State.syncFifo s c) := by
  unfold State.syncFifo
  repeat' first
    | (with_reducible first | assumption | rfl | intro _ | apply set_ok)

theorem leaveLone_ok {cq : List Instr} {s : State} (c : Nat) (h : Ok cq s) :
    Ok cq (State.leaveLone s c) := by
  unfold State.leaveLone
  repeat' first
    | (with_reducible first
        | assumption | apply ok_foldl | apply ok_foldl_fst | rfl | intro _ | apply setTxb_ok | apply set_ok)

theorem emptyCan_ok {cq : List Instr} {s : State} (c : Nat) (h : Ok cq s) :
    Ok cq (State.emptyCan s c) := by
  unfold State.emptyCan
  repeat' first
    | (with_reducible first
        | assumption | apply ok_foldl | apply ok_foldl_fst | rfl | intro _ | apply modCan_ok | apply setTxb_ok
        | apply set_ok | apply syncFifo_ok)

theorem enterInit_ok {cq : List Instr} {s : State} (c : Nat) (h : Ok cq s) :
    Ok cq (State.enterInit s c) := by
  unfold State.enterInit
  repeat' first
    | (with_reducible first
        | assumption | rfl | intro _ | apply emptyCan_ok | apply leaveLone_ok | apply set_ok | apply ok_ite)

theorem canInit_ok {cq : List Instr} {s : State} (c : Nat) (h : Ok cq s) :
    Ok cq (State.canInit s c) := by
  unfold State.canInit
  repeat' first
    | (with_reducible first
        | assumption | rfl | intro _ | apply enterInit_ok | apply modCan_ok | apply set_ok | apply ok_ite)

theorem noteEstate_ok {cq : List Instr} {s : State} (c : Nat) (h : Ok cq s) :
    Ok cq (State.noteEstate s c) := by
  unfold State.noteEstate
  repeat' first
    | (with_reducible first
        | assumption | rfl | intro _ | apply canInt_ok | apply set_ok | apply ok_ite)

theorem hsendOn_ok {cq : List Instr} {s : State} (bus : Nat) (typ : Nat) (prio : Nat) (dst : Nat) (seg : Nat) (src : Nat) (data : List Nat) (h : Ok cq s) :
    Ok cq (State.hsendOn s bus typ prio dst seg src data) := by
  unfold State.hsendOn
  repeat' first
    | (with_reducible first
        | assumption | rfl | intro _ | apply ok_ite | apply ok_ite_fst)
    | split | fail_if_no_progress ((with_reducible apply mk_ok) <;> (try with_reducible rfl))

theorem hsend_ok {cq : List Instr} {s : State} (typ : Nat) (prio : Nat) (dst : Nat) (data : List Nat) (h : Ok cq s) :
    Ok cq (State.hsend s typ prio dst data) := by
  unfold State.hsend
  repeat' first
    | (with_reducible first | assumption | rfl | intro _ | apply hsendOn_ok)

theorem hsendAll_ok {cq : List Instr} {s : State} (typ : Nat) (prio : Nat) (dst : Nat) (data : List Nat) (h : Ok cq s) :
    Ok cq (State.hsendAll s typ prio dst data) := by
  unfold State.hsendAll
  repeat' first
    | (with_reducible first
        | assumption | apply ok_foldl | apply ok_foldl_fst | rfl | intro _ | apply hsendOn_ok)

theorem hwithdraw_ok {cq : List Instr} {s : State} (typ : Nat) (h : Ok cq s) :
    Ok cq (State.hwithdraw s typ) := by
  unfold State.hwithdraw
  repeat' first
    | (with_reducible first
        | assumption | apply ok_foldl | apply ok_foldl_fst | rfl | intro _ | apply canInt_ok | apply modCan_ok
        | apply setTxb_ok | apply ok_ite | apply ok_ite_fst)
    | split | fail_if_no_progress ((with_reducible apply mk_ok) <;> (try with_reducible rfl))

theorem hierMode_ok {cq : List Instr} {s : State} (m : Nat) (h : Ok cq s) :
    Ok cq (State.hierMode s m) := by
  unfold State.hierMode
  repeat' first
    | (with_reducible first
        | assumption | apply ok_foldl | apply ok_foldl_fst | rfl | intro _ | apply set_ok)

theorem hierFilters_ok {cq : List Instr} {s : State} (c : Nat) (h : Ok cq s) :
    Ok cq (State.hierFilters s c) := by
  unfold State.hierFilters
  repeat' first
    | (with_reducible first
        | assumption | apply ok_foldl | apply ok_foldl_fst | rfl | intro _ | apply set_ok)

theorem freezeLoans_ok {cq : List Instr} {s : State} (h : Ok cq s) :
    Ok cq (State.freezeLoans s) := by
  unfold State.freezeLoans
  repeat' first
    | (with_reducible first
        | assumption | apply ok_foldl | apply ok_foldl_fst | rfl | intro _ | apply set_ok)

theorem startJoin_ok {cq : List Instr} {s : State} (h : Ok cq s) :
    Ok cq (State.startJoin s) := by
  unfold State.startJoin
  repeat' first
    | (with_reducible first
        | assumption | rfl | intro _ | apply hierMode_ok | apply ok_ite | apply ok_ite_fst)
    | split | fail_if_no_progress ((with_reducible apply mk_ok) <;> (try with_reducible rfl))

theorem enterHierarchy_ok {cq : List Instr} {s : State} (c : Nat) (h : Ok cq s) :
    Ok cq (State.enterHierarchy s c) := by
  unfold State.enterHierarchy
  repeat' first
    | (with_reducible first
        | assumption | rfl | intro _ | apply hierFilters_ok | apply set_ok | apply startJoin_ok | apply ok_ite
        | apply ok_ite_fst)
    | split | fail_if_no_progress ((with_reducible apply mk_ok) <;> (try with_reducible rfl)) | dsimp only

theorem leaveHierarchy_ok {cq : List Instr} {s : State} (h : Ok cq s) :
    Ok cq (State.leaveHierarchy s) := by
  unfold State.leaveHierarchy
  repeat' first
    | (with_reducible first
        | assumption | apply ok_foldl | apply ok_foldl_fst | rfl | intro _ | apply dropReady_ok
        | apply freezeLoans_ok | apply noteDiscard_ok | apply ok_ite | apply ok_ite_fst)
    | split | fail_if_no_progress ((with_reducible apply mk_ok) <;> (try with_reducible rfl))

theorem hsilence_ok {cq : List Instr} {s : State} (h : Ok cq s) :
    Ok cq (State.hsilence s) := by
  unfold State.hsilence
  repeat' first
    | (with_reducible first
        | assumption | apply ok_foldl | apply ok_foldl_fst | rfl | intro _ | apply canInt_ok | apply modCan_ok
        | apply setTxb_ok | apply ok_ite | apply ok_ite_fst)
    | split | fail_if_no_progress ((with_reducible apply mk_ok) <;> (try with_reducible rfl)) | dsimp only
    | (simp; done)

theorem becomeIsland_ok {cq : List Instr} {s : State} (raised : Bool) (h : Ok cq s) :
    Ok cq (State.becomeIsland s raised) := by
  unfold State.becomeIsland
  repeat' first
    | (with_reducible first
        | assumption | rfl | intro _ | apply freezeLoans_ok | apply hierEvent_ok | apply hsilence_ok
        | apply hwithdraw_ok | apply ok_ite | apply ok_ite_fst)
    | split | fail_if_no_progress ((with_reducible apply mk_ok) <;> (try with_reducible rfl))

theorem aloneNow_ok {cq : List Instr} {s : State} (h : Ok cq s) :
    Ok cq (State.aloneNow s) := by
  unfold State.aloneNow
  repeat' first
    | (with_reducible first
        | assumption | rfl | intro _ | apply becomeIsland_ok | apply ok_ite | apply ok_ite_fst)
    | split | fail_if_no_progress ((with_reducible apply mk_ok) <;> (try with_reducible rfl)) | dsimp only
    | (simp; done)

theorem hierSettle_ok {cq : List Instr} {s : State} (h : Ok cq s) :
    Ok cq (State.hierSettle s) := by
  unfold State.hierSettle
  repeat' first
    | (with_reducible first
        | assumption | rfl | intro _ | apply aloneNow_ok | apply leaveHierarchy_ok | apply ok_ite)

theorem takeBack_ok {cq : List Instr} {s : State} (c : Nat) (h : Ok cq s) :
    Ok cq (State.takeBack s c) := by
  unfold State.takeBack
  repeat' first
    | (with_reducible first
        | assumption | apply ok_foldl | apply ok_foldl_fst | rfl | intro _ | apply canInt_ok | apply setTxb_ok
        | apply ok_ite | apply ok_ite_fst)
    | split | fail_if_no_progress ((with_reducible apply mk_ok) <;> (try with_reducible rfl)) | dsimp only
    | (simp; done)

theorem onBus_ok {cq : List Instr} {s : State} (bus : Nat) (h : Ok cq s) :
    Ok cq (State.onBus s bus) := by
  unfold State.onBus
  repeat' first
    | (with_reducible first
        | assumption | rfl | intro _ | apply takeBack_ok | apply ok_ite | apply ok_ite_fst)
    | split | fail_if_no_progress ((with_reducible apply mk_ok) <;> (try with_reducible rfl)) | dsimp only
    | (simp; done)

theorem switchBus_ok {cq : List Instr} {s : State} (c : Nat) (h : Ok cq s) :
    Ok cq (State.switchBus s c) := by
  unfold State.switchBus
  repeat' first
    | (with_reducible first
        | assumption | rfl | intro _ | apply hierEvent_ok | apply onBus_ok | apply ok_ite | apply ok_ite_fst)
    | split | fail_if_no_progress ((with_reducible apply mk_ok) <;> (try with_reducible rfl))

theorem noteLone_ok {cq : List Instr} {s : State} (c : Nat) (h : Ok cq s) :
    Ok cq (State.noteLone s c) := by
  unfold State.noteLone
  repeat' first
    | (with_reducible first
        | assumption | rfl | intro _ | apply aloneNow_ok | apply switchBus_ok | apply ok_ite)

theorem followBus_ok {cq : List Instr} {s : State} (h : Ok cq s) :
    Ok cq (State.followBus s) := by
  unfold State.followBus
  repeat' first
    | (with_reducible first
        | assumption | rfl | intro _ | apply switchBus_ok | apply ok_ite | apply ok_ite_fst)
    | split | fail_if_no_progress ((with_reducible apply mk_ok) <;> (try with_reducible rfl)) | dsimp only
    | (simp; done)

theorem dropBus_ok {cq : List Instr} {s : State} (c : Nat) (h : Ok cq s) :
    Ok cq (State.dropBus s c) := by
  unfold State.dropBus
  repeat' first
    | (with_reducible first
        | assumption | rfl | intro _ | apply ok_ite | apply ok_ite_fst)
    | split | fail_if_no_progress ((with_reducible apply mk_ok) <;> (try with_reducible rfl)) | dsimp only
    | (simp; done)

theorem canFenced_ok {cq : List Instr} {s : State} (c : Nat) (h : Ok cq s) :
    Ok cq (State.canFenced s c) := by
  unfold State.canFenced
  repeat' first
    | (with_reducible first
        | assumption | rfl | intro _ | apply dropBus_ok | apply modCan_ok | apply switchBus_ok | apply syncFifo_ok)

theorem canLeftOn_ok {cq : List Instr} {s : State} (c : Nat) (h : Ok cq s) :
    Ok cq (State.canLeftOn s c) := by
  unfold State.canLeftOn
  repeat' first
    | (with_reducible first
        | assumption | rfl | intro _ | apply dropBus_ok | apply hierSettle_ok | apply modCan_ok
        | apply syncFifo_ok)

theorem canCameOn_ok {cq : List Instr} {s : State} (c : Nat) (h : Ok cq s) :
    Ok cq (State.canCameOn s c) := by
  unfold State.canCameOn
  repeat' first
    | (with_reducible first
        | assumption | rfl | intro _ | apply enterHierarchy_ok | apply setB_ok | apply set_ok | apply ok_ite)

theorem canUse_ok {cq : List Instr} {s : State} (c : Nat) (u : Nat) (h : Ok cq s) :
    Ok cq (State.canUse s c u) := by
  unfold State.canUse
  repeat' first
    | (with_reducible first | assumption | rfl | intro _ | apply modCan_ok)

theorem warmCan_ok {cq : List Instr} {s : State} (h : Ok cq s) :
    Ok cq (State.warmCan s) := by
  unfold State.warmCan
  repeat' first
    | (with_reducible first
        | assumption | apply ok_foldl | apply ok_foldl_fst | rfl | intro _ | apply canInit_ok
        | apply leaveHierarchy_ok | apply ok_ite)

theorem startHierarchy_ok {cq : List Instr} {s : State} (h : Ok cq s) :
    Ok cq (State.startHierarchy s) := by
  unfold State.startHierarchy
  repeat' first
    | (with_reducible first
        | assumption | apply ok_foldl | apply ok_foldl_fst | rfl | intro _ | apply enterHierarchy_ok)

end Sys2Proof.Laws
end

