-- ==== Sys2Proof/Laws/OkHub.lean ====
section
/-! SUPPORT. The operations of Machine/Hub.lean keep a sound state sound and the queue as it is. -/

namespace Sys2Proof.Laws

open Sys2Proof.Machine

theorem ttClearAll_ok {cq : List Instr} {s : State} (h : Ok cq s) :
    Ok cq (State.ttClearAll s) := by
  unfold State.ttClearAll
  repeat' first
    | (with_reducible first
        | assumption | apply ok_foldl | apply ok_foldl_fst | rfl | intro _ | apply ttDrop_ok)

theorem hubPortReset_ok {cq : List Instr} {s : State} (n : Nat) (h : Ok cq s) :
    Ok cq (State.hubPortReset s n) := by
  unfold State.hubPortReset
  repeat' first
    | (with_reducible first
        | assumption | rfl | intro _ | apply hubChange_ok | apply hubNote_ok | apply modPort_ok | apply ok_ite)

theorem hubClear_ok {cq : List Instr} {s : State} (h : Ok cq s) :
    Ok cq (State.hubClear s) := by
  unfold State.hubClear
  repeat' first
    | (with_reducible first
        | assumption | apply ok_foldl | apply ok_foldl_fst | rfl | intro _ | apply hubEvent_ok
        | apply hubPortReset_ok | apply set_ok | apply ttClearAll_ok | apply ok_ite | apply ok_ite_fst)
    | split | fail_if_no_progress ((with_reducible apply mk_ok) <;> (try with_reducible rfl))

theorem clearBuffers_ok {cq : List Instr} {s : State} (l : Nat) (h : Ok cq s) :
    Ok cq (State.clearBuffers s l) := by
  unfold State.clearBuffers
  repeat' first
    | (with_reducible first
        | assumption | rfl | intro _ | apply modLane_ok | apply set_ok | apply ok_ite | apply ok_ite_fst)
    | split | fail_if_no_progress ((with_reducible apply mk_ok) <;> (try with_reducible rfl)) | dsimp only
    | (simp; done)

theorem clearLane_ok {cq : List Instr} {s : State} (l : Nat) (h : Ok cq s) :
    Ok cq (State.clearLane s l) := by
  unfold State.clearLane
  repeat' first
    | (with_reducible first
        | assumption | rfl | intro _ | apply clearBuffers_ok | apply modLane_ok | apply ok_ite | apply ok_ite_fst)
    | split | fail_if_no_progress ((with_reducible apply mk_ok) <;> (try with_reducible rfl))

theorem discardReplies_ok {cq : List Instr} {s : State} (h : Ok cq s) :
    Ok cq (State.discardReplies s) := by
  unfold State.discardReplies
  repeat' first
    | (with_reducible first
        | assumption | apply ok_foldl | apply ok_foldl_fst | rfl | intro _ | apply dropReady_ok
        | apply noteDiscard_ok | apply ok_ite | apply ok_ite_fst)
    | split | fail_if_no_progress ((with_reducible apply mk_ok) <;> (try with_reducible rfl))

theorem hostAccess_ok {cq : List Instr} {s : State} (h : Ok cq s) :
    Ok cq (State.hostAccess s) := by
  unfold State.hostAccess
  repeat' first
    | (with_reducible first
        | assumption | rfl | intro _ | apply set_ok | apply ok_ite | apply ok_ite_fst)
    | split | fail_if_no_progress ((with_reducible apply mk_ok) <;> (try with_reducible rfl))

theorem ownHandles_ok {cq : List Instr} {s : State} (h : Ok cq s) :
    Ok cq (State.ownHandles s) := by
  unfold State.ownHandles
  repeat' first
    | (with_reducible first
        | assumption | rfl | intro _ | apply notePages_ok | apply ok_ite | apply ok_ite_fst)
    | split | fail_if_no_progress ((with_reducible apply mk_ok) <;> (try with_reducible rfl))

theorem unconfigure_ok {cq : List Instr} {s : State} (h : Ok cq s) :
    Ok cq (State.unconfigure s) := by
  unfold State.unconfigure
  repeat' first
    | (with_reducible first
        | assumption | apply ok_foldl | apply ok_foldl_fst | rfl | intro _ | apply clearLane_ok
        | apply discardReplies_ok | apply ownHandles_ok | apply set_ok | apply ok_ite | apply ok_ite_fst)
    | split | fail_if_no_progress ((with_reducible apply mk_ok) <;> (try with_reducible rfl))

theorem loomReset_ok {cq : List Instr} {s : State} (h : Ok cq s) :
    Ok cq (State.loomReset s) := by
  unfold State.loomReset
  repeat' first
    | (with_reducible first
        | assumption | rfl | intro _ | apply loomEvent_ok | apply set_ok | apply unconfigure_ok | apply ok_ite
        | apply ok_ite_fst)
    | split | fail_if_no_progress ((with_reducible apply mk_ok) <;> (try with_reducible rfl))

theorem setRate_ok {cq : List Instr} {s : State} (r : Nat) (h : Ok cq s) :
    Ok cq (State.setRate s r) := by
  unfold State.setRate
  repeat' first
    | (with_reducible first
        | assumption | rfl | intro _ | apply loomEvent_ok | apply set_ok | apply ok_ite)

theorem loomDisconnect_ok {cq : List Instr} {s : State} (h : Ok cq s) :
    Ok cq (State.loomDisconnect s) := by
  unfold State.loomDisconnect
  repeat' first
    | (with_reducible first
        | assumption | rfl | intro _ | apply loomReset_ok | apply setRate_ok | apply set_ok | apply ok_ite
        | apply ok_ite_fst)
    | split | fail_if_no_progress ((with_reducible apply mk_ok) <;> (try with_reducible rfl))

theorem hubDisconnect_ok {cq : List Instr} {s : State} (h : Ok cq s) :
    Ok cq (State.hubDisconnect s) := by
  unfold State.hubDisconnect
  repeat' first
    | (with_reducible first
        | assumption | rfl | intro _ | apply hubClear_ok | apply loomDisconnect_ok | apply set_ok | apply ok_ite
        | apply ok_ite_fst)
    | split | fail_if_no_progress ((with_reducible apply mk_ok) <;> (try with_reducible rfl)) | dsimp only
    | (simp; done)

theorem ssDisconnect_ok {cq : List Instr} {s : State} (h : Ok cq s) :
    Ok cq (State.ssDisconnect s) := by
  unfold State.ssDisconnect
  repeat' first
    | (with_reducible first
        | assumption | rfl | intro _ | apply loomDisconnect_ok | apply set_ok | apply ok_ite)

theorem loomWithdraw_ok {cq : List Instr} {s : State} (h : Ok cq s) :
    Ok cq (State.loomWithdraw s) := by
  unfold State.loomWithdraw
  repeat' first
    | (with_reducible first
        | assumption | rfl | intro _ | apply loomDisconnect_ok | apply ssDisconnect_ok | apply ok_ite
        | apply ok_ite_fst)
    | split | fail_if_no_progress ((with_reducible apply mk_ok) <;> (try with_reducible rfl)) | dsimp only
    | (simp; done)

theorem upstreamWithdraw_ok {cq : List Instr} {s : State} (h : Ok cq s) :
    Ok cq (State.upstreamWithdraw s) := by
  unfold State.upstreamWithdraw
  repeat' first
    | (with_reducible first
        | assumption | rfl | intro _ | apply hubDisconnect_ok | apply set_ok | apply settleDomains_ok
        | apply ssDisconnect_ok | apply ok_ite | apply ok_ite_fst)
    | split | fail_if_no_progress ((with_reducible apply mk_ok) <;> (try with_reducible rfl))

end Sys2Proof.Laws
end

