-- ==== Sys2Proof/Laws/OkFabric.lean ====
section
/-! SUPPORT. The operations of Machine/Fabric.lean keep a sound state sound and the queue as it is. -/

namespace Sys2Proof.Laws

open Sys2Proof.Machine

theorem dramFresh_ok {cq : List Instr} {s : State} (pages : Nat) (h : Ok cq s) :
    Ok cq (State.dramFresh s pages) := by
  unfold State.dramFresh
  repeat' first
    | (with_reducible first
        | assumption | rfl | intro _ | apply notePages_ok | apply ok_ite | apply ok_ite_fst)
    | split | fail_if_no_progress ((with_reducible apply mk_ok) <;> (try with_reducible rfl))

theorem loseIso_ok {cq : List Instr} {s : State} (c : Ctx) (h : Ok cq s) :
    Ok cq (State.loseIso s c) := by
  unfold State.loseIso
  repeat' first
    | (with_reducible first
        | assumption | apply ok_foldl | apply ok_foldl_fst | rfl | intro _ | apply completionAt_ok
        | apply completion_ok | apply formEventRec_ok | apply loomEvent_ok | apply modCtx_ok | apply recordDone_ok
        | apply ok_ite | apply ok_ite_fst)
    | split

theorem rebuildEnded_ok {cq : List Instr} {s : State} (h : Ok cq s) :
    Ok cq (State.rebuildEnded s) := by
  unfold State.rebuildEnded
  repeat' first
    | (with_reducible first
        | assumption | rfl | intro _ | apply set_ok | apply ok_ite | apply ok_ite_fst)
    | split | fail_if_no_progress ((with_reducible apply mk_ok) <;> (try with_reducible rfl)) | dsimp only
    | (simp; done)

theorem dramChannelLost_ok {cq : List Instr} {s : State} (ch : Nat) (h : Ok cq s) :
    Ok cq (State.dramChannelLost s ch) := by
  unfold State.dramChannelLost
  repeat' first
    | (with_reducible first
        | assumption | apply ok_foldl | apply ok_foldl_fst | rfl | intro _ | apply loseIso_ok | apply notePages_ok
        | apply rebuildEnded_ok | apply set_ok | apply ok_ite | apply ok_ite_fst)
    | split | fail_if_no_progress ((with_reducible apply mk_ok) <;> (try with_reducible rfl))

theorem bothDramLost_ok {cq : List Instr} {s : State} (h : Ok cq s) :
    Ok cq (State.bothDramLost s) := by
  unfold State.bothDramLost
  repeat' first
    | (with_reducible first
        | assumption | rfl | intro _ | apply notePages_ok | apply rebuildEnded_ok | apply ok_ite
        | apply ok_ite_fst)
    | split | fail_if_no_progress ((with_reducible apply mk_ok) <;> (try with_reducible rfl))

theorem dramChannelBack_ok {cq : List Instr} {s : State} (ch : Nat) (h : Ok cq s) :
    Ok cq (State.dramChannelBack s ch) := by
  unfold State.dramChannelBack
  repeat' first
    | (with_reducible first
        | assumption | rfl | intro _ | apply notePages_ok | apply set_ok | apply settleDomains_ok | apply ok_ite
        | apply ok_ite_fst)
    | split | fail_if_no_progress ((with_reducible apply mk_ok) <;> (try with_reducible rfl))

theorem mirrorRebuilt_ok {cq : List Instr} {s : State} (h : Ok cq s) :
    Ok cq (State.mirrorRebuilt s) := by
  unfold State.mirrorRebuilt
  repeat' first
    | (with_reducible first | assumption | rfl | intro _ | apply notePages_ok)

theorem startMove_ok {cq : List Instr} {s : State} (t : Nat) (g : Nat) (from_ : Nat) (back : Bool) (h : Ok cq s) :
    Ok cq (State.startMove s t g from_ back) := by
  unfold State.startMove
  repeat' first
    | (with_reducible first
        | assumption | rfl | intro _ | apply modShut_ok | apply requestOn_ok | apply set_ok)

theorem becomeSpare_ok {cq : List Instr} {s : State} (h : Ok cq s) :
    Ok cq (State.becomeSpare s) := by
  unfold State.becomeSpare
  repeat' first
    | (with_reducible first
        | assumption | rfl | intro _ | apply noteShuttle_ok | apply set_ok | apply startMove_ok | apply ok_ite
        | apply ok_ite_fst)
    | split

theorem groupUnserved_ok {cq : List Instr} {s : State} (g : Nat) (h : Ok cq s) :
    Ok cq (State.groupUnserved s g) := by
  unfold State.groupUnserved
  repeat' first
    | (with_reducible first
        | assumption | apply ok_foldl | apply ok_foldl_fst | rfl | intro _ | apply endTree_ok | apply enumFail_ok
        | apply handleFenced_ok | apply poolService_ok | apply set_ok | apply ok_ite)

theorem copyIdle_ok {cq : List Instr} {s : State} (src : Nat) (dst : Nat) (h : Ok cq s) :
    Ok cq (State.copyIdle s src dst) := by
  unfold State.copyIdle
  repeat' first
    | (with_reducible first
        | assumption | apply ok_foldl | apply ok_foldl_fst | rfl | intro _ | apply set_ok | apply ok_ite
        | apply ok_ite_fst)
    | split | fail_if_no_progress ((with_reducible apply mk_ok) <;> (try with_reducible rfl)) | dsimp only
    | (simp; done)

theorem shuttleFence_ok {cq : List Instr} {s : State} (j : Nat) (h : Ok cq s) :
    Ok cq (State.shuttleFence s j) := by
  unfold State.shuttleFence
  repeat' first
    | (with_reducible first
        | assumption | rfl | intro _ | apply copyIdle_ok | apply groupUnserved_ok | apply modShut_ok
        | apply noteShuttle_ok | apply set_ok | apply startMove_ok | apply ok_ite)

theorem shuttleRelieved_ok {cq : List Instr} {s : State} (j : Nat) (h : Ok cq s) :
    Ok cq (State.shuttleRelieved s j) := by
  unfold State.shuttleRelieved
  repeat' first
    | (with_reducible first
        | assumption | rfl | intro _ | apply becomeSpare_ok | apply requestOn_ok | apply set_ok | apply ok_ite)

theorem phyLost_ok {cq : List Instr} {s : State} (j : Nat) (h : Ok cq s) :
    Ok cq (State.phyLost s j) := by
  unfold State.phyLost
  repeat' first
    | (with_reducible first
        | assumption | apply ok_foldl | apply ok_foldl_fst | rfl | intro _ | apply setAtt_ok
        | apply startDetach_ok | apply ok_ite)

theorem phyBack_ok {cq : List Instr} {s : State} (j : Nat) (h : Ok cq s) :
    Ok cq (State.phyBack s j) := by
  unfold State.phyBack
  repeat' first
    | (with_reducible first
        | assumption | apply ok_foldl | apply ok_foldl_fst | rfl | intro _ | apply startQualify_ok | apply ok_ite)

theorem domainCameOn_ok {cq : List Instr} {s : State} (d : Nat) (h : Ok cq s) :
    Ok cq (State.domainCameOn s d) := by
  unfold State.domainCameOn
  repeat' first
    | (with_reducible first
        | assumption | rfl | intro _ | apply becomeSpare_ok | apply canCameOn_ok | apply modShut_ok | apply ok_ite
        | apply ok_ite_fst)
    | split | fail_if_no_progress ((with_reducible apply mk_ok) <;> (try with_reducible rfl)) | dsimp only
    | (simp; done)

theorem memoryLost_ok {cq : List Instr} {s : State} (d : Nat) (h : Ok cq s) :
    Ok cq (State.memoryLost s d) := by
  unfold State.memoryLost
  repeat' first
    | (with_reducible first
        | assumption | rfl | intro _ | apply dramFresh_ok | apply modShut_ok | apply ok_ite | apply ok_ite_fst)
    | split | fail_if_no_progress ((with_reducible apply mk_ok) <;> (try with_reducible rfl)) | dsimp only
    | (simp; done)

theorem domainLeftOn_ok {cq : List Instr} {s : State} (d : Nat) (h : Ok cq s) :
    Ok cq (State.domainLeftOn s d) := by
  unfold State.domainLeftOn
  repeat' first
    | (with_reducible first
        | assumption | rfl | intro _ | apply canLeftOn_ok | apply memoryLost_ok | apply ok_ite)

theorem recomputeAll_ok {cq : List Instr} {s : State} (h : Ok cq s) :
    Ok cq (State.recomputeAll s) := by
  unfold State.recomputeAll
  repeat' first
    | (with_reducible first
        | assumption | apply ok_foldl | apply ok_foldl_fst | rfl | intro _ | apply recompute_ok)

theorem debugOverride_ok {cq : List Instr} {s : State} (_on : Bool) (h : Ok cq s) :
    Ok cq (State.debugOverride s _on) := by
  unfold State.debugOverride
  repeat' first
    | (with_reducible first | assumption | rfl | intro _ | apply recomputeAll_ok)

theorem lifecycleOverride_ok {cq : List Instr} {s : State} (h : Ok cq s) :
    Ok cq (State.lifecycleOverride s) := by
  unfold State.lifecycleOverride
  repeat' first
    | (with_reducible first | assumption | rfl | intro _ | apply recomputeAll_ok)

theorem portsAtPorst_ok {cq : List Instr} {s : State} (h : Ok cq s) :
    Ok cq (State.portsAtPorst s) := by
  unfold State.portsAtPorst
  repeat' first
    | (with_reducible first
        | assumption | rfl | intro _ | apply ok_ite | apply ok_ite_fst)
    | split | fail_if_no_progress ((with_reducible apply mk_ok) <;> (try with_reducible rfl)) | dsimp only
    | (simp; done)

theorem restartMove_ok {cq : List Instr} {s : State} (j : Nat) (h : Ok cq s) :
    Ok cq (State.restartMove s j) := by
  unfold State.restartMove
  repeat' first
    | (with_reducible first
        | assumption | rfl | intro _ | apply modShut_ok | apply ok_ite | apply ok_ite_fst)
    | split | fail_if_no_progress ((with_reducible apply mk_ok) <;> (try with_reducible rfl)) | dsimp only
    | (simp; done)

theorem warmFabric_ok {cq : List Instr} {s : State} (h : Ok cq s) :
    Ok cq (State.warmFabric s) := by
  unfold State.warmFabric
  repeat' first
    | (with_reducible first
        | assumption | apply ok_foldl | apply ok_foldl_fst | rfl | intro _ | apply lifeEvent_ok
        | apply loomDisconnect_ok | apply memoryLost_ok | apply modPort_ok | apply notePages_ok
        | apply restartMove_ok | apply setAtt_ok | apply set_ok | apply ssDisconnect_ok | apply ok_ite
        | apply ok_ite_fst)
    | split | fail_if_no_progress ((with_reducible apply mk_ok) <;> (try with_reducible rfl))

end Sys2Proof.Laws
end

