-- ==== Sys2Proof/Laws/OkEcrax.lean ====
section
/-! SUPPORT. The operations of Machine/Ecrax.lean keep a sound state sound and the queue as it is. -/

namespace Sys2Proof.Laws

open Sys2Proof.Machine

theorem OpOut_ok_ok {cq : List Instr} {s : State} (h : Ok cq s) :
    Ok cq (OpOut.ok s).st := by
  unfold OpOut.ok
  repeat' first
    | (with_reducible first | assumption)

theorem OpOut_res_ok {cq : List Instr} {s : State} (r : List Nat) (h : Ok cq s) :
    Ok cq (OpOut.res s r).st := by
  unfold OpOut.res
  repeat' first
    | (with_reducible first | assumption)

theorem OpOut_fail_ok {cq : List Instr} {s : State} (status : Nat) (h : Ok cq s) :
    Ok cq (OpOut.fail s status).st := by
  unfold OpOut.fail
  repeat' first
    | (with_reducible first | assumption)

theorem refusePacket_ok {cq : List Instr} {s : State} (p : Packet) (status : Nat) (results : List Nat) (h : Ok cq s) :
    Ok cq (State.refusePacket s p status results) := by
  unfold State.refusePacket
  repeat' first
    | (with_reducible first
        | assumption | rfl | intro _ | apply addEntry_ok | apply answer_ok)

theorem accept_ok {cq : List Instr} {s : State} (p : Packet) (dev : Nat) (h : Ok cq s) :
    Ok cq (State.accept s p dev) := by
  unfold State.accept
  repeat' first
    | (with_reducible first
        | assumption | rfl | intro _ | apply await_ok | apply setKept_ok | apply ok_ite | apply ok_ite_fst)
    | split | fail_if_no_progress ((with_reducible apply mk_ok) <;> (try with_reducible rfl)) | dsimp only
    | (simp; done)

theorem takePacket_ok {cq : List Instr} {s : State} (p : Packet) (h : Ok cq s) :
    Ok cq (State.takePacket s p) := by
  unfold State.takePacket
  repeat' first
    | (with_reducible first
        | assumption | rfl | intro _ | apply accept_ok | apply ok_ite | apply ok_ite_fst)
    | split | fail_if_no_progress ((with_reducible apply mk_ok) <;> (try with_reducible rfl))

theorem opWaiting_ok {cq : List Instr} {s : State} (p : Packet) (h : Ok cq s) :
    Ok cq (State.opWaiting s p) := by
  unfold State.opWaiting
  repeat' first
    | (with_reducible first
        | assumption | rfl | intro _ | apply accept_ok | apply ok_ite | apply ok_ite_fst)
    | split | fail_if_no_progress ((with_reducible apply mk_ok) <;> (try with_reducible rfl))

theorem opWake_ok {cq : List Instr} {s : State} (p : Packet) (ds : List Nat) (h : Ok cq s) :
    Ok cq (State.opWake s p ds).1 := by
  unfold State.opWake
  repeat' first
    | (with_reducible first
        | assumption | rfl | intro _ | apply opWaiting_ok | apply wakeFor_ok)

theorem opStart_ok {cq : List Instr} {s : State} (p : Packet) (h : Ok cq s) :
    Ok cq (State.opStart s p) := by
  unfold State.opStart
  repeat' first
    | (with_reducible first
        | assumption | rfl | intro _ | apply addEntry_ok | apply takePacket_ok | apply touch_ok)

theorem opEnd_ok {cq : List Instr} (p : Packet) {o : OpOut} (h : Ok cq o.st) :
    Ok cq (opEnd p o) := by
  unfold opEnd
  repeat' first
    | (with_reducible first
        | assumption | rfl | intro _ | apply answer_ok | apply ok_ite)

theorem runOp_ok {cq : List Instr} (opcode : Nat) (p : Packet) (need : Packet → State → List Nat) (eff : Packet → State → OpOut) {s : State} (hf : ∀ p s, Ok cq s → Ok cq (eff p s).st) (h : Ok cq s) :
    Ok cq (runOp opcode p need eff s) := by
  unfold runOp
  repeat' first
    | (with_reducible first
        | assumption | apply hf | rfl | intro _ | apply opEnd_ok | apply opStart_ok | apply opWaiting_ok
        | apply opWake_ok | apply refusePacket_ok | apply takePacket_ok | apply ok_ite | apply ok_ite_fst)
    | split

theorem bareReply_ok {cq : List Instr} {s : State} (c : Chan) (opcode : Nat) (tag : Nat) (cls : Nat) (seq : Nat) (status : Nat) (dup : Bool) (dev : Nat) (h : Ok cq s) :
    Ok cq (State.bareReply s c opcode tag cls seq status dup dev) := by
  unfold State.bareReply
  repeat' first
    | (with_reducible first | assumption | rfl | intro _ | apply replyNow_ok)

theorem receivePacket_ok {cq : List Instr} (c : Chan) (origin : Nat) (bytes : List Nat) {s : State} (h : Ok cq s) :
    Ok cq (receivePacket c origin bytes s) := by
  unfold receivePacket
  repeat' first
    | (with_reducible first
        | assumption | rfl | intro _ | apply accept_ok | apply addEntry_ok | apply await_ok | apply bareReply_ok
        | apply refusePacket_ok | apply touch_ok | apply ok_ite | apply ok_ite_fst)
    | split | fail_if_no_progress ((with_reducible apply mk_ok) <;> (try with_reducible rfl)) | dsimp only

theorem execLoomPacketReceived_ok {cq : List Instr} (chan : Chan) (origin : Nat) (bytes : List Nat) {s : State} (h : Ok cq s) :
    OutOk cq (execLoomPacketReceived chan origin bytes s) := by
  unfold execLoomPacketReceived
  repeat' first
    | (with_reducible first
        | assumption | rfl | intro _ | apply receivePacket_ok | apply ok_ite | apply ok_ite_fst | apply out_next
        | apply out_ite)

theorem inRing_ok {cq : List Instr} {s : State} (h : Ok cq s) :
    Ok cq (inRing s) := by
  unfold inRing
  repeat' first
    | (with_reducible first
        | assumption | rfl | intro _ | apply count_ok | apply set_ok | apply touch_ok | apply ok_ite)

theorem execInRing_ok {cq : List Instr} {s : State} (h : Ok cq s) :
    OutOk cq (execInRing s) := by
  unfold execInRing
  repeat' first
    | (with_reducible first
        | assumption | rfl | intro _ | apply inRing_ok | apply ok_ite | apply ok_ite_fst | apply out_next)

theorem execMailboxPacketTaken_ok {cq : List Instr} {s : State} (h : Ok cq s) :
    OutOk cq (execMailboxPacketTaken s) := by
  unfold execMailboxPacketTaken
  repeat' first
    | (with_reducible first
        | assumption | rfl | intro _ | apply receivePacket_ok | apply set_ok | apply ok_ite | apply ok_ite_fst
        | apply out_next | apply out_ite)

theorem restartNow_ok {cq : List Instr} {s : State} (h : Ok cq s) :
    Ok cq (State.restartNow s) := by
  unfold State.restartNow
  repeat' first
    | (with_reducible first
        | assumption | rfl | intro _ | apply ok_ite | apply ok_ite_fst)
    | split | fail_if_no_progress ((with_reducible apply mk_ok) <;> (try with_reducible rfl)) | dsimp only
    | (simp; done)

theorem ibiCheck_ok {cq : List Instr} {s : State} (h : Ok cq s) :
    Ok cq (State.ibiCheck s) := by
  unfold State.ibiCheck
  repeat' first
    | (with_reducible first
        | assumption | rfl | intro _ | apply requestOn_ok | apply ok_ite | apply ok_ite_fst)
    | split | fail_if_no_progress ((with_reducible apply mk_ok) <;> (try with_reducible rfl))

theorem seeInts_ok {cq : List Instr} {s : State} (f : State → State) (h : Ok cq s) (hf : ∀ s, Ok cq s → Ok cq (f s)) :
    Ok cq (State.seeInts s f) := by
  unfold State.seeInts
  repeat' first
    | (with_reducible first
        | assumption | apply hf | rfl | intro _ | apply ibiCheck_ok | apply ok_ite | apply ok_ite_fst)
    | split | fail_if_no_progress ((with_reducible apply mk_ok) <;> (try with_reducible rfl)) | dsimp only
    | (simp; done)

theorem outDone_ok {cq : List Instr} {s : State} (h : Ok cq s) :
    Ok cq (outDone s) := by
  unfold outDone
  repeat' first
    | (with_reducible first
        | assumption | rfl | intro _ | apply fillMailbox_ok | apply restartNow_ok | apply set_ok | apply ok_ite)

theorem execOutDone_ok {cq : List Instr} {s : State} (h : Ok cq s) :
    OutOk cq (execOutDone s) := by
  unfold execOutDone
  repeat' first
    | (with_reducible first
        | assumption | rfl | intro _ | apply outDone_ok | apply seeInts_ok | apply ok_ite | apply ok_ite_fst
        | apply out_next)

theorem endForward_ok {cq : List Instr} {s : State} (f : Forwarded) (r : Reply) (h : Ok cq s) :
    Ok cq (State.endForward s f r) := by
  unfold State.endForward
  repeat' first
    | (with_reducible first
        | assumption | rfl | intro _ | apply commit_ok | apply finish_ok | apply keepStatus_ok | apply ok_ite
        | apply ok_ite_fst)
    | split | fail_if_no_progress ((with_reducible apply mk_ok) <;> (try with_reducible rfl)) | dsimp only
    | (simp; done)

theorem endDeferral_ok {cq : List Instr} {s : State} (f : Forwarded) (r : Reply) (h : Ok cq s) :
    Ok cq (State.endDeferral s f r) := by
  unfold State.endDeferral
  repeat' first
    | (with_reducible first
        | assumption | rfl | intro _ | apply displaceAs_ok | apply ok_ite | apply ok_ite_fst)
    | split | fail_if_no_progress ((with_reducible apply mk_ok) <;> (try with_reducible rfl)) | dsimp only
    | (simp; done)

theorem forwardLate_ok {cq : List Instr} {s : State} (f : Forwarded) (h : Ok cq s) :
    Ok cq (State.forwardLate s f) := by
  unfold State.forwardLate
  repeat' first
    | (with_reducible first
        | assumption | rfl | intro _ | apply endForward_ok | apply ok_ite | apply ok_ite_fst)
    | split | fail_if_no_progress ((with_reducible apply mk_ok) <;> (try with_reducible rfl))

theorem execForwardTimeout_ok {cq : List Instr} (tag : Nat) (chan : Chan) {s : State} (h : Ok cq s) :
    OutOk cq (execForwardTimeout tag chan s) := by
  unfold execForwardTimeout
  repeat' first
    | (with_reducible first
        | assumption | rfl | intro _ | apply forwardLate_ok | apply ok_ite | apply ok_ite_fst | apply out_next
        | apply out_ite)
    | exact out_fault | exact out_refused | split

theorem execEp1ReplyTransfer_ok {cq : List Instr} {s : State} (h : Ok cq s) :
    OutOk cq (execEp1ReplyTransfer s) := by
  unfold execEp1ReplyTransfer
  repeat' first
    | (with_reducible first
        | assumption | rfl | intro _ | apply restartNow_ok | apply ok_ite | apply ok_ite_fst | apply out_next
        | apply out_ite)
    | exact out_fault | exact out_refused | split
    | fail_if_no_progress ((with_reducible apply mk_ok) <;> (try with_reducible rfl))

end Sys2Proof.Laws
end

