-- ==== Sys2Proof/Laws/OkFaults.lean ====
section
/-! SUPPORT. The operations of Machine/Faults.lean keep a sound state sound and the queue as it is. -/

namespace Sys2Proof.Laws

open Sys2Proof.Machine

theorem superviseAgain_ok {cq : List Instr} {s : State} (h : Ok cq s) :
    Ok cq (State.superviseAgain s) := by
  unfold State.superviseAgain
  repeat' first
    | (with_reducible first
        | assumption | rfl | intro _ | apply ok_ite | apply ok_ite_fst)
    | split | fail_if_no_progress ((with_reducible apply mk_ok) <;> (try with_reducible rfl)) | dsimp only
    | (simp; done)

theorem endSession_ok {cq : List Instr} {s : State} (cause : Nat) (h : Ok cq s) :
    Ok cq (State.endSession s cause) := by
  unfold State.endSession
  repeat' first
    | (with_reducible first
        | assumption | rfl | intro _ | apply debugOverride_ok | apply setBit_ok | apply set_ok
        | apply superviseAgain_ok | apply ok_ite | apply ok_ite_fst)
    | split | fail_if_no_progress ((with_reducible apply mk_ok) <;> (try with_reducible rfl))

theorem sessionCheck_ok {cq : List Instr} {s : State} (h : Ok cq s) :
    Ok cq (State.sessionCheck s) := by
  unfold State.sessionCheck
  repeat' first
    | (with_reducible first
        | assumption | rfl | intro _ | apply endSession_ok | apply ok_ite | apply ok_ite_fst)
    | split | fail_if_no_progress ((with_reducible apply mk_ok) <;> (try with_reducible rfl)) | dsimp only
    | (simp; done)

theorem targetFenced_ok {cq : List Instr} {s : State} {before : State} (h : Ok cq s) (hbefore : Ok cq before) :
    Ok cq (State.targetFenced s before) := by
  unfold State.targetFenced
  repeat' first
    | (with_reducible first
        | assumption | rfl | intro _ | apply endSession_ok | apply ok_ite | apply ok_ite_fst)
    | split | fail_if_no_progress ((with_reducible apply mk_ok) <;> (try with_reducible rfl)) | dsimp only
    | (simp; done)

theorem noteClassMax_ok {cq : List Instr} {s : State} (h : Ok cq s) :
    Ok cq (State.noteClassMax s) := by
  unfold State.noteClassMax
  repeat' first
    | (with_reducible first
        | assumption | apply ok_foldl | apply ok_foldl_fst | rfl | intro _ | apply set_ok)

theorem faultEvent_ok {cq : List Instr} {s : State} (src : Nat) (kind : Nat) (cls : Nat) (addr : Nat) (second : Nat) (merged : Bool) (coded : Bool) (h : Ok cq s) :
    Ok cq (State.faultEvent s src kind cls addr second merged coded) := by
  unfold State.faultEvent
  repeat' first
    | (with_reducible first | assumption | rfl | intro _ | apply postEvent_ok)

theorem notice_ok {cq : List Instr} {s : State} (src : Nat) (kind : Nat) (addr : Nat) (coded : Bool) (h : Ok cq s) :
    Ok cq (State.notice s src kind addr coded) := by
  unfold State.notice
  repeat' first
    | (with_reducible first
        | assumption | rfl | intro _ | apply count_ok | apply faultEvent_ok | apply ok_ite | apply ok_ite_fst)
    | split | fail_if_no_progress ((with_reducible apply mk_ok) <;> (try with_reducible rfl))

theorem setGecko_ok {cq : List Instr} {s : State} (g : Gecko) (h : Ok cq s) :
    Ok cq (State.setGecko s g) := by
  unfold State.setGecko
  repeat' first
    | (with_reducible first
        | assumption | rfl | intro _ | apply noteClassMax_ok | apply set_ok | apply ok_ite | apply ok_ite_fst)
    | split | fail_if_no_progress ((with_reducible apply mk_ok) <;> (try with_reducible rfl))

theorem openOrMerge_ok {cq : List Instr} {s : State} (src : Nat) (kind : Nat) (cls : Nat) (addr : Nat) (coded : Bool) (h : Ok cq s) :
    Ok cq (State.openOrMerge s src kind cls addr coded) := by
  unfold State.openOrMerge
  repeat' first
    | (with_reducible first
        | assumption | rfl | intro _ | apply count_ok | apply noteClassMax_ok | apply set_ok | apply ok_ite
        | apply ok_ite_fst)
    | split | fail_if_no_progress ((with_reducible apply mk_ok) <;> (try with_reducible rfl))

theorem enterSafeHold_ok {cq : List Instr} {s : State} (h : Ok cq s) :
    Ok cq (State.enterSafeHold s) := by
  unfold State.enterSafeHold
  repeat' first
    | (with_reducible first
        | assumption | apply ok_foldl | apply ok_foldl_fst | rfl | intro _ | apply canInit_ok | apply holdSkein_ok
        | apply leaveHierarchy_ok | apply set_ok | apply ok_ite | apply ok_ite_fst)
    | split | fail_if_no_progress ((with_reducible apply mk_ok) <;> (try with_reducible rfl))

theorem grave_ok {cq : List Instr} {s : State} (src : Nat) (kind : Nat) (addr : Nat) (coded : Bool) (h : Ok cq s) :
    Ok cq (State.grave s src kind addr coded) := by
  unfold State.grave
  repeat' first
    | (with_reducible first
        | assumption | rfl | intro _ | apply enterSafeHold_ok | apply openOrMerge_ok | apply setGecko_ok)

theorem setToken_ok {cq : List Instr} {s : State} (h0 : Nat) (h : Ok cq s) :
    Ok cq (State.setToken s h0) := by
  unfold State.setToken
  repeat' first
    | (with_reducible first
        | assumption | rfl | intro _ | apply setB_ok | apply set_ok | apply ok_ite | apply ok_ite_fst)
    | split | fail_if_no_progress ((with_reducible apply mk_ok) <;> (try with_reducible rfl))

theorem moveToken_ok {cq : List Instr} {s : State} (h : Ok cq s) :
    Ok cq (State.moveToken s) := by
  unfold State.moveToken
  repeat' first
    | (with_reducible first
        | assumption | rfl | intro _ | apply count_ok | apply grave_ok | apply requestDomain_ok
        | apply setToken_ok | apply set_ok | apply ok_ite | apply ok_ite_fst)
    | split | fail_if_no_progress ((with_reducible apply mk_ok) <;> (try with_reducible rfl))

theorem loseReference_ok {cq : List Instr} {s : State} (h : Ok cq s) :
    Ok cq (State.loseReference s) := by
  unfold State.loseReference
  repeat' first
    | (with_reducible first
        | assumption | apply ok_foldl | apply ok_foldl_fst | rfl | intro _ | apply beginStep_ok | apply set_ok
        | apply startTransition_ok | apply ok_ite | apply ok_ite_fst)
    | split | fail_if_no_progress ((with_reducible apply mk_ok) <;> (try with_reducible rfl))

theorem react_ok {cq : List Instr} {s : State} (src : Nat) (kind : Nat) (h : Ok cq s) :
    Ok cq (State.react s src kind) := by
  unfold State.react
  repeat' first
    | (with_reducible first
        | assumption | rfl | intro _ | apply bothDramLost_ok | apply canFenced_ok | apply dramChannelLost_ok
        | apply fenceDomain_ok | apply hierSettle_ok | apply hubDisconnect_ok | apply loomWithdraw_ok
        | apply loseLink_ok | apply loseReference_ok | apply memoryLost_ok | apply moveToken_ok | apply phyLost_ok
        | apply set_ok | apply shuttleFence_ok | apply ok_ite | apply ok_ite_fst)
    | split | fail_if_no_progress ((with_reducible apply mk_ok) <;> (try with_reducible rfl))

theorem raiseFault_ok {cq : List Instr} {s : State} (src : Nat) (kind : Nat) (addr : Nat) (coded : Bool) (h : Ok cq s) :
    Ok cq (State.raiseFault s src kind addr coded) := by
  unfold State.raiseFault
  repeat' first
    | (with_reducible first
        | assumption | rfl | intro _ | apply grave_ok | apply notice_ok | apply openOrMerge_ok | apply react_ok
        | apply setGecko_ok | apply targetFenced_ok | apply ok_ite)

theorem avsFallback_ok {cq : List Instr} {s : State} (h : Ok cq s) :
    Ok cq (State.avsFallback s) := by
  unfold State.avsFallback
  repeat' first
    | (with_reducible first
        | assumption | rfl | intro _ | apply domainEvent_ok | apply set_ok | apply ok_ite | apply ok_ite_fst)
    | split | fail_if_no_progress ((with_reducible apply mk_ok) <;> (try with_reducible rfl)) | dsimp only
    | (simp; done)

theorem raiseFeedFault_ok {cq : List Instr} {s : State} (u : Nat) (kind : Nat) (h : Ok cq s) :
    Ok cq (State.raiseFeedFault s u kind) := by
  unfold State.raiseFeedFault
  repeat' first
    | (with_reducible first
        | assumption | rfl | intro _ | apply raiseFault_ok | apply ok_ite)

theorem raisePortFault_ok {cq : List Instr} {s : State} (n : Nat) (kind : Nat) (h : Ok cq s) :
    Ok cq (State.raisePortFault s n kind) := by
  unfold State.raisePortFault
  repeat' first
    | (with_reducible first | assumption | rfl | intro _ | apply raiseFault_ok)

end Sys2Proof.Laws
end

