-- ==== Sys2Proof/Laws/OkSecurity.lean ====
section
/-! SUPPORT. The operations of Machine/Security.lean keep a sound state sound and the queue as it is. -/

namespace Sys2Proof.Laws

open Sys2Proof.Machine

theorem recheckLifecycle_ok {cq : List Instr} {s : State} (h : Ok cq s) :
    Ok cq (State.recheckLifecycle s) := by
  unfold State.recheckLifecycle
  repeat' first
    | (with_reducible first
        | assumption | rfl | intro _ | apply raiseFault_ok | apply ok_ite)

theorem secretFailed_ok {cq : List Instr} {s : State} (h : Ok cq s) :
    Ok cq (State.secretFailed s) := by
  unfold State.secretFailed
  repeat' first
    | (with_reducible first
        | assumption | rfl | intro _ | apply raiseFault_ok | apply set_ok | apply ok_ite | apply ok_ite_fst)
    | split | fail_if_no_progress ((with_reducible apply mk_ok) <;> (try with_reducible rfl)) | dsimp only
    | (simp; done)

theorem dropChallenge_ok {cq : List Instr} {s : State} (h : Ok cq s) :
    Ok cq (State.dropChallenge s) := by
  unfold State.dropChallenge
  repeat' first
    | (with_reducible first
        | assumption | rfl | intro _ | apply set_ok | apply ok_ite | apply ok_ite_fst)
    | split | fail_if_no_progress ((with_reducible apply mk_ok) <;> (try with_reducible rfl))

theorem nameTarget_ok {cq : List Instr} {s : State} (d : Nat) (h : Ok cq s) :
    Ok cq (State.nameTarget s d) := by
  unfold State.nameTarget
  repeat' first
    | (with_reducible first
        | assumption | rfl | intro _ | apply sessionCheck_ok | apply set_ok | apply ok_ite)

end Sys2Proof.Laws
end

