-- ==== Sys2Proof/Laws/OkProfile.lean ====
section
/-! SUPPORT. The operations of Machine/Profile.lean keep a sound state sound and the queue as it is. -/

namespace Sys2Proof.Laws

open Sys2Proof.Machine

theorem noteProfile_ok {cq : List Instr} {s : State} (h : Ok cq s) :
    Ok cq (State.noteProfile s) := by
  unfold State.noteProfile
  repeat' first
    | (with_reducible first
        | assumption | rfl | intro _ | apply ok_ite | apply ok_ite_fst)
    | split | fail_if_no_progress ((with_reducible apply mk_ok) <;> (try with_reducible rfl))

theorem writeProfile_ok {cq : List Instr} {s : State} (bs : List Nat) (h : Ok cq s) :
    Ok cq (State.writeProfile s bs).1 := by
  unfold State.writeProfile
  repeat' first
    | (with_reducible first
        | assumption | rfl | intro _ | apply noteProfile_ok | apply set_ok | apply ok_ite | apply ok_ite_fst)
    | split | fail_if_no_progress ((with_reducible apply mk_ok) <;> (try with_reducible rfl))

end Sys2Proof.Laws
end

