-- ==== Sys2Proof/Laws/OkDeviceOps.lean ====
section
/-! SUPPORT. The operations of Machine/DeviceOps.lean keep a sound state sound and the queue as it is. -/

namespace Sys2Proof.Laws

open Sys2Proof.Machine

theorem execDeviceInfo_ok {cq : List Instr} (p : Packet) {s : State} (h : Ok cq s) :
    OutOk cq (execDeviceInfo p s) := by
  unfold execDeviceInfo
  repeat' first
    | (with_reducible first
        | assumption | rfl | intro _ | apply OpOut_res_ok | apply runOp_ok | apply ok_ite | apply ok_ite_fst
        | apply out_next)

theorem execDeviceStatus_ok {cq : List Instr} (p : Packet) {s : State} (h : Ok cq s) :
    OutOk cq (execDeviceStatus p s) := by
  unfold execDeviceStatus
  repeat' first
    | (with_reducible first
        | assumption | rfl | intro _ | apply OpOut_res_ok | apply runOp_ok | apply ok_ite | apply ok_ite_fst
        | apply out_next)

theorem execConnect_ok {cq : List Instr} (p : Packet) {s : State} (h : Ok cq s) :
    OutOk cq (execConnect p s) := by
  unfold execConnect
  repeat' first
    | (with_reducible first
        | assumption | rfl | intro _ | apply OpOut_ok_ok | apply displaceOpt_ok | apply runOp_ok | apply set_ok
        | apply settleDomains_ok | apply ok_ite | apply ok_ite_fst | apply out_next | apply out_ite)
    | exact out_fault | exact out_refused | split
    | fail_if_no_progress ((with_reducible apply mk_ok) <;> (try with_reducible rfl))

theorem execDisconnect_ok {cq : List Instr} (p : Packet) {s : State} (h : Ok cq s) :
    OutOk cq (execDisconnect p s) := by
  unfold execDisconnect
  repeat' first
    | (with_reducible first
        | assumption | rfl | intro _ | apply OpOut_ok_ok | apply displaceOpt_ok | apply runOp_ok | apply set_ok
        | apply upstreamWithdraw_ok | apply ok_ite | apply ok_ite_fst | apply out_next | apply out_ite)
    | exact out_fault | exact out_refused | split
    | fail_if_no_progress ((with_reducible apply mk_ok) <;> (try with_reducible rfl))

theorem execWarmRestart_ok {cq : List Instr} (p : Packet) {s : State} (h : Ok cq s) :
    OutOk cq (execWarmRestart p s) := by
  unfold execWarmRestart
  repeat' first
    | (with_reducible first
        | assumption | rfl | intro _ | apply OpOut_ok_ok | apply runOp_ok | apply ok_ite | apply ok_ite_fst
        | apply out_next | apply out_ite)
    | exact out_fault | exact out_refused | split
    | fail_if_no_progress ((with_reducible apply mk_ok) <;> (try with_reducible rfl))

theorem execJournalRead_ok {cq : List Instr} (p : Packet) {s : State} (h : Ok cq s) :
    OutOk cq (execJournalRead p s) := by
  unfold execJournalRead
  repeat' first
    | (with_reducible first
        | assumption | rfl | intro _ | apply OpOut_res_ok | apply runOp_ok | apply ok_ite | apply ok_ite_fst
        | apply out_next)

theorem execChannelMask_ok {cq : List Instr} (p : Packet) {s : State} (h : Ok cq s) :
    OutOk cq (execChannelMask p s) := by
  unfold execChannelMask
  repeat' first
    | (with_reducible first
        | assumption | rfl | intro _ | apply OpOut_res_ok | apply runOp_ok | apply set_ok | apply ok_ite
        | apply ok_ite_fst | apply out_next)

theorem execProfileWrite_ok {cq : List Instr} (p : Packet) {s : State} (h : Ok cq s) :
    OutOk cq (execProfileWrite p s) := by
  unfold execProfileWrite
  repeat' first
    | (with_reducible first
        | assumption | rfl | intro _ | apply OpOut_fail_ok | apply OpOut_ok_ok | apply runOp_ok
        | apply writeProfile_ok | apply ok_ite | apply ok_ite_fst | apply out_next | apply out_ite)
    | exact out_fault | exact out_refused | split
    | fail_if_no_progress ((with_reducible apply mk_ok) <;> (try with_reducible rfl)) | dsimp only

theorem execProfileRead_ok {cq : List Instr} (p : Packet) {s : State} (h : Ok cq s) :
    OutOk cq (execProfileRead p s) := by
  unfold execProfileRead
  repeat' first
    | (with_reducible first
        | assumption | rfl | intro _ | apply OpOut_fail_ok | apply OpOut_res_ok | apply runOp_ok | apply ok_ite
        | apply ok_ite_fst | apply out_next | apply out_ite)
    | exact out_fault | exact out_refused | split

theorem execProfileErase_ok {cq : List Instr} (p : Packet) {s : State} (h : Ok cq s) :
    OutOk cq (execProfileErase p s) := by
  unfold execProfileErase
  repeat' first
    | (with_reducible first
        | assumption | rfl | intro _ | apply OpOut_fail_ok | apply OpOut_ok_ok | apply noteProfile_ok
        | apply runOp_ok | apply ok_ite | apply ok_ite_fst | apply out_next | apply out_ite)
    | exact out_fault | exact out_refused | split
    | fail_if_no_progress ((with_reducible apply mk_ok) <;> (try with_reducible rfl))

end Sys2Proof.Laws
end

