-- ==== Sys2Proof/Laws/OkFirmware.lean ====
section
/-! SUPPORT. The operations of Machine/Firmware.lean keep a sound state sound and the queue as it is. -/

namespace Sys2Proof.Laws

open Sys2Proof.Machine

theorem markActive_ok {cq : List Instr} {s : State} (slot : Nat) (h : Ok cq s) :
    Ok cq (State.markActive s slot) := by
  unfold State.markActive
  repeat' first
    | (with_reducible first
        | assumption | rfl | intro _ | apply ok_ite | apply ok_ite_fst)
    | split | fail_if_no_progress ((with_reducible apply mk_ok) <;> (try with_reducible rfl))

theorem setSlot_ok {cq : List Instr} {s : State} (i : Nat) (x : Slot) (h : Ok cq s) :
    Ok cq (State.setSlot s i x) := by
  unfold State.setSlot
  repeat' first
    | (with_reducible first
        | assumption | rfl | intro _ | apply set_ok | apply ok_ite | apply ok_ite_fst)
    | split | fail_if_no_progress ((with_reducible apply mk_ok) <;> (try with_reducible rfl))

theorem takeImage_ok {cq : List Instr} {s : State} (bs : List Nat) (h : Ok cq s) :
    Ok cq (State.takeImage s bs) := by
  unfold State.takeImage
  repeat' first
    | (with_reducible first
        | assumption | rfl | intro _ | apply ok_ite | apply ok_ite_fst)
    | split | fail_if_no_progress ((with_reducible apply mk_ok) <;> (try with_reducible rfl))

theorem noteRefused_ok {cq : List Instr} {s : State} (check : Nat) (h : Ok cq s) :
    Ok cq (State.noteRefused s check) := by
  unfold State.noteRefused
  repeat' first
    | (with_reducible first
        | assumption | rfl | intro _ | apply setBit_ok | apply set_ok | apply ok_ite | apply ok_ite_fst)
    | split | fail_if_no_progress ((with_reducible apply mk_ok) <;> (try with_reducible rfl)) | dsimp only
    | (simp; done)

theorem imageRefused_ok {cq : List Instr} {s : State} (check : Nat) (h : Ok cq s) :
    Ok cq (State.imageRefused s check) := by
  unfold State.imageRefused
  repeat' first
    | (with_reducible first
        | assumption | rfl | intro _ | apply noteRefused_ok | apply raiseFault_ok)

theorem execFwWrite_ok {cq : List Instr} (p : Packet) {s : State} (h : Ok cq s) :
    OutOk cq (execFwWrite p s) := by
  unfold execFwWrite
  repeat' first
    | (with_reducible first
        | assumption | rfl | intro _ | apply OpOut_fail_ok | apply OpOut_ok_ok | apply runOp_ok | apply setSlot_ok
        | apply ok_ite | apply ok_ite_fst | apply out_next | apply out_ite)
    | exact out_fault | exact out_refused | split
    | fail_if_no_progress ((with_reducible apply mk_ok) <;> (try with_reducible rfl)) | dsimp only

theorem execFwVerify_ok {cq : List Instr} (p : Packet) {s : State} (h : Ok cq s) :
    OutOk cq (execFwVerify p s) := by
  unfold execFwVerify
  repeat' first
    | (with_reducible first
        | assumption | rfl | intro _ | apply OpOut_fail_ok | apply OpOut_res_ok | apply noteRefused_ok
        | apply runOp_ok | apply setSlot_ok | apply ok_ite | apply ok_ite_fst | apply out_next | apply out_ite)
    | exact out_fault | exact out_refused | split
    | fail_if_no_progress ((with_reducible apply mk_ok) <;> (try with_reducible rfl)) | dsimp only

theorem execFwActivate_ok {cq : List Instr} (p : Packet) {s : State} (h : Ok cq s) :
    OutOk cq (execFwActivate p s) := by
  unfold execFwActivate
  repeat' first
    | (with_reducible first
        | assumption | rfl | intro _ | apply OpOut_fail_ok | apply OpOut_ok_ok | apply markActive_ok
        | apply requestDomain_ok | apply runOp_ok | apply set_ok | apply ok_ite | apply ok_ite_fst
        | apply out_next | apply out_ite)
    | exact out_fault | exact out_refused | split
    | fail_if_no_progress ((with_reducible apply mk_ok) <;> (try with_reducible rfl)) | dsimp only

theorem execFwCommit_ok {cq : List Instr} (p : Packet) {s : State} (h : Ok cq s) :
    OutOk cq (execFwCommit p s) := by
  unfold execFwCommit
  repeat' first
    | (with_reducible first
        | assumption | rfl | intro _ | apply OpOut_fail_ok | apply OpOut_res_ok | apply runOp_ok | apply setBit_ok
        | apply ok_ite | apply ok_ite_fst | apply out_next | apply out_ite)
    | exact out_fault | exact out_refused | split
    | fail_if_no_progress ((with_reducible apply mk_ok) <;> (try with_reducible rfl)) | dsimp only

theorem execFwStatus_ok {cq : List Instr} (p : Packet) {s : State} (h : Ok cq s) :
    OutOk cq (execFwStatus p s) := by
  unfold execFwStatus
  repeat' first
    | (with_reducible first
        | assumption | rfl | intro _ | apply OpOut_res_ok | apply runOp_ok | apply ok_ite | apply ok_ite_fst
        | apply out_next)

end Sys2Proof.Laws
end

