-- ==== Sys2Proof/Laws/OkHierOps.lean ====
section
/-! SUPPORT. The operations of Machine/HierOps.lean keep a sound state sound and the queue as it is. -/

namespace Sys2Proof.Laws

open Sys2Proof.Machine

theorem hsendSegs_ok {cq : List Instr} {s : State} (typ : Nat) (prio : Nat) (dst : Nat) (bs : List Nat) (h : Ok cq s) :
    Ok cq (State.hsendSegs s typ prio dst bs) := by
  unfold State.hsendSegs
  repeat' first
    | (with_reducible first
        | assumption | apply ok_foldl | apply ok_foldl_fst | rfl | intro _ | apply hsendOn_ok)

theorem pumpEvent_ok {cq : List Instr} {s : State} (h : Ok cq s) :
    Ok cq (State.pumpEvent s) := by
  unfold State.pumpEvent
  repeat' first
    | (with_reducible first
        | assumption | rfl | intro _ | apply hsend_ok | apply ok_ite | apply ok_ite_fst)
    | split | fail_if_no_progress ((with_reducible apply mk_ok) <;> (try with_reducible rfl))

theorem pumpReply_ok {cq : List Instr} {s : State} (cls : Nat) (h : Ok cq s) :
    Ok cq (State.pumpReply s cls) := by
  unfold State.pumpReply
  repeat' first
    | (with_reducible first
        | assumption | rfl | intro _ | apply hsendSegs_ok | apply ok_ite | apply ok_ite_fst)
    | split | fail_if_no_progress ((with_reducible apply mk_ok) <;> (try with_reducible rfl))

theorem pumpForward_ok {cq : List Instr} {s : State} (h : Ok cq s) :
    Ok cq (State.pumpForward s) := by
  unfold State.pumpForward
  repeat' first
    | (with_reducible first
        | assumption | apply ok_foldl | apply ok_foldl_fst | rfl | intro _ | apply hsendSegs_ok | apply ok_ite
        | apply ok_ite_fst)
    | split | fail_if_no_progress ((with_reducible apply mk_ok) <;> (try with_reducible rfl))

theorem fwCtrl_ok {cq : List Instr} {s : State} (kind : Nat) (round : Nat) (n : Nat) (a : Nat) (crc : Nat) (ver : Nat) (mask : Nat) (h : Ok cq s) :
    Ok cq (State.fwCtrl s kind round n a crc ver mask) := by
  unfold State.fwCtrl
  repeat' first
    | (with_reducible first | assumption | rfl | intro _ | apply hsend_ok)

theorem pumpFirmware_ok {cq : List Instr} {s : State} (h : Ok cq s) :
    Ok cq (State.pumpFirmware s) := by
  unfold State.pumpFirmware
  repeat' first
    | (with_reducible first
        | assumption | rfl | intro _ | apply fwCtrl_ok | apply hsendSegs_ok | apply ok_ite | apply ok_ite_fst)
    | split | fail_if_no_progress ((with_reducible apply mk_ok) <;> (try with_reducible rfl))

theorem pump_ok {cq : List Instr} {s : State} (h : Ok cq s) :
    Ok cq (State.pump s) := by
  unfold State.pump
  repeat' first
    | (with_reducible first
        | assumption | apply ok_foldl | apply ok_foldl_fst | rfl | intro _ | apply pumpEvent_ok
        | apply pumpFirmware_ok | apply pumpForward_ok | apply pumpReply_ok)

theorem loadTxb_ok {cq : List Instr} {s : State} (c : Nat) (b : Nat) (m : HOut) (h : Ok cq s) :
    Ok cq (State.loadTxb s c b m) := by
  unfold State.loadTxb
  repeat' first
    | (with_reducible first
        | assumption | rfl | intro _ | apply setTxb_ok | apply set_ok)

theorem loadTx_ok {cq : List Instr} {s : State} (c : Nat) (x1 : Nat) (h : Ok cq s) :
    Ok cq (State.loadTx s c x1) := by
  induction x1 generalizing s with
  | zero => unfold State.loadTx; assumption
  | succ n ih =>
    unfold State.loadTx
    repeat' first
      | (with_reducible first
          | assumption | apply ih | rfl | intro _ | apply loadTxb_ok | apply ok_ite | apply ok_ite_fst)
      | split | fail_if_no_progress ((with_reducible apply mk_ok) <;> (try with_reducible rfl)) | dsimp only

theorem hierSent_ok {cq : List Instr} {s : State} (c : Nat) (b : Nat) (stamp : Nat) (h : Ok cq s) :
    Ok cq (State.hierSent s c b stamp) := by
  unfold State.hierSent
  repeat' first
    | (with_reducible first
        | assumption | rfl | intro _ | apply restartNow_ok | apply set_ok | apply ok_ite | apply ok_ite_fst)
    | split | fail_if_no_progress ((with_reducible apply mk_ok) <;> (try with_reducible rfl))

theorem indexConflict_ok {cq : List Instr} {s : State} (h : Ok cq s) :
    Ok cq (State.indexConflict s) := by
  unfold State.indexConflict
  repeat' first
    | (with_reducible first
        | assumption | rfl | intro _ | apply hierEvent_ok | apply hierMode_ok | apply ok_ite | apply ok_ite_fst)
    | split | fail_if_no_progress ((with_reducible apply mk_ok) <;> (try with_reducible rfl))

theorem sendJoin_ok {cq : List Instr} {s : State} (mgr : Nat) (h : Ok cq s) :
    Ok cq (State.sendJoin s mgr) := by
  unfold State.sendJoin
  repeat' first
    | (with_reducible first
        | assumption | rfl | intro _ | apply hsend_ok | apply hwithdraw_ok)

theorem sendWstatus_ok {cq : List Instr} {s : State} (h : Ok cq s) :
    Ok cq (State.sendWstatus s) := by
  unfold State.sendWstatus
  repeat' first
    | (with_reducible first
        | assumption | rfl | intro _ | apply hsend_ok | apply hwithdraw_ok)

theorem newTime_ok {cq : List Instr} {s : State} (h : Ok cq s) :
    Ok cq (State.newTime s) := by
  unfold State.newTime
  repeat' first
    | (with_reducible first
        | assumption | rfl | intro _ | apply ok_ite | apply ok_ite_fst)
    | split | fail_if_no_progress ((with_reducible apply mk_ok) <;> (try with_reducible rfl)) | dsimp only
    | (simp; done)

theorem takeManager_ok {cq : List Instr} {s : State} (src : Nat) (_rank : Nat) (stamp : Nat) (noted : Bool) (h : Ok cq s) :
    Ok cq (State.takeManager s src _rank stamp noted) := by
  unfold State.takeManager
  repeat' first
    | (with_reducible first
        | assumption | rfl | intro _ | apply hierEvent_ok | apply hwithdraw_ok | apply newTime_ok | apply ok_ite
        | apply ok_ite_fst)
    | split | fail_if_no_progress ((with_reducible apply mk_ok) <;> (try with_reducible rfl))

theorem joined_ok {cq : List Instr} {s : State} (h : Ok cq s) :
    Ok cq (State.joined s) := by
  unfold State.joined
  repeat' first
    | (with_reducible first
        | assumption | rfl | intro _ | apply ok_ite | apply ok_ite_fst)
    | split | fail_if_no_progress ((with_reducible apply mk_ok) <;> (try with_reducible rfl)) | dsimp only
    | (simp; done)

theorem becomeManager_ok {cq : List Instr} {s : State} (h : Ok cq s) :
    Ok cq (State.becomeManager s) := by
  unfold State.becomeManager
  repeat' first
    | (with_reducible first
        | assumption | rfl | intro _ | apply set_ok | apply ok_ite | apply ok_ite_fst)
    | split | fail_if_no_progress ((with_reducible apply mk_ok) <;> (try with_reducible rfl))

theorem startElection_ok {cq : List Instr} {s : State} (tL : Nat) (h : Ok cq s) :
    Ok cq (State.startElection s tL) := by
  unfold State.startElection
  repeat' first
    | (with_reducible first
        | assumption | rfl | intro _ | apply freezeLoans_ok | apply hierEvent_ok | apply hsendOn_ok
        | apply hwithdraw_ok | apply ok_ite | apply ok_ite_fst)
    | split | fail_if_no_progress ((with_reducible apply mk_ok) <;> (try with_reducible rfl))

theorem demote_ok {cq : List Instr} {s : State} (src : Nat) (rank : Nat) (stamp : Nat) (h : Ok cq s) :
    Ok cq (State.demote s src rank stamp) := by
  unfold State.demote
  repeat' first
    | (with_reducible first
        | assumption | rfl | intro _ | apply freezeLoans_ok | apply hierEvent_ok | apply joined_ok
        | apply sendJoin_ok | apply takeManager_ok)

theorem sendPools_ok {cq : List Instr} {s : State} (h : Ok cq s) :
    Ok cq (State.sendPools s) := by
  unfold State.sendPools
  repeat' first
    | (with_reducible first
        | assumption | rfl | intro _ | apply hsendSegs_ok | apply ok_ite | apply ok_ite_fst)
    | split | fail_if_no_progress ((with_reducible apply mk_ok) <;> (try with_reducible rfl))

theorem modMember_ok {cq : List Instr} {s : State} (i : Nat) (f : Member → Member) (h : Ok cq s) :
    Ok cq (State.modMember s i f) := by
  unfold State.modMember
  repeat' first
    | (with_reducible first
        | assumption | rfl | intro _ | apply ok_ite | apply ok_ite_fst)
    | split | fail_if_no_progress ((with_reducible apply mk_ok) <;> (try with_reducible rfl))

theorem memberGone_ok {cq : List Instr} {s : State} (i : Nat) (why : Nat) (h : Ok cq s) :
    Ok cq (State.memberGone s i why) := by
  unfold State.memberGone
  repeat' first
    | (with_reducible first
        | assumption | rfl | intro _ | apply hierEvent_ok | apply modMember_ok)

theorem leaveFirst_ok {cq : List Instr} {s : State} (c : Nat) (why : Nat) (h : Ok cq s) :
    Ok cq (State.leaveFirst s c why).1 := by
  unfold State.leaveFirst
  repeat' first
    | (with_reducible first
        | assumption | rfl | intro _ | apply hsendOn_ok | apply ok_ite | apply ok_ite_fst)
    | split | fail_if_no_progress ((with_reducible apply mk_ok) <;> (try with_reducible rfl))

theorem stepTime_ok {cq : List Instr} {s : State} (n : Nat) (h : Ok cq s) :
    Ok cq (State.stepTime s n) := by
  unfold State.stepTime
  repeat' first
    | (with_reducible first
        | assumption | rfl | intro _ | apply count_ok | apply hierEvent_ok | apply set_ok | apply ok_ite
        | apply ok_ite_fst)
    | split | fail_if_no_progress ((with_reducible apply mk_ok) <;> (try with_reducible rfl)) | dsimp only
    | (simp; done)

theorem unlockTime_ok {cq : List Instr} {s : State} (why : Nat) (h : Ok cq s) :
    Ok cq (State.unlockTime s why) := by
  unfold State.unlockTime
  repeat' first
    | (with_reducible first
        | assumption | rfl | intro _ | apply hierEvent_ok | apply set_ok | apply ok_ite | apply ok_ite_fst)
    | split | fail_if_no_progress ((with_reducible apply mk_ok) <;> (try with_reducible rfl))

theorem startSlew_ok {cq : List Instr} {s : State} (e : Int) (h : Ok cq s) :
    Ok cq (State.startSlew s e) := by
  unfold State.startSlew
  repeat' first
    | (with_reducible first
        | assumption | rfl | intro _ | apply set_ok | apply ok_ite | apply ok_ite_fst)
    | split | fail_if_no_progress ((with_reducible apply mk_ok) <;> (try with_reducible rfl))

theorem judgeOffset_ok {cq : List Instr} {s : State} (e : Int) (h : Ok cq s) :
    Ok cq (State.judgeOffset s e) := by
  unfold State.judgeOffset
  repeat' first
    | (with_reducible first
        | assumption | rfl | intro _ | apply hierEvent_ok | apply set_ok | apply startSlew_ok | apply stepTime_ok
        | apply unlockTime_ok | apply ok_ite | apply ok_ite_fst)
    | split | fail_if_no_progress ((with_reducible apply mk_ok) <;> (try with_reducible rfl))

theorem setLoan_ok {cq : List Instr} {s : State} (k : Nat) (v : Nat) (h : Ok cq s) :
    Ok cq (State.setLoan s k v) := by
  unfold State.setLoan
  repeat' first
    | (with_reducible first
        | assumption | rfl | intro _ | apply budgetMoved_ok | apply set_ok)

theorem putLoan_ok {cq : List Instr} {s : State} (m : Member) (mask : Nat) (gen : Nat) (loans : List Nat) (h : Ok cq s) :
    Ok cq (State.putLoan s m mask gen loans) := by
  unfold State.putLoan
  repeat' first
    | (with_reducible first
        | assumption | rfl | intro _ | apply hsend_ok | apply modMember_ok | apply ok_ite | apply ok_ite_fst)
    | split | fail_if_no_progress ((with_reducible apply mk_ok) <;> (try with_reducible rfl)) | dsimp only
    | (simp; done)

theorem sendLoan_ok {cq : List Instr} {s : State} (m : Member) (mask : Nat) (gen : Nat) (h : Ok cq s) :
    Ok cq (State.sendLoan s m mask gen) := by
  unfold State.sendLoan
  repeat' first
    | (with_reducible first | assumption | rfl | intro _ | apply putLoan_ok)

theorem nextGen_ok {cq : List Instr} {s : State} (h : Ok cq s) :
    Ok cq (State.nextGen s).1 := by
  unfold State.nextGen
  repeat' first
    | (with_reducible first
        | assumption | rfl | intro _ | apply ok_ite | apply ok_ite_fst)
    | split | fail_if_no_progress ((with_reducible apply mk_ok) <;> (try with_reducible rfl))

theorem listenWindowEnd_ok {cq : List Instr} {s : State} (t : Nat) (h : Ok cq s) :
    Ok cq (State.listenWindowEnd s t) := by
  unfold State.listenWindowEnd
  repeat' first
    | (with_reducible first
        | assumption | rfl | intro _ | apply becomeManager_ok | apply hierMode_ok | apply sendJoin_ok
        | apply ok_ite | apply ok_ite_fst)
    | split | fail_if_no_progress ((with_reducible apply mk_ok) <;> (try with_reducible rfl))

theorem joinTimeout_ok {cq : List Instr} {s : State} (t : Nat) (h : Ok cq s) :
    Ok cq (State.joinTimeout s t) := by
  unfold State.joinTimeout
  repeat' first
    | (with_reducible first
        | assumption | rfl | intro _ | apply becomeIsland_ok | apply hierMode_ok | apply startElection_ok
        | apply ok_ite)

theorem heartbeatLoss_ok {cq : List Instr} {s : State} (t : Nat) (h : Ok cq s) :
    Ok cq (State.heartbeatLoss s t) := by
  unfold State.heartbeatLoss
  repeat' first
    | (with_reducible first
        | assumption | rfl | intro _ | apply startElection_ok | apply ok_ite)

theorem electionWindowEnd_ok {cq : List Instr} {s : State} (t : Nat) (h : Ok cq s) :
    Ok cq (State.electionWindowEnd s t) := by
  unfold State.electionWindowEnd
  repeat' first
    | (with_reducible first
        | assumption | rfl | intro _ | apply becomeIsland_ok | apply becomeManager_ok | apply hierEvent_ok
        | apply hsend_ok | apply hwithdraw_ok | apply ok_ite | apply ok_ite_fst)
    | split | fail_if_no_progress ((with_reducible apply mk_ok) <;> (try with_reducible rfl))

theorem electionRetry_ok {cq : List Instr} {s : State} (t : Nat) (h : Ok cq s) :
    Ok cq (State.electionRetry s t) := by
  unfold State.electionRetry
  repeat' first
    | (with_reducible first
        | assumption | rfl | intro _ | apply startElection_ok | apply ok_ite)

theorem memberTimers_ok {cq : List Instr} {s : State} (t : Nat) (h : Ok cq s) :
    Ok cq (State.memberTimers s t) := by
  unfold State.memberTimers
  repeat' first
    | (with_reducible first
        | assumption | rfl | intro _ | apply electionRetry_ok | apply electionWindowEnd_ok
        | apply heartbeatLoss_ok | apply joinTimeout_ok | apply listenWindowEnd_ok)

theorem receiveMsg_ok {cq : List Instr} (typ : Nat) (m : HMsg) {s : State} (f : State → State) (h : Ok cq s) (hf : ∀ s, Ok cq s → Ok cq (f s)) :
    Ok cq (receiveMsg typ m s f) := by
  unfold receiveMsg
  repeat' first
    | (with_reducible first
        | assumption | apply hf | rfl | intro _ | apply followBus_ok | apply indexConflict_ok
        | apply memberTimers_ok | apply modCan_ok | apply set_ok | apply syncFifo_ok | apply ok_ite
        | apply ok_ite_fst)
    | split | fail_if_no_progress ((with_reducible apply mk_ok) <;> (try with_reducible rfl))

end Sys2Proof.Laws
end

