-- ==== Sys2Proof/Laws/OkCanCmds.lean ====
section
/-! SUPPORT. The operations of Machine/CanCmds.lean keep a sound state sound and the queue as it is. -/

namespace Sys2Proof.Laws

open Sys2Proof.Machine

theorem canRefuse_ok {cq : List Instr} {s : State} (c : Nat) (h : Ok cq s) :
    Ok cq (State.canRefuse s c) := by
  unfold State.canRefuse
  repeat' first
    | (with_reducible first | assumption | rfl | intro _ | apply canInt_ok)

theorem abortTxb_ok {cq : List Instr} {s : State} (c : Nat) (b : Nat) (h : Ok cq s) :
    Ok cq (State.abortTxb s c b) := by
  unfold State.abortTxb
  repeat' first
    | (with_reducible first
        | assumption | rfl | intro _ | apply canInt_ok | apply modCan_ok | apply setTxb_ok | apply ok_ite)

theorem requestTxb_ok {cq : List Instr} {s : State} (c : Nat) (b : Nat) (h : Ok cq s) :
    Ok cq (State.requestTxb s c b) := by
  unfold State.requestTxb
  repeat' first
    | (with_reducible first
        | assumption | rfl | intro _ | apply canRefuse_ok | apply setTxb_ok | apply set_ok | apply ok_ite)

theorem canTxCmd_ok {cq : List Instr} {s : State} (c : Nat) (req : Nat) (abort : Nat) (h : Ok cq s) :
    Ok cq (State.canTxCmd s c req abort) := by
  unfold State.canTxCmd
  repeat' first
    | (with_reducible first
        | assumption | apply ok_foldl | apply ok_foldl_fst | rfl | intro _ | apply abortTxb_ok
        | apply requestTxb_ok)

theorem popFifo_ok {cq : List Instr} {s : State} (c : Nat) (h : Ok cq s) :
    Ok cq (State.popFifo s c) := by
  unfold State.popFifo
  repeat' first
    | (with_reducible first
        | assumption | rfl | intro _ | apply modCan_ok | apply syncFifo_ok)

theorem popsOver_ok {cq : List Instr} {s : State} (h : Ok cq s) :
    Ok cq (State.popsOver s) := by
  unfold State.popsOver
  repeat' first
    | (with_reducible first
        | assumption | rfl | intro _ | apply modCan_ok | apply ok_ite | apply ok_ite_fst)
    | split | fail_if_no_progress ((with_reducible apply mk_ok) <;> (try with_reducible rfl)) | dsimp only
    | (simp; done)

theorem popFirst_ok {cq : List Instr} {s : State} (c : Nat) (h : Ok cq s) :
    Ok cq (State.popFirst s c) := by
  unfold State.popFirst
  repeat' first
    | (with_reducible first
        | assumption | rfl | intro _ | apply modCan_ok | apply syncFifo_ok | apply ok_ite | apply ok_ite_fst)
    | split | fail_if_no_progress ((with_reducible apply mk_ok) <;> (try with_reducible rfl)) | dsimp only
    | (simp; done)

theorem canWrite_ok {cq : List Instr} {s : State} (c : Nat) (m : WMode) (off : Nat) (data : Nat) (h : Ok cq s) :
    Ok cq (State.canWrite s c m off data).1 := by
  unfold State.canWrite
  repeat' first
    | (with_reducible first
        | assumption | rfl | intro _ | apply applyWord_ok | apply canRefuse_ok | apply canTxCmd_ok
        | apply modCan_ok | apply popFifo_ok | apply ok_ite | apply ok_ite_fst)

theorem execCanModeWrite_ok {cq : List Instr} (can : Nat) (mode : Nat) {s : State} (h : Ok cq s) :
    OutOk cq (execCanModeWrite can mode s) := by
  unfold execCanModeWrite
  repeat' first
    | (with_reducible first
        | assumption | rfl | intro _ | apply canWrite_ok | apply ok_ite | apply ok_ite_fst | apply out_next
        | apply out_ite)

theorem execCanTimingWrite_ok {cq : List Instr} (can : Nat) (off : Nat) (data : Nat) {s : State} (h : Ok cq s) :
    OutOk cq (execCanTimingWrite can off data s) := by
  unfold execCanTimingWrite
  repeat' first
    | (with_reducible first
        | assumption | rfl | intro _ | apply canWrite_ok | apply ok_ite | apply ok_ite_fst | apply out_next
        | apply out_ite)

theorem execTxRequest_ok {cq : List Instr} (can : Nat) (mask : Nat) {s : State} (h : Ok cq s) :
    OutOk cq (execTxRequest can mask s) := by
  unfold execTxRequest
  repeat' first
    | (with_reducible first
        | assumption | rfl | intro _ | apply canWrite_ok | apply ok_ite | apply ok_ite_fst | apply out_next
        | apply out_ite)

theorem execTxAbort_ok {cq : List Instr} (can : Nat) (mask : Nat) (req : Nat) {s : State} (h : Ok cq s) :
    OutOk cq (execTxAbort can mask req s) := by
  unfold execTxAbort
  repeat' first
    | (with_reducible first
        | assumption | rfl | intro _ | apply canWrite_ok | apply ok_ite | apply ok_ite_fst | apply out_next
        | apply out_ite)

theorem execTxbWrite_ok {cq : List Instr} (can : Nat) (buf : Nat) (off : Nat) (data : Nat) {s : State} (h : Ok cq s) :
    OutOk cq (execTxbWrite can buf off data s) := by
  unfold execTxbWrite
  repeat' first
    | (with_reducible first
        | assumption | rfl | intro _ | apply canWrite_ok | apply ok_ite | apply ok_ite_fst | apply out_next
        | apply out_ite)

theorem execFifoPop_ok {cq : List Instr} (can : Nat) {s : State} (h : Ok cq s) :
    OutOk cq (execFifoPop can s) := by
  unfold execFifoPop
  repeat' first
    | (with_reducible first
        | assumption | rfl | intro _ | apply canWrite_ok | apply ok_ite | apply ok_ite_fst | apply out_next
        | apply out_ite)

theorem takeMode_ok {cq : List Instr} {s : State} (c : Nat) (h : Ok cq s) :
    Ok cq (State.takeMode s c) := by
  unfold State.takeMode
  repeat' first
    | (with_reducible first
        | assumption | rfl | intro _ | apply enterInit_ok | apply modCan_ok | apply set_ok | apply ok_ite)

theorem execCanModeChange_ok {cq : List Instr} (can : Nat) {s : State} (h : Ok cq s) :
    OutOk cq (execCanModeChange can s) := by
  unfold execCanModeChange
  repeat' first
    | (with_reducible first
        | assumption | rfl | intro _ | apply takeMode_ok | apply ok_ite | apply ok_ite_fst | apply out_next
        | apply out_ite)

theorem execCanSynced_ok {cq : List Instr} (can : Nat) (recessiveBits : Nat) {s : State} (h : Ok cq s) :
    OutOk cq (execCanSynced can recessiveBits s) := by
  unfold execCanSynced
  repeat' first
    | (with_reducible first
        | assumption | rfl | intro _ | apply set_ok | apply ok_ite | apply ok_ite_fst | apply out_next
        | apply out_ite)

theorem takeUse_ok {cq : List Instr} {s : State} (c : Nat) (u : Nat) (h : Ok cq s) :
    Ok cq (State.takeUse s c u) := by
  unfold State.takeUse
  repeat' first
    | (with_reducible first
        | assumption | rfl | intro _ | apply enterHierarchy_ok | apply enterInit_ok | apply hierSettle_ok
        | apply modCan_ok | apply requestDomain_ok | apply setB_ok | apply set_ok | apply ok_ite)

theorem execCanUseChange_ok {cq : List Instr} (can : Nat) {s : State} (h : Ok cq s) :
    OutOk cq (execCanUseChange can s) := by
  unfold execCanUseChange
  repeat' first
    | (with_reducible first
        | assumption | rfl | intro _ | apply leaveFirst_ok | apply modCan_ok | apply takeUse_ok | apply ok_ite
        | apply ok_ite_fst | apply out_next | apply out_ite)
    | exact out_fault | exact out_refused | split

theorem startAttempt_ok {cq : List Instr} {s : State} (c : Nat) (b : Nat) (h : Ok cq s) :
    Ok cq (State.startAttempt s c b) := by
  unfold State.startAttempt
  repeat' first
    | (with_reducible first
        | assumption | rfl | intro _ | apply modCan_ok | apply setTxb_ok | apply set_ok)

theorem feedTx_ok {cq : List Instr} {s : State} (c : Nat) (h : Ok cq s) :
    Ok cq (State.feedTx s c) := by
  unfold State.feedTx
  repeat' first
    | (with_reducible first
        | assumption | rfl | intro _ | apply loadTx_ok | apply pump_ok | apply ok_ite)

theorem execTxChoice_ok {cq : List Instr} (can : Nat) {s : State} (h : Ok cq s) :
    OutOk cq (execTxChoice can s) := by
  unfold execTxChoice
  repeat' first
    | (with_reducible first
        | assumption | rfl | intro _ | apply feedTx_ok | apply startAttempt_ok | apply ok_ite | apply ok_ite_fst
        | apply out_next | apply out_ite)
    | exact out_fault | exact out_refused | split

theorem execLoneSlot_ok {cq : List Instr} (can : Nat) {s : State} (h : Ok cq s) :
    OutOk cq (execLoneSlot can s) := by
  unfold execLoneSlot
  repeat' first
    | (with_reducible first
        | assumption | rfl | intro _ | apply feedTx_ok | apply modCan_ok | apply startAttempt_ok | apply ok_ite
        | apply ok_ite_fst | apply out_next | apply out_ite)
    | exact out_fault | exact out_refused | split
    | fail_if_no_progress ((with_reducible apply mk_ok) <;> (try with_reducible rfl)) | dsimp only

theorem raiseTec_ok {cq : List Instr} {s : State} (c : Nat) (n : Nat) (h : Ok cq s) :
    Ok cq (State.raiseTec s c n) := by
  unfold State.raiseTec
  repeat' first
    | (with_reducible first | assumption | rfl | intro _ | apply set_ok)

theorem raiseRec_ok {cq : List Instr} {s : State} (c : Nat) (n : Nat) (h : Ok cq s) :
    Ok cq (State.raiseRec s c n) := by
  unfold State.raiseRec
  repeat' first
    | (with_reducible first | assumption | rfl | intro _ | apply set_ok)

theorem enterBusOff_ok {cq : List Instr} {s : State} (c : Nat) (h : Ok cq s) :
    Ok cq (State.enterBusOff s c) := by
  unfold State.enterBusOff
  repeat' first
    | (with_reducible first
        | assumption | rfl | intro _ | apply canInt_ok | apply leaveLone_ok | apply modCan_ok | apply set_ok)

theorem failAttempt_ok {cq : List Instr} {s : State} (c : Nat) (b : Nat) (st : Nat) (h : Ok cq s) :
    Ok cq (State.failAttempt s c b st) := by
  unfold State.failAttempt
  repeat' first
    | (with_reducible first
        | assumption | rfl | intro _ | apply canInt_ok | apply modCan_ok | apply setTxb_ok | apply ok_ite)

theorem enterLone_ok {cq : List Instr} {s : State} (c : Nat) (h : Ok cq s) :
    Ok cq (State.enterLone s c) := by
  unfold State.enterLone
  repeat' first
    | (with_reducible first
        | assumption | rfl | intro _ | apply canInt_ok | apply hierEvent_ok | apply modCan_ok | apply noteLone_ok
        | apply set_ok)

theorem endLone_ok {cq : List Instr} {s : State} (c : Nat) (h : Ok cq s) :
    Ok cq (State.endLone s c) := by
  unfold State.endLone
  repeat' first
    | (with_reducible first
        | assumption | rfl | intro _ | apply canInt_ok | apply leaveLone_ok | apply ok_ite)

theorem attemptError_ok {cq : List Instr} {s : State} (c : Nat) (b : Nat) (lec : Nat) (dataPhase : Bool) (up : Nat) (h : Ok cq s) :
    Ok cq (State.attemptError s c b lec dataPhase up) := by
  unfold State.attemptError
  repeat' first
    | (with_reducible first
        | assumption | rfl | intro _ | apply canInt_ok | apply count_ok | apply enterBusOff_ok
        | apply enterLone_ok | apply failAttempt_ok | apply noteEstate_ok | apply raiseTec_ok | apply setB_ok
        | apply set_ok | apply ok_ite)

theorem acceptFrame_ok {cq : List Instr} {s : State} (c : Nat) (f : CanFrame) (stamp : Nat) (h : Ok cq s) :
    Ok cq (State.acceptFrame s c f stamp) := by
  unfold State.acceptFrame
  repeat' first
    | (with_reducible first
        | assumption | rfl | intro _ | apply accept_ok | apply canInt_ok | apply count_ok | apply modCan_ok
        | apply popFirst_ok | apply syncFifo_ok | apply ok_ite)

theorem attemptDone_ok {cq : List Instr} {s : State} (c : Nat) (b : Nat) (stamp : Nat) (h : Ok cq s) :
    Ok cq (State.attemptDone s c b stamp) := by
  unfold State.attemptDone
  repeat' first
    | (with_reducible first
        | assumption | rfl | intro _ | apply acceptFrame_ok | apply addTo_ok | apply canInt_ok | apply endLone_ok
        | apply hierSent_ok | apply modCan_ok | apply noteEstate_ok | apply setTxb_ok | apply set_ok
        | apply ok_ite)

theorem execCanTxAttemptEnd_ok {cq : List Instr} (can : Nat) (stamp : Nat) (loopDelay : Nat) (fin : TxEnd) {s : State} (h : Ok cq s) :
    OutOk cq (execCanTxAttemptEnd can stamp loopDelay fin s) := by
  unfold execCanTxAttemptEnd
  repeat' first
    | (with_reducible first
        | assumption | rfl | intro _ | apply OpOut_ok_ok | apply attemptDone_ok | apply attemptError_ok
        | apply count_ok | apply failAttempt_ok | apply setTxb_ok | apply set_ok | apply useFree_ok | apply ok_ite
        | apply ok_ite_fst | apply out_next | apply out_ite)
    | exact out_fault | exact out_refused | split

theorem rxError_ok {cq : List Instr} {s : State} (c : Nat) (lec : Nat) (dataPhase : Bool) (eights : Nat) (h : Ok cq s) :
    Ok cq (State.rxError s c lec dataPhase eights) := by
  unfold State.rxError
  repeat' first
    | (with_reducible first
        | assumption | rfl | intro _ | apply canInt_ok | apply noteEstate_ok | apply raiseRec_ok | apply setB_ok
        | apply set_ok)

theorem execCanRxError_ok {cq : List Instr} (can : Nat) (lec : Nat) (dataPhase : Bool) (eights : Nat) {s : State} (h : Ok cq s) :
    OutOk cq (execCanRxError can lec dataPhase eights s) := by
  unfold execCanRxError
  repeat' first
    | (with_reducible first
        | assumption | rfl | intro _ | apply rxError_ok | apply ok_ite | apply ok_ite_fst | apply out_next
        | apply out_ite)

theorem execCanFrameReceived_ok {cq : List Instr} (can : Nat) (frame : CanFrame) (stamp : Nat) {s : State} (h : Ok cq s) :
    OutOk cq (execCanFrameReceived can frame stamp s) := by
  unfold execCanFrameReceived
  repeat' first
    | (with_reducible first
        | assumption | rfl | intro _ | apply acceptFrame_ok | apply addTo_ok | apply endLone_ok
        | apply noteEstate_ok | apply rxError_ok | apply set_ok | apply useFree_ok | apply ok_ite
        | apply ok_ite_fst | apply out_next | apply out_ite)
    | exact out_fault | exact out_refused | split
    | fail_if_no_progress ((with_reducible apply mk_ok) <;> (try with_reducible rfl))

theorem execBusoffRecovery_ok {cq : List Instr} (can : Nat) (occurrences : Nat) {s : State} (h : Ok cq s) :
    OutOk cq (execBusoffRecovery can occurrences s) := by
  unfold execBusoffRecovery
  repeat' first
    | (with_reducible first
        | assumption | rfl | intro _ | apply canInt_ok | apply modCan_ok | apply set_ok | apply ok_ite
        | apply ok_ite_fst | apply out_next | apply out_ite)

end Sys2Proof.Laws
end

