-- ==== Sys2Proof/Laws/OkFeeds.lean ====
section
/-! SUPPORT. The operations of Machine/Feeds.lean keep a sound state sound and the queue as it is. -/

namespace Sys2Proof.Laws

open Sys2Proof.Machine

theorem feedRecord_ok {cq : List Instr} {s : State} (u : Nat) (code : Nat) (h : Ok cq s) :
    Ok cq (State.feedRecord s u code) := by
  unfold State.feedRecord
  repeat' first
    | (with_reducible first
        | assumption | rfl | intro _ | apply postEvent_ok | apply wake_ok)

theorem feedEvent_ok {cq : List Instr} {s : State} (u : Nat) (code : Nat) (h : Ok cq s) :
    Ok cq (State.feedEvent s u code) := by
  unfold State.feedEvent
  repeat' first
    | (with_reducible first
        | assumption | rfl | intro _ | apply feedRecord_ok | apply modFeed_ok | apply setBit_ok | apply ok_ite)

theorem readFeedEvents_ok {cq : List Instr} {s : State} (k : Nat) (h : Ok cq s) :
    Ok cq (State.readFeedEvents s k) := by
  unfold State.readFeedEvents
  repeat' first
    | (with_reducible first
        | assumption | apply ok_foldl | apply ok_foldl_fst | rfl | intro _ | apply feedRecord_ok
        | apply modFeed_ok | apply ok_ite)

theorem noteShare_ok {cq : List Instr} {s : State} (k : Nat) (h : Ok cq s) :
    Ok cq (State.noteShare s k) := by
  unfold State.noteShare
  repeat' first
    | (with_reducible first | assumption | rfl | intro _ | apply set_ok | apply ok_ite)

theorem dropPG_ok {cq : List Instr} {s : State} (k : Nat) (h : Ok cq s) :
    Ok cq (State.dropPG s k) := by
  unfold State.dropPG
  repeat' first
    | (with_reducible first
        | assumption | rfl | intro _ | apply modSkein_ok | apply set_ok | apply skeinEvent_ok | apply ok_ite)

theorem noteSettle_ok {cq : List Instr} {s : State} (k : Nat) (h : Ok cq s) :
    Ok cq (State.noteSettle s k) := by
  unfold State.noteSettle
  repeat' first
    | (with_reducible first
        | assumption | rfl | intro _ | apply dropPG_ok | apply modSkein_ok | apply set_ok | apply ok_ite
        | apply ok_ite_fst)
    | split

theorem toFeed_ok {cq : List Instr} {s : State} (u : Nat) (p : Nat) (h : Ok cq s) :
    Ok cq (State.toFeed s u p) := by
  unfold State.toFeed
  repeat' first
    | (with_reducible first
        | assumption | rfl | intro _ | apply feedsMoved_ok | apply modFeed_ok | apply noteSettle_ok
        | apply noteShare_ok | apply setB_ok | apply set_ok | apply ok_ite | apply ok_ite_fst)
    | split | fail_if_no_progress ((with_reducible apply mk_ok) <;> (try with_reducible rfl)) | dsimp only
    | (simp; done)

theorem letIn_ok {cq : List Instr} {s : State} (u : Nat) (h : Ok cq s) :
    Ok cq (State.letIn s u) := by
  unfold State.letIn
  repeat' first
    | (with_reducible first
        | assumption | rfl | intro _ | apply modFeed_ok | apply toFeed_ok | apply ok_ite)

theorem admitFeeds_ok {cq : List Instr} {s : State} (h : Ok cq s) :
    Ok cq (State.admitFeeds s) := by
  unfold State.admitFeeds
  repeat' first
    | (with_reducible first
        | assumption | apply ok_foldl | apply ok_foldl_fst | rfl | intro _ | apply letIn_ok | apply ok_ite
        | apply ok_ite_fst)
    | split | fail_if_no_progress ((with_reducible apply mk_ok) <;> (try with_reducible rfl)) | dsimp only
    | (simp; done)

theorem gateOff_ok {cq : List Instr} {s : State} (u : Nat) (h : Ok cq s) :
    Ok cq (State.gateOff s u) := by
  unfold State.gateOff
  repeat' first
    | (with_reducible first | assumption | rfl | intro _ | apply modFeed_ok)

theorem chargeCdly_ok {cq : List Instr} {s : State} (u : Nat) (h : Ok cq s) :
    Ok cq (State.chargeCdly s u) := by
  unfold State.chargeCdly
  repeat' first
    | (with_reducible first | assumption | rfl | intro _ | apply modFeed_ok)

theorem tripCauses_ok {cq : List Instr} {s : State} (u : Nat) (bits : List Nat) (h : Ok cq s) :
    Ok cq (State.tripCauses s u bits) := by
  unfold State.tripCauses
  repeat' first
    | (with_reducible first
        | assumption | apply ok_foldl | apply ok_foldl_fst | rfl | intro _ | apply count_ok | apply feedEvent_ok
        | apply modFeed_ok | apply ok_ite)

theorem feedTrip_ok {cq : List Instr} {s : State} (u : Nat) (bits : List Nat) (h : Ok cq s) :
    Ok cq (State.feedTrip s u bits) := by
  unfold State.feedTrip
  repeat' first
    | (with_reducible first
        | assumption | rfl | intro _ | apply chargeCdly_ok | apply dropPG_ok | apply feedEvent_ok
        | apply gateOff_ok | apply modFeed_ok | apply raiseFeedFault_ok | apply set_ok | apply toFeed_ok
        | apply tripCauses_ok | apply ok_ite)

theorem cdlyFailed_ok {cq : List Instr} {s : State} (u : Nat) (h : Ok cq s) :
    Ok cq (State.cdlyFailed s u) := by
  unfold State.cdlyFailed
  repeat' first
    | (with_reducible first
        | assumption | rfl | intro _ | apply feedEvent_ok | apply modFeed_ok | apply raiseFeedFault_ok
        | apply set_ok | apply toFeed_ok)

theorem feedDeferredRan_ok {cq : List Instr} {s : State} (u : Nat) (h : Ok cq s) :
    Ok cq (State.feedDeferredRan s u) := by
  unfold State.feedDeferredRan
  repeat' first
    | (with_reducible first
        | assumption | rfl | intro _ | apply markRun_ok | apply modFeed_ok | apply set_ok)

theorem afterCooldown_ok {cq : List Instr} {s : State} (u : Nat) (h : Ok cq s) :
    Ok cq (State.afterCooldown s u) := by
  unfold State.afterCooldown
  repeat' first
    | (with_reducible first
        | assumption | rfl | intro _ | apply feedDeferredRan_ok | apply toFeed_ok | apply ok_ite)

theorem feedReleaseLatch_ok {cq : List Instr} {s : State} (u : Nat) (h : Ok cq s) :
    Ok cq (State.feedReleaseLatch s u) := by
  unfold State.feedReleaseLatch
  repeat' first
    | (with_reducible first
        | assumption | rfl | intro _ | apply afterCooldown_ok | apply modFeed_ok | apply set_ok | apply toFeed_ok
        | apply ok_ite)

theorem startClearTest_ok {cq : List Instr} {s : State} (g : Gecko) (h : Ok cq s) :
    Ok cq (State.startClearTest s g) := by
  unfold State.startClearTest
  repeat' first
    | (with_reducible first
        | assumption | rfl | intro _ | apply modFeed_ok | apply ok_ite)

theorem deferFeed_ok {cq : List Instr} {s : State} (u : Nat) (q : Option ReqId) (h : Ok cq s) :
    Ok cq (State.deferFeed s u q) := by
  unfold State.deferFeed
  repeat' first
    | (with_reducible first
        | assumption | rfl | intro _ | apply displaceOpt_ok | apply modFeed_ok | apply set_ok | apply ok_ite)

theorem feedEnable_ok {cq : List Instr} {s : State} (u : Nat) (q : Option ReqId) (h : Ok cq s) :
    Ok cq (State.feedEnable s u q).1 := by
  unfold State.feedEnable
  repeat' first
    | (with_reducible first
        | assumption | rfl | intro _ | apply deferFeed_ok | apply set_ok | apply toFeed_ok | apply ok_ite
        | apply ok_ite_fst)

theorem feedDisable_ok {cq : List Instr} {s : State} (u : Nat) (force : Bool) (h : Ok cq s) :
    Ok cq (State.feedDisable s u force).1 := by
  unfold State.feedDisable
  repeat' first
    | (with_reducible first
        | assumption | rfl | intro _ | apply displaceOpt_ok | apply gateOff_ok | apply modFeed_ok | apply set_ok
        | apply toFeed_ok | apply ok_ite | apply ok_ite_fst)

theorem feedEnChange_ok {cq : List Instr} {s : State} (u : Nat) (en : Nat) (q : Option ReqId) (h : Ok cq s) :
    Ok cq (State.feedEnChange s u en q).1 := by
  unfold State.feedEnChange
  repeat' first
    | (with_reducible first
        | assumption | rfl | intro _ | apply feedDisable_ok | apply feedEnable_ok | apply ok_ite
        | apply ok_ite_fst)

theorem notePresent_ok {cq : List Instr} {s : State} (u : Nat) (was : Bool) (h : Ok cq s) :
    Ok cq (State.notePresent s u was) := by
  unfold State.notePresent
  repeat' first
    | (with_reducible first
        | assumption | rfl | intro _ | apply feedDeferredRan_ok | apply gateOff_ok | apply set_ok
        | apply toFeed_ok | apply ok_ite)

theorem feedCfgFields_ok {cq : List Instr} {s : State} (u : Nat) (v : Nat) (h : Ok cq s) :
    Ok cq (State.feedCfgFields s u v) := by
  unfold State.feedCfgFields
  repeat' first
    | (with_reducible first
        | assumption | rfl | intro _ | apply notePresent_ok | apply set_ok)

theorem feedCfgWrite_ok {cq : List Instr} {s : State} (u : Nat) (v : Nat) (q : Option ReqId) (h : Ok cq s) :
    OptOk cq (State.feedCfgWrite s u v q) := by
  unfold State.feedCfgWrite
  repeat' first
    | (with_reducible first
        | assumption | rfl | intro _ | apply feedCfgFields_ok | apply feedEnChange_ok | apply ok_ite
        | apply ok_ite_fst | apply opt_some | apply opt_ite)
    | exact opt_none

end Sys2Proof.Laws
end

