-- ==== Sys2Proof/Laws/OkClearing.lean ====
section
/-! SUPPORT. The operations of Machine/Clearing.lean keep a sound state sound and the queue as it is. -/

namespace Sys2Proof.Laws

open Sys2Proof.Machine

theorem dropCauses_ok {cq : List Instr} {s : State} (src : Nat) (gone : Gecko → Bool) (h : Ok cq s) :
    Ok cq (State.dropCauses s src gone) := by
  unfold State.dropCauses
  repeat' first
    | (with_reducible first
        | assumption | rfl | intro _ | apply noteClassMax_ok | apply setB_ok | apply ok_ite | apply ok_ite_fst)
    | split | fail_if_no_progress ((with_reducible apply mk_ok) <;> (try with_reducible rfl)) | dsimp only
    | (simp; done)

theorem dropGecko_ok {cq : List Instr} {s : State} (src : Nat) (h : Ok cq s) :
    Ok cq (State.dropGecko s src) := by
  unfold State.dropGecko
  repeat' first
    | (with_reducible first
        | assumption | rfl | intro _ | apply dropCauses_ok | apply ok_ite | apply ok_ite_fst)
    | split | fail_if_no_progress ((with_reducible apply mk_ok) <;> (try with_reducible rfl))

theorem relieve_ok {cq : List Instr} {s : State} (g : Gecko) (h : Ok cq s) :
    Ok cq (State.relieve s g) := by
  unfold State.relieve
  repeat' first
    | (with_reducible first
        | assumption | rfl | intro _ | apply fastClock_ok | apply feedReleaseLatch_ok | apply phyBack_ok
        | apply requestDomain_ok | apply settleDomains_ok | apply shuttleRelieved_ok | apply unfenceDomain_ok
        | apply ok_ite)

theorem takeClear_ok {cq : List Instr} (src : Nat) {s : State} (h : Ok cq s) :
    OptOk cq (takeClear src s) := by
  unfold takeClear
  repeat' first
    | (with_reducible first
        | assumption | apply ok_foldl | apply ok_foldl_fst | rfl | intro _ | apply dropGecko_ok | apply relieve_ok
        | apply ok_ite | apply ok_ite_fst | apply opt_some | apply opt_ite)
    | exact opt_none | split | fail_if_no_progress ((with_reducible apply mk_ok) <;> (try with_reducible rfl))
    | dsimp only | (simp; done)

theorem clearFault_ok {cq : List Instr} (src : Nat) {s : State} (h : Ok cq s) :
    Ok cq (clearFault src s).1 := by
  unfold clearFault
  repeat' first
    | (with_reducible first
        | assumption | apply ok_foldl | apply ok_foldl_fst | rfl | intro _ | apply startClearTest_ok
        | apply useFree_ok | apply ok_ite | apply ok_ite_fst | apply takeClear_ok
        | refine opt_elim ?_ _ (by assumption))
    | split | fail_if_no_progress ((with_reducible apply mk_ok) <;> (try with_reducible rfl))

theorem clearGeckos_ok {cq : List Instr} (reg : Nat) (mask : Nat) {s : State} (h : Ok cq s) :
    Ok cq (clearGeckos reg mask s) := by
  unfold clearGeckos
  repeat' first
    | (with_reducible first
        | assumption | apply ok_foldl | apply ok_foldl_fst | rfl | intro _ | apply clearFault_ok | apply ok_ite)

theorem endTraining_ok {cq : List Instr} (src : Nat) (pass : Bool) {s : State} (h : Ok cq s) :
    Ok cq (endTraining src pass s) := by
  unfold endTraining
  repeat' first
    | (with_reducible first
        | assumption | rfl | intro _ | apply dramChannelBack_ok | apply dropCauses_ok | apply linkTrained_ok
        | apply unfenceDomain_ok | apply ok_ite | apply ok_ite_fst)
    | split | fail_if_no_progress ((with_reducible apply mk_ok) <;> (try with_reducible rfl))

end Sys2Proof.Laws
end

