-- ==== Sys2Proof/Laws/OkDomainCmds.lean ====
section
/-! SUPPORT. The operations of Machine/DomainCmds.lean keep a sound state sound and the queue as it is. -/

namespace Sys2Proof.Laws

open Sys2Proof.Machine

theorem avsRequest_ok {cq : List Instr} {s : State} (h : Ok cq s) :
    Ok cq (State.avsRequest s) := by
  unfold State.avsRequest
  repeat' first
    | (with_reducible first
        | assumption | rfl | intro _ | apply set_ok | apply ok_ite | apply ok_ite_fst)
    | split | fail_if_no_progress ((with_reducible apply mk_ok) <;> (try with_reducible rfl))

theorem execDomainStepReady_ok {cq : List Instr} (domain : Nat) (sealOk : Bool) {s : State} (h : Ok cq s) :
    OutOk cq (execDomainStepReady domain sealOk s) := by
  unfold execDomainStepReady
  repeat' first
    | (with_reducible first
        | assumption | rfl | intro _ | apply beginStep_ok | apply domainCameOn_ok | apply finishOn_ok
        | apply raiseFault_ok | apply recheckLifecycle_ok | apply startPending_ok | apply ok_ite
        | apply ok_ite_fst | apply out_next | apply out_ite)

theorem execDomainStepTimeout_ok {cq : List Instr} (domain : Nat) {s : State} (h : Ok cq s) :
    OutOk cq (execDomainStepTimeout domain s) := by
  unfold execDomainStepTimeout
  repeat' first
    | (with_reducible first
        | assumption | rfl | intro _ | apply beginStep_ok | apply domainEvent_ok | apply fenceDomain_ok
        | apply modDom_ok | apply raiseFault_ok | apply ok_ite | apply ok_ite_fst | apply out_next | apply out_ite)

theorem abortWaiting_ok {cq : List Instr} {s : State} (c : Nat) (h : Ok cq s) :
    Ok cq (State.abortWaiting s c) := by
  unfold State.abortWaiting
  repeat' first
    | (with_reducible first
        | assumption | apply ok_foldl | apply ok_foldl_fst | rfl | intro _ | apply canInt_ok | apply setTxb_ok)

theorem quiesced_ok {cq : List Instr} {s : State} (d : Nat) (h : Ok cq s) :
    Ok cq (State.quiesced s d).1 := by
  unfold State.quiesced
  repeat' first
    | (with_reducible first
        | assumption | rfl | intro _ | apply abortWaiting_ok | apply leaveFirst_ok | apply ok_ite
        | apply ok_ite_fst)

theorem execDomainEntryComplete_ok {cq : List Instr} (domain : Nat) {s : State} (h : Ok cq s) :
    OutOk cq (execDomainEntryComplete domain s) := by
  unfold execDomainEntryComplete
  repeat' first
    | (with_reducible first
        | assumption | rfl | intro _ | apply avsRequest_ok | apply domainLeftOn_ok | apply finishEntry_ok
        | apply quiesced_ok | apply sessionCheck_ok | apply startPending_ok | apply ok_ite | apply ok_ite_fst
        | apply out_next | apply out_ite)

theorem execDomainClockStop_ok {cq : List Instr} (domain : Nat) {s : State} (h : Ok cq s) :
    OutOk cq (execDomainClockStop domain s) := by
  unfold execDomainClockStop
  repeat' first
    | (with_reducible first
        | assumption | rfl | intro _ | apply avsRequest_ok | apply modDom_ok | apply set_ok | apply ok_ite
        | apply ok_ite_fst | apply out_next | apply out_ite)
    | exact out_fault | exact out_refused | split
    | fail_if_no_progress ((with_reducible apply mk_ok) <;> (try with_reducible rfl))

theorem execIdleTimeout_ok {cq : List Instr} (domain : Nat) {s : State} (h : Ok cq s) :
    OutOk cq (execIdleTimeout domain s) := by
  unfold execIdleTimeout
  repeat' first
    | (with_reducible first
        | assumption | rfl | intro _ | apply modDom_ok | apply requestDomain_ok | apply ok_ite | apply ok_ite_fst
        | apply out_next | apply out_ite)

theorem domReqWrite_ok {cq : List Instr} (domain : Nat) (value : Nat) {s : State} (h : Ok cq s) :
    Ok cq (domReqWrite domain value s) := by
  unfold domReqWrite
  repeat' first
    | (with_reducible first
        | assumption | rfl | intro _ | apply requestDomain_ok | apply ok_ite)

theorem execDomReqWrite_ok {cq : List Instr} (domain : Nat) (value : Nat) {s : State} (h : Ok cq s) :
    OutOk cq (execDomReqWrite domain value s) := by
  unfold execDomReqWrite
  repeat' first
    | (with_reducible first
        | assumption | rfl | intro _ | apply domReqWrite_ok | apply ok_ite | apply ok_ite_fst | apply out_next)

theorem execAvsAck_ok {cq : List Instr} (readMv : Nat) {s : State} (h : Ok cq s) :
    OutOk cq (execAvsAck readMv s) := by
  unfold execAvsAck
  repeat' first
    | (with_reducible first
        | assumption | rfl | intro _ | apply avsRequest_ok | apply domainEvent_ok | apply setB_ok | apply set_ok
        | apply ok_ite | apply ok_ite_fst | apply out_next | apply out_ite)
    | exact out_fault | exact out_refused | split
    | fail_if_no_progress ((with_reducible apply mk_ok) <;> (try with_reducible rfl))

theorem execAvsNoAck_ok {cq : List Instr} {s : State} (h : Ok cq s) :
    OutOk cq (execAvsNoAck s) := by
  unfold execAvsNoAck
  repeat' first
    | (with_reducible first
        | assumption | rfl | intro _ | apply avsFallback_ok | apply avsRequest_ok | apply count_ok
        | apply raiseFault_ok | apply ok_ite | apply ok_ite_fst | apply out_next | apply out_ite)
    | exact out_fault | exact out_refused | split
    | fail_if_no_progress ((with_reducible apply mk_ok) <;> (try with_reducible rfl))

theorem execAvsRetry_ok {cq : List Instr} {s : State} (h : Ok cq s) :
    OutOk cq (execAvsRetry s) := by
  unfold execAvsRetry
  repeat' first
    | (with_reducible first
        | assumption | rfl | intro _ | apply set_ok | apply ok_ite | apply ok_ite_fst | apply out_next
        | apply out_ite)
    | exact out_fault | exact out_refused | split
    | fail_if_no_progress ((with_reducible apply mk_ok) <;> (try with_reducible rfl))

theorem execAddressMatch_ok {cq : List Instr} (addr : Nat) (i3c : Bool) {s : State} (h : Ok cq s) :
    OutOk cq (execAddressMatch addr i3c s) := by
  unfold execAddressMatch
  repeat' first
    | (with_reducible first
        | assumption | rfl | intro _ | apply touch_ok | apply wake_ok | apply ok_ite | apply ok_ite_fst
        | apply out_next | apply out_ite)
    | exact out_fault | exact out_refused | split
    | fail_if_no_progress ((with_reducible apply mk_ok) <;> (try with_reducible rfl))

theorem execUpstreamResumeDetect_ok {cq : List Instr} (lfps : Bool) {s : State} (h : Ok cq s) :
    OutOk cq (execUpstreamResumeDetect lfps s) := by
  unfold execUpstreamResumeDetect
  repeat' first
    | (with_reducible first
        | assumption | rfl | intro _ | apply wake_ok | apply ok_ite | apply ok_ite_fst | apply out_next)

theorem wakeInEdge_ok {cq : List Instr} {s : State} (h : Ok cq s) :
    Ok cq (State.wakeInEdge s) := by
  unfold State.wakeInEdge
  repeat' first
    | (with_reducible first
        | assumption | rfl | intro _ | apply count_ok | apply setBit_ok | apply wake_ok | apply ok_ite)

theorem execWakeInEdge_ok {cq : List Instr} (highNs : Nat) {s : State} (h : Ok cq s) :
    OutOk cq (execWakeInEdge highNs s) := by
  unfold execWakeInEdge
  repeat' first
    | (with_reducible first
        | assumption | rfl | intro _ | apply useFree_ok | apply wakeInEdge_ok | apply ok_ite | apply ok_ite_fst
        | apply out_next | apply out_ite)

theorem execAlarmFire_ok {cq : List Instr} (alarm : Nat) {s : State} (h : Ok cq s) :
    OutOk cq (execAlarmFire alarm s) := by
  unfold execAlarmFire
  repeat' first
    | (with_reducible first
        | assumption | rfl | intro _ | apply domainEvent_ok | apply set_ok | apply wake_ok | apply ok_ite
        | apply ok_ite_fst | apply out_next | apply out_ite)

theorem alarmArm_ok {cq : List Instr} (path : Path) (alarm : Nat) (high : Nat) {s : State} (h : Ok cq s) :
    Ok cq (alarmArm path alarm high s) := by
  unfold alarmArm
  repeat' first
    | (with_reducible first | assumption | rfl | intro _ | apply set_ok)

theorem execDebugWakeRequest_ok {cq : List Instr} (domain : Nat) (state : Nat) {s : State} (h : Ok cq s) :
    OutOk cq (execDebugWakeRequest domain state s) := by
  unfold execDebugWakeRequest
  repeat' first
    | (with_reducible first
        | assumption | rfl | intro _ | apply nameTarget_ok | apply requestDomain_ok | apply ok_ite
        | apply ok_ite_fst | apply out_next | apply out_ite)

end Sys2Proof.Laws
end

