-- ==== Sys2Proof/Laws/OkPortPower.lean ====
section
/-! SUPPORT. The operations of Machine/PortPower.lean keep a sound state sound and the queue as it is. -/

namespace Sys2Proof.Laws

open Sys2Proof.Machine

theorem execSoftstartComplete_ok {cq : List Instr} (port : Nat) (vbus : Nat) (rail : Nat) {s : State} (h : Ok cq s) :
    OutOk cq (execSoftstartComplete port vbus rail s) := by
  unfold execSoftstartComplete
  repeat' first
    | (with_reducible first
        | assumption | rfl | intro _ | apply toPower_ok | apply ok_ite | apply ok_ite_fst | apply out_next
        | apply out_ite)

theorem execSsTimeout_ok {cq : List Instr} (port : Nat) {s : State} (h : Ok cq s) :
    OutOk cq (execSsTimeout port s) := by
  unfold execSsTimeout
  repeat' first
    | (with_reducible first
        | assumption | rfl | intro _ | apply portTrip_ok | apply ok_ite | apply ok_ite_fst | apply out_next
        | apply out_ite)

theorem execPortCurrentLimit_ok {cq : List Instr} (port : Nat) (iMa : Int) {s : State} (h : Ok cq s) :
    OutOk cq (execPortCurrentLimit port iMa s) := by
  unfold execPortCurrentLimit
  repeat' first
    | (with_reducible first
        | assumption | rfl | intro _ | apply modPort_ok | apply toPower_ok | apply ok_ite | apply ok_ite_fst
        | apply out_next | apply out_ite)

theorem execPortLimitExit_ok {cq : List Instr} (port : Nat) (belowNs : Nat) {s : State} (h : Ok cq s) :
    OutOk cq (execPortLimitExit port belowNs s) := by
  unfold execPortLimitExit
  repeat' first
    | (with_reducible first
        | assumption | rfl | intro _ | apply set_ok | apply toPower_ok | apply ok_ite | apply ok_ite_fst
        | apply out_next | apply out_ite)

theorem shortTrip_ok {cq : List Instr} {s : State} (n : Nat) (iMa : Int) (h : Ok cq s) :
    Ok cq (State.shortTrip s n iMa) := by
  unfold State.shortTrip
  repeat' first
    | (with_reducible first
        | assumption | rfl | intro _ | apply portTrip_ok | apply ok_ite | apply ok_ite_fst)
    | split | fail_if_no_progress ((with_reducible apply mk_ok) <;> (try with_reducible rfl)) | dsimp only
    | (simp; done)

theorem execShortCircuitTrip_ok {cq : List Instr} (port : Nat) (iMa : Int) {s : State} (h : Ok cq s) :
    OutOk cq (execShortCircuitTrip port iMa s) := by
  unfold execShortCircuitTrip
  repeat' first
    | (with_reducible first
        | assumption | rfl | intro _ | apply shortTrip_ok | apply ok_ite | apply ok_ite_fst | apply out_next
        | apply out_ite)
    | exact out_fault | exact out_refused | split
    | fail_if_no_progress ((with_reducible apply mk_ok) <;> (try with_reducible rfl)) | dsimp only | (simp; done)

theorem stressReading_ok {cq : List Instr} {s : State} (n : Nat) (tj : Int) (h : Ok cq s) :
    Ok cq (State.stressReading s n tj) := by
  unfold State.stressReading
  repeat' first
    | (with_reducible first
        | assumption | rfl | intro _ | apply count_ok | apply modPort_ok | apply ok_ite)

theorem portSensor_ok {cq : List Instr} {s : State} (n : Nat) (reading : Int) (h : Ok cq s) :
    Ok cq (State.portSensor s n reading) := by
  unfold State.portSensor
  repeat' first
    | (with_reducible first
        | assumption | rfl | intro _ | apply portTrip_ok | apply set_ok | apply stressReading_ok | apply ok_ite
        | apply ok_ite_fst)
    | split | fail_if_no_progress ((with_reducible apply mk_ok) <;> (try with_reducible rfl)) | dsimp only
    | (simp; done)

theorem portModel_ok {cq : List Instr} {s : State} (n : Nat) (x : PortHeat) (h : Ok cq s) :
    Ok cq (State.portModel s n x) := by
  unfold State.portModel
  repeat' first
    | (with_reducible first
        | assumption | rfl | intro _ | apply modPort_ok | apply portTrip_ok | apply set_ok | apply ok_ite
        | apply ok_ite_fst)
    | split | fail_if_no_progress ((with_reducible apply mk_ok) <;> (try with_reducible rfl)) | dsimp only
    | (simp; done)

theorem execPortSensorRead_ok {cq : List Instr} (port : Nat) (reading : Int) {s : State} (h : Ok cq s) :
    OutOk cq (execPortSensorRead port reading s) := by
  unfold execPortSensorRead
  repeat' first
    | (with_reducible first
        | assumption | rfl | intro _ | apply portSensor_ok | apply ok_ite | apply ok_ite_fst | apply out_next
        | apply out_ite)
    | exact out_fault | exact out_refused | split
    | fail_if_no_progress ((with_reducible apply mk_ok) <;> (try with_reducible rfl)) | dsimp only | (simp; done)

theorem execPortModelUpdate_ok {cq : List Instr} (port : Nat) (heat : PortHeat) {s : State} (h : Ok cq s) :
    OutOk cq (execPortModelUpdate port heat s) := by
  unfold execPortModelUpdate
  repeat' first
    | (with_reducible first
        | assumption | rfl | intro _ | apply portModel_ok | apply ok_ite | apply ok_ite_fst | apply out_next
        | apply out_ite)
    | exact out_fault | exact out_refused | split
    | fail_if_no_progress ((with_reducible apply mk_ok) <;> (try with_reducible rfl)) | dsimp only | (simp; done)

theorem execPortFaultTimerExpiry_ok {cq : List Instr} (port : Nat) (shortMa : Option Int) (sensor : Option Int) (model : Option PortHeat) {s : State} (h : Ok cq s) :
    OutOk cq (execPortFaultTimerExpiry port shortMa sensor model s) := by
  unfold execPortFaultTimerExpiry
  repeat' first
    | (with_reducible first
        | assumption | rfl | intro _ | apply portModel_ok | apply portSensor_ok | apply portTrip_ok
        | apply shortTrip_ok | apply ok_ite | apply ok_ite_fst | apply out_next | apply out_ite)
    | exact out_fault | exact out_refused | split
    | fail_if_no_progress ((with_reducible apply mk_ok) <;> (try with_reducible rfl)) | dsimp only | (simp; done)

theorem execPortReverseBlock_ok {cq : List Instr} (port : Nat) (vbus : Nat) (rail : Nat) {s : State} (h : Ok cq s) :
    OutOk cq (execPortReverseBlock port vbus rail s) := by
  unfold execPortReverseBlock
  repeat' first
    | (with_reducible first
        | assumption | rfl | intro _ | apply modPort_ok | apply powerEvent_ok | apply powerMoved_ok | apply set_ok
        | apply ok_ite | apply ok_ite_fst | apply out_next | apply out_ite)

theorem execPortReverseRelease_ok {cq : List Instr} (port : Nat) (vbus : Nat) (rail : Nat) (forNs : Nat) {s : State} (h : Ok cq s) :
    OutOk cq (execPortReverseRelease port vbus rail forNs s) := by
  unfold execPortReverseRelease
  repeat' first
    | (with_reducible first
        | assumption | rfl | intro _ | apply powerMoved_ok | apply set_ok | apply ok_ite | apply ok_ite_fst
        | apply out_next | apply out_ite)

theorem execVbusBackfeedClear_ok {cq : List Instr} (port : Nat) (belowNs : Nat) {s : State} (h : Ok cq s) :
    OutOk cq (execVbusBackfeedClear port belowNs s) := by
  unfold execVbusBackfeedClear
  repeat' first
    | (with_reducible first
        | assumption | rfl | intro _ | apply evalPower_ok | apply modPort_ok | apply toPower_ok | apply ok_ite
        | apply ok_ite_fst | apply out_next | apply out_ite)

theorem execDischargeComplete_ok {cq : List Instr} (port : Nat) (vbus : Nat) {s : State} (h : Ok cq s) :
    OutOk cq (execDischargeComplete port vbus s) := by
  unfold execDischargeComplete
  repeat' first
    | (with_reducible first
        | assumption | rfl | intro _ | apply reachOff_ok | apply ok_ite | apply ok_ite_fst | apply out_next
        | apply out_ite)

theorem execDischargeDisconnect_ok {cq : List Instr} (port : Nat) (belowNs : Nat) {s : State} (h : Ok cq s) :
    OutOk cq (execDischargeDisconnect port belowNs s) := by
  unfold execDischargeDisconnect
  repeat' first
    | (with_reducible first
        | assumption | rfl | intro _ | apply modPort_ok | apply ok_ite | apply ok_ite_fst | apply out_next
        | apply out_ite)

theorem execRetryPeriodExpiry_ok {cq : List Instr} (port : Nat) {s : State} (h : Ok cq s) :
    OutOk cq (execRetryPeriodExpiry port s) := by
  unfold execRetryPeriodExpiry
  repeat' first
    | (with_reducible first
        | assumption | rfl | intro _ | apply modPort_ok | apply ok_ite | apply ok_ite_fst | apply out_next
        | apply out_ite)

theorem execRetryEnd_ok {cq : List Instr} (port : Nat) (vbus : Nat) {s : State} (h : Ok cq s) :
    OutOk cq (execRetryEnd port vbus s) := by
  unfold execRetryEnd
  repeat' first
    | (with_reducible first
        | assumption | rfl | intro _ | apply reachOff_ok | apply ok_ite | apply ok_ite_fst | apply out_next
        | apply out_ite)

theorem execPortRetryReload_ok {cq : List Instr} (port : Nat) {s : State} (h : Ok cq s) :
    OutOk cq (execPortRetryReload port s) := by
  unfold execPortRetryReload
  repeat' first
    | (with_reducible first
        | assumption | rfl | intro _ | apply set_ok | apply ok_ite | apply ok_ite_fst | apply out_next
        | apply out_ite)

theorem execPortStuckOn_ok {cq : List Instr} (port : Nat) (iMa : Int) {s : State} (h : Ok cq s) :
    OutOk cq (execPortStuckOn port iMa s) := by
  unfold execPortStuckOn
  repeat' first
    | (with_reducible first
        | assumption | rfl | intro _ | apply raisePortFault_ok | apply ok_ite | apply ok_ite_fst | apply out_next
        | apply out_ite)

theorem feedWindow_ok {cq : List Instr} {s : State} (u : Nat) (h : Ok cq s) :
    Ok cq (State.feedWindow s u) := by
  unfold State.feedWindow
  repeat' first
    | (with_reducible first
        | assumption | rfl | intro _ | apply modFeed_ok | apply set_ok | apply ok_ite)

theorem portWindow_ok {cq : List Instr} {s : State} (w : Nat) (n : Nat) (h : Ok cq s) :
    Ok cq (State.portWindow s w n) := by
  unfold State.portWindow
  repeat' first
    | (with_reducible first
        | assumption | rfl | intro _ | apply modPort_ok | apply set_ok | apply ok_ite)

theorem skeinWindow_ok {cq : List Instr} {s : State} (w : Nat) (k : Nat) (h : Ok cq s) :
    Ok cq (State.skeinWindow s w k) := by
  unfold State.skeinWindow
  repeat' first
    | (with_reducible first
        | assumption | rfl | intro _ | apply modSkein_ok | apply set_ok | apply ok_ite)

theorem shedSteps_ok {cq : List Instr} {s : State} (k : Nat) (x1 : Nat) (x2 : Int) (h : Ok cq s) :
    Ok cq (State.shedSteps s k x1 x2) := by
  induction x1 generalizing s x2 with
  | zero => unfold State.shedSteps; assumption
  | succ n ih =>
    unfold State.shedSteps
    repeat' first
      | (with_reducible first
          | assumption | apply ih | rfl | intro _ | apply decideRp_ok | apply modPort_ok | apply powerEvent_ok
          | apply set_ok | apply ok_ite | apply ok_ite_fst)
      | split

theorem noteFloor_ok {cq : List Instr} {s : State} (k : Nat) (above : Bool) (h : Ok cq s) :
    Ok cq (State.noteFloor s k above) := by
  unfold State.noteFloor
  repeat' first
    | (with_reducible first
        | assumption | rfl | intro _ | apply set_ok | apply skeinEvent_ok | apply ok_ite)

theorem noteHeadroom_ok {cq : List Instr} {s : State} (k : Nat) (start : Nat) (h : Ok cq s) :
    Ok cq (State.noteHeadroom s k start) := by
  unfold State.noteHeadroom
  repeat' first
    | (with_reducible first
        | assumption | rfl | intro _ | apply modSkein_ok | apply ok_ite | apply ok_ite_fst)
    | split

theorem budgetWindow_ok {cq : List Instr} {s : State} (start : Nat) (k : Nat) (h : Ok cq s) :
    Ok cq (State.budgetWindow s start k) := by
  unfold State.budgetWindow
  repeat' first
    | (with_reducible first
        | assumption | rfl | intro _ | apply modSkein_ok | apply noteFloor_ok | apply noteHeadroom_ok
        | apply setB_ok | apply shedSteps_ok | apply startShedHold_ok | apply ok_ite)

theorem answerMeas_ok {cq : List Instr} {s : State} (h : Ok cq s) :
    Ok cq (State.answerMeas s) := by
  unfold State.answerMeas
  repeat' first
    | (with_reducible first
        | assumption | apply ok_foldl | apply ok_foldl_fst | rfl | intro _ | apply answer_ok | apply ok_ite
        | apply ok_ite_fst)
    | split | fail_if_no_progress ((with_reducible apply mk_ok) <;> (try with_reducible rfl))

theorem closeWindow_ok {cq : List Instr} {s : State} (h : Ok cq s) :
    Ok cq (State.closeWindow s) := by
  unfold State.closeWindow
  repeat' first
    | (with_reducible first
        | assumption | apply ok_foldl | apply ok_foldl_fst | rfl | intro _ | apply answerMeas_ok
        | apply budgetWindow_ok | apply feedWindow_ok | apply noteShare_ok | apply portWindow_ok
        | apply skeinWindow_ok | apply ok_ite | apply ok_ite_fst)
    | split | fail_if_no_progress ((with_reducible apply mk_ok) <;> (try with_reducible rfl))

theorem execMeasurementWindowEnd_ok {cq : List Instr} {s : State} (h : Ok cq s) :
    OutOk cq (execMeasurementWindowEnd s) := by
  unfold execMeasurementWindowEnd
  repeat' first
    | (with_reducible first
        | assumption | rfl | intro _ | apply closeWindow_ok | apply ok_ite | apply ok_ite_fst | apply out_next)

theorem execPortSample_ok {cq : List Instr} (port : Nat) (vbus : Nat) (iMa : Int) {s : State} (h : Ok cq s) :
    OutOk cq (execPortSample port vbus iMa s) := by
  unfold execPortSample
  repeat' first
    | (with_reducible first
        | assumption | rfl | intro _ | apply closeWindow_ok | apply count_ok | apply modPort_ok | apply ok_ite
        | apply ok_ite_fst | apply out_next | apply out_ite)

theorem execRpLevelApplied_ok {cq : List Instr} (port : Nat) {s : State} (h : Ok cq s) :
    OutOk cq (execRpLevelApplied port s) := by
  unfold execRpLevelApplied
  repeat' first
    | (with_reducible first
        | assumption | rfl | intro _ | apply modPort_ok | apply setRp_ok | apply set_ok | apply ok_ite
        | apply ok_ite_fst | apply out_next | apply out_ite)
    | exact out_fault | exact out_refused | split

theorem execShedHoldEnd_ok {cq : List Instr} (skein : Nat) {s : State} (h : Ok cq s) :
    OutOk cq (execShedHoldEnd skein s) := by
  unfold execShedHoldEnd
  repeat' first
    | (with_reducible first
        | assumption | rfl | intro _ | apply set_ok | apply ok_ite | apply ok_ite_fst | apply out_next
        | apply out_ite)
    | exact out_fault | exact out_refused | split

theorem execShedCapRestore_ok {cq : List Instr} (skein : Nat) {s : State} (h : Ok cq s) :
    OutOk cq (execShedCapRestore skein s) := by
  unfold execShedCapRestore
  repeat' first
    | (with_reducible first
        | assumption | rfl | intro _ | apply decideRp_ok | apply grant_ok | apply modPort_ok | apply modSkein_ok
        | apply setB_ok | apply ok_ite | apply ok_ite_fst | apply out_next | apply out_ite)
    | exact out_fault | exact out_refused | split

theorem execComplianceCheck_ok {cq : List Instr} (port : Nat) {s : State} (h : Ok cq s) :
    OutOk cq (execComplianceCheck port s) := by
  unfold execComplianceCheck
  repeat' first
    | (with_reducible first
        | assumption | rfl | intro _ | apply count_ok | apply modPort_ok | apply powerEvent_ok | apply ok_ite
        | apply ok_ite_fst | apply out_next | apply out_ite)
    | exact out_fault | exact out_refused | split
    | fail_if_no_progress ((with_reducible apply mk_ok) <;> (try with_reducible rfl)) | dsimp only

theorem execSinkLimitImposed_ok {cq : List Instr} (port : Nat) {s : State} (h : Ok cq s) :
    OutOk cq (execSinkLimitImposed port s) := by
  unfold execSinkLimitImposed
  repeat' first
    | (with_reducible first
        | assumption | rfl | intro _ | apply modPort_ok | apply powerEvent_ok | apply set_ok | apply ok_ite
        | apply ok_ite_fst | apply out_next | apply out_ite)
    | exact out_fault | exact out_refused | split
    | fail_if_no_progress ((with_reducible apply mk_ok) <;> (try with_reducible rfl)) | dsimp only

theorem execCcOvervoltage_ok {cq : List Instr} (port : Nat) (mv : Nat) (belowNs : Nat) {s : State} (h : Ok cq s) :
    OutOk cq (execCcOvervoltage port mv belowNs s) := by
  unfold execCcOvervoltage
  repeat' first
    | (with_reducible first
        | assumption | rfl | intro _ | apply modPort_ok | apply ok_ite | apply ok_ite_fst | apply out_next
        | apply out_ite)

theorem vbusOn_ok {cq : List Instr} {s : State} (n : Nat) (q : Option ReqId) (h : Ok cq s) :
    Ok cq (State.vbusOn s n q).1 := by
  unfold State.vbusOn
  repeat' first
    | (with_reducible first
        | assumption | rfl | intro _ | apply displaceOpt_ok | apply evalPower_ok | apply modPort_ok | apply set_ok
        | apply ok_ite | apply ok_ite_fst)

theorem latchClear_ok {cq : List Instr} {s : State} (n : Nat) (h : Ok cq s) :
    Ok cq (State.latchClear s n).1 := by
  unfold State.latchClear
  repeat' first
    | (with_reducible first
        | assumption | rfl | intro _ | apply set_ok | apply toPower_ok | apply ok_ite | apply ok_ite_fst)

theorem pwrCfgFields_ok {cq : List Instr} {s : State} (n : Nat) (v : Nat) (h : Ok cq s) :
    Ok cq (State.pwrCfgFields s n v) := by
  unfold State.pwrCfgFields
  repeat' first
    | (with_reducible first
        | assumption | rfl | intro _ | apply duePass_ok | apply set_ok | apply ok_ite)

theorem pwrCfgWrite_ok {cq : List Instr} {s : State} (n : Nat) (v : Nat) (h : Ok cq s) :
    OptOk cq (State.pwrCfgWrite s n v) := by
  unfold State.pwrCfgWrite
  repeat' first
    | (with_reducible first
        | assumption | rfl | intro _ | apply pwrCfgFields_ok | apply vbusClear_ok | apply vbusOn_ok | apply ok_ite
        | apply ok_ite_fst | apply opt_some | apply opt_ite)
    | exact opt_none

theorem pwrLimitFields_ok {cq : List Instr} {s : State} (n : Nat) (ilim : Nat) (ftime : Nat) (slew : Nat) (per : Nat) (h : Ok cq s) :
    Ok cq (State.pwrLimitFields s n ilim ftime slew per) := by
  unfold State.pwrLimitFields
  repeat' first
    | (with_reducible first
        | assumption | rfl | intro _ | apply duePass_ok | apply set_ok | apply ok_ite)

end Sys2Proof.Laws
end

