-- ==== Sys2Proof/Laws/OkUsb.lean ====
section
/-! SUPPORT. The operations of Machine/Usb.lean keep a sound state sound and the queue as it is. -/

namespace Sys2Proof.Laws

open Sys2Proof.Machine

theorem devEvent_ok {cq : List Instr} {s : State} (d : Dev) (code : Nat) (extra : Nat) (h : Ok cq s) :
    Ok cq (State.devEvent s d code extra) := by
  unfold State.devEvent
  repeat' first
    | (with_reducible first | assumption | rfl | intro _ | apply shutEvent_ok)

theorem treeActive_ok {cq : List Instr} {s : State} (n : Nat) (h : Ok cq s) :
    Ok cq (State.treeActive s n) := by
  unfold State.treeActive
  repeat' first
    | (with_reducible first | assumption | rfl | intro _ | apply modPort_ok)

theorem enumRequest_ok {cq : List Instr} {s : State} (d : Dev) (r : EnumReq) (h : Ok cq s) :
    Ok cq (State.enumRequest s d r) := by
  unfold State.enumRequest
  repeat' first
    | (with_reducible first | assumption | rfl | intro _ | apply modDev_ok)

theorem enumNext_ok {cq : List Instr} {s : State} (port : Nat) (route : Nat) (r : EnumReq) (h : Ok cq s) :
    Ok cq (State.enumNext s port route r) := by
  unfold State.enumNext
  repeat' first
    | (with_reducible first
        | assumption | rfl | intro _ | apply enumRequest_ok | apply modDev_ok | apply stage_ok | apply ok_ite
        | apply ok_ite_fst)
    | split

theorem devRejected_ok {cq : List Instr} {s : State} (d : Dev) (reason : Nat) (h : Ok cq s) :
    Ok cq (State.devRejected s d reason) := by
  unfold State.devRejected
  repeat' first
    | (with_reducible first
        | assumption | rfl | intro _ | apply devEvent_ok | apply dropContexts_ok | apply freeReserve_ok
        | apply modDev_ok | apply noteWaiting_ok | apply stage_ok | apply ok_ite)

theorem attemptFailed_ok {cq : List Instr} {s : State} (d : Dev) (status : Nat) (h : Ok cq s) :
    Ok cq (State.attemptFailed s d status) := by
  unfold State.attemptFailed
  repeat' first
    | (with_reducible first
        | assumption | rfl | intro _ | apply devEvent_ok | apply dropContexts_ok | apply endTree_ok
        | apply enumFail_ok | apply freeReserve_ok | apply modDev_ok | apply noteWaiting_ok | apply stage_ok
        | apply ok_ite)

theorem allocEps_ok {cq : List Instr} {s : State} (port route : Nat) (cfg l : List Nat) (h : Ok cq s) :
    Ok cq (s.allocEps port route cfg l) := by
  induction l generalizing s with
  | nil => exact h
  | cons a r ih =>
    unfold State.allocEps
    split
    · exact ih (modDev_ok _ _ _ (allocCtx_ok _ _ _ h))
    · exact ih h

theorem poolShort_ok {cq : List Instr} {s : State} (d : Dev) (need : Nat) (h : Ok cq s) :
    Ok cq (State.poolShort s d need) := by
  unfold State.poolShort
  repeat' first
    | (with_reducible first
        | assumption | rfl | intro _ | apply dropContexts_ok | apply freeReserve_ok | apply lifeEvent_ok
        | apply modDev_ok | apply noteWaiting_ok | apply setAtt_ok | apply stage_ok | apply ok_ite)

theorem enumDone_ok {cq : List Instr} {s : State} (d : Dev) (h : Ok cq s) :
    Ok cq (State.enumDone s d) := by
  unfold State.enumDone
  repeat' first
    | (with_reducible first
        | assumption | rfl | intro _ | apply allocEps_ok | apply devEvent_ok | apply freeReserve_ok
        | apply modCtx_ok | apply modDev_ok | apply openHandle_ok | apply poolShort_ok | apply present_ok
        | apply stage_ok | apply treeActive_ok | apply ok_ite | apply ok_ite_fst)
    | split

theorem hubPortConnect_ok {cq : List Instr} {s : State} (h0 : Dev) (p : Nat) (h : Ok cq s) :
    Ok cq (State.hubPortConnect s h0 p) := by
  unfold State.hubPortConnect
  repeat' first
    | (with_reducible first
        | assumption | rfl | intro _ | apply beginAttempt_ok | apply devRejected_ok | apply treeActive_ok
        | apply ok_ite | apply ok_ite_fst)
    | split | fail_if_no_progress ((with_reducible apply mk_ok) <;> (try with_reducible rfl))

theorem devGone_ok {cq : List Instr} {s : State} (d : Dev) (h : Ok cq s) :
    Ok cq (State.devGone s d) := by
  unfold State.devGone
  repeat' first
    | (with_reducible first
        | assumption | apply ok_foldl | apply ok_foldl_fst | rfl | intro _ | apply devEvent_ok | apply endDev_ok
        | apply treeActive_ok)

theorem fillRecs_ok {cq : List Instr} {s : State} (n : Nat) (last : Bool) (x1 : Nat) (h : Ok cq s) :
    Ok cq (State.fillRecs s n last x1) := by
  induction x1 generalizing s with
  | zero => unfold State.fillRecs; assumption
  | succ n ih =>
    unfold State.fillRecs
    repeat' first
      | (with_reducible first
          | assumption | apply ih | rfl | intro _ | apply formRec_ok | apply modCtx_ok | apply ok_ite
          | apply ok_ite_fst)
      | split | fail_if_no_progress ((with_reducible apply mk_ok) <;> (try with_reducible rfl)) | dsimp only
      | (simp; done)

theorem placeIn_ok {cq : List Instr} {s : State} (n : Nat) (data : List Nat) (last : Bool) (h : Ok cq s) :
    Ok cq (State.placeIn s n data last) := by
  unfold State.placeIn
  repeat' first
    | (with_reducible first
        | assumption | rfl | intro _ | apply fillRecs_ok | apply modCtx_ok | apply notePages_ok | apply ok_ite
        | apply ok_ite_fst)
    | split | fail_if_no_progress ((with_reducible apply mk_ok) <;> (try with_reducible rfl)) | dsimp only
    | (simp; done)

theorem endIn_ok {cq : List Instr} {s : State} (n : Nat) (status : Nat) (h : Ok cq s) :
    Ok cq (State.endIn s n status) := by
  unfold State.endIn
  repeat' first
    | (with_reducible first
        | assumption | rfl | intro _ | apply formRec_ok | apply modCtx_ok | apply notePages_ok | apply ok_ite
        | apply ok_ite_fst)
    | split | fail_if_no_progress ((with_reducible apply mk_ok) <;> (try with_reducible rfl)) | dsimp only
    | (simp; done)

theorem clearHubTt_ok {cq : List Instr} {s : State} (c : Ctx) (h : Ok cq s) :
    Ok cq (State.clearHubTt s c) := by
  unfold State.clearHubTt
  repeat' first
    | (with_reducible first
        | assumption | rfl | intro _ | apply ttClear_ok | apply ok_ite | apply ok_ite_fst)
    | split | fail_if_no_progress ((with_reducible apply mk_ok) <;> (try with_reducible rfl))

theorem haltEp_ok {cq : List Instr} {s : State} (n : Nat) (status : Nat) (h : Ok cq s) :
    Ok cq (State.haltEp s n status) := by
  unfold State.haltEp
  repeat' first
    | (with_reducible first
        | assumption | rfl | intro _ | apply clearHubTt_ok | apply completion_ok | apply flushPart_ok
        | apply formEventRec_ok | apply modCtx_ok | apply ok_ite | apply ok_ite_fst)
    | split | fail_if_no_progress ((with_reducible apply mk_ok) <;> (try with_reducible rfl)) | dsimp only

theorem dropLater_ok {cq : List Instr} {s : State} (d : Dev) (h : Ok cq s) :
    Ok cq (State.dropLater s d) := by
  unfold State.dropLater
  repeat' first
    | (with_reducible first
        | assumption | rfl | intro _ | apply freeReserve_ok | apply modDev_ok | apply ok_ite | apply ok_ite_fst)
    | split | fail_if_no_progress ((with_reducible apply mk_ok) <;> (try with_reducible rfl)) | dsimp only
    | (simp; done)

theorem endTransfers_ok {cq : List Instr} {s : State} (d : Dev) (status : Nat) (h : Ok cq s) :
    Ok cq (State.endTransfers s d status) := by
  unfold State.endTransfers
  repeat' first
    | (with_reducible first
        | assumption | apply ok_foldl | apply ok_foldl_fst | rfl | intro _ | apply clearHubTt_ok
        | apply completion_ok | apply dropLater_ok | apply flushPart_ok | apply settleStored_ok | apply ok_ite)

theorem startDevReset_ok {cq : List Instr} {s : State} (d : Dev) (h : Ok cq s) :
    Ok cq (State.startDevReset s d) := by
  unfold State.startDevReset
  repeat' first
    | (with_reducible first
        | assumption | rfl | intro _ | apply endTransfers_ok | apply modDev_ok)

theorem resumeTree_ok {cq : List Instr} {s : State} (n : Nat) (cause : Nat) (h : Ok cq s) :
    Ok cq (State.resumeTree s n cause) := by
  unfold State.resumeTree
  repeat' first
    | (with_reducible first
        | assumption | rfl | intro _ | apply modPort_ok | apply ok_ite)

theorem fetchNext_ok {cq : List Instr} {s : State} (j : Nat) (g : Nat) (mf : Nat) (h : Ok cq s) :
    Ok cq (State.fetchNext s j g mf) := by
  unfold State.fetchNext
  repeat' first
    | (with_reducible first
        | assumption | rfl | intro _ | apply modShut_ok | apply ok_ite | apply ok_ite_fst)
    | split | fail_if_no_progress ((with_reducible apply mk_ok) <;> (try with_reducible rfl)) | dsimp only
    | (simp; done)

theorem countTurn_ok {cq : List Instr} {s : State} (c : Ctx) (mf : Nat) (h : Ok cq s) :
    Ok cq (State.countTurn s c mf) := by
  unfold State.countTurn
  repeat' first
    | (with_reducible first
        | assumption | rfl | intro _ | apply modPort_ok | apply ok_ite | apply ok_ite_fst)
    | split | fail_if_no_progress ((with_reducible apply mk_ok) <;> (try with_reducible rfl)) | dsimp only
    | (simp; done)

theorem tookTurn_ok {cq : List Instr} {s : State} (c : Ctx) (mf : Nat) (h : Ok cq s) :
    Ok cq (State.tookTurn s c mf) := by
  unfold State.tookTurn
  repeat' first
    | (with_reducible first
        | assumption | rfl | intro _ | apply countTurn_ok | apply fetchNext_ok | apply ok_ite)

theorem passTurn_ok {cq : List Instr} {s : State} (c : Ctx) (h : Ok cq s) :
    Ok cq (State.passTurn s c) := by
  unfold State.passTurn
  repeat' first
    | (with_reducible first
        | assumption | rfl | intro _ | apply modPort_ok | apply ok_ite | apply ok_ite_fst)
    | split | fail_if_no_progress ((with_reducible apply mk_ok) <;> (try with_reducible rfl)) | dsimp only
    | (simp; done)

end Sys2Proof.Laws
end

