-- ==== Sys2Proof/Laws/OkShuttleCmds.lean ====
section
/-! SUPPORT. The operations of Machine/ShuttleCmds.lean keep a sound state sound and the queue as it is. -/

namespace Sys2Proof.Laws

open Sys2Proof.Machine

theorem missInterval_ok {cq : List Instr} {s : State} (n : Nat) (start : Nat) (h : Ok cq s) :
    Ok cq (State.missInterval s n start) := by
  unfold State.missInterval
  repeat' first
    | (with_reducible first
        | assumption | rfl | intro _ | apply completionAt_ok | apply modCtx_ok | apply ok_ite | apply ok_ite_fst)
    | split

theorem missNext_ok {cq : List Instr} {s : State} (n : Nat) (x1 : Nat) (h : Ok cq s) :
    Ok cq (State.missNext s n x1) := by
  induction x1 generalizing s with
  | zero => unfold State.missNext; assumption
  | succ n ih =>
    unfold State.missNext
    repeat' first
      | (with_reducible first
          | assumption | apply ih | rfl | intro _ | apply missInterval_ok | apply modCtx_ok | apply ok_ite
          | apply ok_ite_fst)
      | split

theorem closeIntervals_ok {cq : List Instr} {s : State} (g : Nat) (mf : Nat) (h : Ok cq s) :
    Ok cq (State.closeIntervals s g mf) := by
  unfold State.closeIntervals
  repeat' first
    | (with_reducible first
        | assumption | apply ok_foldl | apply ok_foldl_fst | rfl | intro _ | apply missNext_ok)

theorem restartEnums_ok {cq : List Instr} {s : State} (g : Nat) (h : Ok cq s) :
    Ok cq (State.restartEnums s g) := by
  unfold State.restartEnums
  repeat' first
    | (with_reducible first
        | assumption | apply ok_foldl | apply ok_foldl_fst | rfl | intro _ | apply startEnum_ok | apply ok_ite)

theorem sendSof_ok {cq : List Instr} {s : State} (n : Nat) (mf : Nat) (h : Ok cq s) :
    Ok cq (State.sendSof s n mf) := by
  unfold State.sendSof
  repeat' first
    | (with_reducible first
        | assumption | rfl | intro _ | apply modPort_ok | apply set_ok | apply ok_ite)

theorem writeBack_ok {cq : List Instr} {s : State} (j : Nat) (g : Nat) (h : Ok cq s) :
    Ok cq (State.writeBack s j g) := by
  unfold State.writeBack
  repeat' first
    | (with_reducible first
        | assumption | rfl | intro _ | apply ok_ite | apply ok_ite_fst)
    | split | fail_if_no_progress ((with_reducible apply mk_ok) <;> (try with_reducible rfl))

theorem pausePolls_ok {cq : List Instr} {s : State} (g : Nat) (mf : Nat) (h : Ok cq s) :
    Ok cq (State.pausePolls s g mf) := by
  unfold State.pausePolls
  repeat' first
    | (with_reducible first
        | assumption | apply ok_foldl | apply ok_foldl_fst | rfl | intro _ | apply modCtx_ok | apply ok_ite
        | apply ok_ite_fst)
    | split | fail_if_no_progress ((with_reducible apply mk_ok) <;> (try with_reducible rfl)) | dsimp only
    | (simp; done)

theorem noteDefer_ok {cq : List Instr} {s : State} (j : Nat) (g : Nat) (mf : Nat) (k : Nat) (h : Ok cq s) :
    Ok cq (State.noteDefer s j g mf k) := by
  unfold State.noteDefer
  repeat' first
    | (with_reducible first
        | assumption | rfl | intro _ | apply modShut_ok | apply shutEvent_ok | apply ok_ite)

theorem suspendTrees_ok {cq : List Instr} {s : State} (g : Nat) (h : Ok cq s) :
    Ok cq (State.suspendTrees s g) := by
  unfold State.suspendTrees
  repeat' first
    | (with_reducible first
        | assumption | apply ok_foldl | apply ok_foldl_fst | rfl | intro _ | apply modPort_ok | apply shutEvent_ok
        | apply ok_ite)

theorem newMicroframe_ok {cq : List Instr} {s : State} (j : Nat) (g : Nat) (mf : Nat) (late : Nat) (h : Ok cq s) :
    Ok cq (State.newMicroframe s j g mf late) := by
  unfold State.newMicroframe
  repeat' first
    | (with_reducible first
        | assumption | apply ok_foldl | apply ok_foldl_fst | rfl | intro _ | apply closeIntervals_ok
        | apply fetchNext_ok | apply modPort_ok | apply modShut_ok | apply noteDefer_ok | apply pausePolls_ok
        | apply sendSof_ok | apply suspendTrees_ok | apply writeBack_ok | apply ok_ite | apply ok_ite_fst)
    | split | fail_if_no_progress ((with_reducible apply mk_ok) <;> (try with_reducible rfl)) | dsimp only
    | (simp; done)

theorem endMove_ok {cq : List Instr} {s : State} (t : Nat) (g : Nat) (late : Nat) (h : Ok cq s) :
    Ok cq (State.endMove s t g late) := by
  unfold State.endMove
  repeat' first
    | (with_reducible first
        | assumption | apply ok_foldl | apply ok_foldl_fst | rfl | intro _ | apply becomeSpare_ok
        | apply copyIdle_ok | apply modPort_ok | apply modShut_ok | apply newMicroframe_ok | apply noteShuttle_ok
        | apply restartEnums_ok | apply set_ok | apply writeBack_ok | apply ok_ite | apply ok_ite_fst)
    | split | fail_if_no_progress ((with_reducible apply mk_ok) <;> (try with_reducible rfl)) | dsimp only
    | (simp; done)

theorem execMicroframeBoundary_ok {cq : List Instr} (shuttle : Nat) (late : Nat) {s : State} (h : Ok cq s) :
    OutOk cq (execMicroframeBoundary shuttle late s) := by
  unfold execMicroframeBoundary
  repeat' first
    | (with_reducible first
        | assumption | rfl | intro _ | apply endMove_ok | apply newMicroframe_ok | apply ok_ite | apply ok_ite_fst
        | apply out_next | apply out_ite)
    | exact out_fault | exact out_refused | split
    | fail_if_no_progress ((with_reducible apply mk_ok) <;> (try with_reducible rfl)) | dsimp only | (simp; done)

theorem execSpareLoaded_ok {cq : List Instr} (shuttle : Nat) {s : State} (h : Ok cq s) :
    OutOk cq (execSpareLoaded shuttle s) := by
  unfold execSpareLoaded
  repeat' first
    | (with_reducible first
        | assumption | rfl | intro _ | apply modShut_ok | apply ok_ite | apply ok_ite_fst | apply out_next
        | apply out_ite)

theorem execTakeoverConfirm_ok {cq : List Instr} (shuttle : Nat) {s : State} (h : Ok cq s) :
    OutOk cq (execTakeoverConfirm shuttle s) := by
  unfold execTakeoverConfirm
  repeat' first
    | (with_reducible first
        | assumption | apply ok_foldl | apply ok_foldl_fst | rfl | intro _ | apply count_ok | apply modShut_ok
        | apply set_ok | apply shutEvent_ok | apply ok_ite | apply ok_ite_fst | apply out_next | apply out_ite)

theorem bulkIn_ok {cq : List Instr} {s : State} (c : Ctx) (data : List Nat) (h : Ok cq s) :
    Ok cq (State.bulkIn s c data) := by
  unfold State.bulkIn
  repeat' first
    | (with_reducible first
        | assumption | rfl | intro _ | apply completion_ok | apply endIn_ok | apply modCtx_ok | apply placeIn_ok
        | apply ok_ite)

theorem periodicIn_ok {cq : List Instr} {s : State} (c : Ctx) (data : List Nat) (h : Ok cq s) :
    Ok cq (State.periodicIn s c data) := by
  unfold State.periodicIn
  repeat' first
    | (with_reducible first
        | assumption | rfl | intro _ | apply completion_ok | apply formAt_ok | apply formRec_ok
        | apply missNext_ok | apply modCtx_ok | apply noteXfer_ok | apply treeActive_ok | apply ok_ite)

theorem controlIn_ok {cq : List Instr} {s : State} (c : Ctx) (data : List Nat) (h : Ok cq s) :
    Ok cq (State.controlIn s c data) := by
  unfold State.controlIn
  repeat' first
    | (with_reducible first
        | assumption | rfl | intro _ | apply endIn_ok | apply modCtx_ok | apply placeIn_ok | apply ok_ite)

theorem outPacket_ok {cq : List Instr} {s : State} (c : Ctx) (n : Nat) (h : Ok cq s) :
    Ok cq (State.outPacket s c n) := by
  unfold State.outPacket
  repeat' first
    | (with_reducible first
        | assumption | rfl | intro _ | apply completion_ok | apply modCtx_ok | apply ok_ite | apply ok_ite_fst)
    | split

theorem isoOut_ok {cq : List Instr} {s : State} (c : Ctx) (n : Nat) (h : Ok cq s) :
    Ok cq (State.isoOut s c n) := by
  unfold State.isoOut
  repeat' first
    | (with_reducible first
        | assumption | rfl | intro _ | apply missNext_ok | apply modCtx_ok | apply noteXfer_ok | apply ok_ite
        | apply ok_ite_fst)
    | split | fail_if_no_progress ((with_reducible apply mk_ok) <;> (try with_reducible rfl)) | dsimp only

theorem isoMiss_ok {cq : List Instr} {s : State} (c : Ctx) (h : Ok cq s) :
    Ok cq (State.isoMiss s c) := by
  unfold State.isoMiss
  repeat' first
    | (with_reducible first
        | assumption | rfl | intro _ | apply missNext_ok | apply ok_ite)

theorem openSelected_ok {cq : List Instr} {s : State} (d : Dev) (sel : List EpDesc) (h : Ok cq s) :
    Ok cq (State.openSelected s d sel) := by
  unfold State.openSelected
  repeat' first
    | (with_reducible first
        | assumption | apply ok_foldl | apply ok_foldl_fst | rfl | intro _ | apply modCtx_ok | apply openHandle_ok
        | apply ok_ite | apply ok_ite_fst)
    | split

theorem closeSelected_ok {cq : List Instr} {s : State} (d : Dev) (p : Ctx → Bool) (h : Ok cq s) :
    Ok cq (State.closeSelected s d p) := by
  unfold State.closeSelected
  repeat' first
    | (with_reducible first
        | assumption | apply ok_foldl | apply ok_foldl_fst | rfl | intro _ | apply shutHandle_ok)

theorem requestDone_ok {cq : List Instr} {s : State} (d : Dev) (setup : List Nat) (cfg : List Nat) (h : Ok cq s) :
    Ok cq (State.requestDone s d setup cfg) := by
  unfold State.requestDone
  repeat' first
    | (with_reducible first
        | assumption | rfl | intro _ | apply closeSelected_ok | apply modCtx_ok | apply modDev_ok
        | apply openSelected_ok | apply ok_ite | apply ok_ite_fst)
    | split

theorem controlDone_ok {cq : List Instr} {s : State} (c : Ctx) (h : Ok cq s) :
    Ok cq (State.controlDone s c) := by
  unfold State.controlDone
  repeat' first
    | (with_reducible first
        | assumption | rfl | intro _ | apply completion_ok | apply modCtx_ok | apply requestDone_ok | apply ok_ite
        | apply ok_ite_fst)
    | split | fail_if_no_progress ((with_reducible apply mk_ok) <;> (try with_reducible rfl)) | dsimp only

theorem transactionError_ok {cq : List Instr} {s : State} (c : Ctx) (h : Ok cq s) :
    Ok cq (State.transactionError s c) := by
  unfold State.transactionError
  repeat' first
    | (with_reducible first
        | assumption | rfl | intro _ | apply count_ok | apply haltEp_ok | apply modCtx_ok | apply startDevReset_ok
        | apply ok_ite | apply ok_ite_fst)
    | split

theorem stagePacket_ok {cq : List Instr} {s : State} (n : Nat) (data : List Nat) (ahead : List Nat) (h : Ok cq s) :
    Ok cq (State.stagePacket s n data ahead) := by
  unfold State.stagePacket
  repeat' first
    | (with_reducible first | assumption | rfl | intro _ | apply modShut_ok)

theorem stageOut_ok {cq : List Instr} {s : State} (c : Ctx) (n : Nat) (h : Ok cq s) :
    Ok cq (State.stageOut s c n) := by
  unfold State.stageOut
  repeat' first
    | (with_reducible first
        | assumption | rfl | intro _ | apply stagePacket_ok | apply ok_ite | apply ok_ite_fst)
    | split | fail_if_no_progress ((with_reducible apply mk_ok) <;> (try with_reducible rfl)) | dsimp only
    | (simp; done)

theorem transact_ok {cq : List Instr} {s : State} (c : Ctx) (txn : Txn) (h : Ok cq s) :
    Ok cq (State.transact s c txn) := by
  unfold State.transact
  repeat' first
    | (with_reducible first
        | assumption | rfl | intro _ | apply bulkIn_ok | apply controlDone_ok | apply controlIn_ok
        | apply haltEp_ok | apply hubDisconnect_ok | apply isoMiss_ok | apply isoOut_ok | apply modCtx_ok
        | apply outPacket_ok | apply passTurn_ok | apply periodicIn_ok | apply stageOut_ok | apply stagePacket_ok
        | apply transactionError_ok | apply ok_ite | apply ok_ite_fst)
    | split

theorem putOff_ok {cq : List Instr} {s : State} (c : Ctx) (h : Ok cq s) :
    Ok cq (State.putOff s c) := by
  unfold State.putOff
  repeat' first
    | (with_reducible first
        | assumption | rfl | intro _ | apply modShut_ok | apply noteDefer_ok | apply ok_ite | apply ok_ite_fst)
    | split | fail_if_no_progress ((with_reducible apply mk_ok) <;> (try with_reducible rfl)) | dsimp only
    | (simp; done)

theorem serveTurn_ok {cq : List Instr} {s : State} (c : Ctx) (d : Dev) (txn : Txn) (h : Ok cq s) :
    Ok cq (State.serveTurn s c d txn) := by
  unfold State.serveTurn
  repeat' first
    | (with_reducible first
        | assumption | rfl | intro _ | apply modCtx_ok | apply passTurn_ok | apply tookTurn_ok | apply transact_ok
        | apply ok_ite | apply ok_ite_fst)
    | split | fail_if_no_progress ((with_reducible apply mk_ok) <;> (try with_reducible rfl)) | dsimp only
    | (simp; done)

theorem execDownstreamTransaction_ok {cq : List Instr} (ctx : Nat) (txn : Txn) {s : State} (h : Ok cq s) :
    OutOk cq (execDownstreamTransaction ctx txn s) := by
  unfold execDownstreamTransaction
  repeat' first
    | (with_reducible first
        | assumption | rfl | intro _ | apply devGone_ok | apply hubDisconnect_ok | apply hubPortConnect_ok
        | apply poolService_ok | apply putOff_ok | apply serveTurn_ok | apply stage_ok | apply ok_ite
        | apply ok_ite_fst | apply out_next | apply out_ite)
    | exact out_fault | exact out_refused | split

theorem execEnumResetEnd_ok {cq : List Instr} (port : Nat) (route : Nat) (speed : Nat) {s : State} (h : Ok cq s) :
    OutOk cq (execEnumResetEnd port route speed s) := by
  unfold execEnumResetEnd
  repeat' first
    | (with_reducible first
        | assumption | rfl | intro _ | apply modCtx_ok | apply modDev_ok | apply reset_ok | apply set_ok
        | apply stage_ok | apply ok_ite | apply ok_ite_fst | apply out_next | apply out_ite)
    | exact out_fault | exact out_refused | split

theorem execEnumRecoveryEnd_ok {cq : List Instr} (port : Nat) (route : Nat) {s : State} (h : Ok cq s) :
    OutOk cq (execEnumRecoveryEnd port route s) := by
  unfold execEnumRecoveryEnd
  repeat' first
    | (with_reducible first
        | assumption | rfl | intro _ | apply enumRequest_ok | apply stage_ok | apply ok_ite | apply ok_ite_fst
        | apply out_next | apply out_ite)
    | exact out_fault | exact out_refused | split

theorem enumStore_ok {cq : List Instr} {s : State} (d : Dev) (r : EnumReq) (ok : Bool) (data : List Nat) (h : Ok cq s) :
    Ok cq (State.enumStore s d r ok data) := by
  unfold State.enumStore
  repeat' first
    | (with_reducible first
        | assumption | rfl | intro _ | apply OpOut_ok_ok | apply modCtx_ok | apply modDev_ok | apply set_ok
        | apply ok_ite | apply ok_ite_fst)
    | split

theorem execEnumRequestComplete_ok {cq : List Instr} (port : Nat) (route : Nat) (status : Nat) (data : List Nat) {s : State} (h : Ok cq s) :
    OutOk cq (execEnumRequestComplete port route status data s) := by
  unfold execEnumRequestComplete
  repeat' first
    | (with_reducible first
        | assumption | rfl | intro _ | apply OpOut_ok_ok | apply attemptFailed_ok | apply count_ok
        | apply devRejected_ok | apply enumNext_ok | apply enumStore_ok | apply modCtx_ok | apply modDev_ok
        | apply poolService_ok | apply stage_ok | apply ok_ite | apply ok_ite_fst | apply out_next | apply out_ite)
    | exact out_fault | exact out_refused | split

theorem execEnumWaitEnd_ok {cq : List Instr} (port : Nat) (route : Nat) {s : State} (h : Ok cq s) :
    OutOk cq (execEnumWaitEnd port route s) := by
  unfold execEnumWaitEnd
  repeat' first
    | (with_reducible first
        | assumption | rfl | intro _ | apply enumRequest_ok | apply modDev_ok | apply stage_ok | apply ok_ite
        | apply ok_ite_fst | apply out_next | apply out_ite)
    | exact out_fault | exact out_refused | split

theorem execEnumRequestTimeout_ok {cq : List Instr} (port : Nat) (route : Nat) {s : State} (h : Ok cq s) :
    OutOk cq (execEnumRequestTimeout port route s) := by
  unfold execEnumRequestTimeout
  repeat' first
    | (with_reducible first
        | assumption | rfl | intro _ | apply attemptFailed_ok | apply enumNext_ok | apply enumStore_ok
        | apply poolService_ok | apply stage_ok | apply ok_ite | apply ok_ite_fst | apply out_next | apply out_ite)
    | exact out_fault | exact out_refused | split

theorem execSetAddressTimeout_ok {cq : List Instr} (port : Nat) (route : Nat) {s : State} (h : Ok cq s) :
    OutOk cq (execSetAddressTimeout port route s) := by
  unfold execSetAddressTimeout
  repeat' first
    | (with_reducible first
        | assumption | rfl | intro _ | apply attemptFailed_ok | apply poolService_ok | apply stage_ok
        | apply ok_ite | apply ok_ite_fst | apply out_next | apply out_ite)
    | exact out_fault | exact out_refused | split

theorem execEnumAttemptTimeout_ok {cq : List Instr} (port : Nat) (route : Nat) {s : State} (h : Ok cq s) :
    OutOk cq (execEnumAttemptTimeout port route s) := by
  unfold execEnumAttemptTimeout
  repeat' first
    | (with_reducible first
        | assumption | rfl | intro _ | apply attemptFailed_ok | apply poolService_ok | apply stage_ok
        | apply ok_ite | apply ok_ite_fst | apply out_next | apply out_ite)
    | exact out_fault | exact out_refused | split

theorem execEnumRetryWaitEnd_ok {cq : List Instr} (port : Nat) (route : Nat) {s : State} (h : Ok cq s) :
    OutOk cq (execEnumRetryWaitEnd port route s) := by
  unfold execEnumRetryWaitEnd
  repeat' first
    | (with_reducible first
        | assumption | rfl | intro _ | apply beginAttempt_ok | apply stage_ok | apply ok_ite | apply ok_ite_fst
        | apply out_next | apply out_ite)
    | exact out_fault | exact out_refused | split

theorem execEnumerationComplete_ok {cq : List Instr} (port : Nat) (route : Nat) {s : State} (h : Ok cq s) :
    OutOk cq (execEnumerationComplete port route s) := by
  unfold execEnumerationComplete
  repeat' first
    | (with_reducible first
        | assumption | rfl | intro _ | apply enumDone_ok | apply poolService_ok | apply stage_ok | apply ok_ite
        | apply ok_ite_fst | apply out_next | apply out_ite)
    | exact out_fault | exact out_refused | split

theorem execTreeIdleTimeout_ok {cq : List Instr} (port : Nat) {s : State} (h : Ok cq s) :
    OutOk cq (execTreeIdleTimeout port s) := by
  unfold execTreeIdleTimeout
  repeat' first
    | (with_reducible first
        | assumption | rfl | intro _ | apply modPort_ok | apply treeActive_ok | apply ok_ite | apply ok_ite_fst
        | apply out_next | apply out_ite)
    | exact out_fault | exact out_refused | split
    | fail_if_no_progress ((with_reducible apply mk_ok) <;> (try with_reducible rfl))

theorem execDeviceResumeSignal_ok {cq : List Instr} (port : Nat) {s : State} (h : Ok cq s) :
    OutOk cq (execDeviceResumeSignal port s) := by
  unfold execDeviceResumeSignal
  repeat' first
    | (with_reducible first
        | assumption | rfl | intro _ | apply resumeTree_ok | apply wake_ok | apply ok_ite | apply ok_ite_fst
        | apply out_next | apply out_ite)

theorem execTreeResumeEnd_ok {cq : List Instr} (port : Nat) {s : State} (h : Ok cq s) :
    OutOk cq (execTreeResumeEnd port s) := by
  unfold execTreeResumeEnd
  repeat' first
    | (with_reducible first
        | assumption | rfl | intro _ | apply modPort_ok | apply ok_ite | apply ok_ite_fst | apply out_next
        | apply out_ite)

theorem execTreeRecoveryEnd_ok {cq : List Instr} (port : Nat) {s : State} (h : Ok cq s) :
    OutOk cq (execTreeRecoveryEnd port s) := by
  unfold execTreeRecoveryEnd
  repeat' first
    | (with_reducible first
        | assumption | rfl | intro _ | apply modPort_ok | apply shutEvent_ok | apply ok_ite | apply ok_ite_fst
        | apply out_next | apply out_ite)

end Sys2Proof.Laws
end

