-- ==== Sys2Proof/Laws/OkLoomCmds.lean ====
section
/-! SUPPORT. The operations of Machine/LoomCmds.lean keep a sound state sound and the queue as it is. -/

namespace Sys2Proof.Laws

open Sys2Proof.Machine

theorem execLaneOutTransfer_ok {cq : List Instr} (lane : Nat) (bytes : List Nat) {s : State} (h : Ok cq s) :
    OutOk cq (execLaneOutTransfer lane bytes s) := by
  unfold execLaneOutTransfer
  repeat' first
    | (with_reducible first
        | assumption | rfl | intro _ | apply count_ok | apply hostAccess_ok | apply loomEvent_ok
        | apply modLane_ok | apply set_ok | apply ok_ite | apply ok_ite_fst | apply out_next | apply out_ite)

theorem execOutDmaComplete_ok {cq : List Instr} (lane : Nat) {s : State} (h : Ok cq s) :
    OutOk cq (execOutDmaComplete lane s) := by
  unfold execOutDmaComplete
  repeat' first
    | (with_reducible first
        | assumption | rfl | intro _ | apply set_ok | apply ok_ite | apply ok_ite_fst | apply out_next
        | apply out_ite)

theorem dropDuplicate_ok {cq : List Instr} {s : State} (r : WRec) (c : Ctx) (h : Ok cq s) :
    Ok cq (State.dropDuplicate s r c) := by
  unfold State.dropDuplicate
  repeat' first
    | (with_reducible first
        | assumption | rfl | intro _ | apply count_ok | apply modCtx_ok | apply stageAck_ok | apply ok_ite)

theorem hostRecord_ok {cq : List Instr} {s : State} (c : Ctx) (h : Ok cq s) :
    Ok cq (State.hostRecord s c) := by
  unfold State.hostRecord
  repeat' first
    | (with_reducible first
        | assumption | rfl | intro _ | apply resumeTree_ok | apply treeActive_ok | apply ok_ite)

theorem storeRec_ok {cq : List Instr} {s : State} (c : Ctx) (r : WRec) (h : Ok cq s) :
    Ok cq (State.storeRec s c r) := by
  unfold State.storeRec
  repeat' first
    | (with_reducible first
        | assumption | rfl | intro _ | apply addTo_ok | apply hostRecord_ok | apply modCtx_ok | apply notePages_ok)

theorem takeRec_ok {cq : List Instr} {s : State} (lane : Nat) (mine : Nat → Bool) (f : WRec → Ctx → State → State) (h : Ok cq s) (hf : ∀ a b s, Ok cq s → Ok cq (f a b s)) :
    Ok cq (State.takeRec s lane mine f) := by
  unfold State.takeRec
  repeat' first
    | (with_reducible first
        | assumption | apply hf | rfl | intro _ | apply dropDuplicate_ok | apply modLane_ok | apply refuseRec_ok
        | apply ok_ite | apply ok_ite_fst)
    | split

theorem fencedRecord_ok {cq : List Instr} {s : State} (c : Ctx) (r : WRec) (h : Ok cq s) :
    Ok cq (State.fencedRecord s c r) := by
  unfold State.fencedRecord
  repeat' first
    | (with_reducible first
        | assumption | rfl | intro _ | apply completion_ok | apply settleStored_ok | apply ok_ite)

theorem mark_ok {cq : List Instr} {s : State} (n : Nat) (seq : Nat) (h : Ok cq s) :
    Ok cq (State.mark s n seq) := by
  unfold State.mark
  repeat' first
    | (with_reducible first | assumption | rfl | intro _ | apply modCtx_ok)

theorem execHostDataRecord_ok {cq : List Instr} (lane : Nat) {s : State} (h : Ok cq s) :
    OutOk cq (execHostDataRecord lane s) := by
  unfold execHostDataRecord
  repeat' first
    | (with_reducible first
        | assumption | rfl | intro _ | apply fencedRecord_ok | apply formRec_ok | apply mark_ok
        | apply storeRec_ok | apply takeRec_ok | apply ok_ite | apply ok_ite_fst | apply out_next)

theorem answerSetup_ok {cq : List Instr} {s : State} (n : Nat) (seq : Nat) (status : Nat) (data : List Nat) (len : Nat) (h : Ok cq s) :
    Ok cq (State.answerSetup s n seq status data len) := by
  unfold State.answerSetup
  repeat' first
    | (with_reducible first
        | assumption | rfl | intro _ | apply completion_ok | apply formRec_ok | apply mark_ok | apply ok_ite)

theorem sendSetup_ok {cq : List Instr} {s : State} (n : Nat) (p : List Nat) (h : Ok cq s) :
    Ok cq (State.sendSetup s n p) := by
  unfold State.sendSetup
  repeat' first
    | (with_reducible first | assumption | rfl | intro _ | apply modCtx_ok)

theorem noBandwidth_ok {cq : List Instr} {s : State} (d : Dev) (seq : Nat) (h : Ok cq s) :
    Ok cq (State.noBandwidth s d seq) := by
  unfold State.noBandwidth
  repeat' first
    | (with_reducible first
        | assumption | rfl | intro _ | apply answerSetup_ok | apply shutEvent_ok)

theorem freeSurplus_ok {cq : List Instr} {s : State} (d : Dev) (want : List Nat) (h : Ok cq s) :
    Ok cq (State.freeSurplus s d want) := by
  unfold State.freeSurplus
  repeat' first
    | (with_reducible first | assumption | rfl | intro _ | apply dropContexts_ok)

theorem reserveFor_ok {cq : List Instr} {s : State} (d : Dev) (k : Nat) (h : Ok cq s) :
    Ok cq (State.reserveFor s d k) := by
  unfold State.reserveFor
  repeat' first
    | (with_reducible first
        | assumption | rfl | intro _ | apply modDev_ok | apply setFree_ok | apply ok_ite | apply ok_ite_fst)
    | split | fail_if_no_progress ((with_reducible apply mk_ok) <;> (try with_reducible rfl)) | dsimp only
    | (simp; done)

theorem finishSwap_ok {cq : List Instr} {s : State} (d : Dev) (r : WRec) (cfg : List Nat) (h : Ok cq s) :
    Ok cq (State.finishSwap s d r cfg) := by
  unfold State.finishSwap
  repeat' first
    | (with_reducible first
        | assumption | rfl | intro _ | apply allocEps_ok | apply modDev_ok | apply sendSetup_ok | apply ok_ite
        | apply ok_ite_fst)
    | split | fail_if_no_progress ((with_reducible apply mk_ok) <;> (try with_reducible rfl)) | dsimp only
    | (simp; done)

theorem reconfigure_ok {cq : List Instr} {s : State} (d : Dev) (r : WRec) (cfg : List Nat) (h : Ok cq s) :
    Ok cq (State.reconfigure s d r cfg) := by
  unfold State.reconfigure
  repeat' first
    | (with_reducible first
        | assumption | rfl | intro _ | apply finishSwap_ok | apply freeSurplus_ok | apply modDev_ok
        | apply reserveFor_ok | apply ok_ite)

theorem setupConfiguration_ok {cq : List Instr} {s : State} (d : Dev) (r : WRec) (cfg : List Nat) (h : Ok cq s) :
    Ok cq (State.setupConfiguration s d r cfg) := by
  unfold State.setupConfiguration
  repeat' first
    | (with_reducible first
        | assumption | rfl | intro _ | apply answerSetup_ok | apply noBandwidth_ok | apply reconfigure_ok
        | apply sendSetup_ok | apply set_ok | apply ok_ite)

theorem setupInterface_ok {cq : List Instr} {s : State} (d : Dev) (r : WRec) (h : Ok cq s) :
    Ok cq (State.setupInterface s d r) := by
  unfold State.setupInterface
  repeat' first
    | (with_reducible first
        | assumption | rfl | intro _ | apply noBandwidth_ok | apply sendSetup_ok | apply ok_ite)

theorem treatSetup_ok {cq : List Instr} {s : State} (d : Dev) (r : WRec) (cfg : List Nat) (h : Ok cq s) :
    Ok cq (State.treatSetup s d r cfg) := by
  unfold State.treatSetup
  repeat' first
    | (with_reducible first
        | assumption | rfl | intro _ | apply answerSetup_ok | apply sendSetup_ok | apply setupConfiguration_ok
        | apply setupInterface_ok | apply ok_ite | apply ok_ite_fst)
    | split

theorem swapContext_ok {cq : List Instr} {s : State} (c : Ctx) (h : Ok cq s) :
    Ok cq (State.swapContext s c) := by
  unfold State.swapContext
  repeat' first
    | (with_reducible first
        | assumption | rfl | intro _ | apply reserveFor_ok | apply ok_ite | apply ok_ite_fst)
    | split | fail_if_no_progress ((with_reducible apply mk_ok) <;> (try with_reducible rfl)) | dsimp only
    | (simp; done)

theorem resumeSetup_ok {cq : List Instr} {s : State} (d : Dev) (h : Ok cq s) :
    Ok cq (State.resumeSetup s d) := by
  unfold State.resumeSetup
  repeat' first
    | (with_reducible first
        | assumption | rfl | intro _ | apply finishSwap_ok | apply modDev_ok | apply stage_ok
        | apply treatSetup_ok | apply ok_ite | apply ok_ite_fst)
    | split

theorem execSetupRecord_ok {cq : List Instr} (lane : Nat) (cfg : List Nat) {s : State} (h : Ok cq s) :
    OutOk cq (execSetupRecord lane cfg s) := by
  unfold execSetupRecord
  repeat' first
    | (with_reducible first
        | assumption | rfl | intro _ | apply completion_ok | apply dropLater_ok | apply fencedRecord_ok
        | apply flushPart_ok | apply modDev_ok | apply poolService_ok | apply settleStored_ok | apply stage_ok
        | apply storeRec_ok | apply takeRec_ok | apply treatSetup_ok | apply ok_ite | apply ok_ite_fst
        | apply out_next | apply out_ite)
    | exact out_fault | exact out_refused | split

theorem execContextRelease_ok {cq : List Instr} (ctx : Nat) {s : State} (h : Ok cq s) :
    OutOk cq (execContextRelease ctx s) := by
  unfold execContextRelease
  repeat' first
    | (with_reducible first
        | assumption | apply ok_foldl | apply ok_foldl_fst | rfl | intro _ | apply poolService_ok
        | apply releaseCtx_ok | apply resumeSetup_ok | apply swapContext_ok | apply ok_ite | apply ok_ite_fst
        | apply out_next | apply out_ite)
    | exact out_fault | exact out_refused | split

theorem execDeviceResetComplete_ok {cq : List Instr} (port : Nat) (route : Nat) (descs : DevDescs) {s : State} (h : Ok cq s) :
    OutOk cq (execDeviceResetComplete port route descs s) := by
  unfold execDeviceResetComplete
  repeat' first
    | (with_reducible first
        | assumption | rfl | intro _ | apply beginAttempt_ok | apply devGone_ok | apply modDev_ok
        | apply poolService_ok | apply resumeSetup_ok | apply stage_ok | apply startDetach_ok | apply startEnum_ok
        | apply ok_ite | apply ok_ite_fst | apply out_next | apply out_ite)
    | exact out_fault | exact out_refused | split
    | fail_if_no_progress ((with_reducible apply mk_ok) <;> (try with_reducible rfl)) | dsimp only | (simp; done)

theorem execStatusRecord_ok {cq : List Instr} (lane : Nat) {s : State} (h : Ok cq s) :
    OutOk cq (execStatusRecord lane s) := by
  unfold execStatusRecord
  repeat' first
    | (with_reducible first
        | assumption | rfl | intro _ | apply formRec_ok | apply mark_ok | apply storeRec_ok | apply takeRec_ok
        | apply ok_ite | apply ok_ite_fst | apply out_next | apply out_ite)
    | exact out_fault | exact out_refused | split
    | fail_if_no_progress ((with_reducible apply mk_ok) <;> (try with_reducible rfl)) | dsimp only

theorem execAbortRecord_ok {cq : List Instr} (lane : Nat) {s : State} (h : Ok cq s) :
    OutOk cq (execAbortRecord lane s) := by
  unfold execAbortRecord
  repeat' first
    | (with_reducible first
        | assumption | rfl | intro _ | apply completion_ok | apply dropLater_ok | apply flushPart_ok
        | apply modCtx_ok | apply settleStored_ok | apply storeRec_ok | apply takeRec_ok | apply ok_ite
        | apply ok_ite_fst | apply out_next | apply out_ite)
    | exact out_fault | exact out_refused | split
    | fail_if_no_progress ((with_reducible apply mk_ok) <;> (try with_reducible rfl)) | dsimp only | (simp; done)

theorem execHostAckRecord_ok {cq : List Instr} (lane : Nat) {s : State} (h : Ok cq s) :
    OutOk cq (execHostAckRecord lane s) := by
  unfold execHostAckRecord
  repeat' first
    | (with_reducible first
        | assumption | rfl | intro _ | apply count_ok | apply formWaiting_ok | apply grantAll_ok
        | apply hostRecord_ok | apply modCtx_ok | apply notePages_ok | apply takeRec_ok | apply ok_ite
        | apply ok_ite_fst | apply out_next | apply out_ite)
    | exact out_fault | exact out_refused | split

theorem execHostCreditRecord_ok {cq : List Instr} (lane : Nat) {s : State} (h : Ok cq s) :
    OutOk cq (execHostCreditRecord lane s) := by
  unfold execHostCreditRecord
  repeat' first
    | (with_reducible first
        | assumption | rfl | intro _ | apply handleFenced_ok | apply hostRecord_ok | apply modCtx_ok
        | apply takeRec_ok | apply ok_ite | apply ok_ite_fst | apply out_next | apply out_ite)
    | exact out_fault | exact out_refused | split
    | fail_if_no_progress ((with_reducible apply mk_ok) <;> (try with_reducible rfl)) | dsimp only | (simp; done)

theorem execOutRecordComplete_ok {cq : List Instr} (handle : Nat) {s : State} (h : Ok cq s) :
    OutOk cq (execOutRecordComplete handle s) := by
  unfold execOutRecordComplete
  repeat' first
    | (with_reducible first
        | assumption | rfl | intro _ | apply recordsDone_ok | apply ok_ite | apply ok_ite_fst | apply out_next
        | apply out_ite)
    | exact out_fault | exact out_refused | split

theorem Pack_burst_ok {cq : List Instr} {p : Pack} (kind : Nat → Bool) (n : Nat) (h : Ok cq p.st) :
    Ok cq (Pack.burst p kind n).st := by
  unfold Pack.burst
  repeat' first
    | (with_reducible first
        | assumption | rfl | intro _ | apply addTo_ok | apply modCtx_ok | apply ok_ite | apply ok_ite_fst)
    | split | fail_if_no_progress ((with_reducible apply mk_ok) <;> (try with_reducible rfl)) | dsimp only

theorem Pack_round_ok {cq : List Instr} {p : Pack} (kind : Nat → Bool) (ns : List Nat) (h : Ok cq p.st) :
    Ok cq (p.round kind ns).st := by
  unfold Pack.round
  induction ns generalizing p with
  | nil => exact h
  | cons a r ih => exact ih (Pack_burst_ok _ _ h)

theorem Pack_rounds_ok {cq : List Instr} {p : Pack} (kind : Nat → Bool) (ns : List Nat) (n : Nat) (h : Ok cq p.st) :
    Ok cq (Pack.rounds kind ns n p).st := by
  induction n generalizing p with
  | zero => exact h
  | succ n ih =>
    unfold Pack.rounds
    have h1 := Pack_round_ok kind ns h
    dsimp only
    split
    · exact h1
    · exact ih h1

theorem regenerate_ok {cq : List Instr} (l : Nat) (x1 : Nat) {x2 : State} (hx2 : Ok cq x2) :
    Ok cq (State.regenerate l x1 x2) := by
  induction x1 generalizing x2 with
  | zero => unfold State.regenerate; assumption
  | succ n ih =>
    unfold State.regenerate
    repeat' first
      | (with_reducible first
          | assumption | apply ih | rfl | intro _ | apply modLane_ok | apply stageAck_ok | apply stageCredit_ok
          | apply ok_ite | apply ok_ite_fst)
      | split

theorem Pack_staged_ok {cq : List Instr} {p : Pack} (l : Nat) (h : Ok cq p.st) :
    Ok cq (Pack.staged p l).st := by
  unfold Pack.staged
  repeat' first
    | (with_reducible first
        | assumption | rfl | intro _ | apply addTo_ok | apply modLane_ok | apply regenerate_ok)

theorem packLane_ok {cq : List Instr} {s : State} (l : Nat) (h : Ok cq s) : Ok cq (s.packLane l).st := by
  unfold State.packLane
  refine Pack_rounds_ok _ _ _ (Pack_rounds_ok _ _ _ (Pack_staged_ok _ ?_))
  split
  · exact h
  · exact Pack_rounds_ok _ _ _ h

theorem fillLane_ok {cq : List Instr} {s : State} (l : Nat) (h : Ok cq s) :
    Ok cq (State.fillLane s l) := by
  unfold State.fillLane
  repeat' first
    | (with_reducible first
        | assumption | rfl | intro _ | apply modLane_ok | apply packLane_ok | apply ok_ite)

theorem execLaneInTransfer_ok {cq : List Instr} (lane : Nat) {s : State} (h : Ok cq s) :
    OutOk cq (execLaneInTransfer lane s) := by
  unfold execLaneInTransfer
  repeat' first
    | (with_reducible first
        | assumption | rfl | intro _ | apply count_ok | apply fillLane_ok | apply hostAccess_ok | apply modLane_ok
        | apply ok_ite | apply ok_ite_fst | apply out_next | apply out_ite)

theorem execEp2InTransfer_ok {cq : List Instr} {s : State} (h : Ok cq s) :
    OutOk cq (execEp2InTransfer s) := by
  unfold execEp2InTransfer
  repeat' first
    | (with_reducible first
        | assumption | rfl | intro _ | apply hostAccess_ok | apply ok_ite | apply ok_ite_fst | apply out_next
        | apply out_ite)
    | exact out_fault | exact out_refused | split
    | fail_if_no_progress ((with_reducible apply mk_ok) <;> (try with_reducible rfl))

theorem execLinkReset_ok {cq : List Instr} (lost : Bool) {s : State} (h : Ok cq s) :
    OutOk cq (execLinkReset lost s) := by
  unfold execLinkReset
  repeat' first
    | (with_reducible first
        | assumption | rfl | intro _ | apply loomReset_ok | apply set_ok | apply settleDomains_ok
        | apply ssDisconnect_ok | apply ok_ite | apply ok_ite_fst | apply out_next | apply out_ite)

theorem linkRecovered_ok {cq : List Instr} {s : State} (h : Ok cq s) :
    Ok cq (State.linkRecovered s) := by
  unfold State.linkRecovered
  repeat' first
    | (with_reducible first | assumption | rfl | intro _ | apply set_ok | apply ok_ite)

theorem exitU3_ok {cq : List Instr} {s : State} (h : Ok cq s) :
    Ok cq (State.exitU3 s) := by
  unfold State.exitU3
  repeat' first
    | (with_reducible first
        | assumption | rfl | intro _ | apply loomEvent_ok | apply notifyWake_ok | apply set_ok | apply wakeBy_ok
        | apply ok_ite | apply ok_ite_fst)
    | split | fail_if_no_progress ((with_reducible apply mk_ok) <;> (try with_reducible rfl)) | dsimp only
    | (simp; done)

theorem execLinkTrained_ok {cq : List Instr} (rate : Nat) {s : State} (h : Ok cq s) :
    OutOk cq (execLinkTrained rate s) := by
  unfold execLinkTrained
  repeat' first
    | (with_reducible first
        | assumption | rfl | intro _ | apply exitU3_ok | apply linkRecovered_ok | apply loomDisconnect_ok
        | apply loomReset_ok | apply setRate_ok | apply set_ok | apply ssDisconnect_ok | apply ok_ite
        | apply ok_ite_fst | apply out_next | apply out_ite)
    | exact out_fault | exact out_refused | split
    | fail_if_no_progress ((with_reducible apply mk_ok) <;> (try with_reducible rfl))

theorem resyncLane_ok {cq : List Instr} {s : State} (l : Nat) (cause : Nat) (h : Ok cq s) :
    Ok cq (State.resyncLane s l cause) := by
  unfold State.resyncLane
  repeat' first
    | (with_reducible first
        | assumption | rfl | intro _ | apply clearBuffers_ok | apply clearLane_ok | apply fillLane_ok
        | apply formEventRec_ok | apply modLane_ok | apply ok_ite | apply ok_ite_fst)
    | split | fail_if_no_progress ((with_reducible apply mk_ok) <;> (try with_reducible rfl)) | dsimp only
    | (simp; done)

theorem execLoomSetConfiguration_ok {cq : List Instr} (value : Nat) {s : State} (h : Ok cq s) :
    OutOk cq (execLoomSetConfiguration value s) := by
  unfold execLoomSetConfiguration
  repeat' first
    | (with_reducible first
        | assumption | apply ok_foldl | apply ok_foldl_fst | rfl | intro _ | apply hostAccess_ok
        | apply linkRecovered_ok | apply loomEvent_ok | apply ownHandles_ok | apply resyncLane_ok | apply set_ok
        | apply settleDomains_ok | apply unconfigure_ok | apply ok_ite | apply ok_ite_fst | apply out_next
        | apply out_ite)
    | exact out_fault | exact out_refused | split
    | fail_if_no_progress ((with_reducible apply mk_ok) <;> (try with_reducible rfl))

theorem execLoomSetInterface_ok {cq : List Instr} (alt : Nat) {s : State} (h : Ok cq s) :
    OutOk cq (execLoomSetInterface alt s) := by
  unfold execLoomSetInterface
  repeat' first
    | (with_reducible first
        | assumption | rfl | intro _ | apply clearLane_ok | apply hostAccess_ok | apply ownHandles_ok
        | apply resyncLane_ok | apply set_ok | apply ok_ite | apply ok_ite_fst | apply out_next | apply out_ite)

theorem execLoomClearHalt_ok {cq : List Instr} (lane : Nat) {s : State} (h : Ok cq s) :
    OutOk cq (execLoomClearHalt lane s) := by
  unfold execLoomClearHalt
  repeat' first
    | (with_reducible first
        | assumption | rfl | intro _ | apply hostAccess_ok | apply resyncLane_ok | apply ok_ite | apply ok_ite_fst
        | apply out_next | apply out_ite)

theorem execFunctionSuspend_ok {cq : List Instr} (suspend : Bool) (u3 : Bool) (wake : Bool) {s : State} (h : Ok cq s) :
    OutOk cq (execFunctionSuspend suspend u3 wake s) := by
  unfold execFunctionSuspend
  repeat' first
    | (with_reducible first
        | assumption | rfl | intro _ | apply hostAccess_ok | apply loomEvent_ok | apply setB_ok | apply set_ok
        | apply wake_ok | apply ok_ite | apply ok_ite_fst | apply out_next | apply out_ite)

theorem execHostU3Exit_ok {cq : List Instr} (done : Bool) {s : State} (h : Ok cq s) :
    OutOk cq (execHostU3Exit done s) := by
  unfold execHostU3Exit
  repeat' first
    | (with_reducible first
        | assumption | rfl | intro _ | apply exitU3_ok | apply set_ok | apply ok_ite | apply ok_ite_fst
        | apply out_next | apply out_ite)
    | exact out_fault | exact out_refused | split
    | fail_if_no_progress ((with_reducible apply mk_ok) <;> (try with_reducible rfl))

theorem execWakeNotifyRepeat_ok {cq : List Instr} {s : State} (h : Ok cq s) :
    OutOk cq (execWakeNotifyRepeat s) := by
  unfold execWakeNotifyRepeat
  repeat' first
    | (with_reducible first
        | assumption | rfl | intro _ | apply ok_ite | apply ok_ite_fst | apply out_next | apply out_ite)
    | exact out_fault | exact out_refused | split
    | fail_if_no_progress ((with_reducible apply mk_ok) <;> (try with_reducible rfl))

theorem execU1Initiate_ok {cq : List Instr} (idleNs : Nat) {s : State} (h : Ok cq s) :
    OutOk cq (execU1Initiate idleNs s) := by
  unfold execU1Initiate
  repeat' first
    | (with_reducible first
        | assumption | rfl | intro _ | apply set_ok | apply ok_ite | apply ok_ite_fst | apply out_next
        | apply out_ite)

theorem execU2InactivityTimeout_ok {cq : List Instr} {s : State} (h : Ok cq s) :
    OutOk cq (execU2InactivityTimeout s) := by
  unfold execU2InactivityTimeout
  repeat' first
    | (with_reducible first
        | assumption | rfl | intro _ | apply set_ok | apply ok_ite | apply ok_ite_fst | apply out_next
        | apply out_ite)

end Sys2Proof.Laws
end

