-- ==== Sys2Proof/Laws/OkPortOps.lean ====
section
/-! SUPPORT. The operations of Machine/PortOps.lean keep a sound state sound and the queue as it is. -/

namespace Sys2Proof.Laws

open Sys2Proof.Machine

theorem setMode_ok {cq : List Instr} {s : State} (n : Nat) (m : Nat) (pub : Option Nat) (q : Option ReqId) (h : Ok cq s) :
    Ok cq (State.setMode s n m pub q).1 := by
  unfold State.setMode
  repeat' first
    | (with_reducible first
        | assumption | rfl | intro _ | apply requestMode_ok | apply set_ok | apply ok_ite | apply ok_ite_fst)
    | split

theorem execPortModeSet_ok {cq : List Instr} (p : Packet) {s : State} (h : Ok cq s) :
    OutOk cq (execPortModeSet p s) := by
  unfold execPortModeSet
  repeat' first
    | (with_reducible first
        | assumption | rfl | intro _ | apply runOp_ok | apply setMode_ok | apply ok_ite | apply ok_ite_fst
        | apply out_next)

theorem execPortDataEnable_ok {cq : List Instr} (p : Packet) {s : State} (h : Ok cq s) :
    OutOk cq (execPortDataEnable p s) := by
  unfold execPortDataEnable
  repeat' first
    | (with_reducible first
        | assumption | rfl | intro _ | apply OpOut_fail_ok | apply OpOut_ok_ok | apply recompute_ok
        | apply runOp_ok | apply set_ok | apply ok_ite | apply ok_ite_fst | apply out_next | apply out_ite)
    | exact out_fault | exact out_refused | split

theorem execPortDataDisable_ok {cq : List Instr} (p : Packet) {s : State} (h : Ok cq s) :
    OutOk cq (execPortDataDisable p s) := by
  unfold execPortDataDisable
  repeat' first
    | (with_reducible first
        | assumption | rfl | intro _ | apply OpOut_ok_ok | apply recompute_ok | apply runOp_ok | apply set_ok
        | apply ok_ite | apply ok_ite_fst | apply out_next)

theorem execPortVbusOn_ok {cq : List Instr} (p : Packet) {s : State} (h : Ok cq s) :
    OutOk cq (execPortVbusOn p s) := by
  unfold execPortVbusOn
  repeat' first
    | (with_reducible first
        | assumption | rfl | intro _ | apply runOp_ok | apply vbusOn_ok | apply ok_ite | apply ok_ite_fst
        | apply out_next)

theorem execPortVbusOff_ok {cq : List Instr} (p : Packet) {s : State} (h : Ok cq s) :
    OutOk cq (execPortVbusOff p s) := by
  unfold execPortVbusOff
  repeat' first
    | (with_reducible first
        | assumption | rfl | intro _ | apply OpOut_ok_ok | apply runOp_ok | apply vbusClear_ok | apply ok_ite
        | apply ok_ite_fst | apply out_next)

theorem execPortLatchClear_ok {cq : List Instr} (p : Packet) {s : State} (h : Ok cq s) :
    OutOk cq (execPortLatchClear p s) := by
  unfold execPortLatchClear
  repeat' first
    | (with_reducible first
        | assumption | rfl | intro _ | apply latchClear_ok | apply runOp_ok | apply ok_ite | apply ok_ite_fst
        | apply out_next)

theorem execPortPwrConfig_ok {cq : List Instr} (p : Packet) {s : State} (h : Ok cq s) :
    OutOk cq (execPortPwrConfig p s) := by
  unfold execPortPwrConfig
  repeat' first
    | (with_reducible first
        | assumption | rfl | intro _ | apply OpOut_fail_ok | apply OpOut_ok_ok | apply pwrCfgFields_ok
        | apply pwrLimitFields_ok | apply runOp_ok | apply ok_ite | apply ok_ite_fst | apply out_next
        | apply out_ite)
    | exact out_fault | exact out_refused | split
    | fail_if_no_progress ((with_reducible apply mk_ok) <;> (try with_reducible rfl)) | dsimp only

theorem execPortStatus_ok {cq : List Instr} (p : Packet) {s : State} (h : Ok cq s) :
    OutOk cq (execPortStatus p s) := by
  unfold execPortStatus
  repeat' first
    | (with_reducible first
        | assumption | rfl | intro _ | apply OpOut_res_ok | apply runOp_ok | apply ok_ite | apply ok_ite_fst
        | apply out_next)

theorem rescanHubs_ok {cq : List Instr} {s : State} (n : Nat) (h : Ok cq s) :
    Ok cq (State.rescanHubs s n) := by
  unfold State.rescanHubs
  repeat' first
    | (with_reducible first
        | assumption | apply ok_foldl | apply ok_foldl_fst | rfl | intro _ | apply dropDev_ok
        | apply hubPortConnect_ok | apply stage_ok | apply ok_ite | apply ok_ite_fst)
    | split | fail_if_no_progress ((with_reducible apply mk_ok) <;> (try with_reducible rfl)) | dsimp only

theorem execPortRescan_ok {cq : List Instr} (p : Packet) {s : State} (h : Ok cq s) :
    OutOk cq (execPortRescan p s) := by
  unfold execPortRescan
  repeat' first
    | (with_reducible first
        | assumption | rfl | intro _ | apply OpOut_fail_ok | apply OpOut_ok_ok | apply rescanHubs_ok
        | apply runOp_ok | apply startEnum_ok | apply ok_ite | apply ok_ite_fst | apply out_next | apply out_ite)
    | exact out_fault | exact out_refused | split
    | fail_if_no_progress ((with_reducible apply mk_ok) <;> (try with_reducible rfl)) | dsimp only

end Sys2Proof.Laws
end

