-- ==== Sys2Proof/Laws/OkPowerOps.lean ====
section
/-! SUPPORT. The operations of Machine/PowerOps.lean keep a sound state sound and the queue as it is. -/

namespace Sys2Proof.Laws

open Sys2Proof.Machine

theorem execFeedEnable_ok {cq : List Instr} (p : Packet) {s : State} (h : Ok cq s) :
    OutOk cq (execFeedEnable p s) := by
  unfold execFeedEnable
  repeat' first
    | (with_reducible first
        | assumption | rfl | intro _ | apply feedEnable_ok | apply runOp_ok | apply ok_ite | apply ok_ite_fst
        | apply out_next)

theorem execFeedDisable_ok {cq : List Instr} (p : Packet) {s : State} (h : Ok cq s) :
    OutOk cq (execFeedDisable p s) := by
  unfold execFeedDisable
  repeat' first
    | (with_reducible first
        | assumption | rfl | intro _ | apply feedDisable_ok | apply runOp_ok | apply ok_ite | apply ok_ite_fst
        | apply out_next)

theorem feedRegWrite_ok {cq : List Instr} {s : State} (m : WMode) (u : Nat) (off : Nat) (data : Nat) (h : Ok cq s) :
    OptOk cq (State.feedRegWrite s m u off data) := by
  unfold State.feedRegWrite
  repeat' first
    | (with_reducible first
        | assumption | rfl | intro _ | apply applyWord_ok | apply ok_ite | apply ok_ite_fst | apply opt_some
        | apply opt_ite)
    | exact opt_none

theorem execFeedConfig_ok {cq : List Instr} (p : Packet) {s : State} (h : Ok cq s) :
    OutOk cq (execFeedConfig p s) := by
  unfold execFeedConfig
  repeat' first
    | (with_reducible first
        | assumption | apply ok_foldl | apply ok_foldl_fst | rfl | intro _ | apply OpOut_fail_ok
        | apply OpOut_ok_ok | apply applyWord_ok | apply runOp_ok | apply ok_ite | apply ok_ite_fst
        | apply out_next | apply out_ite | apply feedCfgWrite_ok | refine opt_elim ?_ _ (by assumption))
    | exact out_fault | exact out_refused | split
    | fail_if_no_progress ((with_reducible apply mk_ok) <;> (try with_reducible rfl)) | dsimp only

theorem skeinCfg_ok {cq : List Instr} {s : State} (k : Nat) (v : Nat) (h : Ok cq s) :
    Ok cq (State.skeinCfg s k v) := by
  unfold State.skeinCfg
  repeat' first
    | (with_reducible first
        | assumption | rfl | intro _ | apply budgetMoved_ok | apply set_ok)

theorem execSkeinConfig_ok {cq : List Instr} (p : Packet) {s : State} (h : Ok cq s) :
    OutOk cq (execSkeinConfig p s) := by
  unfold execSkeinConfig
  repeat' first
    | (with_reducible first
        | assumption | rfl | intro _ | apply OpOut_fail_ok | apply OpOut_ok_ok | apply runOp_ok
        | apply skeinCfg_ok | apply ok_ite | apply ok_ite_fst | apply out_next | apply out_ite)
    | exact out_fault | exact out_refused | split

theorem setBudget_ok {cq : List Instr} {s : State} (k : Nat) (ma : Nat) (h : Ok cq s) :
    OptOk cq (State.setBudget s k ma) := by
  unfold State.setBudget
  repeat' first
    | (with_reducible first
        | assumption | rfl | intro _ | apply budgetMoved_ok | apply set_ok | apply ok_ite | apply ok_ite_fst
        | apply opt_some | apply opt_ite)
    | exact opt_none

theorem execSkeinBudget_ok {cq : List Instr} (p : Packet) {s : State} (h : Ok cq s) :
    OutOk cq (execSkeinBudget p s) := by
  unfold execSkeinBudget
  repeat' first
    | (with_reducible first
        | assumption | rfl | intro _ | apply OpOut_fail_ok | apply OpOut_res_ok | apply runOp_ok | apply ok_ite
        | apply ok_ite_fst | apply out_next | apply out_ite | apply setBudget_ok
        | refine opt_elim ?_ _ (by assumption))
    | exact out_fault | exact out_refused | split
    | fail_if_no_progress ((with_reducible apply mk_ok) <;> (try with_reducible rfl)) | dsimp only

theorem execPowerStatus_ok {cq : List Instr} (p : Packet) {s : State} (h : Ok cq s) :
    OutOk cq (execPowerStatus p s) := by
  unfold execPowerStatus
  repeat' first
    | (with_reducible first
        | assumption | rfl | intro _ | apply OpOut_res_ok | apply runOp_ok | apply ok_ite | apply ok_ite_fst
        | apply out_next)

theorem execMeasPorts_ok {cq : List Instr} (p : Packet) {s : State} (h : Ok cq s) :
    OutOk cq (execMeasPorts p s) := by
  unfold execMeasPorts
  repeat' first
    | (with_reducible first
        | assumption | rfl | intro _ | apply OpOut_res_ok | apply runOp_ok | apply ok_ite | apply ok_ite_fst
        | apply out_next | apply out_ite)
    | exact out_fault | exact out_refused | split
    | fail_if_no_progress ((with_reducible apply mk_ok) <;> (try with_reducible rfl))

theorem execMeasFeeds_ok {cq : List Instr} (p : Packet) {s : State} (h : Ok cq s) :
    OutOk cq (execMeasFeeds p s) := by
  unfold execMeasFeeds
  repeat' first
    | (with_reducible first
        | assumption | rfl | intro _ | apply OpOut_res_ok | apply runOp_ok | apply ok_ite | apply ok_ite_fst
        | apply out_next | apply out_ite)
    | exact out_fault | exact out_refused | split
    | fail_if_no_progress ((with_reducible apply mk_ok) <;> (try with_reducible rfl))

theorem startSnap_ok {cq : List Instr} {s : State} (h : Ok cq s) :
    Ok cq (State.startSnap s) := by
  unfold State.startSnap
  repeat' first
    | (with_reducible first
        | assumption | rfl | intro _ | apply set_ok | apply ok_ite | apply ok_ite_fst)
    | split | fail_if_no_progress ((with_reducible apply mk_ok) <;> (try with_reducible rfl))

theorem snapTrigger_ok {cq : List Instr} {s : State} (h : Ok cq s) :
    Ok cq (State.snapTrigger s) := by
  unfold State.snapTrigger
  repeat' first
    | (with_reducible first
        | assumption | rfl | intro _ | apply set_ok | apply startSnap_ok | apply ok_ite)

theorem snapLatch_ok {cq : List Instr} {s : State} (h : Ok cq s) :
    Ok cq (State.snapLatch s) := by
  unfold State.snapLatch
  repeat' first
    | (with_reducible first
        | assumption | rfl | intro _ | apply ok_ite | apply ok_ite_fst)
    | split | fail_if_no_progress ((with_reducible apply mk_ok) <;> (try with_reducible rfl)) | dsimp only
    | (simp; done)

theorem execSnapLatch_ok {cq : List Instr} {s : State} (h : Ok cq s) :
    OutOk cq (execSnapLatch s) := by
  unfold execSnapLatch
  repeat' first
    | (with_reducible first
        | assumption | rfl | intro _ | apply snapLatch_ok | apply ok_ite | apply ok_ite_fst | apply out_next
        | apply out_ite)
    | exact out_fault | exact out_refused | split
    | fail_if_no_progress ((with_reducible apply mk_ok) <;> (try with_reducible rfl))

theorem rerunCommands_ok {cq : List Instr} {s : State} (h : Ok cq s) :
    Ok cq (State.rerunCommands s) := by
  unfold State.rerunCommands
  repeat' first
    | (with_reducible first
        | assumption | rfl | intro _ | apply startSnap_ok | apply ok_ite | apply ok_ite_fst)
    | split | fail_if_no_progress ((with_reducible apply mk_ok) <;> (try with_reducible rfl)) | dsimp only
    | (simp; done)

theorem execSnapComplete_ok {cq : List Instr} {s : State} (h : Ok cq s) :
    OutOk cq (execSnapComplete s) := by
  unfold execSnapComplete
  repeat' first
    | (with_reducible first
        | assumption | rfl | intro _ | apply answer_ok | apply count_ok | apply set_ok | apply ok_ite
        | apply ok_ite_fst | apply out_next | apply out_ite)
    | exact out_fault | exact out_refused | split
    | fail_if_no_progress ((with_reducible apply mk_ok) <;> (try with_reducible rfl)) | dsimp only

theorem execSnapTrigger_ok {cq : List Instr} (p : Packet) {s : State} (h : Ok cq s) :
    OutOk cq (execSnapTrigger p s) := by
  unfold execSnapTrigger
  repeat' first
    | (with_reducible first
        | assumption | rfl | intro _ | apply OpOut_fail_ok | apply runOp_ok | apply startSnap_ok | apply ok_ite
        | apply ok_ite_fst | apply out_next | apply out_ite)
    | exact out_fault | exact out_refused | split
    | fail_if_no_progress ((with_reducible apply mk_ok) <;> (try with_reducible rfl))

theorem execCountersRead_ok {cq : List Instr} (p : Packet) {s : State} (h : Ok cq s) :
    OutOk cq (execCountersRead p s) := by
  unfold execCountersRead
  repeat' first
    | (with_reducible first
        | assumption | rfl | intro _ | apply OpOut_res_ok | apply runOp_ok | apply ok_ite | apply ok_ite_fst
        | apply out_next)

theorem execEnergyRead_ok {cq : List Instr} (p : Packet) {s : State} (h : Ok cq s) :
    OutOk cq (execEnergyRead p s) := by
  unfold execEnergyRead
  repeat' first
    | (with_reducible first
        | assumption | rfl | intro _ | apply OpOut_res_ok | apply runOp_ok | apply ok_ite | apply ok_ite_fst
        | apply out_next | apply out_ite)
    | exact out_fault | exact out_refused | split
    | fail_if_no_progress ((with_reducible apply mk_ok) <;> (try with_reducible rfl))

end Sys2Proof.Laws
end

