-- ==== Sys2Proof/Laws/OkSecurityCmds.lean ====
section
/-! SUPPORT. The operations of Machine/SecurityCmds.lean keep a sound state sound and the queue as it is. -/

namespace Sys2Proof.Laws

open Sys2Proof.Machine

theorem execIdentityReport_ok {cq : List Instr} (p : Packet) {s : State} (h : Ok cq s) :
    OutOk cq (execIdentityReport p s) := by
  unfold execIdentityReport
  repeat' first
    | (with_reducible first
        | assumption | rfl | intro _ | apply OpOut_res_ok | apply runOp_ok | apply ok_ite | apply ok_ite_fst
        | apply out_next)

theorem execAttest_ok {cq : List Instr} (p : Packet) {s : State} (h : Ok cq s) :
    OutOk cq (execAttest p s) := by
  unfold execAttest
  repeat' first
    | (with_reducible first
        | assumption | rfl | intro _ | apply OpOut_fail_ok | apply OpOut_res_ok | apply runOp_ok
        | apply secretFailed_ok | apply useFree_ok | apply ok_ite | apply ok_ite_fst | apply out_next
        | apply out_ite)
    | exact out_fault | exact out_refused | split
    | fail_if_no_progress ((with_reducible apply mk_ok) <;> (try with_reducible rfl)) | dsimp only

theorem blowTransition_ok {cq : List Instr} {s : State} (i : Nat) (lc : Nat) (h : Ok cq s) :
    Ok cq (State.blowTransition s i lc) := by
  unfold State.blowTransition
  repeat' first
    | (with_reducible first
        | assumption | rfl | intro _ | apply set_ok | apply ok_ite | apply ok_ite_fst)
    | split | fail_if_no_progress ((with_reducible apply mk_ok) <;> (try with_reducible rfl))

theorem lifecycleEffects_ok {cq : List Instr} {s : State} (lc : Nat) (h : Ok cq s) :
    Ok cq (State.lifecycleEffects s lc) := by
  unfold State.lifecycleEffects
  repeat' first
    | (with_reducible first
        | assumption | apply ok_foldl | apply ok_foldl_fst | rfl | intro _ | apply canUse_ok
        | apply dropChallenge_ok | apply useFree_ok | apply ok_ite | apply ok_ite_fst)
    | split | fail_if_no_progress ((with_reducible apply mk_ok) <;> (try with_reducible rfl))

theorem execLifecycleAdvance_ok {cq : List Instr} (p : Packet) {s : State} (h : Ok cq s) :
    OutOk cq (execLifecycleAdvance p s) := by
  unfold execLifecycleAdvance
  repeat' first
    | (with_reducible first
        | assumption | rfl | intro _ | apply OpOut_fail_ok | apply OpOut_ok_ok | apply blowTransition_ok
        | apply dropChallenge_ok | apply endSession_ok | apply lifecycleEffects_ok | apply lifecycleOverride_ok
        | apply runOp_ok | apply secretFailed_ok | apply setBit_ok | apply set_ok | apply superviseAgain_ok
        | apply ok_ite | apply ok_ite_fst | apply out_next | apply out_ite)
    | exact out_fault | exact out_refused | split
    | fail_if_no_progress ((with_reducible apply mk_ok) <;> (try with_reducible rfl)) | dsimp only

theorem execChallenge_ok {cq : List Instr} (p : Packet) {s : State} (h : Ok cq s) :
    OutOk cq (execChallenge p s) := by
  unfold execChallenge
  repeat' first
    | (with_reducible first
        | assumption | rfl | intro _ | apply OpOut_res_ok | apply runOp_ok | apply set_ok | apply useFree_ok
        | apply ok_ite | apply ok_ite_fst | apply out_next | apply out_ite)
    | exact out_fault | exact out_refused | split
    | fail_if_no_progress ((with_reducible apply mk_ok) <;> (try with_reducible rfl))

theorem execDebugUnlock_ok {cq : List Instr} (p : Packet) {s : State} (h : Ok cq s) :
    OutOk cq (execDebugUnlock p s) := by
  unfold execDebugUnlock
  repeat' first
    | (with_reducible first
        | assumption | rfl | intro _ | apply OpOut_fail_ok | apply OpOut_res_ok | apply count_ok
        | apply debugOverride_ok | apply dropChallenge_ok | apply runOp_ok | apply secretFailed_ok
        | apply setBit_ok | apply set_ok | apply ok_ite | apply ok_ite_fst | apply out_next | apply out_ite)
    | exact out_fault | exact out_refused | split
    | fail_if_no_progress ((with_reducible apply mk_ok) <;> (try with_reducible rfl)) | dsimp only

theorem execDebugEnd_ok {cq : List Instr} (p : Packet) {s : State} (h : Ok cq s) :
    OutOk cq (execDebugEnd p s) := by
  unfold execDebugEnd
  repeat' first
    | (with_reducible first
        | assumption | rfl | intro _ | apply OpOut_ok_ok | apply endSession_ok | apply runOp_ok | apply ok_ite
        | apply ok_ite_fst | apply out_next)

theorem execKeyRevoke_ok {cq : List Instr} (p : Packet) {s : State} (h : Ok cq s) :
    OutOk cq (execKeyRevoke p s) := by
  unfold execKeyRevoke
  repeat' first
    | (with_reducible first
        | assumption | rfl | intro _ | apply OpOut_fail_ok | apply OpOut_ok_ok | apply dropChallenge_ok
        | apply runOp_ok | apply secretFailed_ok | apply setBit_ok | apply ok_ite | apply ok_ite_fst
        | apply out_next | apply out_ite)
    | exact out_fault | exact out_refused | split
    | fail_if_no_progress ((with_reducible apply mk_ok) <;> (try with_reducible rfl)) | dsimp only

theorem otpProgram_ok {cq : List Instr} (slot : Nat) {s : State} (h : Ok cq s) :
    Ok cq (otpProgram slot s) := by
  unfold otpProgram
  repeat' first
    | (with_reducible first
        | assumption | apply ok_foldl | apply ok_foldl_fst | rfl | intro _ | apply setBit_ok | apply set_ok
        | apply ok_ite | apply ok_ite_fst)
    | split | fail_if_no_progress ((with_reducible apply mk_ok) <;> (try with_reducible rfl))

theorem execOtpProgram_ok {cq : List Instr} (slot : Nat) {s : State} (h : Ok cq s) :
    OutOk cq (execOtpProgram slot s) := by
  unfold execOtpProgram
  repeat' first
    | (with_reducible first
        | assumption | rfl | intro _ | apply otpProgram_ok | apply ok_ite | apply ok_ite_fst | apply out_next)

theorem execOtpProgramDone_ok {cq : List Instr} (readBackOk : Bool) {s : State} (h : Ok cq s) :
    OutOk cq (execOtpProgramDone readBackOk s) := by
  unfold execOtpProgramDone
  repeat' first
    | (with_reducible first
        | assumption | apply ok_foldl | apply ok_foldl_fst | rfl | intro _ | apply setBit_ok | apply set_ok
        | apply ok_ite | apply ok_ite_fst | apply out_next | apply out_ite)
    | exact out_fault | exact out_refused | split
    | fail_if_no_progress ((with_reducible apply mk_ok) <;> (try with_reducible rfl))

theorem execChallengeExpiry_ok {cq : List Instr} {s : State} (h : Ok cq s) :
    OutOk cq (execChallengeExpiry s) := by
  unfold execChallengeExpiry
  repeat' first
    | (with_reducible first
        | assumption | rfl | intro _ | apply dropChallenge_ok | apply ok_ite | apply ok_ite_fst | apply out_next
        | apply out_ite)
    | exact out_fault | exact out_refused | split

theorem execDbgEnRise_ok {cq : List Instr} {s : State} (h : Ok cq s) :
    OutOk cq (execDbgEnRise s) := by
  unfold execDbgEnRise
  repeat' first
    | (with_reducible first
        | assumption | rfl | intro _ | apply set_ok | apply ok_ite | apply ok_ite_fst | apply out_next
        | apply out_ite)
    | exact out_fault | exact out_refused | split
    | fail_if_no_progress ((with_reducible apply mk_ok) <;> (try with_reducible rfl))

theorem execDbgEnFall_ok {cq : List Instr} {s : State} (h : Ok cq s) :
    OutOk cq (execDbgEnFall s) := by
  unfold execDbgEnFall
  repeat' first
    | (with_reducible first
        | assumption | rfl | intro _ | apply endSession_ok | apply set_ok | apply superviseAgain_ok | apply ok_ite
        | apply ok_ite_fst | apply out_next | apply out_ite)
    | exact out_fault | exact out_refused | split
    | fail_if_no_progress ((with_reducible apply mk_ok) <;> (try with_reducible rfl))

end Sys2Proof.Laws
end

