-- ==== Sys2Proof/Laws/OkRegAccess.lean ====
section
/-! SUPPORT. The operations of Machine/RegAccess.lean keep a sound state sound and the queue as it is. -/

namespace Sys2Proof.Laws

open Sys2Proof.Machine

theorem latch_ok {cq : List Instr} {s : State} (p : Path) (f : Fld) (k : Nat) (write : Bool) (bank : Bool) (w : Nat) (h : Ok cq s) :
    Ok cq (State.latch s p f k write bank w) := by
  unfold State.latch
  repeat' first
    | (with_reducible first
        | assumption | rfl | intro _ | apply ok_ite | apply ok_ite_fst)
    | split | fail_if_no_progress ((with_reducible apply mk_ok) <;> (try with_reducible rfl))

theorem readWide_ok {cq : List Instr} {s : State} (p : Path) (bank : Bool) (f : Fld) (u : Nat) (e : Nat) (off : Nat) (v : Nat) (h : Ok cq s) :
    Ok cq (State.readWide s p bank f u e off v).1 := by
  unfold State.readWide
  repeat' first
    | (with_reducible first
        | assumption | rfl | intro _ | apply latch_ok | apply ok_ite | apply ok_ite_fst)

theorem readBy_ok {cq : List Instr} {s : State} (p : Path) (sp : Space) (u : Nat) (off : Nat) (h : Ok cq s) :
    Ok cq (State.readBy s p sp u off).1 := by
  unfold State.readBy
  repeat' first
    | (with_reducible first
        | assumption | rfl | intro _ | apply clearRC_ok | apply readWide_ok | apply set_ok | apply ok_ite
        | apply ok_ite_fst)
    | split

theorem readBank_ok {cq : List Instr} {s : State} (p : Path) (unit : Nat) (off : Nat) (h : Ok cq s) :
    Ok cq (State.readBank s p unit off).1 := by
  unfold State.readBank
  repeat' first
    | (with_reducible first
        | assumption | rfl | intro _ | apply readWide_ok | apply ok_ite | apply ok_ite_fst)
    | split

theorem readCtx_ok {cq : List Instr} {s : State} (unit : Nat) (off : Nat) (h : Ok cq s) :
    Ok cq (State.readCtx s unit off).1 := by
  unfold State.readCtx
  repeat' first
    | (with_reducible first
        | assumption | rfl | intro _ | apply useFree_ok | apply ok_ite | apply ok_ite_fst)
    | split

theorem readRetention_ok {cq : List Instr} {s : State} (unit : Nat) (off : Nat) (h : Ok cq s) :
    Ok cq (State.readRetention s unit off).1 := by
  unfold State.readRetention
  repeat' first
    | (with_reducible first
        | assumption | rfl | intro _ | apply useFree_ok | apply ok_ite | apply ok_ite_fst)
    | split | fail_if_no_progress ((with_reducible apply mk_ok) <;> (try with_reducible rfl)) | dsimp only
    | (simp; done)

theorem touchFor_ok {cq : List Instr} {s : State} (sp : Space) (u : Nat) (off : Nat) (h : Ok cq s) :
    Ok cq (State.touchFor s sp u off) := by
  unfold State.touchFor
  repeat' first
    | (with_reducible first
        | assumption | rfl | intro _ | apply touch_ok | apply ok_ite | apply ok_ite_fst)
    | split

theorem indRead_ok {cq : List Instr} {s : State} (p : Path) (a : Nat) (h : Ok cq s) :
    Ok cq (State.indRead s p a).1 := by
  unfold State.indRead
  repeat' first
    | (with_reducible first
        | assumption | rfl | intro _ | apply readBank_ok | apply readBy_ok | apply readCtx_ok
        | apply readRetention_ok | apply touchFor_ok | apply touch_ok | apply ok_ite | apply ok_ite_fst)
    | split

theorem orRange_ok {cq : List Instr} {s : State} (o : Option State) (h : Ok cq s) (ho : OptOk cq o) :
    Ok cq (orRange s o).1 := by
  cases o with
  | none => exact h
  | some t => exact opt_elim ho t rfl

theorem plainWrite_ok {cq : List Instr} {s : State} (m : WMode) (sp : Space) (u : Nat) (off : Nat) (data : Nat) (h : Ok cq s) :
    Ok cq (State.plainWrite s m sp u off data).1 := by
  unfold State.plainWrite
  repeat' first
    | (with_reducible first
        | assumption | rfl | intro _ | apply applyWord_ok | apply ok_ite | apply ok_ite_fst)

theorem domReq_ok {cq : List Instr} {s : State} (m : WMode) (d : Nat) (v : Nat) (h : Ok cq s) :
    Ok cq (State.domReq s m d v).1 := by
  unfold State.domReq
  repeat' first
    | (with_reducible first
        | assumption | rfl | intro _ | apply requestDomain_ok | apply ok_ite | apply ok_ite_fst)

theorem unitWrite_ok {cq : List Instr} {s : State} (m : WMode) (sp : Space) (u : Nat) (off : Nat) (data : Nat) (h : Ok cq s) :
    Ok cq (State.unitWrite s m sp u off data).1 := by
  unfold State.unitWrite
  repeat' first
    | (with_reducible first
        | assumption | rfl | intro _ | apply domReq_ok | apply orRange_ok | apply plainWrite_ok
        | apply pwrLimitFields_ok | apply skeinCfg_ok | apply ok_ite | apply ok_ite_fst | apply feedRegWrite_ok
        | apply feedCfgWrite_ok | apply pwrCfgWrite_ok | apply setBudget_ok | refine opt_elim ?_ _ (by assumption))
    | split

theorem indWrite_ok {cq : List Instr} {s : State} (p : Path) (a : Nat) (m : WMode) (data : Nat) (h : Ok cq s) :
    Ok cq (State.indWrite s p a m data).1 := by
  unfold State.indWrite
  repeat' first
    | (with_reducible first
        | assumption | rfl | intro _ | apply touchFor_ok | apply unitWrite_ok | apply ok_ite | apply ok_ite_fst)
    | split

theorem setIndAddr_ok {cq : List Instr} {s : State} (p : Path) (a : Nat) (h : Ok cq s) :
    Ok cq (State.setIndAddr s p a) := by
  unfold State.setIndAddr
  repeat' first
    | (with_reducible first | assumption | rfl | intro _ | apply set_ok)

theorem indResult_ok {cq : List Instr} {s : State} (p : Path) (code : Nat) (h : Ok cq s) :
    Ok cq (State.indResult s p code) := by
  unfold State.indResult
  repeat' first
    | (with_reducible first
        | assumption | rfl | intro _ | apply count_ok | apply set_ok | apply ok_ite)

theorem winFinish_ok {cq : List Instr} {s : State} (w : WinOp) (h : Ok cq s) :
    Ok cq (State.winFinish s w) := by
  unfold State.winFinish
  repeat' first
    | (with_reducible first
        | assumption | rfl | intro _ | apply OpOut_res_ok | apply indRead_ok | apply indResult_ok
        | apply indWrite_ok | apply set_ok | apply ok_ite | apply ok_ite_fst)
    | split | fail_if_no_progress ((with_reducible apply mk_ok) <;> (try with_reducible rfl))

theorem winSettle_ok {cq : List Instr} {s : State} (p : Path) (stretch : Bool) (h : Ok cq s) :
    Ok cq (State.winSettle s p stretch) := by
  unfold State.winSettle
  repeat' first
    | (with_reducible first
        | assumption | rfl | intro _ | apply winFinish_ok | apply ok_ite | apply ok_ite_fst)
    | split

theorem winLater_ok {cq : List Instr} {s : State} (bound : Nat) (act : WinAct) (h : Ok cq s) :
    Ok cq (State.winLater s bound act) := by
  unfold State.winLater
  repeat' first
    | (with_reducible first
        | assumption | rfl | intro _ | apply OpOut_res_ok | apply set_ok | apply ok_ite | apply ok_ite_fst)
    | split | fail_if_no_progress ((with_reducible apply mk_ok) <;> (try with_reducible rfl))

theorem winStart_ok {cq : List Instr} {s : State} (p : Path) (fetch : Bool) (bound : Nat) (word : Nat) (res : Nat) (h : Ok cq s) :
    Ok cq (State.winStart s p fetch bound word res) := by
  unfold State.winStart
  repeat' first
    | (with_reducible first
        | assumption | rfl | intro _ | apply OpOut_res_ok | apply set_ok | apply winFinish_ok | apply ok_ite
        | apply ok_ite_fst)
    | split | fail_if_no_progress ((with_reducible apply mk_ok) <;> (try with_reducible rfl))

theorem indFetch_ok {cq : List Instr} {s : State} (p : Path) (h : Ok cq s) :
    Ok cq (State.indFetch s p) := by
  unfold State.indFetch
  repeat' first
    | (with_reducible first
        | assumption | rfl | intro _ | apply indRead_ok | apply winLater_ok | apply winStart_ok | apply ok_ite)

theorem indAdvance_ok {cq : List Instr} {s : State} (p : Path) (h : Ok cq s) :
    Ok cq (State.indAdvance s p) := by
  unfold State.indAdvance
  repeat' first
    | (with_reducible first | assumption | rfl | intro _ | apply set_ok | apply ok_ite)

theorem indDataRead_ok {cq : List Instr} {s : State} (p : Path) (i3c : Bool) (h : Ok cq s) :
    Ok cq (State.indDataRead s p i3c).1 := by
  unfold State.indDataRead
  repeat' first
    | (with_reducible first
        | assumption | rfl | intro _ | apply indAdvance_ok | apply indFetch_ok | apply indResult_ok
        | apply winSettle_ok | apply ok_ite | apply ok_ite_fst)

theorem indTarget_ok {cq : List Instr} {s : State} (p : Path) (m : WMode) (data : Nat) (h : Ok cq s) :
    Ok cq (State.indTarget s p m data) := by
  unfold State.indTarget
  repeat' first
    | (with_reducible first
        | assumption | rfl | intro _ | apply indAdvance_ok | apply indWrite_ok | apply winLater_ok
        | apply winStart_ok | apply ok_ite)

theorem indRegWrite_ok {cq : List Instr} {s : State} (p : Path) (i3c : Bool) (off : Nat) (data : Nat) (h : Ok cq s) :
    Ok cq (State.indRegWrite s p i3c off data).1 := by
  unfold State.indRegWrite
  repeat' first
    | (with_reducible first
        | assumption | rfl | intro _ | apply applyWord_ok | apply indFetch_ok | apply indResult_ok
        | apply indTarget_ok | apply setIndAddr_ok | apply winSettle_ok | apply ok_ite | apply ok_ite_fst)

theorem directRead_ok {cq : List Instr} {s : State} (p : Path) (i3c : Bool) (addr : Nat) (h : Ok cq s) :
    Ok cq (State.directRead s p i3c addr).1 := by
  unfold State.directRead
  repeat' first
    | (with_reducible first
        | assumption | rfl | intro _ | apply indDataRead_ok | apply readBy_ok | apply touchFor_ok | apply ok_ite
        | apply ok_ite_fst)
    | split | fail_if_no_progress ((with_reducible apply mk_ok) <;> (try with_reducible rfl)) | dsimp only

theorem windowWrite_ok {cq : List Instr} {s : State} (off data : Nat) (h : Ok cq s) :
    Ok cq (s.windowWrite off data) := by
  unfold State.windowWrite
  split
  · exact count_ok _ _ _ h
  · obtain ⟨h1, h2, h3, h4, h5, h6, h7, h8, h9⟩ := h
    exact ⟨h1, h2, h3, h4, h5, h6, h7, h8, Memory.wf_putAll _ _ h9⟩

theorem doorbell_ok {cq : List Instr} {s : State} (data : Nat) (h : Ok cq s) :
    Ok cq (State.doorbell s data) := by
  unfold State.doorbell
  repeat' first
    | (with_reducible first
        | assumption | rfl | intro _ | apply inRing_ok | apply outDone_ok | apply ok_ite)

theorem alarmWrite_ok {cq : List Instr} {s : State} (p : Path) (m : WMode) (off : Nat) (data : Nat) (h : Ok cq s) :
    Ok cq (State.alarmWrite s p m off data) := by
  unfold State.alarmWrite
  repeat' first
    | (with_reducible first
        | assumption | rfl | intro _ | apply alarmArm_ok | apply latch_ok | apply ok_ite)

theorem secWrite_ok {cq : List Instr} {s : State} (p : Path) (m : WMode) (off : Nat) (data : Nat) (h : Ok cq s) :
    Ok cq (State.secWrite s p m off data).1 := by
  unfold State.secWrite
  repeat' first
    | (with_reducible first
        | assumption | rfl | intro _ | apply otpProgram_ok | apply plainWrite_ok | apply set_ok
        | apply superviseAgain_ok | apply ok_ite | apply ok_ite_fst)

theorem blockWrite_ok {cq : List Instr} {s : State} (p : Path) (m : WMode) (block : Nat) (sp : Space) (u : Nat) (off : Nat) (data : Nat) (h : Ok cq s) :
    Ok cq (State.blockWrite s p m block sp u off data).1 := by
  unfold State.blockWrite
  repeat' first
    | (with_reducible first
        | assumption | rfl | intro _ | apply alarmWrite_ok | apply canWrite_ok | apply clearGeckos_ok
        | apply doorbell_ok | apply fillMailbox_ok | apply plainWrite_ok | apply secWrite_ok
        | apply snapTrigger_ok | apply ok_ite | apply ok_ite_fst)
    | split

theorem directWrite_ok {cq : List Instr} {s : State} (p : Path) (i3c : Bool) (addr : Nat) (m : WMode) (data : Nat) (h : Ok cq s) :
    Ok cq (State.directWrite s p i3c addr m data).1 := by
  unfold State.directWrite
  repeat' first
    | (with_reducible first
        | assumption | rfl | intro _ | apply blockWrite_ok | apply indRegWrite_ok | apply touchFor_ok
        | apply windowWrite_ok | apply ok_ite | apply ok_ite_fst)
    | split | fail_if_no_progress ((with_reducible apply mk_ok) <;> (try with_reducible rfl)) | dsimp only

end Sys2Proof.Laws
end

