-- ==== Sys2Proof/Laws/OkMgmtCmds.lean ====
section
/-! SUPPORT. The operations of Machine/MgmtCmds.lean keep a sound state sound and the queue as it is. -/

namespace Sys2Proof.Laws

open Sys2Proof.Machine

theorem mgmtErr_ok {cq : List Instr} {s : State} (f : Fld) (addr : Nat) (h : Ok cq s) :
    Ok cq (State.mgmtErr s f addr) := by
  unfold State.mgmtErr
  repeat' first
    | (with_reducible first | assumption | rfl | intro _ | apply count_ok | apply set_ok)

theorem mgmtCode_ok {cq : List Instr} {s : State} (addr : Nat) (code : Nat) (h : Ok cq s) :
    Ok cq (State.mgmtCode s addr code) := by
  unfold State.mgmtCode
  repeat' first
    | (with_reducible first
        | assumption | rfl | intro _ | apply mgmtErr_ok | apply ok_ite)

theorem pointerNext_ok {cq : List Instr} {s : State} (h : Ok cq s) :
    Ok cq (State.pointerNext s) := by
  unfold State.pointerNext
  repeat' first
    | (with_reducible first
        | assumption | rfl | intro _ | apply ok_ite | apply ok_ite_fst)
    | split | fail_if_no_progress ((with_reducible apply mk_ok) <;> (try with_reducible rfl))

theorem wordGap_ok {cq : List Instr} {s : State} (i3c : Bool) (h : Ok cq s) :
    Ok cq (State.wordGap s i3c) := by
  unfold State.wordGap
  repeat' first
    | (with_reducible first
        | assumption | rfl | intro _ | apply useFree_ok | apply winFinish_ok | apply ok_ite | apply ok_ite_fst)
    | split

theorem writeWords_ok {cq : List Instr} {s : State} (i3c : Bool) (x1 : List (Option Nat)) (h : Ok cq s) :
    Ok cq (State.writeWords s i3c x1) := by
  induction x1 generalizing s with
  | nil => unfold State.writeWords; assumption
  | cons a r ih =>
    unfold State.writeWords
    repeat' first
      | (with_reducible first
          | assumption | apply ih | rfl | intro _ | apply directWrite_ok | apply ibiCheck_ok | apply mgmtCode_ok
          | apply mgmtErr_ok | apply pointerNext_ok | apply wordGap_ok | apply ok_ite | apply ok_ite_fst)
      | split | fail_if_no_progress ((with_reducible apply mk_ok) <;> (try with_reducible rfl)) | dsimp only
      | (simp; done)

theorem execMgmtWrite_ok {cq : List Instr} (i3c : Bool) (bytes : List Nat) {s : State} (h : Ok cq s) :
    OutOk cq (execMgmtWrite i3c bytes s) := by
  unfold execMgmtWrite
  repeat' first
    | (with_reducible first
        | assumption | rfl | intro _ | apply mgmtErr_ok | apply touch_ok | apply writeWords_ok | apply ok_ite
        | apply ok_ite_fst | apply out_next | apply out_ite)
    | exact out_fault | exact out_refused | split
    | fail_if_no_progress ((with_reducible apply mk_ok) <;> (try with_reducible rfl))

theorem readOne_ok {cq : List Instr} {s : State} (i3c : Bool) (h : Ok cq s) :
    Ok cq (State.readOne s i3c).1 := by
  unfold State.readOne
  repeat' first
    | (with_reducible first
        | assumption | rfl | intro _ | apply directRead_ok | apply mgmtCode_ok | apply mgmtErr_ok | apply ok_ite
        | apply ok_ite_fst)

theorem readBytesFrom_ok {cq : List Instr} {s : State} (i3c : Bool) (n : Nat) (h : Ok cq s) :
    Ok cq (s.readBytesFrom i3c n).1 := by
  induction n using Nat.strongRecOn generalizing s with
  | _ n ih =>
    match n with
    | 0 => exact h
    | 1 => exact readOne_ok _ h
    | 2 => exact readOne_ok _ h
    | 3 => exact readOne_ok _ h
    | n + 4 =>
      unfold State.readBytesFrom
      have h1 := readOne_ok i3c h
      refine ih n (by omega) (wordGap_ok _ ?_)
      split
      · exact h1
      · exact pointerNext_ok h1

theorem execMgmtRead_ok {cq : List Instr} (i3c : Bool) (count : Nat) {s : State} (h : Ok cq s) :
    OutOk cq (execMgmtRead i3c count s) := by
  unfold execMgmtRead
  repeat' first
    | (with_reducible first
        | assumption | rfl | intro _ | apply count_ok | apply readBytesFrom_ok | apply touch_ok | apply ok_ite
        | apply ok_ite_fst | apply out_next | apply out_ite)
    | exact out_fault | exact out_refused | split
    | fail_if_no_progress ((with_reducible apply mk_ok) <;> (try with_reducible rfl))

theorem ccc_ok {cq : List Instr} {s : State} (f : Mgmt → Mgmt) (h : Ok cq s) :
    Ok cq (State.ccc s f) := by
  unfold State.ccc
  repeat' first
    | (with_reducible first
        | assumption | rfl | intro _ | apply touch_ok | apply wake_ok | apply ok_ite | apply ok_ite_fst)
    | split | fail_if_no_progress ((with_reducible apply mk_ok) <;> (try with_reducible rfl))

theorem execEnec_ok {cq : List Instr} (events : Nat) {s : State} (h : Ok cq s) :
    OutOk cq (execEnec events s) := by
  unfold execEnec
  repeat' first
    | (with_reducible first
        | assumption | rfl | intro _ | apply ccc_ok | apply ok_ite | apply ok_ite_fst | apply out_next)

theorem execDisec_ok {cq : List Instr} (events : Nat) {s : State} (h : Ok cq s) :
    OutOk cq (execDisec events s) := by
  unfold execDisec
  repeat' first
    | (with_reducible first
        | assumption | rfl | intro _ | apply ccc_ok | apply ok_ite | apply ok_ite_fst | apply out_next)

theorem execRstdaa_ok {cq : List Instr} {s : State} (h : Ok cq s) :
    OutOk cq (execRstdaa s) := by
  unfold execRstdaa
  repeat' first
    | (with_reducible first
        | assumption | rfl | intro _ | apply ccc_ok | apply ok_ite | apply ok_ite_fst | apply out_next)

theorem execEntdaa_ok {cq : List Instr} (addr : Nat) {s : State} (h : Ok cq s) :
    OutOk cq (execEntdaa addr s) := by
  unfold execEntdaa
  repeat' first
    | (with_reducible first
        | assumption | rfl | intro _ | apply ccc_ok | apply ok_ite | apply ok_ite_fst | apply out_next)

theorem execSetdasa_ok {cq : List Instr} (static : Nat) (addr : Nat) {s : State} (h : Ok cq s) :
    OutOk cq (execSetdasa static addr s) := by
  unfold execSetdasa
  repeat' first
    | (with_reducible first
        | assumption | rfl | intro _ | apply ccc_ok | apply ok_ite | apply ok_ite_fst | apply out_next)

theorem execSetnewda_ok {cq : List Instr} (addr : Nat) {s : State} (h : Ok cq s) :
    OutOk cq (execSetnewda addr s) := by
  unfold execSetnewda
  repeat' first
    | (with_reducible first
        | assumption | rfl | intro _ | apply ccc_ok | apply ok_ite | apply ok_ite_fst | apply out_next)

theorem execSetmwl_ok {cq : List Instr} (len : Nat) {s : State} (h : Ok cq s) :
    OutOk cq (execSetmwl len s) := by
  unfold execSetmwl
  repeat' first
    | (with_reducible first
        | assumption | rfl | intro _ | apply ccc_ok | apply ok_ite | apply ok_ite_fst | apply out_next)

theorem execSetmrl_ok {cq : List Instr} (len : Nat) {s : State} (h : Ok cq s) :
    OutOk cq (execSetmrl len s) := by
  unfold execSetmrl
  repeat' first
    | (with_reducible first
        | assumption | rfl | intro _ | apply ccc_ok | apply ok_ite | apply ok_ite_fst | apply out_next)

theorem execGetmwl_ok {cq : List Instr} {s : State} (h : Ok cq s) :
    OutOk cq (execGetmwl s) := by
  unfold execGetmwl
  repeat' first
    | (with_reducible first
        | assumption | rfl | intro _ | apply ccc_ok | apply ok_ite | apply ok_ite_fst | apply out_next)

theorem execGetmrl_ok {cq : List Instr} {s : State} (h : Ok cq s) :
    OutOk cq (execGetmrl s) := by
  unfold execGetmrl
  repeat' first
    | (with_reducible first
        | assumption | rfl | intro _ | apply ccc_ok | apply ok_ite | apply ok_ite_fst | apply out_next)

theorem execGetpid_ok {cq : List Instr} {s : State} (h : Ok cq s) :
    OutOk cq (execGetpid s) := by
  unfold execGetpid
  repeat' first
    | (with_reducible first
        | assumption | rfl | intro _ | apply ccc_ok | apply ok_ite | apply ok_ite_fst | apply out_next)

theorem execGetbcr_ok {cq : List Instr} {s : State} (h : Ok cq s) :
    OutOk cq (execGetbcr s) := by
  unfold execGetbcr
  repeat' first
    | (with_reducible first
        | assumption | rfl | intro _ | apply ccc_ok | apply ok_ite | apply ok_ite_fst | apply out_next)

theorem execGetdcr_ok {cq : List Instr} {s : State} (h : Ok cq s) :
    OutOk cq (execGetdcr s) := by
  unfold execGetdcr
  repeat' first
    | (with_reducible first
        | assumption | rfl | intro _ | apply ccc_ok | apply ok_ite | apply ok_ite_fst | apply out_next)

theorem execGetstatus_ok {cq : List Instr} {s : State} (h : Ok cq s) :
    OutOk cq (execGetstatus s) := by
  unfold execGetstatus
  repeat' first
    | (with_reducible first
        | assumption | rfl | intro _ | apply ccc_ok | apply useFree_ok | apply ok_ite | apply ok_ite_fst
        | apply out_next)

theorem execIbiRetry_ok {cq : List Instr} (acked : Bool) {s : State} (h : Ok cq s) :
    OutOk cq (execIbiRetry acked s) := by
  unfold execIbiRetry
  repeat' first
    | (with_reducible first
        | assumption | rfl | intro _ | apply ok_ite | apply ok_ite_fst | apply out_next | apply out_ite)
    | exact out_fault | exact out_refused | split
    | fail_if_no_progress ((with_reducible apply mk_ok) <;> (try with_reducible rfl))

theorem nameFor_ok {cq : List Instr} {s : State} (d : Option Nat) (h : Ok cq s) :
    Ok cq (State.nameFor s d) := by
  unfold State.nameFor
  repeat' first
    | (with_reducible first
        | assumption | rfl | intro _ | apply nameTarget_ok | apply ok_ite | apply ok_ite_fst)
    | split

theorem debugEnds_ok {cq : List Instr} {s : State} (ok : Bool) (h : Ok cq s) :
    Ok cq (State.debugEnds s ok).1 := by
  unfold State.debugEnds
  repeat' first
    | (with_reducible first
        | assumption | rfl | intro _ | apply OpOut_ok_ok | apply ok_ite | apply ok_ite_fst)
    | split | fail_if_no_progress ((with_reducible apply mk_ok) <;> (try with_reducible rfl)) | dsimp only
    | (simp; done)

theorem permit_ok {cq : List Instr} {s : State} (p : Path) (ind : Bool) (addr : Nat) (write : Option Nat) (h : Ok cq s) :
    Ok cq (State.permit s p ind addr write).1 := by
  unfold State.permit
  repeat' first
    | (with_reducible first
        | assumption | rfl | intro _ | apply debugEnds_ok | apply nameFor_ok | apply ok_ite | apply ok_ite_fst)
    | split

theorem pathCode_ok {cq : List Instr} {s : State} (p : Path) (addr : Nat) (code : Nat) (h : Ok cq s) :
    Ok cq (State.pathCode s p addr code) := by
  unfold State.pathCode
  repeat' first
    | (with_reducible first
        | assumption | rfl | intro _ | apply debugEnds_ok | apply mgmtCode_ok | apply ok_ite | apply ok_ite_fst)
    | split | fail_if_no_progress ((with_reducible apply mk_ok) <;> (try with_reducible rfl)) | dsimp only
    | (simp; done)

theorem pathWrite_ok {cq : List Instr} {s : State} (p : Path) (addr : Nat) (m : WMode) (v : Nat) (h : Ok cq s) :
    Ok cq (State.pathWrite s p addr m v) := by
  unfold State.pathWrite
  repeat' first
    | (with_reducible first
        | assumption | rfl | intro _ | apply directWrite_ok | apply pathCode_ok | apply permit_ok
        | apply seeInts_ok | apply ok_ite)

theorem pathRead_ok {cq : List Instr} {s : State} (p : Path) (addr : Nat) (h : Ok cq s) :
    Ok cq (State.pathRead s p addr) := by
  unfold State.pathRead
  repeat' first
    | (with_reducible first
        | assumption | rfl | intro _ | apply directRead_ok | apply pathCode_ok | apply permit_ok | apply ok_ite
        | apply ok_ite_fst)
    | split | fail_if_no_progress ((with_reducible apply mk_ok) <;> (try with_reducible rfl))

theorem execRegisterWrite_ok {cq : List Instr} (path : Path) (addr : Nat) (value : Nat) {s : State} (h : Ok cq s) :
    OutOk cq (execRegisterWrite path addr value s) := by
  unfold execRegisterWrite
  repeat' first
    | (with_reducible first
        | assumption | rfl | intro _ | apply pathWrite_ok | apply ok_ite | apply ok_ite_fst | apply out_next)

theorem execAliasSet_ok {cq : List Instr} (path : Path) (addr : Nat) (value : Nat) {s : State} (h : Ok cq s) :
    OutOk cq (execAliasSet path addr value s) := by
  unfold execAliasSet
  repeat' first
    | (with_reducible first
        | assumption | rfl | intro _ | apply pathWrite_ok | apply ok_ite | apply ok_ite_fst | apply out_next)

theorem execAliasClear_ok {cq : List Instr} (path : Path) (addr : Nat) (value : Nat) {s : State} (h : Ok cq s) :
    OutOk cq (execAliasClear path addr value s) := by
  unfold execAliasClear
  repeat' first
    | (with_reducible first
        | assumption | rfl | intro _ | apply pathWrite_ok | apply ok_ite | apply ok_ite_fst | apply out_next)

theorem execAliasToggle_ok {cq : List Instr} (path : Path) (addr : Nat) (value : Nat) {s : State} (h : Ok cq s) :
    OutOk cq (execAliasToggle path addr value s) := by
  unfold execAliasToggle
  repeat' first
    | (with_reducible first
        | assumption | rfl | intro _ | apply pathWrite_ok | apply ok_ite | apply ok_ite_fst | apply out_next)

theorem execRcRead_ok {cq : List Instr} (path : Path) (addr : Nat) {s : State} (h : Ok cq s) :
    OutOk cq (execRcRead path addr s) := by
  unfold execRcRead
  repeat' first
    | (with_reducible first
        | assumption | rfl | intro _ | apply pathRead_ok | apply ok_ite | apply ok_ite_fst | apply out_next)

theorem execLowWordRead_ok {cq : List Instr} (path : Path) (addr : Nat) {s : State} (h : Ok cq s) :
    OutOk cq (execLowWordRead path addr s) := by
  unfold execLowWordRead
  repeat' first
    | (with_reducible first
        | assumption | rfl | intro _ | apply pathRead_ok | apply ok_ite | apply ok_ite_fst | apply out_next)

theorem execSnapCtlTrigger_ok {cq : List Instr} (path : Path) {s : State} (h : Ok cq s) :
    OutOk cq (execSnapCtlTrigger path s) := by
  unfold execSnapCtlTrigger
  repeat' first
    | (with_reducible first
        | assumption | rfl | intro _ | apply pathWrite_ok | apply ok_ite | apply ok_ite_fst | apply out_next)

theorem execAlarmArmWrite_ok {cq : List Instr} (path : Path) (alarm : Nat) (high : Nat) {s : State} (h : Ok cq s) :
    OutOk cq (execAlarmArmWrite path alarm high s) := by
  unfold execAlarmArmWrite
  repeat' first
    | (with_reducible first
        | assumption | rfl | intro _ | apply pathWrite_ok | apply ok_ite | apply ok_ite_fst | apply out_next)

theorem pathInd_ok {cq : List Instr} {s : State} (p : Path) (a : Nat) (v : Nat) (h : Ok cq s) :
    Ok cq (State.pathInd s p a v) := by
  unfold State.pathInd
  repeat' first
    | (with_reducible first
        | assumption | rfl | intro _ | apply indWrite_ok | apply permit_ok | apply seeInts_ok | apply ok_ite)

theorem execFeedCfgWrite_ok {cq : List Instr} (path : Path) (feed : Nat) (value : Nat) {s : State} (h : Ok cq s) :
    OutOk cq (execFeedCfgWrite path feed value s) := by
  unfold execFeedCfgWrite
  repeat' first
    | (with_reducible first
        | assumption | rfl | intro _ | apply pathInd_ok | apply ok_ite | apply ok_ite_fst | apply out_next
        | apply out_ite)

theorem execPwrCfgWrite_ok {cq : List Instr} (path : Path) (port : Nat) (value : Nat) {s : State} (h : Ok cq s) :
    OutOk cq (execPwrCfgWrite path port value s) := by
  unfold execPwrCfgWrite
  repeat' first
    | (with_reducible first
        | assumption | rfl | intro _ | apply pathInd_ok | apply ok_ite | apply ok_ite_fst | apply out_next
        | apply out_ite)

theorem windowReg_ok {cq : List Instr} {s : State} (p : Path) (off : Nat) (v : Nat) (h : Ok cq s) :
    Ok cq (State.windowReg s p off v) := by
  unfold State.windowReg
  repeat' first
    | (with_reducible first
        | assumption | rfl | intro _ | apply pathWrite_ok | apply ok_ite)

theorem execIndAddrWrite_ok {cq : List Instr} (path : Path) (value : Nat) {s : State} (h : Ok cq s) :
    OutOk cq (execIndAddrWrite path value s) := by
  unfold execIndAddrWrite
  repeat' first
    | (with_reducible first
        | assumption | rfl | intro _ | apply windowReg_ok | apply ok_ite | apply ok_ite_fst | apply out_next)

theorem execIndDataRead_ok {cq : List Instr} (path : Path) {s : State} (h : Ok cq s) :
    OutOk cq (execIndDataRead path s) := by
  unfold execIndDataRead
  repeat' first
    | (with_reducible first
        | assumption | rfl | intro _ | apply pathRead_ok | apply ok_ite | apply ok_ite_fst | apply out_next
        | apply out_ite)
    | exact out_fault | exact out_refused | split
    | fail_if_no_progress ((with_reducible apply mk_ok) <;> (try with_reducible rfl))

theorem execIndDataWrite_ok {cq : List Instr} (path : Path) (value : Nat) {s : State} (h : Ok cq s) :
    OutOk cq (execIndDataWrite path value s) := by
  unfold execIndDataWrite
  repeat' first
    | (with_reducible first
        | assumption | rfl | intro _ | apply windowReg_ok | apply ok_ite | apply ok_ite_fst | apply out_next)

theorem execIndSet_ok {cq : List Instr} (path : Path) (value : Nat) {s : State} (h : Ok cq s) :
    OutOk cq (execIndSet path value s) := by
  unfold execIndSet
  repeat' first
    | (with_reducible first
        | assumption | rfl | intro _ | apply windowReg_ok | apply ok_ite | apply ok_ite_fst | apply out_next)

theorem execIndClr_ok {cq : List Instr} (path : Path) (value : Nat) {s : State} (h : Ok cq s) :
    OutOk cq (execIndClr path value s) := by
  unfold execIndClr
  repeat' first
    | (with_reducible first
        | assumption | rfl | intro _ | apply windowReg_ok | apply ok_ite | apply ok_ite_fst | apply out_next)

theorem execIndTgl_ok {cq : List Instr} (path : Path) (value : Nat) {s : State} (h : Ok cq s) :
    OutOk cq (execIndTgl path value s) := by
  unfold execIndTgl
  repeat' first
    | (with_reducible first
        | assumption | rfl | intro _ | apply windowReg_ok | apply ok_ite | apply ok_ite_fst | apply out_next)

theorem execIndFetch_ok {cq : List Instr} (path : Path) {s : State} (h : Ok cq s) :
    OutOk cq (execIndFetch path s) := by
  unfold execIndFetch
  repeat' first
    | (with_reducible first
        | assumption | rfl | intro _ | apply windowReg_ok | apply ok_ite | apply ok_ite_fst | apply out_next)

theorem execFetchComplete_ok {cq : List Instr} (path : Path) {s : State} (h : Ok cq s) :
    OutOk cq (execFetchComplete path s) := by
  unfold execFetchComplete
  repeat' first
    | (with_reducible first
        | assumption | rfl | intro _ | apply seeInts_ok | apply winSettle_ok | apply ok_ite | apply ok_ite_fst
        | apply out_next)

theorem cmdRead_ok {cq : List Instr} {s : State} (ind : Bool) (addr : Nat) (h : Ok cq s) :
    Ok cq (State.cmdRead s ind addr).1 := by
  unfold State.cmdRead
  repeat' first
    | (with_reducible first
        | assumption | rfl | intro _ | apply directRead_ok | apply indRead_ok | apply winStart_ok | apply ok_ite
        | apply ok_ite_fst)

theorem cmdWrite_ok {cq : List Instr} {s : State} (ind : Bool) (addr : Nat) (m : WMode) (v : Nat) (h : Ok cq s) :
    Ok cq (State.cmdWrite s ind addr m v).1 := by
  unfold State.cmdWrite
  repeat' first
    | (with_reducible first
        | assumption | rfl | intro _ | apply directWrite_ok | apply indWrite_ok | apply winStart_ok | apply ok_ite
        | apply ok_ite_fst)

theorem cmdReads_ok {cq : List Instr} {s : State} (ind : Bool) (addr : Nat) (x1 : Nat) (h : Ok cq s) :
    Ok cq (State.cmdReads s ind addr x1).1 := by
  induction x1 generalizing s addr with
  | zero => unfold State.cmdReads; assumption
  | succ n ih =>
    unfold State.cmdReads
    repeat' first
      | (with_reducible first
          | assumption | apply ih | rfl | intro _ | apply cmdRead_ok | apply indAdvance_ok | apply ok_ite
          | apply ok_ite_fst)

theorem cmdWrites_ok {cq : List Instr} {s : State} (ind : Bool) (addr : Nat) (m : WMode) (x1 : List Nat) (h : Ok cq s) :
    Ok cq (State.cmdWrites s ind addr m x1).1 := by
  induction x1 generalizing s addr with
  | nil => unfold State.cmdWrites; assumption
  | cons a r ih =>
    unfold State.cmdWrites
    repeat' first
      | (with_reducible first
          | assumption | apply ih | rfl | intro _ | apply cmdWrite_ok | apply indAdvance_ok | apply ok_ite
          | apply ok_ite_fst)

theorem execRegRead_ok {cq : List Instr} (p : Packet) {s : State} (h : Ok cq s) :
    OutOk cq (execRegRead p s) := by
  unfold execRegRead
  repeat' first
    | (with_reducible first
        | assumption | rfl | intro _ | apply cmdReads_ok | apply runOp_ok | apply setIndAddr_ok | apply ok_ite
        | apply ok_ite_fst | apply out_next)

theorem execRegWrite_ok {cq : List Instr} (p : Packet) {s : State} (h : Ok cq s) :
    OutOk cq (execRegWrite p s) := by
  unfold execRegWrite
  repeat' first
    | (with_reducible first
        | assumption | rfl | intro _ | apply cmdWrites_ok | apply ibiCheck_ok | apply runOp_ok
        | apply setIndAddr_ok | apply ok_ite | apply ok_ite_fst | apply out_next)

end Sys2Proof.Laws
end

