-- ==== Sys2Proof/Laws/OkDebugCmds.lean ====
section
/-! SUPPORT. The operations of Machine/DebugCmds.lean keep a sound state sound and the queue as it is. -/

namespace Sys2Proof.Laws

open Sys2Proof.Machine

theorem debugRegister_ok {cq : List Instr} {s : State} (acc : DebugAccess) (h : Ok cq s) :
    Ok cq (State.debugRegister s acc) := by
  unfold State.debugRegister
  repeat' first
    | (with_reducible first
        | assumption | rfl | intro _ | apply directRead_ok | apply directWrite_ok | apply indRead_ok
        | apply indWrite_ok | apply pathCode_ok | apply permit_ok | apply seeInts_ok | apply ok_ite
        | apply ok_ite_fst)
    | split | fail_if_no_progress ((with_reducible apply mk_ok) <;> (try with_reducible rfl))

theorem debugData_ok {cq : List Instr} {s : State} (d : Nat) (a : Nat) (h : Ok cq s) :
    Ok cq (State.debugData s d a) := by
  unfold State.debugData
  repeat' first
    | (with_reducible first
        | assumption | rfl | intro _ | apply useFree_ok | apply ok_ite | apply ok_ite_fst)
    | split | fail_if_no_progress ((with_reducible apply mk_ok) <;> (try with_reducible rfl)) | dsimp only
    | (simp; done)

theorem debugStore_ok {cq : List Instr} {s : State} (d : Nat) (a : Nat) (v : Nat) (h : Ok cq s) :
    Ok cq (State.debugStore s d a v) := by
  unfold State.debugStore
  repeat' first
    | (with_reducible first
        | assumption | rfl | intro _ | apply ok_ite | apply ok_ite_fst)
    | split | fail_if_no_progress ((with_reducible apply mk_ok) <;> (try with_reducible rfl)) | dsimp only
    | (simp; done)

theorem debugCore_ok {cq : List Instr} {s : State} (h0 : Nat) (halt : Bool) (h : Ok cq s) :
    Ok cq (State.debugCore s h0 halt) := by
  unfold State.debugCore
  repeat' first
    | (with_reducible first
        | assumption | rfl | intro _ | apply superviseAgain_ok | apply ok_ite | apply ok_ite_fst)
    | split | fail_if_no_progress ((with_reducible apply mk_ok) <;> (try with_reducible rfl)) | dsimp only
    | (simp; done)

theorem debugDo_ok {cq : List Instr} {s : State} (d : Nat) (need : Nat) (ok : Bool) (f : State → State) (h : Ok cq s) (hf : ∀ s, Ok cq s → Ok cq (f s)) :
    Ok cq (State.debugDo s d need ok f) := by
  unfold State.debugDo
  repeat' first
    | (with_reducible first
        | assumption | apply hf | rfl | intro _ | apply OpOut_ok_ok | apply debugEnds_ok | apply nameTarget_ok
        | apply ok_ite | apply ok_ite_fst)
    | split | fail_if_no_progress ((with_reducible apply mk_ok) <;> (try with_reducible rfl)) | dsimp only
    | (simp; done)

theorem execDebugAccess_ok {cq : List Instr} (acc : DebugAccess) {s : State} (h : Ok cq s) :
    OutOk cq (execDebugAccess acc s) := by
  unfold execDebugAccess
  repeat' first
    | (with_reducible first
        | assumption | rfl | intro _ | apply debugCore_ok | apply debugData_ok | apply debugDo_ok
        | apply debugEnds_ok | apply debugRegister_ok | apply debugStore_ok | apply setB_ok
        | apply superviseAgain_ok | apply ok_ite | apply ok_ite_fst | apply out_next | apply out_ite)
    | exact out_fault | exact out_refused | split
    | fail_if_no_progress ((with_reducible apply mk_ok) <;> (try with_reducible rfl))

end Sys2Proof.Laws
end

