-- ==== Sys2Proof/Laws/OkDomainOps.lean ====
section
/-! SUPPORT. The operations of Machine/DomainOps.lean keep a sound state sound and the queue as it is. -/

namespace Sys2Proof.Laws

open Sys2Proof.Machine

theorem execDomainSet_ok {cq : List Instr} (p : Packet) {s : State} (h : Ok cq s) :
    OutOk cq (execDomainSet p s) := by
  unfold execDomainSet
  repeat' first
    | (with_reducible first
        | assumption | rfl | intro _ | apply requestDomain_ok | apply runOp_ok | apply ok_ite | apply ok_ite_fst
        | apply out_next)

theorem execDomainGet_ok {cq : List Instr} (p : Packet) {s : State} (h : Ok cq s) :
    OutOk cq (execDomainGet p s) := by
  unfold execDomainGet
  repeat' first
    | (with_reducible first
        | assumption | rfl | intro _ | apply OpOut_res_ok | apply runOp_ok | apply ok_ite | apply ok_ite_fst
        | apply out_next)

theorem execIdlePolicySet_ok {cq : List Instr} (p : Packet) {s : State} (h : Ok cq s) :
    OutOk cq (execIdlePolicySet p s) := by
  unfold execIdlePolicySet
  repeat' first
    | (with_reducible first
        | assumption | rfl | intro _ | apply OpOut_fail_ok | apply OpOut_ok_ok | apply runOp_ok | apply set_ok
        | apply ok_ite | apply ok_ite_fst | apply out_next | apply out_ite)
    | exact out_fault | exact out_refused | split
    | fail_if_no_progress ((with_reducible apply mk_ok) <;> (try with_reducible rfl)) | dsimp only

theorem execWakeConfig_ok {cq : List Instr} (p : Packet) {s : State} (h : Ok cq s) :
    OutOk cq (execWakeConfig p s) := by
  unfold execWakeConfig
  repeat' first
    | (with_reducible first
        | assumption | rfl | intro _ | apply OpOut_res_ok | apply runOp_ok | apply set_ok | apply ok_ite
        | apply ok_ite_fst | apply out_next)

theorem execAlarmSet_ok {cq : List Instr} (p : Packet) {s : State} (h : Ok cq s) :
    OutOk cq (execAlarmSet p s) := by
  unfold execAlarmSet
  repeat' first
    | (with_reducible first
        | assumption | rfl | intro _ | apply OpOut_ok_ok | apply runOp_ok | apply set_ok | apply ok_ite
        | apply ok_ite_fst | apply out_next)

theorem execFaultStatus_ok {cq : List Instr} (p : Packet) {s : State} (h : Ok cq s) :
    OutOk cq (execFaultStatus p s) := by
  unfold execFaultStatus
  repeat' first
    | (with_reducible first
        | assumption | rfl | intro _ | apply OpOut_res_ok | apply runOp_ok | apply ok_ite | apply ok_ite_fst
        | apply out_next)

theorem execFaultClear_ok {cq : List Instr} (p : Packet) {s : State} (h : Ok cq s) :
    OutOk cq (execFaultClear p s) := by
  unfold execFaultClear
  repeat' first
    | (with_reducible first
        | assumption | rfl | intro _ | apply clearFault_ok | apply runOp_ok | apply ok_ite | apply ok_ite_fst
        | apply out_next)

theorem execFaultLogRead_ok {cq : List Instr} (p : Packet) {s : State} (h : Ok cq s) :
    OutOk cq (execFaultLogRead p s) := by
  unfold execFaultLogRead
  repeat' first
    | (with_reducible first
        | assumption | rfl | intro _ | apply OpOut_res_ok | apply runOp_ok | apply ok_ite | apply ok_ite_fst
        | apply out_next)

theorem execFaultInject_ok {cq : List Instr} (p : Packet) {s : State} (h : Ok cq s) :
    OutOk cq (execFaultInject p s) := by
  unfold execFaultInject
  repeat' first
    | (with_reducible first
        | assumption | apply ok_foldl | apply ok_foldl_fst | rfl | intro _ | apply OpOut_ok_ok
        | apply avsFallback_ok | apply raiseFault_ok | apply runOp_ok | apply set_ok | apply ok_ite
        | apply ok_ite_fst | apply out_next | apply out_ite)
    | exact out_fault | exact out_refused | split
    | fail_if_no_progress ((with_reducible apply mk_ok) <;> (try with_reducible rfl)) | dsimp only

end Sys2Proof.Laws
end

