-- ==== Sys2Proof/Laws/OkFaultCmds.lean ====
section
/-! SUPPORT. The operations of Machine/FaultCmds.lean keep a sound state sound and the queue as it is. -/

namespace Sys2Proof.Laws

open Sys2Proof.Machine

theorem noteReacting_ok {cq : List Instr} {s : State} (h : Ok cq s) :
    Ok cq (State.noteReacting s) := by
  unfold State.noteReacting
  repeat' first
    | (with_reducible first
        | assumption | rfl | intro _ | apply setB_ok | apply ok_ite | apply ok_ite_fst)
    | split | fail_if_no_progress ((with_reducible apply mk_ok) <;> (try with_reducible rfl)) | dsimp only
    | (simp; done)

theorem dropPair_ok {cq : List Instr} {s : State} (k : Nat) (h : Ok cq s) :
    Ok cq (State.dropPair s k) := by
  unfold State.dropPair
  repeat' first
    | (with_reducible first
        | assumption | rfl | intro _ | apply noteReacting_ok | apply ok_ite | apply ok_ite_fst)
    | split | fail_if_no_progress ((with_reducible apply mk_ok) <;> (try with_reducible rfl))

theorem detectedAt_ok {cq : List Instr} {s : State} (t : Nat) (src : Nat) (kind : Nat) (addr : Nat) (h : Ok cq s) :
    Ok cq (State.detectedAt s t src kind addr) := by
  unfold State.detectedAt
  repeat' first
    | (with_reducible first
        | assumption | rfl | intro _ | apply ok_ite | apply ok_ite_fst)
    | split | fail_if_no_progress ((with_reducible apply mk_ok) <;> (try with_reducible rfl)) | dsimp only
    | (simp; done)

theorem notify_ok {cq : List Instr} {s : State} (h : Ok cq s) :
    Ok cq (State.notify s) := by
  unfold State.notify
  repeat' first
    | (with_reducible first
        | assumption | rfl | intro _ | apply faultEvent_ok | apply noteReacting_ok | apply set_ok | apply ok_ite
        | apply ok_ite_fst)
    | split | fail_if_no_progress ((with_reducible apply mk_ok) <;> (try with_reducible rfl)) | dsimp only
    | (simp; done)

theorem notifyWaiting_ok {cq : List Instr} {s : State} (h : Ok cq s) :
    Ok cq (State.notifyWaiting s) := by
  unfold State.notifyWaiting
  repeat' first
    | (with_reducible first
        | assumption | rfl | intro _ | apply notify_ok | apply ok_ite | apply ok_ite_fst)
    | split | fail_if_no_progress ((with_reducible apply mk_ok) <;> (try with_reducible rfl)) | dsimp only
    | (simp; done)

theorem pairLate_ok {cq : List Instr} {s : State} (k : Nat) (h : Ok cq s) :
    Ok cq (State.pairLate s k) := by
  unfold State.pairLate
  repeat' first
    | (with_reducible first
        | assumption | rfl | intro _ | apply detectedAt_ok | apply dropPair_ok | apply notifyWaiting_ok
        | apply raiseFault_ok | apply ok_ite | apply ok_ite_fst)
    | split

theorem skeinFence_ok {cq : List Instr} {s : State} (src : Nat) (kind : Nat) (h : Ok cq s) :
    Ok cq (State.skeinFence s src kind) := by
  unfold State.skeinFence
  repeat' first
    | (with_reducible first
        | assumption | rfl | intro _ | apply fenceDomain_ok | apply loseLink_ok | apply ok_ite | apply ok_ite_fst)
    | split | fail_if_no_progress ((with_reducible apply mk_ok) <;> (try with_reducible rfl)) | dsimp only
    | (simp; done)

theorem execErrorPairSet_ok {cq : List Instr} (src : Nat) (kind : Nat) (addr : Nat) {s : State} (h : Ok cq s) :
    OutOk cq (execErrorPairSet src kind addr s) := by
  unfold execErrorPairSet
  repeat' first
    | (with_reducible first
        | assumption | rfl | intro _ | apply noteReacting_ok | apply raiseFault_ok | apply skeinFence_ok
        | apply targetFenced_ok | apply ok_ite | apply ok_ite_fst | apply out_next | apply out_ite)
    | exact out_fault | exact out_refused | split
    | fail_if_no_progress ((with_reducible apply mk_ok) <;> (try with_reducible rfl))

theorem execCodedMessage_ok {cq : List Instr} (word : Nat) {s : State} (h : Ok cq s) :
    OutOk cq (execCodedMessage word s) := by
  unfold execCodedMessage
  repeat' first
    | (with_reducible first
        | assumption | rfl | intro _ | apply count_ok | apply detectedAt_ok | apply dropPair_ok
        | apply notifyWaiting_ok | apply pairLate_ok | apply raiseFault_ok | apply ok_ite | apply ok_ite_fst
        | apply out_next | apply out_ite)
    | exact out_fault | exact out_refused | split
    | fail_if_no_progress ((with_reducible apply mk_ok) <;> (try with_reducible rfl))

theorem execCodedMessageRepeat_ok {cq : List Instr} (word : Nat) {s : State} (h : Ok cq s) :
    OutOk cq (execCodedMessageRepeat word s) := by
  unfold execCodedMessageRepeat
  repeat' first
    | (with_reducible first
        | assumption | rfl | intro _ | apply ok_ite | apply ok_ite_fst | apply out_next | apply out_ite)
    | exact out_fault | exact out_refused | split
    | fail_if_no_progress ((with_reducible apply mk_ok) <;> (try with_reducible rfl))

theorem execLinkMessageTimeout_ok {cq : List Instr} (skein : Nat) {s : State} (h : Ok cq s) :
    OutOk cq (execLinkMessageTimeout skein s) := by
  unfold execLinkMessageTimeout
  repeat' first
    | (with_reducible first
        | assumption | rfl | intro _ | apply pairLate_ok | apply ok_ite | apply ok_ite_fst | apply out_next
        | apply out_ite)

theorem execPairBroken_ok {cq : List Instr} (src : Nat) (clocks : Nat) {s : State} (h : Ok cq s) :
    OutOk cq (execPairBroken src clocks s) := by
  unfold execPairBroken
  repeat' first
    | (with_reducible first
        | assumption | apply ok_foldl | apply ok_foldl_fst | rfl | intro _ | apply raiseFault_ok | apply set_ok
        | apply ok_ite | apply ok_ite_fst | apply out_next | apply out_ite)

theorem execPairWhole_ok {cq : List Instr} (src : Nat) (forNs : Nat) {s : State} (h : Ok cq s) :
    OutOk cq (execPairWhole src forNs s) := by
  unfold execPairWhole
  repeat' first
    | (with_reducible first
        | assumption | apply ok_foldl | apply ok_foldl_fst | rfl | intro _ | apply set_ok | apply ok_ite
        | apply ok_ite_fst | apply out_next | apply out_ite)

theorem execFaultNotification_ok {cq : List Instr} {s : State} (h : Ok cq s) :
    OutOk cq (execFaultNotification s) := by
  unfold execFaultNotification
  repeat' first
    | (with_reducible first
        | assumption | rfl | intro _ | apply notify_ok | apply ok_ite | apply ok_ite_fst | apply out_next
        | apply out_ite)
    | exact out_fault | exact out_refused | split
    | fail_if_no_progress ((with_reducible apply mk_ok) <;> (try with_reducible rfl))

theorem execGeckoClearWrite_ok {cq : List Instr} (reg : Nat) (mask : Nat) {s : State} (h : Ok cq s) :
    OutOk cq (execGeckoClearWrite reg mask s) := by
  unfold execGeckoClearWrite
  repeat' first
    | (with_reducible first
        | assumption | rfl | intro _ | apply clearGeckos_ok | apply ok_ite | apply ok_ite_fst | apply out_next)

theorem heartbeatMiss_ok {cq : List Instr} {s : State} (h : Ok cq s) :
    Ok cq (State.heartbeatMiss s) := by
  unfold State.heartbeatMiss
  repeat' first
    | (with_reducible first
        | assumption | rfl | intro _ | apply count_ok | apply raiseFault_ok | apply ok_ite | apply ok_ite_fst)
    | split | fail_if_no_progress ((with_reducible apply mk_ok) <;> (try with_reducible rfl))

theorem heartbeatMisses_ok {cq : List Instr} {s : State} (h : Ok cq s) :
    Ok cq (State.heartbeatMisses s) := by
  unfold State.heartbeatMisses
  repeat' first
    | (with_reducible first | assumption | rfl | intro _ | apply heartbeatMiss_ok)

theorem execFltHb_ok {cq : List Instr} (half : Nat) (seq : Nat) (handover : Bool) {s : State} (h : Ok cq s) :
    OutOk cq (execFltHb half seq handover s) := by
  unfold execFltHb
  repeat' first
    | (with_reducible first
        | assumption | rfl | intro _ | apply heartbeatMisses_ok | apply setB_ok | apply set_ok | apply ok_ite
        | apply ok_ite_fst | apply out_next | apply out_ite)
    | exact out_fault | exact out_refused | split
    | fail_if_no_progress ((with_reducible apply mk_ok) <;> (try with_reducible rfl))

theorem execLeadHeartbeatTimeout_ok {cq : List Instr} {s : State} (h : Ok cq s) :
    OutOk cq (execLeadHeartbeatTimeout s) := by
  unfold execLeadHeartbeatTimeout
  repeat' first
    | (with_reducible first
        | assumption | rfl | intro _ | apply heartbeatMiss_ok | apply ok_ite | apply ok_ite_fst | apply out_next)

theorem voteToken_ok {cq : List Instr} {s : State} (c : Nat) (h : Ok cq s) :
    Ok cq (State.voteToken s c) := by
  unfold State.voteToken
  repeat' first
    | (with_reducible first
        | assumption | rfl | intro _ | apply setB_ok | apply ok_ite | apply ok_ite_fst)
    | split | fail_if_no_progress ((with_reducible apply mk_ok) <;> (try with_reducible rfl)) | dsimp only
    | (simp; done)

theorem execTokenRecordMismatch_ok {cq : List Instr} (c0 : Nat) (c1 : Nat) (c2 : Nat) {s : State} (h : Ok cq s) :
    OutOk cq (execTokenRecordMismatch c0 c1 c2 s) := by
  unfold execTokenRecordMismatch
  repeat' first
    | (with_reducible first
        | assumption | rfl | intro _ | apply raiseFault_ok | apply setToken_ok | apply set_ok | apply voteToken_ok
        | apply ok_ite | apply ok_ite_fst | apply out_next | apply out_ite)
    | exact out_fault | exact out_refused | split
    | fail_if_no_progress ((with_reducible apply mk_ok) <;> (try with_reducible rfl))

theorem execSharedWriteRefused_ok {cq : List Instr} (half : Nat) {s : State} (h : Ok cq s) :
    OutOk cq (execSharedWriteRefused half s) := by
  unfold execSharedWriteRefused
  repeat' first
    | (with_reducible first
        | assumption | rfl | intro _ | apply count_ok | apply raiseFault_ok | apply ok_ite | apply ok_ite_fst
        | apply out_next | apply out_ite)

theorem execStateCopyComplete_ok {cq : List Instr} {s : State} (h : Ok cq s) :
    OutOk cq (execStateCopyComplete s) := by
  unfold execStateCopyComplete
  repeat' first
    | (with_reducible first
        | assumption | rfl | intro _ | apply set_ok | apply ok_ite | apply ok_ite_fst | apply out_next
        | apply out_ite)

theorem fwDone_ok {cq : List Instr} {s : State} (status : Nat) (version : Nat) (h : Ok cq s) :
    Ok cq (State.fwDone s status version) := by
  unfold State.fwDone
  repeat' first
    | (with_reducible first | assumption | rfl | intro _ | apply deviceEvent_ok)

theorem endUpdate_ok {cq : List Instr} {s : State} (h : Ok cq s) :
    Ok cq (State.endUpdate s) := by
  unfold State.endUpdate
  repeat' first
    | (with_reducible first
        | assumption | rfl | intro _ | apply fwDone_ok | apply ok_ite | apply ok_ite_fst)
    | split | fail_if_no_progress ((with_reducible apply mk_ok) <;> (try with_reducible rfl)) | dsimp only
    | (simp; done)

theorem execTakeoverComplete_ok {cq : List Instr} {s : State} (h : Ok cq s) :
    OutOk cq (execTakeoverComplete s) := by
  unfold execTakeoverComplete
  repeat' first
    | (with_reducible first
        | assumption | rfl | intro _ | apply deviceEvent_ok | apply endUpdate_ok | apply rerunCommands_ok
        | apply set_ok | apply ok_ite | apply ok_ite_fst | apply out_next | apply out_ite)
    | exact out_fault | exact out_refused | split
    | fail_if_no_progress ((with_reducible apply mk_ok) <;> (try with_reducible rfl))

theorem execReferenceAbsentTimeout_ok {cq : List Instr} (absentNs : Nat) {s : State} (h : Ok cq s) :
    OutOk cq (execReferenceAbsentTimeout absentNs s) := by
  unfold execReferenceAbsentTimeout
  repeat' first
    | (with_reducible first
        | assumption | rfl | intro _ | apply raiseFault_ok | apply ok_ite | apply ok_ite_fst | apply out_next
        | apply out_ite)
    | exact out_fault | exact out_refused | split
    | fail_if_no_progress ((with_reducible apply mk_ok) <;> (try with_reducible rfl))

theorem execReferenceStable_ok {cq : List Instr} (stableNs : Nat) {s : State} (h : Ok cq s) :
    OutOk cq (execReferenceStable stableNs s) := by
  unfold execReferenceStable
  repeat' first
    | (with_reducible first
        | assumption | rfl | intro _ | apply ok_ite | apply ok_ite_fst | apply out_next | apply out_ite)
    | exact out_fault | exact out_refused | split
    | fail_if_no_progress ((with_reducible apply mk_ok) <;> (try with_reducible rfl))

theorem execCollectorSelfTest_ok {cq : List Instr} (outcome : SelfCheck) {s : State} (h : Ok cq s) :
    OutOk cq (execCollectorSelfTest outcome s) := by
  unfold execCollectorSelfTest
  repeat' first
    | (with_reducible first
        | assumption | rfl | intro _ | apply raiseFault_ok | apply ok_ite | apply ok_ite_fst | apply out_next
        | apply out_ite)
    | exact out_fault | exact out_refused | split

theorem execXtal32Stop_ok {cq : List Instr} {s : State} (h : Ok cq s) :
    OutOk cq (execXtal32Stop s) := by
  unfold execXtal32Stop
  repeat' first
    | (with_reducible first
        | assumption | rfl | intro _ | apply raiseFault_ok | apply set_ok | apply ok_ite | apply ok_ite_fst
        | apply out_next | apply out_ite)

theorem execTrainingComplete_ok {cq : List Instr} (src : Nat) (pass : Bool) {s : State} (h : Ok cq s) :
    OutOk cq (execTrainingComplete src pass s) := by
  unfold execTrainingComplete
  repeat' first
    | (with_reducible first
        | assumption | rfl | intro _ | apply endTraining_ok | apply ok_ite | apply ok_ite_fst | apply out_next)

theorem execMirrorRebuildComplete_ok {cq : List Instr} {s : State} (h : Ok cq s) :
    OutOk cq (execMirrorRebuildComplete s) := by
  unfold execMirrorRebuildComplete
  repeat' first
    | (with_reducible first
        | assumption | rfl | intro _ | apply mirrorRebuilt_ok | apply rebuildEnded_ok | apply set_ok
        | apply ok_ite | apply ok_ite_fst | apply out_next | apply out_ite)

theorem bootAgain_ok {cq : List Instr} {s : State} (status : Nat) (h : Ok cq s) :
    Ok cq (State.bootAgain s status) := by
  unfold State.bootAgain
  repeat' first
    | (with_reducible first
        | assumption | rfl | intro _ | apply fwDone_ok | apply set_ok | apply ok_ite | apply ok_ite_fst)
    | split | fail_if_no_progress ((with_reducible apply mk_ok) <;> (try with_reducible rfl)) | dsimp only
    | (simp; done)

theorem activationLate_ok {cq : List Instr} {s : State} (h : Ok cq s) :
    Ok cq (State.activationLate s) := by
  unfold State.activationLate
  repeat' first
    | (with_reducible first
        | assumption | rfl | intro _ | apply bootAgain_ok | apply ok_ite | apply ok_ite_fst)
    | split | fail_if_no_progress ((with_reducible apply mk_ok) <;> (try with_reducible rfl)) | dsimp only
    | (simp; done)

theorem execStandbyUpdated_ok {cq : List Instr} (verified : Bool) (booted : Bool) {s : State} (h : Ok cq s) :
    OutOk cq (execStandbyUpdated verified booted s) := by
  unfold execStandbyUpdated
  repeat' first
    | (with_reducible first
        | assumption | rfl | intro _ | apply activationLate_ok | apply bootAgain_ok | apply imageRefused_ok
        | apply noteRefused_ok | apply set_ok | apply ok_ite | apply ok_ite_fst | apply out_next | apply out_ite)
    | exact out_fault | exact out_refused | split
    | fail_if_no_progress ((with_reducible apply mk_ok) <;> (try with_reducible rfl))

theorem execHandover_ok {cq : List Instr} {s : State} (h : Ok cq s) :
    OutOk cq (execHandover s) := by
  unfold execHandover
  repeat' first
    | (with_reducible first
        | assumption | rfl | intro _ | apply addTo_ok | apply count_ok | apply setToken_ok | apply set_ok
        | apply ok_ite | apply ok_ite_fst | apply out_next | apply out_ite)
    | exact out_fault | exact out_refused | split
    | fail_if_no_progress ((with_reducible apply mk_ok) <;> (try with_reducible rfl))

theorem execNewLeadRunning_ok {cq : List Instr} {s : State} (h : Ok cq s) :
    OutOk cq (execNewLeadRunning s) := by
  unfold execNewLeadRunning
  repeat' first
    | (with_reducible first
        | assumption | rfl | intro _ | apply deviceEvent_ok | apply rerunCommands_ok | apply set_ok | apply ok_ite
        | apply ok_ite_fst | apply out_next | apply out_ite)
    | exact out_fault | exact out_refused | split
    | fail_if_no_progress ((with_reducible apply mk_ok) <;> (try with_reducible rfl))

theorem execFormerLeadUpdated_ok {cq : List Instr} {s : State} (h : Ok cq s) :
    OutOk cq (execFormerLeadUpdated s) := by
  unfold execFormerLeadUpdated
  repeat' first
    | (with_reducible first
        | assumption | rfl | intro _ | apply fwDone_ok | apply markActive_ok | apply set_ok | apply takeImage_ok
        | apply ok_ite | apply ok_ite_fst | apply out_next | apply out_ite)
    | exact out_fault | exact out_refused | split
    | fail_if_no_progress ((with_reducible apply mk_ok) <;> (try with_reducible rfl))

theorem execActivationTimeout_ok {cq : List Instr} {s : State} (h : Ok cq s) :
    OutOk cq (execActivationTimeout s) := by
  unfold execActivationTimeout
  repeat' first
    | (with_reducible first
        | assumption | rfl | intro _ | apply activationLate_ok | apply ok_ite | apply ok_ite_fst | apply out_next
        | apply out_ite)
    | exact out_fault | exact out_refused | split
    | fail_if_no_progress ((with_reducible apply mk_ok) <;> (try with_reducible rfl))

end Sys2Proof.Laws
end

