-- ==== Sys2Proof/Laws/OkFeedCmds.lean ====
section
/-! SUPPORT. The operations of Machine/FeedCmds.lean keep a sound state sound and the queue as it is. -/

namespace Sys2Proof.Laws

open Sys2Proof.Machine

theorem ladder_ok {cq : List Instr} {s : State} (u : Nat) (p : Int) (h : Ok cq s) :
    Ok cq (State.ladder s u p) := by
  unfold State.ladder
  repeat' first
    | (with_reducible first
        | assumption | rfl | intro _ | apply modFeed_ok | apply set_ok)

theorem tjWarn_ok {cq : List Instr} {s : State} (u : Nat) (h : Ok cq s) :
    Ok cq (State.tjWarn s u) := by
  unfold State.tjWarn
  repeat' first
    | (with_reducible first
        | assumption | rfl | intro _ | apply feedEvent_ok | apply modFeed_ok | apply ok_ite)

theorem execFeedInputQualified_ok {cq : List Instr} (feed : Nat) (vin : Nat) (forNs : Nat) {s : State} (h : Ok cq s) :
    OutOk cq (execFeedInputQualified feed vin forNs s) := by
  unfold execFeedInputQualified
  repeat' first
    | (with_reducible first
        | assumption | rfl | intro _ | apply letIn_ok | apply modFeed_ok | apply ok_ite | apply ok_ite_fst
        | apply out_next | apply out_ite)

theorem execRailReached_ok {cq : List Instr} (feed : Nat) (vin : Nat) (rail : Nat) {s : State} (h : Ok cq s) :
    OutOk cq (execRailReached feed vin rail s) := by
  unfold execRailReached
  repeat' first
    | (with_reducible first
        | assumption | rfl | intro _ | apply modFeed_ok | apply ok_ite | apply ok_ite_fst | apply out_next
        | apply out_ite)

theorem execFullEnhancement_ok {cq : List Instr} (feed : Nat) (vgsMv : Nat) {s : State} (h : Ok cq s) :
    OutOk cq (execFullEnhancement feed vgsMv s) := by
  unfold execFullEnhancement
  repeat' first
    | (with_reducible first
        | assumption | rfl | intro _ | apply set_ok | apply toFeed_ok | apply ok_ite | apply ok_ite_fst
        | apply out_next | apply out_ite)

theorem execShareReached_ok {cq : List Instr} (feed : Nat) (ownUv : Int) (mateUv : Int) (fullDrive : Bool) {s : State} (h : Ok cq s) :
    OutOk cq (execShareReached feed ownUv mateUv fullDrive s) := by
  unfold execShareReached
  repeat' first
    | (with_reducible first
        | assumption | rfl | intro _ | apply set_ok | apply toFeed_ok | apply ok_ite | apply ok_ite_fst
        | apply out_next | apply out_ite)

theorem execFeedCurrentLimit_ok {cq : List Instr} (feed : Nat) (shuntUv : Int) {s : State} (h : Ok cq s) :
    OutOk cq (execFeedCurrentLimit feed shuntUv s) := by
  unfold execFeedCurrentLimit
  repeat' first
    | (with_reducible first
        | assumption | rfl | intro _ | apply modFeed_ok | apply toFeed_ok | apply ok_ite | apply ok_ite_fst
        | apply out_next | apply out_ite)

theorem execFeedLimitExit_ok {cq : List Instr} (feed : Nat) (belowNs : Nat) {s : State} (h : Ok cq s) :
    OutOk cq (execFeedLimitExit feed belowNs s) := by
  unfold execFeedLimitExit
  repeat' first
    | (with_reducible first
        | assumption | rfl | intro _ | apply toFeed_ok | apply ok_ite | apply ok_ite_fst | apply out_next
        | apply out_ite)

theorem thermalUpdate_ok {cq : List Instr} {s : State} (u : Nat) (x : FeedSense) (h : Ok cq s) :
    Ok cq (State.thermalUpdate s u x) := by
  unfold State.thermalUpdate
  repeat' first
    | (with_reducible first
        | assumption | rfl | intro _ | apply feedTrip_ok | apply ladder_ok | apply tjWarn_ok | apply ok_ite
        | apply ok_ite_fst)
    | split | fail_if_no_progress ((with_reducible apply mk_ok) <;> (try with_reducible rfl)) | dsimp only
    | (simp; done)

theorem sensorRead_ok {cq : List Instr} {s : State} (u : Nat) (uv : Nat) (h : Ok cq s) :
    Ok cq (State.sensorRead s u uv) := by
  unfold State.sensorRead
  repeat' first
    | (with_reducible first
        | assumption | rfl | intro _ | apply feedTrip_ok | apply modFeed_ok | apply raiseFeedFault_ok
        | apply set_ok | apply ok_ite | apply ok_ite_fst)
    | split | fail_if_no_progress ((with_reducible apply mk_ok) <;> (try with_reducible rfl)) | dsimp only
    | (simp; done)

theorem execFeedFaultTimerExpiry_ok {cq : List Instr} (feed : Nat) (model : Option FeedSense) (sensorUv : Option Nat) {s : State} (h : Ok cq s) :
    OutOk cq (execFeedFaultTimerExpiry feed model sensorUv s) := by
  unfold execFeedFaultTimerExpiry
  repeat' first
    | (with_reducible first
        | assumption | rfl | intro _ | apply feedTrip_ok | apply sensorRead_ok | apply thermalUpdate_ok
        | apply ok_ite | apply ok_ite_fst | apply out_next | apply out_ite)
    | exact out_fault | exact out_refused | split
    | fail_if_no_progress ((with_reducible apply mk_ok) <;> (try with_reducible rfl)) | dsimp only | (simp; done)

theorem execInrushTimeout_ok {cq : List Instr} (feed : Nat) {s : State} (h : Ok cq s) :
    OutOk cq (execInrushTimeout feed s) := by
  unfold execInrushTimeout
  repeat' first
    | (with_reducible first
        | assumption | rfl | intro _ | apply feedTrip_ok | apply ok_ite | apply ok_ite_fst | apply out_next
        | apply out_ite)

theorem execFeedThermalModelUpdate_ok {cq : List Instr} (feed : Nat) (volts : FeedVolts) (shuntUv : Int) {s : State} (h : Ok cq s) :
    OutOk cq (execFeedThermalModelUpdate feed volts shuntUv s) := by
  unfold execFeedThermalModelUpdate
  repeat' first
    | (with_reducible first
        | assumption | rfl | intro _ | apply thermalUpdate_ok | apply ok_ite | apply ok_ite_fst | apply out_next
        | apply out_ite)
    | exact out_fault | exact out_refused | split
    | fail_if_no_progress ((with_reducible apply mk_ok) <;> (try with_reducible rfl)) | dsimp only | (simp; done)

theorem execFeedSensorRead_ok {cq : List Instr} (feed : Nat) (uv : Nat) {s : State} (h : Ok cq s) :
    OutOk cq (execFeedSensorRead feed uv s) := by
  unfold execFeedSensorRead
  repeat' first
    | (with_reducible first
        | assumption | rfl | intro _ | apply sensorRead_ok | apply ok_ite | apply ok_ite_fst | apply out_next
        | apply out_ite)
    | exact out_fault | exact out_refused | split
    | fail_if_no_progress ((with_reducible apply mk_ok) <;> (try with_reducible rfl)) | dsimp only | (simp; done)

theorem execFeedReverseBlock_ok {cq : List Instr} (feed : Nat) (sense : FeedSense) {s : State} (h : Ok cq s) :
    OutOk cq (execFeedReverseBlock feed sense s) := by
  unfold execFeedReverseBlock
  repeat' first
    | (with_reducible first
        | assumption | rfl | intro _ | apply count_ok | apply feedEvent_ok | apply gateOff_ok | apply toFeed_ok
        | apply ok_ite | apply ok_ite_fst | apply out_next | apply out_ite)

theorem execFeedInputOutOfRange_ok {cq : List Instr} (feed : Nat) (vin : Nat) {s : State} (h : Ok cq s) :
    OutOk cq (execFeedInputOutOfRange feed vin s) := by
  unfold execFeedInputOutOfRange
  repeat' first
    | (with_reducible first
        | assumption | rfl | intro _ | apply gateOff_ok | apply modFeed_ok | apply toFeed_ok | apply ok_ite
        | apply ok_ite_fst | apply out_next | apply out_ite)

theorem execFeedBlockedRejoin_ok {cq : List Instr} (feed : Nat) (vin : Nat) (rail : Nat) {s : State} (h : Ok cq s) :
    OutOk cq (execFeedBlockedRejoin feed vin rail s) := by
  unfold execFeedBlockedRejoin
  repeat' first
    | (with_reducible first
        | assumption | rfl | intro _ | apply modFeed_ok | apply toFeed_ok | apply ok_ite | apply ok_ite_fst
        | apply out_next | apply out_ite)

theorem execInputLost_ok {cq : List Instr} (feed : Nat) (vin : Nat) (forNs : Nat) {s : State} (h : Ok cq s) :
    OutOk cq (execInputLost feed vin forNs s) := by
  unfold execInputLost
  repeat' first
    | (with_reducible first
        | assumption | rfl | intro _ | apply feedEvent_ok | apply modFeed_ok | apply raiseFeedFault_ok
        | apply toFeed_ok | apply ok_ite | apply ok_ite_fst | apply out_next | apply out_ite)

theorem execCdlyCooldownEnd_ok {cq : List Instr} (feed : Nat) {s : State} (h : Ok cq s) :
    OutOk cq (execCdlyCooldownEnd feed s) := by
  unfold execCdlyCooldownEnd
  repeat' first
    | (with_reducible first
        | assumption | rfl | intro _ | apply afterCooldown_ok | apply modFeed_ok | apply ok_ite | apply ok_ite_fst
        | apply out_next | apply out_ite)

theorem execCdlyCheckMissing_ok {cq : List Instr} (feed : Nat) {s : State} (h : Ok cq s) :
    OutOk cq (execCdlyCheckMissing feed s) := by
  unfold execCdlyCheckMissing
  repeat' first
    | (with_reducible first
        | assumption | rfl | intro _ | apply cdlyFailed_ok | apply gateOff_ok | apply ok_ite | apply ok_ite_fst
        | apply out_next | apply out_ite)

theorem execCdlyCheckShorted_ok {cq : List Instr} (feed : Nat) {s : State} (h : Ok cq s) :
    OutOk cq (execCdlyCheckShorted feed s) := by
  unfold execCdlyCheckShorted
  repeat' first
    | (with_reducible first
        | assumption | rfl | intro _ | apply cdlyFailed_ok | apply gateOff_ok | apply modFeed_ok | apply ok_ite
        | apply ok_ite_fst | apply out_next | apply out_ite)

theorem execCdlyTestCharge_ok {cq : List Instr} (feed : Nat) (charge : CdlyCharge) {s : State} (h : Ok cq s) :
    OutOk cq (execCdlyTestCharge feed charge s) := by
  unfold execCdlyTestCharge
  repeat' first
    | (with_reducible first
        | assumption | rfl | intro _ | apply modFeed_ok | apply set_ok | apply ok_ite | apply ok_ite_fst
        | apply out_next | apply out_ite | apply takeClear_ok | refine opt_elim ?_ _ (by assumption)
        | apply opt_getD)
    | exact out_fault | exact out_refused | split
    | fail_if_no_progress ((with_reducible apply mk_ok) <;> (try with_reducible rfl)) | dsimp only | (simp; done)

theorem execFeedStopped_ok {cq : List Instr} (feed : Nat) (vgsMv : Nat) {s : State} (h : Ok cq s) :
    OutOk cq (execFeedStopped feed vgsMv s) := by
  unfold execFeedStopped
  repeat' first
    | (with_reducible first
        | assumption | rfl | intro _ | apply feedDeferredRan_ok | apply gateOff_ok | apply set_ok
        | apply toFeed_ok | apply ok_ite | apply ok_ite_fst | apply out_next | apply out_ite)

theorem execFeedRetryReload_ok {cq : List Instr} (feed : Nat) {s : State} (h : Ok cq s) :
    OutOk cq (execFeedRetryReload feed s) := by
  unfold execFeedRetryReload
  repeat' first
    | (with_reducible first
        | assumption | rfl | intro _ | apply set_ok | apply ok_ite | apply ok_ite_fst | apply out_next
        | apply out_ite)

theorem execFeedStuckOn_ok {cq : List Instr} (feed : Nat) (shuntUv : Int) {s : State} (h : Ok cq s) :
    OutOk cq (execFeedStuckOn feed shuntUv s) := by
  unfold execFeedStuckOn
  repeat' first
    | (with_reducible first
        | assumption | rfl | intro _ | apply gateOff_ok | apply raiseFeedFault_ok | apply ok_ite
        | apply ok_ite_fst | apply out_next | apply out_ite)

end Sys2Proof.Laws
end

