-- ==== Sys2Proof/Laws/OkFeedMeter.lean ====
section
/-! SUPPORT. The operations of Machine/FeedMeter.lean keep a sound state sound and the queue as it is. -/

namespace Sys2Proof.Laws

open Sys2Proof.Machine

theorem addFeedSample_ok {cq : List Instr} {s : State} (u : Nat) (vinMv : Nat) (i : Int) (vds : Int) (h : Ok cq s) :
    Ok cq (State.addFeedSample s u vinMv i vds) := by
  unfold State.addFeedSample
  repeat' first
    | (with_reducible first
        | assumption | rfl | intro _ | apply addTo_ok | apply modFeed_ok)

theorem execFeedSample_ok {cq : List Instr} (feed : Nat) (vinMv : Nat) (shuntUv : Int) (railMv : Nat) (vgsMv : Nat) (controlled : Bool) {s : State} (h : Ok cq s) :
    OutOk cq (execFeedSample feed vinMv shuntUv railMv vgsMv controlled s) := by
  unfold execFeedSample
  repeat' first
    | (with_reducible first
        | assumption | rfl | intro _ | apply addFeedSample_ok | apply closeWindow_ok | apply dropPG_ok
        | apply modSkein_ok | apply noteSettle_ok | apply setB_ok | apply ok_ite | apply ok_ite_fst
        | apply out_next | apply out_ite)

theorem execShareLimitSet_ok {cq : List Instr} (feed : Nat) (forNs : Nat) {s : State} (h : Ok cq s) :
    OutOk cq (execShareLimitSet feed forNs s) := by
  unfold execShareLimitSet
  repeat' first
    | (with_reducible first
        | assumption | rfl | intro _ | apply feedEvent_ok | apply set_ok | apply ok_ite | apply ok_ite_fst
        | apply out_next | apply out_ite)

theorem execShareLimitClear_ok {cq : List Instr} (feed : Nat) (forNs : Nat) {s : State} (h : Ok cq s) :
    OutOk cq (execShareLimitClear feed forNs s) := by
  unfold execShareLimitClear
  repeat' first
    | (with_reducible first
        | assumption | rfl | intro _ | apply set_ok | apply ok_ite | apply ok_ite_fst | apply out_next
        | apply out_ite)

theorem execPowerGoodSettled_ok {cq : List Instr} (skein : Nat) {s : State} (h : Ok cq s) :
    OutOk cq (execPowerGoodSettled skein s) := by
  unfold execPowerGoodSettled
  repeat' first
    | (with_reducible first
        | assumption | rfl | intro _ | apply modSkein_ok | apply set_ok | apply skeinEvent_ok | apply ok_ite
        | apply ok_ite_fst | apply out_next | apply out_ite)
    | exact out_fault | exact out_refused | split

theorem execAllocationPass_ok {cq : List Instr} (skein : Nat) {s : State} (h : Ok cq s) :
    OutOk cq (execAllocationPass skein s) := by
  unfold execAllocationPass
  repeat' first
    | (with_reducible first
        | assumption | rfl | intro _ | apply allocationPass_ok | apply ok_ite | apply ok_ite_fst | apply out_next
        | apply out_ite)

end Sys2Proof.Laws
end

