-- ==== Sys2Proof/Laws/OkHierCmds.lean ====
section
/-! SUPPORT. The operations of Machine/HierCmds.lean keep a sound state sound and the queue as it is. -/

namespace Sys2Proof.Laws

open Sys2Proof.Machine

theorem execListenWindowEnd_ok {cq : List Instr} {s : State} (h : Ok cq s) :
    OutOk cq (execListenWindowEnd s) := by
  unfold execListenWindowEnd
  repeat' first
    | (with_reducible first
        | assumption | rfl | intro _ | apply listenWindowEnd_ok | apply ok_ite | apply ok_ite_fst | apply out_next)

theorem execJoinTimeout_ok {cq : List Instr} {s : State} (h : Ok cq s) :
    OutOk cq (execJoinTimeout s) := by
  unfold execJoinTimeout
  repeat' first
    | (with_reducible first
        | assumption | rfl | intro _ | apply joinTimeout_ok | apply ok_ite | apply ok_ite_fst | apply out_next)

theorem execHeartbeatSend_ok {cq : List Instr} {s : State} (h : Ok cq s) :
    OutOk cq (execHeartbeatSend s) := by
  unfold execHeartbeatSend
  repeat' first
    | (with_reducible first
        | assumption | rfl | intro _ | apply hsendAll_ok | apply hwithdraw_ok | apply ok_ite | apply ok_ite_fst
        | apply out_next | apply out_ite)
    | exact out_fault | exact out_refused | split
    | fail_if_no_progress ((with_reducible apply mk_ok) <;> (try with_reducible rfl))

theorem meetManager_ok {cq : List Instr} {s : State} (src : Nat) (rank : Nat) (stamp : Nat) (bus : Option Nat) (h : Ok cq s) :
    Ok cq (State.meetManager s src rank stamp bus) := by
  unfold State.meetManager
  repeat' first
    | (with_reducible first
        | assumption | rfl | intro _ | apply demote_ok | apply onBus_ok | apply ok_ite | apply ok_ite_fst)
    | split | fail_if_no_progress ((with_reducible apply mk_ok) <;> (try with_reducible rfl)) | dsimp only
    | (simp; done)

theorem execHeartbeat_ok {cq : List Instr} (m : HMsg) {s : State} (h : Ok cq s) :
    OutOk cq (execHeartbeat m s) := by
  unfold execHeartbeat
  repeat' first
    | (with_reducible first
        | assumption | rfl | intro _ | apply hierMode_ok | apply joined_ok | apply meetManager_ok | apply onBus_ok
        | apply receiveMsg_ok | apply sendJoin_ok | apply sendWstatus_ok | apply takeManager_ok | apply ok_ite
        | apply ok_ite_fst | apply out_next | apply out_ite)
    | exact out_fault | exact out_refused | split
    | fail_if_no_progress ((with_reducible apply mk_ok) <;> (try with_reducible rfl))

theorem execHeartbeatLoss_ok {cq : List Instr} {s : State} (h : Ok cq s) :
    OutOk cq (execHeartbeatLoss s) := by
  unfold execHeartbeatLoss
  repeat' first
    | (with_reducible first
        | assumption | rfl | intro _ | apply heartbeatLoss_ok | apply ok_ite | apply ok_ite_fst | apply out_next)

theorem execElect_ok {cq : List Instr} (m : HMsg) {s : State} (h : Ok cq s) :
    OutOk cq (execElect m s) := by
  unfold execElect
  repeat' first
    | (with_reducible first
        | assumption | rfl | intro _ | apply hwithdraw_ok | apply receiveMsg_ok | apply ok_ite | apply ok_ite_fst
        | apply out_next | apply out_ite)
    | exact out_fault | exact out_refused | split
    | fail_if_no_progress ((with_reducible apply mk_ok) <;> (try with_reducible rfl))

theorem execElectionWindowEnd_ok {cq : List Instr} {s : State} (h : Ok cq s) :
    OutOk cq (execElectionWindowEnd s) := by
  unfold execElectionWindowEnd
  repeat' first
    | (with_reducible first
        | assumption | rfl | intro _ | apply electionWindowEnd_ok | apply ok_ite | apply ok_ite_fst
        | apply out_next)

theorem execElectionRetry_ok {cq : List Instr} {s : State} (h : Ok cq s) :
    OutOk cq (execElectionRetry s) := by
  unfold execElectionRetry
  repeat' first
    | (with_reducible first
        | assumption | rfl | intro _ | apply electionRetry_ok | apply ok_ite | apply ok_ite_fst | apply out_next)

theorem execAnnounce_ok {cq : List Instr} (m : HMsg) {s : State} (h : Ok cq s) :
    OutOk cq (execAnnounce m s) := by
  unfold execAnnounce
  repeat' first
    | (with_reducible first
        | assumption | rfl | intro _ | apply meetManager_ok | apply receiveMsg_ok | apply sendWstatus_ok
        | apply takeManager_ok | apply ok_ite | apply ok_ite_fst | apply out_next | apply out_ite)
    | exact out_fault | exact out_refused | split
    | fail_if_no_progress ((with_reducible apply mk_ok) <;> (try with_reducible rfl))

theorem execJoin_ok {cq : List Instr} (m : HMsg) {s : State} (h : Ok cq s) :
    OutOk cq (execJoin m s) := by
  unfold execJoin
  repeat' first
    | (with_reducible first
        | assumption | rfl | intro _ | apply becomeManager_ok | apply hierEvent_ok | apply hsend_ok
        | apply receiveMsg_ok | apply sendPools_ok | apply ok_ite | apply ok_ite_fst | apply out_next
        | apply out_ite)
    | exact out_fault | exact out_refused | split
    | fail_if_no_progress ((with_reducible apply mk_ok) <;> (try with_reducible rfl))

theorem execJoinAck_ok {cq : List Instr} (m : HMsg) {s : State} (h : Ok cq s) :
    OutOk cq (execJoinAck m s) := by
  unfold execJoinAck
  repeat' first
    | (with_reducible first
        | assumption | rfl | intro _ | apply hierEvent_ok | apply joined_ok | apply receiveMsg_ok
        | apply takeManager_ok | apply ok_ite | apply ok_ite_fst | apply out_next | apply out_ite)
    | exact out_fault | exact out_refused | split
    | fail_if_no_progress ((with_reducible apply mk_ok) <;> (try with_reducible rfl))

theorem execLeave_ok {cq : List Instr} (m : HMsg) {s : State} (h : Ok cq s) :
    OutOk cq (execLeave m s) := by
  unfold execLeave
  repeat' first
    | (with_reducible first
        | assumption | rfl | intro _ | apply memberGone_ok | apply receiveMsg_ok | apply ok_ite | apply ok_ite_fst
        | apply out_next)

theorem execWstatusSend_ok {cq : List Instr} {s : State} (h : Ok cq s) :
    OutOk cq (execWstatusSend s) := by
  unfold execWstatusSend
  repeat' first
    | (with_reducible first
        | assumption | rfl | intro _ | apply sendWstatus_ok | apply ok_ite | apply ok_ite_fst | apply out_next
        | apply out_ite)
    | exact out_fault | exact out_refused | split
    | fail_if_no_progress ((with_reducible apply mk_ok) <;> (try with_reducible rfl))

theorem memberTimeout_ok {cq : List Instr} {s : State} (idx : Nat) (h : Ok cq s) :
    Ok cq (State.memberTimeout s idx) := by
  unfold State.memberTimeout
  repeat' first
    | (with_reducible first
        | assumption | rfl | intro _ | apply memberGone_ok | apply ok_ite)

theorem execWstatus_ok {cq : List Instr} (m : HMsg) {s : State} (h : Ok cq s) :
    OutOk cq (execWstatus m s) := by
  unfold execWstatus
  repeat' first
    | (with_reducible first
        | assumption | rfl | intro _ | apply memberTimeout_ok | apply receiveMsg_ok | apply ok_ite
        | apply ok_ite_fst | apply out_next | apply out_ite)
    | exact out_fault | exact out_refused | split
    | fail_if_no_progress ((with_reducible apply mk_ok) <;> (try with_reducible rfl))

theorem execMemberAbsent_ok {cq : List Instr} (idx : Nat) {s : State} (h : Ok cq s) :
    OutOk cq (execMemberAbsent idx s) := by
  unfold execMemberAbsent
  repeat' first
    | (with_reducible first
        | assumption | rfl | intro _ | apply memberTimeout_ok | apply ok_ite | apply ok_ite_fst | apply out_next)

theorem execTsyncSend_ok {cq : List Instr} {s : State} (h : Ok cq s) :
    OutOk cq (execTsyncSend s) := by
  unfold execTsyncSend
  repeat' first
    | (with_reducible first
        | assumption | rfl | intro _ | apply hsendAll_ok | apply hwithdraw_ok | apply ok_ite | apply ok_ite_fst
        | apply out_next | apply out_ite)
    | exact out_fault | exact out_refused | split
    | fail_if_no_progress ((with_reducible apply mk_ok) <;> (try with_reducible rfl))

theorem execTsync_ok {cq : List Instr} (m : HMsg) {s : State} (h : Ok cq s) :
    OutOk cq (execTsync m s) := by
  unfold execTsync
  repeat' first
    | (with_reducible first
        | assumption | rfl | intro _ | apply receiveMsg_ok | apply set_ok | apply ok_ite | apply ok_ite_fst
        | apply out_next | apply out_ite)
    | exact out_fault | exact out_refused | split
    | fail_if_no_progress ((with_reducible apply mk_ok) <;> (try with_reducible rfl))

theorem execTfollowSend_ok {cq : List Instr} (bus : Nat) {s : State} (h : Ok cq s) :
    OutOk cq (execTfollowSend bus s) := by
  unfold execTfollowSend
  repeat' first
    | (with_reducible first
        | assumption | rfl | intro _ | apply hsendOn_ok | apply set_ok | apply ok_ite | apply ok_ite_fst
        | apply out_next | apply out_ite)
    | exact out_fault | exact out_refused | split
    | fail_if_no_progress ((with_reducible apply mk_ok) <;> (try with_reducible rfl))

theorem followLoss_ok {cq : List Instr} {s : State} (h : Ok cq s) :
    Ok cq (State.followLoss s) := by
  unfold State.followLoss
  repeat' first
    | (with_reducible first
        | assumption | rfl | intro _ | apply unlockTime_ok | apply ok_ite | apply ok_ite_fst)
    | split | fail_if_no_progress ((with_reducible apply mk_ok) <;> (try with_reducible rfl)) | dsimp only
    | (simp; done)

theorem execTfollow_ok {cq : List Instr} (m : HMsg) {s : State} (h : Ok cq s) :
    OutOk cq (execTfollow m s) := by
  unfold execTfollow
  repeat' first
    | (with_reducible first
        | assumption | rfl | intro _ | apply followLoss_ok | apply judgeOffset_ok | apply receiveMsg_ok
        | apply ok_ite | apply ok_ite_fst | apply out_next | apply out_ite)
    | exact out_fault | exact out_refused | split
    | fail_if_no_progress ((with_reducible apply mk_ok) <;> (try with_reducible rfl))

theorem execDreqSend_ok {cq : List Instr} {s : State} (h : Ok cq s) :
    OutOk cq (execDreqSend s) := by
  unfold execDreqSend
  repeat' first
    | (with_reducible first
        | assumption | rfl | intro _ | apply hsend_ok | apply hwithdraw_ok | apply ok_ite | apply ok_ite_fst
        | apply out_next | apply out_ite)
    | exact out_fault | exact out_refused | split
    | fail_if_no_progress ((with_reducible apply mk_ok) <;> (try with_reducible rfl))

theorem execDreq_ok {cq : List Instr} (m : HMsg) (aheadNs : Nat) {s : State} (h : Ok cq s) :
    OutOk cq (execDreq m aheadNs s) := by
  unfold execDreq
  repeat' first
    | (with_reducible first
        | assumption | rfl | intro _ | apply hsend_ok | apply receiveMsg_ok | apply stepTime_ok | apply ok_ite
        | apply ok_ite_fst | apply out_next)

theorem execDresp_ok {cq : List Instr} (m : HMsg) {s : State} (h : Ok cq s) :
    OutOk cq (execDresp m s) := by
  unfold execDresp
  repeat' first
    | (with_reducible first
        | assumption | rfl | intro _ | apply judgeOffset_ok | apply receiveMsg_ok | apply ok_ite
        | apply ok_ite_fst | apply out_next | apply out_ite)
    | exact out_fault | exact out_refused | split
    | fail_if_no_progress ((with_reducible apply mk_ok) <;> (try with_reducible rfl))

theorem execTimeUnlockTimeout_ok {cq : List Instr} {s : State} (h : Ok cq s) :
    OutOk cq (execTimeUnlockTimeout s) := by
  unfold execTimeUnlockTimeout
  repeat' first
    | (with_reducible first
        | assumption | rfl | intro _ | apply followLoss_ok | apply ok_ite | apply ok_ite_fst | apply out_next
        | apply out_ite)

theorem takeSegment_ok {cq : List Instr} {s : State} (reply : Bool) (m : HMsg) (cls : Nat) (h : Ok cq s) :
    Ok cq (State.takeSegment s reply m cls).1 := by
  unfold State.takeSegment
  repeat' first
    | (with_reducible first
        | assumption | rfl | intro _ | apply ok_ite | apply ok_ite_fst)
    | split | fail_if_no_progress ((with_reducible apply mk_ok) <;> (try with_reducible rfl)) | dsimp only

theorem execCmdSegment_ok {cq : List Instr} (m : HMsg) (cls : Nat) {s : State} (h : Ok cq s) :
    OutOk cq (execCmdSegment m cls s) := by
  unfold execCmdSegment
  repeat' first
    | (with_reducible first
        | assumption | rfl | intro _ | apply receiveMsg_ok | apply receivePacket_ok | apply takeSegment_ok
        | apply ok_ite | apply ok_ite_fst | apply out_next | apply out_ite)
    | exact out_fault | exact out_refused | split
    | fail_if_no_progress ((with_reducible apply mk_ok) <;> (try with_reducible rfl)) | dsimp only

theorem execRplSegment_ok {cq : List Instr} (m : HMsg) (cls : Nat) {s : State} (h : Ok cq s) :
    OutOk cq (execRplSegment m cls s) := by
  unfold execRplSegment
  repeat' first
    | (with_reducible first
        | assumption | rfl | intro _ | apply endDeferral_ok | apply endForward_ok | apply forwardLate_ok
        | apply receiveMsg_ok | apply takeSegment_ok | apply ok_ite | apply ok_ite_fst | apply out_next
        | apply out_ite)
    | exact out_fault | exact out_refused | split
    | fail_if_no_progress ((with_reducible apply mk_ok) <;> (try with_reducible rfl)) | dsimp only

theorem execSegmentTimeout_ok {cq : List Instr} (reply : Bool) (src : Nat) (cls : Nat) {s : State} (h : Ok cq s) :
    OutOk cq (execSegmentTimeout reply src cls s) := by
  unfold execSegmentTimeout
  repeat' first
    | (with_reducible first
        | assumption | rfl | intro _ | apply ok_ite | apply ok_ite_fst | apply out_next | apply out_ite)
    | exact out_fault | exact out_refused | split
    | fail_if_no_progress ((with_reducible apply mk_ok) <;> (try with_reducible rfl))

theorem execEventFrame_ok {cq : List Instr} (m : HMsg) {s : State} (h : Ok cq s) :
    OutOk cq (execEventFrame m s) := by
  unfold execEventFrame
  repeat' first
    | (with_reducible first
        | assumption | rfl | intro _ | apply deliverEvent_ok | apply flagWake_ok | apply receiveMsg_ok
        | apply ok_ite | apply ok_ite_fst | apply out_next | apply out_ite)
    | exact out_fault | exact out_refused | split
    | fail_if_no_progress ((with_reducible apply mk_ok) <;> (try with_reducible rfl))

theorem execLoanCompute_ok {cq : List Instr} {s : State} (h : Ok cq s) :
    OutOk cq (execLoanCompute s) := by
  unfold execLoanCompute
  repeat' first
    | (with_reducible first
        | assumption | apply ok_foldl | apply ok_foldl_fst | rfl | intro _ | apply nextGen_ok | apply sendLoan_ok
        | apply setLoan_ok | apply set_ok | apply ok_ite | apply ok_ite_fst | apply out_next | apply out_ite)
    | exact out_fault | exact out_refused | split
    | fail_if_no_progress ((with_reducible apply mk_ok) <;> (try with_reducible rfl))

theorem execLoan_ok {cq : List Instr} (m : HMsg) {s : State} (h : Ok cq s) :
    OutOk cq (execLoan m s) := by
  unfold execLoan
  repeat' first
    | (with_reducible first
        | assumption | apply ok_foldl | apply ok_foldl_fst | rfl | intro _ | apply hierEvent_ok | apply hsend_ok
        | apply receiveMsg_ok | apply setLoan_ok | apply set_ok | apply ok_ite | apply ok_ite_fst | apply out_next)

theorem execLoanAck_ok {cq : List Instr} (m : HMsg) {s : State} (h : Ok cq s) :
    OutOk cq (execLoanAck m s) := by
  unfold execLoanAck
  repeat' first
    | (with_reducible first
        | assumption | rfl | intro _ | apply modMember_ok | apply receiveMsg_ok | apply ok_ite | apply ok_ite_fst
        | apply out_next | apply out_ite)
    | exact out_fault | exact out_refused | split
    | fail_if_no_progress ((with_reducible apply mk_ok) <;> (try with_reducible rfl))

theorem execLoanResend_ok {cq : List Instr} (idx : Nat) {s : State} (h : Ok cq s) :
    OutOk cq (execLoanResend idx s) := by
  unfold execLoanResend
  repeat' first
    | (with_reducible first
        | assumption | rfl | intro _ | apply putLoan_ok | apply ok_ite | apply ok_ite_fst | apply out_next
        | apply out_ite)
    | exact out_fault | exact out_refused | split

theorem execLoanRaise_ok {cq : List Instr} {s : State} (h : Ok cq s) :
    OutOk cq (execLoanRaise s) := by
  unfold execLoanRaise
  repeat' first
    | (with_reducible first
        | assumption | apply ok_foldl | apply ok_foldl_fst | rfl | intro _ | apply nextGen_ok | apply sendLoan_ok
        | apply setLoan_ok | apply ok_ite | apply ok_ite_fst | apply out_next | apply out_ite)

theorem execPoolSync_ok {cq : List Instr} (m : HMsg) {s : State} (h : Ok cq s) :
    OutOk cq (execPoolSync m s) := by
  unfold execPoolSync
  repeat' first
    | (with_reducible first
        | assumption | rfl | intro _ | apply receiveMsg_ok | apply ok_ite | apply ok_ite_fst | apply out_next
        | apply out_ite)
    | exact out_fault | exact out_refused | split
    | fail_if_no_progress ((with_reducible apply mk_ok) <;> (try with_reducible rfl))

theorem execPoolSyncPeriodic_ok {cq : List Instr} {s : State} (h : Ok cq s) :
    OutOk cq (execPoolSyncPeriodic s) := by
  unfold execPoolSyncPeriodic
  repeat' first
    | (with_reducible first
        | assumption | rfl | intro _ | apply sendPools_ok | apply ok_ite | apply ok_ite_fst | apply out_next
        | apply out_ite)

theorem modFw_ok {cq : List Instr} {s : State} (f : FwDist → FwDist) (h : Ok cq s) :
    Ok cq (State.modFw s f) := by
  unfold State.modFw
  repeat' first
    | (with_reducible first
        | assumption | rfl | intro _ | apply ok_ite | apply ok_ite_fst)
    | split | fail_if_no_progress ((with_reducible apply mk_ok) <;> (try with_reducible rfl))

theorem sendNack_ok {cq : List Instr} {s : State} (round : Nat) (result : Nat) (chunks : List Nat) (h : Ok cq s) :
    Ok cq (State.sendNack s round result chunks) := by
  unfold State.sendNack
  repeat' first
    | (with_reducible first
        | assumption | rfl | intro _ | apply Pack_round_ok | apply hsend_ok)

theorem execFwCtrl_ok {cq : List Instr} (m : HMsg) {s : State} (h : Ok cq s) :
    OutOk cq (execFwCtrl m s) := by
  unfold execFwCtrl
  repeat' first
    | (with_reducible first
        | assumption | rfl | intro _ | apply Pack_rounds_ok | apply count_ok | apply hierEvent_ok | apply modFw_ok
        | apply receiveMsg_ok | apply sendNack_ok | apply ok_ite | apply ok_ite_fst | apply out_next)

theorem execFwData_ok {cq : List Instr} (m : HMsg) {s : State} (h : Ok cq s) :
    OutOk cq (execFwData m s) := by
  unfold execFwData
  repeat' first
    | (with_reducible first
        | assumption | rfl | intro _ | apply count_ok | apply modFw_ok | apply receiveMsg_ok | apply ok_ite
        | apply ok_ite_fst | apply out_next)

theorem execFwNack_ok {cq : List Instr} (m : HMsg) {s : State} (h : Ok cq s) :
    OutOk cq (execFwNack m s) := by
  unfold execFwNack
  repeat' first
    | (with_reducible first
        | assumption | apply ok_foldl | apply ok_foldl_fst | rfl | intro _ | apply Pack_round_ok | apply modFw_ok
        | apply receiveMsg_ok | apply ok_ite | apply ok_ite_fst | apply out_next)

theorem execFwNackWindowEnd_ok {cq : List Instr} {s : State} (h : Ok cq s) :
    OutOk cq (execFwNackWindowEnd s) := by
  unfold execFwNackWindowEnd
  repeat' first
    | (with_reducible first
        | assumption | rfl | intro _ | apply Pack_round_ok | apply modFw_ok | apply ok_ite | apply ok_ite_fst
        | apply out_next | apply out_ite)

theorem execWorkerImageWritten_ok {cq : List Instr} {s : State} (h : Ok cq s) :
    OutOk cq (execWorkerImageWritten s) := by
  unfold execWorkerImageWritten
  repeat' first
    | (with_reducible first
        | assumption | rfl | intro _ | apply Pack_rounds_ok | apply count_ok | apply finish_ok
        | apply hierEvent_ok | apply modFw_ok | apply sendNack_ok | apply setBit_ok | apply setSlot_ok
        | apply set_ok | apply ok_ite | apply ok_ite_fst | apply out_next | apply out_ite)
    | exact out_fault | exact out_refused | split
    | fail_if_no_progress ((with_reducible apply mk_ok) <;> (try with_reducible rfl))

theorem execFwBroadcast_ok {cq : List Instr} (p : Packet) {s : State} (h : Ok cq s) :
    OutOk cq (execFwBroadcast p s) := by
  unfold execFwBroadcast
  repeat' first
    | (with_reducible first
        | assumption | rfl | intro _ | apply OpOut_fail_ok | apply OpOut_ok_ok | apply fwCtrl_ok | apply modFw_ok
        | apply runOp_ok | apply ok_ite | apply ok_ite_fst | apply out_next | apply out_ite)
    | exact out_fault | exact out_refused | split

end Sys2Proof.Laws
end

