-- ==== Sys2Proof/Laws/OkDescriptors.lean ====
section
/-! SUPPORT. The operations of Machine/Descriptors.lean keep a sound state sound and the queue as it is. -/

namespace Sys2Proof.Laws

open Sys2Proof.Machine

theorem startSplit_ok {cq : List Instr} {s : State} (n : Nat) (dev : Nat) (ep : Nat) (slot : Option Nat) (data : List Nat) (h : Ok cq s) :
    Ok cq (State.startSplit s n dev ep slot data) := by
  unfold State.startSplit
  repeat' first
    | (with_reducible first
        | assumption | rfl | intro _ | apply modPort_ok | apply set_ok | apply ok_ite | apply ok_ite_fst)
    | split

theorem completeSplit_ok {cq : List Instr} {s : State} (n : Nat) (dev : Nat) (ep : Nat) (slot : Option Nat) (h : Ok cq s) :
    Ok cq (State.completeSplit s n dev ep slot).1 := by
  unfold State.completeSplit
  repeat' first
    | (with_reducible first
        | assumption | rfl | intro _ | apply modPort_ok | apply set_ok | apply ok_ite | apply ok_ite_fst)
    | split

end Sys2Proof.Laws
end

