-- ==== Sys2Proof/Laws/OkHubCmds.lean ====
section
/-! SUPPORT. The operations of Machine/HubCmds.lean keep a sound state sound and the queue as it is. -/

namespace Sys2Proof.Laws

open Sys2Proof.Machine

theorem hubAnswer_ok {cq : List Instr} {s : State} (stalled : Bool) (data : List Nat) (h : Ok cq s) :
    Ok cq (State.hubAnswer s stalled data) := by
  unfold State.hubAnswer
  repeat' first
    | (with_reducible first
        | assumption | rfl | intro _ | apply ok_ite | apply ok_ite_fst)
    | split | fail_if_no_progress ((with_reducible apply mk_ok) <;> (try with_reducible rfl))

theorem hubRequest_ok {cq : List Instr} {s : State} (hubPort : Nat) (f : Nat → State → State) (h : Ok cq s) (hf : ∀ a s, Ok cq s → Ok cq (f a s)) :
    Ok cq (State.hubRequest s hubPort f) := by
  unfold State.hubRequest
  repeat' first
    | (with_reducible first
        | assumption | apply hf | rfl | intro _ | apply hubAnswer_ok | apply ok_ite)

theorem execSetPortPower_ok {cq : List Instr} (hubPort : Nat) {s : State} (h : Ok cq s) :
    OutOk cq (execSetPortPower hubPort s) := by
  unfold execSetPortPower
  repeat' first
    | (with_reducible first
        | assumption | rfl | intro _ | apply evalPower_ok | apply hubRequest_ok | apply set_ok | apply ok_ite
        | apply ok_ite_fst | apply out_next)

theorem execClearPortPower_ok {cq : List Instr} (hubPort : Nat) {s : State} (h : Ok cq s) :
    OutOk cq (execClearPortPower hubPort s) := by
  unfold execClearPortPower
  repeat' first
    | (with_reducible first
        | assumption | rfl | intro _ | apply count_ok | apply hubEvent_ok | apply hubRequest_ok | apply set_ok
        | apply vbusClear_ok | apply ok_ite | apply ok_ite_fst | apply out_next)

theorem execSetPortReset_ok {cq : List Instr} (hubPort : Nat) {s : State} (h : Ok cq s) :
    OutOk cq (execSetPortReset hubPort s) := by
  unfold execSetPortReset
  repeat' first
    | (with_reducible first
        | assumption | rfl | intro _ | apply hubAnswer_ok | apply hubNote_ok | apply hubRequest_ok
        | apply loomReset_ok | apply modPort_ok | apply ttClear_ok | apply ok_ite | apply ok_ite_fst
        | apply out_next | apply out_ite)

theorem execPortResetEnd_ok {cq : List Instr} (hubPort : Nat) (speed : Nat) {s : State} (h : Ok cq s) :
    OutOk cq (execPortResetEnd hubPort speed s) := by
  unfold execPortResetEnd
  repeat' first
    | (with_reducible first
        | assumption | rfl | intro _ | apply hubChange_ok | apply hubNote_ok | apply modPort_ok | apply ok_ite
        | apply ok_ite_fst | apply out_next | apply out_ite)
    | exact out_fault | exact out_refused | split
    | fail_if_no_progress ((with_reducible apply mk_ok) <;> (try with_reducible rfl)) | dsimp only

theorem execClearPortEnable_ok {cq : List Instr} (hubPort : Nat) {s : State} (h : Ok cq s) :
    OutOk cq (execClearPortEnable hubPort s) := by
  unfold execClearPortEnable
  repeat' first
    | (with_reducible first
        | assumption | rfl | intro _ | apply hubNote_ok | apply hubRequest_ok | apply modPort_ok | apply ok_ite
        | apply ok_ite_fst | apply out_next)

theorem execSetPortSuspend_ok {cq : List Instr} (hubPort : Nat) {s : State} (h : Ok cq s) :
    OutOk cq (execSetPortSuspend hubPort s) := by
  unfold execSetPortSuspend
  repeat' first
    | (with_reducible first
        | assumption | rfl | intro _ | apply hubNote_ok | apply hubRequest_ok | apply modPort_ok | apply ok_ite
        | apply ok_ite_fst | apply out_next)

theorem execClearPortSuspend_ok {cq : List Instr} (hubPort : Nat) {s : State} (h : Ok cq s) :
    OutOk cq (execClearPortSuspend hubPort s) := by
  unfold execClearPortSuspend
  repeat' first
    | (with_reducible first
        | assumption | rfl | intro _ | apply hubRequest_ok | apply modPort_ok | apply ok_ite | apply ok_ite_fst
        | apply out_next)

theorem execSetPortTest_ok {cq : List Instr} (hubPort : Nat) (mode : Nat) {s : State} (h : Ok cq s) :
    OutOk cq (execSetPortTest hubPort mode s) := by
  unfold execSetPortTest
  repeat' first
    | (with_reducible first
        | assumption | rfl | intro _ | apply hubAnswer_ok | apply hubRequest_ok | apply modPort_ok | apply ok_ite
        | apply ok_ite_fst | apply out_next)

theorem execSetPortIndicator_ok {cq : List Instr} (hubPort : Nat) {s : State} (h : Ok cq s) :
    OutOk cq (execSetPortIndicator hubPort s) := by
  unfold execSetPortIndicator
  repeat' first
    | (with_reducible first
        | assumption | rfl | intro _ | apply hubAnswer_ok | apply hubRequest_ok | apply ok_ite | apply ok_ite_fst
        | apply out_next)

theorem execClearTtBuffer_ok {cq : List Instr} (hubPort : Nat) (dev : Nat) (ep : Nat) {s : State} (h : Ok cq s) :
    OutOk cq (execClearTtBuffer hubPort dev ep s) := by
  unfold execClearTtBuffer
  repeat' first
    | (with_reducible first
        | assumption | rfl | intro _ | apply count_ok | apply hubRequest_ok | apply ttDrop_ok | apply ok_ite
        | apply ok_ite_fst | apply out_next)

theorem execResetTt_ok {cq : List Instr} (hubPort : Nat) {s : State} (h : Ok cq s) :
    OutOk cq (execResetTt hubPort s) := by
  unfold execResetTt
  repeat' first
    | (with_reducible first
        | assumption | rfl | intro _ | apply count_ok | apply hubRequest_ok | apply modPort_ok | apply ttClear_ok
        | apply ok_ite | apply ok_ite_fst | apply out_next)

theorem execStopTt_ok {cq : List Instr} (hubPort : Nat) {s : State} (h : Ok cq s) :
    OutOk cq (execStopTt hubPort s) := by
  unfold execStopTt
  repeat' first
    | (with_reducible first
        | assumption | rfl | intro _ | apply hubRequest_ok | apply modPort_ok | apply ok_ite | apply ok_ite_fst
        | apply out_next)

theorem execGetTtState_ok {cq : List Instr} (hubPort : Nat) {s : State} (h : Ok cq s) :
    OutOk cq (execGetTtState hubPort s) := by
  unfold execGetTtState
  repeat' first
    | (with_reducible first
        | assumption | rfl | intro _ | apply hubAnswer_ok | apply hubRequest_ok | apply ok_ite | apply ok_ite_fst
        | apply out_next)

theorem execGetPortStatus_ok {cq : List Instr} (hubPort : Nat) {s : State} (h : Ok cq s) :
    OutOk cq (execGetPortStatus hubPort s) := by
  unfold execGetPortStatus
  repeat' first
    | (with_reducible first
        | assumption | rfl | intro _ | apply hubAnswer_ok | apply hubRequest_ok | apply ok_ite | apply ok_ite_fst
        | apply out_next | apply out_ite)

theorem execHubSetInterface_ok {cq : List Instr} (alt : Nat) {s : State} (h : Ok cq s) :
    OutOk cq (execHubSetInterface alt s) := by
  unfold execHubSetInterface
  repeat' first
    | (with_reducible first
        | assumption | rfl | intro _ | apply set_ok | apply ttClearAll_ok | apply ok_ite | apply ok_ite_fst
        | apply out_next | apply out_ite)

theorem execUpstreamReset_ok {cq : List Instr} {s : State} (h : Ok cq s) :
    OutOk cq (execUpstreamReset s) := by
  unfold execUpstreamReset
  repeat' first
    | (with_reducible first
        | assumption | rfl | intro _ | apply hubClear_ok | apply loomReset_ok | apply set_ok | apply ok_ite
        | apply ok_ite_fst | apply out_next | apply out_ite)

theorem execHubGlobalSuspend_ok {cq : List Instr} (idleNs : Nat) {s : State} (h : Ok cq s) :
    OutOk cq (execHubGlobalSuspend idleNs s) := by
  unfold execHubGlobalSuspend
  repeat' first
    | (with_reducible first
        | assumption | rfl | intro _ | apply hubEvent_ok | apply loomEvent_ok | apply set_ok | apply ok_ite
        | apply ok_ite_fst | apply out_next | apply out_ite)
    | exact out_fault | exact out_refused | split
    | fail_if_no_progress ((with_reducible apply mk_ok) <;> (try with_reducible rfl))

theorem execHostResume_ok {cq : List Instr} (eop : Bool) {s : State} (h : Ok cq s) :
    OutOk cq (execHostResume eop s) := by
  unfold execHostResume
  repeat' first
    | (with_reducible first
        | assumption | rfl | intro _ | apply hubEvent_ok | apply loomEvent_ok | apply set_ok | apply wakeBy_ok
        | apply ok_ite | apply ok_ite_fst | apply out_next | apply out_ite)
    | exact out_fault | exact out_refused | split
    | fail_if_no_progress ((with_reducible apply mk_ok) <;> (try with_reducible rfl))

theorem execDownstreamRemoteWake_ok {cq : List Instr} (hubPort : Nat) (signal : Bool) {s : State} (h : Ok cq s) :
    OutOk cq (execDownstreamRemoteWake hubPort signal s) := by
  unfold execDownstreamRemoteWake
  repeat' first
    | (with_reducible first
        | assumption | rfl | intro _ | apply hubWake_ok | apply resumePort_ok | apply ok_ite | apply ok_ite_fst
        | apply out_next | apply out_ite)

theorem execPortResumeEnd_ok {cq : List Instr} (hubPort : Nat) {s : State} (h : Ok cq s) :
    OutOk cq (execPortResumeEnd hubPort s) := by
  unfold execPortResumeEnd
  repeat' first
    | (with_reducible first
        | assumption | rfl | intro _ | apply hubChange_ok | apply hubNote_ok | apply modPort_ok | apply ok_ite
        | apply ok_ite_fst | apply out_next | apply out_ite)
    | exact out_fault | exact out_refused | split

theorem execDownstreamConnectChange_ok {cq : List Instr} (hubPort : Nat) (pullup : Bool) {s : State} (h : Ok cq s) :
    OutOk cq (execDownstreamConnectChange hubPort pullup s) := by
  unfold execDownstreamConnectChange
  repeat' first
    | (with_reducible first
        | assumption | rfl | intro _ | apply reconnect_ok | apply ok_ite | apply ok_ite_fst | apply out_next
        | apply out_ite)

theorem execLinkPowerStateRequest_ok {cq : List Instr} (pm : LinkPm) {s : State} (h : Ok cq s) :
    OutOk cq (execLinkPowerStateRequest pm s) := by
  unfold execLinkPowerStateRequest
  repeat' first
    | (with_reducible first
        | assumption | rfl | intro _ | apply hubAnswer_ok | apply hubChange_ok | apply hubNote_ok
        | apply hubRequest_ok | apply modPort_ok | apply set_ok | apply ok_ite | apply ok_ite_fst | apply out_next
        | apply out_ite)
    | exact out_fault | exact out_refused | split
    | fail_if_no_progress ((with_reducible apply mk_ok) <;> (try with_reducible rfl))

theorem loomEp0_ok {cq : List Instr} {s : State} (fn : UsbFn) (data : List Nat) (h : Ok cq s) :
    Ok cq (State.loomEp0 s fn data) := by
  unfold State.loomEp0
  repeat' first
    | (with_reducible first
        | assumption | rfl | intro _ | apply hostAccess_ok | apply ok_ite | apply ok_ite_fst)
    | split | fail_if_no_progress ((with_reducible apply mk_ok) <;> (try with_reducible rfl)) | dsimp only
    | (simp; done)

theorem execHubStandardRequest_ok {cq : List Instr} (req : HubReq) {s : State} (h : Ok cq s) :
    OutOk cq (execHubStandardRequest req s) := by
  unfold execHubStandardRequest
  repeat' first
    | (with_reducible first
        | assumption | rfl | intro _ | apply completeSplit_ok | apply hubAnswer_ok | apply loomEp0_ok
        | apply setB_ok | apply set_ok | apply startSplit_ok | apply ok_ite | apply ok_ite_fst | apply out_next
        | apply out_ite)
    | exact out_fault | exact out_refused | split

end Sys2Proof.Laws
end

