-- ==== Sys2Proof/Laws/OkPortLife.lean ====
section
/-! SUPPORT. The operations of Machine/PortLife.lean keep a sound state sound and the queue as it is. -/

namespace Sys2Proof.Laws

open Sys2Proof.Machine

theorem startDebounce_ok {cq : List Instr} {s : State} (n : Nat) (f : PortH → PortH) (h : Ok cq s) :
    Ok cq (State.startDebounce s n f) := by
  unfold State.startDebounce
  repeat' first
    | (with_reducible first
        | assumption | rfl | intro _ | apply modPort_ok | apply setAtt_ok | apply set_ok)

theorem execCcSample_ok {cq : List Instr} (port : Nat) (pat : CcPat) {s : State} (h : Ok cq s) :
    OutOk cq (execCcSample port pat s) := by
  unfold execCcSample
  repeat' first
    | (with_reducible first
        | assumption | rfl | intro _ | apply setAtt_ok | apply set_ok | apply startDebounce_ok | apply ok_ite
        | apply ok_ite_fst | apply out_next | apply out_ite)

theorem execTypecDebounceComplete_ok {cq : List Instr} (port : Nat) {s : State} (h : Ok cq s) :
    OutOk cq (execTypecDebounceComplete port s) := by
  unfold execTypecDebounceComplete
  repeat' first
    | (with_reducible first
        | assumption | rfl | intro _ | apply attach_ok | apply ok_ite | apply ok_ite_fst | apply out_next
        | apply out_ite)
    | exact out_fault | exact out_refused | split

theorem execTypeaDetect_ok {cq : List Instr} (port : Nat) (iMa : Int) (pullup : Bool) {s : State} (h : Ok cq s) :
    OutOk cq (execTypeaDetect port iMa pullup s) := by
  unfold execTypeaDetect
  repeat' first
    | (with_reducible first
        | assumption | rfl | intro _ | apply modPort_ok | apply setAtt_ok | apply set_ok | apply startDebounce_ok
        | apply ok_ite | apply ok_ite_fst | apply out_next | apply out_ite)

theorem execTypeaDebounceComplete_ok {cq : List Instr} (port : Nat) {s : State} (h : Ok cq s) :
    OutOk cq (execTypeaDebounceComplete port s) := by
  unfold execTypeaDebounceComplete
  repeat' first
    | (with_reducible first
        | assumption | rfl | intro _ | apply attach_ok | apply ok_ite | apply ok_ite_fst | apply out_next
        | apply out_ite)

theorem execTypecDetach_ok {cq : List Instr} (port : Nat) (openNs : Nat) {s : State} (h : Ok cq s) :
    OutOk cq (execTypecDetach port openNs s) := by
  unfold execTypecDetach
  repeat' first
    | (with_reducible first
        | assumption | rfl | intro _ | apply detach_ok | apply poolService_ok | apply ok_ite | apply ok_ite_fst
        | apply out_next | apply out_ite)

theorem execTypeaDetach_ok {cq : List Instr} (port : Nat) (forNs : Nat) {s : State} (h : Ok cq s) :
    OutOk cq (execTypeaDetach port forNs s) := by
  unfold execTypeaDetach
  repeat' first
    | (with_reducible first
        | assumption | rfl | intro _ | apply detach_ok | apply poolService_ok | apply ok_ite | apply ok_ite_fst
        | apply out_next | apply out_ite)

theorem execTypeaPullupSeen_ok {cq : List Instr} (port : Nat) {s : State} (h : Ok cq s) :
    OutOk cq (execTypeaPullupSeen port s) := by
  unfold execTypeaPullupSeen
  repeat' first
    | (with_reducible first
        | assumption | rfl | intro _ | apply set_ok | apply ok_ite | apply ok_ite_fst | apply out_next
        | apply out_ite)

theorem execQualifyComplete_ok {cq : List Instr} (port : Nat) {s : State} (h : Ok cq s) :
    OutOk cq (execQualifyComplete port s) := by
  unfold execQualifyComplete
  repeat' first
    | (with_reducible first
        | assumption | rfl | intro _ | apply noteTadpole_ok | apply present_ok | apply reconnect_ok
        | apply setAtt_ok | apply startEnum_ok | apply wakeBy_ok | apply ok_ite | apply ok_ite_fst
        | apply out_next | apply out_ite)
    | exact out_fault | exact out_refused | split

theorem restartQualify_ok {cq : List Instr} {s : State} (h : Ok cq s) :
    Ok cq (State.restartQualify s) := by
  unfold State.restartQualify
  repeat' first
    | (with_reducible first
        | assumption | apply ok_foldl | apply ok_foldl_fst | rfl | intro _ | apply lifeEvent_ok | apply setAtt_ok
        | apply ok_ite | apply ok_ite_fst)
    | split | fail_if_no_progress ((with_reducible apply mk_ok) <;> (try with_reducible rfl)) | dsimp only
    | (simp; done)

theorem execLogicalDetachComplete_ok {cq : List Instr} (port : Nat) {s : State} (h : Ok cq s) :
    OutOk cq (execLogicalDetachComplete port s) := by
  unfold execLogicalDetachComplete
  repeat' first
    | (with_reducible first
        | assumption | rfl | intro _ | apply endTree_ok | apply lifeEvent_ok | apply modPort_ok
        | apply poolService_ok | apply startEnum_ok | apply ok_ite | apply ok_ite_fst | apply out_next
        | apply out_ite)

theorem answerUnlock_ok {cq : List Instr} {s : State} (h : Ok cq s) :
    Ok cq (State.answerUnlock s) := by
  unfold State.answerUnlock
  repeat' first
    | (with_reducible first
        | assumption | rfl | intro _ | apply answer_ok | apply ok_ite | apply ok_ite_fst)
    | split | fail_if_no_progress ((with_reducible apply mk_ok) <;> (try with_reducible rfl))

theorem execModeChangeComplete_ok {cq : List Instr} (port : Nat) {s : State} (h : Ok cq s) :
    OutOk cq (execModeChangeComplete port s) := by
  unfold execModeChangeComplete
  repeat' first
    | (with_reducible first
        | assumption | rfl | intro _ | apply answerUnlock_ok | apply finishMode_ok | apply ok_ite
        | apply ok_ite_fst | apply out_next | apply out_ite)

theorem execUpstreamVbusQualified_ok {cq : List Instr} (presentNs : Nat) {s : State} (h : Ok cq s) :
    OutOk cq (execUpstreamVbusQualified presentNs s) := by
  unfold execUpstreamVbusQualified
  repeat' first
    | (with_reducible first
        | assumption | rfl | intro _ | apply set_ok | apply ok_ite | apply ok_ite_fst | apply out_next
        | apply out_ite)

theorem execUpstreamConnect_ok {cq : List Instr} {s : State} (h : Ok cq s) :
    OutOk cq (execUpstreamConnect s) := by
  unfold execUpstreamConnect
  repeat' first
    | (with_reducible first
        | assumption | rfl | intro _ | apply set_ok | apply settleDomains_ok | apply wakeFor_ok | apply ok_ite
        | apply ok_ite_fst | apply out_next | apply out_ite)
    | exact out_fault | exact out_refused | split
    | fail_if_no_progress ((with_reducible apply mk_ok) <;> (try with_reducible rfl))

theorem execUpstreamVbusAbsent_ok {cq : List Instr} (absentNs : Nat) {s : State} (h : Ok cq s) :
    OutOk cq (execUpstreamVbusAbsent absentNs s) := by
  unfold execUpstreamVbusAbsent
  repeat' first
    | (with_reducible first
        | assumption | rfl | intro _ | apply set_ok | apply upstreamWithdraw_ok | apply ok_ite | apply ok_ite_fst
        | apply out_next | apply out_ite)

theorem execDisconnectHoldoffEnd_ok {cq : List Instr} {s : State} (h : Ok cq s) :
    OutOk cq (execDisconnectHoldoffEnd s) := by
  unfold execDisconnectHoldoffEnd
  repeat' first
    | (with_reducible first
        | assumption | rfl | intro _ | apply markRun_ok | apply set_ok | apply settleDomains_ok | apply ok_ite
        | apply ok_ite_fst | apply out_next | apply out_ite)
    | exact out_fault | exact out_refused | split
    | fail_if_no_progress ((with_reducible apply mk_ok) <;> (try with_reducible rfl))

end Sys2Proof.Laws
end

