-- ==== Sys2Proof/Laws/OkStartUp.lean ====
section
/-! SUPPORT. The operations of Machine/StartUp.lean keep a sound state sound and the queue as it is. -/

namespace Sys2Proof.Laws

open Sys2Proof.Machine

theorem loomCleared_ok {cq : List Instr} {s : State} (h : Ok cq s) : Ok cq (State.loomCleared s) := by
  unfold State.loomCleared
  refine portsAtPorst_ok (noteClassMax_ok (ok_foldl _ (fun _ _ h => set_ok _ _ _ h)
    (set_ok _ _ _ (setB_ok _ _ _ ?_))))
  exact ⟨h.1, regWf_filter h.wf _, rfl, h.2.2.2.1, h.2.2.2.2.1, h.2.2.2.2.2.1, rfl, rfl, rfl⟩

theorem execPorstNAssert_ok {cq : List Instr} (lowNs : Nat) {s : State} (h : Ok cq s) :
    OutOk cq (execPorstNAssert lowNs s) := by
  unfold execPorstNAssert
  repeat' first
    | (with_reducible first
        | assumption | apply ok_foldl | apply ok_foldl_fst | rfl | intro _ | apply holdSkein_ok
        | apply loomCleared_ok | apply useFree_ok | apply ok_ite | apply ok_ite_fst | apply out_next
        | apply out_ite)
    | exact out_fault | exact out_refused | split
    | fail_if_no_progress ((with_reducible apply mk_ok) <;> (try with_reducible rfl))

theorem dropSums_ok {cq : List Instr} {s : State} (h : Ok cq s) :
    Ok cq (State.dropSums s) := by
  unfold State.dropSums
  repeat' first
    | (with_reducible first
        | assumption | rfl | intro _ | apply ok_ite | apply ok_ite_fst)
    | split | fail_if_no_progress ((with_reducible apply mk_ok) <;> (try with_reducible rfl)) | dsimp only
    | (simp; done)

theorem execPorstNRelease_ok {cq : List Instr} (straps : Straps) (valid : Bool) {s : State} (h : Ok cq s) :
    OutOk cq (execPorstNRelease straps valid s) := by
  unfold execPorstNRelease
  repeat' first
    | (with_reducible first
        | assumption | rfl | intro _ | apply dropSums_ok | apply loomCleared_ok | apply requestOn_ok
        | apply set_ok | apply useFree_ok | apply ok_ite | apply ok_ite_fst | apply out_next | apply out_ite)
    | exact out_fault | exact out_refused | split
    | fail_if_no_progress ((with_reducible apply mk_ok) <;> (try with_reducible rfl))

theorem execStrapPullDisable_ok {cq : List Instr} {s : State} (h : Ok cq s) :
    OutOk cq (execStrapPullDisable s) := by
  unfold execStrapPullDisable
  repeat' first
    | (with_reducible first
        | assumption | rfl | intro _ | apply ok_ite | apply ok_ite_fst | apply out_next | apply out_ite)
    | exact out_fault | exact out_refused | split
    | fail_if_no_progress ((with_reducible apply mk_ok) <;> (try with_reducible rfl))

theorem execWarmNRelease_ok {cq : List Instr} {s : State} (h : Ok cq s) :
    OutOk cq (execWarmNRelease s) := by
  unfold execWarmNRelease
  repeat' first
    | (with_reducible first
        | assumption | rfl | intro _ | apply ok_ite | apply ok_ite_fst | apply out_next | apply out_ite)
    | exact out_fault | exact out_refused | split
    | fail_if_no_progress ((with_reducible apply mk_ok) <;> (try with_reducible rfl))

theorem dropWaiting_ok {cq : List Instr} {s : State} (h : Ok cq s) :
    Ok cq (State.dropWaiting s) := by
  unfold State.dropWaiting
  repeat' first
    | (with_reducible first
        | assumption | apply ok_foldl | apply ok_foldl_fst | rfl | intro _ | apply releaseReplies_ok
        | apply ok_ite | apply ok_ite_fst)
    | split | fail_if_no_progress ((with_reducible apply mk_ok) <;> (try with_reducible rfl)) | dsimp only
    | (simp; done)

theorem dropCapture_ok {cq : List Instr} {s : State} (h : Ok cq s) :
    Ok cq (State.dropCapture s) := by
  unfold State.dropCapture
  repeat' first
    | (with_reducible first
        | assumption | rfl | intro _ | apply set_ok | apply ok_ite | apply ok_ite_fst)
    | split | fail_if_no_progress ((with_reducible apply mk_ok) <;> (try with_reducible rfl)) | dsimp only
    | (simp; done)

theorem warmRestart_ok {cq : List Instr} {s : State} (cause : Nat) (h : Ok cq s) :
    Ok cq (State.warmRestart s cause) := by
  unfold State.warmRestart
  repeat' first
    | (with_reducible first
        | assumption | apply ok_foldl | apply ok_foldl_fst | rfl | intro _ | apply count_ok | apply dropCapture_ok
        | apply dropChallenge_ok | apply dropWaiting_ok | apply endSession_ok | apply holdSkein_ok
        | apply requestOn_ok | apply set_ok | apply warmCan_ok | apply warmFabric_ok | apply ok_ite
        | apply ok_ite_fst)
    | split | fail_if_no_progress ((with_reducible apply mk_ok) <;> (try with_reducible rfl))

theorem execWarmNLow_ok {cq : List Instr} (lowNs : Nat) {s : State} (h : Ok cq s) :
    OutOk cq (execWarmNLow lowNs s) := by
  unfold execWarmNLow
  repeat' first
    | (with_reducible first
        | assumption | rfl | intro _ | apply latch_ok | apply useFree_ok | apply warmRestart_ok | apply ok_ite
        | apply ok_ite_fst | apply out_next | apply out_ite)
    | exact out_fault | exact out_refused | split
    | fail_if_no_progress ((with_reducible apply mk_ok) <;> (try with_reducible rfl))

theorem execWarmRestartBegin_ok {cq : List Instr} {s : State} (h : Ok cq s) :
    OutOk cq (execWarmRestartBegin s) := by
  unfold execWarmRestartBegin
  repeat' first
    | (with_reducible first
        | assumption | rfl | intro _ | apply latch_ok | apply warmRestart_ok | apply ok_ite | apply ok_ite_fst
        | apply out_next | apply out_ite)
    | exact out_fault | exact out_refused | split

theorem execVddAonRemoval_ok {cq : List Instr} {s : State} (h : Ok cq s) :
    OutOk cq (execVddAonRemoval s) := by
  unfold execVddAonRemoval
  repeat' first
    | (with_reducible first
        | assumption | apply ok_foldl | apply ok_foldl_fst | rfl | intro _ | apply holdSkein_ok | apply latch_ok
        | apply loomCleared_ok | apply set_ok | apply ok_ite | apply ok_ite_fst | apply out_next | apply out_ite)
    | exact out_fault | exact out_refused | split
    | fail_if_no_progress ((with_reducible apply mk_ok) <;> (try with_reducible rfl))

theorem execXspiResetRelease_ok {cq : List Instr} {s : State} (h : Ok cq s) :
    OutOk cq (execXspiResetRelease s) := by
  unfold execXspiResetRelease
  repeat' first
    | (with_reducible first
        | assumption | rfl | intro _ | apply ok_ite | apply ok_ite_fst | apply out_next | apply out_ite)
    | exact out_fault | exact out_refused | split
    | fail_if_no_progress ((with_reducible apply mk_ok) <;> (try with_reducible rfl))

theorem rejoin_ok {cq : List Instr} {s : State} (h : Ok cq s) :
    Ok cq (State.rejoin s) := by
  unfold State.rejoin
  repeat' first
    | (with_reducible first
        | assumption | rfl | intro _ | apply requestOn_ok | apply ok_ite | apply ok_ite_fst)
    | split | fail_if_no_progress ((with_reducible apply mk_ok) <;> (try with_reducible rfl)) | dsimp only
    | (simp; done)

theorem execReferenceLocked_ok {cq : List Instr} {s : State} (h : Ok cq s) :
    OutOk cq (execReferenceLocked s) := by
  unfold execReferenceLocked
  repeat' first
    | (with_reducible first
        | assumption | rfl | intro _ | apply fastClock_ok | apply rejoin_ok | apply ok_ite | apply ok_ite_fst
        | apply out_next | apply out_ite)
    | exact out_fault | exact out_refused | split
    | fail_if_no_progress ((with_reducible apply mk_ok) <;> (try with_reducible rfl))

theorem checkSeed_ok {cq : List Instr} {s : State} (h : Ok cq s) :
    Ok cq (State.checkSeed s) := by
  unfold State.checkSeed
  repeat' first
    | (with_reducible first
        | assumption | rfl | intro _ | apply ok_ite | apply ok_ite_fst)
    | split | fail_if_no_progress ((with_reducible apply mk_ok) <;> (try with_reducible rfl)) | dsimp only
    | (simp; done)

theorem readLifecycle_ok {cq : List Instr} {s : State} (h : Ok cq s) :
    Ok cq (State.readLifecycle s) := by
  unfold State.readLifecycle
  repeat' first
    | (with_reducible first
        | assumption | rfl | intro _ | apply blowTransition_ok | apply lifecycleEffects_ok | apply raiseFault_ok
        | apply set_ok | apply ok_ite | apply ok_ite_fst)
    | split

theorem execOtpReadComplete_ok {cq : List Instr} {s : State} (h : Ok cq s) :
    OutOk cq (execOtpReadComplete s) := by
  unfold execOtpReadComplete
  repeat' first
    | (with_reducible first
        | assumption | rfl | intro _ | apply checkSeed_ok | apply enterSafeHold_ok | apply forceOn_ok
        | apply latch_ok | apply readLifecycle_ok | apply set_ok | apply ok_ite | apply ok_ite_fst
        | apply out_next | apply out_ite)
    | exact out_fault | exact out_refused | split
    | fail_if_no_progress ((with_reducible apply mk_ok) <;> (try with_reducible rfl))

theorem execDramInitComplete_ok {cq : List Instr} {s : State} (h : Ok cq s) :
    OutOk cq (execDramInitComplete s) := by
  unfold execDramInitComplete
  repeat' first
    | (with_reducible first
        | assumption | rfl | intro _ | apply dramFresh_ok | apply forceOn_ok | apply ok_ite | apply ok_ite_fst
        | apply out_next | apply out_ite)
    | exact out_fault | exact out_refused | split
    | fail_if_no_progress ((with_reducible apply mk_ok) <;> (try with_reducible rfl))

theorem execImageVerified_ok {cq : List Instr} (slot : Nat) {s : State} (h : Ok cq s) :
    OutOk cq (execImageVerified slot s) := by
  unfold execImageVerified
  repeat' first
    | (with_reducible first
        | assumption | rfl | intro _ | apply imageRefused_ok | apply secretFailed_ok | apply setB_ok
        | apply set_ok | apply takeImage_ok | apply ok_ite | apply ok_ite_fst | apply out_next | apply out_ite)
    | exact out_fault | exact out_refused | split
    | fail_if_no_progress ((with_reducible apply mk_ok) <;> (try with_reducible rfl))

theorem execHalfBootComplete_ok {cq : List Instr} (half : Nat) (digestOk : Bool) {s : State} (h : Ok cq s) :
    OutOk cq (execHalfBootComplete half digestOk s) := by
  unfold execHalfBootComplete
  repeat' first
    | (with_reducible first
        | assumption | rfl | intro _ | apply forceOn_ok | apply raiseFault_ok | apply secretFailed_ok
        | apply set_ok | apply ok_ite | apply ok_ite_fst | apply out_next | apply out_ite)
    | exact out_fault | exact out_refused | split
    | fail_if_no_progress ((with_reducible apply mk_ok) <;> (try with_reducible rfl))

theorem execTokenGrant_ok {cq : List Instr} {s : State} (h : Ok cq s) :
    OutOk cq (execTokenGrant s) := by
  unfold execTokenGrant
  repeat' first
    | (with_reducible first
        | assumption | rfl | intro _ | apply setB_ok | apply setToken_ok | apply ok_ite | apply ok_ite_fst
        | apply out_next | apply out_ite)
    | exact out_fault | exact out_refused | split

theorem execTokenArbitrationTimeout_ok {cq : List Instr} {s : State} (h : Ok cq s) :
    OutOk cq (execTokenArbitrationTimeout s) := by
  unfold execTokenArbitrationTimeout
  repeat' first
    | (with_reducible first
        | assumption | rfl | intro _ | apply raiseFault_ok | apply ok_ite | apply ok_ite_fst | apply out_next
        | apply out_ite)

theorem execSelfTestComplete_ok {cq : List Instr} (failed : List Failure) {s : State} (h : Ok cq s) :
    OutOk cq (execSelfTestComplete failed s) := by
  unfold execSelfTestComplete
  repeat' first
    | (with_reducible first
        | assumption | apply ok_foldl | apply ok_foldl_fst | rfl | intro _ | apply leaveHold_ok
        | apply modSkein_ok | apply raiseFault_ok | apply readFeedEvents_ok | apply ok_ite | apply ok_ite_fst
        | apply out_next | apply out_ite)
    | exact out_fault | exact out_refused | split
    | fail_if_no_progress ((with_reducible apply mk_ok) <;> (try with_reducible rfl))

theorem xtalAbandon_ok {cq : List Instr} {s : State} (h : Ok cq s) :
    Ok cq (State.xtalAbandon s) := by
  unfold State.xtalAbandon
  repeat' first
    | (with_reducible first
        | assumption | rfl | intro _ | apply set_ok | apply ok_ite | apply ok_ite_fst)
    | split | fail_if_no_progress ((with_reducible apply mk_ok) <;> (try with_reducible rfl))

theorem execXtal32Start_ok {cq : List Instr} (cycles : Nat) {s : State} (h : Ok cq s) :
    OutOk cq (execXtal32Start cycles s) := by
  unfold execXtal32Start
  repeat' first
    | (with_reducible first
        | assumption | rfl | intro _ | apply set_ok | apply xtalAbandon_ok | apply ok_ite | apply ok_ite_fst
        | apply out_next | apply out_ite)

theorem execXtal32Abandon_ok {cq : List Instr} {s : State} (h : Ok cq s) :
    OutOk cq (execXtal32Abandon s) := by
  unfold execXtal32Abandon
  repeat' first
    | (with_reducible first
        | assumption | rfl | intro _ | apply xtalAbandon_ok | apply ok_ite | apply ok_ite_fst | apply out_next)

theorem execDfuConnect_ok {cq : List Instr} (vbusNs : Nat) {s : State} (h : Ok cq s) :
    OutOk cq (execDfuConnect vbusNs s) := by
  unfold execDfuConnect
  repeat' first
    | (with_reducible first
        | assumption | rfl | intro _ | apply forceOn_ok | apply set_ok | apply ok_ite | apply ok_ite_fst
        | apply out_next | apply out_ite)
    | exact out_fault | exact out_refused | split
    | fail_if_no_progress ((with_reducible apply mk_ok) <;> (try with_reducible rfl))

theorem execDfuDnload_ok {cq : List Instr} (block : List Nat) {s : State} (h : Ok cq s) :
    OutOk cq (execDfuDnload block s) := by
  unfold execDfuDnload
  repeat' first
    | (with_reducible first
        | assumption | rfl | intro _ | apply ok_ite | apply ok_ite_fst | apply out_next | apply out_ite)
    | exact out_fault | exact out_refused | split
    | fail_if_no_progress ((with_reducible apply mk_ok) <;> (try with_reducible rfl))

theorem execDfuManifest_ok {cq : List Instr} {s : State} (h : Ok cq s) :
    OutOk cq (execDfuManifest s) := by
  unfold execDfuManifest
  repeat' first
    | (with_reducible first
        | assumption | rfl | intro _ | apply noteRefused_ok | apply ok_ite | apply ok_ite_fst | apply out_next
        | apply out_ite)
    | exact out_fault | exact out_refused | split
    | fail_if_no_progress ((with_reducible apply mk_ok) <;> (try with_reducible rfl))

theorem execDfuBusReset_ok {cq : List Instr} {s : State} (h : Ok cq s) :
    OutOk cq (execDfuBusReset s) := by
  unfold execDfuBusReset
  repeat' first
    | (with_reducible first
        | assumption | rfl | intro _ | apply hubDisconnect_ok | apply set_ok | apply takeImage_ok | apply ok_ite
        | apply ok_ite_fst | apply out_next | apply out_ite)
    | exact out_fault | exact out_refused | split
    | fail_if_no_progress ((with_reducible apply mk_ok) <;> (try with_reducible rfl))

end Sys2Proof.Laws
end

