-- ==== Sys2Proof/Laws/OkReady.lean ====
section
/-! SUPPORT. The operations of Machine/Ready.lean keep a sound state sound and the queue as it is. -/

namespace Sys2Proof.Laws

open Sys2Proof.Machine

theorem applyMode_ok {cq : List Instr} {r : State × Nat} (n : Nat) (m : Nat) (pub : Nat) (h : Ok cq r.1) :
    Ok cq (State.applyMode r n m pub).1 := by
  unfold State.applyMode
  repeat' first
    | (with_reducible first
        | assumption | rfl | intro _ | apply setMode_ok | apply ok_ite | apply ok_ite_fst)
    | split | fail_if_no_progress ((with_reducible apply mk_ok) <;> (try with_reducible rfl)) | dsimp only
    | (simp; done)

theorem State_applyWord_ok {cq : List Instr} {r : State × Nat} (a : Nat) (v : Nat) (h : Ok cq r.1) :
    Ok cq (State.applyWord r a v).1 := by
  unfold State.applyWord
  repeat' first
    | (with_reducible first | assumption | rfl | intro _ | apply indWrite_ok)

theorem applySection_ok {cq : List Instr} {r : State × Nat} (x : Section) (h : Ok cq r.1) :
    Ok cq (State.applySection r x).1 := by
  unfold State.applySection
  repeat' first
    | (with_reducible first
        | assumption | apply ok_foldl | apply ok_foldl_fst | rfl | intro _ | apply State_applyWord_ok
        | apply applyMode_ok | apply applyWord_ok | apply canUse_ok | apply setRole_ok | apply set_ok
        | apply ok_ite | apply ok_ite_fst)

theorem applyProfile_ok {cq : List Instr} {s : State} (bs : List Nat) (h : Ok cq s) :
    Ok cq (State.applyProfile s bs).1 := by
  unfold State.applyProfile
  repeat' first
    | (with_reducible first
        | assumption | apply ok_foldl | apply ok_foldl_fst | rfl | intro _ | apply addEntry_ok
        | apply applySection_ok | apply noteProfile_ok | apply set_ok | apply ok_ite)

theorem checkCopies_ok {cq : List Instr} {s : State} (x1 : List Nat) (h : Ok cq s) :
    Ok cq (State.checkCopies s x1).1 := by
  induction x1 generalizing s with
  | nil => unfold State.checkCopies; assumption
  | cons a r ih =>
    unfold State.checkCopies
    repeat' first
      | (with_reducible first
          | assumption | apply ih | rfl | intro _ | apply raiseFault_ok | apply ok_ite | apply ok_ite_fst)

theorem standingProfile_ok {cq : List Instr} {s : State} (h : Ok cq s) :
    Ok cq (State.standingProfile s).1 := by
  unfold State.standingProfile
  repeat' first
    | (with_reducible first
        | assumption | rfl | intro _ | apply applyProfile_ok | apply checkCopies_ok | apply ok_ite
        | apply ok_ite_fst)
    | split | fail_if_no_progress ((with_reducible apply mk_ok) <;> (try with_reducible rfl)) | dsimp only

theorem rebuildPort_ok {cq : List Instr} {s : State} (n : Nat) (h : Ok cq s) :
    Ok cq (State.rebuildPort s n) := by
  unfold State.rebuildPort
  repeat' first
    | (with_reducible first
        | assumption | rfl | intro _ | apply noteTadpole_ok | apply setAtt_ok | apply startQualify_ok
        | apply ok_ite)

theorem reenumerate_ok {cq : List Instr} {s : State} (n : Nat) (h : Ok cq s) :
    Ok cq (State.reenumerate s n) := by
  unfold State.reenumerate
  repeat' first
    | (with_reducible first
        | assumption | rfl | intro _ | apply modPort_ok | apply startEnum_ok | apply ok_ite)

theorem reportReady_ok {cq : List Instr} {s : State} (h : Ok cq s) :
    Ok cq (State.reportReady s) := by
  unfold State.reportReady
  repeat' first
    | (with_reducible first
        | assumption | apply ok_foldl | apply ok_foldl_fst | rfl | intro _ | apply deviceEvent_ok
        | apply reenumerate_ok | apply set_ok | apply startHierarchy_ok | apply ok_ite | apply ok_ite_fst)
    | split | fail_if_no_progress ((with_reducible apply mk_ok) <;> (try with_reducible rfl))

theorem execStandingProfileApply_ok {cq : List Instr} {s : State} (h : Ok cq s) :
    OutOk cq (execStandingProfileApply s) := by
  unfold execStandingProfileApply
  repeat' first
    | (with_reducible first
        | assumption | apply ok_foldl | apply ok_foldl_fst | rfl | intro _ | apply deviceEvent_ok
        | apply rebuildPort_ok | apply recomputeAll_ok | apply reportReady_ok | apply standingProfile_ok
        | apply ok_ite | apply ok_ite_fst | apply out_next | apply out_ite)

end Sys2Proof.Laws
end

