-- ==== Sys2Proof/Laws/OkShuttleOps.lean ====
section
/-! SUPPORT. The operations of Machine/ShuttleOps.lean keep a sound state sound and the queue as it is. -/

namespace Sys2Proof.Laws

open Sys2Proof.Machine

theorem execShuttleDevInfo_ok {cq : List Instr} (p : Packet) {s : State} (h : Ok cq s) :
    OutOk cq (execShuttleDevInfo p s) := by
  unfold execShuttleDevInfo
  repeat' first
    | (with_reducible first
        | assumption | rfl | intro _ | apply OpOut_fail_ok | apply OpOut_res_ok | apply runOp_ok | apply ok_ite
        | apply ok_ite_fst | apply out_next | apply out_ite)
    | exact out_fault | exact out_refused | split

theorem setShare_ok {cq : List Instr} {s : State} (c : Ctx) (share : Nat) (h : Ok cq s) :
    Ok cq (State.setShare s c share) := by
  unfold State.setShare
  repeat' first
    | (with_reducible first
        | assumption | rfl | intro _ | apply commitCtx_ok | apply grant_ok | apply modCtx_ok)

theorem execShuttleShareSet_ok {cq : List Instr} (p : Packet) {s : State} (h : Ok cq s) :
    OutOk cq (execShuttleShareSet p s) := by
  unfold execShuttleShareSet
  repeat' first
    | (with_reducible first
        | assumption | rfl | intro _ | apply OpOut_fail_ok | apply OpOut_res_ok | apply runOp_ok
        | apply setShare_ok | apply ok_ite | apply ok_ite_fst | apply out_next | apply out_ite)
    | exact out_fault | exact out_refused | split

theorem execShuttleReturn_ok {cq : List Instr} (p : Packet) {s : State} (h : Ok cq s) :
    OutOk cq (execShuttleReturn p s) := by
  unfold execShuttleReturn
  repeat' first
    | (with_reducible first
        | assumption | rfl | intro _ | apply OpOut_fail_ok | apply OpOut_ok_ok | apply runOp_ok
        | apply startMove_ok | apply ok_ite | apply ok_ite_fst | apply out_next | apply out_ite)
    | exact out_fault | exact out_refused | split
    | fail_if_no_progress ((with_reducible apply mk_ok) <;> (try with_reducible rfl)) | dsimp only

theorem execShuttleResetDevice_ok {cq : List Instr} (p : Packet) {s : State} (h : Ok cq s) :
    OutOk cq (execShuttleResetDevice p s) := by
  unfold execShuttleResetDevice
  repeat' first
    | (with_reducible first
        | assumption | rfl | intro _ | apply OpOut_fail_ok | apply OpOut_ok_ok | apply runOp_ok
        | apply startDevReset_ok | apply ok_ite | apply ok_ite_fst | apply out_next | apply out_ite)
    | exact out_fault | exact out_refused | split

theorem execShuttleIdleSet_ok {cq : List Instr} (p : Packet) {s : State} (h : Ok cq s) :
    OutOk cq (execShuttleIdleSet p s) := by
  unfold execShuttleIdleSet
  repeat' first
    | (with_reducible first
        | assumption | rfl | intro _ | apply OpOut_fail_ok | apply OpOut_ok_ok | apply runOp_ok | apply set_ok
        | apply ok_ite | apply ok_ite_fst | apply out_next | apply out_ite)
    | exact out_fault | exact out_refused | split

theorem moveLane_ok {cq : List Instr} {s : State} (c : Ctx) (lane : Nat) (h : Ok cq s) :
    Ok cq (State.moveLane s c lane) := by
  unfold State.moveLane
  repeat' first
    | (with_reducible first
        | assumption | rfl | intro _ | apply addTo_ok | apply formEventRec_ok | apply modCtx_ok | apply set_ok
        | apply ok_ite)

theorem execHandleMap_ok {cq : List Instr} (p : Packet) {s : State} (h : Ok cq s) :
    OutOk cq (execHandleMap p s) := by
  unfold execHandleMap
  repeat' first
    | (with_reducible first
        | assumption | rfl | intro _ | apply OpOut_fail_ok | apply OpOut_res_ok | apply moveLane_ok
        | apply runOp_ok | apply ok_ite | apply ok_ite_fst | apply out_next | apply out_ite)
    | exact out_fault | exact out_refused | split
    | fail_if_no_progress ((with_reducible apply mk_ok) <;> (try with_reducible rfl)) | dsimp only | (simp; done)

theorem execShuttleStatus_ok {cq : List Instr} (p : Packet) {s : State} (h : Ok cq s) :
    OutOk cq (execShuttleStatus p s) := by
  unfold execShuttleStatus
  repeat' first
    | (with_reducible first
        | assumption | rfl | intro _ | apply OpOut_res_ok | apply runOp_ok | apply ok_ite | apply ok_ite_fst
        | apply out_next)

end Sys2Proof.Laws
end

