-- ==== Sys2Proof/Laws/OkSkeinCmds.lean ====
section
/-! SUPPORT. The operations of Machine/SkeinCmds.lean keep a sound state sound and the queue as it is. -/

namespace Sys2Proof.Laws

open Sys2Proof.Machine

theorem skeinBlank_ok {cq : List Instr} {s : State} (k : Nat) (powered : Bool) (h : Ok cq s) :
    Ok cq (State.skeinBlank s k powered) := by
  unfold State.skeinBlank
  repeat' first
    | (with_reducible first
        | assumption | apply ok_foldl | apply ok_foldl_fst | rfl | intro _ | apply hubChange_ok | apply modFeed_ok
        | apply modPort_ok | apply modSkein_ok | apply resetRegs_ok | apply ok_ite | apply ok_ite_fst)
    | split | fail_if_no_progress ((with_reducible apply mk_ok) <;> (try with_reducible rfl)) | dsimp only
    | (simp; done)

theorem execSkeinAonPowerUp_ok {cq : List Instr} (skein : Nat) (vinA : Nat) (vinB : Nat) (cdlyA : Nat) (cdlyB : Nat) {s : State} (h : Ok cq s) :
    OutOk cq (execSkeinAonPowerUp skein vinA vinB cdlyA cdlyB s) := by
  unfold execSkeinAonPowerUp
  repeat' first
    | (with_reducible first
        | assumption | apply ok_foldl | apply ok_foldl_fst | rfl | intro _ | apply count_ok | apply modFeed_ok
        | apply setBit_ok | apply set_ok | apply skeinBlank_ok | apply useFree_ok | apply ok_ite
        | apply ok_ite_fst | apply out_next | apply out_ite)

theorem execSkeinAonPowerDown_ok {cq : List Instr} (skein : Nat) (vinA : Nat) (vinB : Nat) {s : State} (h : Ok cq s) :
    OutOk cq (execSkeinAonPowerDown skein vinA vinB s) := by
  unfold execSkeinAonPowerDown
  repeat' first
    | (with_reducible first
        | assumption | apply ok_foldl | apply ok_foldl_fst | rfl | intro _ | apply noteServing_ok
        | apply setAtt_ok | apply settleDomains_ok | apply skeinBlank_ok | apply startDetach_ok | apply useFree_ok
        | apply ok_ite | apply ok_ite_fst | apply out_next | apply out_ite)

theorem execHoldLineAssert_ok {cq : List Instr} (skein : Nat) {s : State} (h : Ok cq s) :
    OutOk cq (execHoldLineAssert skein s) := by
  unfold execHoldLineAssert
  repeat' first
    | (with_reducible first
        | assumption | rfl | intro _ | apply holdSkein_ok | apply ok_ite | apply ok_ite_fst | apply out_next
        | apply out_ite)

theorem execHoldLineDeassert_ok {cq : List Instr} (skein : Nat) {s : State} (h : Ok cq s) :
    OutOk cq (execHoldLineDeassert skein s) := by
  unfold execHoldLineDeassert
  repeat' first
    | (with_reducible first
        | assumption | rfl | intro _ | apply modSkein_ok | apply ok_ite | apply ok_ite_fst | apply out_next
        | apply out_ite)

theorem execLinkSilentTimeout_ok {cq : List Instr} (skein : Nat) (silentNs : Nat) {s : State} (h : Ok cq s) :
    OutOk cq (execLinkSilentTimeout skein silentNs s) := by
  unfold execLinkSilentTimeout
  repeat' first
    | (with_reducible first
        | assumption | rfl | intro _ | apply loseLink_ok | apply ok_ite | apply ok_ite_fst | apply out_next
        | apply out_ite)

theorem execConfigCheckStart_ok {cq : List Instr} (skein : Nat) {s : State} (h : Ok cq s) :
    OutOk cq (execConfigCheckStart skein s) := by
  unfold execConfigCheckStart
  repeat' first
    | (with_reducible first
        | assumption | rfl | intro _ | apply modSkein_ok | apply readFeedEvents_ok | apply ok_ite
        | apply ok_ite_fst | apply out_next | apply out_ite)

theorem execConfigCheckDone_ok {cq : List Instr} (skein : Nat) (pass : Bool) (link : Bool) {s : State} (h : Ok cq s) :
    OutOk cq (execConfigCheckDone skein pass link s) := by
  unfold execConfigCheckDone
  repeat' first
    | (with_reducible first
        | assumption | rfl | intro _ | apply leaveHold_ok | apply modSkein_ok | apply raiseFault_ok | apply ok_ite
        | apply ok_ite_fst | apply out_next | apply out_ite)

end Sys2Proof.Laws
end

