-- ==== Sys2Proof/Laws/OkTick.lean ====
section
/-! SUPPORT. The operations of Machine/Tick.lean keep a sound state sound and the queue as it is. -/

namespace Sys2Proof.Laws

open Sys2Proof.Machine

theorem advance_ok {cq : List Instr} {s : State} (n : Nat) (h : Ok cq s) :
    Ok cq (State.advance s n) := by
  unfold State.advance
  repeat' first
    | (with_reducible first
        | assumption | rfl | intro _ | apply ok_ite | apply ok_ite_fst)
    | split | fail_if_no_progress ((with_reducible apply mk_ok) <;> (try with_reducible rfl))

theorem clockTick_ok {cq : List Instr} {s : State} (h : Ok cq s) :
    Ok cq (State.clockTick s) := by
  unfold State.clockTick
  repeat' first
    | (with_reducible first
        | assumption | rfl | intro _ | apply advance_ok | apply slowBoundary_ok | apply ok_ite | apply ok_ite_fst)
    | split | fail_if_no_progress ((with_reducible apply mk_ok) <;> (try with_reducible rfl))

theorem windowsDue_ok {cq : List Instr} {s : State} (h : Ok cq s) :
    Ok cq (State.windowsDue s) := by
  unfold State.windowsDue
  repeat' first
    | (with_reducible first | assumption | rfl | intro _ | apply winSettle_ok)

theorem fillLanes_ok {cq : List Instr} {s : State} (h : Ok cq s) :
    Ok cq (State.fillLanes s) := by
  unfold State.fillLanes
  repeat' first
    | (with_reducible first
        | assumption | apply ok_foldl | apply ok_foldl_fst | rfl | intro _ | apply fillLane_ok | apply ok_ite
        | apply ok_ite_fst)
    | split | fail_if_no_progress ((with_reducible apply mk_ok) <;> (try with_reducible rfl)) | dsimp only
    | (simp; done)

theorem tick_ok {cq : List Instr} {s : State} (h : Ok cq s) :
    Ok cq (State.tick s) := by
  unfold State.tick
  repeat' first
    | (with_reducible first
        | assumption | rfl | intro _ | apply admitFeeds_ok | apply avsRequest_ok | apply clockTick_ok
        | apply driveWake_ok | apply fillLanes_ok | apply fillMailbox_ok | apply ibiCheck_ok | apply popsOver_ok
        | apply restartQualify_ok | apply sessionCheck_ok | apply settleDomains_ok | apply snapLatch_ok
        | apply windowsDue_ok | apply ok_ite | apply ok_ite_fst)
    | split | fail_if_no_progress ((with_reducible apply mk_ok) <;> (try with_reducible rfl))

end Sys2Proof.Laws
end

