-- ==== Sys2Proof/Machine/PinView.lean ====
section
/-! DEFINITION. The states of the loom die's pins (02_package_and_balls.md R43, R44, R46, R48): what each follows from. -/

namespace Sys2Proof.Machine

/-- A group of loom die pins of R48. -/
inductive LoomPin where
  | portData (n : Nat) | uspData | uspSs | uspCc | ddrResetCke | ddrOther | xspiCsN | xspiResetN | canTx (c : Nat)
  | i3c | avsClk | avsMdata | tckTrst | tmsTdi | tdo | intN | faultN | straps
  deriving DecidableEq, Repr

/-- What holds a pin: nothing, a level, a pull, the Rd of the upstream connector, 15 kΩ pull-downs, its unit, or the
boundary-scan chain. -/
inductive PinDrive where
  | highZ | low | high | pullUp | pullDown | pulls | rd | down15k | unit | scan
  deriving DecidableEq, Repr

/-- The pins of the boundary-scan chain (15_security_and_debug.md R362). -/
def LoomPin.scanned : LoomPin → Bool
  | .ddrResetCke | .ddrOther | .xspiCsN | .xspiResetN | .canTx _ | .i3c | .avsClk | .avsMdata | .intN | .faultN | .straps => true
  | _ => false

/-- The state of a pin (R48); a boundary-scan instruction that drives pins holds those of its chain. Port data pins keep their
pull-downs until the hub or a Shuttle takes the port's lines (05_port_lifecycle.md R106). -/
def State.pin (s : State) (p : LoomPin) : PinDrive :=
  let reset := s.pins.porstLow
  if s.sec.scan && p.scanned then .scan
  else match p with
  | .portData n =>
    if s.dataLines n == .hub || s.dataLines n == .shuttle || s.dataLines n == .dcp || s.dataLines n == .cdp then .unit
    else .down15k
  | .uspData => if reset || s.u2 == 0 then .highZ else .unit
  | .uspSs => if reset || !s.up.ssApplied then .highZ else .unit
  | .uspCc => .rd
  | .ddrResetCke => if reset || !s.boot.dramInit then .low else .unit
  | .ddrOther => if reset || !s.boot.dramInit then .highZ else .unit
  | .xspiCsN => if reset then .pullUp else if s.pins.xspiUsed then .unit else .high
  | .xspiResetN => if s.pins.xspiResetN then .high else .low
  | .canTx c => if reset then .pullUp else if s.canOn c && s.get .CAN_STAT_MODE_NOW c == 1 then .unit else .high
  | .i3c => if reset then .highZ else .unit
  | .avsClk => if s.pins.avsUsed then .unit else .low
  | .avsMdata => if s.pins.avsUsed then .unit else .high
  | .tckTrst => .pullDown
  | .tmsTdi => .pullUp
  | .tdo => if reset || !s.sec.tap then .highZ else .unit
  | .intN => if s.intNLow then .low else .highZ
  | .faultN => if s.pins.faultN then .highZ else .low
  | .straps => if s.pins.strapPulls then .pulls else .highZ

end Sys2Proof.Machine
end

