-- ==== Sys2Proof/Tests/Helpers.lean ====
section
/-! SUPPORT. Small states and packets for the tests. -/

namespace Sys2Proof.Tests

open Sys2Proof.Machine

/-- A state with some register fields set. -/
def mk (l : List (Fld × Nat × Nat)) (s : State := State.reset) : State := l.foldl (fun s x => s.set x.1 x.2.1 x.2.2) s

/-- Every skein die powered, its link carrying. -/
def pw : State := { State.reset with skeins := List.replicate 8 { powered := true, holdLine := false, linkSilent := false } }

/-- A packet on the mailbox with the parameters given. -/
def pk (ps : List Nat) : Packet :=
  { chan := .mailbox, origin := 255, opcode := 0, tag := 1, cls := 0, seq := 1, noReply := false, params := ps }

end Sys2Proof.Tests
end

