-- ==== Sys2Proof/WellFormed.lean ====
section
/-! DEFINITION. Which commands are well formed: unit numbers name units the device has, bytes are below 256, words below
2^32, and header fields within their widths. The machine answers every command, well formed or not. -/

namespace Sys2Proof.WellFormed

open Sys2Proof.Machine

/-- Every element of a byte string is a byte. -/
def bytesOk (l : List Nat) : Bool := l.all (fun b => b < 256)

/-- The header fields of an Ecrax packet have their widths, and no more than 4,080 parameter bytes follow
(09_ecrax_protocol.md R211). -/
def packetOk (p : Packet) : Bool :=
  p.opcode < 256 && p.tag < 65536 && p.cls < 256 && p.seq < 2 ^ 32 && p.params.length ≤ 4080 && bytesOk p.params

/-- The fields of a hierarchy message (12_hierarchy.md R282). -/
def msgOk (m : HMsg) : Bool := m.bus < 2 && m.src < 64 && m.dst < 64 && m.seg < 64 && m.data.length ≤ 64 && bytesOk m.data

/-- The fields of a CAN frame (11_can_controllers.md R256). -/
def frameOk (f : CanFrame) : Bool :=
  f.id < (if f.ide then 2 ^ 29 else 2 ^ 11) && f.dlc < 16 && f.data.length ≤ 64 && bytesOk f.data

/-- The strap levels (02_package_and_balls.md R45, R47): one for each ball. -/
def strapsOk (x : Straps) : Bool := x.idx.length == 6 && x.mgmtAddr.length == 2 && x.boot.length == 2

/-- A fault source, kind and unit-local address (14_faults_and_takeover.md R330). -/
def failureOk (f : Failure) : Bool := f.src < 256 && f.kind < 16 && f.addr < 2 ^ 24

/-- A debugger names one of the 42 domains. -/
def accessOk (a : DebugAccess) : Bool := a.domain < 42 && a.addr < 2 ^ 32

/-- The bytes of a downstream transaction are bytes; a hub reports on its ports 1 to 127. -/
def txnOk : Txn → Bool
  | .inData d => bytesOk d
  | .hubConnect n | .hubDisconnect n => 1 ≤ n && n < 128
  | .outAck _ | .setupAck | .statusOk | .nak | .stall | .babble | .error | .isoMissed | .startSplit | .nyet => true

/-- The port, addresses and bytes of a request to the hub (06_transparent_hub.md R134, R141). -/
def hubReqOk : HubReq → Bool
  | .setAddress a => a < 128
  | .setConfiguration c => c < 256
  | .remoteWake _ | .statusPoll => true
  | .getDescriptor _ typ ix len => typ < 256 && ix < 256 && len < 65536
  | .startSplit hubPort dev ep _ data => (1 ≤ hubPort && hubPort ≤ 97) && dev < 128 && ep < 16 && bytesOk data
  | .completeSplit hubPort dev ep _ => (1 ≤ hubPort && hubPort ≤ 97) && dev < 128 && ep < 16

/-- A command is well formed. -/
def instr : Instr → Bool
  | .porstNAssert _ => true
  | .porstNRelease straps _ => strapsOk straps
  | .strapPullDisable => true
  | .warmNRelease => true
  | .warmNLow _ => true
  | .warmRestartBegin => true
  | .vddAonRemoval => true
  | .xspiResetRelease => true
  | .referenceLocked => true
  | .otpReadComplete => true
  | .dramInitComplete => true
  | .imageVerified slot => slot < 2
  | .halfBootComplete half _ => half < 2
  | .tokenGrant => true
  | .tokenArbitrationTimeout => true
  | .selfTestComplete failed => failed.all failureOk
  | .standingProfileApply => true
  | .xtal32Start _ => true
  | .xtal32Abandon => true
  | .dfuConnect _ => true
  | .dfuDnload block => bytesOk block
  | .dfuManifest => true
  | .dfuBusReset => true
  | .skeinAonPowerUp skein _ _ _ _ => skein < 8
  | .skeinAonPowerDown skein _ _ => skein < 8
  | .holdLineAssert skein => skein < 8
  | .holdLineDeassert skein => skein < 8
  | .linkSilentTimeout skein _ => skein < 8
  | .configCheckStart skein => skein < 8
  | .configCheckDone skein _ _ => skein < 8
  | .trainingComplete src _ => src < 256
  | .feedInputQualified feed _ _ => feed < 16
  | .railReached feed _ _ => feed < 16
  | .fullEnhancement feed _ => feed < 16
  | .shareReached feed _ _ _ => feed < 16
  | .feedCurrentLimit feed _ => feed < 16
  | .feedLimitExit feed _ => feed < 16
  | .feedFaultTimerExpiry feed _ _ => feed < 16
  | .inrushTimeout feed => feed < 16
  | .feedThermalModelUpdate feed _ _ => feed < 16
  | .feedSensorRead feed _ => feed < 16
  | .feedReverseBlock feed _ => feed < 16
  | .feedInputOutOfRange feed _ => feed < 16
  | .feedBlockedRejoin feed _ _ => feed < 16
  | .inputLost feed _ _ => feed < 16
  | .cdlyCooldownEnd feed => feed < 16
  | .cdlyCheckMissing feed => feed < 16
  | .cdlyCheckShorted feed => feed < 16
  | .cdlyTestCharge feed _ => feed < 16
  | .feedStopped feed _ => feed < 16
  | .feedRetryReload feed => feed < 16
  | .feedStuckOn feed _ => feed < 16
  | .feedSample feed _ _ _ _ _ => feed < 16
  | .measurementWindowEnd => true
  | .shareLimitSet feed _ => feed < 16
  | .shareLimitClear feed _ => feed < 16
  | .powerGoodSettled skein => skein < 8
  | .feedCfgWrite _ feed value => feed < 16 && value < 2 ^ 32
  | .softstartComplete port _ _ => port < 96
  | .ssTimeout port => port < 96
  | .portCurrentLimit port _ => port < 96
  | .portLimitExit port _ => port < 96
  | .portFaultTimerExpiry port _ _ _ => port < 96
  | .shortCircuitTrip port _ => port < 96
  | .portSensorRead port _ => port < 96
  | .portModelUpdate port _ => port < 96
  | .portReverseBlock port _ _ => port < 96
  | .portReverseRelease port _ _ _ => port < 96
  | .dischargeComplete port _ => port < 96
  | .dischargeDisconnect port _ => port < 96
  | .retryPeriodExpiry port => port < 96
  | .retryEnd port _ => port < 96
  | .portRetryReload port => port < 96
  | .portStuckOn port _ => port < 96
  | .portSample port _ _ => port < 96
  | .pwrCfgWrite _ port value => port < 96 && value < 2 ^ 32
  | .allocationPass skein => skein < 8
  | .rpLevelApplied port => port < 96
  | .shedHoldEnd skein => skein < 8
  | .shedCapRestore skein => skein < 8
  | .complianceCheck port => port < 96
  | .sinkLimitImposed port => port < 96
  | .ccOvervoltage port _ _ => port < 96
  | .vbusBackfeedClear port _ => port < 96
  | .ccSample port _ => port < 96
  | .typecDebounceComplete port => port < 96
  | .typeaDetect port _ _ => port < 96
  | .typeaDebounceComplete port => port < 96
  | .typecDetach port _ => port < 96
  | .typeaDetach port _ => port < 96
  | .typeaPullupSeen port => port < 96
  | .qualifyComplete port => port < 96
  | .logicalDetachComplete port => port < 96
  | .modeChangeComplete port => port < 96
  | .upstreamVbusQualified _ => true
  | .upstreamConnect => true
  | .upstreamVbusAbsent _ => true
  | .disconnectHoldoffEnd => true
  | .setPortPower hubPort => (1 ≤ hubPort && hubPort ≤ 97)
  | .clearPortPower hubPort => (1 ≤ hubPort && hubPort ≤ 97)
  | .setPortReset hubPort => (1 ≤ hubPort && hubPort ≤ 97)
  | .portResetEnd hubPort speed => (1 ≤ hubPort && hubPort ≤ 97) && speed < 4
  | .clearPortEnable hubPort => (1 ≤ hubPort && hubPort ≤ 97)
  | .setPortSuspend hubPort => (1 ≤ hubPort && hubPort ≤ 97)
  | .clearPortSuspend hubPort => (1 ≤ hubPort && hubPort ≤ 97)
  | .setPortTest hubPort mode => (1 ≤ hubPort && hubPort ≤ 97) && mode < 8
  | .setPortIndicator hubPort => (1 ≤ hubPort && hubPort ≤ 97)
  | .clearTtBuffer hubPort _ ep => (1 ≤ hubPort && hubPort ≤ 97) && ep < 16
  | .resetTt hubPort => (1 ≤ hubPort && hubPort ≤ 97)
  | .stopTt hubPort => (1 ≤ hubPort && hubPort ≤ 97)
  | .getTtState hubPort => (1 ≤ hubPort && hubPort ≤ 97)
  | .getPortStatus hubPort => (1 ≤ hubPort && hubPort ≤ 97)
  | .hubSetInterface alt => alt < 2
  | .upstreamReset => true
  | .hubGlobalSuspend _ => true
  | .hostResume _ => true
  | .downstreamRemoteWake hubPort _ => (1 ≤ hubPort && hubPort ≤ 97)
  | .portResumeEnd hubPort => (1 ≤ hubPort && hubPort ≤ 97)
  | .microframeBoundary shuttle _ => shuttle < 13
  | .downstreamTransaction ctx txn => ctx < 16384 && txnOk txn
  | .enumResetEnd port route speed => port < 96 && route < 65536 && speed < 4
  | .enumRecoveryEnd port route => port < 96 && route < 65536
  | .enumRequestComplete port route _ data => port < 96 && route < 65536 && bytesOk data
  | .enumRequestTimeout port route => port < 96 && route < 65536
  | .setAddressTimeout port route => port < 96 && route < 65536
  | .enumAttemptTimeout port route => port < 96 && route < 65536
  | .enumRetryWaitEnd port route => port < 96 && route < 65536
  | .enumerationComplete port route => port < 96 && route < 65536
  | .contextRelease ctx => ctx < 16384
  | .spareLoaded shuttle => shuttle < 13
  | .takeoverConfirm shuttle => shuttle < 13
  | .treeIdleTimeout port => port < 96
  | .deviceResumeSignal port => port < 96
  | .treeResumeEnd port => port < 96
  | .treeRecoveryEnd port => port < 96
  | .deviceResetComplete port route descs =>
    port < 96 && route < 65536 && bytesOk descs.device && bytesOk descs.config
  | .mirrorRebuildComplete => true
  | .laneOutTransfer lane bytes => lane < 9 && bytesOk bytes
  | .outDmaComplete lane => lane < 9
  | .hostDataRecord lane => lane < 9
  | .setupRecord lane cfg => lane < 9 && bytesOk cfg
  | .statusRecord lane => lane < 9
  | .abortRecord lane => lane < 9
  | .hostAckRecord lane => lane < 9
  | .hostCreditRecord lane => lane < 9
  | .outRecordComplete _ => true
  | .laneInTransfer lane => lane < 9
  | .ep2InTransfer => true
  | .linkReset _ => true
  | .loomSetConfiguration value => value < 2 ^ 32
  | .loomSetInterface alt => alt < 2
  | .loomClearHalt lane => lane < 9
  | .functionSuspend _ _ _ => true
  | .hostU3Exit _ => true
  | .wakeNotifyRepeat => true
  | .u1Initiate _ => true
  | .linkTrained _ => true
  | .loomPacketReceived _ _ bytes => bytesOk bytes
  | .inRing => true
  | .mailboxPacketTaken => true
  | .outDone => true
  | .forwardTimeout tag _ => tag < 65536
  | .deviceInfo p => packetOk p
  | .deviceStatus p => packetOk p
  | .connect p => packetOk p
  | .disconnect p => packetOk p
  | .warmRestart p => packetOk p
  | .journalRead p => packetOk p
  | .channelMask p => packetOk p
  | .profileWrite p => packetOk p
  | .profileRead p => packetOk p
  | .profileErase p => packetOk p
  | .portModeSet p => packetOk p
  | .portDataEnable p => packetOk p
  | .portDataDisable p => packetOk p
  | .portVbusOn p => packetOk p
  | .portVbusOff p => packetOk p
  | .portLatchClear p => packetOk p
  | .portPwrConfig p => packetOk p
  | .portStatus p => packetOk p
  | .portRescan p => packetOk p
  | .feedEnable p => packetOk p
  | .feedDisable p => packetOk p
  | .feedConfig p => packetOk p
  | .skeinConfig p => packetOk p
  | .skeinBudget p => packetOk p
  | .powerStatus p => packetOk p
  | .measPorts p => packetOk p
  | .measFeeds p => packetOk p
  | .snapTrigger p => packetOk p
  | .countersRead p => packetOk p
  | .energyRead p => packetOk p
  | .domainSet p => packetOk p
  | .domainGet p => packetOk p
  | .idlePolicySet p => packetOk p
  | .wakeConfig p => packetOk p
  | .alarmSet p => packetOk p
  | .faultStatus p => packetOk p
  | .faultClear p => packetOk p
  | .faultLogRead p => packetOk p
  | .faultInject p => packetOk p
  | .hierRoleSet p => packetOk p
  | .hierStatus p => packetOk p
  | .poolDefine p => packetOk p
  | .poolStatus p => packetOk p
  | .timeGet p => packetOk p
  | .timeSet p => packetOk p
  | .canAssign p => packetOk p
  | .shuttleDevInfo p => packetOk p
  | .shuttleShareSet p => packetOk p
  | .shuttleReturn p => packetOk p
  | .shuttleResetDevice p => packetOk p
  | .shuttleIdleSet p => packetOk p
  | .handleMap p => packetOk p
  | .shuttleStatus p => packetOk p
  | .identityReport p => packetOk p
  | .attest p => packetOk p
  | .lifecycleAdvance p => packetOk p
  | .challenge p => packetOk p
  | .debugUnlock p => packetOk p
  | .debugEnd p => packetOk p
  | .keyRevoke p => packetOk p
  | .fwWrite p => packetOk p
  | .fwVerify p => packetOk p
  | .fwActivate p => packetOk p
  | .fwCommit p => packetOk p
  | .fwStatus p => packetOk p
  | .fwBroadcast p => packetOk p
  | .regRead p => packetOk p
  | .regWrite p => packetOk p
  | .standbyUpdated _ _ => true
  | .handover => true
  | .newLeadRunning => true
  | .formerLeadUpdated => true
  | .activationTimeout => true
  | .canModeWrite can _ => can < 2
  | .canModeChange can => can < 2
  | .canSynced can _ => can < 2
  | .canTimingWrite can _ _ => can < 2
  | .txRequest can mask => can < 2 && mask < 2 ^ 32
  | .txAbort can mask _ => can < 2 && mask < 2 ^ 32
  | .txbWrite can _ _ _ => can < 2
  | .txChoice can => can < 2
  | .canTxAttemptEnd can _ _ _ => can < 2
  | .loneSlot can => can < 2
  | .canFrameReceived can frame _ => can < 2 && frameOk frame
  | .fifoPop can => can < 2
  | .busoffRecovery can _ => can < 2
  | .canUseChange can => can < 2
  | .listenWindowEnd => true
  | .joinTimeout => true
  | .heartbeatSend => true
  | .heartbeat m => msgOk m
  | .heartbeatLoss => true
  | .elect m => msgOk m
  | .electionWindowEnd => true
  | .electionRetry => true
  | .announce m => msgOk m
  | .join m => msgOk m
  | .joinAck m => msgOk m
  | .leave m => msgOk m
  | .wstatusSend => true
  | .wstatus m => msgOk m
  | .memberAbsent idx => idx < 64
  | .tsyncSend => true
  | .tsync m => msgOk m
  | .tfollowSend bus => bus < 2
  | .tfollow m => msgOk m
  | .dreqSend => true
  | .dreq m _ => msgOk m
  | .dresp m => msgOk m
  | .timeUnlockTimeout => true
  | .cmdSegment m cls => msgOk m && cls < 3
  | .rplSegment m cls => msgOk m && cls < 3
  | .segmentTimeout _ src cls => src < 256 && cls < 3
  | .eventFrame m => msgOk m
  | .loanCompute => true
  | .loan m => msgOk m
  | .loanAck m => msgOk m
  | .loanResend idx => idx < 64
  | .loanRaise => true
  | .poolSync m => msgOk m
  | .poolSyncPeriodic => true
  | .fwCtrl m => msgOk m
  | .fwData m => msgOk m
  | .fwNack m => msgOk m
  | .fwNackWindowEnd => true
  | .domainStepReady domain _ => domain < 42
  | .domainStepTimeout domain => domain < 42
  | .domainEntryComplete domain => domain < 42
  | .idleTimeout domain => domain < 42
  | .domReqWrite domain value => domain < 42 && value < 2 ^ 32
  | .avsAck _ => true
  | .avsNoAck => true
  | .avsRetry => true
  | .addressMatch addr _ => addr < 128
  | .upstreamResumeDetect _ => true
  | .wakeInEdge _ => true
  | .alarmFire alarm => alarm < 4
  | .alarmArmWrite _ alarm high => alarm < 4 && high < 2 ^ 32
  | .dbgEnRise => true
  | .dbgEnFall => true
  | .errorPairSet src kind _ => src < 256 && kind < 16
  | .codedMessage _ => true
  | .codedMessageRepeat _ => true
  | .linkMessageTimeout skein => skein < 8
  | .pairBroken src _ => src < 256
  | .pairWhole src _ => src < 256
  | .faultNotification => true
  | .geckoClearWrite reg mask => reg < 3 && mask < 2 ^ 32
  | .fltHb half seq _ => half < 2 && seq < 256
  | .leadHeartbeatTimeout => true
  | .tokenRecordMismatch _ _ _ => true
  | .sharedWriteRefused half => half < 2
  | .stateCopyComplete => true
  | .takeoverComplete => true
  | .referenceAbsentTimeout _ => true
  | .referenceStable _ => true
  | .otpProgram slot => slot < 3
  | .otpProgramDone _ => true
  | .challengeExpiry => true
  | .debugAccess acc => accessOk acc
  | .debugWakeRequest domain state => domain < 42 && state < 3
  | .mgmtWrite _ bytes => bytesOk bytes
  | .mgmtRead _ _ => true
  | .enec _ => true
  | .disec _ => true
  | .rstdaa => true
  | .entdaa addr => addr < 128
  | .setdasa _ addr => addr < 128
  | .setnewda _ => true
  | .setmwl _ => true
  | .setmrl _ => true
  | .getmwl => true
  | .getmrl => true
  | .getpid => true
  | .getbcr => true
  | .getdcr => true
  | .getstatus => true
  | .ibiRetry _ => true
  | .indAddrWrite _ value => value < 2 ^ 32
  | .indDataRead _ => true
  | .indDataWrite _ value => value < 2 ^ 32
  | .indSet _ value => value < 2 ^ 32
  | .indClr _ value => value < 2 ^ 32
  | .indTgl _ value => value < 2 ^ 32
  | .indFetch _ => true
  | .fetchComplete _ => true
  | .aliasSet _ _ value => value < 2 ^ 32
  | .aliasClear _ _ value => value < 2 ^ 32
  | .aliasToggle _ _ value => value < 2 ^ 32
  | .registerWrite _ _ value => value < 2 ^ 32
  | .rcRead _ _ => true
  | .lowWordRead _ _ => true
  | .snapCtlTrigger _ => true
  | .snapLatch => true
  | .snapComplete => true
  | .downstreamConnectChange hubPort _ => (1 ≤ hubPort && hubPort ≤ 97)
  | .linkPowerStateRequest _ => true
  | .u2InactivityTimeout => true
  | .hubStandardRequest req => hubReqOk req
  | .enumWaitEnd port route => port < 96 && route < 65536
  | .ep1ReplyTransfer => true
  | .domainClockStop domain => domain < 42
  | .collectorSelfTest _ => true
  | .xtal32Stop => true
  | .canRxError can lec _ _ => can < 2 && lec < 8
  | .workerImageWritten => true

end Sys2Proof.WellFormed
end

