-- ==== Sys2Proof/Tests/Slice0.lean ====
section
/-! SUPPORT. Tests: each check of WellFormed refuses an ill-formed command; values the spec writes out; and, for every
statement with hypotheses, a state and operands that meet them together. -/

namespace Sys2Proof.Tests

open Sys2Proof Sys2Proof.Machine

set_option Elab.async false

/-! ### Well-formed values, from which one part at a time is spoiled -/

def okPacket : Packet :=
  { chan := .mailbox, opcode := 0, tag := 65535, cls := 2, seq := 2 ^ 32 - 1, params := [255] }
def okMsg : HMsg := { bus := 1, src := 63, dst := 63, seg := 63, data := List.replicate 64 255, stamp := 0 }
def okFrame : CanFrame :=
  { id := 2047, ide := false, fdf := true, brs := true, rtr := false, esi := false, dlc := 15, data := [255] }
def okStraps : Straps :=
  { idx := List.replicate 6 none, mgmtAddr := [none, some true], boot := [none, none], prefHalf := none,
    mgrElig := some false }
def okAccess : DebugAccess := { place := .register, domain := 41, ind := false, addr := 2 ^ 32 - 1, what := .read }

theorem test_well_formed : ([.deviceInfo okPacket, .heartbeat okMsg, .canFrameReceived 1 okFrame 0,
    .porstNRelease okStraps true, .debugAccess okAccess, .setPortPower 97, .feedStopped 15 0, .idleTimeout 41,
    .selfTestComplete [{ src := 255, kind := 15, addr := 2 ^ 24 - 1 }]] : List Instr).all WellFormed.instr = true := by
  decide +kernel

theorem test_ill_formed_parts : ([
    .deviceInfo { okPacket with opcode := 256 }, .deviceInfo { okPacket with tag := 65536 },
    .deviceInfo { okPacket with cls := 256 }, .deviceInfo { okPacket with seq := 2 ^ 32 },
    .deviceInfo { okPacket with params := List.replicate 4081 0 }, .deviceInfo { okPacket with params := [256] },
    .heartbeat { okMsg with bus := 2 }, .heartbeat { okMsg with src := 64 }, .heartbeat { okMsg with dst := 64 },
    .heartbeat { okMsg with seg := 64 }, .heartbeat { okMsg with data := List.replicate 65 0 },
    .heartbeat { okMsg with data := [256] }, .canFrameReceived 0 { okFrame with id := 2048 } 0,
    .canFrameReceived 0 { okFrame with id := 2 ^ 29, ide := true } 0, .canFrameReceived 0 { okFrame with dlc := 16 } 0,
    .canFrameReceived 0 { okFrame with data := List.replicate 65 0 } 0,
    .canFrameReceived 0 { okFrame with data := [256] } 0, .porstNRelease { okStraps with idx := [] } true,
    .porstNRelease { okStraps with mgmtAddr := [] } true, .porstNRelease { okStraps with boot := [] } true,
    .hubStandardRequest (.startSplit 1 0 16 none []), .hubStandardRequest (.startSplit 1 0 0 none [256]),
    .hubStandardRequest (.completeSplit 0 0 0 none), .hubStandardRequest (.getDescriptor .dfu 0 0 65536),
    .debugAccess { okAccess with domain := 42 }, .debugAccess { okAccess with addr := 2 ^ 32 },
    .selfTestComplete [{ src := 256, kind := 0, addr := 0 }], .selfTestComplete [{ src := 0, kind := 16, addr := 0 }],
    .selfTestComplete [{ src := 0, kind := 0, addr := 2 ^ 24 }], .downstreamTransaction 0 (.inData [256]),
    .downstreamTransaction 0 (.hubConnect 128), .downstreamTransaction 0 (.hubDisconnect 0)] : List Instr).all
      (fun c => !WellFormed.instr c) = true := by
  decide +kernel

theorem test_ill_formed_0 : ([
    .porstNRelease ({ okStraps with idx := [] }) true, .imageVerified 2, .halfBootComplete 2 true,
    .selfTestComplete ([{ src := 0, kind := 16, addr := 0 }]), .dfuDnload [256], .skeinAonPowerUp 8 0 0 0 0,
    .skeinAonPowerDown 8 0 0, .holdLineAssert 8, .holdLineDeassert 8,
    .linkSilentTimeout 8 0, .configCheckStart 8, .configCheckDone 8 true true,
    .trainingComplete 256 true, .feedInputQualified 16 0 0, .railReached 16 0 0,
    .fullEnhancement 16 0, .shareReached 16 0 0 true, .feedCurrentLimit 16 0,
    .feedLimitExit 16 0, .feedFaultTimerExpiry 16 none none, .inrushTimeout 16,
    .feedThermalModelUpdate 16 ⟨0, 0⟩ 0, .feedSensorRead 16 0, .feedReverseBlock 16 ⟨⟨0, 0⟩, 0⟩,
    .feedInputOutOfRange 16 0, .feedBlockedRejoin 16 0 0, .inputLost 16 0 0,
    .cdlyCooldownEnd 16, .cdlyCheckMissing 16, .cdlyCheckShorted 16,
    .cdlyTestCharge 16 ⟨0, 0⟩, .feedStopped 16 0, .feedRetryReload 16,
    .feedStuckOn 16 0, .feedSample 16 0 0 0 0 true, .shareLimitSet 16 0,
    .shareLimitClear 16 0, .powerGoodSettled 8, .feedCfgWrite .mgmt 16 0,
    .feedCfgWrite .mgmt 0 4294967296, .softstartComplete 96 0 0, .ssTimeout 96,
    .portCurrentLimit 96 0, .portLimitExit 96 0, .portFaultTimerExpiry 96 none none none,
    .shortCircuitTrip 96 0, .portSensorRead 96 0, .portModelUpdate 96 ⟨0, 0⟩,
    .portReverseBlock 96 0 0, .portReverseRelease 96 0 0 0, .dischargeComplete 96 0,
    .dischargeDisconnect 96 0, .retryPeriodExpiry 96, .retryEnd 96 0,
    .portRetryReload 96, .portStuckOn 96 0, .portSample 96 0 0,
    .pwrCfgWrite .mgmt 96 0, .pwrCfgWrite .mgmt 0 4294967296, .allocationPass 8] : List Instr).all (fun c => !WellFormed.instr c) = true := by
  decide +kernel

theorem test_ill_formed_1 : ([
    .rpLevelApplied 96, .shedHoldEnd 8, .shedCapRestore 8,
    .complianceCheck 96, .sinkLimitImposed 96, .ccOvervoltage 96 0 0,
    .vbusBackfeedClear 96 0, .ccSample 96 .opened, .typecDebounceComplete 96,
    .typeaDetect 96 0 true, .typeaDebounceComplete 96, .typecDetach 96 0,
    .typeaDetach 96 0, .typeaPullupSeen 96, .qualifyComplete 96,
    .logicalDetachComplete 96, .modeChangeComplete 96, .setPortPower 0,
    .setPortPower 98, .clearPortPower 0, .clearPortPower 98,
    .setPortReset 0, .setPortReset 98, .portResetEnd 0 0,
    .portResetEnd 98 0, .portResetEnd 1 4, .clearPortEnable 0,
    .clearPortEnable 98, .setPortSuspend 0, .setPortSuspend 98,
    .clearPortSuspend 0, .clearPortSuspend 98, .setPortTest 0 0,
    .setPortTest 98 0, .setPortTest 1 8, .setPortIndicator 0,
    .setPortIndicator 98, .clearTtBuffer 0 0 0, .clearTtBuffer 98 0 0,
    .clearTtBuffer 1 0 16, .resetTt 0, .resetTt 98,
    .stopTt 0, .stopTt 98, .getTtState 0,
    .getTtState 98, .getPortStatus 0, .getPortStatus 98,
    .hubSetInterface 2, .downstreamRemoteWake 0 true, .downstreamRemoteWake 98 true,
    .portResumeEnd 0, .portResumeEnd 98, .microframeBoundary 13 0,
    .downstreamTransaction 16384 .nak, .downstreamTransaction 0 (.hubConnect 0), .enumResetEnd 96 0 0,
    .enumResetEnd 0 65536 0, .enumResetEnd 0 0 4, .enumRecoveryEnd 96 0] : List Instr).all (fun c => !WellFormed.instr c) = true := by
  decide +kernel

theorem test_ill_formed_2 : ([
    .enumRecoveryEnd 0 65536, .enumRequestComplete 96 0 0 [], .enumRequestComplete 0 65536 0 [],
    .enumRequestComplete 0 0 0 [256], .enumRequestTimeout 96 0, .enumRequestTimeout 0 65536,
    .setAddressTimeout 96 0, .setAddressTimeout 0 65536, .enumAttemptTimeout 96 0,
    .enumAttemptTimeout 0 65536, .enumRetryWaitEnd 96 0, .enumRetryWaitEnd 0 65536,
    .enumerationComplete 96 0, .enumerationComplete 0 65536, .contextRelease 16384,
    .spareLoaded 13, .takeoverConfirm 13, .treeIdleTimeout 96,
    .deviceResumeSignal 96, .treeResumeEnd 96, .treeRecoveryEnd 96,
    .deviceResetComplete 96 0 ⟨[], []⟩, .deviceResetComplete 0 65536 ⟨[], []⟩, .deviceResetComplete 0 0 ⟨[256], []⟩,
    .deviceResetComplete 0 0 ⟨[], [256]⟩, .laneOutTransfer 9 [], .laneOutTransfer 0 [256],
    .outDmaComplete 9, .hostDataRecord 9, .setupRecord 9 [],
    .setupRecord 0 [256], .statusRecord 9, .abortRecord 9,
    .hostAckRecord 9, .hostCreditRecord 9, .laneInTransfer 9,
    .loomSetConfiguration 4294967296, .loomSetInterface 2, .loomClearHalt 9,
    .loomPacketReceived .mailbox 0 [256], .forwardTimeout 65536 .mailbox, .deviceInfo ({ okPacket with params := [256] }),
    .deviceStatus ({ okPacket with params := [256] }), .connect ({ okPacket with params := [256] }), .disconnect ({ okPacket with params := [256] }),
    .warmRestart ({ okPacket with params := [256] }), .journalRead ({ okPacket with params := [256] }), .channelMask ({ okPacket with params := [256] }),
    .profileWrite ({ okPacket with params := [256] }), .profileRead ({ okPacket with params := [256] }), .profileErase ({ okPacket with params := [256] }),
    .portModeSet ({ okPacket with params := [256] }), .portDataEnable ({ okPacket with params := [256] }), .portDataDisable ({ okPacket with params := [256] }),
    .portVbusOn ({ okPacket with params := [256] }), .portVbusOff ({ okPacket with params := [256] }), .portLatchClear ({ okPacket with params := [256] }),
    .portPwrConfig ({ okPacket with params := [256] }), .portStatus ({ okPacket with params := [256] }), .portRescan ({ okPacket with params := [256] })] : List Instr).all (fun c => !WellFormed.instr c) = true := by
  decide +kernel

theorem test_ill_formed_3 : ([
    .feedEnable ({ okPacket with params := [256] }), .feedDisable ({ okPacket with params := [256] }), .feedConfig ({ okPacket with params := [256] }),
    .skeinConfig ({ okPacket with params := [256] }), .skeinBudget ({ okPacket with params := [256] }), .powerStatus ({ okPacket with params := [256] }),
    .measPorts ({ okPacket with params := [256] }), .measFeeds ({ okPacket with params := [256] }), .snapTrigger ({ okPacket with params := [256] }),
    .countersRead ({ okPacket with params := [256] }), .energyRead ({ okPacket with params := [256] }), .domainSet ({ okPacket with params := [256] }),
    .domainGet ({ okPacket with params := [256] }), .idlePolicySet ({ okPacket with params := [256] }), .wakeConfig ({ okPacket with params := [256] }),
    .alarmSet ({ okPacket with params := [256] }), .faultStatus ({ okPacket with params := [256] }), .faultClear ({ okPacket with params := [256] }),
    .faultLogRead ({ okPacket with params := [256] }), .faultInject ({ okPacket with params := [256] }), .hierRoleSet ({ okPacket with params := [256] }),
    .hierStatus ({ okPacket with params := [256] }), .poolDefine ({ okPacket with params := [256] }), .poolStatus ({ okPacket with params := [256] }),
    .timeGet ({ okPacket with params := [256] }), .timeSet ({ okPacket with params := [256] }), .canAssign ({ okPacket with params := [256] }),
    .shuttleDevInfo ({ okPacket with params := [256] }), .shuttleShareSet ({ okPacket with params := [256] }), .shuttleReturn ({ okPacket with params := [256] }),
    .shuttleResetDevice ({ okPacket with params := [256] }), .shuttleIdleSet ({ okPacket with params := [256] }), .handleMap ({ okPacket with params := [256] }),
    .shuttleStatus ({ okPacket with params := [256] }), .identityReport ({ okPacket with params := [256] }), .attest ({ okPacket with params := [256] }),
    .lifecycleAdvance ({ okPacket with params := [256] }), .challenge ({ okPacket with params := [256] }), .debugUnlock ({ okPacket with params := [256] }),
    .debugEnd ({ okPacket with params := [256] }), .keyRevoke ({ okPacket with params := [256] }), .fwWrite ({ okPacket with params := [256] }),
    .fwVerify ({ okPacket with params := [256] }), .fwActivate ({ okPacket with params := [256] }), .fwCommit ({ okPacket with params := [256] }),
    .fwStatus ({ okPacket with params := [256] }), .fwBroadcast ({ okPacket with params := [256] }), .regRead ({ okPacket with params := [256] }),
    .regWrite ({ okPacket with params := [256] }), .canModeWrite 2 0, .canModeChange 2,
    .canSynced 2 0, .canTimingWrite 2 0 0, .txRequest 2 0,
    .txRequest 0 4294967296, .txAbort 2 0 0, .txAbort 0 4294967296 0,
    .txbWrite 2 0 0 0, .txChoice 2, .canTxAttemptEnd 2 0 0 .ok] : List Instr).all (fun c => !WellFormed.instr c) = true := by
  decide +kernel

theorem test_ill_formed_4 : ([
    .loneSlot 2, .canFrameReceived 2 okFrame 0, .canFrameReceived 0 ({ okFrame with dlc := 16 }) 0,
    .fifoPop 2, .busoffRecovery 2 0, .canUseChange 2,
    .heartbeat ({ okMsg with src := 64 }), .elect ({ okMsg with src := 64 }), .announce ({ okMsg with src := 64 }),
    .join ({ okMsg with src := 64 }), .joinAck ({ okMsg with src := 64 }), .leave ({ okMsg with src := 64 }),
    .wstatus ({ okMsg with src := 64 }), .memberAbsent 64, .tsync ({ okMsg with src := 64 }),
    .tfollowSend 2, .tfollow ({ okMsg with src := 64 }), .dreq ({ okMsg with src := 64 }) 0,
    .dresp ({ okMsg with src := 64 }), .cmdSegment ({ okMsg with src := 64 }) 0, .cmdSegment okMsg 3,
    .rplSegment ({ okMsg with src := 64 }) 0, .rplSegment okMsg 3, .segmentTimeout true 256 0,
    .segmentTimeout true 0 3, .eventFrame ({ okMsg with src := 64 }), .loan ({ okMsg with src := 64 }),
    .loanAck ({ okMsg with src := 64 }), .loanResend 64, .poolSync ({ okMsg with src := 64 }),
    .fwCtrl ({ okMsg with src := 64 }), .fwData ({ okMsg with src := 64 }), .fwNack ({ okMsg with src := 64 }),
    .domainStepReady 42 true, .domainStepTimeout 42, .domainEntryComplete 42,
    .idleTimeout 42, .domReqWrite 42 0, .domReqWrite 0 4294967296,
    .addressMatch 128 true, .alarmFire 4, .alarmArmWrite .mgmt 4 0,
    .alarmArmWrite .mgmt 0 4294967296, .errorPairSet 256 0 0, .errorPairSet 0 16 0,
    .linkMessageTimeout 8, .pairBroken 256 0, .pairWhole 256 0,
    .geckoClearWrite 3 0, .geckoClearWrite 0 4294967296, .fltHb 2 0 true,
    .fltHb 0 256 true, .sharedWriteRefused 2, .otpProgram 3,
    .debugAccess ({ okAccess with domain := 42 }), .debugWakeRequest 42 0, .debugWakeRequest 0 3,
    .mgmtWrite true [256], .entdaa 128, .setdasa 0 128] : List Instr).all (fun c => !WellFormed.instr c) = true := by
  decide +kernel

theorem test_ill_formed_5 : ([
    .indAddrWrite .mgmt 4294967296, .indDataWrite .mgmt 4294967296, .indSet .mgmt 4294967296,
    .indClr .mgmt 4294967296, .indTgl .mgmt 4294967296, .aliasSet .mgmt 0 4294967296,
    .aliasClear .mgmt 0 4294967296, .aliasToggle .mgmt 0 4294967296, .registerWrite .mgmt 0 4294967296,
    .downstreamConnectChange 0 true, .downstreamConnectChange 98 true, .hubStandardRequest (.setAddress 128),
    .hubStandardRequest (.setConfiguration 256), .hubStandardRequest (.getDescriptor .hub2 256 0 0), .hubStandardRequest (.startSplit 98 0 0 none []),
    .hubStandardRequest (.completeSplit 1 128 0 none), .enumWaitEnd 96 0, .enumWaitEnd 0 65536,
    .domainClockStop 42, .canRxError 2 0 true 0, .canRxError 0 8 true 0] : List Instr).all (fun c => !WellFormed.instr c) = true := by
  decide +kernel

/-! ### Values that the spec writes out -/

/-- 00_scope.md R11: 30,517 and 37/64 per slow tick; 32 ticks carry 18 and leave 32/64. -/
theorem test_slow_ticks :
    (Nat.repeat State.clockTick 32 State.reset).dt = 32 * 30517 + 18
    ∧ (Nat.repeat State.clockTick 32 State.reset).dtFrac = 32 := by
  decide +kernel

/-- 17_registers.md R398: `SYS_ID` reads part 0x9664 and revision 0x0B; `INTC_EN` 0x0000_1800; `IND_CTL` 3, once MIF is ON. -/
theorem test_reset_words :
    (State.reset.directRead .mgmt false 0).2 = (0x000B9664, rOK)
    ∧ (State.reset.directRead .mgmt false 0xC0004).2 = (0x1800, rOK)
    ∧ ((State.reset.set .DOM_STAT_STATE dMIF 0).directRead .mgmt false 0x50014).2 = (3, rOK) := by
  decide +kernel

/-- 17_registers.md R384: a write of `AON_SCRATCH0`, least significant byte first, and its read. -/
theorem test_management_write :
    (match exec (.mgmtWrite false [0x20, 0x00, 0x01, 0x78, 0x56, 0x34, 0x12])
        (mk [(.DOM_STAT_STATE, dMIF, 0)]) with
      | .next t => t.get .AON_SCRATCH 0
      | _ => 0) = 0x12345678 := by
  decide +kernel

/-- 12_hierarchy.md R296: demands of 1,000 and 5,000 mA on a free 4,000 mA: the smallest is met first. -/
theorem test_loans :
    shareOut [⟨3, 0, 1000⟩, ⟨2, 1, 5000⟩] 4000 2 = [(3, 0, 1000), (2, 1, 3000)] := by
  decide +kernel

/-- 09_ecrax_protocol.md R214, 16_start_up.md R375: before ready `PORT_STATUS` is answered `INTERNAL`. -/
theorem test_before_ready :
    (match exec (.portStatus (pk [0])) State.reset with
      | .next t => leAt t.mbox.outWin 8 2
      | _ => 0) = 0x001B := by
  decide +kernel

/-- 09_ecrax_protocol.md R213: the reply of `DEVICE_INFO` in the outbound window: first byte 0x11, the opcode, the tag. -/
theorem test_reply_header :
    (match exec (.deviceInfo (pk [])) (mk [(.MBOX_STAT_READY, 0, 1)]) with
      | .next t => t.mbox.outWin.take 4
      | _ => []) = [0x11, 0x00, 0x01, 0x00] := by
  decide +kernel

/-- 17_registers.md R397: `INT_N` is low while a pending enabled group is routed to it and `OUT_EN` is 1. -/
theorem test_int_n :
    (mk [(.INTC_CTL_OUT_EN, 0, 1), (.MBOX_STAT_OUT_REPLY, 0, 1)]).intNLow = true
    ∧ (mk [(.MBOX_STAT_OUT_REPLY, 0, 1)]).intNLow = false
    ∧ (mk [(.INTC_CTL_OUT_EN, 0, 1), (.INTC_CTL_ROUTE, 0, 1), (.MBOX_STAT_OUT_REPLY, 0, 1)]).intNLow = false := by
  decide +kernel


/-! ### Witnesses -/

theorem witness_IdleTick :
    (∃ s : State, s.pending = [] ∧ s.pins.porstLow = true) ∧ (∃ s : State, s.pending = [] ∧ s.pins.porstLow = false) :=
  ⟨⟨{ State.reset with pins := { porstLow := true } }, by decide +kernel⟩, ⟨State.reset, by decide +kernel⟩⟩

theorem witness_InvalidReleaseStops :
    (∃ s : State, s.pins.porstLow = true) ∧ (∃ s : State, s.pins.porstLow = false) :=
  ⟨⟨{ State.reset with pins := { porstLow := true } }, by decide +kernel⟩, ⟨State.reset, by decide +kernel⟩⟩

theorem witness_StepKeepsSound : ∃ s t : State, Safety.sound s = true ∧ step s = .next t :=
  ⟨{ State.reset with pending := [.inRing] }, inRing State.reset, by decide +kernel, rfl⟩

theorem witness_StepTakesOneCommand : ∃ s t : State, Safety.sound s = true ∧ step s = .next t :=
  ⟨{ State.reset with pending := [.inRing] }, inRing State.reset, by decide +kernel, rfl⟩

theorem witness_OpcodeTurnsAndRefusals :
    (∃ (c : Packet → Instr) (p w : Packet) (s : State), (0x02, c) ∈ opcodeRows ∧ w ∈ s.ecx.queue
        ∧ w.cls < opcodeClass 0x02 ∧ samePacket w (opPacket 0x02 p) = false)
    ∧ (∃ (p : Packet) (s : State), mustWait s.ecx.queue (opPacket 0x60 p) = false ∧ s.noLead = false ∧ s.ready = false
        ∧ responderRuns (opPacket 0x60 p) = false ∧ s.graveClear (opPacket 0x60 p) = false)
    ∧ (∃ (p : Packet) (s : State), mustWait s.ecx.queue (opPacket 0x51 p) = false ∧ s.noLead = false ∧ s.safeHold = true
        ∧ responderRuns (opPacket 0x51 p) = false ∧ s.graveClear (opPacket 0x51 p) = true)
    ∧ (∃ s : State, s.noLead = true)
    ∧ (∃ (p : Packet) (s : State), mustWait s.ecx.queue (opPacket 0x06 p) = false ∧ s.noLead = false ∧ s.safeHold = false ∧ s.ready = true
        ∧ channelOk 0x06 p.chan = false)
    ∧ (∃ (p : Packet) (s : State), mustWait s.ecx.queue (opPacket 0x53 p) = false ∧ s.noLead = false ∧ s.safeHold = false ∧ s.ready = true
        ∧ channelOk 0x53 p.chan = true ∧ s.masked 0x53 p.chan = false
        ∧ lifecycleOk s.lifecycle (opPacket 0x53 p) = false)
    ∧ (∃ (p : Packet) (s : State), mustWait s.ecx.queue (opPacket 0x10 p) = false ∧ s.noLead = false ∧ s.safeHold = false ∧ s.ready = true
        ∧ channelOk 0x10 p.chan = true ∧ s.masked 0x10 p.chan = false
        ∧ lifecycleOk s.lifecycle (opPacket 0x10 p) = true ∧ paramsOk s (opPacket 0x10 p) = false)
    ∧ (∃ (p : Packet) (s : State), mustWait s.ecx.queue (opPacket 0x14 p) = false ∧ s.noLead = false ∧ s.safeHold = false ∧ s.ready = true
        ∧ channelOk 0x14 p.chan = true ∧ s.masked 0x14 p.chan = false
        ∧ lifecycleOk s.lifecycle (opPacket 0x14 p) = true ∧ paramsOk s (opPacket 0x14 p) = true
        ∧ unitFencedFor s (opPacket 0x14 p) = true) :=
  ⟨⟨.connect, pk [], { pk [] with opcode := 0x01, cls := 0, tag := 2 },
      { State.reset with ecx := { queue := [{ pk [] with opcode := 0x01, cls := 0, tag := 2 }] } },
      List.mem_of_getElem (i := 2) (h := by decide +kernel) rfl, by decide +kernel⟩,
   ⟨pk [], State.reset, by decide +kernel⟩,
   ⟨pk [1], { mk [(.FLT_STAT_SAFE_HOLD, 0, 1), (.FLT_GECKO, 1, 1)] with
      flt := { causes := [{ src := 1, kind := 1, cls := 4, addr := 0 }] } }, by decide +kernel⟩,
   ⟨{ State.reset with flt := { takeover := some 0 } }, by decide +kernel⟩,
   ⟨{ pk [] with chan := .loom }, mk [(.MBOX_STAT_READY, 0, 1)], by decide +kernel⟩,
   ⟨pk [], mk [(.MBOX_STAT_READY, 0, 1), (.SEC_LC_STATE, 0, 2)], by decide +kernel⟩,
   ⟨pk [96], mk [(.MBOX_STAT_READY, 0, 1)], by decide +kernel⟩,
   ⟨pk [5], mk [(.MBOX_STAT_READY, 0, 1)], by decide +kernel⟩⟩

theorem witness_ClockTicks :
    (∃ s : State, s.hier.slew = 0 ∧ s.hier.slewDone = 0 ∧ s.flag .TIME_STAT_SLOW_ONLY = false)
    ∧ (∃ s : State, s.hier.slew = 0 ∧ s.hier.slewDone = 0 ∧ s.flag .TIME_STAT_SLOW_ONLY = true ∧ s.dtFrac < 64)
    ∧ (∃ s : State, s.flag .TIME_STAT_SLOW_ONLY = false ∧ s.clockTick.flag .TIME_STAT_SLOW_ONLY = true) :=
  ⟨⟨mk [(.TIME_STAT_SLOW_ONLY, 0, 0)], by decide +kernel⟩, ⟨State.reset, by decide +kernel⟩,
   ⟨{ mk [(.TIME_STAT_SLOW_ONLY, 0, 0)] with slowDue := true, slowPhase := 1953000 }, by decide +kernel⟩⟩

theorem witness_WakePin :
    (∃ n : Nat, n < 1000) ∧ (∃ n : Nat, 1000 ≤ n ∧ n < 10000)
    ∧ (∃ (n : Nat) (s : State), 10000 ≤ n ∧
        (((List.range 2).filter (fun c => s.get .CAN_CTL_USE c == 0)).map dCAN).all s.domOn = true
        ∧ s.flag .DOM_STAT_CLK_STOPPED (dCTL s.lead) = false)
    ∧ (∃ (n : Nat) (s : State), 10000 ≤ n ∧
        (((List.range 2).filter (fun c => s.get .CAN_CTL_USE c == 0)).map dCAN).all s.domOn = false) :=
  ⟨⟨999, by decide +kernel⟩, ⟨1000, by decide +kernel⟩, ⟨10000, State.reset, by decide +kernel⟩, ⟨10000, mk [(.CAN_CTL_USE, 1, 0)], by decide +kernel⟩⟩

set_option maxRecDepth 20000 in
theorem witness_AbortOfTransmitBuffers :
    (∃ (c b mask req : Nat) (s : State), c < 2 ∧ b < 3 ∧ bit mask b = true ∧ Safety.sound s = true
      ∧ s.domOn (dCAN c) = true ∧ s.get .CAN_CTL_USE c ≠ 0 ∧ s.txb c b = 6 ∧ bit req b = true)
    ∧ (∃ (c b mask req : Nat) (s t : State), c < 2 ∧ b < 3 ∧ bit mask b = true ∧ Safety.sound s = true
      ∧ s.domOn (dCAN c) = true ∧ s.get .CAN_CTL_USE c ≠ 0 ∧ s.txb c b = 2 ∧ s.canOn c = true
      ∧ exec (.txAbort c mask req) s = .next t ∧ t.flag .CAN_STAT_TX_ACTIVE c = true ∧ t.txbIn c [2] = [b]
      ∧ t.get .CAN_STAT_MODE_NOW c ≠ 3 ∧ t.flag .CAN_CTL_TDC_EN c = true ∧ (t.txFrame c b).brs = true
      ∧ 127 < 100 + t.get .CAN_TDC_TDCO c)
    ∧ (∃ (c b : Nat) (t : State), t.canOn c = true ∧ t.flag .CAN_STAT_TX_ACTIVE c = true ∧ t.txbIn c [2] = [b]
      ∧ t.get .CAN_STAT_MODE_NOW c = 3)
    ∧ (∃ (c b mask : Nat) (s : State), c < 2 ∧ b < 3 ∧ bit mask b = true ∧ Safety.sound s = true
      ∧ s.domOn (dCAN c) = true ∧ s.get .CAN_CTL_USE c ≠ 0 ∧ s.txb c b = 5) :=
  ⟨⟨1, 2, 4, 4, mk [(.DOM_STAT_STATE, dCAN 1, 0), (.CAN_CTL_USE, 1, 1), (.TXB_STATE, 5, 6)], by decide +kernel⟩,
   ⟨1, 2, 4, 0, mk [(.DOM_STAT_STATE, dCAN 1, 0), (.CAN_CTL_USE, 1, 1), (.TXB_STATE, 5, 2), (.CAN_STAT_TX_ACTIVE, 1, 1),
      (.CAN_CTL_TDC_EN, 1, 1), (.CAN_TDC_TDCO, 1, 28), (.CAN_CTL_FD_EN, 1, 1), (.TXB_FDF, 5, 1), (.TXB_BRS, 5, 1),
      (.CAN_STAT_MODE_NOW, 1, 1), (.PWRD_CLK_TCLK_RUN, 0, 1)],
      (mk [(.DOM_STAT_STATE, dCAN 1, 0), (.CAN_CTL_USE, 1, 1), (.TXB_STATE, 5, 2), (.CAN_STAT_TX_ACTIVE, 1, 1),
      (.CAN_CTL_TDC_EN, 1, 1), (.CAN_TDC_TDCO, 1, 28), (.CAN_CTL_FD_EN, 1, 1), (.TXB_FDF, 5, 1), (.TXB_BRS, 5, 1),
      (.CAN_STAT_MODE_NOW, 1, 1), (.PWRD_CLK_TCLK_RUN, 0, 1)]).modCan 1 (fun x => { x with abortOf := 2 :: x.abortOf }),
      by decide +kernel, by decide +kernel, by decide +kernel, by decide +kernel, by decide +kernel, by decide +kernel, by decide +kernel, by decide +kernel, rfl, by decide +kernel⟩,
   ⟨0, 1, mk [(.DOM_STAT_STATE, dCAN 0, 0), (.CAN_CTL_USE, 0, 1), (.TXB_STATE, 1, 2), (.CAN_STAT_TX_ACTIVE, 0, 1),
      (.CAN_STAT_MODE_NOW, 0, 3), (.PWRD_CLK_TCLK_RUN, 0, 1)], by decide +kernel⟩,
   ⟨0, 1, 7, mk [(.DOM_STAT_STATE, dCAN 0, 0), (.CAN_CTL_USE, 0, 1), (.TXB_STATE, 1, 5)], by decide +kernel⟩⟩

theorem witness_CrcOfTheSpec :
    (∃ (c : Chan) (bs : List Nat) (s : State), c ≠ .profile ∧ s.held c < 16 ∧ 16 + min (leAt bs 6 2) 4080 ≤ bs.length
      ∧ (c = .loom → 16 + min (leAt bs 6 2) 4080 = bs.length)
      ∧ crc32 (bs.take 12 ++ (bs.drop 16).take (min (leAt bs 6 2) 4080)) ≠ leAt bs 12 4)
    ∧ (∃ bs : List Nat, profileStructOk bs = true) :=
  ⟨⟨.loom, List.replicate 16 0, State.reset, by decide +kernel⟩,
   ⟨[0x4C, 0x4E, 0x50, 0x46, 1, 0, 0, 0, 0, 0, 0, 0, 0, 0, 0, 0, 0, 0, 0, 0], by decide +kernel⟩⟩

theorem witness_RecordsAndRepliesReadBack :
    (∃ r : EvRec, r.cls < 256 ∧ r.seq < 2 ^ 16 ∧ r.dev < 256 ∧ r.unit < 2 ^ 16 ∧ r.dt < 2 ^ 64 ∧ r.code < 2 ^ 16
      ∧ r.detail.length = 10)
    ∧ (∃ r : Reply, r.opcode < 256 ∧ r.tag < 2 ^ 16 ∧ r.dev < 256 ∧ r.cls < 256 ∧ r.status < 2 ^ 16 ∧ r.seq < 2 ^ 16
      ∧ r.results.length < 2 ^ 16) :=
  ⟨⟨{ cls := 255, seq := 65535, dev := 63, unit := 95, dt := 2 ^ 64 - 1, code := 31, detail := List.replicate 10 255 },
      by decide +kernel⟩,
   ⟨{ chan := .mailbox, opcode := 0xA1, tag := 65535, cls := 2, seq := 65535, dev := 63, status := 0x107, dup := true,
      results := [1, 2, 3] }, by decide +kernel⟩⟩

theorem witness_WindowsAreSeparate : ∃ (p q : Path) (s : State), p ≠ q
    ∧ ∀ w, s.winOp p = some w → ∀ m a v, w.later ≠ some (.write m a v) :=
  ⟨.mgmt, .ecrax, State.reset, by decide +kernel, fun _ h => by cases h⟩

theorem witness_RefusedAccesses :
    (∃ (s : State) (addr d : Nat), blockDomain (addr / 65536 % 256) = some d ∧ s.domFenced d = true)
    ∧ (∃ (s : State) (addr d : Nat), blockDomain (addr / 65536 % 256) = some d ∧ s.domFenced d = false ∧ s.domOn d = false)
    ∧ (∃ addr : Nat, 0x0E ≤ addr / 65536 % 256)
    ∧ (∃ (s : State) (a : Nat), s.lifecycle = lcFIELD ∧ spaceOf (indSpace a) (indUnit a) = some .FEED
      ∧ (fieldsAt .FEED (indOff a)).isEmpty = false ∧ s.reach .FEED (unitIn .FEED (indUnit a)) (indOff a) = rOK) :=
  ⟨⟨mk [(.DOM_STAT_FENCED, dCAN 0, 1)], 0x7FFFF, dCAN 0, by decide +kernel⟩, ⟨State.reset, 0x90000, dHUB, by decide +kernel⟩,
   ⟨0xE0000, by decide +kernel⟩, ⟨mk [(.SEC_LC_STATE, 0, 2)] pw, 0x30000000, by decide +kernel⟩⟩

theorem witness_InboundWindow :
    (∃ (s : State) (n : Nat), n < 0x400 ∧ s.flag .MBOX_STAT_IN_BUSY = false)
    ∧ (∃ (s : State) (n : Nat), n < 0x400 ∧ s.flag .MBOX_STAT_IN_BUSY = true) :=
  ⟨⟨State.reset, 0x3FF, by decide +kernel⟩, ⟨mk [(.MBOX_STAT_IN_BUSY, 0, 1)], 0, by decide +kernel⟩⟩

theorem witness_CommandsOfResetAndPins :
    (∃ (n : Nat) (s : State), 1000 ≤ n)
    ∧ (∃ (n : Nat) (s : State), n < 100)
    ∧ (∃ (st : Straps) (v : Bool) (s : State), s.pins.porstLow = false)
    ∧ (∃ (st : Straps) (s : State), s.pins.porstLow = true)
    ∧ (∃ (s : State), s.pins.porstLow = false ∧ 50000 ≤ s.dt)
    ∧ (∃ (s : State), s.boot.waitWarm = true ∧ s.pins.porstLow = false)
    ∧ (∃ (n : Nat) (s : State), 1000 ≤ n ∧ s.pins.porstLow = false ∧ s.flt.latch = false ∧ s.ready = true)
    ∧ (∃ (n : Nat) (s : State), n < 100)
    ∧ (∃ (k : Nat) (s : State), s.ecx.restart = some k ∧ k ≤ s.dt ∧ s.flt.latch = false)
    ∧ (∃ (s : State), s.starting = true ∧ s.boot.base + 100000 ≤ s.dt)
    ∧ (∃ (s : State), s.pins.porstLow = false ∧ s.boot.waitWarm = false ∧ s.flt.refAbsentFrom = none ∧ s.refLost = false ∧ s.refNeeded = true)
    ∧ (∃ (n : Nat) (s : State), 512 ≤ n ∧ s.pins.porstLow = false ∧ s.pins.xtalGone = false ∧ s.dt < 2000000000 ∧ s.flag .AON_CLK_SLOW_SRC = false ∧ s.flag .AON_CLK_XTAL_STOPPED = false)
    ∧ (∃ (s : State), s.pins.porstLow = false ∧ s.flag .AON_CLK_SLOW_SRC = false ∧ s.flag .AON_CLK_XTAL_STOPPED = false ∧ 2000000000 ≤ s.dt) :=
  ⟨⟨1000, State.reset, by decide +kernel⟩,
   ⟨99, State.reset, by decide +kernel⟩,
   ⟨{ idx := [], mgmtAddr := [], boot := [], prefHalf := none, mgrElig := none }, true, State.reset, by decide +kernel⟩,
   ⟨{ idx := [some true, none], mgmtAddr := [], boot := [none, some true], prefHalf := none, mgrElig := none }, { State.reset with pins := { aonFresh := true, porstLow := true } }, by decide +kernel⟩,
   ⟨{ State.reset with dt := 50000 }, by decide +kernel⟩,
   ⟨{ State.reset with boot := { waitWarm := true } }, by decide +kernel⟩,
   ⟨1000, mk [(.MBOX_STAT_READY, 0, 1)], by decide +kernel⟩,
   ⟨99, State.reset, by decide +kernel⟩,
   ⟨5, { State.reset with dt := 5, ecx := { restart := some 5 } }, by decide +kernel⟩,
   ⟨{ State.reset with dt := 100000 }, by decide +kernel⟩,
   ⟨mk [(.DOM_STAT_STATE, 16, 0)], by decide +kernel⟩,
   ⟨512, State.reset, by decide +kernel⟩,
   ⟨{ State.reset with dt := 2000000000 }, by decide +kernel⟩⟩

theorem witness_CommandsOfBoot :
    (∃ (s : State), s.starting = true ∧ s.boot.warm = false ∧ s.boot.otpRead = false ∧ s.boot.refLocked = true)
    ∧ (∃ (s : State), s.starting = true ∧ s.boot.otpRead = true ∧ s.boot.dramInit = false ∧ s.safeHold = false)
    ∧ (∃ (k : Nat) (s : State), s.starting = true ∧ s.boot.dramInit = true ∧ s.boot.imageOk = false ∧ s.boot.dfu = .off ∧ s.safeHold = false ∧ s.domFenced dSEC = false ∧ s.boot.warm = false ∧ s.nextSlot = some k)
    ∧ (∃ (h : Nat) (s : State), h < 2 ∧ bit s.sec.halted h = false ∧ s.boot.imageOk = true ∧ s.domFenced (dCTL h) = false ∧ (s.domFenced dSEC = false ∨ s.domOn (dCTL h) = true) ∧ s.safeHold = false ∧ s.boot.booted.getD h false = false ∧ ((s.boot.running = true ∧ s.boot.warm = false) ∨ s.domOn (dCTL h) = true) ∧ s.sec.secretUpset = false)
    ∧ (∃ (k : Nat) (s : State), s.boot.firstAsk = some k ∧ s.flag .FLT_TOKEN_VALID = false ∧ s.boot.dfu = .off ∧ s.safeHold = false ∧ (s.boot.asked = [true, true] ∨ (k + 50000000 ≤ s.dt ∧ (s.boot.asked.getD 0 false = true ∨ s.boot.asked.getD 1 false = true))))
    ∧ (∃ (s : State), s.boot.running = true ∧ s.boot.asked.any id = false ∧ s.boot.dfu = .off ∧ s.flag .FLT_TOKEN_VALID = false ∧ s.safeHold = false ∧ s.boot.waitWarm = false ∧ s.boot.base + 2000000000 ≤ s.dt)
    ∧ (∃ (fs : List Failure) (s : State), s.boot.running = true ∧ s.flag .FLT_TOKEN_VALID = true ∧ s.boot.selfTest = false ∧ s.safeHold = false) :=
  ⟨⟨{ State.reset with boot := { refLocked := true } }, by decide +kernel⟩,
   ⟨{ State.reset with boot := { otpRead := true } }, by decide +kernel⟩,
   ⟨0, { State.reset with boot := { dramInit := true } }, by decide +kernel⟩,
   ⟨1, { State.reset with boot := { imageOk := true } }, by decide +kernel⟩,
   ⟨0, { State.reset with dt := 50000000, boot := { firstAsk := some 0, asked := [true, false] } }, by decide +kernel⟩,
   ⟨{ State.reset with dt := 2000000000 }, by decide +kernel⟩,
   ⟨[], mk [(.FLT_TOKEN_VALID, 0, 1)], by decide +kernel⟩⟩

theorem witness_CommandsOfDfu :
    (∃ (n : Nat) (s : State), s.boot.dfu ≠ .off ∧ s.boot.dfu ≠ .manifestWait ∧ s.u2 = 0 ∧ 10000000 ≤ n)
    ∧ (∃ (b : List Nat) (s : State), b ≠ [] ∧ b.length ≤ 4096 ∧ s.u2 ≠ 0 ∧ (s.boot.dfu = .idle ∨ s.boot.dfu = .error))
    ∧ (∃ (b : List Nat) (s : State), b ≠ [] ∧ b.length ≤ 4096 ∧ s.u2 ≠ 0 ∧ s.boot.dfu = .dnload)
    ∧ (∃ (s : State), s.boot.dfu = .dnload ∧ s.u2 ≠ 0 ∧ s.domFenced dSEC = false)
    ∧ (∃ (s : State), s.boot.dfu = .manifestWait ∧ s.u2 ≠ 0) :=
  ⟨⟨10000000, { State.reset with boot := { dfu := .recovery } }, by decide +kernel⟩,
   ⟨[1], { mk [(.HUBS_STAT_U2_STATE, 0, 1)] with boot := { dfu := .idle } }, by decide +kernel⟩,
   ⟨[1], { mk [(.HUBS_STAT_U2_STATE, 0, 1)] with boot := { dfu := .dnload } }, by decide +kernel⟩,
   ⟨{ mk [(.HUBS_STAT_U2_STATE, 0, 1)] with boot := { dfu := .dnload } }, by decide +kernel⟩,
   ⟨{ mk [(.HUBS_STAT_U2_STATE, 0, 1)] with boot := { dfu := .manifestWait } }, by decide +kernel⟩⟩

theorem witness_FeedInsertionEvents :
    (∃ (u : Nat) (v : Nat) (n : Nat) (s : State), s.feedRuns u = true ∧ s.fst u = fWAITING ∧ 10000000 ≤ n ∧ s.vinIn u v = true ∧ s.flag .FEED_CFG_EN u = true ∧ s.flag .FEED_CFG_PRESENT u = true ∧ (s.feed u).cdlyHigh = false ∧ s.feeds.length = 16 ∧ s.feedAQualifies u = false ∧ s.cutNow (feedMate u) = false ∧ feedConducts (s.fst (feedMate u)) = false)
    ∧ (∃ (u : Nat) (v : Nat) (n : Nat) (s : State), s.feedRuns u = true ∧ s.fst u = fWAITING ∧ 10000000 ≤ n ∧ s.vinIn u v = true ∧ s.flag .FEED_CFG_EN u = true ∧ s.flag .FEED_CFG_PRESENT u = true ∧ (s.feed u).cdlyHigh = false ∧ s.feeds.length = 16 ∧ s.feedAQualifies u = false ∧ s.cutNow (feedMate u) = false ∧ (s.fst (feedMate u) = fON ∨ s.fst (feedMate u) = fLIMIT))
    ∧ (∃ (u : Nat) (v : Nat) (n : Nat) (s : State), s.feedRuns u = true ∧ s.fst u = fWAITING ∧ 10000000 ≤ n ∧ s.vinIn u v = true ∧ s.flag .FEED_CFG_EN u = true ∧ s.flag .FEED_CFG_PRESENT u = true ∧ (s.feed u).cdlyHigh = false ∧ (s.feedAQualifies u = true ∨ s.fst (feedMate u) = fINRUSH ∨ s.fst (feedMate u) = fJOINING))
    ∧ (∃ (u : Nat) (v : Nat) (r : Nat) (s : State), s.feedRuns u = true ∧ s.fst u = fINRUSH ∧ v ≤ r + 50 ∧ r ≤ v + 50)
    ∧ (∃ (u : Nat) (v : Nat) (s : State), s.feedRuns u = true ∧ s.fst u = fINRUSH ∧ (s.feed u).rail = true ∧ 100 * s.get .FEED_LIMIT_VGS_FE u ≤ v ∧ s.now < (s.feed u).inrushFrom + 50000000 ∧ s.cutNow u = false)
    ∧ (∃ (u : Nat) (i : Int) (j : Int) (s : State), s.feedRuns u = true ∧ s.fst u = fJOINING ∧ s.cutNow u = false)
    ∧ (∃ (u : Nat) (i : Int) (j : Int) (s : State), s.feedRuns u = true ∧ s.fst u = fJOINING ∧ 100 * s.shuntMa u i - (s.sharePct u : Int) * (s.shuntMa u i + s.shuntMa (feedMate u) j)
      ≤ 5 * (s.shuntMa u i + s.shuntMa (feedMate u) j) ∧ -(5 * (s.shuntMa u i + s.shuntMa (feedMate u) j))
      ≤ 100 * s.shuntMa u i - (s.sharePct u : Int) * (s.shuntMa u i + s.shuntMa (feedMate u) j) ∧ s.cutNow u = false)
    ∧ (∃ (u : Nat) (v : Int) (s : State), s.feedRuns u = true ∧ (s.fst u = fINRUSH ∨ s.fst u = fJOINING ∨ s.fst u = fON) ∧ (1000 * s.get .FEED_LIMIT_ILIM_MV u : Nat) ≤ v)
    ∧ (∃ (u : Nat) (n : Nat) (s : State), s.feedRuns u = true ∧ s.fst u = fLIMIT ∧ 1000000 ≤ n ∧ s.now < (s.feed u).limitFrom + 1000000 * s.get .FEED_LIMIT_FTIME_MS u ∧ s.cutNow u = false)
    ∧ (∃ (u : Nat) (s : State), s.feedRuns u = true ∧ s.fst u = fON ∧ (s.feed u).onFrom + 60000000000 ≤ s.now ∧ s.cutNow u = false) :=
  ⟨⟨0, 5000, 10000000, { mk [(.FEED_STAT_STATE, 0, fWAITING), (.FEED_CFG_EN, 0, 1)] pw with feeds := List.replicate 16 {  } }, by decide +kernel⟩,
   ⟨0, 5000, 10000000, { mk [(.FEED_STAT_STATE, 0, fWAITING), (.FEED_CFG_EN, 0, 1), (.FEED_STAT_STATE, 1, fON)] pw with feeds := List.replicate 16 {  } }, by decide +kernel⟩,
   ⟨0, 5000, 10000000, { mk [(.FEED_STAT_STATE, 0, fWAITING), (.FEED_CFG_EN, 0, 1), (.FEED_STAT_STATE, 1, fINRUSH)] pw with feeds := List.replicate 16 {  } }, by decide +kernel⟩,
   ⟨0, 12000, 12000, { mk [(.FEED_STAT_STATE, 0, fINRUSH)] pw with feeds := List.replicate 16 {  } }, by decide +kernel⟩,
   ⟨0, 25500, { mk [(.FEED_STAT_STATE, 0, fINRUSH)] pw with feeds := List.replicate 16 { rail := true } }, by decide +kernel⟩,
   ⟨0, 0, 0, { mk [(.FEED_STAT_STATE, 0, fJOINING)] pw with feeds := List.replicate 16 {  } }, by decide +kernel⟩,
   ⟨0, 0, 0, { mk [(.FEED_STAT_STATE, 0, fJOINING)] pw with feeds := List.replicate 16 {  } }, by decide +kernel⟩,
   ⟨0, 1000000, { mk [(.FEED_STAT_STATE, 0, fON)] pw with feeds := List.replicate 16 {  } }, by decide +kernel⟩,
   ⟨0, 1000000, { mk [(.FEED_STAT_STATE, 0, fLIMIT), (.FEED_LIMIT_FTIME_MS, 0, 5)] pw with feeds := List.replicate 16 {  } }, by decide +kernel⟩,
   ⟨0, { { mk [(.FEED_STAT_STATE, 0, fON)] pw with feeds := List.replicate 16 {  } } with dt := 60000000000 }, by decide +kernel⟩⟩

theorem witness_FeedTripEvents :
    (∃ (u : Nat) (m : Option FeedSense) (x : Option Nat) (s : State), s.feedRuns u = true ∧ s.tripState u = fLIMIT ∧ (s.feed u).limitFrom + 1000000 * s.get .FEED_LIMIT_FTIME_MS u ≤ s.now)
    ∧ (∃ (u : Nat) (s : State), s.feedRuns u = true ∧ s.tripState u = fINRUSH ∧ (s.feed u).inrushFrom + 50000000 ≤ s.now)
    ∧ (∃ (u : Nat) (v : FeedSense) (s : State), s.feedRuns u = true ∧ s.fst u = fON ∧ vdsUv v.vinMv v.railMv v.shuntUv < -5000)
    ∧ (∃ (u : Nat) (v : Nat) (s : State), s.feedRuns u = true ∧ (s.fst u = fON ∨ s.fst u = fJOINING) ∧ s.vinIn u v = false)
    ∧ (∃ (u : Nat) (v : Nat) (s : State), s.feedRuns u = true ∧ s.fst u = fWAITING ∧ s.vinIn u v = false)
    ∧ (∃ (u : Nat) (v : Nat) (r : Nat) (s : State), s.feedRuns u = true ∧ s.fst u = fBLOCKED ∧ s.flag .FEED_CFG_EN u = true ∧ r + 20 < v ∧ s.vinIn u v = true ∧ s.cutNow u = false ∧ s.cutNow (feedMate u) = false)
    ∧ (∃ (u : Nat) (v : Nat) (n : Nat) (s : State), s.feedRuns u = true ∧ s.fst u = fBLOCKED ∧ s.vinIn u v = false ∧ 10000000 ≤ n)
    ∧ (∃ (u : Nat) (i : Int) (s : State), s.feedRuns u = true ∧ (s.fst u = fSTOPPING ∨ s.fst u = fCOOLDOWN ∨ s.fst u = fLATCHED ∨ s.fst u = fOFF) ∧ (s.get .FEED_SHUNT_R_UOHM u : Int) < i ∧ (s.feed u).gateOff + 100000 ≤ s.now) :=
  ⟨⟨0, none, none, { { mk [(.FEED_STAT_STATE, 0, fLIMIT)] pw with feeds := List.replicate 16 {  } } with dt := 1000000000 }, by decide +kernel⟩,
   ⟨0, { { mk [(.FEED_STAT_STATE, 0, fINRUSH)] pw with feeds := List.replicate 16 {  } } with dt := 50000000 }, by decide +kernel⟩,
   ⟨0, ⟨⟨0, 6⟩, 0⟩, { mk [(.FEED_STAT_STATE, 0, fON)] pw with feeds := List.replicate 16 {  } }, by decide +kernel⟩,
   ⟨0, 0, { mk [(.FEED_STAT_STATE, 0, fON)] pw with feeds := List.replicate 16 {  } }, by decide +kernel⟩,
   ⟨0, 0, { mk [(.FEED_STAT_STATE, 0, fWAITING)] pw with feeds := List.replicate 16 {  } }, by decide +kernel⟩,
   ⟨0, 5000, 0, { mk [(.FEED_STAT_STATE, 0, fBLOCKED), (.FEED_CFG_EN, 0, 1)] pw with feeds := List.replicate 16 {  } }, by decide +kernel⟩,
   ⟨0, 0, 10000000, { mk [(.FEED_STAT_STATE, 0, fBLOCKED)] pw with feeds := List.replicate 16 {  } }, by decide +kernel⟩,
   ⟨0, 65536, { { mk [(.FEED_STAT_STATE, 0, fOFF)] pw with feeds := List.replicate 16 {  } } with dt := 100000 }, by decide +kernel⟩⟩

theorem witness_CooldownPinEvents :
    (∃ (u : Nat) (s : State), s.feedRuns u = true ∧ (s.feed u).cdlyHigh = true ∧ (s.fst u = fCOOLDOWN ∨ s.fst u = fINHERITED))
    ∧ (∃ (u : Nat) (s : State), s.feedRuns u = true ∧ (s.feed u).charging = true ∧ s.now < (s.feed u).gateOff + 20000)
    ∧ (∃ (u : Nat) (s : State), s.feedRuns u = true ∧ (s.feed u).charging = true ∧ (s.feed u).gateOff + 5000000 ≤ s.now)
    ∧ (∃ (u : Nat) (r : CdlyCharge) (s : State), s.feedRuns u = true ∧ (s.feed u).testing = true ∧ (s.feed u).testFrom + 5000000 ≤ s.now ∧ 20000 ≤ r.riseNs ∧ 400 ≤ r.at5Ms)
    ∧ (∃ (u : Nat) (r : CdlyCharge) (s : State), s.feedRuns u = true ∧ (s.feed u).testing = true ∧ (r.riseNs < 20000 ∨ ((s.feed u).testFrom + 5000000 ≤ s.now ∧ r.at5Ms < 400)))
    ∧ (∃ (u : Nat) (v : Nat) (s : State), s.feedRuns u = true ∧ s.fst u = fSTOPPING ∧ v < 1000 ∧ (s.feed u).gateOff + 100000000 ≤ s.now ∧ s.flag .FEED_STAT_DEFERRED u = false)
    ∧ (∃ (u : Nat) (v : Nat) (s : State), s.feedRuns u = true ∧ s.fst u = fSTOPPING ∧ v < 1000 ∧ (s.feed u).gateOff + 100000000 ≤ s.now ∧ s.flag .FEED_STAT_DEFERRED u = true) :=
  ⟨⟨0, { mk [(.FEED_STAT_STATE, 0, fCOOLDOWN)] pw with feeds := List.replicate 16 { cdlyHigh := true } }, by decide +kernel⟩,
   ⟨0, { mk [] pw with feeds := List.replicate 16 { charging := true } }, by decide +kernel⟩,
   ⟨0, { { mk [] pw with feeds := List.replicate 16 { charging := true } } with dt := 5000000 }, by decide +kernel⟩,
   ⟨0, ⟨20000, 400⟩, { { mk [] pw with feeds := List.replicate 16 { testing := true } } with dt := 5000000 }, by decide +kernel⟩,
   ⟨0, ⟨19999, 400⟩, { mk [] pw with feeds := List.replicate 16 { testing := true } }, by decide +kernel⟩,
   ⟨0, 999, { { mk [(.FEED_STAT_STATE, 0, fSTOPPING)] pw with feeds := List.replicate 16 {  } } with dt := 100000000 }, by decide +kernel⟩,
   ⟨0, 999, { { mk [(.FEED_STAT_STATE, 0, fSTOPPING), (.FEED_STAT_DEFERRED, 0, 1)] pw with feeds := List.replicate 16 {  } } with dt := 100000000 }, by decide +kernel⟩⟩

theorem witness_FeedMeasurementEvents :
    (∃ (u : Nat) (v : FeedVolts) (i : Int) (s : State), s.feedRuns u = true)
    ∧ (∃ (u : Nat) (x : Nat) (s : State), s.feedRuns u = true ∧ (s.get .FEED_CFG_TS_TYPE u = 1 ∨ s.get .FEED_CFG_TS_TYPE u = 2) ∧ s.flag .FEED_STAT_TS_FAULT u = true)
    ∧ (∃ (u : Nat) (x : Nat) (s : State), s.feedRuns u = true ∧ (s.get .FEED_CFG_TS_TYPE u = 1 ∨ s.get .FEED_CFG_TS_TYPE u = 2) ∧ s.flag .FEED_STAT_TS_FAULT u = false)
    ∧ (∃ (u : Nat) (v : Nat) (r : Nat) (g : Nat) (sh : Int) (c : Bool) (s : State), s.feedRuns u = true)
    ∧ (∃ (u : Nat) (n : Nat) (s : State), s.feedRuns u = true ∧ s.flag .SKN_STAT_SHARING (skeinOfFeed u) = true ∧ 20000000 ≤ n ∧ s.flag .FEED_STAT_SHARE_LIMIT u = false)
    ∧ (∃ (u : Nat) (n : Nat) (s : State), s.feedRuns u = true ∧ 20000000 ≤ n)
    ∧ (∃ (k : Nat) (t : Nat) (s : State), k < 8 ∧ (s.skein k).settleFrom = some t ∧ t + 2000000 ≤ s.now ∧ s.pgOk k = true ∧ (skeinFeeds k).any s.cutNow = false)
    ∧ (∃ (e : Nat) (s : State), e = 1000000 * (s.measBase + 1) + s.measShift ∧ e ≤ s.skDt) :=
  ⟨⟨0, ⟨0, 0⟩, 0, { mk [] pw with feeds := List.replicate 16 {  } }, by decide +kernel⟩,
   ⟨0, 0, { mk [(.FEED_CFG_TS_TYPE, 0, 1), (.FEED_STAT_TS_FAULT, 0, 1)] pw with feeds := List.replicate 16 {  } }, by decide +kernel⟩,
   ⟨0, 0, { mk [(.FEED_CFG_TS_TYPE, 0, 1)] pw with feeds := List.replicate 16 {  } }, by decide +kernel⟩,
   ⟨0, 12000, 12000, 4500, 0, false, { mk [] pw with feeds := List.replicate 16 {  } }, by decide +kernel⟩,
   ⟨0, 20000000, { mk [(.SKN_STAT_SHARING, 0, 1)] pw with feeds := List.replicate 16 {  } }, by decide +kernel⟩,
   ⟨0, 20000000, { mk [] pw with feeds := List.replicate 16 {  } }, by decide +kernel⟩,
   ⟨0, 0, { mk [(.FEED_STAT_STATE, 0, fON), (.FEED_STAT_FULL_ENH, 0, 1)] with dt := 2000000, skeins := List.replicate 8 { powered := true, settleFrom := some 0, railOk := true } }, by decide +kernel⟩,
   ⟨1000000, { State.reset with dt := 1000000 }, by decide +kernel⟩⟩

theorem witness_SkeinPowerAndHold :
    (∃ (k : Nat) (a : Nat) (b : Nat) (ca : Nat) (cb : Nat) (s : State), k < 8 ∧ (s.skein k).powered = false ∧ 3800 ≤ max a b)
    ∧ (∃ (k : Nat) (a : Nat) (b : Nat) (s : State), k < 8 ∧ (s.skein k).powered = true ∧ max a b < 3100)
    ∧ (∃ (k : Nat) (s : State), k < 8 ∧ s.holdCause = true)
    ∧ (∃ (k : Nat) (s : State), k < 8 ∧ s.holdCause = false)
    ∧ (∃ (k : Nat) (n : Nat) (s : State), k < 8 ∧ 100000 ≤ n ∧ (s.skein k).powered = true)
    ∧ (∃ (k : Nat) (s : State), k < 8 ∧ (s.skein k).powered = true ∧ (s.skein k).holdLine = false ∧ (s.skHeld k = true ∨ (s.skein k).checkDue = true) ∧ s.holdCause = false ∧ s.unitFenced (0x40 + k) = false)
    ∧ (∃ (k : Nat) (t : Nat) (l : Bool) (s : State), k < 8 ∧ (s.skein k).checkFrom = some t)
    ∧ (∃ (k : Nat) (t : Nat) (l : Bool) (s : State), k < 8 ∧ (s.skein k).checkFrom = some t) :=
  ⟨⟨0, 3800, 0, 0, 0, State.reset, by decide +kernel⟩,
   ⟨0, 3099, 0, pw, by decide +kernel⟩,
   ⟨0, State.reset, by decide +kernel⟩,
   ⟨0, mk [(.FLT_TOKEN_VALID, 0, 1)], by decide +kernel⟩,
   ⟨0, 100000, pw, by decide +kernel⟩,
   ⟨0, { mk [(.FLT_TOKEN_VALID, 0, 1), (.SKN_STAT_HELD, 0, 1)] with skeins := List.replicate 8 { powered := true, holdLine := false } }, by decide +kernel⟩,
   ⟨0, 0, true, { State.reset with skeins := List.replicate 8 { checkFrom := some 0 } }, by decide +kernel⟩,
   ⟨0, 0, true, { State.reset with skeins := List.replicate 8 { checkFrom := some 0 } }, by decide +kernel⟩⟩

theorem witness_SkeinBudgetEvents :
    (∃ (k : Nat) (s : State), k < 8 ∧ (s.skein k).powered = true ∧ (s.skein k).passDue = true ∧ s.skHeld k = false ∧ s.skeinCutNow k = false)
    ∧ (∃ (k : Nat) (t : Nat) (s : State), (s.skein k).shedHold = some t ∧ t ≤ s.now)
    ∧ (∃ (k : Nat) (t : Nat) (n : Nat) (s : State), (s.skein k).headroom = some t ∧ s.capPort k = some n ∧ s.skHeld k = false ∧ t + 1000000000 ≤ (s.skein k).window ∧ (s.skein k).headStep = s.capStep n) :=
  ⟨⟨0, { State.reset with skeins := List.replicate 8 { powered := true, passDue := true } }, by decide +kernel⟩,
   ⟨0, 0, { State.reset with skeins := List.replicate 8 { shedHold := some 0 } }, by decide +kernel⟩,
   ⟨0, 0, 0, { mk [(.PORT_DET_DET, 0, 2)] with ports := List.replicate 96 { cap := some 1 }, skeins := List.replicate 8 { powered := true, headroom := some 0, window := 1000000000, headStep := 1000 } }, by decide +kernel⟩⟩

theorem witness_PortSwitchEvents :
    (∃ (n : Nat) (v : Nat) (r : Nat) (s : State), s.portRuns n = true ∧ s.pwr n = 2 ∧ v ≤ r + 100 ∧ r ≤ v + 100 ∧ s.ssTimeUp n = false ∧ s.portCutNow n = false)
    ∧ (∃ (n : Nat) (s : State), s.portRuns n = true ∧ s.tripFrom n = 2 ∧ ((s.port n).ssFrom + 10000000) * s.get .PWR_LIMIT_SLEW n + 20000 * s.get .SKN_CFG_VNOM (skeinOfPort n)
      ≤ s.now * s.get .PWR_LIMIT_SLEW n)
    ∧ (∃ (n : Nat) (i : Int) (s : State), s.portRuns n = true ∧ (s.pwr n = 2 ∨ s.pwr n = 3) ∧ (s.effLimit n : Int) ≤ i)
    ∧ (∃ (n : Nat) (b : Nat) (s : State), s.portRuns n = true ∧ s.pwr n = 4 ∧ 1000000 ≤ b ∧ s.now < (s.port n).limitFrom + 500000 * s.get .PWR_LIMIT_FTIME n)
    ∧ (∃ (n : Nat) (i : Option Int) (r : Option Int) (x : Option PortHeat) (s : State), s.portRuns n = true ∧ s.tripFrom n = 4 ∧ (s.port n).limitFrom + 500000 * s.get .PWR_LIMIT_FTIME n ≤ s.now)
    ∧ (∃ (n : Nat) (i : Int) (s : State), s.portRuns n = true ∧ conducting (s.tripFrom n) = true ∧ 7000 ≤ i)
    ∧ (∃ (n : Nat) (v : Nat) (s : State), s.portRuns n = true ∧ s.pwr n = 5 ∧ v < 800 ∧ (s.port n).offFrom + 100000000 ≤ s.now)
    ∧ (∃ (n : Nat) (b : Nat) (s : State), s.portRuns n = true ∧ 10000000 ≤ b ∧ conducting (s.pwr n) = false)
    ∧ (∃ (n : Nat) (s : State), s.portRuns n = true ∧ s.pwr n = 6 ∧ (s.port n).retryFrom + 250000000 * s.get .PWR_LIMIT_RETRY_PER n ≤ s.now)
    ∧ (∃ (n : Nat) (v : Nat) (s : State), s.portRuns n = true ∧ s.pwr n = 6 ∧ (s.port n).retryDone = true ∧ v < 800 ∧ (s.port n).offFrom + 100000000 ≤ s.now ∧ ((s.port n).thermal = false ∨ (s.port n).tj < 1200))
    ∧ (∃ (n : Nat) (s : State), s.portRuns n = true ∧ s.pwr n = 3 ∧ (s.port n).onFrom + 60000000000 ≤ s.now ∧ s.portCutNow n = false)
    ∧ (∃ (n : Nat) (i : Int) (s : State), s.portRuns n = true ∧ (s.pwr n = 0 ∨ s.pwr n = 5 ∨ s.pwr n = 6 ∨ s.pwr n = 7) ∧ 100 < i ∧ (s.port n).offFrom + 100000 ≤ s.now) :=
  ⟨⟨0, 5000, 5000, mk [(.PWR_STAT_STATE, 0, 2)] pw, by decide +kernel⟩,
   ⟨0, { mk [(.PWR_STAT_STATE, 0, 2)] pw with dt := 1000000000 }, by decide +kernel⟩,
   ⟨0, 10000, mk [(.PWR_STAT_STATE, 0, 3)] pw, by decide +kernel⟩,
   ⟨0, 1000000, mk [(.PWR_STAT_STATE, 0, 4)] pw, by decide +kernel⟩,
   ⟨0, none, none, none, { mk [(.PWR_STAT_STATE, 0, 4)] pw with dt := 1000000000 }, by decide +kernel⟩,
   ⟨0, 7000, mk [(.PWR_STAT_STATE, 0, 3)] pw, by decide +kernel⟩,
   ⟨0, 799, { mk [(.PWR_STAT_STATE, 0, 5)] pw with dt := 100000000 }, by decide +kernel⟩,
   ⟨0, 10000000, pw, by decide +kernel⟩,
   ⟨0, { mk [(.PWR_STAT_STATE, 0, 6)] pw with dt := 100000000000 }, by decide +kernel⟩,
   ⟨0, 799, { mk [(.PWR_STAT_STATE, 0, 6)] pw with ports := List.replicate 96 { retryDone := true }, dt := 100000000 }, by decide +kernel⟩,
   ⟨0, { mk [(.PWR_STAT_STATE, 0, 3)] pw with dt := 60000000000 }, by decide +kernel⟩,
   ⟨0, 101, { pw with dt := 100000 }, by decide +kernel⟩⟩

theorem witness_PortMeasurementEvents :
    (∃ (n : Nat) (r : Int) (s : State), s.portRuns n = true)
    ∧ (∃ (n : Nat) (h : PortHeat) (s : State), s.portRuns n = true)
    ∧ (∃ (n : Nat) (v : Nat) (r : Nat) (s : State), s.portRuns n = true ∧ s.pwr n = 3 ∧ r + 20 ≤ v ∧ s.flag .PWR_STAT_BLOCKED n = false ∧ v ≤ 6000)
    ∧ (∃ (n : Nat) (v : Nat) (r : Nat) (s : State), s.portRuns n = true ∧ conducting (s.pwr n) = true ∧ s.flag .PWR_STAT_BLOCKED n = false ∧ (s.port n).backfeed = false ∧ 6000 < v)
    ∧ (∃ (n : Nat) (v : Nat) (r : Nat) (s : State), s.portRuns n = true ∧ conducting (s.pwr n) = false ∧ (s.port n).backfeed = false ∧ 6000 < v)
    ∧ (∃ (n : Nat) (v : Nat) (r : Nat) (t : Nat) (s : State), s.portRuns n = true ∧ conducting (s.pwr n) = true ∧ v < r + 5 ∧ 100000 ≤ t)
    ∧ (∃ (n : Nat) (b : Nat) (s : State), s.portRuns n = true ∧ 1000000 ≤ b ∧ (s.port n).backfeed = true)
    ∧ (∃ (n : Nat) (v : Nat) (i : Int) (s : State), s.portRuns n = true)
    ∧ (∃ (n : Nat) (c : Nat) (s : State), (s.port n).nextRp = some c ∧ s.portRuns n = true ∧ s.skHeld (skeinOfPort n) = false ∧ s.portCutNow n = false ∧ (s.port n).ccOver = false ∧ c < s.get .PWR_STAT_RP_ADV n)
    ∧ (∃ (n : Nat) (c : Nat) (s : State), (s.port n).nextRp = some c ∧ s.portRuns n = true ∧ s.skHeld (skeinOfPort n) = false ∧ s.portCutNow n = false ∧ (s.port n).ccOver = false ∧ s.get .PWR_STAT_RP_ADV n < c)
    ∧ (∃ (n : Nat) (t : Nat) (s : State), (s.port n).tc = some t ∧ s.portRuns n = true ∧ (s.port n).checked = false ∧ t + 61000000 ≤ (s.port n).winEnd ∧ (s.port n).winEnd < t + 62000000)
    ∧ (∃ (n : Nat) (t : Nat) (s : State), (s.port n).tc = some t ∧ s.portRuns n = true ∧ s.skHeld (skeinOfPort n) = false ∧ t + 100000000 ≤ s.now ∧ t + 99000000 < (s.port n).winEnd ∧ (s.port n).winEnd ≤ t + 100000000)
    ∧ (∃ (n : Nat) (v : Nat) (b : Nat) (s : State), s.portRuns n = true ∧ 5500 < v)
    ∧ (∃ (n : Nat) (v : Nat) (b : Nat) (s : State), s.portRuns n = true ∧ v ≤ 5500 ∧ 1000000 ≤ b) :=
  ⟨⟨0, 1600, pw, by decide +kernel⟩,
   ⟨0, ⟨0, 0⟩, pw, by decide +kernel⟩,
   ⟨0, 5020, 5000, mk [(.PWR_STAT_STATE, 0, 3)] pw, by decide +kernel⟩,
   ⟨0, 6001, 6001, mk [(.PWR_STAT_STATE, 0, 2)] pw, by decide +kernel⟩,
   ⟨0, 6001, 0, pw, by decide +kernel⟩,
   ⟨0, 0, 0, 100000, mk [(.PWR_STAT_STATE, 0, 3)] pw, by decide +kernel⟩,
   ⟨0, 1000000, { pw with ports := List.replicate 96 { backfeed := true } }, by decide +kernel⟩,
   ⟨0, 5000, 1000, pw, by decide +kernel⟩,
   ⟨0, 1, { mk [(.PWR_STAT_RP_ADV, 0, 2)] pw with ports := List.replicate 96 { nextRp := some 1 } }, by decide +kernel⟩,
   ⟨0, 2, { mk [(.PWR_STAT_RP_ADV, 0, 1)] pw with ports := List.replicate 96 { nextRp := some 2 } }, by decide +kernel⟩,
   ⟨0, 0, { pw with ports := List.replicate 96 { tc := some 0, winEnd := 61000000 } }, by decide +kernel⟩,
   ⟨0, 0, { pw with ports := List.replicate 96 { tc := some 0, winEnd := 100000000 }, dt := 100000000 }, by decide +kernel⟩,
   ⟨0, 5501, 0, pw, by decide +kernel⟩,
   ⟨0, 5500, 1000000, pw, by decide +kernel⟩⟩

theorem witness_AttachEvents :
    (∃ (n : Nat) (p : CcPat) (s : State), s.portSenses n = true ∧ s.typeA n = false ∧ s.ccBlind n = false ∧ s.get .PORT_DET_DET n = 0 ∧ p.attaches = true)
    ∧ (∃ (n : Nat) (p : CcPat) (s : State), s.portSenses n = true ∧ s.typeA n = false ∧ s.ccBlind n = false ∧ s.get .PORT_DET_DET n = 1 ∧ p ≠ (s.port n).pattern ∧ p.attaches = false)
    ∧ (∃ (n : Nat) (c : Bool) (s : State), s.portSenses n = true ∧ s.typeA n = false ∧ s.ccBlind n = false ∧ s.get .PORT_DET_DET n = 1 ∧ (s.port n).debFrom + 120000000 ≤ s.now ∧ (s.port n).pattern = .sink c)
    ∧ (∃ (n : Nat) (s : State), s.portSenses n = true ∧ s.typeA n = false ∧ s.ccBlind n = false ∧ s.get .PORT_DET_DET n = 1 ∧ (s.port n).debFrom + 120000000 ≤ s.now ∧ (s.port n).pattern = .debugAcc)
    ∧ (∃ (n : Nat) (s : State), s.portSenses n = true ∧ s.typeA n = false ∧ s.ccBlind n = false ∧ s.get .PORT_DET_DET n = 1 ∧ (s.port n).debFrom + 120000000 ≤ s.now ∧ (s.port n).pattern = .audioAcc)
    ∧ (∃ (n : Nat) (i : Int) (l : Bool) (s : State), s.portSenses n = true ∧ s.typeA n = true ∧ s.get .PORT_DET_DET n = 0 ∧ 50 ≤ i)
    ∧ (∃ (n : Nat) (i : Int) (l : Bool) (s : State), s.portSenses n = true ∧ s.typeA n = true ∧ s.get .PORT_DET_DET n = 1 ∧ i < 50 ∧ l = false)
    ∧ (∃ (n : Nat) (s : State), s.portSenses n = true ∧ s.typeA n = true ∧ s.get .PORT_DET_DET n = 1 ∧ (s.port n).debFrom + 100000000 ≤ s.now)
    ∧ (∃ (n : Nat) (t : Nat) (s : State), s.portSenses n = true ∧ s.typeA n = false ∧ (s.get .PORT_DET_DET n = 2 ∨ s.get .PORT_DET_DET n = 3 ∨ s.get .PORT_DET_DET n = 4) ∧ 10000000 ≤ t ∧ s.ccBlind n = false)
    ∧ (∃ (n : Nat) (t : Nat) (s : State), s.portSenses n = true ∧ s.typeA n = true ∧ (s.get .PORT_DET_DET n = 6 ∧ 10000000 ≤ t ∨ s.get .PORT_DET_DET n = 5 ∧ 5000000000 ≤ t))
    ∧ (∃ (n : Nat) (s : State), s.portSenses n = true ∧ s.typeA n = true ∧ s.get .PORT_DET_DET n = 5 ∧ 2 ≤ s.mode n) :=
  ⟨⟨0, .debugAcc, mk [(.PORT_MODE_MODE_EFF, 0, 1)] pw, by decide +kernel⟩,
   ⟨0, .other, mk [(.PORT_MODE_MODE_EFF, 0, 1), (.PORT_DET_DET, 0, 1)] pw, by decide +kernel⟩,
   ⟨0, true, { mk [(.PORT_MODE_MODE_EFF, 0, 1), (.PORT_DET_DET, 0, 1)] pw with ports := List.replicate 96 { pattern := .sink true }, dt := 120000000 }, by decide +kernel⟩,
   ⟨0, { mk [(.PORT_MODE_MODE_EFF, 0, 1), (.PORT_DET_DET, 0, 1)] pw with ports := List.replicate 96 { pattern := .debugAcc }, dt := 120000000 }, by decide +kernel⟩,
   ⟨0, { mk [(.PORT_MODE_MODE_EFF, 0, 1), (.PORT_DET_DET, 0, 1)] pw with ports := List.replicate 96 { pattern := .audioAcc }, dt := 120000000 }, by decide +kernel⟩,
   ⟨0, 50, false, mk [(.PORT_MODE_MODE_EFF, 0, 1), (.PWR_CFG_CONN, 0, 1)] pw, by decide +kernel⟩,
   ⟨0, 49, false, mk [(.PORT_MODE_MODE_EFF, 0, 1), (.PWR_CFG_CONN, 0, 1), (.PORT_DET_DET, 0, 1)] pw, by decide +kernel⟩,
   ⟨0, { mk [(.PORT_MODE_MODE_EFF, 0, 1), (.PWR_CFG_CONN, 0, 1), (.PORT_DET_DET, 0, 1)] pw with dt := 100000000 }, by decide +kernel⟩,
   ⟨0, 10000000, mk [(.PORT_MODE_MODE_EFF, 0, 1), (.PORT_DET_DET, 0, 2)] pw, by decide +kernel⟩,
   ⟨0, 10000000, mk [(.PORT_MODE_MODE_EFF, 0, 1), (.PWR_CFG_CONN, 0, 1), (.PORT_DET_DET, 0, 6)] pw, by decide +kernel⟩,
   ⟨0, mk [(.PORT_MODE_MODE_EFF, 0, 2), (.PWR_CFG_CONN, 0, 1), (.PORT_DET_DET, 0, 5)] pw, by decide +kernel⟩⟩

theorem witness_PresentationEvents :
    (∃ (n : Nat) (s : State), s.portSenses n = true ∧ s.att n = 5 ∧ s.pwr n = 3 ∧ s.flag .PWR_STAT_BLOCKED n = false ∧ (s.port n).qualFrom + 1000000 * (s.port n).qualMs ≤ s.dt ∧ s.portCutNow n = false ∧ s.mode n = 1)
    ∧ (∃ (n : Nat) (s : State), s.portSenses n = true ∧ s.att n = 5 ∧ s.pwr n = 3 ∧ s.flag .PWR_STAT_BLOCKED n = false ∧ (s.port n).qualFrom + 1000000 * (s.port n).qualMs ≤ s.dt ∧ s.portCutNow n = false ∧ s.mode n = 2 ∧ s.safeHold = false ∧ s.domFenced (dPHY (groupOfPort n)) = false ∧ s.domOn (dPHY (groupOfPort n)) = true ∧ s.domOn dHUB = true)
    ∧ (∃ (n : Nat) (j : Nat) (s : State), s.portSenses n = true ∧ s.att n = 5 ∧ s.pwr n = 3 ∧ s.flag .PWR_STAT_BLOCKED n = false ∧ (s.port n).qualFrom + 1000000 * (s.port n).qualMs ≤ s.dt ∧ s.portCutNow n = false ∧ s.mode n = 3 ∧ s.domFenced (dPHY (groupOfPort n)) = false ∧ s.serving n = some j ∧ s.domOn dDRAM = true ∧ s.domOn (dPHY (groupOfPort n)) = true ∧ s.domOn (dSH j) = true)
    ∧ (∃ (n : Nat) (s : State), n < 96 ∧ (s.port n).detaching = true)
    ∧ (∃ (n : Nat) (s : State), n < 96 ∧ s.flag .PORT_LIFE_CHANGING n = true ∧ (s.port n).detaching = false ∧ (s.port n).cycled = false ∧ s.mode n ≠ 3)
    ∧ (∃ (n : Nat) (s : State), n < 96 ∧ s.flag .PORT_LIFE_CHANGING n = true ∧ (s.port n).detaching = false ∧ (s.port n).cycled = false ∧ s.mode n = 3 ∧ s.domOn dDRAM = true ∧ s.domOn (dPHY (groupOfPort n)) = true ∧ (∀ j, s.serving n = some j → s.domOn (dSH j) = true))
    ∧ (∃ (n : Nat) (s : State), n < 96 ∧ s.flag .PORT_LIFE_CHANGING n = true ∧ (s.port n).detaching = false ∧ (conducting (s.pwr n) = true ∨ ((s.port n).cycling = false ∧ s.powerRequest n = false)) ∧ s.mode n ≠ 3)
    ∧ (∃ (t : Nat) (s : State), s.pins.porstLow = false ∧ 10000000 ≤ t)
    ∧ (∃ (s : State), s.ready = true ∧ s.flag .AON_CONN_PERMIT = true ∧ s.flag .AON_CONN_VBUS_OK = true ∧ s.flag .AON_CONN_HOLDOFF = false ∧ (s.up.applied = false ∨ s.up.ssApplied = false) ∧ s.domFenced dLOOM = false ∧ s.domFenced dHUB = false ∧ s.domOn dLOOM = true ∧ s.domOn dHUB = true ∧ s.u2 = 0)
    ∧ (∃ (t : Nat) (s : State), s.pins.porstLow = false ∧ 1000000 ≤ t)
    ∧ (∃ (t : Nat) (s : State), s.up.holdUntil = some t ∧ t ≤ s.dt) :=
  ⟨⟨0, { mk [(.PORT_LIFE_ATT_STATE, 0, 5), (.PWR_STAT_STATE, 0, 3), (.PORT_MODE_MODE_EFF, 0, 1)] pw with dt := 50000000 }, by decide +kernel⟩,
   ⟨0, { mk [(.PORT_LIFE_ATT_STATE, 0, 5), (.PWR_STAT_STATE, 0, 3), (.PORT_MODE_MODE_EFF, 0, 2), (.DOM_STAT_STATE, 3, 0), (.DOM_STAT_STATE, 4, 0)] pw with dt := 50000000 }, by decide +kernel⟩,
   ⟨0, 0, { mk [(.PORT_LIFE_ATT_STATE, 0, 5), (.PWR_STAT_STATE, 0, 3), (.PORT_MODE_MODE_EFF, 0, 3), (.SHT_STAT_STATE, 0, 1), (.SHT_STAT_PHYG, 0, 0), (.DOM_STAT_STATE, 29, 0), (.DOM_STAT_STATE, 16, 0), (.DOM_STAT_STATE, 4, 0)] pw with dt := 50000000 }, by decide +kernel⟩,
   ⟨0, { pw with ports := List.replicate 96 { detaching := true } }, by decide +kernel⟩,
   ⟨0, mk [(.PORT_LIFE_CHANGING, 0, 1)] pw, by decide +kernel⟩,
   ⟨0, mk [(.PORT_LIFE_CHANGING, 0, 1), (.PORT_MODE_MODE_EFF, 0, 3), (.DOM_STAT_STATE, 29, 0), (.DOM_STAT_STATE, 4, 0), (.SHT_STAT_STATE, 0, 4)] pw, by decide +kernel⟩,
   ⟨0, { mk [(.PORT_LIFE_CHANGING, 0, 1), (.PWR_STAT_STATE, 0, 2), (.PWR_CFG_CONN, 0, 1)] pw with ports := List.replicate 96 { cycled := true, cycling := true } }, by decide +kernel⟩,
   ⟨10000000, State.reset, by decide +kernel⟩,
   ⟨mk [(.MBOX_STAT_READY, 0, 1), (.AON_CONN_PERMIT, 0, 1), (.AON_CONN_VBUS_OK, 0, 1), (.DOM_STAT_STATE, 2, 0), (.DOM_STAT_STATE, 3, 0)], by decide +kernel⟩,
   ⟨1000000, State.reset, by decide +kernel⟩,
   ⟨0, { State.reset with up := { holdUntil := some 0 } }, by decide +kernel⟩⟩

theorem witness_HubPortRequests :
    (∃ (h : Nat) (s : State), s.u2 = 3 ∧ s.domOn dHUB = true ∧ 1 ≤ h ∧ h ≤ 96 ∧ s.skHeld (skeinOfPort (h - 1)) = false ∧ s.linkDead (skeinOfPort (h - 1)) = false)
    ∧ (∃ (h : Nat) (s : State), s.u2 = 3 ∧ s.domOn dHUB = true ∧ 1 ≤ h ∧ h ≤ 96 ∧ (s.skHeld (skeinOfPort (h - 1)) = true ∨ s.linkDead (skeinOfPort (h - 1)) = true))
    ∧ (∃ (h : Nat) (s : State), s.u2 = 3 ∧ s.domOn dHUB = true ∧ 1 ≤ h ∧ h ≤ 96 ∧ s.linkDead (skeinOfPort (h - 1)) = false)
    ∧ (∃ (h : Nat) (s : State), s.u2 = 3 ∧ s.domOn dHUB = true ∧ 1 ≤ h ∧ h ≤ 96)
    ∧ (∃ (s : State), s.u2 = 3 ∧ s.domOn dHUB = true ∧ s.flag .HUBS_STAT_P97_CONN = true)
    ∧ (∃ (h : Nat) (v : Nat) (t : Nat) (s : State), 1 ≤ h ∧ h ≤ 96 ∧ 1 ≤ v ∧ v ≤ 3 ∧ (s.port (h - 1)).hpReset = some t ∧ t + 10000000 ≤ s.dt)
    ∧ (∃ (h : Nat) (s : State), s.u2 = 3 ∧ s.domOn dHUB = true ∧ 1 ≤ h ∧ h ≤ 96)
    ∧ (∃ (h : Nat) (s : State), s.u2 = 3 ∧ s.domOn dHUB = true ∧ 1 ≤ h ∧ h ≤ 96 ∧ (s.port (h - 1)).hpEnable = true)
    ∧ (∃ (h : Nat) (s : State), s.u2 = 3 ∧ s.domOn dHUB = true ∧ 1 ≤ h ∧ h ≤ 96 ∧ (s.port (h - 1)).hpSusp = true ∧ (s.port (h - 1)).hpResume = none)
    ∧ (∃ (h : Nat) (m : Nat) (s : State), s.u2 = 3 ∧ s.domOn dHUB = true ∧ 1 ≤ h ∧ h ≤ 96 ∧ 1 ≤ m ∧ m ≤ 5)
    ∧ (∃ (h : Nat) (m : Nat) (s : State), s.u2 = 3 ∧ s.domOn dHUB = true ∧ 1 ≤ h ∧ h ≤ 96 ∧ (m = 0 ∨ 5 < m))
    ∧ (∃ (h : Nat) (s : State), s.u2 = 3 ∧ s.domOn dHUB = true ∧ 1 ≤ h ∧ h ≤ 96)
    ∧ (∃ (h : Nat) (d : Nat) (e : Nat) (s : State), s.u2 = 3 ∧ s.domOn dHUB = true ∧ 1 ≤ h ∧ h ≤ 96 ∧ s.flag .HUBS_STAT_ALT_MTT = true)
    ∧ (∃ (h : Nat) (d : Nat) (e : Nat) (s : State), s.u2 = 3 ∧ s.domOn dHUB = true ∧ 1 ≤ h ∧ h ≤ 96 ∧ s.flag .HUBS_STAT_ALT_MTT = false)
    ∧ (∃ (h : Nat) (s : State), s.u2 = 3 ∧ s.domOn dHUB = true ∧ 1 ≤ h ∧ h ≤ 96 ∧ s.flag .HUBS_STAT_ALT_MTT = true)
    ∧ (∃ (h : Nat) (s : State), s.u2 = 3 ∧ s.domOn dHUB = true ∧ 1 ≤ h ∧ h ≤ 96 ∧ s.flag .HUBS_STAT_ALT_MTT = false)
    ∧ (∃ (h : Nat) (s : State), s.u2 = 3 ∧ s.domOn dHUB = true ∧ 1 ≤ h ∧ h ≤ 96 ∧ s.flag .HUBS_STAT_ALT_MTT = true)
    ∧ (∃ (h : Nat) (s : State), s.u2 = 3 ∧ s.domOn dHUB = true ∧ 1 ≤ h ∧ h ≤ 96 ∧ s.flag .HUBS_STAT_ALT_MTT = false)
    ∧ (∃ (s : State), s.u2 = 3 ∧ s.domOn dHUB = true)
    ∧ (∃ (h : Nat) (s : State), s.u2 = 3 ∧ s.domOn dHUB = true ∧ 1 ≤ h ∧ h ≤ 96)
    ∧ (∃ (h : Nat) (s : State), s.u2 = 3 ∧ s.domOn dHUB = true ∧ 1 ≤ h ∧ h ≤ 96)
    ∧ (∃ (s : State), s.u2 = 3 ∧ s.domOn dHUB = true) :=
  ⟨⟨1, mk [(.HUBS_STAT_U2_STATE, 0, 3), (.DOM_STAT_STATE, 3, 0)] pw, by decide +kernel⟩,
   ⟨1, ((mk [(.HUBS_STAT_U2_STATE, 0, 3), (.DOM_STAT_STATE, 3, 0)] pw) : State).set .SKN_STAT_HELD 0 1, by decide +kernel⟩,
   ⟨1, mk [(.HUBS_STAT_U2_STATE, 0, 3), (.DOM_STAT_STATE, 3, 0)] pw, by decide +kernel⟩,
   ⟨96, mk [(.HUBS_STAT_U2_STATE, 0, 3), (.DOM_STAT_STATE, 3, 0)] pw, by decide +kernel⟩,
   ⟨mk [(.HUBS_STAT_U2_STATE, 0, 3), (.DOM_STAT_STATE, 3, 0), (.HUBS_STAT_P97_CONN, 0, 1)], by decide +kernel⟩,
   ⟨1, 3, 0, { State.reset with dt := 10000000, ports := List.replicate 96 { hpReset := some 0 } }, by decide +kernel⟩,
   ⟨1, mk [(.HUBS_STAT_U2_STATE, 0, 3), (.DOM_STAT_STATE, 3, 0)] pw, by decide +kernel⟩,
   ⟨1, { mk [(.HUBS_STAT_U2_STATE, 0, 3), (.DOM_STAT_STATE, 3, 0)] pw with ports := List.replicate 96 { hpEnable := true } }, by decide +kernel⟩,
   ⟨1, { mk [(.HUBS_STAT_U2_STATE, 0, 3), (.DOM_STAT_STATE, 3, 0)] pw with ports := List.replicate 96 { hpSusp := true } }, by decide +kernel⟩,
   ⟨1, 5, mk [(.HUBS_STAT_U2_STATE, 0, 3), (.DOM_STAT_STATE, 3, 0)] pw, by decide +kernel⟩,
   ⟨1, 6, mk [(.HUBS_STAT_U2_STATE, 0, 3), (.DOM_STAT_STATE, 3, 0)] pw, by decide +kernel⟩,
   ⟨1, mk [(.HUBS_STAT_U2_STATE, 0, 3), (.DOM_STAT_STATE, 3, 0)] pw, by decide +kernel⟩,
   ⟨1, 1, 1, mk [(.HUBS_STAT_U2_STATE, 0, 3), (.DOM_STAT_STATE, 3, 0), (.HUBS_STAT_ALT_MTT, 0, 1)], by decide +kernel⟩,
   ⟨1, 1, 1, mk [(.HUBS_STAT_U2_STATE, 0, 3), (.DOM_STAT_STATE, 3, 0)] pw, by decide +kernel⟩,
   ⟨1, mk [(.HUBS_STAT_U2_STATE, 0, 3), (.DOM_STAT_STATE, 3, 0), (.HUBS_STAT_ALT_MTT, 0, 1)], by decide +kernel⟩,
   ⟨1, mk [(.HUBS_STAT_U2_STATE, 0, 3), (.DOM_STAT_STATE, 3, 0)] pw, by decide +kernel⟩,
   ⟨1, mk [(.HUBS_STAT_U2_STATE, 0, 3), (.DOM_STAT_STATE, 3, 0), (.HUBS_STAT_ALT_MTT, 0, 1)], by decide +kernel⟩,
   ⟨1, mk [(.HUBS_STAT_U2_STATE, 0, 3), (.DOM_STAT_STATE, 3, 0)] pw, by decide +kernel⟩,
   ⟨mk [(.HUBS_STAT_U2_STATE, 0, 3), (.DOM_STAT_STATE, 3, 0)] pw, by decide +kernel⟩,
   ⟨1, mk [(.HUBS_STAT_U2_STATE, 0, 3), (.DOM_STAT_STATE, 3, 0)] pw, by decide +kernel⟩,
   ⟨1, mk [(.HUBS_STAT_U2_STATE, 0, 3), (.DOM_STAT_STATE, 3, 0)] pw, by decide +kernel⟩,
   ⟨mk [(.HUBS_STAT_U2_STATE, 0, 3), (.DOM_STAT_STATE, 3, 0)] pw, by decide +kernel⟩⟩

theorem witness_HubStateEvents :
    (∃ (a : Nat) (s : State), s.u2 = 3 ∧ s.domOn dHUB = true ∧ a ≤ 1 ∧ s.get .HUBS_STAT_ALT_MTT ≠ a)
    ∧ (∃ (s : State), s.u2 ≠ 0)
    ∧ (∃ (n : Nat) (s : State), 3000000 ≤ n ∧ 1 ≤ s.u2 ∧ s.u2 ≤ 3)
    ∧ (∃ (s : State), (s.u2 = 4 ∨ s.u2 = 5))
    ∧ (∃ (s : State), s.u2 = 4 ∧ s.hub.resume = true ∧ s.domOn dHUB = true)
    ∧ (∃ (s : State), s.u2 = 5 ∧ s.hub.resume = true ∧ s.domOn dHUB = true)
    ∧ (∃ (h : Nat) (s : State), 1 ≤ h ∧ h ≤ 96 ∧ (s.port (h - 1)).hpEnable = true ∧ s.u2 = 4 ∧ s.hub.resume = false ∧ s.hub.driving = false ∧ s.flag .HUBS_STAT_RWAKE_EN = true ∧ s.hub.wakeOf = none ∧ s.domOn dHUB = true ∧ s.hub.suspFrom + 5000000 ≤ s.dt)
    ∧ (∃ (h : Nat) (s : State), 1 ≤ h ∧ h ≤ 96 ∧ (s.port (h - 1)).hpEnable = true ∧ s.u2 = 4 ∧ s.hub.resume = false ∧ s.hub.driving = false ∧ s.flag .HUBS_STAT_RWAKE_EN = true ∧ s.hub.wakeOf = none ∧ s.dt < s.hub.suspFrom + 5000000)
    ∧ (∃ (h : Nat) (s : State), 1 ≤ h ∧ h ≤ 96 ∧ (s.port (h - 1)).hpEnable = true ∧ (s.u2 = 4 ∨ s.u2 = 5) ∧ s.hub.resume = true)
    ∧ (∃ (h : Nat) (t : Nat) (s : State), 1 ≤ h ∧ h ≤ 96 ∧ (s.port (h - 1)).hpResume = some t ∧ t + 20000000 ≤ s.dt)
    ∧ (∃ (h : Nat) (b : Bool) (s : State), 1 ≤ h ∧ h ≤ 96 ∧ s.mode (h - 1) = 2 ∧ (s.port (h - 1)).gate = true ∧ s.domOn (dPHY (groupOfPort (h - 1))) = true)
    ∧ (∃ (s : State), 2 ≤ s.get .LOOMS_STAT_RATE ∧ s.get .LOOMS_STAT_LSTATE = 0)
    ∧ (∃ (s : State), 2 ≤ s.get .LOOMS_STAT_RATE ∧ s.get .LOOMS_STAT_LSTATE ≤ 1)
    ∧ (∃ (s : State), 2 ≤ s.get .LOOMS_STAT_RATE ∧ (s.get .LOOMS_STAT_LSTATE = 1 ∨ s.get .LOOMS_STAT_LSTATE = 2))
    ∧ (∃ (s : State), s.u2 = 3 ∧ s.get .LOOMS_STAT_RATE = 1)
    ∧ (∃ (s : State), s.u2 = 5 ∧ s.get .LOOMS_STAT_RATE = 1)
    ∧ (∃ (h : Nat) (s : State), s.u2 = 3 ∧ s.domOn dHUB = true ∧ 1 ≤ h ∧ h ≤ 96 ∧ (s.port (h - 1)).hpEnable = true ∧ (s.port (h - 1)).hpSusp = false)
    ∧ (∃ (s : State), s.u2 = 3 ∧ s.domOn dHUB = true ∧ s.get .LOOMS_STAT_RATE = 1 ∧ s.get .LOOMS_STAT_LSTATE = 0)
    ∧ (∃ (h : Nat) (s : State), 1 ≤ h ∧ h ≤ 96 ∧ (s.port (h - 1)).hpL1 = true)
    ∧ (∃ (a : Nat) (s : State), s.domOn dHUB = true ∧ (s.u2 = 1 ∨ s.u2 = 2))
    ∧ (∃ (s : State), s.domOn dHUB = true ∧ s.u2 = 2)
    ∧ (∃ (s : State), s.domOn dHUB = true ∧ s.u2 = 3)
    ∧ (∃ (b : Bool) (s : State), s.domOn dHUB = true ∧ 2 ≤ s.u2 ∧ s.u2 ≤ 3)
    ∧ (∃ (f : UsbFn) (y : Nat) (i : Nat) (n : Nat) (d : List Nat) (s : State), s.answers f = true ∧ s.descriptor f y i = some d)
    ∧ (∃ (h : Nat) (d : Nat) (e : Nat) (bs : List Nat) (s : State), s.u2 = 3 ∧ s.domOn dHUB = true ∧ 1 ≤ h ∧ h ≤ 96 ∧ s.splits (h - 1) = true ∧ (s.port (s.ttOwner (h - 1))).tt.stopped = false ∧ (s.port (s.ttOwner (h - 1))).tt.bufs.length < 4 ∧ bs.length ≤ 64)
    ∧ (∃ (h : Nat) (d : Nat) (e : Nat) (b : Split) (s : State), s.u2 = 3 ∧ s.domOn dHUB = true ∧ 1 ≤ h ∧ h ≤ 96 ∧ s.splits (h - 1) = true ∧ (s.port (s.ttOwner (h - 1))).tt.stopped = false ∧ (s.port (s.ttOwner (h - 1))).tt.bufs.find? (fun b => b.dev == d && b.ep == e) = some b) :=
  ⟨⟨1, mk [(.HUBS_STAT_U2_STATE, 0, 3), (.DOM_STAT_STATE, 3, 0)] pw, by decide +kernel⟩,
   ⟨mk [(.HUBS_STAT_U2_STATE, 0, 3), (.DOM_STAT_STATE, 3, 0)] pw, by decide +kernel⟩,
   ⟨3000000, mk [(.HUBS_STAT_U2_STATE, 0, 3), (.DOM_STAT_STATE, 3, 0)] pw, by decide +kernel⟩,
   ⟨mk [(.HUBS_STAT_U2_STATE, 0, 4)], by decide +kernel⟩,
   ⟨{ mk [(.HUBS_STAT_U2_STATE, 0, 4), (.DOM_STAT_STATE, 3, 0)] with hub := { resume := true } }, by decide +kernel⟩,
   ⟨{ mk [(.HUBS_STAT_U2_STATE, 0, 5), (.DOM_STAT_STATE, 3, 0)] with hub := { resume := true } }, by decide +kernel⟩,
   ⟨1, { mk [(.HUBS_STAT_U2_STATE, 0, 4), (.HUBS_STAT_RWAKE_EN, 0, 1), (.DOM_STAT_STATE, 3, 0)] with dt := 5000000, ports := List.replicate 96 { hpEnable := true } }, by decide +kernel⟩,
   ⟨1, { mk [(.HUBS_STAT_U2_STATE, 0, 4), (.HUBS_STAT_RWAKE_EN, 0, 1)] with ports := List.replicate 96 { hpEnable := true } }, by decide +kernel⟩,
   ⟨1, { mk [(.HUBS_STAT_U2_STATE, 0, 4)] with hub := { resume := true }, ports := List.replicate 96 { hpEnable := true } }, by decide +kernel⟩,
   ⟨1, 0, { State.reset with dt := 20000000, ports := List.replicate 96 { hpResume := some 0 } }, by decide +kernel⟩,
   ⟨1, true, { mk [(.PORT_MODE_MODE_EFF, 0, 2), (.DOM_STAT_STATE, 4, 0)] with ports := List.replicate 96 { gate := true } }, by decide +kernel⟩,
   ⟨mk [(.LOOMS_STAT_RATE, 0, 2)], by decide +kernel⟩,
   ⟨mk [(.LOOMS_STAT_RATE, 0, 2)], by decide +kernel⟩,
   ⟨mk [(.LOOMS_STAT_RATE, 0, 2), (.LOOMS_STAT_LSTATE, 0, 1)], by decide +kernel⟩,
   ⟨mk [(.LOOMS_STAT_RATE, 0, 1), (.HUBS_STAT_U2_STATE, 0, 3)], by decide +kernel⟩,
   ⟨mk [(.LOOMS_STAT_RATE, 0, 1), (.HUBS_STAT_U2_STATE, 0, 5)], by decide +kernel⟩,
   ⟨1, { mk [(.HUBS_STAT_U2_STATE, 0, 3), (.DOM_STAT_STATE, 3, 0)] pw with ports := List.replicate 96 { hpEnable := true } }, by decide +kernel⟩,
   ⟨mk [(.LOOMS_STAT_RATE, 0, 1), (.HUBS_STAT_U2_STATE, 0, 3), (.DOM_STAT_STATE, 3, 0)], by decide +kernel⟩,
   ⟨1, { State.reset with ports := List.replicate 96 { hpL1 := true } }, by decide +kernel⟩,
   ⟨5, mk [(.HUBS_STAT_U2_STATE, 0, 1), (.DOM_STAT_STATE, 3, 0)], by decide +kernel⟩,
   ⟨mk [(.HUBS_STAT_U2_STATE, 0, 2), (.DOM_STAT_STATE, 3, 0)], by decide +kernel⟩,
   ⟨mk [(.HUBS_STAT_U2_STATE, 0, 3), (.DOM_STAT_STATE, 3, 0)], by decide +kernel⟩,
   ⟨true, mk [(.HUBS_STAT_U2_STATE, 0, 2), (.DOM_STAT_STATE, 3, 0)], by decide +kernel⟩,
   ⟨.hub2, 1, 0, 18, deviceDesc 0x0210 9 2 64 0 0x9662, mk [(.HUBS_STAT_U2_STATE, 0, 1), (.DOM_STAT_STATE, 3, 0)], by decide +kernel⟩,
   ⟨1, 5, 1, [7], { mk [(.HUBS_STAT_U2_STATE, 0, 3), (.DOM_STAT_STATE, 3, 0)] pw with ports := List.replicate 96 { hpEnable := true, hpSpeed := 2 } }, by decide +kernel⟩,
   ⟨1, 5, 1, ⟨5, 1, [7]⟩, { mk [(.HUBS_STAT_U2_STATE, 0, 3), (.DOM_STAT_STATE, 3, 0)] pw with ports := List.replicate 96 { hpEnable := true, hpSpeed := 2, tt := { bufs := [⟨5, 1, [7]⟩] } } }, by decide +kernel⟩⟩

theorem witness_ReadyCommand :
    (∃ (s : State), s.starting = true ∧ s.flag .FLT_TOKEN_VALID = true ∧ s.boot.selfTest = true ∧ s.boot.dfu = .off ∧ s.safeHold = false ∧ s.boot.warm = true)
    ∧ (∃ (s : State), s.starting = true ∧ s.flag .FLT_TOKEN_VALID = true ∧ s.boot.selfTest = true ∧ s.boot.dfu = .off ∧ s.safeHold = false ∧ s.boot.warm = false) :=
  ⟨⟨{ mk [(.FLT_TOKEN_VALID, 0, 1)] with boot := { selfTest := true, warm := true } }, by decide +kernel⟩,
   ⟨{ mk [(.FLT_TOKEN_VALID, 0, 1)] with boot := { selfTest := true } }, by decide +kernel⟩⟩

theorem witness_DeviceGroupOpcodes :
    (∃ (p : Packet) (s : State) (t : State), Safety.startsAs 0x00 [] p s t)
    ∧ (∃ (p : Packet) (s : State) (t : State), Safety.startsAs 0x01 [] p s t)
    ∧ (∃ (p : Packet) (s : State) (t : State), Safety.startsAs 0x02 [] p s t ∧ t.flag .AON_CONN_HOLDOFF = false)
    ∧ (∃ (p : Packet) (s : State) (t : State), Safety.startsAs 0x02 [] p s t ∧ t.flag .AON_CONN_HOLDOFF = true)
    ∧ (∃ (p : Packet) (s : State) (t : State), Safety.startsAs 0x03 [] p s t)
    ∧ (∃ (p : Packet) (s : State) (t : State), Safety.startsAs 0x04 [] p s t)
    ∧ (∃ (p : Packet) (s : State) (t : State), Safety.startsAs 0x05 [] p s t ∧ p.u8 1 = 0)
    ∧ (∃ (p : Packet) (s : State) (t : State), Safety.startsAs 0x05 [] p s t ∧ p.u8 1 = 1)
    ∧ (∃ (p : Packet) (s : State) (t : State), Safety.startsAs 0x06 [] p s t)
    ∧ (∃ (p : Packet) (s : State) (t : State), Safety.startsAs 0x07 [] p s t ∧ t.noFlash = false ∧ p.u32 0 = 0 ∧ p.u8 4 = 0 ∧ (p.params.drop 8).length ≤ 65536)
    ∧ (∃ (p : Packet) (s : State) (t : State), Safety.startsAs 0x07 [] p s t ∧ t.noFlash = false ∧ p.u32 0 ≠ 0 ∧ p.u32 0 = t.ecx.staging.length ∧ p.u8 4 = 0 ∧ t.ecx.staging.length + (p.params.drop 8).length ≤ 65536)
    ∧ (∃ (p : Packet) (s : State) (t : State), Safety.startsAs 0x07 [] p s t ∧ t.noFlash = false ∧ p.u32 0 = 0 ∧ p.u8 4 = 1 ∧ (p.params.drop 8).length ≤ 65536)
    ∧ (∃ (p : Packet) (s : State) (t : State), Safety.startsAs 0x07 [] p s t ∧ t.noFlash = false ∧ p.u32 0 ≠ 0 ∧ p.u32 0 = t.ecx.staging.length ∧ p.u8 4 = 1 ∧ t.ecx.staging.length + (p.params.drop 8).length ≤ 65536)
    ∧ (∃ (p : Packet) (s : State) (t : State), Safety.startsAs 0x08 [] p s t ∧ t.noFlash = false)
    ∧ (∃ (p : Packet) (s : State) (t : State), Safety.startsAs 0x09 [] p s t ∧ t.noFlash = false) :=
  ⟨⟨pk [], mk [(.MBOX_STAT_READY, 0, 1)], Safety.started 0x00 ([]) (pk []) (mk [(.MBOX_STAT_READY, 0, 1)]), ⟨by decide +kernel, by decide +kernel⟩⟩,
   ⟨pk [], mk [(.MBOX_STAT_READY, 0, 1)], Safety.started 0x01 ([]) (pk []) (mk [(.MBOX_STAT_READY, 0, 1)]), ⟨by decide +kernel, by decide +kernel⟩⟩,
   ⟨pk [], mk [(.MBOX_STAT_READY, 0, 1)], Safety.started 0x02 ([]) (pk []) (mk [(.MBOX_STAT_READY, 0, 1)]), ⟨by decide +kernel, by decide +kernel⟩, by decide +kernel⟩,
   ⟨pk [], mk [(.MBOX_STAT_READY, 0, 1), (.AON_CONN_HOLDOFF, 0, 1)], Safety.started 0x02 ([]) (pk []) (mk [(.MBOX_STAT_READY, 0, 1), (.AON_CONN_HOLDOFF, 0, 1)]), ⟨by decide +kernel, by decide +kernel⟩, by decide +kernel⟩,
   ⟨pk [], mk [(.MBOX_STAT_READY, 0, 1)], Safety.started 0x03 ([]) (pk []) (mk [(.MBOX_STAT_READY, 0, 1)]), ⟨by decide +kernel, by decide +kernel⟩⟩,
   ⟨pk [0x57, 0x41, 0x52, 0x4D], mk [(.MBOX_STAT_READY, 0, 1)], Safety.started 0x04 ([]) (pk [0x57, 0x41, 0x52, 0x4D]) (mk [(.MBOX_STAT_READY, 0, 1)]), ⟨by decide +kernel, by decide +kernel⟩⟩,
   ⟨pk [0, 0, 0, 0], mk [(.MBOX_STAT_READY, 0, 1)], Safety.started 0x05 ([]) (pk [0, 0, 0, 0]) (mk [(.MBOX_STAT_READY, 0, 1)]), ⟨by decide +kernel, by decide +kernel⟩, by decide +kernel⟩,
   ⟨pk [1, 1, 1, 0], mk [(.MBOX_STAT_READY, 0, 1)], Safety.started 0x05 ([]) (pk [1, 1, 1, 0]) (mk [(.MBOX_STAT_READY, 0, 1)]), ⟨by decide +kernel, by decide +kernel⟩, by decide +kernel⟩,
   ⟨pk [2, 0], mk [(.MBOX_STAT_READY, 0, 1)], Safety.started 0x06 ([]) (pk [2, 0]) (mk [(.MBOX_STAT_READY, 0, 1)]), ⟨by decide +kernel, by decide +kernel⟩⟩,
   ⟨pk [0, 0, 0, 0, 0, 0, 0, 0, 7], mk [(.MBOX_STAT_READY, 0, 1)], Safety.started 0x07 ([]) (pk [0, 0, 0, 0, 0, 0, 0, 0, 7]) (mk [(.MBOX_STAT_READY, 0, 1)]), ⟨by decide +kernel, by decide +kernel⟩, by decide +kernel⟩,
   ⟨pk [1, 0, 0, 0, 0, 0, 0, 0, 7], { mk [(.MBOX_STAT_READY, 0, 1)] with ecx := { staging := [6] } }, Safety.started 0x07 ([]) (pk [1, 0, 0, 0, 0, 0, 0, 0, 7]) ({ mk [(.MBOX_STAT_READY, 0, 1)] with ecx := { staging := [6] } }), ⟨by decide +kernel, by decide +kernel⟩, by decide +kernel⟩,
   ⟨pk [0, 0, 0, 0, 1, 0, 0, 0, 7], mk [(.MBOX_STAT_READY, 0, 1)], Safety.started 0x07 ([]) (pk [0, 0, 0, 0, 1, 0, 0, 0, 7]) (mk [(.MBOX_STAT_READY, 0, 1)]), ⟨by decide +kernel, by decide +kernel⟩, by decide +kernel⟩,
   ⟨pk [1, 0, 0, 0, 1, 0, 0, 0, 7], { mk [(.MBOX_STAT_READY, 0, 1)] with ecx := { staging := [6] } }, Safety.started 0x07 ([]) (pk [1, 0, 0, 0, 1, 0, 0, 0, 7]) ({ mk [(.MBOX_STAT_READY, 0, 1)] with ecx := { staging := [6] } }), ⟨by decide +kernel, by decide +kernel⟩, by decide +kernel⟩,
   ⟨pk [0, 0, 1, 0, 0, 0, 0, 0], mk [(.MBOX_STAT_READY, 0, 1)], Safety.started 0x08 ([]) (pk [0, 0, 1, 0, 0, 0, 0, 0]) (mk [(.MBOX_STAT_READY, 0, 1)]), ⟨by decide +kernel, by decide +kernel⟩, by decide +kernel⟩,
   ⟨pk [0x45, 0x52, 0x41, 0x53], mk [(.MBOX_STAT_READY, 0, 1)], Safety.started 0x09 ([]) (pk [0x45, 0x52, 0x41, 0x53]) (mk [(.MBOX_STAT_READY, 0, 1)]), ⟨by decide +kernel, by decide +kernel⟩, by decide +kernel⟩⟩

theorem witness_PortGroupOpcodes :
    (∃ (p : Packet) (s : State) (t : State), Safety.startsAs 0x10 [] p s t ∧ p.u8 1 ≤ 2 ∧ t.lifecycle ≠ lcRETIRED ∧ t.linkDead (skeinOfPort (p.u8 0)) = false ∧ t.skHeld (skeinOfPort (p.u8 0)) = false)
    ∧ (∃ (p : Packet) (s : State) (t : State) (i : Nat), Safety.startsAs 0x10 ((modeNeeds p s)) p s t ∧ p.u8 1 = 3 ∧ s.skHeld (skeinOfPort (p.u8 0)) = false ∧ s.serving (p.u8 0) = some i ∧ t.lifecycle ≠ lcRETIRED ∧ t.linkDead (skeinOfPort (p.u8 0)) = false ∧ t.serving (p.u8 0) = some i ∧ t.skHeld (skeinOfPort (p.u8 0)) = false)
    ∧ (∃ (p : Packet) (s : State) (t : State), Safety.startsAs 0x11 [] p s t ∧ t.isAttached (p.u8 0) = true)
    ∧ (∃ (p : Packet) (s : State) (t : State), Safety.startsAs 0x12 [] p s t)
    ∧ (∃ (p : Packet) (s : State) (t : State), Safety.startsAs 0x13 [] p s t ∧ t.skHeld (skeinOfPort (p.u8 0)) = false ∧ t.mode (p.u8 0) ≠ 0 ∧ t.flag .PWR_STAT_DEFERRED (p.u8 0) = false ∧ t.pwr (p.u8 0) < 5)
    ∧ (∃ (p : Packet) (s : State) (t : State), Safety.startsAs 0x13 [] p s t ∧ t.skHeld (skeinOfPort (p.u8 0)) = false ∧ t.mode (p.u8 0) ≠ 0 ∧ t.flag .PWR_STAT_DEFERRED (p.u8 0) = false ∧ (t.pwr (p.u8 0) = 5 ∨ t.pwr (p.u8 0) = 6))
    ∧ (∃ (p : Packet) (s : State) (t : State), Safety.startsAs 0x14 [] p s t)
    ∧ (∃ (p : Packet) (s : State) (t : State), Safety.startsAs 0x15 [] p s t ∧ t.skHeld (skeinOfPort (p.u8 0)) = false ∧ t.pwr (p.u8 0) = 7)
    ∧ (∃ (p : Packet) (s : State) (t : State), Safety.startsAs 0x16 [] p s t ∧ t.skHeld (skeinOfPort (p.u8 0)) = false ∧ (bit (p.u16 2) 0 = false ∨ t.mode (p.u8 0) = 0))
    ∧ (∃ (p : Packet) (s : State) (t : State), Safety.startsAs 0x17 [] p s t)
    ∧ (∃ (p : Packet) (s : State) (t : State) (i : Nat), Safety.startsAs 0x18 [dSH i, dDRAM] p s t ∧ s.mode (p.u8 0) = 3 ∧ s.serving (p.u8 0) = some i ∧ t.mode (p.u8 0) = 3 ∧ t.serving (p.u8 0) = some i ∧ t.att (p.u8 0) = 8) :=
  ⟨⟨pk [0, 1, 0, 0], mk [(.MBOX_STAT_READY, 0, 1)] pw, Safety.started 0x10 ([]) (pk [0, 1, 0, 0]) (mk [(.MBOX_STAT_READY, 0, 1)] pw), ⟨by decide +kernel, by decide +kernel⟩, by decide +kernel⟩,
   ⟨pk [0, 3, 0, 0], mk [(.MBOX_STAT_READY, 0, 1), (.SHT_STAT_STATE, 0, 1), (.SHT_STAT_PHYG, 0, 0), (.DOM_STAT_STATE, 29, 0), (.DOM_STAT_STATE, 16, 0), (.DOM_STAT_STATE, 4, 0)] pw, Safety.started 0x10 ((modeNeeds (pk [0, 3, 0, 0]) (mk [(.MBOX_STAT_READY, 0, 1), (.SHT_STAT_STATE, 0, 1), (.SHT_STAT_PHYG, 0, 0), (.DOM_STAT_STATE, 29, 0), (.DOM_STAT_STATE, 16, 0), (.DOM_STAT_STATE, 4, 0)] pw))) (pk [0, 3, 0, 0]) (mk [(.MBOX_STAT_READY, 0, 1), (.SHT_STAT_STATE, 0, 1), (.SHT_STAT_PHYG, 0, 0), (.DOM_STAT_STATE, 29, 0), (.DOM_STAT_STATE, 16, 0), (.DOM_STAT_STATE, 4, 0)] pw), 0, ⟨by decide +kernel, by decide +kernel⟩, by decide +kernel⟩,
   ⟨pk [0], mk [(.MBOX_STAT_READY, 0, 1), (.PORT_LIFE_ATT_STATE, 0, 10)] pw, Safety.started 0x11 ([]) (pk [0]) (mk [(.MBOX_STAT_READY, 0, 1), (.PORT_LIFE_ATT_STATE, 0, 10)] pw), ⟨by decide +kernel, by decide +kernel⟩, by decide +kernel⟩,
   ⟨pk [0], mk [(.MBOX_STAT_READY, 0, 1)] pw, Safety.started 0x12 ([]) (pk [0]) (mk [(.MBOX_STAT_READY, 0, 1)] pw), ⟨by decide +kernel, by decide +kernel⟩⟩,
   ⟨pk [0], mk [(.MBOX_STAT_READY, 0, 1), (.PORT_MODE_MODE_EFF, 0, 1)] pw, Safety.started 0x13 ([]) (pk [0]) (mk [(.MBOX_STAT_READY, 0, 1), (.PORT_MODE_MODE_EFF, 0, 1)] pw), ⟨by decide +kernel, by decide +kernel⟩, by decide +kernel⟩,
   ⟨pk [0], mk [(.MBOX_STAT_READY, 0, 1), (.PORT_MODE_MODE_EFF, 0, 1), (.PWR_STAT_STATE, 0, 5)] pw, Safety.started 0x13 ([]) (pk [0]) (mk [(.MBOX_STAT_READY, 0, 1), (.PORT_MODE_MODE_EFF, 0, 1), (.PWR_STAT_STATE, 0, 5)] pw), ⟨by decide +kernel, by decide +kernel⟩, by decide +kernel⟩,
   ⟨pk [0], mk [(.MBOX_STAT_READY, 0, 1)] pw, Safety.started 0x14 ([]) (pk [0]) (mk [(.MBOX_STAT_READY, 0, 1)] pw), ⟨by decide +kernel, by decide +kernel⟩⟩,
   ⟨pk [0], mk [(.MBOX_STAT_READY, 0, 1), (.PWR_STAT_STATE, 0, 7)] pw, Safety.started 0x15 ([]) (pk [0]) (mk [(.MBOX_STAT_READY, 0, 1), (.PWR_STAT_STATE, 0, 7)] pw), ⟨by decide +kernel, by decide +kernel⟩, by decide +kernel⟩,
   ⟨pk [0, 0, 0, 0, 0, 0, 0, 0, 0, 0, 0, 0], mk [(.MBOX_STAT_READY, 0, 1)] pw, Safety.started 0x16 ([]) (pk [0, 0, 0, 0, 0, 0, 0, 0, 0, 0, 0, 0]) (mk [(.MBOX_STAT_READY, 0, 1)] pw), ⟨by decide +kernel, by decide +kernel⟩, by decide +kernel⟩,
   ⟨pk [0], mk [(.MBOX_STAT_READY, 0, 1)] pw, Safety.started 0x17 ([]) (pk [0]) (mk [(.MBOX_STAT_READY, 0, 1)] pw), ⟨by decide +kernel, by decide +kernel⟩⟩,
   ⟨pk [0], mk [(.MBOX_STAT_READY, 0, 1), (.PORT_MODE_MODE_EFF, 0, 3), (.SHT_STAT_STATE, 0, 1), (.SHT_STAT_PHYG, 0, 0), (.DOM_STAT_STATE, 29, 0), (.DOM_STAT_STATE, 16, 0), (.PORT_LIFE_ATT_STATE, 0, 8)] pw, Safety.started 0x18 ([dSH (0), dDRAM]) (pk [0]) (mk [(.MBOX_STAT_READY, 0, 1), (.PORT_MODE_MODE_EFF, 0, 3), (.SHT_STAT_STATE, 0, 1), (.SHT_STAT_PHYG, 0, 0), (.DOM_STAT_STATE, 29, 0), (.DOM_STAT_STATE, 16, 0), (.PORT_LIFE_ATT_STATE, 0, 8)] pw), 0, ⟨by decide +kernel, by decide +kernel⟩, by decide +kernel⟩⟩

theorem witness_PowerGroupOpcodes :
    (∃ (p : Packet) (s : State) (t : State), Safety.startsAs 0x20 [] p s t ∧ t.skHeld (skeinOfFeed (p.u8 0)) = false ∧ t.flag .FEED_STAT_DEFERRED (p.u8 0) = false ∧ t.fst (p.u8 0) = fOFF)
    ∧ (∃ (p : Packet) (s : State) (t : State), Safety.startsAs 0x21 [] p s t ∧ t.skHeld (skeinOfFeed (p.u8 0)) = false ∧ t.flag .FEED_STAT_DEFERRED (p.u8 0) = false ∧ feedConducts (t.fst (p.u8 0)) = true ∧ (t.onlyConducting (p.u8 0) = false ∨ p.u8 1 = 1))
    ∧ (∃ (p : Packet) (s : State) (t : State), Safety.startsAs 0x22 [] p s t ∧ t.skHeld (skeinOfFeed (p.u8 0)) = false ∧ (feedConfigWrites p).find? (fun w => w.1 == 0) = none ∧ (((feedConfigWrites p).filter (fun w => w.1 != 0)).foldl (fun s w => applyWord s .write .FEED (p.u8 0) w.1 w.2) t).ladderOk (p.u8 0) = true ∧ (((feedConfigWrites p).filter (fun w => w.1 != 0)).foldl (fun s w => applyWord s .write .FEED (p.u8 0) w.1 w.2) t).limitOk (p.u8 0) = true)
    ∧ (∃ (p : Packet) (s : State) (t : State), Safety.startsAs 0x23 [] p s t ∧ t.skHeld (p.u8 0) = false)
    ∧ (∃ (p : Packet) (s : State) (t : State), Safety.startsAs 0x24 [] p s t ∧ t.skHeld (p.u8 0) = false ∧ p.u16 2 ≤ 1000 * t.get .SKN_CFG_IRATED (p.u8 0))
    ∧ (∃ (p : Packet) (s : State) (t : State), Safety.startsAs 0x25 [] p s t) :=
  ⟨⟨pk [0], mk [(.MBOX_STAT_READY, 0, 1), (.FEED_STAT_STATE, 0, 2)] pw, Safety.started 0x20 ([]) (pk [0]) (mk [(.MBOX_STAT_READY, 0, 1), (.FEED_STAT_STATE, 0, 2)] pw), ⟨by decide +kernel, by decide +kernel⟩, by decide +kernel⟩,
   ⟨pk [0, 1], mk [(.MBOX_STAT_READY, 0, 1), (.FEED_STAT_STATE, 0, 5)] pw, Safety.started 0x21 ([]) (pk [0, 1]) (mk [(.MBOX_STAT_READY, 0, 1), (.FEED_STAT_STATE, 0, 5)] pw), ⟨by decide +kernel, by decide +kernel⟩, by decide +kernel⟩,
   ⟨pk [0, 0, 0, 0], mk [(.MBOX_STAT_READY, 0, 1)] pw, Safety.started 0x22 ([]) (pk [0, 0, 0, 0]) (mk [(.MBOX_STAT_READY, 0, 1)] pw), ⟨by decide +kernel, by decide +kernel⟩, by decide +kernel⟩,
   ⟨pk [0, 0, 0, 0, 0xF4, 0x01, 50, 20], mk [(.MBOX_STAT_READY, 0, 1)] pw, Safety.started 0x23 ([]) (pk [0, 0, 0, 0, 0xF4, 0x01, 50, 20]) (mk [(.MBOX_STAT_READY, 0, 1)] pw), ⟨by decide +kernel, by decide +kernel⟩, by decide +kernel⟩,
   ⟨pk [0, 0, 100, 0], mk [(.MBOX_STAT_READY, 0, 1)] pw, Safety.started 0x24 ([]) (pk [0, 0, 100, 0]) (mk [(.MBOX_STAT_READY, 0, 1)] pw), ⟨by decide +kernel, by decide +kernel⟩, by decide +kernel⟩,
   ⟨pk [0], mk [(.MBOX_STAT_READY, 0, 1)] pw, Safety.started 0x25 ([]) (pk [0]) (mk [(.MBOX_STAT_READY, 0, 1)] pw), ⟨by decide +kernel, by decide +kernel⟩⟩⟩

theorem witness_MeasurementGroupOpcodes :
    (∃ (p : Packet) (s : State) (t : State), Safety.startsAs 0x30 [] p s t ∧ t.measDt ≠ 0)
    ∧ (∃ (p : Packet) (s : State) (t : State), Safety.startsAs 0x30 [] p s t ∧ t.measDt = 0)
    ∧ (∃ (p : Packet) (s : State) (t : State), Safety.startsAs 0x31 [] p s t ∧ t.measDt ≠ 0)
    ∧ (∃ (p : Packet) (s : State) (t : State), Safety.startsAs 0x32 [] p s t ∧ t.flag .SNAP_STAT_BUSY = false)
    ∧ (∃ (p : Packet) (s : State) (t : State), Safety.startsAs 0x33 [] p s t ∧ p.u8 2 = 0)
    ∧ (∃ (p : Packet) (s : State) (t : State), Safety.startsAs 0x33 [] p s t ∧ p.u8 2 = 1)
    ∧ (∃ (p : Packet) (s : State) (t : State), Safety.startsAs 0x34 [] p s t ∧ p.u8 0 = 1)
    ∧ (∃ (p : Packet) (s : State) (t : State), Safety.startsAs 0x34 [] p s t ∧ p.u8 0 = 0)
    ∧ (∃ (s : State), s.flag .SNAP_STAT_BUSY = true ∧ s.snap.latched = false ∧ s.snap.latchAt ≤ s.clock)
    ∧ (∃ (s : State), s.flag .SNAP_STAT_BUSY = true ∧ s.snap.latched = true ∧ (s.ecx.snapBy = none ∨ s.flt.takeover ≠ none))
    ∧ (∃ (q : ReqId) (s : State), s.flag .SNAP_STAT_BUSY = true ∧ s.snap.latched = true ∧ s.ecx.snapBy = some q ∧ s.flt.takeover = none) :=
  ⟨⟨pk [0, 1], { mk [(.MBOX_STAT_READY, 0, 1)] pw with measDt := 1000000 }, Safety.started 0x30 ([]) (pk [0, 1]) ({ mk [(.MBOX_STAT_READY, 0, 1)] pw with measDt := 1000000 }), ⟨by decide +kernel, by decide +kernel⟩, by decide +kernel⟩,
   ⟨pk [0, 1], mk [(.MBOX_STAT_READY, 0, 1)] pw, Safety.started 0x30 ([]) (pk [0, 1]) (mk [(.MBOX_STAT_READY, 0, 1)] pw), ⟨by decide +kernel, by decide +kernel⟩, by decide +kernel⟩,
   ⟨pk [], { mk [(.MBOX_STAT_READY, 0, 1)] pw with measDt := 1000000 }, Safety.started 0x31 ([]) (pk []) ({ mk [(.MBOX_STAT_READY, 0, 1)] pw with measDt := 1000000 }), ⟨by decide +kernel, by decide +kernel⟩, by decide +kernel⟩,
   ⟨pk [], mk [(.MBOX_STAT_READY, 0, 1)] pw, Safety.started 0x32 ([]) (pk []) (mk [(.MBOX_STAT_READY, 0, 1)] pw), ⟨by decide +kernel, by decide +kernel⟩, by decide +kernel⟩,
   ⟨pk [0, 1, 0, 0], mk [(.MBOX_STAT_READY, 0, 1)] pw, Safety.started 0x33 ([]) (pk [0, 1, 0, 0]) (mk [(.MBOX_STAT_READY, 0, 1)] pw), ⟨by decide +kernel, by decide +kernel⟩, by decide +kernel⟩,
   ⟨pk [0, 1, 1, 0], mk [(.MBOX_STAT_READY, 0, 1)] pw, Safety.started 0x33 ([]) (pk [0, 1, 1, 0]) (mk [(.MBOX_STAT_READY, 0, 1)] pw), ⟨by decide +kernel, by decide +kernel⟩, by decide +kernel⟩,
   ⟨pk [1], mk [(.MBOX_STAT_READY, 0, 1)] pw, Safety.started 0x34 ([]) (pk [1]) (mk [(.MBOX_STAT_READY, 0, 1)] pw), ⟨by decide +kernel, by decide +kernel⟩, by decide +kernel⟩,
   ⟨pk [0], mk [(.MBOX_STAT_READY, 0, 1)] pw, Safety.started 0x34 ([]) (pk [0]) (mk [(.MBOX_STAT_READY, 0, 1)] pw), ⟨by decide +kernel, by decide +kernel⟩, by decide +kernel⟩,
   ⟨mk [(.SNAP_STAT_BUSY, 0, 1)], by decide +kernel⟩,
   ⟨{ mk [(.SNAP_STAT_BUSY, 0, 1)] with snap := { latched := true } }, by decide +kernel⟩,
   ⟨(pk []).id, { mk [(.SNAP_STAT_BUSY, 0, 1)] with snap := { latched := true }, ecx := { snapBy := some (pk []).id } }, by decide +kernel⟩⟩

theorem witness_DomainAndFaultOpcodes :
    (∃ (p : Packet) (s : State) (t : State), Safety.startsAs 0x40 [] p s t ∧ t.flag .DOM_STAT_TRANS (p.u8 0) = false ∧ t.domFenced (p.u8 0) = false ∧ p.u8 1 ≠ 0 ∧ t.get .DOM_STAT_STATE (p.u8 0) ≠ p.u8 1 ∧ t.domainAllowed (p.u8 0) (p.u8 1) = true)
    ∧ (∃ (p : Packet) (s : State) (t : State), Safety.startsAs 0x40 [] p s t ∧ t.flag .DOM_STAT_TRANS (p.u8 0) = false ∧ t.domFenced (p.u8 0) = false ∧ p.u8 1 = 0 ∧ t.requires (p.u8 0) = [] ∧ t.get .DOM_STAT_STATE (p.u8 0) ≠ 0 ∧ t.domainAllowed (p.u8 0) 0 = true)
    ∧ (∃ (p : Packet) (s : State) (t : State), Safety.startsAs 0x41 [] p s t)
    ∧ (∃ (p : Packet) (s : State) (t : State), Safety.startsAs 0x42 [] p s t ∧ (p.u8 1 = 0 ∨ bit (allowedMask (p.u8 0)) (p.u8 1) = true))
    ∧ (∃ (p : Packet) (s : State) (t : State), Safety.startsAs 0x43 [] p s t)
    ∧ (∃ (p : Packet) (s : State) (t : State), Safety.startsAs 0x44 [] p s t)
    ∧ (∃ (p : Packet) (s : State) (t : State), Safety.startsAs 0x50 [] p s t)
    ∧ (∃ (p : Packet) (s : State) (t : State), Safety.startsAs 0x51 [] p s t ∧ t.gecko (p.u8 0) = true ∧ (t.causesOf (p.u8 0)).any (fun g => g.cls == 4) = false ∧ needsTraining t (p.u8 0) = false ∧ (t.causesOf (p.u8 0)).any (fun g => g.src == 0x49 && g.kind != 0xF) = false ∧ (t.causesOf (p.u8 0)).all t.causeEnded = true)
    ∧ (∃ (p : Packet) (s : State) (t : State), Safety.startsAs 0x52 [dDRAM] p s t)
    ∧ (∃ (p : Packet) (s : State) (t : State), Safety.startsAs 0x53 [] p s t ∧ p.u8 1 ≠ 0xF)
    ∧ (∃ (p : Packet) (s : State) (t : State), Safety.startsAs 0x53 [] p s t ∧ p.u8 1 = 0xF ∧ t.flag .FLT_PAIR (p.u8 0) = false) :=
  ⟨⟨pk [30, 1], mk [(.MBOX_STAT_READY, 0, 1), (.DOM_STAT_STATE, 30, 0)], Safety.started 0x40 ([]) (pk [30, 1]) (mk [(.MBOX_STAT_READY, 0, 1), (.DOM_STAT_STATE, 30, 0)]), ⟨by decide +kernel, by decide +kernel⟩, by decide +kernel⟩,
   ⟨pk [30, 0], mk [(.MBOX_STAT_READY, 0, 1), (.DOM_STAT_STATE, 30, 1)], Safety.started 0x40 ([]) (pk [30, 0]) (mk [(.MBOX_STAT_READY, 0, 1), (.DOM_STAT_STATE, 30, 1)]), ⟨by decide +kernel, by decide +kernel⟩, by decide +kernel⟩,
   ⟨pk [], mk [(.MBOX_STAT_READY, 0, 1)], Safety.started 0x41 ([]) (pk []) (mk [(.MBOX_STAT_READY, 0, 1)]), ⟨by decide +kernel, by decide +kernel⟩⟩,
   ⟨pk [30, 1, 0, 0, 5, 0, 0, 0], mk [(.MBOX_STAT_READY, 0, 1)], Safety.started 0x42 ([]) (pk [30, 1, 0, 0, 5, 0, 0, 0]) (mk [(.MBOX_STAT_READY, 0, 1)]), ⟨by decide +kernel, by decide +kernel⟩, by decide +kernel⟩,
   ⟨pk [3, 0, 0, 0], mk [(.MBOX_STAT_READY, 0, 1)], Safety.started 0x43 ([]) (pk [3, 0, 0, 0]) (mk [(.MBOX_STAT_READY, 0, 1)]), ⟨by decide +kernel, by decide +kernel⟩⟩,
   ⟨pk [1, 0, 0, 0, 0, 0, 0, 0, 9, 0, 0, 0, 0, 0, 0, 0], mk [(.MBOX_STAT_READY, 0, 1)], Safety.started 0x44 ([]) (pk [1, 0, 0, 0, 0, 0, 0, 0, 9, 0, 0, 0, 0, 0, 0, 0]) (mk [(.MBOX_STAT_READY, 0, 1)]), ⟨by decide +kernel, by decide +kernel⟩⟩,
   ⟨pk [], mk [(.MBOX_STAT_READY, 0, 1)], Safety.started 0x50 ([]) (pk []) (mk [(.MBOX_STAT_READY, 0, 1)]), ⟨by decide +kernel, by decide +kernel⟩⟩,
   ⟨pk [0x10], mk [(.MBOX_STAT_READY, 0, 1), (.FLT_GECKO, 0x10, 1)], Safety.started 0x51 ([]) (pk [0x10]) (mk [(.MBOX_STAT_READY, 0, 1), (.FLT_GECKO, 0x10, 1)]), ⟨by decide +kernel, by decide +kernel⟩, by decide +kernel⟩,
   ⟨pk [0, 0, 0, 0, 1, 0, 0, 0], mk [(.MBOX_STAT_READY, 0, 1), (.DOM_STAT_STATE, 29, 0)], Safety.started 0x52 ([dDRAM]) (pk [0, 0, 0, 0, 1, 0, 0, 0]) (mk [(.MBOX_STAT_READY, 0, 1), (.DOM_STAT_STATE, 29, 0)]), ⟨by decide +kernel, by decide +kernel⟩⟩,
   ⟨pk [0x10, 1, 2, 0], mk [(.MBOX_STAT_READY, 0, 1)], Safety.started 0x53 ([]) (pk [0x10, 1, 2, 0]) (mk [(.MBOX_STAT_READY, 0, 1)]), ⟨by decide +kernel, by decide +kernel⟩, by decide +kernel⟩,
   ⟨pk [0x10, 15, 3, 0], mk [(.MBOX_STAT_READY, 0, 1)], Safety.started 0x53 ([]) (pk [0x10, 15, 3, 0]) (mk [(.MBOX_STAT_READY, 0, 1)]), ⟨by decide +kernel, by decide +kernel⟩, by decide +kernel⟩⟩

theorem witness_HierarchyGroupOpcodes :
    (∃ (p : Packet) (s : State) (t : State), Safety.startsAs 0x60 [] p s t ∧ (p.u8 0 = 0 ∨ t.flag .SYS_STRAP_MGR_ELIG = true))
    ∧ (∃ (p : Packet) (s : State) (t : State), Safety.startsAs 0x61 [] p s t)
    ∧ (∃ (p : Packet) (s : State) (t : State), Safety.startsAs 0x62 [] p s t ∧ t.hier.st = some 1 ∧ p.u32 2 ≠ 0 ∧ (poolMembersOf p).all (fun m => t.hier.poolOf.all (fun x => x.1 != m.1 || x.2.1 != m.2 || x.2.2 == p.u8 0)) = true)
    ∧ (∃ (p : Packet) (s : State) (t : State), Safety.startsAs 0x62 [] p s t ∧ t.hier.st = some 1 ∧ p.u32 2 = 0 ∧ (poolMembersOf p).all (fun m => t.hier.poolOf.all (fun x => x.1 != m.1 || x.2.1 != m.2 || x.2.2 == p.u8 0)) = true)
    ∧ (∃ (p : Packet) (s : State) (t : State), Safety.startsAs 0x63 [] p s t ∧ t.hier.st = some 1)
    ∧ (∃ (p : Packet) (s : State) (t : State), Safety.startsAs 0x64 [] p s t)
    ∧ (∃ (p : Packet) (s : State) (t : State), Safety.startsAs 0x65 [] p s t ∧ (t.hier.st = some 1 ∨ t.hier.st = some 2 ∨ (t.hier.st ≠ some 0 ∧ t.hierCans = [])) ∧ t.clock ≤ p.u64 0)
    ∧ (∃ (p : Packet) (s : State) (t : State), Safety.startsAs 0x66 [] p s t) :=
  ⟨⟨pk [0, 1], mk [(.MBOX_STAT_READY, 0, 1)], Safety.started 0x60 ([]) (pk [0, 1]) (mk [(.MBOX_STAT_READY, 0, 1)]), ⟨by decide +kernel, by decide +kernel⟩, by decide +kernel⟩,
   ⟨pk [], mk [(.MBOX_STAT_READY, 0, 1)], Safety.started 0x61 ([]) (pk []) (mk [(.MBOX_STAT_READY, 0, 1)]), ⟨by decide +kernel, by decide +kernel⟩⟩,
   ⟨pk [1, 0, 5, 0, 0, 0, 1, 0, 3, 2], { mk [(.MBOX_STAT_READY, 0, 1)] with hier := { st := some 1 } }, Safety.started 0x62 ([]) (pk [1, 0, 5, 0, 0, 0, 1, 0, 3, 2]) ({ mk [(.MBOX_STAT_READY, 0, 1)] with hier := { st := some 1 } }), ⟨by decide +kernel, by decide +kernel⟩, by decide +kernel⟩,
   ⟨pk [1, 0, 0, 0, 0, 0, 0, 0], { mk [(.MBOX_STAT_READY, 0, 1)] with hier := { st := some 1 } }, Safety.started 0x62 ([]) (pk [1, 0, 0, 0, 0, 0, 0, 0]) ({ mk [(.MBOX_STAT_READY, 0, 1)] with hier := { st := some 1 } }), ⟨by decide +kernel, by decide +kernel⟩, by decide +kernel⟩,
   ⟨pk [1], { mk [(.MBOX_STAT_READY, 0, 1)] with hier := { st := some 1 } }, Safety.started 0x63 ([]) (pk [1]) ({ mk [(.MBOX_STAT_READY, 0, 1)] with hier := { st := some 1 } }), ⟨by decide +kernel, by decide +kernel⟩, by decide +kernel⟩,
   ⟨pk [], mk [(.MBOX_STAT_READY, 0, 1)], Safety.started 0x64 ([]) (pk []) (mk [(.MBOX_STAT_READY, 0, 1)]), ⟨by decide +kernel, by decide +kernel⟩⟩,
   ⟨pk [0, 0, 0, 0, 9, 0, 0, 0], { mk [(.MBOX_STAT_READY, 0, 1)] with hier := { st := some 1 } }, Safety.started 0x65 ([]) (pk [0, 0, 0, 0, 9, 0, 0, 0]) ({ mk [(.MBOX_STAT_READY, 0, 1)] with hier := { st := some 1 } }), ⟨by decide +kernel, by decide +kernel⟩, by decide +kernel⟩,
   ⟨pk [0, 1], mk [(.MBOX_STAT_READY, 0, 1)], Safety.started 0x66 ([]) (pk [0, 1]) (mk [(.MBOX_STAT_READY, 0, 1)]), ⟨by decide +kernel, by decide +kernel⟩⟩⟩

theorem witness_ShuttleAndLoomGroupOpcodes :
    (∃ (p : Packet) (s : State) (t : State) (d : Dev), Safety.startsAs 0x70 [dDRAM] p s t ∧ t.openDev (p.u32 0) = some d)
    ∧ (∃ (p : Packet) (s : State) (t : State) (c : Ctx), Safety.startsAs 0x71 [dDRAM] p s t ∧ t.openCtx (p.u32 0) = some c)
    ∧ (∃ (p : Packet) (s : State) (t : State), Safety.startsAs 0x72 [dSH (p.u8 0), dSH 12] p s t ∧ s.get .SHT_STAT_STATE (p.u8 0) = 6 ∧ t.gecko (0x10 + p.u8 0) = false ∧ t.get .SHT_STAT_STATE (p.u8 0) = 6)
    ∧ (∃ (p : Packet) (s : State) (t : State) (d : Dev) (e : Dev), Safety.startsAs 0x73 (dDRAM :: s.servingNeed d.port) p s t ∧ s.openDev (p.u32 0) = some d ∧ t.openDev (p.u32 0) = some e ∧ (t.serving e.port).isSome = true)
    ∧ (∃ (p : Packet) (s : State) (t : State) (j : Nat), Safety.startsAs 0x74 (s.servingNeed (p.u8 0)) p s t ∧ t.serving (p.u8 0) = some j)
    ∧ (∃ (p : Packet) (s : State) (t : State) (c : Ctx), Safety.startsAs 0x75 [dDRAM] p s t ∧ t.openCtx (p.u32 0) = some c ∧ 7 < c.num ∧ c.num ≠ 9 ∧ (c.isIso = true ↔ p.u8 4 = 8) ∧ (p.u8 4 = c.lane ∨ c.recsFull = false))
    ∧ (∃ (p : Packet) (s : State) (t : State), Safety.startsAs 0x76 [] p s t) :=
  ⟨⟨pk [16, 0, 0, 0], { mk [(.MBOX_STAT_READY, 0, 1), (.DOM_STAT_STATE, 29, 0)] pw with loom := { devs := [{ port := 0, ep0 := 16 }], ctxs := [{ num := 16, devEp0 := 16, port := 0, isOpen := true }] } }, Safety.started 0x70 ([dDRAM]) (pk [16, 0, 0, 0]) ({ mk [(.MBOX_STAT_READY, 0, 1), (.DOM_STAT_STATE, 29, 0)] pw with loom := { devs := [{ port := 0, ep0 := 16 }], ctxs := [{ num := 16, devEp0 := 16, port := 0, isOpen := true }] } }), ({ port := 0, ep0 := 16 } : Dev), ⟨by decide +kernel, by decide +kernel⟩, by decide +kernel⟩,
   ⟨pk [16, 0, 0, 0, 1, 0, 0, 0], { mk [(.MBOX_STAT_READY, 0, 1), (.DOM_STAT_STATE, 29, 0)] pw with loom := { devs := [{ port := 0, ep0 := 16 }], ctxs := [{ num := 16, devEp0 := 16, port := 0, isOpen := true }] } }, Safety.started 0x71 ([dDRAM]) (pk [16, 0, 0, 0, 1, 0, 0, 0]) ({ mk [(.MBOX_STAT_READY, 0, 1), (.DOM_STAT_STATE, 29, 0)] pw with loom := { devs := [{ port := 0, ep0 := 16 }], ctxs := [{ num := 16, devEp0 := 16, port := 0, isOpen := true }] } }), ({ num := 16, devEp0 := 16, port := 0, isOpen := true } : Ctx), ⟨by decide +kernel, by decide +kernel⟩, by decide +kernel⟩,
   ⟨pk [0], mk [(.MBOX_STAT_READY, 0, 1), (.SHT_STAT_STATE, 0, 6), (.DOM_STAT_STATE, 16, 0), (.DOM_STAT_STATE, 28, 0)], Safety.started 0x72 ([dSH ((pk [0]).u8 0), dSH 12]) (pk [0]) (mk [(.MBOX_STAT_READY, 0, 1), (.SHT_STAT_STATE, 0, 6), (.DOM_STAT_STATE, 16, 0), (.DOM_STAT_STATE, 28, 0)]), ⟨by decide +kernel, by decide +kernel⟩, by decide +kernel⟩,
   ⟨pk [16, 0, 0, 0], { mk [(.MBOX_STAT_READY, 0, 1), (.DOM_STAT_STATE, 29, 0), (.SHT_STAT_STATE, 0, 1), (.DOM_STAT_STATE, 16, 0)] pw with loom := { devs := [{ port := 0, ep0 := 16 }], ctxs := [{ num := 16, devEp0 := 16, port := 0, isOpen := true }] } }, Safety.started 0x73 (dDRAM :: ({ mk [(.MBOX_STAT_READY, 0, 1), (.DOM_STAT_STATE, 29, 0), (.SHT_STAT_STATE, 0, 1), (.DOM_STAT_STATE, 16, 0)] pw with loom := { devs := [{ port := 0, ep0 := 16 }], ctxs := [{ num := 16, devEp0 := 16, port := 0, isOpen := true }] } }).servingNeed (({ port := 0, ep0 := 16 } : Dev)).port) (pk [16, 0, 0, 0]) ({ mk [(.MBOX_STAT_READY, 0, 1), (.DOM_STAT_STATE, 29, 0), (.SHT_STAT_STATE, 0, 1), (.DOM_STAT_STATE, 16, 0)] pw with loom := { devs := [{ port := 0, ep0 := 16 }], ctxs := [{ num := 16, devEp0 := 16, port := 0, isOpen := true }] } }), ({ port := 0, ep0 := 16 } : Dev), ({ port := 0, ep0 := 16 } : Dev), ⟨by decide +kernel, by decide +kernel⟩, by decide +kernel⟩,
   ⟨pk [0, 0, 9, 0], { mk [(.MBOX_STAT_READY, 0, 1), (.DOM_STAT_STATE, 29, 0), (.SHT_STAT_STATE, 0, 1), (.DOM_STAT_STATE, 16, 0)] pw with loom := { devs := [{ port := 0, ep0 := 16 }], ctxs := [{ num := 16, devEp0 := 16, port := 0, isOpen := true }] } }, Safety.started 0x74 (({ mk [(.MBOX_STAT_READY, 0, 1), (.DOM_STAT_STATE, 29, 0), (.SHT_STAT_STATE, 0, 1), (.DOM_STAT_STATE, 16, 0)] pw with loom := { devs := [{ port := 0, ep0 := 16 }], ctxs := [{ num := 16, devEp0 := 16, port := 0, isOpen := true }] } }).servingNeed ((pk [0, 0, 9, 0]).u8 0)) (pk [0, 0, 9, 0]) ({ mk [(.MBOX_STAT_READY, 0, 1), (.DOM_STAT_STATE, 29, 0), (.SHT_STAT_STATE, 0, 1), (.DOM_STAT_STATE, 16, 0)] pw with loom := { devs := [{ port := 0, ep0 := 16 }], ctxs := [{ num := 16, devEp0 := 16, port := 0, isOpen := true }] } }), 0, ⟨by decide +kernel, by decide +kernel⟩, by decide +kernel⟩,
   ⟨pk [16, 0, 0, 0, 2], { mk [(.MBOX_STAT_READY, 0, 1), (.DOM_STAT_STATE, 29, 0)] pw with loom := { devs := [{ port := 0, ep0 := 16 }], ctxs := [{ num := 16, devEp0 := 16, port := 0, isOpen := true }] } }, Safety.started 0x75 ([dDRAM]) (pk [16, 0, 0, 0, 2]) ({ mk [(.MBOX_STAT_READY, 0, 1), (.DOM_STAT_STATE, 29, 0)] pw with loom := { devs := [{ port := 0, ep0 := 16 }], ctxs := [{ num := 16, devEp0 := 16, port := 0, isOpen := true }] } }), ({ num := 16, devEp0 := 16, port := 0, isOpen := true } : Ctx), ⟨by decide +kernel, by decide +kernel⟩, by decide +kernel⟩,
   ⟨pk [], mk [(.MBOX_STAT_READY, 0, 1)], Safety.started 0x76 ([]) (pk []) (mk [(.MBOX_STAT_READY, 0, 1)]), ⟨by decide +kernel, by decide +kernel⟩⟩⟩

theorem witness_SecurityGroupOpcodes :
    (∃ (p : Packet) (s : State) (t : State), Safety.startsAs 0x80 [] p s t)
    ∧ (∃ (p : Packet) (s : State) (t : State), Safety.startsAs 0x81 [dSEC] p s t ∧ t.lifecycle ≠ lcFACTORY ∧ t.lifecycle ≠ lcRETURN ∧ t.sec.otp.keyState = 1 ∧ t.sec.secretUpset = false)
    ∧ (∃ (p : Packet) (s : State) (t : State) (c : Chal), Safety.startsAs 0x82 [dSEC] p s t ∧ ((p.u8 0 = t.lifecycle + 1 ∧ p.u8 0 ≤ 3) ∨ p.u8 0 = lcRETIRED) ∧ t.challenge = some c ∧ t.sec.secretUpset = false)
    ∧ (∃ (p : Packet) (s : State) (t : State), Safety.startsAs 0x83 [dSEC] p s t)
    ∧ (∃ (p : Packet) (s : State) (t : State) (c : Chal), Safety.startsAs 0x84 [dSEC] p s t ∧ t.challenge = some c ∧ c.purpose = 0 ∧ t.pins.dbgEn = true ∧ (t.lifecycle ≠ lcFIELD ∨ c.arg ≠ 2) ∧ t.sec.secretUpset = false)
    ∧ (∃ (p : Packet) (s : State) (t : State) (c : Chal), Safety.startsAs 0x84 [dSEC] p s t ∧ t.challenge = some c ∧ c.purpose = 0 ∧ t.pins.dbgEn = true ∧ t.lifecycle = lcFIELD ∧ c.arg = 2 ∧ t.sec.secretUpset = false)
    ∧ (∃ (p : Packet) (s : State) (t : State), Safety.startsAs 0x85 [] p s t)
    ∧ (∃ (p : Packet) (s : State) (t : State) (c : Chal), Safety.startsAs 0x86 [dSEC] p s t ∧ t.sec.otp.programmed (p.u8 0) = true ∧ ((t.lifecycle ≠ lcPROVISIONED ∧ t.lifecycle ≠ lcFIELD) ∨ (List.range 3).filter (fun j => t.sec.otp.owner j && j != p.u8 0) ≠ []) ∧ t.challenge = some c ∧ t.sec.secretUpset = false) :=
  ⟨⟨pk [], mk [(.MBOX_STAT_READY, 0, 1)], Safety.started 0x80 ([]) (pk []) (mk [(.MBOX_STAT_READY, 0, 1)]), ⟨by decide +kernel, by decide +kernel⟩⟩,
   ⟨pk (List.replicate 32 0), { mk [(.MBOX_STAT_READY, 0, 1), (.DOM_STAT_STATE, 32, 0), (.SEC_LC_STATE, 0, 2)] with sec := { otp := { seed := 5, seedValid := true } } }, Safety.started 0x81 ([dSEC]) (pk (List.replicate 32 0)) ({ mk [(.MBOX_STAT_READY, 0, 1), (.DOM_STAT_STATE, 32, 0), (.SEC_LC_STATE, 0, 2)] with sec := { otp := { seed := 5, seedValid := true } } }), ⟨by decide +kernel, by decide +kernel⟩, by decide +kernel⟩,
   ⟨pk ([3, 0, 0, 0] ++ List.replicate 194 0), { mk [(.MBOX_STAT_READY, 0, 1), (.DOM_STAT_STATE, 32, 0), (.SEC_LC_STATE, 0, 2), (.SEC_CHAL_CURRENT, 0, 1)] with sec := { chal := some ⟨5, 1, 3, 0⟩ } }, Safety.started 0x82 ([dSEC]) (pk ([3, 0, 0, 0] ++ List.replicate 194 0)) ({ mk [(.MBOX_STAT_READY, 0, 1), (.DOM_STAT_STATE, 32, 0), (.SEC_LC_STATE, 0, 2), (.SEC_CHAL_CURRENT, 0, 1)] with sec := { chal := some ⟨5, 1, 3, 0⟩ } }), ⟨5, 1, 3, 0⟩, ⟨by decide +kernel, by decide +kernel⟩, by decide +kernel⟩,
   ⟨pk [0, 1], mk [(.MBOX_STAT_READY, 0, 1), (.DOM_STAT_STATE, 32, 0)], Safety.started 0x83 ([dSEC]) (pk [0, 1]) (mk [(.MBOX_STAT_READY, 0, 1), (.DOM_STAT_STATE, 32, 0)]), ⟨by decide +kernel, by decide +kernel⟩⟩,
   ⟨pk (List.replicate 194 0), { mk [(.MBOX_STAT_READY, 0, 1), (.DOM_STAT_STATE, 32, 0), (.SEC_LC_STATE, 0, 2), (.SEC_CHAL_CURRENT, 0, 1)] with sec := { chal := some ⟨5, 0, 1, 0⟩ }, pins := { dbgEn := true } }, Safety.started 0x84 ([dSEC]) (pk (List.replicate 194 0)) ({ mk [(.MBOX_STAT_READY, 0, 1), (.DOM_STAT_STATE, 32, 0), (.SEC_LC_STATE, 0, 2), (.SEC_CHAL_CURRENT, 0, 1)] with sec := { chal := some ⟨5, 0, 1, 0⟩ }, pins := { dbgEn := true } }), ⟨5, 0, 1, 0⟩, ⟨by decide +kernel, by decide +kernel⟩, by decide +kernel⟩,
   ⟨pk (List.replicate 194 0), { mk [(.MBOX_STAT_READY, 0, 1), (.DOM_STAT_STATE, 32, 0), (.SEC_LC_STATE, 0, 2), (.SEC_CHAL_CURRENT, 0, 1)] with sec := { chal := some ⟨5, 0, 2, 0⟩ }, pins := { dbgEn := true } }, Safety.started 0x84 ([dSEC]) (pk (List.replicate 194 0)) ({ mk [(.MBOX_STAT_READY, 0, 1), (.DOM_STAT_STATE, 32, 0), (.SEC_LC_STATE, 0, 2), (.SEC_CHAL_CURRENT, 0, 1)] with sec := { chal := some ⟨5, 0, 2, 0⟩ }, pins := { dbgEn := true } }), ⟨5, 0, 2, 0⟩, ⟨by decide +kernel, by decide +kernel⟩, by decide +kernel⟩,
   ⟨pk [], mk [(.MBOX_STAT_READY, 0, 1)], Safety.started 0x85 ([]) (pk []) (mk [(.MBOX_STAT_READY, 0, 1)]), ⟨by decide +kernel, by decide +kernel⟩⟩,
   ⟨pk ([0, 0, 0, 0] ++ List.replicate 194 0), { mk [(.MBOX_STAT_READY, 0, 1), (.DOM_STAT_STATE, 32, 0), (.SEC_LC_STATE, 0, 2), (.SEC_CHAL_CURRENT, 0, 1)] with sec := { chal := some ⟨5, 2, 0, 0⟩, otp := { okh := [7, 8, 0] } } }, Safety.started 0x86 ([dSEC]) (pk ([0, 0, 0, 0] ++ List.replicate 194 0)) ({ mk [(.MBOX_STAT_READY, 0, 1), (.DOM_STAT_STATE, 32, 0), (.SEC_LC_STATE, 0, 2), (.SEC_CHAL_CURRENT, 0, 1)] with sec := { chal := some ⟨5, 2, 0, 0⟩, otp := { okh := [7, 8, 0] } } }), ⟨5, 2, 0, 0⟩, ⟨by decide +kernel, by decide +kernel⟩, by decide +kernel⟩⟩

theorem witness_FirmwareGroupOpcodes :
    (∃ (p : Packet) (s : State) (t : State), Safety.startsAs 0x90 [] p s t ∧ t.noFlash = false ∧ p.u32 0 = 0 ∧ (p.params.drop 8).length ≤ 4194304)
    ∧ (∃ (p : Packet) (s : State) (t : State), Safety.startsAs 0x90 [] p s t ∧ t.noFlash = false ∧ p.u32 0 ≠ 0 ∧ p.u32 0 = (t.slot t.otherSlot).bytes.length ∧ p.u32 0 + (p.params.drop 8).length ≤ 4194304)
    ∧ (∃ (p : Packet) (s : State) (t : State), Safety.startsAs 0x91 [dSEC] p s t)
    ∧ (∃ (p : Packet) (s : State) (t : State), Safety.startsAs 0x92 [] p s t ∧ t.boot.verified = true ∧ t.boot.phase = 0 ∧ p.u8 0 = 1)
    ∧ (∃ (p : Packet) (s : State) (t : State), Safety.startsAs 0x92 [] p s t ∧ t.boot.verified = true ∧ t.boot.phase = 0 ∧ p.u8 0 = 0 ∧ t.standbyReady = true ∧ (t.slot t.otherSlot).bytes.getD 9 0 = t.boot.working.getD 9 0 ∧ t.domOn (dCTL (1 - t.lead)) = true)
    ∧ (∃ (p : Packet) (s : State) (t : State), Safety.startsAs 0x93 [dSEC] p s t ∧ t.versionOf 0 = imageVersion t.boot.working ∧ t.versionOf 1 = imageVersion t.boot.working ∧ t.boot.booted = [true, true] ∧ t.boot.phase = 0)
    ∧ (∃ (p : Packet) (s : State) (t : State), Safety.startsAs 0x94 [] p s t) :=
  ⟨⟨pk [0, 0, 0, 0, 0, 0, 0, 0, 7], mk [(.MBOX_STAT_READY, 0, 1)], Safety.started 0x90 ([]) (pk [0, 0, 0, 0, 0, 0, 0, 0, 7]) (mk [(.MBOX_STAT_READY, 0, 1)]), ⟨by decide +kernel, by decide +kernel⟩, by decide +kernel⟩,
   ⟨pk [1, 0, 0, 0, 0, 0, 0, 0, 7], { mk [(.MBOX_STAT_READY, 0, 1), (.DOM_STAT_STATE, 32, 0)] with boot := { flash := { slots := [{ bytes := [1] }, { bytes := [1] }] } } }, Safety.started 0x90 ([]) (pk [1, 0, 0, 0, 0, 0, 0, 0, 7]) ({ mk [(.MBOX_STAT_READY, 0, 1), (.DOM_STAT_STATE, 32, 0)] with boot := { flash := { slots := [{ bytes := [1] }, { bytes := [1] }] } } }), ⟨by decide +kernel, by decide +kernel⟩, by decide +kernel⟩,
   ⟨pk [], mk [(.MBOX_STAT_READY, 0, 1), (.DOM_STAT_STATE, 32, 0)], Safety.started 0x91 ([dSEC]) (pk []) (mk [(.MBOX_STAT_READY, 0, 1), (.DOM_STAT_STATE, 32, 0)]), ⟨by decide +kernel, by decide +kernel⟩⟩,
   ⟨pk [1], { mk [(.MBOX_STAT_READY, 0, 1), (.DOM_STAT_STATE, 32, 0)] with boot := { verified := true } }, Safety.started 0x92 ([]) (pk [1]) ({ mk [(.MBOX_STAT_READY, 0, 1), (.DOM_STAT_STATE, 32, 0)] with boot := { verified := true } }), ⟨by decide +kernel, by decide +kernel⟩, by decide +kernel⟩,
   ⟨pk [0], { mk [(.MBOX_STAT_READY, 0, 1), (.DOM_STAT_STATE, 32, 0), (.DOM_STAT_STATE, 1, 0), (.DOM_STAT_STATE, 0, 0), (.FLT_TOKEN_STANDBY_HOT, 0, 1)] with boot := { verified := true, booted := [true, true] } }, Safety.started 0x92 ([]) (pk [0]) ({ mk [(.MBOX_STAT_READY, 0, 1), (.DOM_STAT_STATE, 32, 0), (.DOM_STAT_STATE, 1, 0), (.DOM_STAT_STATE, 0, 0), (.FLT_TOKEN_STANDBY_HOT, 0, 1)] with boot := { verified := true, booted := [true, true] } }), ⟨by decide +kernel, by decide +kernel⟩, by decide +kernel⟩,
   ⟨pk [], { mk [(.MBOX_STAT_READY, 0, 1), (.DOM_STAT_STATE, 32, 0)] with boot := { booted := [true, true] } }, Safety.started 0x93 ([dSEC]) (pk []) ({ mk [(.MBOX_STAT_READY, 0, 1), (.DOM_STAT_STATE, 32, 0)] with boot := { booted := [true, true] } }), ⟨by decide +kernel, by decide +kernel⟩, by decide +kernel⟩,
   ⟨pk [], mk [(.MBOX_STAT_READY, 0, 1)], Safety.started 0x94 ([]) (pk []) (mk [(.MBOX_STAT_READY, 0, 1)]), ⟨by decide +kernel, by decide +kernel⟩⟩⟩

theorem witness_RegisterAndBroadcastOpcodes :
    (∃ (p : Packet) (s : State) (t : State) (u : State) (ws : List Nat), Safety.startsAs 0xA0 [] p s t ∧ (if p.u8 0 = 1 then t.setIndAddr .ecrax (p.u32 4) else t).cmdReads (p.u8 0 == 1) (p.u32 4) (p.u16 2) = (u, ws, stOK))
    ∧ (∃ (p : Packet) (s : State) (t : State) (u : State), Safety.startsAs 0xA1 [] p s t ∧ (if p.u8 0 = 1 then t.setIndAddr .ecrax (p.u32 4) else t).ibiCheck.cmdWrites (p.u8 0 == 1) (p.u32 4) (opMode (p.u8 1)) ((List.range (p.u16 2)).map (fun i => p.u32 (8 + 4 * i))) = (u, p.u16 2, stOK))
    ∧ (∃ (p : Packet) (s : State) (t : State) (u : State) (ws : List Nat) (e : Nat), Safety.startsAs 0xA0 [] p s t ∧ (if p.u8 0 = 1 then t.setIndAddr .ecrax (p.u32 4) else t).cmdReads (p.u8 0 == 1) (p.u32 4) (p.u16 2) = (u, ws, e) ∧ e ≠ stOK)
    ∧ (∃ (p : Packet) (s : State) (t : State) (u : State) (n : Nat) (e : Nat), Safety.startsAs 0xA1 [] p s t ∧ (if p.u8 0 = 1 then t.setIndAddr .ecrax (p.u32 4) else t).ibiCheck.cmdWrites (p.u8 0 == 1) (p.u32 4) (opMode (p.u8 1)) ((List.range (p.u16 2)).map (fun i => p.u32 (8 + 4 * i))) = (u, n, e) ∧ e ≠ stOK)
    ∧ (∃ (p : Packet) (s : State) (t : State), Safety.startsAs 0x95 (((List.range 2).filter (fun c => s.get .CAN_CTL_USE c == 0)).map dCAN ++ [dDRAM]) p s t ∧ t.hier.st = some 1 ∧ t.boot.verified = true) :=
  ⟨⟨pk [0, 0, 1, 0, 0, 0, 0, 0], mk [(.MBOX_STAT_READY, 0, 1)], Safety.started 0xA0 ([]) (pk [0, 0, 1, 0, 0, 0, 0, 0]) (mk [(.MBOX_STAT_READY, 0, 1)]), Safety.started 0xA0 [] (pk [0, 0, 1, 0, 0, 0, 0, 0]) (mk [(.MBOX_STAT_READY, 0, 1)]), [0x000B9664], ⟨by decide +kernel, by decide +kernel⟩, by decide +kernel⟩,
   ⟨pk [0, 0, 1, 0, 4, 0, 12, 0, 3, 0, 0, 0], mk [(.MBOX_STAT_READY, 0, 1)], Safety.started 0xA1 ([]) (pk [0, 0, 1, 0, 4, 0, 12, 0, 3, 0, 0, 0]) (mk [(.MBOX_STAT_READY, 0, 1)]), (Safety.started 0xA1 [] (pk [0, 0, 1, 0, 4, 0, 12, 0, 3, 0, 0, 0]) (mk [(.MBOX_STAT_READY, 0, 1)])).set .INTC_EN 0 3, ⟨by decide +kernel, by decide +kernel⟩, by decide +kernel⟩,
   ⟨pk [0, 0, 1, 0, 0, 0, 7, 0], mk [(.MBOX_STAT_READY, 0, 1)], Safety.started 0xA0 ([]) (pk [0, 0, 1, 0, 0, 0, 7, 0]) (mk [(.MBOX_STAT_READY, 0, 1)]), ((Safety.started 0xA0 [] (pk [0, 0, 1, 0, 0, 0, 7, 0]) (mk [(.MBOX_STAT_READY, 0, 1)])).cmdReads false 0x070000 1).1, [], ((Safety.started 0xA0 [] (pk [0, 0, 1, 0, 0, 0, 7, 0]) (mk [(.MBOX_STAT_READY, 0, 1)])).cmdReads false 0x070000 1).2.2, ⟨by decide +kernel, by decide +kernel⟩, by decide +kernel⟩,
   ⟨pk [0, 0, 1, 0, 0, 0, 255, 0, 3, 0, 0, 0], mk [(.MBOX_STAT_READY, 0, 1)], Safety.started 0xA1 ([]) (pk [0, 0, 1, 0, 0, 0, 255, 0, 3, 0, 0, 0]) (mk [(.MBOX_STAT_READY, 0, 1)]), ((Safety.started 0xA1 [] (pk [0, 0, 1, 0, 0, 0, 255, 0, 3, 0, 0, 0]) (mk [(.MBOX_STAT_READY, 0, 1)])).ibiCheck.cmdWrites false 0xFF0000 (opMode 0) [3]).1, 0, ((Safety.started 0xA1 [] (pk [0, 0, 1, 0, 0, 0, 255, 0, 3, 0, 0, 0]) (mk [(.MBOX_STAT_READY, 0, 1)])).ibiCheck.cmdWrites false 0xFF0000 (opMode 0) [3]).2.2, ⟨by decide +kernel, by decide +kernel⟩, by decide +kernel⟩,
   ⟨pk [0, 0, 0, 0, 0, 0, 0, 0], { mk [(.MBOX_STAT_READY, 0, 1), (.DOM_STAT_STATE, 29, 0), (.CAN_CTL_USE, 0, 0), (.CAN_CTL_USE, 1, 2), (.DOM_STAT_STATE, 30, 0)] with hier := { st := some 1 }, boot := { verified := true } }, Safety.started 0x95 (((List.range 2).filter (fun c => ({ mk [(.MBOX_STAT_READY, 0, 1), (.DOM_STAT_STATE, 29, 0), (.CAN_CTL_USE, 0, 0), (.CAN_CTL_USE, 1, 2), (.DOM_STAT_STATE, 30, 0)] with hier := { st := some 1 }, boot := { verified := true } }).get .CAN_CTL_USE c == 0)).map dCAN ++ [dDRAM]) (pk [0, 0, 0, 0, 0, 0, 0, 0]) ({ mk [(.MBOX_STAT_READY, 0, 1), (.DOM_STAT_STATE, 29, 0), (.CAN_CTL_USE, 0, 0), (.CAN_CTL_USE, 1, 2), (.DOM_STAT_STATE, 30, 0)] with hier := { st := some 1 }, boot := { verified := true } }), ⟨by decide +kernel, by decide +kernel⟩, by decide +kernel⟩⟩

theorem witness_ManagementTransfers :
    (∃ (i3c : Bool) (bytes : List Nat) (s : State), s.pins.porstLow = false ∧ s.domOn dMIF = true ∧ 3 ≤ bytes.length ∧ leAt (bytes.map (· % 256)) 0 3 % 4 = 0 ∧ bytes.length % 4 = 3)
    ∧ (∃ (i3c : Bool) (n : Nat) (s : State), s.pins.porstLow = false ∧ s.domOn dMIF = true)
    ∧ (∃ (e : Nat) (s : State), s.pins.porstLow = false ∧ s.domOn dMIF = true ∧ s.domFenced dMIF = false ∧ e % 2 = 1)
    ∧ (∃ (e : Nat) (s : State), s.pins.porstLow = false ∧ s.domOn dMIF = true ∧ s.domFenced dMIF = false ∧ e % 2 = 1)
    ∧ (∃ (s : State), s.pins.porstLow = false ∧ s.domOn dMIF = true ∧ s.domFenced dMIF = false)
    ∧ (∃ (s : State), s.pins.porstLow = false ∧ s.domOn dMIF = true ∧ s.domFenced dMIF = false)
    ∧ (∃ (s : State), s.pins.porstLow = false ∧ s.domOn dMIF = true ∧ s.domFenced dMIF = false)
    ∧ (∃ (s : State), s.pins.porstLow = false ∧ s.domOn dMIF = true ∧ s.domFenced dMIF = false)
    ∧ (∃ (s : State), s.pins.porstLow = false ∧ s.domOn dMIF = true ∧ s.domFenced dMIF = false)
    ∧ (∃ (s : State), s.pins.porstLow = false ∧ s.domOn dMIF = true ∧ s.domFenced dMIF = false)
    ∧ (∃ (n : Nat) (s : State), s.pins.porstLow = false ∧ s.domOn dMIF = true ∧ s.domFenced dMIF = false ∧ 8 ≤ n ∧ n ≤ 4100)
    ∧ (∃ (n : Nat) (s : State), s.pins.porstLow = false ∧ s.domOn dMIF = true ∧ s.domFenced dMIF = false ∧ 8 ≤ n ∧ n ≤ 4100)
    ∧ (∃ (a : Nat) (s : State), s.pins.porstLow = false ∧ s.domOn dMIF = true ∧ s.domFenced dMIF = false ∧ s.mgmt.dynAddr = none)
    ∧ (∃ (b : Nat) (a : Nat) (s : State), s.pins.porstLow = false ∧ s.domOn dMIF = true ∧ s.domFenced dMIF = false ∧ s.mgmt.dynAddr = none ∧ b = s.staticAddr)
    ∧ (∃ (a : Nat) (s : State), s.pins.porstLow = false ∧ s.domOn dMIF = true ∧ s.domFenced dMIF = false ∧ s.mgmt.dynAddr ≠ none)
    ∧ (∃ (s : State), s.pins.porstLow = false ∧ s.domOn dMIF = true ∧ s.domFenced dMIF = false)
    ∧ (∃ (s : State), s.mgmt.ibi ≠ none ∧ s.domOn dMIF = true) :=
  ⟨⟨true, [4, 0, 6, 1, 0, 0, 0], mk [(.DOM_STAT_STATE, 41, 0)], by decide +kernel⟩,
   ⟨true, 4, mk [(.DOM_STAT_STATE, 41, 0)], by decide +kernel⟩,
   ⟨1, mk [(.DOM_STAT_STATE, 41, 0)], by decide +kernel⟩,
   ⟨1, mk [(.DOM_STAT_STATE, 41, 0)], by decide +kernel⟩,
   ⟨mk [(.DOM_STAT_STATE, 41, 0)], by decide +kernel⟩,
   ⟨mk [(.DOM_STAT_STATE, 41, 0)], by decide +kernel⟩,
   ⟨mk [(.DOM_STAT_STATE, 41, 0)], by decide +kernel⟩,
   ⟨mk [(.DOM_STAT_STATE, 41, 0)], by decide +kernel⟩,
   ⟨mk [(.DOM_STAT_STATE, 41, 0)], by decide +kernel⟩,
   ⟨mk [(.DOM_STAT_STATE, 41, 0)], by decide +kernel⟩,
   ⟨8, mk [(.DOM_STAT_STATE, 41, 0)], by decide +kernel⟩,
   ⟨4100, mk [(.DOM_STAT_STATE, 41, 0)], by decide +kernel⟩,
   ⟨9, mk [(.DOM_STAT_STATE, 41, 0)], by decide +kernel⟩,
   ⟨0x5C, 9, mk [(.DOM_STAT_STATE, 41, 0)], by decide +kernel⟩,
   ⟨9, { mk [(.DOM_STAT_STATE, 41, 0)] with mgmt := { dynAddr := some 8 } }, by decide +kernel⟩,
   ⟨mk [(.DOM_STAT_STATE, 41, 0)], by decide +kernel⟩,
   ⟨{ mk [(.DOM_STAT_STATE, 41, 0)] with mgmt := { ibi := some 3 } }, by decide +kernel⟩⟩

theorem witness_RegisterAccessCommands :
    (∃ (path : Path) (addr : Nat) (value : Nat) (s : State) (u : State) (t : State), s.permit path false (addr) (some value) = (u, true) ∧ u.ibiCheck.directWrite path s.inI3c (addr) .write value = (t, rOK))
    ∧ (∃ (path : Path) (addr : Nat) (value : Nat) (s : State) (u : State) (t : State), s.permit path false (addr / 65536 * 65536 + addr % 0x4000 + 0x4000) (some value) = (u, true) ∧ u.ibiCheck.directWrite path s.inI3c (addr / 65536 * 65536 + addr % 0x4000 + 0x4000) .write value = (t, rOK))
    ∧ (∃ (path : Path) (addr : Nat) (value : Nat) (s : State) (u : State) (t : State), s.permit path false (addr / 65536 * 65536 + addr % 0x4000 + 0x8000) (some value) = (u, true) ∧ u.ibiCheck.directWrite path s.inI3c (addr / 65536 * 65536 + addr % 0x4000 + 0x8000) .write value = (t, rOK))
    ∧ (∃ (path : Path) (addr : Nat) (value : Nat) (s : State) (u : State) (t : State), s.permit path false (addr / 65536 * 65536 + addr % 0x4000 + 0xC000) (some value) = (u, true) ∧ u.ibiCheck.directWrite path s.inI3c (addr / 65536 * 65536 + addr % 0x4000 + 0xC000) .write value = (t, rOK))
    ∧ (∃ (path : Path) (addr : Nat) (v : Nat) (s : State) (u : State) (t : State), s.permit path false (addr) (none) = (u, true) ∧ u.directRead path s.inI3c addr = (t, v, rOK))
    ∧ (∃ (path : Path) (addr : Nat) (v : Nat) (s : State) (u : State) (t : State), s.permit path false (addr) (none) = (u, true) ∧ u.directRead path s.inI3c addr = (t, v, rOK))
    ∧ (∃ (path : Path) (s : State) (u : State), s.permit path false (0x060000) (some 1) = (u, true) ∧ u.ibiCheck.flag .SNAP_STAT_BUSY = false)
    ∧ (∃ (path : Path) (n : Nat) (v : Nat) (s : State) (u : State) (t : State), n < 16 ∧ s.permit path true (3 * 2 ^ 28 + n * 2 ^ 20) (some v) = (u, true) ∧ u.ibiCheck.indWrite path (3 * 2 ^ 28 + n * 2 ^ 20) .write v = (t, rOK))
    ∧ (∃ (path : Path) (n : Nat) (v : Nat) (s : State) (u : State) (t : State), n < 96 ∧ s.permit path true (2 ^ 28 + n * 2 ^ 20) (some v) = (u, true) ∧ u.ibiCheck.indWrite path (2 ^ 28 + n * 2 ^ 20) .write v = (t, rOK))
    ∧ (∃ (path : Path) (v : Nat) (s : State) (u : State) (w : State), s.permit path false (0x050000 + 0) (some v) = (u, true) ∧ u.ibiCheck = w ∧ w.domOn dMIF = true ∧ w.domFenced dMIF = false ∧ w.winOp path = none)
    ∧ (∃ (path : Path) (s : State) (u : State), s.permit path false (0x050004) (none) = (u, true) ∧ u.domOn dMIF = true ∧ u.domFenced dMIF = false ∧ u.winOp path = none ∧ u.flag .IND_CTL_AUTOINC path.ix = false)
    ∧ (∃ (path : Path) (s : State) (u : State), s.permit path false (0x050004) (none) = (u, true) ∧ u.domOn dMIF = true ∧ u.domFenced dMIF = false ∧ u.winOp path = none ∧ u.flag .IND_CTL_AUTOINC path.ix = true)
    ∧ (∃ (path : Path) (v : Nat) (s : State) (u : State) (w : State), s.permit path false (0x050000 + 0x04) (some v) = (u, true) ∧ u.ibiCheck = w ∧ w.domOn dMIF = true ∧ w.domFenced dMIF = false ∧ w.winOp path = none)
    ∧ (∃ (path : Path) (v : Nat) (s : State) (u : State) (w : State), s.permit path false (0x050000 + 0x08) (some v) = (u, true) ∧ u.ibiCheck = w ∧ w.domOn dMIF = true ∧ w.domFenced dMIF = false ∧ w.winOp path = none)
    ∧ (∃ (path : Path) (v : Nat) (s : State) (u : State) (w : State), s.permit path false (0x050000 + 0x0C) (some v) = (u, true) ∧ u.ibiCheck = w ∧ w.domOn dMIF = true ∧ w.domFenced dMIF = false ∧ w.winOp path = none)
    ∧ (∃ (path : Path) (v : Nat) (s : State) (u : State) (w : State), s.permit path false (0x050000 + 0x10) (some v) = (u, true) ∧ u.ibiCheck = w ∧ w.domOn dMIF = true ∧ w.domFenced dMIF = false ∧ w.winOp path = none)
    ∧ (∃ (path : Path) (v : Nat) (s : State) (u : State) (w : State), v = 4 + s.get .IND_CTL_AUTOINC path.ix + 2 * s.get .IND_CTL_RD_AHEAD path.ix ∧ s.permit path false (0x050000 + 0x14) (some v) = (u, true) ∧ u.ibiCheck = w ∧ w.domOn dMIF = true ∧ w.domFenced dMIF = false ∧ w.winOp path = none ∧ applyWord w .write .IND path.ix 0x14 v = w)
    ∧ (∃ (path : Path) (w : WinOp) (s : State), s.ibiCheck.winOp path = some w) :=
  ⟨⟨.ecrax, 0xC0004, 3, State.reset, State.reset, State.reset.set .INTC_EN 0 3, by decide +kernel⟩,
   ⟨.ecrax, 0xC0004, 3, mk [(.INTC_EN, 0, 4)], mk [(.INTC_EN, 0, 4)], mk [(.INTC_EN, 0, 7)], by decide +kernel⟩,
   ⟨.ecrax, 0xC0004, 3, mk [(.INTC_EN, 0, 7)], mk [(.INTC_EN, 0, 7)], mk [(.INTC_EN, 0, 4)], by decide +kernel⟩,
   ⟨.ecrax, 0xC0004, 3, mk [(.INTC_EN, 0, 6)], mk [(.INTC_EN, 0, 6)], mk [(.INTC_EN, 0, 5)], by decide +kernel⟩,
   ⟨.ecrax, 0, 0x000B9664, State.reset, State.reset, State.reset, by decide +kernel⟩,
   ⟨.ecrax, 0, 0x000B9664, State.reset, State.reset, State.reset, by decide +kernel⟩,
   ⟨.ecrax, State.reset, State.reset, by decide +kernel⟩,
   ⟨.ecrax, 2, 0x36, pw, pw, (pw.indWrite .ecrax (3 * 2 ^ 28 + 2 * 2 ^ 20) .write 0x36).1, by decide +kernel⟩,
   ⟨.ecrax, 2, 0, pw, pw, (pw.indWrite .ecrax (2 ^ 28 + 2 * 2 ^ 20) .write 0).1, by decide +kernel⟩,
   ⟨.ecrax, 8, mk [(.DOM_STAT_STATE, 41, 0)], mk [(.DOM_STAT_STATE, 41, 0)], mk [(.DOM_STAT_STATE, 41, 0)], by decide +kernel⟩,
   ⟨.ecrax, mk [(.IND_CTL_AUTOINC, 1, 0), (.DOM_STAT_STATE, 41, 0)], mk [(.IND_CTL_AUTOINC, 1, 0), (.DOM_STAT_STATE, 41, 0)], by decide +kernel⟩,
   ⟨.ecrax, mk [(.IND_CTL_AUTOINC, 1, 1), (.DOM_STAT_STATE, 41, 0)], mk [(.IND_CTL_AUTOINC, 1, 1), (.DOM_STAT_STATE, 41, 0)], by decide +kernel⟩,
   ⟨.ecrax, 8, mk [(.DOM_STAT_STATE, 41, 0)], mk [(.DOM_STAT_STATE, 41, 0)], mk [(.DOM_STAT_STATE, 41, 0)], by decide +kernel⟩,
   ⟨.ecrax, 8, mk [(.DOM_STAT_STATE, 41, 0)], mk [(.DOM_STAT_STATE, 41, 0)], mk [(.DOM_STAT_STATE, 41, 0)], by decide +kernel⟩,
   ⟨.ecrax, 8, mk [(.DOM_STAT_STATE, 41, 0)], mk [(.DOM_STAT_STATE, 41, 0)], mk [(.DOM_STAT_STATE, 41, 0)], by decide +kernel⟩,
   ⟨.ecrax, 8, mk [(.DOM_STAT_STATE, 41, 0)], mk [(.DOM_STAT_STATE, 41, 0)], mk [(.DOM_STAT_STATE, 41, 0)], by decide +kernel⟩,
   ⟨.ecrax, 4 + (mk [(.DOM_STAT_STATE, 41, 0)]).get .IND_CTL_AUTOINC Path.ecrax.ix + 2 * (mk [(.DOM_STAT_STATE, 41, 0)]).get .IND_CTL_RD_AHEAD Path.ecrax.ix, mk [(.DOM_STAT_STATE, 41, 0)], mk [(.DOM_STAT_STATE, 41, 0)], mk [(.DOM_STAT_STATE, 41, 0)], by decide +kernel⟩,
   ⟨.mgmt, { path := .mgmt, start := 0, bound := 0, fetch := true, word := 5, res := 0 }, { State.reset with winOps := [{ path := .mgmt, start := 0, bound := 0, fetch := true, word := 5, res := 0 }] }, by decide +kernel⟩⟩

theorem witness_FaultCommands :
    (∃ (src : Nat) (kind : Nat) (addr : Nat) (s : State), srcReserved src = false ∧ src ∉ s.flt.aside ∧ 2 ≤ s.classNow src kind addr ∧ skeinOfSrc src = none)
    ∧ (∃ (src : Nat) (kind : Nat) (addr : Nat) (k : Nat) (s : State), srcReserved src = false ∧ 2 ≤ s.classNow src kind addr ∧ skeinOfSrc src = some k)
    ∧ (∃ (w : Nat) (s : State), crc8 (codedBytes w) = bits w 0 8 ∧ srcReserved (codedSrc w) = false ∧ skeinOfSrc (codedSrc w) = none ∧ ({ s with flt := { s.flt with coded := s.flt.coded.filter (fun c => c.word != w) } } : State).sameError (codedSrc w) (codedKind w) (codedAddr w) = false)
    ∧ (∃ (w : Nat) (k : Nat) (s : State) (t : State), crc8 (codedBytes w) = bits w 0 8 ∧ srcReserved (codedSrc w) = false ∧ skeinOfSrc (codedSrc w) = some k ∧ t = ({ s with flt := { s.flt with coded := s.flt.coded.filter (fun c => c.word != w) } } : State).pairLate k ∧ (t.dropPair k).sameError (codedSrc w) (codedKind w) (codedAddr w) = false)
    ∧ (∃ (w : Nat) (s : State), s.flt.coded.find? (fun c => c.word == w) = none)
    ∧ (∃ (w : Nat) (c : Coded) (s : State), s.flt.coded.find? (fun c => c.word == w) = some c ∧ c.next ≤ s.dt ∧ c.sends < 7)
    ∧ (∃ (k : Nat) (t : Nat) (s : State), k < 8 ∧ s.pairWaits k = some t ∧ t + 10000 ≤ s.dt)
    ∧ (∃ (src : Nat) (n : Nat) (s : State), 3 ≤ n ∧ srcReserved src = false ∧ s.flag .FLT_PAIR src = false)
    ∧ (∃ (src : Nat) (n : Nat) (s : State), 1000000 ≤ n)
    ∧ (∃ (w : Reaction) (s : State), s.flt.window = some w ∧ s.flt.skPairs = [] ∧ (s.flt.takeover = none ∨ s.safeHold = true))
    ∧ (∃ (s : State), s.flt.skPairs ≠ [])
    ∧ (∃ (r : Nat) (m : Nat) (s : State), r < 3)
    ∧ (∃ (n : Nat) (s : State), 10000 ≤ n ∧ s.flag .PWRD_CLK_REF_RUN = true)
    ∧ (∃ (n : Nat) (s : State), 10000000 ≤ n)
    ∧ (∃ (s : State), s.flag .AON_CLK_SLOW_SRC = true)
    ∧ (∃ (src : Nat) (pass : Bool) (s : State), s.flt.training.any (fun t => t.1 == src) = true)
    ∧ (∃ (s : State), s.flag .FLT_STAT_REBUILDING = true) :=
  ⟨⟨0x10, 1, 0, State.reset, by decide +kernel⟩,
   ⟨0x32, 1, 0, 2, State.reset, by decide +kernel⟩,
   ⟨0, State.reset, by decide +kernel⟩,
   ⟨55044300865781, 2, State.reset, State.reset, by decide +kernel⟩,
   ⟨0, State.reset, by decide +kernel⟩,
   ⟨0, ⟨0, 1, 0⟩, { State.reset with flt := { coded := [⟨0, 1, 0⟩] } }, by decide +kernel⟩,
   ⟨3, 0, { State.reset with flt := { skPairs := [(3, 0)] }, dt := 10000 }, by decide +kernel⟩,
   ⟨0x10, 3, State.reset, by decide +kernel⟩,
   ⟨0x10, 1000000, State.reset, by decide +kernel⟩,
   ⟨{ src := 0x10, kind := 1, cls := 2, addr := 0, coded := false, start := 0 }, { State.reset with flt := { window := some { src := 0x10, kind := 1, cls := 2, addr := 0, coded := false, start := 0 } } }, by decide +kernel⟩,
   ⟨{ State.reset with flt := { skPairs := [(3, 0)] } }, by decide +kernel⟩,
   ⟨0, 1, State.reset, by decide +kernel⟩,
   ⟨10000, mk [(.PWRD_CLK_REF_RUN, 0, 1)], by decide +kernel⟩,
   ⟨10000000, State.reset, by decide +kernel⟩,
   ⟨mk [(.AON_CLK_SLOW_SRC, 0, 1)], by decide +kernel⟩,
   ⟨0x42, true, { State.reset with flt := { training := [(0x42, 0)] } }, by decide +kernel⟩,
   ⟨mk [(.FLT_STAT_REBUILDING, 0, 1)], by decide +kernel⟩⟩

theorem witness_TokenAndUpdateCommands :
    (∃ (half : Nat) (seq : Nat) (ho : Bool) (s : State) (t : State), t = s.heartbeatMisses ∧ t.flag .FLT_TOKEN_VALID = true ∧ t.lead = half ∧ t.safeHold = false ∧ bit t.sec.halted half = false)
    ∧ (∃ (s : State), s.flag .FLT_TOKEN_VALID = true ∧ s.safeHold = false ∧ s.domOn (dCTL s.lead) = true ∧ (s.flag .SEC_DBG_HB_MASK = false ∨ bit s.sec.halted s.lead = false) ∧ s.flt.lastHb + 100000 * (s.flt.missRun + 1) ≤ s.dt)
    ∧ (∃ (a : Nat) (b : Nat) (c : Nat) (m : Nat) (s : State), ¬(a = b ∧ b = c) ∧ ((a = b ∧ m = a) ∨ (a = c ∧ m = a) ∨ (b = c ∧ m = b)))
    ∧ (∃ (a : Nat) (b : Nat) (c : Nat) (h : Nat) (s : State), a ≠ b ∧ b ≠ c ∧ a ≠ c ∧ h = s.get .SYS_STRAP_PREFHALF ∧ ((s.set .FLT_TOKEN_PREF_USED 0 1).raiseFault 0x03 0xD 0).domFenced (dCTL h) = false)
    ∧ (∃ (half : Nat) (s : State), s.flag .FLT_TOKEN_VALID = true ∧ s.lead ≠ half ∧ half < 2)
    ∧ (∃ (s : State), s.flag .FLT_TOKEN_VALID = true ∧ s.boot.booted.getD (1 - s.lead) false = true ∧ s.domOn (dCTL (1 - s.lead)) = true)
    ∧ (∃ (s : State), s.flt.takeover ≠ none ∧ s.domOn (dCTL s.lead) = true ∧ s.safeHold = false)
    ∧ (∃ (v : Bool) (b : Bool) (s : State), s.boot.phase = 1 ∧ s.boot.updated = false ∧ s.dt < s.boot.phaseFrom + 1000000000 ∧ s.domOn (dCTL (1 - s.lead)) = true ∧ s.domFenced dSEC = false)
    ∧ (∃ (s : State), s.boot.phase = 1 ∧ s.boot.updated = true ∧ s.flag .FLT_TOKEN_STANDBY_HOT = true ∧ s.flag .FLT_TOKEN_VALID = true ∧ s.domFenced (dCTL (1 - s.lead)) = false)
    ∧ (∃ (s : State), s.boot.phase = 2)
    ∧ (∃ (s : State), s.boot.phase = 3 ∧ s.domFenced (dCTL (1 - s.lead)) = false)
    ∧ (∃ (s : State), s.boot.phase = 1 ∧ s.boot.updated = false ∧ s.boot.phaseFrom + 1000000000 ≤ s.dt) :=
  ⟨⟨0, 5, false, mk [(.FLT_TOKEN_VALID, 0, 1)], mk [(.FLT_TOKEN_VALID, 0, 1)], by decide +kernel⟩,
   ⟨{ mk [(.FLT_TOKEN_VALID, 0, 1), (.DOM_STAT_STATE, 0, 0)] with dt := 400000 }, by decide +kernel⟩,
   ⟨1, 1, 2, 1, State.reset, by decide +kernel⟩,
   ⟨1, 3, 2, 0, State.reset, by decide +kernel⟩,
   ⟨1, mk [(.FLT_TOKEN_VALID, 0, 1)], by decide +kernel⟩,
   ⟨{ mk [(.FLT_TOKEN_VALID, 0, 1), (.DOM_STAT_STATE, 1, 0)] with boot := { booted := [true, true] } }, by decide +kernel⟩,
   ⟨{ mk [(.FLT_TOKEN_VALID, 0, 1), (.DOM_STAT_STATE, 0, 0)] with flt := { takeover := some 0 } }, by decide +kernel⟩,
   ⟨true, false, { mk [(.DOM_STAT_STATE, 1, 0), (.DOM_STAT_STATE, 0, 0)] with boot := { phase := 1 } }, by decide +kernel⟩,
   ⟨{ mk [(.FLT_TOKEN_VALID, 0, 1), (.FLT_TOKEN_STANDBY_HOT, 0, 1)] with boot := { phase := 1, updated := true } }, by decide +kernel⟩,
   ⟨{ State.reset with boot := { phase := 2 } }, by decide +kernel⟩,
   ⟨{ State.reset with boot := { phase := 3 } }, by decide +kernel⟩,
   ⟨{ State.reset with boot := { phase := 1 }, dt := 1000000000 }, by decide +kernel⟩⟩

theorem witness_DomainCommands :
    (∃ (d : Nat) (ok : Bool) (s : State), d < 42 ∧ s.flag .DOM_STAT_TRANS d = true ∧ s.get .DOM_STAT_TARGET d = 0 ∧ s.dt < (s.dom d).stepEnd ∧ s.get .DOM_STAT_STEP d = 1 ∧ s.standing d = true ∧ (railDomain d = false ∨ s.flag .PWRD_AVS_LOW_RAIL = false) ∧ 2 ≤ d)
    ∧ (∃ (d : Nat) (ok : Bool) (s : State), d < 42 ∧ s.flag .DOM_STAT_TRANS d = true ∧ s.get .DOM_STAT_TARGET d = 0 ∧ s.dt < (s.dom d).stepEnd ∧ s.get .DOM_STAT_STEP d = 2 ∧ (needsRef d = false ∨ s.flag .PWRD_CLK_REF_RUN = true ∨ ((d = 0 ∨ d = 1 ∨ d = dSEC) ∧ s.refLost = true)))
    ∧ (∃ (d : Nat) (ok : Bool) (s : State), d < 42 ∧ s.flag .DOM_STAT_TRANS d = true ∧ s.get .DOM_STAT_TARGET d = 0 ∧ s.dt < (s.dom d).stepEnd ∧ s.get .DOM_STAT_STEP d = 3)
    ∧ (∃ (d : Nat) (ok : Bool) (s : State), d < 42 ∧ s.flag .DOM_STAT_TRANS d = true ∧ s.get .DOM_STAT_TARGET d = 0 ∧ s.dt < (s.dom d).stepEnd ∧ s.get .DOM_STAT_STEP d = 4 ∧ ((s.dom d).saved = none ∨ ok = true))
    ∧ (∃ (d : Nat) (s : State), d < 42 ∧ s.flag .DOM_STAT_TRANS d = true ∧ s.get .DOM_STAT_TARGET d = 0 ∧ (s.dom d).stepEnd ≤ s.dt ∧ (s.get .DOM_STAT_STEP d ≠ 1 ∨ s.standing d = true) ∧ (s.get .DOM_STAT_STEP d ≠ 2 ∨ s.refHeld d = false) ∧ (s.dom d).fails = 0)
    ∧ (∃ (d : Nat) (s : State), d < 42 ∧ s.flag .DOM_STAT_TRANS d = true ∧ s.get .DOM_STAT_TARGET d = 0 ∧ (s.dom d).stepEnd ≤ s.dt ∧ (s.get .DOM_STAT_STEP d ≠ 1 ∨ s.standing d = true) ∧ (s.get .DOM_STAT_STEP d ≠ 2 ∨ s.refHeld d = false) ∧ (s.dom d).fails ≠ 0)
    ∧ (∃ (d : Nat) (s : State), d < 42 ∧ d ≠ 30 ∧ d ≠ 31 ∧ s.flag .DOM_STAT_TRANS d = true ∧ s.get .DOM_STAT_TARGET d ≠ 0)
    ∧ (∃ (d : Nat) (s : State) (t : State), (d = 30 ∨ d = 31) ∧ s.flag .DOM_STAT_TRANS d = true ∧ s.get .DOM_STAT_TARGET d ≠ 0 ∧ s.sessionCheck.quiesced d = (t, true))
    ∧ (∃ (d : Nat) (s : State), d < 42 ∧ s.domOn d = true)
    ∧ (∃ (d : Nat) (s : State) (t : State), d < 42 ∧ s.get .DOM_IDLE_IDLE_MS d ≠ 0 ∧ s.get .DOM_IDLE_IDLE_STATE d ≠ 0 ∧ (s.dom d).idleFrom + s.get .DOM_IDLE_IDLE_MS d * 1000000 ≤ s.dt ∧ t = s.modDom d (fun x => { x with idleFrom := s.dt }))
    ∧ (∃ (d : Nat) (v : Nat) (s : State), d < 42 ∧ v % 4 ≠ 3 ∧ s.domFenced d = false ∧ (s.get .DOM_STAT_STATE d ≠ v % 4 ∨ s.flag .DOM_STAT_TRANS d = true) ∧ s.domainAllowed d (v % 4) = true)
    ∧ (∃ (mv : Nat) (s : State) (t : State), s.avsIdle = false ∧ t = s.avsRequest ∧ t.avsWaits = true ∧ mv ≤ t.get .PWRD_AVS_TARGET_MV + 10 ∧ t.get .PWRD_AVS_TARGET_MV ≤ mv + 10)
    ∧ (∃ (a : Nat) (s : State) (t : State), s.avsRequest.avsIdle = false ∧ t = s.avsRequest.count .PWRD_AVS_RETRY_CNT 0 ∧ t.avsAt = some a ∧ a + 200000 ≤ t.dt ∧ t.flag .PWRD_AVS_FALLBACK = false ∧ t.avsTries < 3)
    ∧ (∃ (a : Nat) (s : State) (t : State), s.avsRequest.avsIdle = false ∧ t = s.avsRequest.count .PWRD_AVS_RETRY_CNT 0 ∧ t.avsAt = some a ∧ a + 200000 ≤ t.dt ∧ t.flag .PWRD_AVS_FALLBACK = false ∧ t.avsTries = 3)
    ∧ (∃ (s : State), s.flag .PWRD_AVS_FALLBACK = true ∧ s.avsIdle = false ∧ s.avsFrom + 10000000000 ≤ s.dt)
    ∧ (∃ (a : Nat) (i3c : Bool) (s : State), s.pins.porstLow = false ∧ (a = 0x7E ∨ a = 0x5C + s.get .SYS_STRAP_MGMT_ADDR ∨ s.mgmt.dynAddr = some a) ∧ s.domFenced dMIF = false ∧ s.domOn dMIF = true)
    ∧ (∃ (a : Nat) (i3c : Bool) (s : State), s.pins.porstLow = false ∧ a ≠ 0x7E ∧ (a = 0x5C + s.get .SYS_STRAP_MGMT_ADDR ∨ s.mgmt.dynAddr = some a) ∧ s.domFenced dMIF = false ∧ s.domOn dMIF = false)
    ∧ (∃ (n : Nat) (s : State), 10000 ≤ n)
    ∧ (∃ (i : Nat) (s : State), i < 4 ∧ s.get .PWRD_ALARM i ≠ 0 ∧ s.get .PWRD_ALARM i ≤ s.clock)
    ∧ (∃ (path : Path) (i : Nat) (high : Nat) (s : State) (u : State) (t : State), i < 4 ∧ s.permit path false (0x020034 + 8 * i) (some high) = (u, true) ∧ u.ibiCheck.directWrite path s.inI3c (0x020034 + 8 * i) .write high = (t, rOK))
    ∧ (∃ (d : Nat) (st : Nat) (s : State), d < 42 ∧ st < 3 ∧ s.debugMayWake d = true ∧ s.lifecycle = lcFACTORY ∧ (s.nameTarget d).lifecycle = lcFACTORY) :=
  ⟨⟨30, true, { mk [(.DOM_STAT_TRANS, 30, 1), (.DOM_STAT_TARGET, 30, 0), (.DOM_STAT_STEP, 30, 1)] with doms := List.replicate 42 { stepEnd := 1 } }, by decide +kernel⟩,
   ⟨30, true, { mk [(.PWRD_CLK_REF_RUN, 0, 1), (.DOM_STAT_TRANS, 30, 1), (.DOM_STAT_TARGET, 30, 0), (.DOM_STAT_STEP, 30, 2)] with doms := List.replicate 42 { stepEnd := 1 } }, by decide +kernel⟩,
   ⟨30, true, { mk [(.DOM_STAT_TRANS, 30, 1), (.DOM_STAT_TARGET, 30, 0), (.DOM_STAT_STEP, 30, 3)] with doms := List.replicate 42 { stepEnd := 1 } }, by decide +kernel⟩,
   ⟨30, true, { mk [(.DOM_STAT_TRANS, 30, 1), (.DOM_STAT_TARGET, 30, 0), (.DOM_STAT_STEP, 30, 4)] with doms := List.replicate 42 { stepEnd := 1 } }, by decide +kernel⟩,
   ⟨30, mk [(.DOM_STAT_TRANS, 30, 1), (.DOM_STAT_TARGET, 30, 0), (.DOM_STAT_STEP, 30, 1)], by decide +kernel⟩,
   ⟨30, (mk [(.DOM_STAT_TRANS, 30, 1), (.DOM_STAT_TARGET, 30, 0), (.DOM_STAT_STEP, 30, 1)]).modDom 30 (fun x => { x with fails := 1 }), by decide +kernel⟩,
   ⟨16, mk [(.DOM_STAT_TRANS, 16, 1), (.DOM_STAT_TARGET, 16, 2)], by decide +kernel⟩,
   ⟨30, mk [(.DOM_STAT_TRANS, 30, 1), (.DOM_STAT_TARGET, 30, 2), (.DOM_STAT_STATE, 30, 1)], mk [(.DOM_STAT_TRANS, 30, 1), (.DOM_STAT_TARGET, 30, 2), (.DOM_STAT_STATE, 30, 1)], by decide +kernel⟩,
   ⟨30, mk [(.DOM_STAT_STATE, 30, 0)], by decide +kernel⟩,
   ⟨30, { mk [(.DOM_IDLE_IDLE_MS, 30, 1), (.DOM_IDLE_IDLE_STATE, 30, 1)] with dt := 1000000 }, ({ mk [(.DOM_IDLE_IDLE_MS, 30, 1), (.DOM_IDLE_IDLE_STATE, 30, 1)] with dt := 1000000 } : State).modDom 30 (fun x => { x with idleFrom := 1000000 }), by decide +kernel⟩,
   ⟨30, 1, mk [(.DOM_STAT_STATE, 30, 0)], by decide +kernel⟩,
   ⟨State.reset.avsRequest.get .PWRD_AVS_TARGET_MV, State.reset, State.reset.avsRequest, by decide +kernel⟩,
   ⟨0, { ({ State.reset with dt := 200000, avsAt := some 0 } : State).avsRequest with avsTries := 1, avsAt := some 0 }, ({ ({ State.reset with dt := 200000, avsAt := some 0 } : State).avsRequest with avsTries := 1, avsAt := some 0 } : State).avsRequest.count .PWRD_AVS_RETRY_CNT 0, by decide +kernel⟩,
   ⟨0, { ({ State.reset with dt := 200000, avsAt := some 0 } : State).avsRequest with avsTries := 3, avsAt := some 0 }, ({ ({ State.reset with dt := 200000, avsAt := some 0 } : State).avsRequest with avsTries := 3, avsAt := some 0 } : State).avsRequest.count .PWRD_AVS_RETRY_CNT 0, by decide +kernel⟩,
   ⟨{ mk [(.PWRD_AVS_FALLBACK, 0, 1)] with dt := 10000000000 }, by decide +kernel⟩,
   ⟨0x5C, false, mk [(.DOM_STAT_STATE, 41, 0)], by decide +kernel⟩,
   ⟨0x5C, false, mk [(.DOM_STAT_STATE, 41, 1)], by decide +kernel⟩,
   ⟨10000, State.reset, by decide +kernel⟩,
   ⟨2, { mk [(.PWRD_ALARM, 2, 5)] with dt := 5 }, by decide +kernel⟩,
   ⟨.ecrax, 2, 7, State.reset, State.reset, (State.reset.directWrite .ecrax false 0x020044 .write 7).1, by decide +kernel⟩,
   ⟨30, 0, { mk [(.SEC_DBG_LEVEL, 0, 2)] with pins := { dbgEn := true } }, by decide +kernel⟩⟩

theorem witness_SecurityAndDebugCommands :
    (∃ (n : Nat) (s : State), s.flag .SEC_OTP_STAT_BUSY = false ∧ n < 3 ∧ s.lifecycle ≤ lcPROVISIONED ∧ s.sec.otp.programmed n = false)
    ∧ (∃ (ok : Bool) (s : State), s.flag .SEC_OTP_STAT_BUSY = true)
    ∧ (∃ (c : Chal) (s : State), s.sec.chal = some c ∧ c.issued + 60000000000 ≤ s.dt)
    ∧ (∃ (a : DebugAccess) (s : State) (t : State), s.pins.dbgEn = true ∧ s.pins.porstLow = false ∧ a.place = .core ∧ a.what = .halt ∧ a.domain < 2 ∧ t = s.nameTarget a.domain ∧ t.debugMay (some a.domain) 2 = true)
    ∧ (∃ (a : DebugAccess) (s : State) (t : State), s.pins.dbgEn = true ∧ s.pins.porstLow = false ∧ a.place = .core ∧ a.what = .resume ∧ a.domain < 2 ∧ t = s.nameTarget a.domain ∧ t.debugMay (some a.domain) 2 = true)
    ∧ (∃ (a : DebugAccess) (s : State) (t : State), s.pins.dbgEn = true ∧ s.pins.porstLow = false ∧ a.place = .register ∧ a.what = .read ∧ a.ind = false ∧ s.permit .debug false a.addr none = (t, true))
    ∧ (∃ (a : DebugAccess) (v : Nat) (s : State) (t : State), s.pins.dbgEn = true ∧ s.pins.porstLow = false ∧ a.place = .register ∧ a.what = .write v ∧ a.ind = false ∧ s.permit .debug false a.addr (some v) = (t, true))
    ∧ (∃ (a : DebugAccess) (s : State) (t : State), s.pins.dbgEn = true ∧ s.pins.porstLow = false ∧ a.place = .dataMemory ∧ (a.what = .read ∨ ∃ v, a.what = .write v) ∧ t = s.nameTarget a.domain ∧ t.debugMay (some a.domain) 1 = false)
    ∧ (∃ (a : DebugAccess) (v : Nat) (s : State) (t : State), s.pins.dbgEn = true ∧ s.pins.porstLow = false ∧ a.place = .dataMemory ∧ a.what = .write v ∧ t = s.nameTarget a.domain ∧ t.debugMay (some a.domain) 2 = true ∧ t.lifecycle ≠ lcFIELD)
    ∧ (∃ (a : DebugAccess) (v : Nat) (s : State) (t : State), s.pins.dbgEn = true ∧ s.pins.porstLow = false ∧ a.place = .dataMemory ∧ a.what = .read ∧ t = s.nameTarget a.domain ∧ t.debugMay (some a.domain) 1 = true ∧ t.lifecycle ≠ lcFIELD ∧ t.sec.dataWords.find? (fun w => w.1 == a.domain && w.2.1 == a.addr) = some (a.domain, a.addr, v)) :=
  ⟨⟨1, State.reset, by decide +kernel⟩,
   ⟨true, mk [(.SEC_OTP_STAT_BUSY, 0, 1)], by decide +kernel⟩,
   ⟨⟨5, 0, 1, 0⟩, { State.reset with sec := { chal := some ⟨5, 0, 1, 0⟩ }, dt := 60000000000 }, by decide +kernel⟩,
   ⟨{ place := .core, domain := 1, ind := false, addr := 0, what := .halt }, { mk [(.SEC_DBG_LEVEL, 0, 2), (.DOM_STAT_STATE, 1, 0)] with pins := { dbgEn := true } }, { mk [(.SEC_DBG_LEVEL, 0, 2), (.DOM_STAT_STATE, 1, 0)] with pins := { dbgEn := true } }, by decide +kernel⟩,
   ⟨{ place := .core, domain := 1, ind := false, addr := 0, what := .resume }, { mk [(.SEC_DBG_LEVEL, 0, 2), (.DOM_STAT_STATE, 1, 0)] with pins := { dbgEn := true } }, { mk [(.SEC_DBG_LEVEL, 0, 2), (.DOM_STAT_STATE, 1, 0)] with pins := { dbgEn := true } }, by decide +kernel⟩,
   ⟨{ place := .register, domain := 0, ind := false, addr := 0, what := .read }, { mk [(.SEC_DBG_LEVEL, 0, 2)] with pins := { dbgEn := true } }, { mk [(.SEC_DBG_LEVEL, 0, 2)] with pins := { dbgEn := true } }, by decide +kernel⟩,
   ⟨{ place := .register, domain := 0, ind := false, addr := 0xC0004, what := .write 5 }, 5, { mk [(.SEC_DBG_LEVEL, 0, 2)] with pins := { dbgEn := true } }, { mk [(.SEC_DBG_LEVEL, 0, 2)] with pins := { dbgEn := true } }, by decide +kernel⟩,
   ⟨{ place := .dataMemory, domain := 16, ind := false, addr := 4, what := .read }, { State.reset with pins := { dbgEn := true } }, { State.reset with pins := { dbgEn := true } }, rfl, rfl, rfl, Or.inl rfl, by decide +kernel⟩,
   ⟨{ place := .dataMemory, domain := 16, ind := false, addr := 4, what := .write 7 }, 7, { mk [(.SEC_DBG_LEVEL, 0, 2), (.DOM_STAT_STATE, 16, 0)] with pins := { dbgEn := true } }, { mk [(.SEC_DBG_LEVEL, 0, 2), (.DOM_STAT_STATE, 16, 0)] with pins := { dbgEn := true } }, by decide +kernel⟩,
   ⟨{ place := .dataMemory, domain := 16, ind := false, addr := 4, what := .read }, 7, { mk [(.SEC_DBG_LEVEL, 0, 2), (.DOM_STAT_STATE, 16, 0)] with pins := { dbgEn := true }, sec := { dataWords := [(16, 4, 7)] } }, { mk [(.SEC_DBG_LEVEL, 0, 2), (.DOM_STAT_STATE, 16, 0)] with pins := { dbgEn := true }, sec := { dataWords := [(16, 4, 7)] } }, by decide +kernel⟩⟩

theorem witness_CanHostCommands :
    (∃ (c : Nat) (m : Nat) (s : State), c < 2 ∧ s.domOn (dCAN c) = true ∧ s.get .CAN_CTL_USE c ≠ 0)
    ∧ (∃ (c : Nat) (off : Nat) (v : Nat) (s : State), c < 2 ∧ s.domOn (dCAN c) = true ∧ s.get .CAN_CTL_USE c ≠ 0 ∧ (off = 0x08 ∨ off = 0x0C ∨ off = 0x10) ∧ s.get .CAN_STAT_MODE_NOW c = 0 ∧ canTimingOk (applyWord s .write .CAN c off v) c = true)
    ∧ (∃ (c : Nat) (m : Nat) (s : State), c < 2 ∧ s.domOn (dCAN c) = true ∧ s.get .CAN_CTL_USE c ≠ 0 ∧ (m = 1 ∨ m = 2 ∨ m = 4) ∧ s.txb c (if m = 4 then 2 else m - 1) ∉ [1, 2, 6])
    ∧ (∃ (c : Nat) (m : Nat) (r : Nat) (s : State), c < 2 ∧ s.domOn (dCAN c) = true ∧ s.get .CAN_CTL_USE c ≠ 0 ∧ r = 0 ∧ (m = 1 ∨ m = 2 ∨ m = 4) ∧ (s.txb c (if m = 4 then 2 else m - 1) = 1 ∨ s.txb c (if m = 4 then 2 else m - 1) = 6))
    ∧ (∃ (c : Nat) (m : Nat) (r : Nat) (s : State), c < 2 ∧ s.domOn (dCAN c) = true ∧ s.get .CAN_CTL_USE c ≠ 0 ∧ r = 0 ∧ (m = 1 ∨ m = 2 ∨ m = 4) ∧ s.txb c (if m = 4 then 2 else m - 1) = 2)
    ∧ (∃ (c : Nat) (b : Nat) (off : Nat) (v : Nat) (s : State), c < 2 ∧ s.domOn (dCAN c) = true ∧ s.get .CAN_CTL_USE c ≠ 0 ∧ b < 3 ∧ off < 0x80 ∧ s.txb c b ∉ [1, 2, 6])
    ∧ (∃ (c : Nat) (s : State), c < 2 ∧ s.domOn (dCAN c) = true ∧ s.get .CAN_CTL_USE c ≠ 0 ∧ (s.can c).popped ≠ 0)
    ∧ (∃ (c : Nat) (s : State), c < 2 ∧ s.domOn (dCAN c) = true ∧ s.get .CAN_CTL_USE c ≠ 0 ∧ (s.can c).popped = 0)
    ∧ (∃ (c : Nat) (s : State), c < 2 ∧ s.canOn c = true ∧ s.canBusy c = false ∧ s.get .CAN_CTL_USE c ≠ 2 ∧ s.get .CAN_CTL_MODE c ≠ s.get .CAN_STAT_MODE_NOW c)
    ∧ (∃ (c : Nat) (u : Nat) (s : State), (s.can c).newUse = some u ∧ s.canBusy c = false ∧ u ≠ s.get .CAN_CTL_USE c ∧ u = 0)
    ∧ (∃ (c : Nat) (u : Nat) (s : State) (t : State), (s.can c).newUse = some u ∧ s.canBusy c = false ∧ u ≠ s.get .CAN_CTL_USE c ∧ u ≠ 0 ∧ s.leaveFirst c 0 = (t, true)) :=
  ⟨⟨0, 1, mk [(.DOM_STAT_STATE, 30, 0), (.PWRD_CLK_TCLK_RUN, 0, 1), (.CAN_CTL_USE, 0, 1)], by decide +kernel⟩,
   ⟨0, 0x10, 0, mk [(.DOM_STAT_STATE, 30, 0), (.PWRD_CLK_TCLK_RUN, 0, 1), (.CAN_CTL_USE, 0, 1)], by decide +kernel⟩,
   ⟨0, 4, mk [(.DOM_STAT_STATE, 30, 0), (.PWRD_CLK_TCLK_RUN, 0, 1), (.CAN_CTL_USE, 0, 1)], by decide +kernel⟩,
   ⟨0, 4, 0, (mk [(.DOM_STAT_STATE, 30, 0), (.PWRD_CLK_TCLK_RUN, 0, 1), (.CAN_CTL_USE, 0, 1)]).setTxb 0 2 1, by decide +kernel⟩,
   ⟨0, 4, 0, (mk [(.DOM_STAT_STATE, 30, 0), (.PWRD_CLK_TCLK_RUN, 0, 1), (.CAN_CTL_USE, 0, 1)]).setTxb 0 2 2, by decide +kernel⟩,
   ⟨0, 1, 0, 5, mk [(.DOM_STAT_STATE, 30, 0), (.PWRD_CLK_TCLK_RUN, 0, 1), (.CAN_CTL_USE, 0, 1)], by decide +kernel⟩,
   ⟨0, (mk [(.DOM_STAT_STATE, 30, 0), (.PWRD_CLK_TCLK_RUN, 0, 1), (.CAN_CTL_USE, 0, 1)]).modCan 0 (fun x => { x with popped := 1 }), by decide +kernel⟩,
   ⟨0, mk [(.DOM_STAT_STATE, 30, 0), (.PWRD_CLK_TCLK_RUN, 0, 1), (.CAN_CTL_USE, 0, 1)], by decide +kernel⟩,
   ⟨0, mk [(.DOM_STAT_STATE, 30, 0), (.PWRD_CLK_TCLK_RUN, 0, 1), (.CAN_CTL_USE, 0, 1), (.CAN_CTL_MODE, 0, 1)], by decide +kernel⟩,
   ⟨0, 0, (mk [(.DOM_STAT_STATE, 30, 0), (.PWRD_CLK_TCLK_RUN, 0, 1), (.CAN_CTL_USE, 0, 1)]).modCan 0 (fun x => { x with newUse := some 0 }), by decide +kernel⟩,
   ⟨0, 2, (mk [(.DOM_STAT_STATE, 30, 0), (.PWRD_CLK_TCLK_RUN, 0, 1), (.CAN_CTL_USE, 0, 1)]).modCan 0 (fun x => { x with newUse := some 2 }), (mk [(.DOM_STAT_STATE, 30, 0), (.PWRD_CLK_TCLK_RUN, 0, 1), (.CAN_CTL_USE, 0, 1)]).modCan 0 (fun x => { x with newUse := some 2 }), by decide +kernel⟩⟩

theorem witness_CanBusCommands :
    (∃ (c : Nat) (n : Nat) (s : State), c < 2 ∧ s.canOn c = true ∧ s.get .CAN_STAT_MODE_NOW c ≠ 0 ∧ 11 ≤ n ∧ s.flag .CAN_STAT_SYNCED c = false)
    ∧ (∃ (c : Nat) (b : Nat) (s : State), c < 2 ∧ s.canSend c = true ∧ (s.feedTx c).flag .CAN_STAT_LONE c = false ∧ (s.feedTx c).chooseTxb c [1] = some b)
    ∧ (∃ (c : Nat) (b : Nat) (m : Nat) (s : State), c < 2 ∧ s.canSend c = true ∧ s.flag .CAN_STAT_LONE c = true ∧ m = (s.dt - (s.can c).loneAt) / 100000000 ∧ m ≠ 0 ∧ (s.can c).loneWin < m ∧ ((s.feedTx c).modCan c (fun x => { x with loneWin := m })).chooseTxb c [1, 6] = some b)
    ∧ (∃ (c : Nat) (b : Nat) (stamp : Nat) (d : Nat) (s : State), c < 2 ∧ s.canOn c = true ∧ s.flag .CAN_STAT_TX_ACTIVE c = true ∧ (s.txbIn c [2]).head? = some b ∧ ((s.txFrame c b).brs = false ∨ s.flag .CAN_CTL_TDC_EN c = false ∨ s.get .CAN_STAT_MODE_NOW c = 3))
    ∧ (∃ (c : Nat) (b : Nat) (stamp : Nat) (d : Nat) (s : State), c < 2 ∧ s.canOn c = true ∧ s.flag .CAN_STAT_TX_ACTIVE c = true ∧ (s.txbIn c [2]).head? = some b ∧ s.get .CAN_STAT_MODE_NOW c ≠ 3)
    ∧ (∃ (c : Nat) (b : Nat) (stamp : Nat) (d : Nat) (dom : Bool) (s : State), c < 2 ∧ s.canOn c = true ∧ s.flag .CAN_STAT_TX_ACTIVE c = true ∧ (s.txbIn c [2]).head? = some b ∧ s.get .CAN_STAT_MODE_NOW c ≠ 3 ∧ ((s.txFrame c b).brs = false ∨ s.flag .CAN_CTL_TDC_EN c = false))
    ∧ (∃ (c : Nat) (b : Nat) (stamp : Nat) (d : Nat) (lec : Nat) (n : Nat) (dp : Bool) (s : State), c < 2 ∧ s.canOn c = true ∧ s.flag .CAN_STAT_TX_ACTIVE c = true ∧ (s.txbIn c [2]).head? = some b ∧ ((s.txFrame c b).brs = false ∨ s.flag .CAN_CTL_TDC_EN c = false ∨ s.get .CAN_STAT_MODE_NOW c = 3))
    ∧ (∃ (c : Nat) (b : Nat) (stamp : Nat) (d : Nat) (s : State), c < 2 ∧ s.canOn c = true ∧ s.flag .CAN_STAT_TX_ACTIVE c = true ∧ (s.txbIn c [2]).head? = some b ∧ (s.txFrame c b).brs = true ∧ s.flag .CAN_CTL_TDC_EN c = true ∧ s.get .CAN_STAT_MODE_NOW c ≠ 3 ∧ d + s.get .CAN_TDC_TDCO c ≤ 127)
    ∧ (∃ (c : Nat) (b : Nat) (stamp : Nat) (d : Nat) (dom : Bool) (s : State), c < 2 ∧ s.canOn c = true ∧ s.flag .CAN_STAT_TX_ACTIVE c = true ∧ (s.txbIn c [2]).head? = some b ∧ (s.txFrame c b).brs = true ∧ s.flag .CAN_CTL_TDC_EN c = true ∧ s.get .CAN_STAT_MODE_NOW c ≠ 3 ∧ d + s.get .CAN_TDC_TDCO c ≤ 127)
    ∧ (∃ (c : Nat) (b : Nat) (stamp : Nat) (d : Nat) (lec : Nat) (n : Nat) (dp : Bool) (s : State), c < 2 ∧ s.canOn c = true ∧ s.flag .CAN_STAT_TX_ACTIVE c = true ∧ (s.txbIn c [2]).head? = some b ∧ (s.txFrame c b).brs = true ∧ s.flag .CAN_CTL_TDC_EN c = true ∧ s.get .CAN_STAT_MODE_NOW c ≠ 3 ∧ (dp = true ∨ d ≠ 0) ∧ d + s.get .CAN_TDC_TDCO c ≤ 127)
    ∧ (∃ (c : Nat) (b : Nat) (stamp : Nat) (d : Nat) (s : State), c < 2 ∧ s.canOn c = true ∧ s.flag .CAN_STAT_TX_ACTIVE c = true ∧ (s.txbIn c [2]).head? = some b ∧ (s.txFrame c b).brs = true ∧ s.flag .CAN_CTL_TDC_EN c = true ∧ s.get .CAN_STAT_MODE_NOW c ≠ 3 ∧ 127 < d + s.get .CAN_TDC_TDCO c)
    ∧ (∃ (c : Nat) (lec : Nat) (n : Nat) (dp : Bool) (s : State), c < 2 ∧ s.canHears c = true)
    ∧ (∃ (c : Nat) (stamp : Nat) (f : CanFrame) (s : State), c < 2 ∧ s.canHears c = true ∧ (f.fdf = false ∨ (s.flag .CAN_CTL_FD_EN c = true ∧ f.rtr = false)) ∧ s.get .CAN_ERR_REC c ≤ 127)
    ∧ (∃ (c : Nat) (stamp : Nat) (f : CanFrame) (s : State), c < 2 ∧ s.canHears c = true ∧ (f.fdf = false ∨ (s.flag .CAN_CTL_FD_EN c = true ∧ f.rtr = false)) ∧ 127 < s.get .CAN_ERR_REC c)
    ∧ (∃ (c : Nat) (stamp : Nat) (f : CanFrame) (s : State), c < 2 ∧ s.canHears c = true ∧ f.fdf = true ∧ (s.flag .CAN_CTL_FD_EN c = false ∨ f.rtr = true))
    ∧ (∃ (c : Nat) (n : Nat) (s : State), c < 2 ∧ s.canOn c = true ∧ s.get .CAN_STAT_ESTATE c = 2 ∧ s.get .CAN_STAT_MODE_NOW c ≠ 0 ∧ 128 ≤ n ∧ (s.flag .CAN_CTL_AUTO_RECOVER c = true ∨ (s.can c).recover = true)) :=
  ⟨⟨0, 11, mk [(.DOM_STAT_STATE, 30, 0), (.PWRD_CLK_TCLK_RUN, 0, 1), (.CAN_CTL_USE, 0, 1), (.CAN_STAT_MODE_NOW, 0, 1)], by decide +kernel⟩,
   ⟨0, 1, (mk [(.DOM_STAT_STATE, 30, 0), (.PWRD_CLK_TCLK_RUN, 0, 1), (.CAN_CTL_USE, 0, 1), (.CAN_STAT_SYNCED, 0, 1), (.CAN_STAT_MODE_NOW, 0, 1), (.CAN_STAT_BUS_IDLE, 0, 1)]).setTxb 0 1 1, by decide +kernel⟩,
   ⟨0, 1, 1, { (mk [(.DOM_STAT_STATE, 30, 0), (.PWRD_CLK_TCLK_RUN, 0, 1), (.CAN_CTL_USE, 0, 1), (.CAN_STAT_SYNCED, 0, 1), (.CAN_STAT_MODE_NOW, 0, 1), (.CAN_STAT_BUS_IDLE, 0, 1), (.CAN_STAT_LONE, 0, 1)]).setTxb 0 1 6 with dt := 100000000 }, by decide +kernel⟩,
   ⟨0, 1, 77, 0, (mk [(.DOM_STAT_STATE, 30, 0), (.PWRD_CLK_TCLK_RUN, 0, 1), (.CAN_CTL_USE, 0, 1), (.CAN_STAT_SYNCED, 0, 1), (.CAN_STAT_MODE_NOW, 0, 1), (.CAN_STAT_BUS_IDLE, 0, 1), (.CAN_STAT_TX_ACTIVE, 0, 1)]).setTxb 0 1 2, by decide +kernel⟩,
   ⟨0, 1, 77, 0, (mk [(.DOM_STAT_STATE, 30, 0), (.PWRD_CLK_TCLK_RUN, 0, 1), (.CAN_CTL_USE, 0, 1), (.CAN_STAT_SYNCED, 0, 1), (.CAN_STAT_MODE_NOW, 0, 1), (.CAN_STAT_BUS_IDLE, 0, 1), (.CAN_STAT_TX_ACTIVE, 0, 1)]).setTxb 0 1 2, by decide +kernel⟩,
   ⟨0, 1, 77, 0, true, (mk [(.DOM_STAT_STATE, 30, 0), (.PWRD_CLK_TCLK_RUN, 0, 1), (.CAN_CTL_USE, 0, 1), (.CAN_STAT_SYNCED, 0, 1), (.CAN_STAT_MODE_NOW, 0, 1), (.CAN_STAT_BUS_IDLE, 0, 1), (.CAN_STAT_TX_ACTIVE, 0, 1)]).setTxb 0 1 2, by decide +kernel⟩,
   ⟨0, 1, 77, 0, 5, 1, true, (mk [(.DOM_STAT_STATE, 30, 0), (.PWRD_CLK_TCLK_RUN, 0, 1), (.CAN_CTL_USE, 0, 1), (.CAN_STAT_SYNCED, 0, 1), (.CAN_STAT_MODE_NOW, 0, 1), (.CAN_STAT_BUS_IDLE, 0, 1), (.CAN_STAT_TX_ACTIVE, 0, 1)]).setTxb 0 1 2, by decide +kernel⟩,
   ⟨0, 1, 77, 100, (mk [(.DOM_STAT_STATE, 30, 0), (.PWRD_CLK_TCLK_RUN, 0, 1), (.CAN_CTL_USE, 0, 1), (.CAN_STAT_SYNCED, 0, 1), (.CAN_STAT_MODE_NOW, 0, 1), (.CAN_STAT_BUS_IDLE, 0, 1), (.CAN_STAT_TX_ACTIVE, 0, 1), (.CAN_CTL_TDC_EN, 0, 1), (.CAN_TDC_TDCO, 0, 27), (.CAN_CTL_FD_EN, 0, 1), (.TXB_FDF, 1, 1), (.TXB_BRS, 1, 1)]).setTxb 0 1 2, by decide +kernel⟩,
   ⟨0, 1, 77, 100, true, (mk [(.DOM_STAT_STATE, 30, 0), (.PWRD_CLK_TCLK_RUN, 0, 1), (.CAN_CTL_USE, 0, 1), (.CAN_STAT_SYNCED, 0, 1), (.CAN_STAT_MODE_NOW, 0, 1), (.CAN_STAT_BUS_IDLE, 0, 1), (.CAN_STAT_TX_ACTIVE, 0, 1), (.CAN_CTL_TDC_EN, 0, 1), (.CAN_TDC_TDCO, 0, 27), (.CAN_CTL_FD_EN, 0, 1), (.TXB_FDF, 1, 1), (.TXB_BRS, 1, 1)]).setTxb 0 1 2, by decide +kernel⟩,
   ⟨0, 1, 77, 100, 5, 1, true, (mk [(.DOM_STAT_STATE, 30, 0), (.PWRD_CLK_TCLK_RUN, 0, 1), (.CAN_CTL_USE, 0, 1), (.CAN_STAT_SYNCED, 0, 1), (.CAN_STAT_MODE_NOW, 0, 1), (.CAN_STAT_BUS_IDLE, 0, 1), (.CAN_STAT_TX_ACTIVE, 0, 1), (.CAN_CTL_TDC_EN, 0, 1), (.CAN_TDC_TDCO, 0, 27), (.CAN_CTL_FD_EN, 0, 1), (.TXB_FDF, 1, 1), (.TXB_BRS, 1, 1)]).setTxb 0 1 2, by decide +kernel⟩,
   ⟨0, 1, 77, 101, (mk [(.DOM_STAT_STATE, 30, 0), (.PWRD_CLK_TCLK_RUN, 0, 1), (.CAN_CTL_USE, 0, 1), (.CAN_STAT_SYNCED, 0, 1), (.CAN_STAT_MODE_NOW, 0, 1), (.CAN_STAT_BUS_IDLE, 0, 1), (.CAN_STAT_TX_ACTIVE, 0, 1), (.CAN_CTL_TDC_EN, 0, 1), (.CAN_TDC_TDCO, 0, 27), (.CAN_CTL_FD_EN, 0, 1), (.TXB_FDF, 1, 1), (.TXB_BRS, 1, 1)]).setTxb 0 1 2, by decide +kernel⟩,
   ⟨0, 5, 1, true, mk [(.DOM_STAT_STATE, 30, 0), (.PWRD_CLK_TCLK_RUN, 0, 1), (.CAN_CTL_USE, 0, 1), (.CAN_STAT_SYNCED, 0, 1), (.CAN_STAT_MODE_NOW, 0, 1), (.CAN_STAT_BUS_IDLE, 0, 1)], by decide +kernel⟩,
   ⟨0, 77, { id := 5, ide := false, fdf := false, brs := false, rtr := false, esi := false, dlc := 1, data := [9] }, mk [(.DOM_STAT_STATE, 30, 0), (.PWRD_CLK_TCLK_RUN, 0, 1), (.CAN_CTL_USE, 0, 1), (.CAN_STAT_SYNCED, 0, 1), (.CAN_STAT_MODE_NOW, 0, 1), (.CAN_STAT_BUS_IDLE, 0, 1)], by decide +kernel⟩,
   ⟨0, 77, { id := 5, ide := false, fdf := false, brs := false, rtr := false, esi := false, dlc := 1, data := [9] }, mk [(.DOM_STAT_STATE, 30, 0), (.PWRD_CLK_TCLK_RUN, 0, 1), (.CAN_CTL_USE, 0, 1), (.CAN_STAT_SYNCED, 0, 1), (.CAN_STAT_MODE_NOW, 0, 1), (.CAN_STAT_BUS_IDLE, 0, 1), (.CAN_ERR_REC, 0, 128)], by decide +kernel⟩,
   ⟨0, 77, { id := 5, ide := false, fdf := true, brs := false, rtr := true, esi := false, dlc := 1, data := [9] }, mk [(.DOM_STAT_STATE, 30, 0), (.PWRD_CLK_TCLK_RUN, 0, 1), (.CAN_CTL_USE, 0, 1), (.CAN_STAT_SYNCED, 0, 1), (.CAN_STAT_MODE_NOW, 0, 1), (.CAN_STAT_BUS_IDLE, 0, 1)], by decide +kernel⟩,
   ⟨0, 128, mk [(.DOM_STAT_STATE, 30, 0), (.PWRD_CLK_TCLK_RUN, 0, 1), (.CAN_CTL_USE, 0, 1), (.CAN_STAT_SYNCED, 0, 1), (.CAN_STAT_MODE_NOW, 0, 1), (.CAN_STAT_BUS_IDLE, 0, 1), (.CAN_STAT_ESTATE, 0, 2), (.CAN_CTL_AUTO_RECOVER, 0, 1)], by decide +kernel⟩⟩

theorem witness_MembershipEvents :
    (∃ (s : State), s.hier.st = some 3 ∧ s.hier.conflict = false ∧ s.hier.listened = false ∧ s.hier.tj + 20000000 ≤ s.dt)
    ∧ (∃ (s : State), s.hier.st = some 3 ∧ s.hier.conflict = false ∧ s.hier.heard = false ∧ s.hier.tj + 1000000000 ≤ s.dt)
    ∧ (∃ (s : State), s.beats = true ∧ s.hier.hbTick < s.clock / 10000000)
    ∧ (∃ (m : HMsg) (s : State) (t : State), Safety.heardAs tHEARTBEAT m s t ∧ m.dst = 63 ∧ t.hier.st = some 0 ∧ m.src = t.hier.mgr)
    ∧ (∃ (m : HMsg) (s : State) (t : State), Safety.heardAs tHEARTBEAT m s t ∧ m.dst = 63 ∧ t.hier.st = some 1)
    ∧ (∃ (m : HMsg) (s : State) (t : State), Safety.heardAs tHEARTBEAT m s t ∧ m.dst = 63 ∧ t.hier.st = some 4)
    ∧ (∃ (m : HMsg) (s : State) (t : State), Safety.heardAs tHEARTBEAT m s t ∧ m.dst = 63 ∧ t.hier.st = some 3)
    ∧ (∃ (s : State), s.hier.st = some 0 ∧ s.hier.lastHb + 30000000 ≤ s.dt)
    ∧ (∃ (m : HMsg) (s : State) (t : State), Safety.heardAs tELECT m s t ∧ t.hier.st = some 4 ∧ t.hier.candidate = true ∧ better m.src m.seg t.hier.rank t.idx = true)
    ∧ (∃ (m : HMsg) (s : State) (t : State), Safety.heardAs tELECT m s t ∧ t.hier.st = some 3)
    ∧ (∃ (s : State), s.hier.st = some 4 ∧ s.hier.tL + 20000000 ≤ s.dt ∧ s.hier.frames = false)
    ∧ (∃ (s : State), s.hier.st = some 4 ∧ s.hier.tL + 20000000 ≤ s.dt ∧ s.hier.frames = true ∧ s.hier.candidate = true)
    ∧ (∃ (s : State), s.hier.st = some 4 ∧ s.hier.frames = true ∧ s.hier.tL + 30000000 ≤ s.dt)
    ∧ (∃ (m : HMsg) (s : State) (t : State), Safety.heardAs tANNOUNCE m s t ∧ t.hier.st = some 0 ∧ m.src = t.hier.mgr)
    ∧ (∃ (m : HMsg) (s : State) (t : State), Safety.heardAs tANNOUNCE m s t ∧ t.hier.st = some 3)
    ∧ (∃ (m : HMsg) (s : State) (t : State), Safety.heardAs tANNOUNCE m s t ∧ t.hier.st = some 4)
    ∧ (∃ (m : HMsg) (s : State) (t : State), Safety.heardAs tANNOUNCE m s t ∧ t.hier.st = some 1)
    ∧ (∃ (m : HMsg) (s : State) (t : State), Safety.heardAs tJOIN m s t ∧ t.forMe m = true ∧ t.hier.st = some 1 ∧ t.presentWorker m.src = true)
    ∧ (∃ (m : HMsg) (s : State) (t : State), Safety.heardAs tJOIN m s t ∧ t.forMe m = true ∧ t.hier.st = some 1 ∧ t.presentWorker m.src = false)
    ∧ (∃ (m : HMsg) (s : State) (t : State), Safety.heardAs tJOIN_ACK m s t ∧ t.forMe m = true ∧ t.hier.st = some 3 ∧ m.u8 0 = 0)
    ∧ (∃ (m : HMsg) (s : State) (t : State), Safety.heardAs tLEAVE m s t ∧ t.forMe m = true ∧ t.presentWorker m.src = true)
    ∧ (∃ (w : Nat) (s : State), w = s.wsSlot ∧ s.hier.st = some 0 ∧ s.hier.mgr < 64 ∧ s.hier.wsTick < w)
    ∧ (∃ (m : HMsg) (s : State) (t : State), Safety.heardAs tWSTATUS m s t ∧ t.forMe m = true ∧ (t.hier.st = some 1 ∨ t.hier.st = some 2))
    ∧ (∃ (i : Nat) (s : State), (s.hier.st = some 1 ∨ s.hier.st = some 2) ∧ s.hier.members.any (fun m => m.idx == i && !m.absent && m.last + 300000000 ≤ s.dt) = true) :=
  ⟨⟨{ mk [(.CAN_CTL_USE, 0, 0), (.CAN_CTL_USE, 1, 2), (.DOM_STAT_STATE, 30, 0), (.CAN_STAT_MODE_NOW, 0, 1), (.PWRD_CLK_TCLK_RUN, 0, 1)] with hier := { st := some 3 }, dt := 20000000 }, by decide +kernel⟩,
   ⟨{ mk [(.CAN_CTL_USE, 0, 0), (.CAN_CTL_USE, 1, 2), (.DOM_STAT_STATE, 30, 0), (.CAN_STAT_MODE_NOW, 0, 1), (.PWRD_CLK_TCLK_RUN, 0, 1)] with hier := { st := some 3 }, dt := 1000000000 }, by decide +kernel⟩,
   ⟨{ mk [(.CAN_CTL_USE, 0, 0), (.CAN_CTL_USE, 1, 2), (.DOM_STAT_STATE, 30, 0), (.CAN_STAT_MODE_NOW, 0, 1), (.PWRD_CLK_TCLK_RUN, 0, 1)] with hier := { st := some 1 }, dt := 10000000 }, by decide +kernel⟩,
   ⟨{ bus := 0, src := 5, dst := 63, seg := 0, data := [0, 0, 0, 0], stamp := 0 }, { mk [(.CAN_CTL_USE, 0, 0), (.CAN_CTL_USE, 1, 2), (.DOM_STAT_STATE, 30, 0), (.CAN_STAT_MODE_NOW, 0, 1), (.PWRD_CLK_TCLK_RUN, 0, 1)] with hier := { st := some 0, mgr := 5 } }, Safety.heard tHEARTBEAT ({ bus := 0, src := 5, dst := 63, seg := 0, data := [0, 0, 0, 0], stamp := 0 } : HMsg) ({ mk [(.CAN_CTL_USE, 0, 0), (.CAN_CTL_USE, 1, 2), (.DOM_STAT_STATE, 30, 0), (.CAN_STAT_MODE_NOW, 0, 1), (.PWRD_CLK_TCLK_RUN, 0, 1)] with hier := { st := some 0, mgr := 5 } }), ⟨by decide +kernel, by decide +kernel, rfl⟩, by decide +kernel⟩,
   ⟨{ bus := 0, src := 5, dst := 63, seg := 0, data := [0, 0, 0, 0], stamp := 0 }, { mk [(.CAN_CTL_USE, 0, 0), (.CAN_CTL_USE, 1, 2), (.DOM_STAT_STATE, 30, 0), (.CAN_STAT_MODE_NOW, 0, 1), (.PWRD_CLK_TCLK_RUN, 0, 1)] with hier := { st := some 1 } }, Safety.heard tHEARTBEAT ({ bus := 0, src := 5, dst := 63, seg := 0, data := [0, 0, 0, 0], stamp := 0 } : HMsg) ({ mk [(.CAN_CTL_USE, 0, 0), (.CAN_CTL_USE, 1, 2), (.DOM_STAT_STATE, 30, 0), (.CAN_STAT_MODE_NOW, 0, 1), (.PWRD_CLK_TCLK_RUN, 0, 1)] with hier := { st := some 1 } }), ⟨by decide +kernel, by decide +kernel, rfl⟩, by decide +kernel⟩,
   ⟨{ bus := 0, src := 5, dst := 63, seg := 0, data := [0, 0, 0, 0], stamp := 0 }, { mk [(.CAN_CTL_USE, 0, 0), (.CAN_CTL_USE, 1, 2), (.DOM_STAT_STATE, 30, 0), (.CAN_STAT_MODE_NOW, 0, 1), (.PWRD_CLK_TCLK_RUN, 0, 1)] with hier := { st := some 4 } }, Safety.heard tHEARTBEAT ({ bus := 0, src := 5, dst := 63, seg := 0, data := [0, 0, 0, 0], stamp := 0 } : HMsg) ({ mk [(.CAN_CTL_USE, 0, 0), (.CAN_CTL_USE, 1, 2), (.DOM_STAT_STATE, 30, 0), (.CAN_STAT_MODE_NOW, 0, 1), (.PWRD_CLK_TCLK_RUN, 0, 1)] with hier := { st := some 4 } }), ⟨by decide +kernel, by decide +kernel, rfl⟩, by decide +kernel⟩,
   ⟨{ bus := 0, src := 5, dst := 63, seg := 0, data := [0, 0, 0, 0], stamp := 0 }, { mk [(.CAN_CTL_USE, 0, 0), (.CAN_CTL_USE, 1, 2), (.DOM_STAT_STATE, 30, 0), (.CAN_STAT_MODE_NOW, 0, 1), (.PWRD_CLK_TCLK_RUN, 0, 1)] with hier := { st := some 3 } }, Safety.heard tHEARTBEAT ({ bus := 0, src := 5, dst := 63, seg := 0, data := [0, 0, 0, 0], stamp := 0 } : HMsg) ({ mk [(.CAN_CTL_USE, 0, 0), (.CAN_CTL_USE, 1, 2), (.DOM_STAT_STATE, 30, 0), (.CAN_STAT_MODE_NOW, 0, 1), (.PWRD_CLK_TCLK_RUN, 0, 1)] with hier := { st := some 3 } }), ⟨by decide +kernel, by decide +kernel, rfl⟩, by decide +kernel⟩,
   ⟨{ mk [(.CAN_CTL_USE, 0, 0), (.CAN_CTL_USE, 1, 2), (.DOM_STAT_STATE, 30, 0), (.CAN_STAT_MODE_NOW, 0, 1), (.PWRD_CLK_TCLK_RUN, 0, 1)] with hier := { st := some 0 }, dt := 30000000 }, by decide +kernel⟩,
   ⟨{ bus := 0, src := 3, dst := 63, seg := 7, data := [], stamp := 0 }, { mk [(.CAN_CTL_USE, 0, 0), (.CAN_CTL_USE, 1, 2), (.DOM_STAT_STATE, 30, 0), (.CAN_STAT_MODE_NOW, 0, 1), (.PWRD_CLK_TCLK_RUN, 0, 1)] with hier := { st := some 4, candidate := true } }, Safety.heard tELECT ({ bus := 0, src := 3, dst := 63, seg := 7, data := [], stamp := 0 } : HMsg) ({ mk [(.CAN_CTL_USE, 0, 0), (.CAN_CTL_USE, 1, 2), (.DOM_STAT_STATE, 30, 0), (.CAN_STAT_MODE_NOW, 0, 1), (.PWRD_CLK_TCLK_RUN, 0, 1)] with hier := { st := some 4, candidate := true } }), ⟨by decide +kernel, by decide +kernel, rfl⟩, by decide +kernel⟩,
   ⟨{ bus := 0, src := 3, dst := 63, seg := 7, data := [], stamp := 0 }, { mk [(.CAN_CTL_USE, 0, 0), (.CAN_CTL_USE, 1, 2), (.DOM_STAT_STATE, 30, 0), (.CAN_STAT_MODE_NOW, 0, 1), (.PWRD_CLK_TCLK_RUN, 0, 1)] with hier := { st := some 3 } }, Safety.heard tELECT ({ bus := 0, src := 3, dst := 63, seg := 7, data := [], stamp := 0 } : HMsg) ({ mk [(.CAN_CTL_USE, 0, 0), (.CAN_CTL_USE, 1, 2), (.DOM_STAT_STATE, 30, 0), (.CAN_STAT_MODE_NOW, 0, 1), (.PWRD_CLK_TCLK_RUN, 0, 1)] with hier := { st := some 3 } }), ⟨by decide +kernel, by decide +kernel, rfl⟩, by decide +kernel⟩,
   ⟨{ mk [(.CAN_CTL_USE, 0, 0), (.CAN_CTL_USE, 1, 2), (.DOM_STAT_STATE, 30, 0), (.CAN_STAT_MODE_NOW, 0, 1), (.PWRD_CLK_TCLK_RUN, 0, 1)] with hier := { st := some 4 }, dt := 20000000 }, by decide +kernel⟩,
   ⟨{ mk [(.CAN_CTL_USE, 0, 0), (.CAN_CTL_USE, 1, 2), (.DOM_STAT_STATE, 30, 0), (.CAN_STAT_MODE_NOW, 0, 1), (.PWRD_CLK_TCLK_RUN, 0, 1)] with hier := { st := some 4, frames := true, candidate := true }, dt := 20000000 }, by decide +kernel⟩,
   ⟨{ mk [(.CAN_CTL_USE, 0, 0), (.CAN_CTL_USE, 1, 2), (.DOM_STAT_STATE, 30, 0), (.CAN_STAT_MODE_NOW, 0, 1), (.PWRD_CLK_TCLK_RUN, 0, 1)] with hier := { st := some 4, frames := true }, dt := 30000000 }, by decide +kernel⟩,
   ⟨{ bus := 0, src := 5, dst := 63, seg := 0, data := [0], stamp := 0 }, { mk [(.CAN_CTL_USE, 0, 0), (.CAN_CTL_USE, 1, 2), (.DOM_STAT_STATE, 30, 0), (.CAN_STAT_MODE_NOW, 0, 1), (.PWRD_CLK_TCLK_RUN, 0, 1)] with hier := { st := some 0, mgr := 5 } }, Safety.heard tANNOUNCE ({ bus := 0, src := 5, dst := 63, seg := 0, data := [0], stamp := 0 } : HMsg) ({ mk [(.CAN_CTL_USE, 0, 0), (.CAN_CTL_USE, 1, 2), (.DOM_STAT_STATE, 30, 0), (.CAN_STAT_MODE_NOW, 0, 1), (.PWRD_CLK_TCLK_RUN, 0, 1)] with hier := { st := some 0, mgr := 5 } }), ⟨by decide +kernel, by decide +kernel, rfl⟩, by decide +kernel⟩,
   ⟨{ bus := 0, src := 5, dst := 63, seg := 0, data := [0], stamp := 0 }, { mk [(.CAN_CTL_USE, 0, 0), (.CAN_CTL_USE, 1, 2), (.DOM_STAT_STATE, 30, 0), (.CAN_STAT_MODE_NOW, 0, 1), (.PWRD_CLK_TCLK_RUN, 0, 1)] with hier := { st := some 3 } }, Safety.heard tANNOUNCE ({ bus := 0, src := 5, dst := 63, seg := 0, data := [0], stamp := 0 } : HMsg) ({ mk [(.CAN_CTL_USE, 0, 0), (.CAN_CTL_USE, 1, 2), (.DOM_STAT_STATE, 30, 0), (.CAN_STAT_MODE_NOW, 0, 1), (.PWRD_CLK_TCLK_RUN, 0, 1)] with hier := { st := some 3 } }), ⟨by decide +kernel, by decide +kernel, rfl⟩, by decide +kernel⟩,
   ⟨{ bus := 0, src := 5, dst := 63, seg := 0, data := [0], stamp := 0 }, { mk [(.CAN_CTL_USE, 0, 0), (.CAN_CTL_USE, 1, 2), (.DOM_STAT_STATE, 30, 0), (.CAN_STAT_MODE_NOW, 0, 1), (.PWRD_CLK_TCLK_RUN, 0, 1)] with hier := { st := some 4 } }, Safety.heard tANNOUNCE ({ bus := 0, src := 5, dst := 63, seg := 0, data := [0], stamp := 0 } : HMsg) ({ mk [(.CAN_CTL_USE, 0, 0), (.CAN_CTL_USE, 1, 2), (.DOM_STAT_STATE, 30, 0), (.CAN_STAT_MODE_NOW, 0, 1), (.PWRD_CLK_TCLK_RUN, 0, 1)] with hier := { st := some 4 } }), ⟨by decide +kernel, by decide +kernel, rfl⟩, by decide +kernel⟩,
   ⟨{ bus := 0, src := 5, dst := 63, seg := 0, data := [0], stamp := 0 }, { mk [(.CAN_CTL_USE, 0, 0), (.CAN_CTL_USE, 1, 2), (.DOM_STAT_STATE, 30, 0), (.CAN_STAT_MODE_NOW, 0, 1), (.PWRD_CLK_TCLK_RUN, 0, 1)] with hier := { st := some 1 } }, Safety.heard tANNOUNCE ({ bus := 0, src := 5, dst := 63, seg := 0, data := [0], stamp := 0 } : HMsg) ({ mk [(.CAN_CTL_USE, 0, 0), (.CAN_CTL_USE, 1, 2), (.DOM_STAT_STATE, 30, 0), (.CAN_STAT_MODE_NOW, 0, 1), (.PWRD_CLK_TCLK_RUN, 0, 1)] with hier := { st := some 1 } }), ⟨by decide +kernel, by decide +kernel, rfl⟩, by decide +kernel⟩,
   ⟨{ bus := 0, src := 5, dst := 0, seg := 0, data := [0], stamp := 0 }, { mk [(.CAN_CTL_USE, 0, 0), (.CAN_CTL_USE, 1, 2), (.DOM_STAT_STATE, 30, 0), (.CAN_STAT_MODE_NOW, 0, 1), (.PWRD_CLK_TCLK_RUN, 0, 1)] with hier := { st := some 1, members := [{ idx := 5 }] } }, Safety.heard tJOIN ({ bus := 0, src := 5, dst := 0, seg := 0, data := [0], stamp := 0 } : HMsg) ({ mk [(.CAN_CTL_USE, 0, 0), (.CAN_CTL_USE, 1, 2), (.DOM_STAT_STATE, 30, 0), (.CAN_STAT_MODE_NOW, 0, 1), (.PWRD_CLK_TCLK_RUN, 0, 1)] with hier := { st := some 1, members := [{ idx := 5 }] } }), ⟨by decide +kernel, by decide +kernel, rfl⟩, by decide +kernel⟩,
   ⟨{ bus := 0, src := 5, dst := 0, seg := 0, data := [0], stamp := 0 }, { mk [(.CAN_CTL_USE, 0, 0), (.CAN_CTL_USE, 1, 2), (.DOM_STAT_STATE, 30, 0), (.CAN_STAT_MODE_NOW, 0, 1), (.PWRD_CLK_TCLK_RUN, 0, 1)] with hier := { st := some 1 } }, Safety.heard tJOIN ({ bus := 0, src := 5, dst := 0, seg := 0, data := [0], stamp := 0 } : HMsg) ({ mk [(.CAN_CTL_USE, 0, 0), (.CAN_CTL_USE, 1, 2), (.DOM_STAT_STATE, 30, 0), (.CAN_STAT_MODE_NOW, 0, 1), (.PWRD_CLK_TCLK_RUN, 0, 1)] with hier := { st := some 1 } }), ⟨by decide +kernel, by decide +kernel, rfl⟩, by decide +kernel⟩,
   ⟨{ bus := 0, src := 5, dst := 0, seg := 0, data := [0], stamp := 0 }, { mk [(.CAN_CTL_USE, 0, 0), (.CAN_CTL_USE, 1, 2), (.DOM_STAT_STATE, 30, 0), (.CAN_STAT_MODE_NOW, 0, 1), (.PWRD_CLK_TCLK_RUN, 0, 1)] with hier := { st := some 3 } }, Safety.heard tJOIN_ACK ({ bus := 0, src := 5, dst := 0, seg := 0, data := [0], stamp := 0 } : HMsg) ({ mk [(.CAN_CTL_USE, 0, 0), (.CAN_CTL_USE, 1, 2), (.DOM_STAT_STATE, 30, 0), (.CAN_STAT_MODE_NOW, 0, 1), (.PWRD_CLK_TCLK_RUN, 0, 1)] with hier := { st := some 3 } }), ⟨by decide +kernel, by decide +kernel, rfl⟩, by decide +kernel⟩,
   ⟨{ bus := 0, src := 5, dst := 0, seg := 0, data := [2], stamp := 0 }, { mk [(.CAN_CTL_USE, 0, 0), (.CAN_CTL_USE, 1, 2), (.DOM_STAT_STATE, 30, 0), (.CAN_STAT_MODE_NOW, 0, 1), (.PWRD_CLK_TCLK_RUN, 0, 1)] with hier := { st := some 1, members := [{ idx := 5 }] } }, Safety.heard tLEAVE ({ bus := 0, src := 5, dst := 0, seg := 0, data := [2], stamp := 0 } : HMsg) ({ mk [(.CAN_CTL_USE, 0, 0), (.CAN_CTL_USE, 1, 2), (.DOM_STAT_STATE, 30, 0), (.CAN_STAT_MODE_NOW, 0, 1), (.PWRD_CLK_TCLK_RUN, 0, 1)] with hier := { st := some 1, members := [{ idx := 5 }] } }), ⟨by decide +kernel, by decide +kernel, rfl⟩, by decide +kernel⟩,
   ⟨1, { mk [(.CAN_CTL_USE, 0, 0), (.CAN_CTL_USE, 1, 2), (.DOM_STAT_STATE, 30, 0), (.CAN_STAT_MODE_NOW, 0, 1), (.PWRD_CLK_TCLK_RUN, 0, 1)] with hier := { st := some 0, mgr := 5 }, dt := 100000000 }, by decide +kernel⟩,
   ⟨{ bus := 0, src := 5, dst := 0, seg := 0, data := [2], stamp := 0 }, { mk [(.CAN_CTL_USE, 0, 0), (.CAN_CTL_USE, 1, 2), (.DOM_STAT_STATE, 30, 0), (.CAN_STAT_MODE_NOW, 0, 1), (.PWRD_CLK_TCLK_RUN, 0, 1)] with hier := { st := some 1 } }, Safety.heard tWSTATUS ({ bus := 0, src := 5, dst := 0, seg := 0, data := [2], stamp := 0 } : HMsg) ({ mk [(.CAN_CTL_USE, 0, 0), (.CAN_CTL_USE, 1, 2), (.DOM_STAT_STATE, 30, 0), (.CAN_STAT_MODE_NOW, 0, 1), (.PWRD_CLK_TCLK_RUN, 0, 1)] with hier := { st := some 1 } }), ⟨by decide +kernel, by decide +kernel, rfl⟩, by decide +kernel⟩,
   ⟨5, { mk [(.CAN_CTL_USE, 0, 0), (.CAN_CTL_USE, 1, 2), (.DOM_STAT_STATE, 30, 0), (.CAN_STAT_MODE_NOW, 0, 1), (.PWRD_CLK_TCLK_RUN, 0, 1)] with hier := { st := some 1, members := [{ idx := 5 }] }, dt := 300000000 }, by decide +kernel⟩⟩

theorem witness_DeviceTimeEvents :
    (∃ (s : State), s.hier.st = some 1 ∧ s.hier.tsTick < s.clock / 125000000)
    ∧ (∃ (m : HMsg) (s : State) (t : State), Safety.heardAs tTSYNC m s t ∧ t.fromMgr m = true)
    ∧ (∃ (b : Nat) (t1 : Nat) (s : State), s.hier.tsSent.getD b none = some t1 ∧ s.hier.st = some 1 ∧ b < 2)
    ∧ (∃ (m : HMsg) (t2 : Nat) (v : State) (s : State) (t : State), Safety.heardAs tTFOLLOW m s t ∧ v = t.followLoss ∧ v.fromMgr m = true ∧ v.hier.lastFseq ≠ some (m.u8 0) ∧ v.hier.tsStamp.getD m.bus none = some (m.u8 0, t2))
    ∧ (∃ (d : Nat) (s : State), s.hier.dreqAt = some d ∧ s.hier.st = some 0 ∧ s.hier.mgr < 64 ∧ d ≤ s.dt)
    ∧ (∃ (m : HMsg) (a : Nat) (s : State) (t : State), Safety.heardAs tDREQ m s t ∧ t.forMe m = true ∧ t.hier.st = some 1)
    ∧ (∃ (m : HMsg) (a : Int) (t3 : Nat) (s : State) (t : State), Safety.heardAs tDRESP m s t ∧ t.fromMgr m = true ∧ t.forMe m = true ∧ m.u8 0 = t.hier.dreqSeq ∧ t.hier.aDiff = some a ∧ t.hier.dreqStamp = some t3)
    ∧ (∃ (s : State), s.flag .TIME_STAT_LOCKED = true ∧ s.hier.lastFollow + 500000000 ≤ s.dt) :=
  ⟨⟨{ mk [(.CAN_CTL_USE, 0, 0), (.CAN_CTL_USE, 1, 2), (.DOM_STAT_STATE, 30, 0), (.CAN_STAT_MODE_NOW, 0, 1), (.PWRD_CLK_TCLK_RUN, 0, 1)] with hier := { st := some 1 }, dt := 125000000 }, by decide +kernel⟩,
   ⟨{ bus := 0, src := 5, dst := 63, seg := 0, data := [2, 0, 0, 0], stamp := 0 }, { mk [(.CAN_CTL_USE, 0, 0), (.CAN_CTL_USE, 1, 2), (.DOM_STAT_STATE, 30, 0), (.CAN_STAT_MODE_NOW, 0, 1), (.PWRD_CLK_TCLK_RUN, 0, 1)] with hier := { st := some 0, mgr := 5 } }, Safety.heard tTSYNC ({ bus := 0, src := 5, dst := 63, seg := 0, data := [2, 0, 0, 0], stamp := 0 } : HMsg) ({ mk [(.CAN_CTL_USE, 0, 0), (.CAN_CTL_USE, 1, 2), (.DOM_STAT_STATE, 30, 0), (.CAN_STAT_MODE_NOW, 0, 1), (.PWRD_CLK_TCLK_RUN, 0, 1)] with hier := { st := some 0, mgr := 5 } }), ⟨by decide +kernel, by decide +kernel, rfl⟩, by decide +kernel⟩,
   ⟨0, 77, { mk [(.CAN_CTL_USE, 0, 0), (.CAN_CTL_USE, 1, 2), (.DOM_STAT_STATE, 30, 0), (.CAN_STAT_MODE_NOW, 0, 1), (.PWRD_CLK_TCLK_RUN, 0, 1)] with hier := { st := some 1, tsSent := [some 77, none] } }, by decide +kernel⟩,
   ⟨{ bus := 0, src := 5, dst := 63, seg := 0, data := [2], stamp := 0 }, 99, (Safety.heard tTFOLLOW ({ bus := 0, src := 5, dst := 63, seg := 0, data := [2], stamp := 0 } : HMsg) ({ mk [(.CAN_CTL_USE, 0, 0), (.CAN_CTL_USE, 1, 2), (.DOM_STAT_STATE, 30, 0), (.CAN_STAT_MODE_NOW, 0, 1), (.PWRD_CLK_TCLK_RUN, 0, 1)] with hier := { st := some 0, mgr := 5, tsStamp := [some (2, 99), none] } })).followLoss, { mk [(.CAN_CTL_USE, 0, 0), (.CAN_CTL_USE, 1, 2), (.DOM_STAT_STATE, 30, 0), (.CAN_STAT_MODE_NOW, 0, 1), (.PWRD_CLK_TCLK_RUN, 0, 1)] with hier := { st := some 0, mgr := 5, tsStamp := [some (2, 99), none] } }, Safety.heard tTFOLLOW ({ bus := 0, src := 5, dst := 63, seg := 0, data := [2], stamp := 0 } : HMsg) ({ mk [(.CAN_CTL_USE, 0, 0), (.CAN_CTL_USE, 1, 2), (.DOM_STAT_STATE, 30, 0), (.CAN_STAT_MODE_NOW, 0, 1), (.PWRD_CLK_TCLK_RUN, 0, 1)] with hier := { st := some 0, mgr := 5, tsStamp := [some (2, 99), none] } }), ⟨by decide +kernel, by decide +kernel, rfl⟩, by decide +kernel⟩,
   ⟨0, { mk [(.CAN_CTL_USE, 0, 0), (.CAN_CTL_USE, 1, 2), (.DOM_STAT_STATE, 30, 0), (.CAN_STAT_MODE_NOW, 0, 1), (.PWRD_CLK_TCLK_RUN, 0, 1)] with hier := { st := some 0, mgr := 5, dreqAt := some 0 } }, by decide +kernel⟩,
   ⟨{ bus := 0, src := 5, dst := 0, seg := 0, data := [2], stamp := 0 }, 0, { mk [(.CAN_CTL_USE, 0, 0), (.CAN_CTL_USE, 1, 2), (.DOM_STAT_STATE, 30, 0), (.CAN_STAT_MODE_NOW, 0, 1), (.PWRD_CLK_TCLK_RUN, 0, 1)] with hier := { st := some 1 } }, Safety.heard tDREQ ({ bus := 0, src := 5, dst := 0, seg := 0, data := [2], stamp := 0 } : HMsg) ({ mk [(.CAN_CTL_USE, 0, 0), (.CAN_CTL_USE, 1, 2), (.DOM_STAT_STATE, 30, 0), (.CAN_STAT_MODE_NOW, 0, 1), (.PWRD_CLK_TCLK_RUN, 0, 1)] with hier := { st := some 1 } }), ⟨by decide +kernel, by decide +kernel, rfl⟩, by decide +kernel⟩,
   ⟨{ bus := 0, src := 5, dst := 0, seg := 0, data := [0], stamp := 0 }, 3, 7, { mk [(.CAN_CTL_USE, 0, 0), (.CAN_CTL_USE, 1, 2), (.DOM_STAT_STATE, 30, 0), (.CAN_STAT_MODE_NOW, 0, 1), (.PWRD_CLK_TCLK_RUN, 0, 1)] with hier := { st := some 0, mgr := 5, aDiff := some 3, dreqStamp := some 7 } }, Safety.heard tDRESP ({ bus := 0, src := 5, dst := 0, seg := 0, data := [0], stamp := 0 } : HMsg) ({ mk [(.CAN_CTL_USE, 0, 0), (.CAN_CTL_USE, 1, 2), (.DOM_STAT_STATE, 30, 0), (.CAN_STAT_MODE_NOW, 0, 1), (.PWRD_CLK_TCLK_RUN, 0, 1)] with hier := { st := some 0, mgr := 5, aDiff := some 3, dreqStamp := some 7 } }), ⟨by decide +kernel, by decide +kernel, rfl⟩, by decide +kernel⟩,
   ⟨{ mk [(.CAN_CTL_USE, 0, 0), (.CAN_CTL_USE, 1, 2), (.DOM_STAT_STATE, 30, 0), (.CAN_STAT_MODE_NOW, 0, 1), (.PWRD_CLK_TCLK_RUN, 0, 1), (.TIME_STAT_LOCKED, 0, 1)] with hier := { st := some 0 }, dt := 500000000 }, by decide +kernel⟩⟩

theorem witness_ForwardingLoanAndFirmwareEvents :
    (∃ (m : HMsg) (cls : Nat) (s : State) (t : State), Safety.heardAs tCMD m s t ∧ t.fromMgr m = true ∧ t.forMe m = true ∧ cls < 3)
    ∧ (∃ (m : HMsg) (cls : Nat) (u : State) (s : State) (t : State), Safety.heardAs tRPL m s t ∧ t.forMe m = true ∧ (t.hier.st = some 1 ∨ t.hier.st = some 2) ∧ cls < 3 ∧ t.takeSegment true m cls = (u, none))
    ∧ (∃ (m : HMsg) (cls : Nat) (u : State) (bs : List Nat) (f : Forwarded) (s : State) (t : State), Safety.heardAs tRPL m s t ∧ t.forMe m = true ∧ (t.hier.st = some 1 ∨ t.hier.st = some 2) ∧ cls < 3 ∧ t.takeSegment true m cls = (u, some bs) ∧ forwardOf u.ecx.forwards m.src bs = some f ∧ u.dt < f.deadline)
    ∧ (∃ (m : HMsg) (cls : Nat) (u : State) (bs : List Nat) (f : Forwarded) (s : State) (t : State), Safety.heardAs tRPL m s t ∧ t.forMe m = true ∧ (t.hier.st = some 1 ∨ t.hier.st = some 2) ∧ cls < 3 ∧ t.takeSegment true m cls = (u, some bs) ∧ forwardOf u.ecx.forwards m.src bs = some f ∧ f.deadline ≤ u.dt)
    ∧ (∃ (m : HMsg) (cls : Nat) (u : State) (bs : List Nat) (f : Forwarded) (s : State) (t : State), Safety.heardAs tRPL m s t ∧ t.forMe m = true ∧ (t.hier.st = some 1 ∨ t.hier.st = some 2) ∧ cls < 3 ∧ t.takeSegment true m cls = (u, some bs) ∧ forwardOf u.ecx.forwards m.src bs = none ∧ leAt bs 8 2 = stREPLACED ∧ forwardOf u.ecx.deferrals m.src bs = some f)
    ∧ (∃ (m : HMsg) (s : State) (t : State), Safety.heardAs tEVENT m s t ∧ t.forMe m = true ∧ (t.hier.st = some 1 ∨ t.hier.st = some 2))
    ∧ (∃ (s : State) (t : State), s.hier.st = some 1 ∧ s.hier.loanTick < s.clock / 100000000 ∧ s.hier.lendFrom ≤ s.dt ∧ t = { s with hier := { s.hier with loanTick := s.clock / 100000000 } })
    ∧ (∃ (m : HMsg) (s : State) (t : State), Safety.heardAs tLOAN m s t ∧ t.fromMgr m = true ∧ t.forMe m = true ∧ (maskBits 8 (m.u8 1)).all (fun k => !t.skHeld k && !t.linkDead k) = true)
    ∧ (∃ (m : HMsg) (x : Member) (a : Nat) (s : State) (t : State), Safety.heardAs tLOAN_ACK m s t ∧ t.forMe m = true ∧ t.hier.members.find? (fun (x : Member) => x.idx == m.src) = some x ∧ x.sentAt = some a ∧ t.receivedAt m < a + 50000000 ∧ x.gen = m.u8 0)
    ∧ (∃ (i : Nat) (a : Nat) (m : Member) (s : State), s.hier.members.find? (fun m => m.idx == i) = some m ∧ m.sentAt = some a ∧ s.hier.st = some 1 ∧ m.absent = false ∧ a + 50000000 ≤ s.dt ∧ s.hier.lendFrom ≤ s.dt)
    ∧ (∃ (s : State), s.hier.st = some 1 ∧ s.hier.members.all (fun m => m.absent || (m.sentAt.isNone && m.falls == 0)) = true ∧ (s.hier.lowAt = 0 ∨ s.hier.lowAt + 100000000 ≤ s.dt) ∧ s.hier.lendFrom ≤ s.dt)
    ∧ (∃ (m : HMsg) (parts : List (Nat × List Nat)) (img : List Nat) (s : State) (t : State), Safety.heardAs tPOOL_SYNC m s t ∧ (t.hier.st ≠ some 0 ∨ m.src = t.hier.mgr) ∧ parts = (if t.hier.poolSrc = m.src then t.hier.poolSegs else []).filter (fun x => x.1 != m.seg && m.seg != 0) ++ [(m.seg, m.data)] ∧ img = (List.range 10).flatMap (fun i => ((parts.find? (fun x => x.1 == i)).map (fun x => x.2)).getD []) ∧ 580 ≤ img.length ∧ (List.range 10).all (fun i => parts.any (fun x => x.1 == i)) = true ∧ t.hier.poolGen < leAt img 0 4)
    ∧ (∃ (s : State), s.hier.st = some 1 ∧ s.hier.poolAt + 10000000000 ≤ s.dt)
    ∧ (∃ (m : HMsg) (s : State) (t : State), Safety.heardAs tFW_CTRL m s t ∧ t.fromMgr m = true ∧ m.u8 0 = 1 ∧ bit (m.u64 16) t.idx = false)
    ∧ (∃ (m : HMsg) (s : State) (t : State), Safety.heardAs tFW_CTRL m s t ∧ t.fromMgr m = true ∧ m.u8 0 = 1 ∧ bit (m.u64 16) t.idx = true)
    ∧ (∃ (m : HMsg) (s : State) (t : State), Safety.heardAs tFW_CTRL m s t ∧ t.fromMgr m = true ∧ t.hier.fw.gather = true ∧ t.hier.fw.deaf = false ∧ m.u8 0 = 2)
    ∧ (∃ (m : HMsg) (s : State) (t : State), Safety.heardAs tFW_CTRL m s t ∧ t.fromMgr m = true ∧ t.hier.fw.gather = true ∧ t.hier.fw.deaf = false ∧ m.u8 0 = 3 ∧ t.hier.fw.writing = false ∧ t.hier.fw.lacks = [])
    ∧ (∃ (m : HMsg) (s : State) (t : State), Safety.heardAs tFW_CTRL m s t ∧ t.fromMgr m = true ∧ t.hier.fw.gather = true ∧ t.hier.fw.deaf = false ∧ m.u8 0 = 3 ∧ t.hier.fw.writing = false ∧ t.hier.fw.lacks ≠ [])
    ∧ (∃ (m : HMsg) (s : State) (t : State), Safety.heardAs tFW_CTRL m s t ∧ t.fromMgr m = true ∧ t.hier.fw.gather = true ∧ t.hier.fw.deaf = false ∧ m.u8 0 = 4)
    ∧ (∃ (m : HMsg) (segs : List (Nat × List Nat)) (s : State) (t : State), Safety.heardAs tFW_DATA m s t ∧ t.fromMgr m = true ∧ t.hier.fw.gather = true ∧ t.hier.fw.deaf = false ∧ t.hier.fw.cur < t.hier.fw.count ∧ segs = t.hier.fw.segs.filter (fun x => x.1 != m.seg) ++ [(m.seg, m.data)])
    ∧ (∃ (m : HMsg) (s : State) (t : State), Safety.heardAs tFW_NACK m s t ∧ t.forMe m = true ∧ t.hier.st = some 1 ∧ t.hier.fw.sending = true ∧ m.u8 0 = t.hier.fw.round ∧ m.u8 1 = 0 ∧ (t.hier.fw.endAt = 0 ∨ t.receivedAt m < t.hier.fw.endAt))
    ∧ (∃ (s : State), s.hier.fw.sending = true ∧ s.hier.fw.ended = true ∧ s.hier.fw.endAt ≠ 0 ∧ s.hier.fw.endAt ≤ s.dt ∧ s.hier.fw.missing ≠ [] ∧ s.hier.fw.round < 7)
    ∧ (∃ (s : State), s.hier.fw.sending = true ∧ s.hier.fw.ended = true ∧ s.hier.fw.endAt ≠ 0 ∧ s.hier.fw.endAt ≤ s.dt ∧ (s.hier.fw.missing = [] ∨ 7 ≤ s.hier.fw.round))
    ∧ (∃ (img : List Nat) (s : State) (t : State), s.hier.fw.writing = true ∧ img = ((List.range s.hier.fw.count).flatMap (fun c => ((s.hier.fw.chunks.find? (fun x => x.1 == c)).map (fun x => x.2)).getD [])).take s.hier.fw.len ∧ t = s.modFw (fun _ => {}) ∧ t.noFlash = false) :=
  ⟨⟨{ bus := 0, src := 5, dst := 0, seg := 0, data := [2], stamp := 0 }, 1, { mk [(.CAN_CTL_USE, 0, 0), (.CAN_CTL_USE, 1, 2), (.DOM_STAT_STATE, 30, 0), (.CAN_STAT_MODE_NOW, 0, 1), (.PWRD_CLK_TCLK_RUN, 0, 1)] with hier := { st := some 0, mgr := 5 } }, Safety.heard tCMD ({ bus := 0, src := 5, dst := 0, seg := 0, data := [2], stamp := 0 } : HMsg) ({ mk [(.CAN_CTL_USE, 0, 0), (.CAN_CTL_USE, 1, 2), (.DOM_STAT_STATE, 30, 0), (.CAN_STAT_MODE_NOW, 0, 1), (.PWRD_CLK_TCLK_RUN, 0, 1)] with hier := { st := some 0, mgr := 5 } }), ⟨by decide +kernel, by decide +kernel, rfl⟩, by decide +kernel⟩,
   ⟨{ bus := 0, src := 5, dst := 0, seg := 0, data := [2], stamp := 0 }, 1, ((Safety.heard tRPL ({ bus := 0, src := 5, dst := 0, seg := 0, data := [2], stamp := 0 } : HMsg) ({ mk [(.CAN_CTL_USE, 0, 0), (.CAN_CTL_USE, 1, 2), (.DOM_STAT_STATE, 30, 0), (.CAN_STAT_MODE_NOW, 0, 1), (.PWRD_CLK_TCLK_RUN, 0, 1)] with hier := { st := some 1 } })).takeSegment true ({ bus := 0, src := 5, dst := 0, seg := 0, data := [2], stamp := 0 }) 1).1, { mk [(.CAN_CTL_USE, 0, 0), (.CAN_CTL_USE, 1, 2), (.DOM_STAT_STATE, 30, 0), (.CAN_STAT_MODE_NOW, 0, 1), (.PWRD_CLK_TCLK_RUN, 0, 1)] with hier := { st := some 1 } }, Safety.heard tRPL ({ bus := 0, src := 5, dst := 0, seg := 0, data := [2], stamp := 0 } : HMsg) ({ mk [(.CAN_CTL_USE, 0, 0), (.CAN_CTL_USE, 1, 2), (.DOM_STAT_STATE, 30, 0), (.CAN_STAT_MODE_NOW, 0, 1), (.PWRD_CLK_TCLK_RUN, 0, 1)] with hier := { st := some 1 } }), ⟨by decide +kernel, by decide +kernel, rfl⟩, by decide +kernel⟩,
   ⟨{ bus := 0, src := 5, dst := 0, seg := 0, data := (List.replicate 16 0), stamp := 0 }, 1, ((Safety.heard tRPL ({ bus := 0, src := 5, dst := 0, seg := 0, data := (List.replicate 16 0), stamp := 0 } : HMsg) ({ mk [(.CAN_CTL_USE, 0, 0), (.CAN_CTL_USE, 1, 2), (.DOM_STAT_STATE, 30, 0), (.CAN_STAT_MODE_NOW, 0, 1), (.PWRD_CLK_TCLK_RUN, 0, 1)] with hier := { st := some 1 }, ecx := { forwards := [{ pkt := { pk [] with opcode := 0, tag := 0, seq := 0 }, worker := 5, deadline := 5 }] } })).takeSegment true ({ bus := 0, src := 5, dst := 0, seg := 0, data := (List.replicate 16 0), stamp := 0 }) 1).1, (List.replicate 16 0), { pkt := { pk [] with opcode := 0, tag := 0, seq := 0 }, worker := 5, deadline := 5 }, { mk [(.CAN_CTL_USE, 0, 0), (.CAN_CTL_USE, 1, 2), (.DOM_STAT_STATE, 30, 0), (.CAN_STAT_MODE_NOW, 0, 1), (.PWRD_CLK_TCLK_RUN, 0, 1)] with hier := { st := some 1 }, ecx := { forwards := [{ pkt := { pk [] with opcode := 0, tag := 0, seq := 0 }, worker := 5, deadline := 5 }] } }, Safety.heard tRPL ({ bus := 0, src := 5, dst := 0, seg := 0, data := (List.replicate 16 0), stamp := 0 } : HMsg) ({ mk [(.CAN_CTL_USE, 0, 0), (.CAN_CTL_USE, 1, 2), (.DOM_STAT_STATE, 30, 0), (.CAN_STAT_MODE_NOW, 0, 1), (.PWRD_CLK_TCLK_RUN, 0, 1)] with hier := { st := some 1 }, ecx := { forwards := [{ pkt := { pk [] with opcode := 0, tag := 0, seq := 0 }, worker := 5, deadline := 5 }] } }), ⟨by decide +kernel, by decide +kernel, rfl⟩, by decide +kernel⟩,
   ⟨{ bus := 0, src := 5, dst := 0, seg := 0, data := (List.replicate 16 0), stamp := 0 }, 1, ((Safety.heard tRPL ({ bus := 0, src := 5, dst := 0, seg := 0, data := (List.replicate 16 0), stamp := 0 } : HMsg) ({ mk [(.CAN_CTL_USE, 0, 0), (.CAN_CTL_USE, 1, 2), (.DOM_STAT_STATE, 30, 0), (.CAN_STAT_MODE_NOW, 0, 1), (.PWRD_CLK_TCLK_RUN, 0, 1)] with hier := { st := some 1 }, ecx := { forwards := [{ pkt := { pk [] with opcode := 0, tag := 0, seq := 0 }, worker := 5, deadline := 0 }] } })).takeSegment true ({ bus := 0, src := 5, dst := 0, seg := 0, data := (List.replicate 16 0), stamp := 0 }) 1).1, (List.replicate 16 0), { pkt := { pk [] with opcode := 0, tag := 0, seq := 0 }, worker := 5, deadline := 0 }, { mk [(.CAN_CTL_USE, 0, 0), (.CAN_CTL_USE, 1, 2), (.DOM_STAT_STATE, 30, 0), (.CAN_STAT_MODE_NOW, 0, 1), (.PWRD_CLK_TCLK_RUN, 0, 1)] with hier := { st := some 1 }, ecx := { forwards := [{ pkt := { pk [] with opcode := 0, tag := 0, seq := 0 }, worker := 5, deadline := 0 }] } }, Safety.heard tRPL ({ bus := 0, src := 5, dst := 0, seg := 0, data := (List.replicate 16 0), stamp := 0 } : HMsg) ({ mk [(.CAN_CTL_USE, 0, 0), (.CAN_CTL_USE, 1, 2), (.DOM_STAT_STATE, 30, 0), (.CAN_STAT_MODE_NOW, 0, 1), (.PWRD_CLK_TCLK_RUN, 0, 1)] with hier := { st := some 1 }, ecx := { forwards := [{ pkt := { pk [] with opcode := 0, tag := 0, seq := 0 }, worker := 5, deadline := 0 }] } }), ⟨by decide +kernel, by decide +kernel, rfl⟩, by decide +kernel⟩,
   ⟨{ bus := 0, src := 5, dst := 0, seg := 0, data := ([0, 0, 0, 0, 0, 0, 0, 0] ++ toLE 2 stREPLACED ++ List.replicate 6 0), stamp := 0 }, 1, ((Safety.heard tRPL ({ bus := 0, src := 5, dst := 0, seg := 0, data := ([0, 0, 0, 0, 0, 0, 0, 0] ++ toLE 2 stREPLACED ++ List.replicate 6 0), stamp := 0 } : HMsg) ({ mk [(.CAN_CTL_USE, 0, 0), (.CAN_CTL_USE, 1, 2), (.DOM_STAT_STATE, 30, 0), (.CAN_STAT_MODE_NOW, 0, 1), (.PWRD_CLK_TCLK_RUN, 0, 1)] with hier := { st := some 1 }, ecx := { deferrals := [{ pkt := { pk [] with opcode := 0, tag := 0, seq := 0 }, worker := 5, deadline := 0 }] } })).takeSegment true ({ bus := 0, src := 5, dst := 0, seg := 0, data := ([0, 0, 0, 0, 0, 0, 0, 0] ++ toLE 2 stREPLACED ++ List.replicate 6 0), stamp := 0 }) 1).1, ([0, 0, 0, 0, 0, 0, 0, 0] ++ toLE 2 stREPLACED ++ List.replicate 6 0), { pkt := { pk [] with opcode := 0, tag := 0, seq := 0 }, worker := 5, deadline := 0 }, { mk [(.CAN_CTL_USE, 0, 0), (.CAN_CTL_USE, 1, 2), (.DOM_STAT_STATE, 30, 0), (.CAN_STAT_MODE_NOW, 0, 1), (.PWRD_CLK_TCLK_RUN, 0, 1)] with hier := { st := some 1 }, ecx := { deferrals := [{ pkt := { pk [] with opcode := 0, tag := 0, seq := 0 }, worker := 5, deadline := 0 }] } }, Safety.heard tRPL ({ bus := 0, src := 5, dst := 0, seg := 0, data := ([0, 0, 0, 0, 0, 0, 0, 0] ++ toLE 2 stREPLACED ++ List.replicate 6 0), stamp := 0 } : HMsg) ({ mk [(.CAN_CTL_USE, 0, 0), (.CAN_CTL_USE, 1, 2), (.DOM_STAT_STATE, 30, 0), (.CAN_STAT_MODE_NOW, 0, 1), (.PWRD_CLK_TCLK_RUN, 0, 1)] with hier := { st := some 1 }, ecx := { deferrals := [{ pkt := { pk [] with opcode := 0, tag := 0, seq := 0 }, worker := 5, deadline := 0 }] } }), ⟨by decide +kernel, by decide +kernel, rfl⟩, by decide +kernel⟩,
   ⟨{ bus := 0, src := 5, dst := 0, seg := 0, data := (List.replicate 32 0), stamp := 0 }, { mk [(.CAN_CTL_USE, 0, 0), (.CAN_CTL_USE, 1, 2), (.DOM_STAT_STATE, 30, 0), (.CAN_STAT_MODE_NOW, 0, 1), (.PWRD_CLK_TCLK_RUN, 0, 1)] with hier := { st := some 1 } }, Safety.heard tEVENT ({ bus := 0, src := 5, dst := 0, seg := 0, data := (List.replicate 32 0), stamp := 0 } : HMsg) ({ mk [(.CAN_CTL_USE, 0, 0), (.CAN_CTL_USE, 1, 2), (.DOM_STAT_STATE, 30, 0), (.CAN_STAT_MODE_NOW, 0, 1), (.PWRD_CLK_TCLK_RUN, 0, 1)] with hier := { st := some 1 } }), ⟨by decide +kernel, by decide +kernel, rfl⟩, by decide +kernel⟩,
   ⟨{ mk [(.CAN_CTL_USE, 0, 0), (.CAN_CTL_USE, 1, 2), (.DOM_STAT_STATE, 30, 0), (.CAN_STAT_MODE_NOW, 0, 1), (.PWRD_CLK_TCLK_RUN, 0, 1)] with hier := { st := some 1 }, dt := 100000000 }, { mk [(.CAN_CTL_USE, 0, 0), (.CAN_CTL_USE, 1, 2), (.DOM_STAT_STATE, 30, 0), (.CAN_STAT_MODE_NOW, 0, 1), (.PWRD_CLK_TCLK_RUN, 0, 1)] with hier := { st := some 1, loanTick := 1 }, dt := 100000000 }, by decide +kernel⟩,
   ⟨{ bus := 0, src := 5, dst := 0, seg := 0, data := [2], stamp := 0 }, { mk [(.CAN_CTL_USE, 0, 0), (.CAN_CTL_USE, 1, 2), (.DOM_STAT_STATE, 30, 0), (.CAN_STAT_MODE_NOW, 0, 1), (.PWRD_CLK_TCLK_RUN, 0, 1)] with hier := { st := some 0, mgr := 5 } }, Safety.heard tLOAN ({ bus := 0, src := 5, dst := 0, seg := 0, data := [2], stamp := 0 } : HMsg) ({ mk [(.CAN_CTL_USE, 0, 0), (.CAN_CTL_USE, 1, 2), (.DOM_STAT_STATE, 30, 0), (.CAN_STAT_MODE_NOW, 0, 1), (.PWRD_CLK_TCLK_RUN, 0, 1)] with hier := { st := some 0, mgr := 5 } }), ⟨by decide +kernel, by decide +kernel, rfl⟩, by decide +kernel⟩,
   ⟨{ bus := 0, src := 5, dst := 0, seg := 0, data := [0], stamp := 0 }, { idx := 5, sentAt := some 0 }, 0, { mk [(.CAN_CTL_USE, 0, 0), (.CAN_CTL_USE, 1, 2), (.DOM_STAT_STATE, 30, 0), (.CAN_STAT_MODE_NOW, 0, 1), (.PWRD_CLK_TCLK_RUN, 0, 1)] with hier := { st := some 1, members := [{ idx := 5, sentAt := some 0 }] } }, Safety.heard tLOAN_ACK ({ bus := 0, src := 5, dst := 0, seg := 0, data := [0], stamp := 0 } : HMsg) ({ mk [(.CAN_CTL_USE, 0, 0), (.CAN_CTL_USE, 1, 2), (.DOM_STAT_STATE, 30, 0), (.CAN_STAT_MODE_NOW, 0, 1), (.PWRD_CLK_TCLK_RUN, 0, 1)] with hier := { st := some 1, members := [{ idx := 5, sentAt := some 0 }] } }), ⟨by decide +kernel, by decide +kernel, rfl⟩, by decide +kernel⟩,
   ⟨5, 0, { idx := 5, sentAt := some 0 }, { mk [(.CAN_CTL_USE, 0, 0), (.CAN_CTL_USE, 1, 2), (.DOM_STAT_STATE, 30, 0), (.CAN_STAT_MODE_NOW, 0, 1), (.PWRD_CLK_TCLK_RUN, 0, 1)] with hier := { st := some 1, members := [{ idx := 5, sentAt := some 0 }] }, dt := 50000000 }, by decide +kernel⟩,
   ⟨{ mk [(.CAN_CTL_USE, 0, 0), (.CAN_CTL_USE, 1, 2), (.DOM_STAT_STATE, 30, 0), (.CAN_STAT_MODE_NOW, 0, 1), (.PWRD_CLK_TCLK_RUN, 0, 1)] with hier := { st := some 1 } }, by decide +kernel⟩,
   ⟨{ bus := 0, src := 5, dst := 63, seg := 9, data := [1, 1, 1, 1], stamp := 0 }, ((List.range 9).map (fun i => (i, List.replicate 64 1))) ++ [(9, [1, 1, 1, 1])], (List.replicate 580 1), { mk [(.CAN_CTL_USE, 0, 0), (.CAN_CTL_USE, 1, 2), (.DOM_STAT_STATE, 30, 0), (.CAN_STAT_MODE_NOW, 0, 1), (.PWRD_CLK_TCLK_RUN, 0, 1)] with hier := { st := some 0, mgr := 5, poolSegs := ((List.range 9).map (fun i => (i, List.replicate 64 1))), poolSrc := 5 } }, Safety.heard tPOOL_SYNC ({ bus := 0, src := 5, dst := 63, seg := 9, data := [1, 1, 1, 1], stamp := 0 } : HMsg) ({ mk [(.CAN_CTL_USE, 0, 0), (.CAN_CTL_USE, 1, 2), (.DOM_STAT_STATE, 30, 0), (.CAN_STAT_MODE_NOW, 0, 1), (.PWRD_CLK_TCLK_RUN, 0, 1)] with hier := { st := some 0, mgr := 5, poolSegs := ((List.range 9).map (fun i => (i, List.replicate 64 1))), poolSrc := 5 } }), ⟨by decide +kernel, by decide +kernel, rfl⟩, by decide +kernel⟩,
   ⟨{ mk [(.CAN_CTL_USE, 0, 0), (.CAN_CTL_USE, 1, 2), (.DOM_STAT_STATE, 30, 0), (.CAN_STAT_MODE_NOW, 0, 1), (.PWRD_CLK_TCLK_RUN, 0, 1)] with hier := { st := some 1 }, dt := 10000000000 }, by decide +kernel⟩,
   ⟨{ bus := 0, src := 5, dst := 63, seg := 0, data := [1], stamp := 0 }, { mk [(.CAN_CTL_USE, 0, 0), (.CAN_CTL_USE, 1, 2), (.DOM_STAT_STATE, 30, 0), (.CAN_STAT_MODE_NOW, 0, 1), (.PWRD_CLK_TCLK_RUN, 0, 1)] with hier := { st := some 0, mgr := 5 } }, Safety.heard tFW_CTRL ({ bus := 0, src := 5, dst := 63, seg := 0, data := [1], stamp := 0 } : HMsg) ({ mk [(.CAN_CTL_USE, 0, 0), (.CAN_CTL_USE, 1, 2), (.DOM_STAT_STATE, 30, 0), (.CAN_STAT_MODE_NOW, 0, 1), (.PWRD_CLK_TCLK_RUN, 0, 1)] with hier := { st := some 0, mgr := 5 } }), ⟨by decide +kernel, by decide +kernel, rfl⟩, by decide +kernel⟩,
   ⟨{ bus := 0, src := 5, dst := 63, seg := 0, data := [1, 0, 0, 0, 0, 0, 0, 0, 0, 0, 0, 0, 0, 0, 0, 0, 1], stamp := 0 }, { mk [(.CAN_CTL_USE, 0, 0), (.CAN_CTL_USE, 1, 2), (.DOM_STAT_STATE, 30, 0), (.CAN_STAT_MODE_NOW, 0, 1), (.PWRD_CLK_TCLK_RUN, 0, 1)] with hier := { st := some 0, mgr := 5 } }, Safety.heard tFW_CTRL ({ bus := 0, src := 5, dst := 63, seg := 0, data := [1, 0, 0, 0, 0, 0, 0, 0, 0, 0, 0, 0, 0, 0, 0, 0, 1], stamp := 0 } : HMsg) ({ mk [(.CAN_CTL_USE, 0, 0), (.CAN_CTL_USE, 1, 2), (.DOM_STAT_STATE, 30, 0), (.CAN_STAT_MODE_NOW, 0, 1), (.PWRD_CLK_TCLK_RUN, 0, 1)] with hier := { st := some 0, mgr := 5 } }), ⟨by decide +kernel, by decide +kernel, rfl⟩, by decide +kernel⟩,
   ⟨{ bus := 0, src := 5, dst := 63, seg := 0, data := [2], stamp := 0 }, { mk [(.CAN_CTL_USE, 0, 0), (.CAN_CTL_USE, 1, 2), (.DOM_STAT_STATE, 30, 0), (.CAN_STAT_MODE_NOW, 0, 1), (.PWRD_CLK_TCLK_RUN, 0, 1)] with hier := { st := some 0, mgr := 5, fw := { gather := true } } }, Safety.heard tFW_CTRL ({ bus := 0, src := 5, dst := 63, seg := 0, data := [2], stamp := 0 } : HMsg) ({ mk [(.CAN_CTL_USE, 0, 0), (.CAN_CTL_USE, 1, 2), (.DOM_STAT_STATE, 30, 0), (.CAN_STAT_MODE_NOW, 0, 1), (.PWRD_CLK_TCLK_RUN, 0, 1)] with hier := { st := some 0, mgr := 5, fw := { gather := true } } }), ⟨by decide +kernel, by decide +kernel, rfl⟩, by decide +kernel⟩,
   ⟨{ bus := 0, src := 5, dst := 63, seg := 0, data := [3], stamp := 0 }, { mk [(.CAN_CTL_USE, 0, 0), (.CAN_CTL_USE, 1, 2), (.DOM_STAT_STATE, 30, 0), (.CAN_STAT_MODE_NOW, 0, 1), (.PWRD_CLK_TCLK_RUN, 0, 1)] with hier := { st := some 0, mgr := 5, fw := { gather := true } } }, Safety.heard tFW_CTRL ({ bus := 0, src := 5, dst := 63, seg := 0, data := [3], stamp := 0 } : HMsg) ({ mk [(.CAN_CTL_USE, 0, 0), (.CAN_CTL_USE, 1, 2), (.DOM_STAT_STATE, 30, 0), (.CAN_STAT_MODE_NOW, 0, 1), (.PWRD_CLK_TCLK_RUN, 0, 1)] with hier := { st := some 0, mgr := 5, fw := { gather := true } } }), ⟨by decide +kernel, by decide +kernel, rfl⟩, by decide +kernel⟩,
   ⟨{ bus := 0, src := 5, dst := 63, seg := 0, data := [3], stamp := 0 }, { mk [(.CAN_CTL_USE, 0, 0), (.CAN_CTL_USE, 1, 2), (.DOM_STAT_STATE, 30, 0), (.CAN_STAT_MODE_NOW, 0, 1), (.PWRD_CLK_TCLK_RUN, 0, 1)] with hier := { st := some 0, mgr := 5, fw := { gather := true, count := 2 } } }, Safety.heard tFW_CTRL ({ bus := 0, src := 5, dst := 63, seg := 0, data := [3], stamp := 0 } : HMsg) ({ mk [(.CAN_CTL_USE, 0, 0), (.CAN_CTL_USE, 1, 2), (.DOM_STAT_STATE, 30, 0), (.CAN_STAT_MODE_NOW, 0, 1), (.PWRD_CLK_TCLK_RUN, 0, 1)] with hier := { st := some 0, mgr := 5, fw := { gather := true, count := 2 } } }), ⟨by decide +kernel, by decide +kernel, rfl⟩, by decide +kernel⟩,
   ⟨{ bus := 0, src := 5, dst := 63, seg := 0, data := [4], stamp := 0 }, { mk [(.CAN_CTL_USE, 0, 0), (.CAN_CTL_USE, 1, 2), (.DOM_STAT_STATE, 30, 0), (.CAN_STAT_MODE_NOW, 0, 1), (.PWRD_CLK_TCLK_RUN, 0, 1)] with hier := { st := some 0, mgr := 5, fw := { gather := true } } }, Safety.heard tFW_CTRL ({ bus := 0, src := 5, dst := 63, seg := 0, data := [4], stamp := 0 } : HMsg) ({ mk [(.CAN_CTL_USE, 0, 0), (.CAN_CTL_USE, 1, 2), (.DOM_STAT_STATE, 30, 0), (.CAN_STAT_MODE_NOW, 0, 1), (.PWRD_CLK_TCLK_RUN, 0, 1)] with hier := { st := some 0, mgr := 5, fw := { gather := true } } }), ⟨by decide +kernel, by decide +kernel, rfl⟩, by decide +kernel⟩,
   ⟨{ bus := 0, src := 5, dst := 63, seg := 0, data := [4], stamp := 0 }, [(0, [4])], { mk [(.CAN_CTL_USE, 0, 0), (.CAN_CTL_USE, 1, 2), (.DOM_STAT_STATE, 30, 0), (.CAN_STAT_MODE_NOW, 0, 1), (.PWRD_CLK_TCLK_RUN, 0, 1)] with hier := { st := some 0, mgr := 5, fw := { gather := true, count := 1, curLen := 1 } } }, Safety.heard tFW_DATA ({ bus := 0, src := 5, dst := 63, seg := 0, data := [4], stamp := 0 } : HMsg) ({ mk [(.CAN_CTL_USE, 0, 0), (.CAN_CTL_USE, 1, 2), (.DOM_STAT_STATE, 30, 0), (.CAN_STAT_MODE_NOW, 0, 1), (.PWRD_CLK_TCLK_RUN, 0, 1)] with hier := { st := some 0, mgr := 5, fw := { gather := true, count := 1, curLen := 1 } } }), ⟨by decide +kernel, by decide +kernel, rfl⟩, by decide +kernel⟩,
   ⟨{ bus := 0, src := 5, dst := 0, seg := 0, data := [0], stamp := 0 }, { mk [(.CAN_CTL_USE, 0, 0), (.CAN_CTL_USE, 1, 2), (.DOM_STAT_STATE, 30, 0), (.CAN_STAT_MODE_NOW, 0, 1), (.PWRD_CLK_TCLK_RUN, 0, 1)] with hier := { st := some 1, fw := { sending := true } } }, Safety.heard tFW_NACK ({ bus := 0, src := 5, dst := 0, seg := 0, data := [0], stamp := 0 } : HMsg) ({ mk [(.CAN_CTL_USE, 0, 0), (.CAN_CTL_USE, 1, 2), (.DOM_STAT_STATE, 30, 0), (.CAN_STAT_MODE_NOW, 0, 1), (.PWRD_CLK_TCLK_RUN, 0, 1)] with hier := { st := some 1, fw := { sending := true } } }), ⟨by decide +kernel, by decide +kernel, rfl⟩, by decide +kernel⟩,
   ⟨{ mk [(.CAN_CTL_USE, 0, 0), (.CAN_CTL_USE, 1, 2), (.DOM_STAT_STATE, 30, 0), (.CAN_STAT_MODE_NOW, 0, 1), (.PWRD_CLK_TCLK_RUN, 0, 1)] with hier := { st := some 1, fw := { sending := true, ended := true, endAt := 1, missing := [2, 1] } }, dt := 5 }, by decide +kernel⟩,
   ⟨{ mk [(.CAN_CTL_USE, 0, 0), (.CAN_CTL_USE, 1, 2), (.DOM_STAT_STATE, 30, 0), (.CAN_STAT_MODE_NOW, 0, 1), (.PWRD_CLK_TCLK_RUN, 0, 1)] with hier := { st := some 1, fw := { sending := true, ended := true, endAt := 1 } }, dt := 5 }, by decide +kernel⟩,
   ⟨[], { mk [(.CAN_CTL_USE, 0, 0), (.CAN_CTL_USE, 1, 2), (.DOM_STAT_STATE, 30, 0), (.CAN_STAT_MODE_NOW, 0, 1), (.PWRD_CLK_TCLK_RUN, 0, 1)] with hier := { st := some 0, fw := { writing := true } } }, { mk [(.CAN_CTL_USE, 0, 0), (.CAN_CTL_USE, 1, 2), (.DOM_STAT_STATE, 30, 0), (.CAN_STAT_MODE_NOW, 0, 1), (.PWRD_CLK_TCLK_RUN, 0, 1)] with hier := { st := some 0 } }, by decide +kernel⟩⟩

theorem witness_EnumerationEvents :
    (∃ (port : Nat) (route : Nat) (speed : Nat) (d : Dev) (s : State), s.dev? port route = some d ∧ s.enumRuns port = true ∧ d.stage = .reset ∧ d.since + 50000000 ≤ s.dt ∧ 1 ≤ speed ∧ speed ≤ 3)
    ∧ (∃ (port : Nat) (route : Nat) (d : Dev) (s : State), s.dev? port route = some d ∧ s.enumRuns port = true ∧ d.stage = .recovery ∧ d.since + 10000000 ≤ s.dt)
    ∧ (∃ (port : Nat) (route : Nat) (st : Nat) (data : List Nat) (d : Dev) (s : State), s.dev? port route = some d ∧ s.enumRuns port = true ∧ d.inTime .dev8 s.dt = true ∧ d.stage = .request .dev8 ∧ (st = wOK ∨ st = wSHORT))
    ∧ (∃ (port : Nat) (route : Nat) (r : EnumReq) (st : Nat) (data : List Nat) (d : Dev) (s : State), s.dev? port route = some d ∧ s.enumRuns port = true ∧ d.inTime r s.dt = true ∧ d.stage = .request r ∧ (st = wSTALL ∨ st = wBABBLE ∨ st = wXACT_ERR) ∧ r.isString = false ∧ r ≠ .hubSetup)
    ∧ (∃ (port : Nat) (route : Nat) (st : Nat) (a : Nat) (data : List Nat) (d : Dev) (s : State), s.dev? port route = some d ∧ s.enumRuns port = true ∧ d.inTime .setAddress s.dt = true ∧ d.stage = .request .setAddress ∧ (st = wOK ∨ st = wSHORT) ∧ s.freeAddr port = some a)
    ∧ (∃ (port : Nat) (route : Nat) (d : Dev) (s : State), s.dev? port route = some d ∧ s.enumRuns port = true ∧ d.stage = .addrWait ∧ d.since + 2000000 ≤ s.dt ∧ s.dt < d.attempt + 2000000000)
    ∧ (∃ (port : Nat) (route : Nat) (d : Dev) (s : State), s.dev? port route = some d ∧ s.enumRuns port = true ∧ d.stage = .powerWait ∧ d.since + 2000000 * d.need ≤ s.dt ∧ s.dt < d.attempt + 2000000000)
    ∧ (∃ (port : Nat) (route : Nat) (r : EnumReq) (d : Dev) (s : State), s.dev? port route = some d ∧ s.enumRuns port = true ∧ d.stage = .request r ∧ r ≠ .setAddress ∧ r ≠ .hubSetup ∧ d.since + 500000000 ≤ s.dt)
    ∧ (∃ (port : Nat) (route : Nat) (d : Dev) (s : State), s.dev? port route = some d ∧ s.enumRuns port = true ∧ d.stage = .request .setAddress ∧ d.since + 50000000 ≤ s.dt)
    ∧ (∃ (port : Nat) (route : Nat) (d : Dev) (s : State), s.dev? port route = some d ∧ s.enumRuns port = true ∧ d.stage.beforeStep7 = true ∧ d.attempt + 2000000000 ≤ s.dt)
    ∧ (∃ (port : Nat) (route : Nat) (d : Dev) (s : State), s.dev? port route = some d ∧ s.enumRuns port = true ∧ d.stage = .retryWait ∧ d.since + 100000000 ≤ s.dt)
    ∧ (∃ (port : Nat) (route : Nat) (d : Dev) (s : State), s.dev? port route = some d ∧ s.enumRuns port = true ∧ d.stage = .step7)
    ∧ (∃ (port : Nat) (route : Nat) (ds : DevDescs) (d : Dev) (s : State), s.dev? port route = some d ∧ s.enumRuns port = true ∧ d.stage = .restore ∧ d.since + 50000000 ≤ s.dt ∧ ds.device = d.devDesc ∧ ds.config.take 7168 = d.cachedConfig)
    ∧ (∃ (port : Nat) (route : Nat) (ds : DevDescs) (d : Dev) (s : State), s.dev? port route = some d ∧ s.enumRuns port = true ∧ d.stage = .restore ∧ d.since + 50000000 ≤ s.dt ∧ (ds.device ≠ d.devDesc ∨ ds.config.take 7168 ≠ d.cachedConfig) ∧ d.tier = 1)
    ∧ (∃ (port : Nat) (route : Nat) (ds : DevDescs) (d : Dev) (s : State), s.dev? port route = some d ∧ s.enumRuns port = true ∧ d.stage = .restore ∧ d.since + 50000000 ≤ s.dt ∧ (ds.device ≠ d.devDesc ∨ ds.config.take 7168 ≠ d.cachedConfig) ∧ d.tier ≠ 1)
    ∧ (∃ (n : Nat) (c : Ctx) (s : State), s.ctx? n = some c ∧ 16 ≤ n ∧ c.closing = true ∧ c.recs = [] ∧ c.unformed = []) :=
  ⟨⟨0, 0, 3, { port := 0, ep0 := 16, stage := .reset }, { mk [(.SHT_STAT_STATE, 0, 1), (.SHT_STAT_PHYG, 0, 0), (.DOM_STAT_STATE, 16, 0), (.PORT_MODE_MODE_EFF, 0, 3), (.PORT_LIFE_ATT_STATE, 0, 6), (.PWRD_CLK_TCLK_RUN, 0, 1), (.DOM_STAT_STATE, 29, 0)] pw with loom := { devs := [{ port := 0, ep0 := 16, stage := .reset }], ctxs := [{ num := 16, port := 0, devEp0 := 16 }] }, dt := 50000000 }, by decide +kernel⟩,
   ⟨0, 0, { port := 0, ep0 := 16, stage := .recovery }, { mk [(.SHT_STAT_STATE, 0, 1), (.SHT_STAT_PHYG, 0, 0), (.DOM_STAT_STATE, 16, 0), (.PORT_MODE_MODE_EFF, 0, 3), (.PORT_LIFE_ATT_STATE, 0, 6), (.PWRD_CLK_TCLK_RUN, 0, 1), (.DOM_STAT_STATE, 29, 0)] pw with loom := { devs := [{ port := 0, ep0 := 16, stage := .recovery }], ctxs := [{ num := 16, port := 0, devEp0 := 16 }] }, dt := 10000000 }, by decide +kernel⟩,
   ⟨0, 0, wOK, [18], { port := 0, ep0 := 16, stage := .request .dev8 }, { mk [(.SHT_STAT_STATE, 0, 1), (.SHT_STAT_PHYG, 0, 0), (.DOM_STAT_STATE, 16, 0), (.PORT_MODE_MODE_EFF, 0, 3), (.PORT_LIFE_ATT_STATE, 0, 6), (.PWRD_CLK_TCLK_RUN, 0, 1), (.DOM_STAT_STATE, 29, 0)] pw with loom := { devs := [{ port := 0, ep0 := 16, stage := .request .dev8 }], ctxs := [{ num := 16, port := 0, devEp0 := 16 }] } }, by decide +kernel⟩,
   ⟨0, 0, .dev8, wSTALL, [], { port := 0, ep0 := 16, stage := .request .dev8 }, { mk [(.SHT_STAT_STATE, 0, 1), (.SHT_STAT_PHYG, 0, 0), (.DOM_STAT_STATE, 16, 0), (.PORT_MODE_MODE_EFF, 0, 3), (.PORT_LIFE_ATT_STATE, 0, 6), (.PWRD_CLK_TCLK_RUN, 0, 1), (.DOM_STAT_STATE, 29, 0)] pw with loom := { devs := [{ port := 0, ep0 := 16, stage := .request .dev8 }], ctxs := [{ num := 16, port := 0, devEp0 := 16 }] } }, by decide +kernel⟩,
   ⟨0, 0, wOK, 1, [], { port := 0, ep0 := 16, stage := .request .setAddress }, { mk [(.SHT_STAT_STATE, 0, 1), (.SHT_STAT_PHYG, 0, 0), (.DOM_STAT_STATE, 16, 0), (.PORT_MODE_MODE_EFF, 0, 3), (.PORT_LIFE_ATT_STATE, 0, 6), (.PWRD_CLK_TCLK_RUN, 0, 1), (.DOM_STAT_STATE, 29, 0)] pw with loom := { devs := [{ port := 0, ep0 := 16, stage := .request .setAddress }], ctxs := [{ num := 16, port := 0, devEp0 := 16 }] } }, by decide +kernel⟩,
   ⟨0, 0, { port := 0, ep0 := 16, stage := .addrWait }, { mk [(.SHT_STAT_STATE, 0, 1), (.SHT_STAT_PHYG, 0, 0), (.DOM_STAT_STATE, 16, 0), (.PORT_MODE_MODE_EFF, 0, 3), (.PORT_LIFE_ATT_STATE, 0, 6), (.PWRD_CLK_TCLK_RUN, 0, 1), (.DOM_STAT_STATE, 29, 0)] pw with loom := { devs := [{ port := 0, ep0 := 16, stage := .addrWait }], ctxs := [{ num := 16, port := 0, devEp0 := 16 }] }, dt := 2000000 }, by decide +kernel⟩,
   ⟨0, 0, { port := 0, ep0 := 16, stage := .powerWait }, { mk [(.SHT_STAT_STATE, 0, 1), (.SHT_STAT_PHYG, 0, 0), (.DOM_STAT_STATE, 16, 0), (.PORT_MODE_MODE_EFF, 0, 3), (.PORT_LIFE_ATT_STATE, 0, 6), (.PWRD_CLK_TCLK_RUN, 0, 1), (.DOM_STAT_STATE, 29, 0)] pw with loom := { devs := [{ port := 0, ep0 := 16, stage := .powerWait }], ctxs := [{ num := 16, port := 0, devEp0 := 16 }] }, dt := 2000000 }, by decide +kernel⟩,
   ⟨0, 0, .bos, { port := 0, ep0 := 16, stage := .request .bos }, { mk [(.SHT_STAT_STATE, 0, 1), (.SHT_STAT_PHYG, 0, 0), (.DOM_STAT_STATE, 16, 0), (.PORT_MODE_MODE_EFF, 0, 3), (.PORT_LIFE_ATT_STATE, 0, 6), (.PWRD_CLK_TCLK_RUN, 0, 1), (.DOM_STAT_STATE, 29, 0)] pw with loom := { devs := [{ port := 0, ep0 := 16, stage := .request .bos }], ctxs := [{ num := 16, port := 0, devEp0 := 16 }] }, dt := 500000000 }, by decide +kernel⟩,
   ⟨0, 0, { port := 0, ep0 := 16, stage := .request .setAddress }, { mk [(.SHT_STAT_STATE, 0, 1), (.SHT_STAT_PHYG, 0, 0), (.DOM_STAT_STATE, 16, 0), (.PORT_MODE_MODE_EFF, 0, 3), (.PORT_LIFE_ATT_STATE, 0, 6), (.PWRD_CLK_TCLK_RUN, 0, 1), (.DOM_STAT_STATE, 29, 0)] pw with loom := { devs := [{ port := 0, ep0 := 16, stage := .request .setAddress }], ctxs := [{ num := 16, port := 0, devEp0 := 16 }] }, dt := 50000000 }, by decide +kernel⟩,
   ⟨0, 0, { port := 0, ep0 := 16, stage := .addrWait }, { mk [(.SHT_STAT_STATE, 0, 1), (.SHT_STAT_PHYG, 0, 0), (.DOM_STAT_STATE, 16, 0), (.PORT_MODE_MODE_EFF, 0, 3), (.PORT_LIFE_ATT_STATE, 0, 6), (.PWRD_CLK_TCLK_RUN, 0, 1), (.DOM_STAT_STATE, 29, 0)] pw with loom := { devs := [{ port := 0, ep0 := 16, stage := .addrWait }], ctxs := [{ num := 16, port := 0, devEp0 := 16 }] }, dt := 2000000000 }, by decide +kernel⟩,
   ⟨0, 0, { port := 0, ep0 := 16, stage := .retryWait }, { mk [(.SHT_STAT_STATE, 0, 1), (.SHT_STAT_PHYG, 0, 0), (.DOM_STAT_STATE, 16, 0), (.PORT_MODE_MODE_EFF, 0, 3), (.PORT_LIFE_ATT_STATE, 0, 6), (.PWRD_CLK_TCLK_RUN, 0, 1), (.DOM_STAT_STATE, 29, 0)] pw with loom := { devs := [{ port := 0, ep0 := 16, stage := .retryWait }], ctxs := [{ num := 16, port := 0, devEp0 := 16 }] }, dt := 100000000 }, by decide +kernel⟩,
   ⟨0, 0, { port := 0, ep0 := 16, stage := .step7 }, { mk [(.SHT_STAT_STATE, 0, 1), (.SHT_STAT_PHYG, 0, 0), (.DOM_STAT_STATE, 16, 0), (.PORT_MODE_MODE_EFF, 0, 3), (.PORT_LIFE_ATT_STATE, 0, 6), (.PWRD_CLK_TCLK_RUN, 0, 1), (.DOM_STAT_STATE, 29, 0)] pw with loom := { devs := [{ port := 0, ep0 := 16, stage := .step7 }], ctxs := [{ num := 16, port := 0, devEp0 := 16 }] } }, by decide +kernel⟩,
   ⟨0, 0, ⟨[], []⟩, { port := 0, ep0 := 16, stage := .restore }, { mk [(.SHT_STAT_STATE, 0, 1), (.SHT_STAT_PHYG, 0, 0), (.DOM_STAT_STATE, 16, 0), (.PORT_MODE_MODE_EFF, 0, 3), (.PORT_LIFE_ATT_STATE, 0, 6), (.PWRD_CLK_TCLK_RUN, 0, 1), (.DOM_STAT_STATE, 29, 0)] pw with loom := { devs := [{ port := 0, ep0 := 16, stage := .restore }], ctxs := [{ num := 16, port := 0, devEp0 := 16 }] }, dt := 50000000 }, by decide +kernel⟩,
   ⟨0, 0, ⟨[1], []⟩, { port := 0, ep0 := 16, stage := .restore }, { mk [(.SHT_STAT_STATE, 0, 1), (.SHT_STAT_PHYG, 0, 0), (.DOM_STAT_STATE, 16, 0), (.PORT_MODE_MODE_EFF, 0, 3), (.PORT_LIFE_ATT_STATE, 0, 6), (.PWRD_CLK_TCLK_RUN, 0, 1), (.DOM_STAT_STATE, 29, 0)] pw with loom := { devs := [{ port := 0, ep0 := 16, stage := .restore }], ctxs := [{ num := 16, port := 0, devEp0 := 16 }] }, dt := 50000000 }, by decide +kernel⟩,
   ⟨0, 0, ⟨[1], []⟩, { port := 0, ep0 := 16, stage := .restore, tier := 2 }, { mk [(.SHT_STAT_STATE, 0, 1), (.SHT_STAT_PHYG, 0, 0), (.DOM_STAT_STATE, 16, 0), (.PORT_MODE_MODE_EFF, 0, 3), (.PORT_LIFE_ATT_STATE, 0, 6), (.PWRD_CLK_TCLK_RUN, 0, 1), (.DOM_STAT_STATE, 29, 0)] pw with loom := { devs := [{ port := 0, ep0 := 16, stage := .restore, tier := 2 }], ctxs := [{ num := 16, port := 0, devEp0 := 16 }] }, dt := 50000000 }, by decide +kernel⟩,
   ⟨16, { num := 16, closing := true }, { mk [(.SHT_STAT_STATE, 0, 1), (.SHT_STAT_PHYG, 0, 0), (.DOM_STAT_STATE, 16, 0), (.PORT_MODE_MODE_EFF, 0, 3), (.PORT_LIFE_ATT_STATE, 0, 6), (.PWRD_CLK_TCLK_RUN, 0, 1), (.DOM_STAT_STATE, 29, 0)] pw with loom := { devs := [], ctxs := [{ num := 16, closing := true }] } }, by decide +kernel⟩⟩

theorem witness_ShuttleEvents :
    (∃ (j : Nat) (l : Nat) (s : State), j < 13 ∧ s.domOn (dSH j) = true ∧ s.flag .PWRD_CLK_TCLK_RUN = true ∧ (s.shut j).lastMf < s.microframe ∧ (s.get .SHT_STAT_STATE j = 1 ∨ s.get .SHT_STAT_STATE j = 3))
    ∧ (∃ (j : Nat) (l : Nat) (a : Nat) (s : State), j < 13 ∧ s.domOn (dSH j) = true ∧ s.flag .PWRD_CLK_TCLK_RUN = true ∧ (s.shut j).lastMf < s.microframe ∧ s.get .SHT_STAT_STATE j = 5 ∧ (s.shut j).moveFrom = some a ∧ (s.shut j).loaded = true ∧ ¬((s.shut j).back = true ∧ s.get .SHT_STAT_PHYG 12 = s.get .SHT_STAT_PHYG j ∧ s.get .SHT_STAT_STATE 12 = 3) ∧ a + s.stepped + 60000 ≤ s.microframe * 125000)
    ∧ (∃ (j : Nat) (l : Nat) (a : Nat) (s : State), j < 13 ∧ s.domOn (dSH j) = true ∧ s.flag .PWRD_CLK_TCLK_RUN = true ∧ (s.shut j).lastMf < s.microframe ∧ s.get .SHT_STAT_STATE j = 5 ∧ (s.shut j).moveFrom = some a ∧ (s.shut j).loaded = true ∧ (s.shut j).back = true ∧ s.get .SHT_STAT_PHYG 12 = s.get .SHT_STAT_PHYG j ∧ s.get .SHT_STAT_STATE 12 = 3 ∧ a + s.stepped < s.microframe * 125000 ∧ (s.shut 12).lastMf < s.microframe)
    ∧ (∃ (j : Nat) (s : State), j < 13 ∧ s.get .SHT_STAT_STATE j = 5 ∧ s.domOn (dSH j) = true)
    ∧ (∃ (j : Nat) (s : State), j < 13 ∧ (s.shut j).confirm = true ∧ s.get .SHT_STAT_PHYG j < 12 ∧ s.safeHold = false)
    ∧ (∃ (n : Nat) (data : List Nat) (c : Ctx) (d : Dev) (s : State) (t : State) (v : State), s.ctx? n = some c ∧ s.devByEp0 c.devEp0 = some d ∧ s.served c.port = true ∧ d.stage = .done ∧ s.cached c = true ∧ s.isTurn c s.microframe = true ∧ c.recs.length + 3 ≤ 32768 ∧ (s.ttOf 5 d = none ∨ c.split = true) ∧ t = s.modCtx c.num (fun c => { c with split := false }) ∧ c.isIn = true ∧ v = t.stagePacket c.port data [] ∧ (c.typ = 0 ∨ v.hasRoom c = true) ∧ data.length ≤ c.fullPacket)
    ∧ (∃ (n : Nat) (data : List Nat) (c : Ctx) (d : Dev) (s : State) (t : State), s.ctx? n = some c ∧ s.devByEp0 c.devEp0 = some d ∧ s.served c.port = true ∧ d.stage = .done ∧ s.cached c = true ∧ s.isTurn c s.microframe = true ∧ c.recs.length + 3 ≤ 32768 ∧ (s.ttOf 5 d = none ∨ c.split = true) ∧ t = s.modCtx c.num (fun c => { c with split := false }) ∧ c.isIn = true ∧ c.fullPacket < data.length)
    ∧ (∃ (n : Nat) (k : Nat) (c : Ctx) (d : Dev) (s : State) (t : State), s.ctx? n = some c ∧ s.devByEp0 c.devEp0 = some d ∧ s.served c.port = true ∧ d.stage = .done ∧ s.cached c = true ∧ s.isTurn c s.microframe = true ∧ c.recs.length + 3 ≤ 32768 ∧ (s.ttOf 5 d = none ∨ c.split = true) ∧ t = s.modCtx c.num (fun c => { c with split := false }) ∧ ((c.typ = 1 ∧ c.isIn = false) ∨ c.typ = 0 ∨ (c.typ ≠ 1 ∧ c.epAddr < 128)))
    ∧ (∃ (n : Nat) (c : Ctx) (d : Dev) (s : State) (t : State), s.ctx? n = some c ∧ s.devByEp0 c.devEp0 = some d ∧ s.served c.port = true ∧ d.stage = .done ∧ s.cached c = true ∧ s.isTurn c s.microframe = true ∧ c.recs.length + 3 ≤ 32768 ∧ (s.ttOf 5 d = none ∨ c.split = true) ∧ t = s.modCtx c.num (fun c => { c with split := false }) ∧ c.typ = 0 ∧ c.xstate = 1)
    ∧ (∃ (n : Nat) (c : Ctx) (d : Dev) (s : State) (t : State), s.ctx? n = some c ∧ s.devByEp0 c.devEp0 = some d ∧ s.served c.port = true ∧ d.stage = .done ∧ s.cached c = true ∧ s.isTurn c s.microframe = true ∧ c.recs.length + 3 ≤ 32768 ∧ (s.ttOf 5 d = none ∨ c.split = true) ∧ t = s.modCtx c.num (fun c => { c with split := false }) ∧ c.typ = 0)
    ∧ (∃ (n : Nat) (c : Ctx) (d : Dev) (s : State) (t : State), s.ctx? n = some c ∧ s.devByEp0 c.devEp0 = some d ∧ s.served c.port = true ∧ d.stage = .done ∧ s.cached c = true ∧ s.isTurn c s.microframe = true ∧ c.recs.length + 3 ≤ 32768 ∧ (s.ttOf 5 d = none ∨ c.split = true) ∧ t = s.modCtx c.num (fun c => { c with split := false }) ∧ c.isIso = false)
    ∧ (∃ (n : Nat) (c : Ctx) (d : Dev) (s : State) (t : State), s.ctx? n = some c ∧ s.devByEp0 c.devEp0 = some d ∧ s.served c.port = true ∧ d.stage = .done ∧ s.cached c = true ∧ s.isTurn c s.microframe = true ∧ c.recs.length + 3 ≤ 32768 ∧ (s.ttOf 5 d = none ∨ c.split = true) ∧ t = s.modCtx c.num (fun c => { c with split := false }) ∧ c.isIso = false)
    ∧ (∃ (n : Nat) (c : Ctx) (d : Dev) (s : State) (t : State), s.ctx? n = some c ∧ s.devByEp0 c.devEp0 = some d ∧ s.served c.port = true ∧ d.stage = .done ∧ s.cached c = true ∧ s.isTurn c s.microframe = true ∧ c.recs.length + 3 ≤ 32768 ∧ (s.ttOf 5 d = none ∨ c.split = true) ∧ t = s.modCtx c.num (fun c => { c with split := false }))
    ∧ (∃ (n : Nat) (c : Ctx) (d : Dev) (s : State) (t : State), s.ctx? n = some c ∧ s.devByEp0 c.devEp0 = some d ∧ s.served c.port = true ∧ d.stage = .done ∧ s.cached c = true ∧ s.isTurn c s.microframe = true ∧ c.recs.length + 3 ≤ 32768 ∧ (s.ttOf 5 d = none ∨ c.split = true) ∧ t = s.modCtx c.num (fun c => { c with split := false }) ∧ c.isIso = false)
    ∧ (∃ (n : Nat) (c : Ctx) (d : Dev) (s : State) (t : State), s.ctx? n = some c ∧ s.devByEp0 c.devEp0 = some d ∧ s.served c.port = true ∧ d.stage = .done ∧ s.cached c = true ∧ s.isTurn c s.microframe = true ∧ c.recs.length + 3 ≤ 32768 ∧ (s.ttOf 5 d = none ∨ c.split = true) ∧ t = s.modCtx c.num (fun c => { c with split := false }) ∧ c.isIso = true)
    ∧ (∃ (n : Nat) (c : Ctx) (d : Dev) (s : State) (t : State), s.ctx? n = some c ∧ s.devByEp0 c.devEp0 = some d ∧ s.served c.port = true ∧ d.stage = .done ∧ s.cached c = true ∧ s.isTurn c s.microframe = true ∧ c.recs.length + 3 ≤ 32768 ∧ (s.ttOf 5 d = none ∨ c.split = true) ∧ t = s.modCtx c.num (fun c => { c with split := false }))
    ∧ (∃ (n : Nat) (c : Ctx) (d : Dev) (s : State), s.ctx? n = some c ∧ s.devByEp0 c.devEp0 = some d ∧ s.served c.port = true ∧ d.stage = .done ∧ s.cached c = true ∧ s.isTurn c s.microframe = true ∧ c.recs.length + 3 ≤ 32768 ∧ s.ttOf 5 d ≠ none)
    ∧ (∃ (n : Nat) (c : Ctx) (d : Dev) (s : State), s.ctx? n = some c ∧ s.devByEp0 c.devEp0 = some d ∧ s.served c.port = true ∧ d.stage = .done ∧ s.cached c = true ∧ s.isTurn c s.microframe = true ∧ c.recs.length + 3 ≤ 32768)
    ∧ (∃ (n : Nat) (p : Nat) (c : Ctx) (d : Dev) (s : State), s.ctx? n = some c ∧ s.devByEp0 c.devEp0 = some d ∧ s.served c.port = true ∧ d.stage = .done ∧ d.isHub = true ∧ s.safeHold = false)
    ∧ (∃ (n : Nat) (p : Nat) (c : Ctx) (d : Dev) (e : Dev) (s : State), s.ctx? n = some c ∧ s.devByEp0 c.devEp0 = some d ∧ s.served c.port = true ∧ d.stage = .done ∧ s.loom.devs.find? (fun e => e.port == d.port && e.parent == d.ep0 && e.hubPort == p) = some e)
    ∧ (∃ (n : Nat) (s : State), n < 96 ∧ s.att n = 10 ∧ s.served n = true ∧ s.idleUnits n ≠ 0 ∧ (s.port n).treeAct + 10000000 * s.idleUnits n ≤ s.dt)
    ∧ (∃ (n : Nat) (s : State), n < 96)
    ∧ (∃ (n : Nat) (s : State), (s.port n).tree = 3 ∧ (s.port n).treeRec = false ∧ (s.port n).treeFrom + 20000000 ≤ s.dt)
    ∧ (∃ (n : Nat) (s : State), (s.port n).tree = 3 ∧ (s.port n).treeRec = true ∧ (s.port n).treeFrom + 10000000 ≤ s.dt) :=
  ⟨⟨0, 0, { mk [(.SHT_STAT_STATE, 0, 1), (.SHT_STAT_PHYG, 0, 0), (.DOM_STAT_STATE, 16, 0), (.PORT_MODE_MODE_EFF, 0, 3), (.PORT_LIFE_ATT_STATE, 0, 6), (.PWRD_CLK_TCLK_RUN, 0, 1), (.DOM_STAT_STATE, 29, 0)] pw with loom := { devs := [], ctxs := [] }, dt := 125000 }, by decide +kernel⟩,
   ⟨0, 0, 0, ({ mk [(.SHT_STAT_STATE, 0, 1), (.SHT_STAT_PHYG, 0, 0), (.DOM_STAT_STATE, 16, 0), (.PORT_MODE_MODE_EFF, 0, 3), (.PORT_LIFE_ATT_STATE, 0, 6), (.PWRD_CLK_TCLK_RUN, 0, 1), (.DOM_STAT_STATE, 29, 0), (.SHT_STAT_STATE, 0, 5)] pw with loom := { devs := [], ctxs := [] }, dt := 125000 } : State).modShut 0 (fun x => { x with moveFrom := some 0, loaded := true }), by decide +kernel⟩,
   ⟨0, 0, 0, ({ mk [(.SHT_STAT_STATE, 0, 1), (.SHT_STAT_PHYG, 0, 0), (.DOM_STAT_STATE, 16, 0), (.PORT_MODE_MODE_EFF, 0, 3), (.PORT_LIFE_ATT_STATE, 0, 6), (.PWRD_CLK_TCLK_RUN, 0, 1), (.DOM_STAT_STATE, 29, 0), (.SHT_STAT_STATE, 0, 5), (.SHT_STAT_STATE, 12, 3), (.SHT_STAT_PHYG, 12, 0)] pw with loom := { devs := [], ctxs := [] }, dt := 125000 } : State).modShut 0 (fun x => { x with moveFrom := some 0, loaded := true, back := true }), by decide +kernel⟩,
   ⟨0, { mk [(.SHT_STAT_STATE, 0, 1), (.SHT_STAT_PHYG, 0, 0), (.DOM_STAT_STATE, 16, 0), (.PORT_MODE_MODE_EFF, 0, 3), (.PORT_LIFE_ATT_STATE, 0, 6), (.PWRD_CLK_TCLK_RUN, 0, 1), (.DOM_STAT_STATE, 29, 0), (.SHT_STAT_STATE, 0, 5)] pw with loom := { devs := [], ctxs := [] } }, by decide +kernel⟩,
   ⟨0, ({ mk [(.SHT_STAT_STATE, 0, 1), (.SHT_STAT_PHYG, 0, 0), (.DOM_STAT_STATE, 16, 0), (.PORT_MODE_MODE_EFF, 0, 3), (.PORT_LIFE_ATT_STATE, 0, 6), (.PWRD_CLK_TCLK_RUN, 0, 1), (.DOM_STAT_STATE, 29, 0)] pw with loom := { devs := [], ctxs := [] } } : State).modShut 0 (fun x => { x with confirm := true }), by decide +kernel⟩,
   ⟨17, [1, 2], { num := 17, port := 0, devEp0 := 16, isOpen := true, epAddr := 129, typ := 2, mps := 64, share := 65536, unlimited := true }, { port := 0, ep0 := 16, stage := .done }, ({ mk [(.SHT_STAT_STATE, 0, 1), (.SHT_STAT_PHYG, 0, 0), (.DOM_STAT_STATE, 16, 0), (.PORT_MODE_MODE_EFF, 0, 3), (.PORT_LIFE_ATT_STATE, 0, 6), (.PWRD_CLK_TCLK_RUN, 0, 1), (.DOM_STAT_STATE, 29, 0)] pw with loom := { devs := [{ port := 0, ep0 := 16, stage := .done }], ctxs := [{ num := 17, port := 0, devEp0 := 16, isOpen := true, epAddr := 129, typ := 2, mps := 64, share := 65536, unlimited := true }, { num := 16, port := 0, devEp0 := 16, isOpen := true }], schedule := [17], pages := 4096, dramUp := true } } : State).modShut 0 (fun x => { x with cache := [17] }), (({ mk [(.SHT_STAT_STATE, 0, 1), (.SHT_STAT_PHYG, 0, 0), (.DOM_STAT_STATE, 16, 0), (.PORT_MODE_MODE_EFF, 0, 3), (.PORT_LIFE_ATT_STATE, 0, 6), (.PWRD_CLK_TCLK_RUN, 0, 1), (.DOM_STAT_STATE, 29, 0)] pw with loom := { devs := [{ port := 0, ep0 := 16, stage := .done }], ctxs := [{ num := 17, port := 0, devEp0 := 16, isOpen := true, epAddr := 129, typ := 2, mps := 64, share := 65536, unlimited := true }, { num := 16, port := 0, devEp0 := 16, isOpen := true }], schedule := [17], pages := 4096, dramUp := true } } : State).modShut 0 (fun x => { x with cache := [17] })).modCtx 17 (fun c => { c with split := false }), (fun s : State => s.stagePacket 0 [1, 2] []) ((({ mk [(.SHT_STAT_STATE, 0, 1), (.SHT_STAT_PHYG, 0, 0), (.DOM_STAT_STATE, 16, 0), (.PORT_MODE_MODE_EFF, 0, 3), (.PORT_LIFE_ATT_STATE, 0, 6), (.PWRD_CLK_TCLK_RUN, 0, 1), (.DOM_STAT_STATE, 29, 0)] pw with loom := { devs := [{ port := 0, ep0 := 16, stage := .done }], ctxs := [{ num := 17, port := 0, devEp0 := 16, isOpen := true, epAddr := 129, typ := 2, mps := 64, share := 65536, unlimited := true }, { num := 16, port := 0, devEp0 := 16, isOpen := true }], schedule := [17], pages := 4096, dramUp := true } } : State).modShut 0 (fun x => { x with cache := [17] })).modCtx 17 (fun c => { c with split := false })), by decide +kernel⟩,
   ⟨17, [1, 2], { num := 17, port := 0, devEp0 := 16, isOpen := true, epAddr := 129, typ := 2, share := 65536, unlimited := true, mps := 1 }, { port := 0, ep0 := 16, stage := .done }, ({ mk [(.SHT_STAT_STATE, 0, 1), (.SHT_STAT_PHYG, 0, 0), (.DOM_STAT_STATE, 16, 0), (.PORT_MODE_MODE_EFF, 0, 3), (.PORT_LIFE_ATT_STATE, 0, 6), (.PWRD_CLK_TCLK_RUN, 0, 1), (.DOM_STAT_STATE, 29, 0)] pw with loom := { devs := [{ port := 0, ep0 := 16, stage := .done }], ctxs := [{ num := 17, port := 0, devEp0 := 16, isOpen := true, epAddr := 129, typ := 2, share := 65536, unlimited := true, mps := 1 }, { num := 16, port := 0, devEp0 := 16, isOpen := true }], schedule := [17], pages := 4096, dramUp := true } } : State).modShut 0 (fun x => { x with cache := [17] }), (({ mk [(.SHT_STAT_STATE, 0, 1), (.SHT_STAT_PHYG, 0, 0), (.DOM_STAT_STATE, 16, 0), (.PORT_MODE_MODE_EFF, 0, 3), (.PORT_LIFE_ATT_STATE, 0, 6), (.PWRD_CLK_TCLK_RUN, 0, 1), (.DOM_STAT_STATE, 29, 0)] pw with loom := { devs := [{ port := 0, ep0 := 16, stage := .done }], ctxs := [{ num := 17, port := 0, devEp0 := 16, isOpen := true, epAddr := 129, typ := 2, share := 65536, unlimited := true, mps := 1 }, { num := 16, port := 0, devEp0 := 16, isOpen := true }], schedule := [17], pages := 4096, dramUp := true } } : State).modShut 0 (fun x => { x with cache := [17] })).modCtx 17 (fun c => { c with split := false }), by decide +kernel⟩,
   ⟨17, 2, { num := 17, port := 0, devEp0 := 16, isOpen := true, epAddr := 1, typ := 2, mps := 64, share := 65536, unlimited := true, stored := [{ handle := 17, typ := 0, data := [1, 2], flags := 1 }] }, { port := 0, ep0 := 16, stage := .done }, ({ mk [(.SHT_STAT_STATE, 0, 1), (.SHT_STAT_PHYG, 0, 0), (.DOM_STAT_STATE, 16, 0), (.PORT_MODE_MODE_EFF, 0, 3), (.PORT_LIFE_ATT_STATE, 0, 6), (.PWRD_CLK_TCLK_RUN, 0, 1), (.DOM_STAT_STATE, 29, 0)] pw with loom := { devs := [{ port := 0, ep0 := 16, stage := .done }], ctxs := [{ num := 17, port := 0, devEp0 := 16, isOpen := true, epAddr := 1, typ := 2, mps := 64, share := 65536, unlimited := true, stored := [{ handle := 17, typ := 0, data := [1, 2], flags := 1 }] }, { num := 16, port := 0, devEp0 := 16, isOpen := true }], schedule := [17], pages := 4096, dramUp := true } } : State).modShut 0 (fun x => { x with cache := [17] }), (({ mk [(.SHT_STAT_STATE, 0, 1), (.SHT_STAT_PHYG, 0, 0), (.DOM_STAT_STATE, 16, 0), (.PORT_MODE_MODE_EFF, 0, 3), (.PORT_LIFE_ATT_STATE, 0, 6), (.PWRD_CLK_TCLK_RUN, 0, 1), (.DOM_STAT_STATE, 29, 0)] pw with loom := { devs := [{ port := 0, ep0 := 16, stage := .done }], ctxs := [{ num := 17, port := 0, devEp0 := 16, isOpen := true, epAddr := 1, typ := 2, mps := 64, share := 65536, unlimited := true, stored := [{ handle := 17, typ := 0, data := [1, 2], flags := 1 }] }, { num := 16, port := 0, devEp0 := 16, isOpen := true }], schedule := [17], pages := 4096, dramUp := true } } : State).modShut 0 (fun x => { x with cache := [17] })).modCtx 17 (fun c => { c with split := false }), by decide +kernel⟩,
   ⟨16, { num := 16, port := 0, devEp0 := 16, isOpen := true, xstate := 1 }, { port := 0, ep0 := 16, stage := .done }, ({ mk [(.SHT_STAT_STATE, 0, 1), (.SHT_STAT_PHYG, 0, 0), (.DOM_STAT_STATE, 16, 0), (.PORT_MODE_MODE_EFF, 0, 3), (.PORT_LIFE_ATT_STATE, 0, 6), (.PWRD_CLK_TCLK_RUN, 0, 1), (.DOM_STAT_STATE, 29, 0)] pw with loom := { devs := [{ port := 0, ep0 := 16, stage := .done }], ctxs := [{ num := 16, port := 0, devEp0 := 16, isOpen := true, xstate := 1 }], schedule := [16], pages := 4096, dramUp := true } } : State).modShut 0 (fun x => { x with cache := [16] }), (({ mk [(.SHT_STAT_STATE, 0, 1), (.SHT_STAT_PHYG, 0, 0), (.DOM_STAT_STATE, 16, 0), (.PORT_MODE_MODE_EFF, 0, 3), (.PORT_LIFE_ATT_STATE, 0, 6), (.PWRD_CLK_TCLK_RUN, 0, 1), (.DOM_STAT_STATE, 29, 0)] pw with loom := { devs := [{ port := 0, ep0 := 16, stage := .done }], ctxs := [{ num := 16, port := 0, devEp0 := 16, isOpen := true, xstate := 1 }], schedule := [16], pages := 4096, dramUp := true } } : State).modShut 0 (fun x => { x with cache := [16] })).modCtx 16 (fun c => { c with split := false }), by decide +kernel⟩,
   ⟨16, { num := 16, port := 0, devEp0 := 16, isOpen := true, xstate := 3 }, { port := 0, ep0 := 16, stage := .done }, ({ mk [(.SHT_STAT_STATE, 0, 1), (.SHT_STAT_PHYG, 0, 0), (.DOM_STAT_STATE, 16, 0), (.PORT_MODE_MODE_EFF, 0, 3), (.PORT_LIFE_ATT_STATE, 0, 6), (.PWRD_CLK_TCLK_RUN, 0, 1), (.DOM_STAT_STATE, 29, 0)] pw with loom := { devs := [{ port := 0, ep0 := 16, stage := .done }], ctxs := [{ num := 16, port := 0, devEp0 := 16, isOpen := true, xstate := 3 }], schedule := [16], pages := 4096, dramUp := true } } : State).modShut 0 (fun x => { x with cache := [16] }), (({ mk [(.SHT_STAT_STATE, 0, 1), (.SHT_STAT_PHYG, 0, 0), (.DOM_STAT_STATE, 16, 0), (.PORT_MODE_MODE_EFF, 0, 3), (.PORT_LIFE_ATT_STATE, 0, 6), (.PWRD_CLK_TCLK_RUN, 0, 1), (.DOM_STAT_STATE, 29, 0)] pw with loom := { devs := [{ port := 0, ep0 := 16, stage := .done }], ctxs := [{ num := 16, port := 0, devEp0 := 16, isOpen := true, xstate := 3 }], schedule := [16], pages := 4096, dramUp := true } } : State).modShut 0 (fun x => { x with cache := [16] })).modCtx 16 (fun c => { c with split := false }), by decide +kernel⟩,
   ⟨17, { num := 17, port := 0, devEp0 := 16, isOpen := true, epAddr := 129, typ := 3, mps := 64, share := 65536, unlimited := true, interval := 1 }, { port := 0, ep0 := 16, stage := .done }, ({ mk [(.SHT_STAT_STATE, 0, 1), (.SHT_STAT_PHYG, 0, 0), (.DOM_STAT_STATE, 16, 0), (.PORT_MODE_MODE_EFF, 0, 3), (.PORT_LIFE_ATT_STATE, 0, 6), (.PWRD_CLK_TCLK_RUN, 0, 1), (.DOM_STAT_STATE, 29, 0)] pw with loom := { devs := [{ port := 0, ep0 := 16, stage := .done }], ctxs := [{ num := 17, port := 0, devEp0 := 16, isOpen := true, epAddr := 129, typ := 3, mps := 64, share := 65536, unlimited := true, interval := 1 }, { num := 16, port := 0, devEp0 := 16, isOpen := true }], schedule := [17], pages := 4096, dramUp := true } } : State).modShut 0 (fun x => { x with cache := [17] }), (({ mk [(.SHT_STAT_STATE, 0, 1), (.SHT_STAT_PHYG, 0, 0), (.DOM_STAT_STATE, 16, 0), (.PORT_MODE_MODE_EFF, 0, 3), (.PORT_LIFE_ATT_STATE, 0, 6), (.PWRD_CLK_TCLK_RUN, 0, 1), (.DOM_STAT_STATE, 29, 0)] pw with loom := { devs := [{ port := 0, ep0 := 16, stage := .done }], ctxs := [{ num := 17, port := 0, devEp0 := 16, isOpen := true, epAddr := 129, typ := 3, mps := 64, share := 65536, unlimited := true, interval := 1 }, { num := 16, port := 0, devEp0 := 16, isOpen := true }], schedule := [17], pages := 4096, dramUp := true } } : State).modShut 0 (fun x => { x with cache := [17] })).modCtx 17 (fun c => { c with split := false }), by decide +kernel⟩,
   ⟨17, { num := 17, port := 0, devEp0 := 16, isOpen := true, epAddr := 129, typ := 2, mps := 64, share := 65536, unlimited := true }, { port := 0, ep0 := 16, stage := .done }, ({ mk [(.SHT_STAT_STATE, 0, 1), (.SHT_STAT_PHYG, 0, 0), (.DOM_STAT_STATE, 16, 0), (.PORT_MODE_MODE_EFF, 0, 3), (.PORT_LIFE_ATT_STATE, 0, 6), (.PWRD_CLK_TCLK_RUN, 0, 1), (.DOM_STAT_STATE, 29, 0)] pw with loom := { devs := [{ port := 0, ep0 := 16, stage := .done }], ctxs := [{ num := 17, port := 0, devEp0 := 16, isOpen := true, epAddr := 129, typ := 2, mps := 64, share := 65536, unlimited := true }, { num := 16, port := 0, devEp0 := 16, isOpen := true }], schedule := [17], pages := 4096, dramUp := true } } : State).modShut 0 (fun x => { x with cache := [17] }), (({ mk [(.SHT_STAT_STATE, 0, 1), (.SHT_STAT_PHYG, 0, 0), (.DOM_STAT_STATE, 16, 0), (.PORT_MODE_MODE_EFF, 0, 3), (.PORT_LIFE_ATT_STATE, 0, 6), (.PWRD_CLK_TCLK_RUN, 0, 1), (.DOM_STAT_STATE, 29, 0)] pw with loom := { devs := [{ port := 0, ep0 := 16, stage := .done }], ctxs := [{ num := 17, port := 0, devEp0 := 16, isOpen := true, epAddr := 129, typ := 2, mps := 64, share := 65536, unlimited := true }, { num := 16, port := 0, devEp0 := 16, isOpen := true }], schedule := [17], pages := 4096, dramUp := true } } : State).modShut 0 (fun x => { x with cache := [17] })).modCtx 17 (fun c => { c with split := false }), by decide +kernel⟩,
   ⟨17, { num := 17, port := 0, devEp0 := 16, isOpen := true, epAddr := 129, typ := 2, mps := 64, share := 65536, unlimited := true }, { port := 0, ep0 := 16, stage := .done }, ({ mk [(.SHT_STAT_STATE, 0, 1), (.SHT_STAT_PHYG, 0, 0), (.DOM_STAT_STATE, 16, 0), (.PORT_MODE_MODE_EFF, 0, 3), (.PORT_LIFE_ATT_STATE, 0, 6), (.PWRD_CLK_TCLK_RUN, 0, 1), (.DOM_STAT_STATE, 29, 0)] pw with loom := { devs := [{ port := 0, ep0 := 16, stage := .done }], ctxs := [{ num := 17, port := 0, devEp0 := 16, isOpen := true, epAddr := 129, typ := 2, mps := 64, share := 65536, unlimited := true }, { num := 16, port := 0, devEp0 := 16, isOpen := true }], schedule := [17], pages := 4096, dramUp := true } } : State).modShut 0 (fun x => { x with cache := [17] }), (({ mk [(.SHT_STAT_STATE, 0, 1), (.SHT_STAT_PHYG, 0, 0), (.DOM_STAT_STATE, 16, 0), (.PORT_MODE_MODE_EFF, 0, 3), (.PORT_LIFE_ATT_STATE, 0, 6), (.PWRD_CLK_TCLK_RUN, 0, 1), (.DOM_STAT_STATE, 29, 0)] pw with loom := { devs := [{ port := 0, ep0 := 16, stage := .done }], ctxs := [{ num := 17, port := 0, devEp0 := 16, isOpen := true, epAddr := 129, typ := 2, mps := 64, share := 65536, unlimited := true }, { num := 16, port := 0, devEp0 := 16, isOpen := true }], schedule := [17], pages := 4096, dramUp := true } } : State).modShut 0 (fun x => { x with cache := [17] })).modCtx 17 (fun c => { c with split := false }), by decide +kernel⟩,
   ⟨17, { num := 17, port := 0, devEp0 := 16, isOpen := true, epAddr := 129, typ := 2, mps := 64, share := 65536, unlimited := true }, { port := 0, ep0 := 16, stage := .done }, ({ mk [(.SHT_STAT_STATE, 0, 1), (.SHT_STAT_PHYG, 0, 0), (.DOM_STAT_STATE, 16, 0), (.PORT_MODE_MODE_EFF, 0, 3), (.PORT_LIFE_ATT_STATE, 0, 6), (.PWRD_CLK_TCLK_RUN, 0, 1), (.DOM_STAT_STATE, 29, 0)] pw with loom := { devs := [{ port := 0, ep0 := 16, stage := .done }], ctxs := [{ num := 17, port := 0, devEp0 := 16, isOpen := true, epAddr := 129, typ := 2, mps := 64, share := 65536, unlimited := true }, { num := 16, port := 0, devEp0 := 16, isOpen := true }], schedule := [17], pages := 4096, dramUp := true } } : State).modShut 0 (fun x => { x with cache := [17] }), (({ mk [(.SHT_STAT_STATE, 0, 1), (.SHT_STAT_PHYG, 0, 0), (.DOM_STAT_STATE, 16, 0), (.PORT_MODE_MODE_EFF, 0, 3), (.PORT_LIFE_ATT_STATE, 0, 6), (.PWRD_CLK_TCLK_RUN, 0, 1), (.DOM_STAT_STATE, 29, 0)] pw with loom := { devs := [{ port := 0, ep0 := 16, stage := .done }], ctxs := [{ num := 17, port := 0, devEp0 := 16, isOpen := true, epAddr := 129, typ := 2, mps := 64, share := 65536, unlimited := true }, { num := 16, port := 0, devEp0 := 16, isOpen := true }], schedule := [17], pages := 4096, dramUp := true } } : State).modShut 0 (fun x => { x with cache := [17] })).modCtx 17 (fun c => { c with split := false }), by decide +kernel⟩,
   ⟨17, { num := 17, port := 0, devEp0 := 16, isOpen := true, epAddr := 129, typ := 1, mps := 64, share := 65536, unlimited := true, interval := 1 }, { port := 0, ep0 := 16, stage := .done }, ({ mk [(.SHT_STAT_STATE, 0, 1), (.SHT_STAT_PHYG, 0, 0), (.DOM_STAT_STATE, 16, 0), (.PORT_MODE_MODE_EFF, 0, 3), (.PORT_LIFE_ATT_STATE, 0, 6), (.PWRD_CLK_TCLK_RUN, 0, 1), (.DOM_STAT_STATE, 29, 0)] pw with loom := { devs := [{ port := 0, ep0 := 16, stage := .done }], ctxs := [{ num := 17, port := 0, devEp0 := 16, isOpen := true, epAddr := 129, typ := 1, mps := 64, share := 65536, unlimited := true, interval := 1 }, { num := 16, port := 0, devEp0 := 16, isOpen := true }], schedule := [17], pages := 4096, dramUp := true } } : State).modShut 0 (fun x => { x with cache := [17] }), (({ mk [(.SHT_STAT_STATE, 0, 1), (.SHT_STAT_PHYG, 0, 0), (.DOM_STAT_STATE, 16, 0), (.PORT_MODE_MODE_EFF, 0, 3), (.PORT_LIFE_ATT_STATE, 0, 6), (.PWRD_CLK_TCLK_RUN, 0, 1), (.DOM_STAT_STATE, 29, 0)] pw with loom := { devs := [{ port := 0, ep0 := 16, stage := .done }], ctxs := [{ num := 17, port := 0, devEp0 := 16, isOpen := true, epAddr := 129, typ := 1, mps := 64, share := 65536, unlimited := true, interval := 1 }, { num := 16, port := 0, devEp0 := 16, isOpen := true }], schedule := [17], pages := 4096, dramUp := true } } : State).modShut 0 (fun x => { x with cache := [17] })).modCtx 17 (fun c => { c with split := false }), by decide +kernel⟩,
   ⟨17, { num := 17, port := 0, devEp0 := 16, isOpen := true, epAddr := 129, typ := 1, mps := 64, share := 65536, unlimited := true, interval := 1 }, { port := 0, ep0 := 16, stage := .done }, ({ mk [(.SHT_STAT_STATE, 0, 1), (.SHT_STAT_PHYG, 0, 0), (.DOM_STAT_STATE, 16, 0), (.PORT_MODE_MODE_EFF, 0, 3), (.PORT_LIFE_ATT_STATE, 0, 6), (.PWRD_CLK_TCLK_RUN, 0, 1), (.DOM_STAT_STATE, 29, 0)] pw with loom := { devs := [{ port := 0, ep0 := 16, stage := .done }], ctxs := [{ num := 17, port := 0, devEp0 := 16, isOpen := true, epAddr := 129, typ := 1, mps := 64, share := 65536, unlimited := true, interval := 1 }, { num := 16, port := 0, devEp0 := 16, isOpen := true }], schedule := [17], pages := 4096, dramUp := true } } : State).modShut 0 (fun x => { x with cache := [17] }), (({ mk [(.SHT_STAT_STATE, 0, 1), (.SHT_STAT_PHYG, 0, 0), (.DOM_STAT_STATE, 16, 0), (.PORT_MODE_MODE_EFF, 0, 3), (.PORT_LIFE_ATT_STATE, 0, 6), (.PWRD_CLK_TCLK_RUN, 0, 1), (.DOM_STAT_STATE, 29, 0)] pw with loom := { devs := [{ port := 0, ep0 := 16, stage := .done }], ctxs := [{ num := 17, port := 0, devEp0 := 16, isOpen := true, epAddr := 129, typ := 1, mps := 64, share := 65536, unlimited := true, interval := 1 }, { num := 16, port := 0, devEp0 := 16, isOpen := true }], schedule := [17], pages := 4096, dramUp := true } } : State).modShut 0 (fun x => { x with cache := [17] })).modCtx 17 (fun c => { c with split := false }), by decide +kernel⟩,
   ⟨17, { num := 17, port := 0, devEp0 := 20, isOpen := true, epAddr := 129, typ := 2, mps := 64, share := 65536, unlimited := true }, { port := 0, route := 1, tier := 2, ep0 := 20, parent := 16, hubPort := 1, stage := .done }, ({ mk [(.SHT_STAT_STATE, 0, 1), (.SHT_STAT_PHYG, 0, 0), (.DOM_STAT_STATE, 16, 0), (.PORT_MODE_MODE_EFF, 0, 3), (.PORT_LIFE_ATT_STATE, 0, 6), (.PWRD_CLK_TCLK_RUN, 0, 1), (.DOM_STAT_STATE, 29, 0)] pw with loom := { devs := [{ port := 0, ep0 := 16, stage := .done, speed := 3 }, { port := 0, route := 1, tier := 2, ep0 := 20, parent := 16, hubPort := 1, stage := .done }], ctxs := [{ num := 17, port := 0, devEp0 := 20, isOpen := true, epAddr := 129, typ := 2, mps := 64, share := 65536, unlimited := true }], schedule := [17], pages := 4096, dramUp := true } } : State).modShut 0 (fun x => { x with cache := [17] }), by decide +kernel⟩,
   ⟨17, { num := 17, port := 0, devEp0 := 16, isOpen := true, epAddr := 129, typ := 2, mps := 64, share := 65536, unlimited := true }, { port := 0, ep0 := 16, stage := .done }, ({ mk [(.SHT_STAT_STATE, 0, 1), (.SHT_STAT_PHYG, 0, 0), (.DOM_STAT_STATE, 16, 0), (.PORT_MODE_MODE_EFF, 0, 3), (.PORT_LIFE_ATT_STATE, 0, 6), (.PWRD_CLK_TCLK_RUN, 0, 1), (.DOM_STAT_STATE, 29, 0)] pw with loom := { devs := [{ port := 0, ep0 := 16, stage := .done }], ctxs := [{ num := 17, port := 0, devEp0 := 16, isOpen := true, epAddr := 129, typ := 2, mps := 64, share := 65536, unlimited := true }, { num := 16, port := 0, devEp0 := 16, isOpen := true }], schedule := [17], pages := 4096, dramUp := true } } : State).modShut 0 (fun x => { x with cache := [17] }), by decide +kernel⟩,
   ⟨16, 2, { num := 16, port := 0, devEp0 := 16, isOpen := true }, { port := 0, ep0 := 16, stage := .done, devDesc := [18, 1, 0, 2, 9] }, { mk [(.SHT_STAT_STATE, 0, 1), (.SHT_STAT_PHYG, 0, 0), (.DOM_STAT_STATE, 16, 0), (.PORT_MODE_MODE_EFF, 0, 3), (.PORT_LIFE_ATT_STATE, 0, 6), (.PWRD_CLK_TCLK_RUN, 0, 1), (.DOM_STAT_STATE, 29, 0)] pw with loom := { devs := [{ port := 0, ep0 := 16, stage := .done, devDesc := [18, 1, 0, 2, 9] }], ctxs := [{ num := 16, port := 0, devEp0 := 16, isOpen := true }] } }, by decide +kernel⟩,
   ⟨16, 2, { num := 16, port := 0, devEp0 := 16, isOpen := true }, { port := 0, ep0 := 16, stage := .done }, { port := 0, route := 2, parent := 16, hubPort := 2, ep0 := 20 }, { mk [(.SHT_STAT_STATE, 0, 1), (.SHT_STAT_PHYG, 0, 0), (.DOM_STAT_STATE, 16, 0), (.PORT_MODE_MODE_EFF, 0, 3), (.PORT_LIFE_ATT_STATE, 0, 6), (.PWRD_CLK_TCLK_RUN, 0, 1), (.DOM_STAT_STATE, 29, 0)] pw with loom := { devs := [{ port := 0, ep0 := 16, stage := .done }, { port := 0, route := 2, parent := 16, hubPort := 2, ep0 := 20 }], ctxs := [{ num := 16, port := 0, devEp0 := 16, isOpen := true }] } }, by decide +kernel⟩,
   ⟨0, { mk [(.SHT_STAT_STATE, 0, 1), (.SHT_STAT_PHYG, 0, 0), (.DOM_STAT_STATE, 16, 0), (.PORT_MODE_MODE_EFF, 0, 3), (.PORT_LIFE_ATT_STATE, 0, 6), (.PWRD_CLK_TCLK_RUN, 0, 1), (.DOM_STAT_STATE, 29, 0), (.PORT_LIFE_ATT_STATE, 0, 10), (.SHT_IDLE, 0, 1)] pw with loom := { devs := [], ctxs := [] }, dt := 10000000 }, by decide +kernel⟩,
   ⟨0, { mk [(.SHT_STAT_STATE, 0, 1), (.SHT_STAT_PHYG, 0, 0), (.DOM_STAT_STATE, 16, 0), (.PORT_MODE_MODE_EFF, 0, 3), (.PORT_LIFE_ATT_STATE, 0, 6), (.PWRD_CLK_TCLK_RUN, 0, 1), (.DOM_STAT_STATE, 29, 0)] pw with loom := { devs := [], ctxs := [] } }, by decide +kernel⟩,
   ⟨0, ({ mk [(.SHT_STAT_STATE, 0, 1), (.SHT_STAT_PHYG, 0, 0), (.DOM_STAT_STATE, 16, 0), (.PORT_MODE_MODE_EFF, 0, 3), (.PORT_LIFE_ATT_STATE, 0, 6), (.PWRD_CLK_TCLK_RUN, 0, 1), (.DOM_STAT_STATE, 29, 0)] pw with loom := { devs := [], ctxs := [] }, dt := 20000000 } : State).modPort 0 (fun p => { p with tree := 3 }), by decide +kernel⟩,
   ⟨0, ({ mk [(.SHT_STAT_STATE, 0, 1), (.SHT_STAT_PHYG, 0, 0), (.DOM_STAT_STATE, 16, 0), (.PORT_MODE_MODE_EFF, 0, 3), (.PORT_LIFE_ATT_STATE, 0, 6), (.PWRD_CLK_TCLK_RUN, 0, 1), (.DOM_STAT_STATE, 29, 0)] pw with loom := { devs := [], ctxs := [] }, dt := 10000000 } : State).modPort 0 (fun p => { p with tree := 3, treeRec := true }), by decide +kernel⟩⟩

theorem witness_LoomRecordEvents :
    (∃ (l : Nat) (bs : List Nat) (s : State), s.laneOpen l = true ∧ bs.length ≤ laneBuffer l ∧ s.flag .LOOMS_LANE_OUT_DMA l = false)
    ∧ (∃ (l : Nat) (bs : List Nat) (s : State), s.laneOpen l = true ∧ bs.length ≤ laneBuffer l ∧ s.flag .LOOMS_LANE_OUT_DMA l = true)
    ∧ (∃ (l : Nat) (s : State), l < 9 ∧ (s.lane l).inbox = [])
    ∧ (∃ (l : Nat) (r : WRec) (c : Ctx) (s : State) (t : State), Safety.recordAs l r c s t ∧ r.typ = 0 ∧ 16 ≤ c.num ∧ c.takesData = true)
    ∧ (∃ (l : Nat) (r : WRec) (c : Ctx) (s : State) (t : State), Safety.recordAs l r c s t ∧ r.typ = 0 ∧ c.num = 8)
    ∧ (∃ (l : Nat) (r : WRec) (c : Ctx) (s : State) (t : State), Safety.recordAs l r c s t ∧ r.typ = 0 ∧ c.num ≠ 8 ∧ (c.num < 16 ∨ c.takesData = false))
    ∧ (∃ (l : Nat) (cfg : List Nat) (d : Dev) (u : State) (v : State) (r : WRec) (c : Ctx) (s : State) (t : State), Safety.recordAs l r c s t ∧ r.typ = 1 ∧ v = (if c.transferOpen then (t.flushPart c.num).completion c.num wABORT c.xferDone else t.flushPart c.num).settleStored c.num ∧ u = (match v.devByEp0 c.num with | some d => v.dropLater d | none => v).storeRec c r ∧ u.serving c.port ≠ none ∧ u.devByEp0 c.num = some d ∧ d.stage = .done)
    ∧ (∃ (l : Nat) (cfg : List Nat) (d : Dev) (u : State) (v : State) (r : WRec) (c : Ctx) (s : State) (t : State), Safety.recordAs l r c s t ∧ r.typ = 1 ∧ v = (if c.transferOpen then (t.flushPart c.num).completion c.num wABORT c.xferDone else t.flushPart c.num).settleStored c.num ∧ u = (match v.devByEp0 c.num with | some d => v.dropLater d | none => v).storeRec c r ∧ u.serving c.port ≠ none ∧ u.devByEp0 c.num = some d ∧ d.stage ≠ .done)
    ∧ (∃ (l : Nat) (b : Bool) (e : Ctx) (r : WRec) (c : Ctx) (s : State) (t : State), Safety.recordAs l r c s t ∧ r.typ = 2 ∧ (t.storeRec c r).ctx? c.num = some e ∧ b = (decide (c.port < 96) && (t.port c.port).tree == 2))
    ∧ (∃ (l : Nat) (r : WRec) (c : Ctx) (s : State) (t : State), Safety.recordAs l r c s t ∧ r.typ = 4)
    ∧ (∃ (l : Nat) (i : Nat) (r : WRec) (c : Ctx) (s : State) (t : State), Safety.recordAs l r c s t ∧ r.typ = 5 ∧ c.sentAt r.seq = some i)
    ∧ (∃ (l : Nat) (r : WRec) (c : Ctx) (s : State) (t : State), Safety.recordAs l r c s t ∧ r.typ = 5 ∧ c.sentAt r.seq = none ∧ ((r.seq + 65536 - c.txAck) % 65536 = 0 ∨ 32768 < (r.seq + 65536 - c.txAck) % 65536))
    ∧ (∃ (l : Nat) (r : WRec) (c : Ctx) (s : State) (t : State), Safety.recordAs l r c s t ∧ r.typ = 5 ∧ c.sentAt r.seq = none ∧ (r.seq + 65536 - c.txAck) % 65536 ≠ 0 ∧ (r.seq + 65536 - c.txAck) % 65536 ≤ 32768)
    ∧ (∃ (l : Nat) (r : WRec) (c : Ctx) (s : State) (t : State), Safety.recordAs l r c s t ∧ r.typ = 6 ∧ c.isIso = false)
    ∧ (∃ (l : Nat) (r : WRec) (c : Ctx) (s : State) (t : State), Safety.recordAs l r c s t ∧ r.typ = 6 ∧ c.isIso = true)
    ∧ (∃ (h : Nat) (c : Ctx) (s : State), s.ctx? (h % 16384) = some c ∧ h / 16384 = s.idx ∧ s.stagingFree (2 * c.doneHead) = true)
    ∧ (∃ (l : Nat) (s : State), s.laneOpen l = true ∧ (s.lane l).inBuf = [])
    ∧ (∃ (l : Nat) (s : State), s.laneOpen l = true ∧ (s.lane l).inBuf ≠ [])
    ∧ (∃ (s : State), s.flag .LOOMS_STAT_CONFIGURED = true ∧ s.loomSuspended = false ∧ (s.ecx.loomEvts ≠ [] ∨ s.ecx.loomLost ≠ 0)) :=
  ⟨⟨0, List.replicate 16 0, mk [(.LOOMS_STAT_CONFIGURED, 0, 1), (.LOOMS_STAT_RATE, 0, 4), (.DOM_STAT_STATE, 2, 0), (.DOM_STAT_STATE, 29, 0)], by decide +kernel⟩,
   ⟨0, List.replicate 16 0, mk [(.LOOMS_STAT_CONFIGURED, 0, 1), (.LOOMS_STAT_RATE, 0, 4), (.DOM_STAT_STATE, 2, 0), (.DOM_STAT_STATE, 29, 0), (.LOOMS_LANE_OUT_DMA, 0, 1)], by decide +kernel⟩,
   ⟨0, mk [(.LOOMS_STAT_CONFIGURED, 0, 1), (.LOOMS_STAT_RATE, 0, 4), (.DOM_STAT_STATE, 2, 0), (.DOM_STAT_STATE, 29, 0), (.LOOMS_LANE_OUT_DMA, 0, 1)], by decide +kernel⟩,
   ⟨0, { handle := 17, typ := 0 }, { num := 17, port := 0, devEp0 := 16, isOpen := true, epAddr := 1, typ := 2, mps := 64, outLimit := 4096 }, ({ mk [(.LOOMS_STAT_CONFIGURED, 0, 1), (.LOOMS_STAT_RATE, 0, 4), (.DOM_STAT_STATE, 2, 0), (.DOM_STAT_STATE, 29, 0), (.SHT_STAT_STATE, 0, 1), (.SHT_STAT_PHYG, 0, 0), (.DOM_STAT_STATE, 16, 0), (.PORT_MODE_MODE_EFF, 0, 3), (.PORT_LIFE_ATT_STATE, 0, 6), (.PWRD_CLK_TCLK_RUN, 0, 1), (.DOM_STAT_STATE, 29, 0)] pw with loom := { ctxs := [{ num := 17, port := 0, devEp0 := 16, isOpen := true, epAddr := 1, typ := 2, mps := 64, outLimit := 4096 }], devs := [] } } : State).modLane 0 (fun l => { l with inbox := [{ handle := 17, typ := 0 }] }), (({ mk [(.LOOMS_STAT_CONFIGURED, 0, 1), (.LOOMS_STAT_RATE, 0, 4), (.DOM_STAT_STATE, 2, 0), (.DOM_STAT_STATE, 29, 0), (.SHT_STAT_STATE, 0, 1), (.SHT_STAT_PHYG, 0, 0), (.DOM_STAT_STATE, 16, 0), (.PORT_MODE_MODE_EFF, 0, 3), (.PORT_LIFE_ATT_STATE, 0, 6), (.PWRD_CLK_TCLK_RUN, 0, 1), (.DOM_STAT_STATE, 29, 0)] pw with loom := { ctxs := [{ num := 17, port := 0, devEp0 := 16, isOpen := true, epAddr := 1, typ := 2, mps := 64, outLimit := 4096 }], devs := [] } } : State).modLane 0 (fun l => { l with inbox := [{ handle := 17, typ := 0 }] })).modLane 0 (fun l => { l with inbox := [] }), ⟨[], by decide +kernel⟩, by decide +kernel⟩,
   ⟨0, { handle := 8, typ := 0 }, { num := 8, isOpen := true, typ := 2, outLimit := 4096 }, ({ mk [(.LOOMS_STAT_CONFIGURED, 0, 1), (.LOOMS_STAT_RATE, 0, 4), (.DOM_STAT_STATE, 2, 0), (.DOM_STAT_STATE, 29, 0), (.SHT_STAT_STATE, 0, 1), (.SHT_STAT_PHYG, 0, 0), (.DOM_STAT_STATE, 16, 0), (.PORT_MODE_MODE_EFF, 0, 3), (.PORT_LIFE_ATT_STATE, 0, 6), (.PWRD_CLK_TCLK_RUN, 0, 1), (.DOM_STAT_STATE, 29, 0)] pw with loom := { ctxs := [{ num := 8, isOpen := true, typ := 2, outLimit := 4096 }], devs := [] } } : State).modLane 0 (fun l => { l with inbox := [{ handle := 8, typ := 0 }] }), (({ mk [(.LOOMS_STAT_CONFIGURED, 0, 1), (.LOOMS_STAT_RATE, 0, 4), (.DOM_STAT_STATE, 2, 0), (.DOM_STAT_STATE, 29, 0), (.SHT_STAT_STATE, 0, 1), (.SHT_STAT_PHYG, 0, 0), (.DOM_STAT_STATE, 16, 0), (.PORT_MODE_MODE_EFF, 0, 3), (.PORT_LIFE_ATT_STATE, 0, 6), (.PWRD_CLK_TCLK_RUN, 0, 1), (.DOM_STAT_STATE, 29, 0)] pw with loom := { ctxs := [{ num := 8, isOpen := true, typ := 2, outLimit := 4096 }], devs := [] } } : State).modLane 0 (fun l => { l with inbox := [{ handle := 8, typ := 0 }] })).modLane 0 (fun l => { l with inbox := [] }), ⟨[], by decide +kernel⟩, by decide +kernel⟩,
   ⟨0, { handle := 3, typ := 0 }, { num := 3, isOpen := true, typ := 2, outLimit := 4096 }, ({ mk [(.LOOMS_STAT_CONFIGURED, 0, 1), (.LOOMS_STAT_RATE, 0, 4), (.DOM_STAT_STATE, 2, 0), (.DOM_STAT_STATE, 29, 0), (.SHT_STAT_STATE, 0, 1), (.SHT_STAT_PHYG, 0, 0), (.DOM_STAT_STATE, 16, 0), (.PORT_MODE_MODE_EFF, 0, 3), (.PORT_LIFE_ATT_STATE, 0, 6), (.PWRD_CLK_TCLK_RUN, 0, 1), (.DOM_STAT_STATE, 29, 0)] pw with loom := { ctxs := [{ num := 3, isOpen := true, typ := 2, outLimit := 4096 }], devs := [] } } : State).modLane 0 (fun l => { l with inbox := [{ handle := 3, typ := 0 }] }), (({ mk [(.LOOMS_STAT_CONFIGURED, 0, 1), (.LOOMS_STAT_RATE, 0, 4), (.DOM_STAT_STATE, 2, 0), (.DOM_STAT_STATE, 29, 0), (.SHT_STAT_STATE, 0, 1), (.SHT_STAT_PHYG, 0, 0), (.DOM_STAT_STATE, 16, 0), (.PORT_MODE_MODE_EFF, 0, 3), (.PORT_LIFE_ATT_STATE, 0, 6), (.PWRD_CLK_TCLK_RUN, 0, 1), (.DOM_STAT_STATE, 29, 0)] pw with loom := { ctxs := [{ num := 3, isOpen := true, typ := 2, outLimit := 4096 }], devs := [] } } : State).modLane 0 (fun l => { l with inbox := [{ handle := 3, typ := 0 }] })).modLane 0 (fun l => { l with inbox := [] }), ⟨[], by decide +kernel⟩, by decide +kernel⟩,
   ⟨0, [], { port := 0, ep0 := 16, stage := .done }, (let v : State := (let t : State := (({ mk [(.LOOMS_STAT_CONFIGURED, 0, 1), (.LOOMS_STAT_RATE, 0, 4), (.DOM_STAT_STATE, 2, 0), (.DOM_STAT_STATE, 29, 0), (.SHT_STAT_STATE, 0, 1), (.SHT_STAT_PHYG, 0, 0), (.DOM_STAT_STATE, 16, 0), (.PORT_MODE_MODE_EFF, 0, 3), (.PORT_LIFE_ATT_STATE, 0, 6), (.PWRD_CLK_TCLK_RUN, 0, 1), (.DOM_STAT_STATE, 29, 0)] pw with loom := { ctxs := [{ num := 16, port := 0, devEp0 := 16, isOpen := true }], devs := [{ port := 0, ep0 := 16, stage := .done }] } } : State).modLane 0 (fun l => { l with inbox := [{ handle := 16, typ := 1, data := [0, 9, 1, 0, 0, 0, 0, 0] }] })).modLane 0 (fun l => { l with inbox := [] }); let c : Ctx := { num := 16, port := 0, devEp0 := 16, isOpen := true }; (if c.transferOpen then (t.flushPart c.num).completion c.num wABORT c.xferDone else t.flushPart c.num).settleStored c.num); let c : Ctx := { num := 16, port := 0, devEp0 := 16, isOpen := true }; (match v.devByEp0 c.num with | some d => v.dropLater d | none => v).storeRec c { handle := 16, typ := 1, data := [0, 9, 1, 0, 0, 0, 0, 0] }), (let t : State := (({ mk [(.LOOMS_STAT_CONFIGURED, 0, 1), (.LOOMS_STAT_RATE, 0, 4), (.DOM_STAT_STATE, 2, 0), (.DOM_STAT_STATE, 29, 0), (.SHT_STAT_STATE, 0, 1), (.SHT_STAT_PHYG, 0, 0), (.DOM_STAT_STATE, 16, 0), (.PORT_MODE_MODE_EFF, 0, 3), (.PORT_LIFE_ATT_STATE, 0, 6), (.PWRD_CLK_TCLK_RUN, 0, 1), (.DOM_STAT_STATE, 29, 0)] pw with loom := { ctxs := [{ num := 16, port := 0, devEp0 := 16, isOpen := true }], devs := [{ port := 0, ep0 := 16, stage := .done }] } } : State).modLane 0 (fun l => { l with inbox := [{ handle := 16, typ := 1, data := [0, 9, 1, 0, 0, 0, 0, 0] }] })).modLane 0 (fun l => { l with inbox := [] }); let c : Ctx := { num := 16, port := 0, devEp0 := 16, isOpen := true }; (if c.transferOpen then (t.flushPart c.num).completion c.num wABORT c.xferDone else t.flushPart c.num).settleStored c.num), { handle := 16, typ := 1, data := [0, 9, 1, 0, 0, 0, 0, 0] }, { num := 16, port := 0, devEp0 := 16, isOpen := true }, ({ mk [(.LOOMS_STAT_CONFIGURED, 0, 1), (.LOOMS_STAT_RATE, 0, 4), (.DOM_STAT_STATE, 2, 0), (.DOM_STAT_STATE, 29, 0), (.SHT_STAT_STATE, 0, 1), (.SHT_STAT_PHYG, 0, 0), (.DOM_STAT_STATE, 16, 0), (.PORT_MODE_MODE_EFF, 0, 3), (.PORT_LIFE_ATT_STATE, 0, 6), (.PWRD_CLK_TCLK_RUN, 0, 1), (.DOM_STAT_STATE, 29, 0)] pw with loom := { ctxs := [{ num := 16, port := 0, devEp0 := 16, isOpen := true }], devs := [{ port := 0, ep0 := 16, stage := .done }] } } : State).modLane 0 (fun l => { l with inbox := [{ handle := 16, typ := 1, data := [0, 9, 1, 0, 0, 0, 0, 0] }] }), (({ mk [(.LOOMS_STAT_CONFIGURED, 0, 1), (.LOOMS_STAT_RATE, 0, 4), (.DOM_STAT_STATE, 2, 0), (.DOM_STAT_STATE, 29, 0), (.SHT_STAT_STATE, 0, 1), (.SHT_STAT_PHYG, 0, 0), (.DOM_STAT_STATE, 16, 0), (.PORT_MODE_MODE_EFF, 0, 3), (.PORT_LIFE_ATT_STATE, 0, 6), (.PWRD_CLK_TCLK_RUN, 0, 1), (.DOM_STAT_STATE, 29, 0)] pw with loom := { ctxs := [{ num := 16, port := 0, devEp0 := 16, isOpen := true }], devs := [{ port := 0, ep0 := 16, stage := .done }] } } : State).modLane 0 (fun l => { l with inbox := [{ handle := 16, typ := 1, data := [0, 9, 1, 0, 0, 0, 0, 0] }] })).modLane 0 (fun l => { l with inbox := [] }), ⟨[], by decide +kernel⟩, by decide +kernel⟩,
   ⟨0, [], { port := 0, ep0 := 16, stage := .restore }, (let v : State := (let t : State := (({ mk [(.LOOMS_STAT_CONFIGURED, 0, 1), (.LOOMS_STAT_RATE, 0, 4), (.DOM_STAT_STATE, 2, 0), (.DOM_STAT_STATE, 29, 0), (.SHT_STAT_STATE, 0, 1), (.SHT_STAT_PHYG, 0, 0), (.DOM_STAT_STATE, 16, 0), (.PORT_MODE_MODE_EFF, 0, 3), (.PORT_LIFE_ATT_STATE, 0, 6), (.PWRD_CLK_TCLK_RUN, 0, 1), (.DOM_STAT_STATE, 29, 0)] pw with loom := { ctxs := [{ num := 16, port := 0, devEp0 := 16, isOpen := true }], devs := [{ port := 0, ep0 := 16, stage := .restore }] } } : State).modLane 0 (fun l => { l with inbox := [{ handle := 16, typ := 1, data := [0, 9, 1, 0, 0, 0, 0, 0] }] })).modLane 0 (fun l => { l with inbox := [] }); let c : Ctx := { num := 16, port := 0, devEp0 := 16, isOpen := true }; (if c.transferOpen then (t.flushPart c.num).completion c.num wABORT c.xferDone else t.flushPart c.num).settleStored c.num); let c : Ctx := { num := 16, port := 0, devEp0 := 16, isOpen := true }; (match v.devByEp0 c.num with | some d => v.dropLater d | none => v).storeRec c { handle := 16, typ := 1, data := [0, 9, 1, 0, 0, 0, 0, 0] }), (let t : State := (({ mk [(.LOOMS_STAT_CONFIGURED, 0, 1), (.LOOMS_STAT_RATE, 0, 4), (.DOM_STAT_STATE, 2, 0), (.DOM_STAT_STATE, 29, 0), (.SHT_STAT_STATE, 0, 1), (.SHT_STAT_PHYG, 0, 0), (.DOM_STAT_STATE, 16, 0), (.PORT_MODE_MODE_EFF, 0, 3), (.PORT_LIFE_ATT_STATE, 0, 6), (.PWRD_CLK_TCLK_RUN, 0, 1), (.DOM_STAT_STATE, 29, 0)] pw with loom := { ctxs := [{ num := 16, port := 0, devEp0 := 16, isOpen := true }], devs := [{ port := 0, ep0 := 16, stage := .restore }] } } : State).modLane 0 (fun l => { l with inbox := [{ handle := 16, typ := 1, data := [0, 9, 1, 0, 0, 0, 0, 0] }] })).modLane 0 (fun l => { l with inbox := [] }); let c : Ctx := { num := 16, port := 0, devEp0 := 16, isOpen := true }; (if c.transferOpen then (t.flushPart c.num).completion c.num wABORT c.xferDone else t.flushPart c.num).settleStored c.num), { handle := 16, typ := 1, data := [0, 9, 1, 0, 0, 0, 0, 0] }, { num := 16, port := 0, devEp0 := 16, isOpen := true }, ({ mk [(.LOOMS_STAT_CONFIGURED, 0, 1), (.LOOMS_STAT_RATE, 0, 4), (.DOM_STAT_STATE, 2, 0), (.DOM_STAT_STATE, 29, 0), (.SHT_STAT_STATE, 0, 1), (.SHT_STAT_PHYG, 0, 0), (.DOM_STAT_STATE, 16, 0), (.PORT_MODE_MODE_EFF, 0, 3), (.PORT_LIFE_ATT_STATE, 0, 6), (.PWRD_CLK_TCLK_RUN, 0, 1), (.DOM_STAT_STATE, 29, 0)] pw with loom := { ctxs := [{ num := 16, port := 0, devEp0 := 16, isOpen := true }], devs := [{ port := 0, ep0 := 16, stage := .restore }] } } : State).modLane 0 (fun l => { l with inbox := [{ handle := 16, typ := 1, data := [0, 9, 1, 0, 0, 0, 0, 0] }] }), (({ mk [(.LOOMS_STAT_CONFIGURED, 0, 1), (.LOOMS_STAT_RATE, 0, 4), (.DOM_STAT_STATE, 2, 0), (.DOM_STAT_STATE, 29, 0), (.SHT_STAT_STATE, 0, 1), (.SHT_STAT_PHYG, 0, 0), (.DOM_STAT_STATE, 16, 0), (.PORT_MODE_MODE_EFF, 0, 3), (.PORT_LIFE_ATT_STATE, 0, 6), (.PWRD_CLK_TCLK_RUN, 0, 1), (.DOM_STAT_STATE, 29, 0)] pw with loom := { ctxs := [{ num := 16, port := 0, devEp0 := 16, isOpen := true }], devs := [{ port := 0, ep0 := 16, stage := .restore }] } } : State).modLane 0 (fun l => { l with inbox := [{ handle := 16, typ := 1, data := [0, 9, 1, 0, 0, 0, 0, 0] }] })).modLane 0 (fun l => { l with inbox := [] }), ⟨[], by decide +kernel⟩, by decide +kernel⟩,
   ⟨0, false, (((({ mk [(.LOOMS_STAT_CONFIGURED, 0, 1), (.LOOMS_STAT_RATE, 0, 4), (.DOM_STAT_STATE, 2, 0), (.DOM_STAT_STATE, 29, 0), (.SHT_STAT_STATE, 0, 1), (.SHT_STAT_PHYG, 0, 0), (.DOM_STAT_STATE, 16, 0), (.PORT_MODE_MODE_EFF, 0, 3), (.PORT_LIFE_ATT_STATE, 0, 6), (.PWRD_CLK_TCLK_RUN, 0, 1), (.DOM_STAT_STATE, 29, 0)] pw with loom := { ctxs := [{ num := 17, port := 0, devEp0 := 16, isOpen := true, epAddr := 1, typ := 2, mps := 64, outLimit := 4096 }], devs := [] } } : State).modLane 0 (fun l => { l with inbox := [{ handle := 17, typ := 2 }] })).modLane 0 (fun l => { l with inbox := [] })).storeRec { num := 17, port := 0, devEp0 := 16, isOpen := true, epAddr := 1, typ := 2, mps := 64, outLimit := 4096 } { handle := 17, typ := 2 }).ctx? 17 |>.getD { num := 17 }, { handle := 17, typ := 2 }, { num := 17, port := 0, devEp0 := 16, isOpen := true, epAddr := 1, typ := 2, mps := 64, outLimit := 4096 }, ({ mk [(.LOOMS_STAT_CONFIGURED, 0, 1), (.LOOMS_STAT_RATE, 0, 4), (.DOM_STAT_STATE, 2, 0), (.DOM_STAT_STATE, 29, 0), (.SHT_STAT_STATE, 0, 1), (.SHT_STAT_PHYG, 0, 0), (.DOM_STAT_STATE, 16, 0), (.PORT_MODE_MODE_EFF, 0, 3), (.PORT_LIFE_ATT_STATE, 0, 6), (.PWRD_CLK_TCLK_RUN, 0, 1), (.DOM_STAT_STATE, 29, 0)] pw with loom := { ctxs := [{ num := 17, port := 0, devEp0 := 16, isOpen := true, epAddr := 1, typ := 2, mps := 64, outLimit := 4096 }], devs := [] } } : State).modLane 0 (fun l => { l with inbox := [{ handle := 17, typ := 2 }] }), (({ mk [(.LOOMS_STAT_CONFIGURED, 0, 1), (.LOOMS_STAT_RATE, 0, 4), (.DOM_STAT_STATE, 2, 0), (.DOM_STAT_STATE, 29, 0), (.SHT_STAT_STATE, 0, 1), (.SHT_STAT_PHYG, 0, 0), (.DOM_STAT_STATE, 16, 0), (.PORT_MODE_MODE_EFF, 0, 3), (.PORT_LIFE_ATT_STATE, 0, 6), (.PWRD_CLK_TCLK_RUN, 0, 1), (.DOM_STAT_STATE, 29, 0)] pw with loom := { ctxs := [{ num := 17, port := 0, devEp0 := 16, isOpen := true, epAddr := 1, typ := 2, mps := 64, outLimit := 4096 }], devs := [] } } : State).modLane 0 (fun l => { l with inbox := [{ handle := 17, typ := 2 }] })).modLane 0 (fun l => { l with inbox := [] }), ⟨[], by decide +kernel⟩, by decide +kernel⟩,
   ⟨0, { handle := 17, typ := 4 }, { num := 17, port := 0, devEp0 := 16, isOpen := true, epAddr := 1, typ := 2, mps := 64, outLimit := 4096 }, ({ mk [(.LOOMS_STAT_CONFIGURED, 0, 1), (.LOOMS_STAT_RATE, 0, 4), (.DOM_STAT_STATE, 2, 0), (.DOM_STAT_STATE, 29, 0), (.SHT_STAT_STATE, 0, 1), (.SHT_STAT_PHYG, 0, 0), (.DOM_STAT_STATE, 16, 0), (.PORT_MODE_MODE_EFF, 0, 3), (.PORT_LIFE_ATT_STATE, 0, 6), (.PWRD_CLK_TCLK_RUN, 0, 1), (.DOM_STAT_STATE, 29, 0)] pw with loom := { ctxs := [{ num := 17, port := 0, devEp0 := 16, isOpen := true, epAddr := 1, typ := 2, mps := 64, outLimit := 4096 }], devs := [] } } : State).modLane 0 (fun l => { l with inbox := [{ handle := 17, typ := 4 }] }), (({ mk [(.LOOMS_STAT_CONFIGURED, 0, 1), (.LOOMS_STAT_RATE, 0, 4), (.DOM_STAT_STATE, 2, 0), (.DOM_STAT_STATE, 29, 0), (.SHT_STAT_STATE, 0, 1), (.SHT_STAT_PHYG, 0, 0), (.DOM_STAT_STATE, 16, 0), (.PORT_MODE_MODE_EFF, 0, 3), (.PORT_LIFE_ATT_STATE, 0, 6), (.PWRD_CLK_TCLK_RUN, 0, 1), (.DOM_STAT_STATE, 29, 0)] pw with loom := { ctxs := [{ num := 17, port := 0, devEp0 := 16, isOpen := true, epAddr := 1, typ := 2, mps := 64, outLimit := 4096 }], devs := [] } } : State).modLane 0 (fun l => { l with inbox := [{ handle := 17, typ := 4 }] })).modLane 0 (fun l => { l with inbox := [] }), ⟨[], by decide +kernel⟩, by decide +kernel⟩,
   ⟨0, 0, { handle := 17, typ := 5 }, { num := 17, port := 0, devEp0 := 16, isOpen := true, recs := [{ handle := 17, typ := 0 }], sent := 1, high := 1 }, ({ mk [(.LOOMS_STAT_CONFIGURED, 0, 1), (.LOOMS_STAT_RATE, 0, 4), (.DOM_STAT_STATE, 2, 0), (.DOM_STAT_STATE, 29, 0), (.SHT_STAT_STATE, 0, 1), (.SHT_STAT_PHYG, 0, 0), (.DOM_STAT_STATE, 16, 0), (.PORT_MODE_MODE_EFF, 0, 3), (.PORT_LIFE_ATT_STATE, 0, 6), (.PWRD_CLK_TCLK_RUN, 0, 1), (.DOM_STAT_STATE, 29, 0)] pw with loom := { ctxs := [{ num := 17, port := 0, devEp0 := 16, isOpen := true, recs := [{ handle := 17, typ := 0 }], sent := 1, high := 1 }], devs := [] } } : State).modLane 0 (fun l => { l with inbox := [{ handle := 17, typ := 5 }] }), (({ mk [(.LOOMS_STAT_CONFIGURED, 0, 1), (.LOOMS_STAT_RATE, 0, 4), (.DOM_STAT_STATE, 2, 0), (.DOM_STAT_STATE, 29, 0), (.SHT_STAT_STATE, 0, 1), (.SHT_STAT_PHYG, 0, 0), (.DOM_STAT_STATE, 16, 0), (.PORT_MODE_MODE_EFF, 0, 3), (.PORT_LIFE_ATT_STATE, 0, 6), (.PWRD_CLK_TCLK_RUN, 0, 1), (.DOM_STAT_STATE, 29, 0)] pw with loom := { ctxs := [{ num := 17, port := 0, devEp0 := 16, isOpen := true, recs := [{ handle := 17, typ := 0 }], sent := 1, high := 1 }], devs := [] } } : State).modLane 0 (fun l => { l with inbox := [{ handle := 17, typ := 5 }] })).modLane 0 (fun l => { l with inbox := [] }), ⟨[], by decide +kernel⟩, by decide +kernel⟩,
   ⟨0, { handle := 17, typ := 5, seq := 65535 }, { num := 17, port := 0, devEp0 := 16, isOpen := true, epAddr := 1, typ := 2, mps := 64, outLimit := 4096 }, ({ mk [(.LOOMS_STAT_CONFIGURED, 0, 1), (.LOOMS_STAT_RATE, 0, 4), (.DOM_STAT_STATE, 2, 0), (.DOM_STAT_STATE, 29, 0), (.SHT_STAT_STATE, 0, 1), (.SHT_STAT_PHYG, 0, 0), (.DOM_STAT_STATE, 16, 0), (.PORT_MODE_MODE_EFF, 0, 3), (.PORT_LIFE_ATT_STATE, 0, 6), (.PWRD_CLK_TCLK_RUN, 0, 1), (.DOM_STAT_STATE, 29, 0)] pw with loom := { ctxs := [{ num := 17, port := 0, devEp0 := 16, isOpen := true, epAddr := 1, typ := 2, mps := 64, outLimit := 4096 }], devs := [] } } : State).modLane 0 (fun l => { l with inbox := [{ handle := 17, typ := 5, seq := 65535 }] }), (({ mk [(.LOOMS_STAT_CONFIGURED, 0, 1), (.LOOMS_STAT_RATE, 0, 4), (.DOM_STAT_STATE, 2, 0), (.DOM_STAT_STATE, 29, 0), (.SHT_STAT_STATE, 0, 1), (.SHT_STAT_PHYG, 0, 0), (.DOM_STAT_STATE, 16, 0), (.PORT_MODE_MODE_EFF, 0, 3), (.PORT_LIFE_ATT_STATE, 0, 6), (.PWRD_CLK_TCLK_RUN, 0, 1), (.DOM_STAT_STATE, 29, 0)] pw with loom := { ctxs := [{ num := 17, port := 0, devEp0 := 16, isOpen := true, epAddr := 1, typ := 2, mps := 64, outLimit := 4096 }], devs := [] } } : State).modLane 0 (fun l => { l with inbox := [{ handle := 17, typ := 5, seq := 65535 }] })).modLane 0 (fun l => { l with inbox := [] }), ⟨[], by decide +kernel⟩, by decide +kernel⟩,
   ⟨0, { handle := 17, typ := 5, seq := 5 }, { num := 17, port := 0, devEp0 := 16, isOpen := true, epAddr := 1, typ := 2, mps := 64, outLimit := 4096 }, ({ mk [(.LOOMS_STAT_CONFIGURED, 0, 1), (.LOOMS_STAT_RATE, 0, 4), (.DOM_STAT_STATE, 2, 0), (.DOM_STAT_STATE, 29, 0), (.SHT_STAT_STATE, 0, 1), (.SHT_STAT_PHYG, 0, 0), (.DOM_STAT_STATE, 16, 0), (.PORT_MODE_MODE_EFF, 0, 3), (.PORT_LIFE_ATT_STATE, 0, 6), (.PWRD_CLK_TCLK_RUN, 0, 1), (.DOM_STAT_STATE, 29, 0)] pw with loom := { ctxs := [{ num := 17, port := 0, devEp0 := 16, isOpen := true, epAddr := 1, typ := 2, mps := 64, outLimit := 4096 }], devs := [] } } : State).modLane 0 (fun l => { l with inbox := [{ handle := 17, typ := 5, seq := 5 }] }), (({ mk [(.LOOMS_STAT_CONFIGURED, 0, 1), (.LOOMS_STAT_RATE, 0, 4), (.DOM_STAT_STATE, 2, 0), (.DOM_STAT_STATE, 29, 0), (.SHT_STAT_STATE, 0, 1), (.SHT_STAT_PHYG, 0, 0), (.DOM_STAT_STATE, 16, 0), (.PORT_MODE_MODE_EFF, 0, 3), (.PORT_LIFE_ATT_STATE, 0, 6), (.PWRD_CLK_TCLK_RUN, 0, 1), (.DOM_STAT_STATE, 29, 0)] pw with loom := { ctxs := [{ num := 17, port := 0, devEp0 := 16, isOpen := true, epAddr := 1, typ := 2, mps := 64, outLimit := 4096 }], devs := [] } } : State).modLane 0 (fun l => { l with inbox := [{ handle := 17, typ := 5, seq := 5 }] })).modLane 0 (fun l => { l with inbox := [] }), ⟨[], by decide +kernel⟩, by decide +kernel⟩,
   ⟨0, { handle := 17, typ := 6, data := [0, 1, 0, 0, 0, 0, 0, 0] }, { num := 17, port := 0, devEp0 := 16, isOpen := true, epAddr := 1, typ := 2, mps := 64, outLimit := 4096 }, ({ mk [(.LOOMS_STAT_CONFIGURED, 0, 1), (.LOOMS_STAT_RATE, 0, 4), (.DOM_STAT_STATE, 2, 0), (.DOM_STAT_STATE, 29, 0), (.SHT_STAT_STATE, 0, 1), (.SHT_STAT_PHYG, 0, 0), (.DOM_STAT_STATE, 16, 0), (.PORT_MODE_MODE_EFF, 0, 3), (.PORT_LIFE_ATT_STATE, 0, 6), (.PWRD_CLK_TCLK_RUN, 0, 1), (.DOM_STAT_STATE, 29, 0)] pw with loom := { ctxs := [{ num := 17, port := 0, devEp0 := 16, isOpen := true, epAddr := 1, typ := 2, mps := 64, outLimit := 4096 }], devs := [] } } : State).modLane 0 (fun l => { l with inbox := [{ handle := 17, typ := 6, data := [0, 1, 0, 0, 0, 0, 0, 0] }] }), (({ mk [(.LOOMS_STAT_CONFIGURED, 0, 1), (.LOOMS_STAT_RATE, 0, 4), (.DOM_STAT_STATE, 2, 0), (.DOM_STAT_STATE, 29, 0), (.SHT_STAT_STATE, 0, 1), (.SHT_STAT_PHYG, 0, 0), (.DOM_STAT_STATE, 16, 0), (.PORT_MODE_MODE_EFF, 0, 3), (.PORT_LIFE_ATT_STATE, 0, 6), (.PWRD_CLK_TCLK_RUN, 0, 1), (.DOM_STAT_STATE, 29, 0)] pw with loom := { ctxs := [{ num := 17, port := 0, devEp0 := 16, isOpen := true, epAddr := 1, typ := 2, mps := 64, outLimit := 4096 }], devs := [] } } : State).modLane 0 (fun l => { l with inbox := [{ handle := 17, typ := 6, data := [0, 1, 0, 0, 0, 0, 0, 0] }] })).modLane 0 (fun l => { l with inbox := [] }), ⟨[], by decide +kernel⟩, by decide +kernel⟩,
   ⟨8, { handle := 17, typ := 6, data := [0, 1, 0, 0, 0, 0, 0, 0] }, { num := 17, port := 0, devEp0 := 16, isOpen := true, epAddr := 1, typ := 1, mps := 64, outLimit := 4096 }, ({ mk [(.LOOMS_STAT_CONFIGURED, 0, 1), (.LOOMS_STAT_RATE, 0, 4), (.DOM_STAT_STATE, 2, 0), (.DOM_STAT_STATE, 29, 0), (.SHT_STAT_STATE, 0, 1), (.SHT_STAT_PHYG, 0, 0), (.DOM_STAT_STATE, 16, 0), (.PORT_MODE_MODE_EFF, 0, 3), (.PORT_LIFE_ATT_STATE, 0, 6), (.PWRD_CLK_TCLK_RUN, 0, 1), (.DOM_STAT_STATE, 29, 0)] pw with loom := { ctxs := [{ num := 17, port := 0, devEp0 := 16, isOpen := true, epAddr := 1, typ := 1, mps := 64, outLimit := 4096 }], devs := [] } } : State).modLane 8 (fun l => { l with inbox := [{ handle := 17, typ := 6, data := [0, 1, 0, 0, 0, 0, 0, 0] }] }), (({ mk [(.LOOMS_STAT_CONFIGURED, 0, 1), (.LOOMS_STAT_RATE, 0, 4), (.DOM_STAT_STATE, 2, 0), (.DOM_STAT_STATE, 29, 0), (.SHT_STAT_STATE, 0, 1), (.SHT_STAT_PHYG, 0, 0), (.DOM_STAT_STATE, 16, 0), (.PORT_MODE_MODE_EFF, 0, 3), (.PORT_LIFE_ATT_STATE, 0, 6), (.PWRD_CLK_TCLK_RUN, 0, 1), (.DOM_STAT_STATE, 29, 0)] pw with loom := { ctxs := [{ num := 17, port := 0, devEp0 := 16, isOpen := true, epAddr := 1, typ := 1, mps := 64, outLimit := 4096 }], devs := [] } } : State).modLane 8 (fun l => { l with inbox := [{ handle := 17, typ := 6, data := [0, 1, 0, 0, 0, 0, 0, 0] }] })).modLane 8 (fun l => { l with inbox := [] }), ⟨[], by decide +kernel⟩, by decide +kernel⟩,
   ⟨17, { num := 17, port := 0, devEp0 := 16, isOpen := true, epAddr := 1, typ := 2, mps := 64, outLimit := 4096 }, { mk [(.SHT_STAT_STATE, 0, 1), (.SHT_STAT_PHYG, 0, 0), (.DOM_STAT_STATE, 16, 0), (.PORT_MODE_MODE_EFF, 0, 3), (.PORT_LIFE_ATT_STATE, 0, 6), (.PWRD_CLK_TCLK_RUN, 0, 1), (.DOM_STAT_STATE, 29, 0)] pw with loom := { devs := [], ctxs := [{ num := 17, port := 0, devEp0 := 16, isOpen := true, epAddr := 1, typ := 2, mps := 64, outLimit := 4096 }] } }, by decide +kernel⟩,
   ⟨0, mk [(.LOOMS_STAT_CONFIGURED, 0, 1), (.LOOMS_STAT_RATE, 0, 4), (.DOM_STAT_STATE, 2, 0), (.DOM_STAT_STATE, 29, 0)], by decide +kernel⟩,
   ⟨0, (mk [(.LOOMS_STAT_CONFIGURED, 0, 1), (.LOOMS_STAT_RATE, 0, 4), (.DOM_STAT_STATE, 2, 0), (.DOM_STAT_STATE, 29, 0)] : State).modLane 0 (fun l => { l with inBuf := [{ handle := 17, typ := 0 }] }), by decide +kernel⟩,
   ⟨{ mk [(.LOOMS_STAT_CONFIGURED, 0, 1), (.LOOMS_STAT_RATE, 0, 4), (.DOM_STAT_STATE, 2, 0), (.DOM_STAT_STATE, 29, 0)] with ecx := { loomLost := 3 } }, by decide +kernel⟩⟩

theorem witness_LoomFunctionEvents :
    (∃ (lost : Bool) (s : State), 2 ≤ s.get .LOOMS_STAT_RATE)
    ∧ (∃ (r : Nat) (s : State), s.up.applied = true ∧ s.up.ssApplied = true ∧ 2 ≤ r ∧ r ≤ 5 ∧ s.domFenced dLOOM = false ∧ s.get .LOOMS_STAT_RATE = 0)
    ∧ (∃ (r : Nat) (s : State), (if 2 ≤ r then s.up.ssApplied else s.up.applied) = true ∧ r ≠ 0 ∧ r ≤ 5 ∧ s.domFenced dLOOM = false ∧ s.get .LOOMS_STAT_RATE = r ∧ s.loom.ownExit = false)
    ∧ (∃ (s : State), s.up.applied = true ∧ s.domFenced dLOOM = false ∧ s.get .LOOMS_STAT_RATE = 0 ∧ s.u2 ≠ 0)
    ∧ (∃ (s : State) (t : State), t = s.linkRecovered ∧ t.get .LOOMS_STAT_RATE ≠ 0 ∧ t.domOn dLOOM = true ∧ t.flag .LOOMS_STAT_CONFIGURED = true)
    ∧ (∃ (s : State) (r : State), r = s.linkRecovered ∧ r.get .LOOMS_STAT_RATE ≠ 0 ∧ r.domOn dLOOM = true)
    ∧ (∃ (a : Nat) (s : State), s.flag .LOOMS_STAT_CONFIGURED = true ∧ a ≤ 1)
    ∧ (∃ (l : Nat) (s : State), s.laneOpen l = true)
    ∧ (∃ (w : Bool) (s : State), 2 ≤ s.get .LOOMS_STAT_RATE)
    ∧ (∃ (w : Bool) (s : State), 2 ≤ s.get .LOOMS_STAT_RATE ∧ s.flag .LOOMS_STAT_CONFIGURED = true)
    ∧ (∃ (sus : Bool) (u3 : Bool) (w : Bool) (s : State), s.get .LOOMS_STAT_RATE = 1)
    ∧ (∃ (u3 : Bool) (w : Bool) (s : State), 2 ≤ s.get .LOOMS_STAT_RATE ∧ s.flag .LOOMS_STAT_CONFIGURED = true ∧ s.flag .LOOMS_STAT_FSUSP = true ∧ s.flag .LOOMS_STAT_WAKE_PEND = false)
    ∧ (∃ (u3 : Bool) (w : Bool) (s : State), 2 ≤ s.get .LOOMS_STAT_RATE ∧ s.flag .LOOMS_STAT_CONFIGURED = true ∧ s.flag .LOOMS_STAT_FSUSP = false)
    ∧ (∃ (s : State), 2 ≤ s.get .LOOMS_STAT_RATE ∧ s.get .LOOMS_STAT_LSTATE = 3 ∧ s.loom.ownExit = false)
    ∧ (∃ (s : State), 2 ≤ s.get .LOOMS_STAT_RATE ∧ (s.get .LOOMS_STAT_LSTATE = 3 ∨ (s.get .LOOMS_STAT_LSTATE = 4 ∧ (s.loom.u3Exit = true ∨ s.loom.ownExit = true))) ∧ (s.wakeBy 1 [dLOOM]).2 = true ∧ (s.wakeBy 1 [dLOOM]).1.flag .LOOMS_STAT_WAKE_PEND = false)
    ∧ (∃ (n : Nat) (s : State), s.loom.notifyAt = some n ∧ n ≤ s.dt ∧ s.flag .LOOMS_STAT_WAKE_PEND = true)
    ∧ (∃ (n : Nat) (s : State), 2000 ≤ n ∧ 2 ≤ s.get .LOOMS_STAT_RATE ∧ s.get .LOOMS_STAT_LSTATE = 0 ∧ s.flag .LOOMS_CFG_U1_INIT = true ∧ s.buffersIdle = true)
    ∧ (∃ (s : State), 2 ≤ s.get .LOOMS_STAT_RATE ∧ s.get .LOOMS_STAT_LSTATE ≤ 1 ∧ s.flag .LOOMS_CFG_U2_INIT = true) :=
  ⟨⟨false, mk [(.LOOMS_STAT_RATE, 0, 4), (.DOM_STAT_STATE, 2, 0)], by decide +kernel⟩,
   ⟨4, { State.reset with up := { applied := true, ssApplied := true } }, by decide +kernel⟩,
   ⟨4, { mk [(.LOOMS_STAT_RATE, 0, 4)] with up := { applied := true, ssApplied := true } }, by decide +kernel⟩,
   ⟨{ mk [(.HUBS_STAT_U2_STATE, 0, 3)] with up := { applied := true } }, by decide +kernel⟩,
   ⟨mk [(.LOOMS_STAT_CONFIGURED, 0, 1), (.LOOMS_STAT_RATE, 0, 4), (.DOM_STAT_STATE, 2, 0), (.DOM_STAT_STATE, 29, 0)], mk [(.LOOMS_STAT_CONFIGURED, 0, 1), (.LOOMS_STAT_RATE, 0, 4), (.DOM_STAT_STATE, 2, 0), (.DOM_STAT_STATE, 29, 0)], by decide +kernel⟩,
   ⟨mk [(.LOOMS_STAT_RATE, 0, 4), (.DOM_STAT_STATE, 2, 0)], mk [(.LOOMS_STAT_RATE, 0, 4), (.DOM_STAT_STATE, 2, 0)], by decide +kernel⟩,
   ⟨1, mk [(.LOOMS_STAT_CONFIGURED, 0, 1), (.LOOMS_STAT_RATE, 0, 4), (.DOM_STAT_STATE, 2, 0), (.DOM_STAT_STATE, 29, 0)], by decide +kernel⟩,
   ⟨0, mk [(.LOOMS_STAT_CONFIGURED, 0, 1), (.LOOMS_STAT_RATE, 0, 4), (.DOM_STAT_STATE, 2, 0), (.DOM_STAT_STATE, 29, 0)], by decide +kernel⟩,
   ⟨true, mk [(.LOOMS_STAT_CONFIGURED, 0, 1), (.LOOMS_STAT_RATE, 0, 4), (.DOM_STAT_STATE, 2, 0), (.DOM_STAT_STATE, 29, 0)], by decide +kernel⟩,
   ⟨true, mk [(.LOOMS_STAT_CONFIGURED, 0, 1), (.LOOMS_STAT_RATE, 0, 4), (.DOM_STAT_STATE, 2, 0), (.DOM_STAT_STATE, 29, 0)], by decide +kernel⟩,
   ⟨true, true, true, mk [(.LOOMS_STAT_RATE, 0, 1)], by decide +kernel⟩,
   ⟨false, true, mk [(.LOOMS_STAT_CONFIGURED, 0, 1), (.LOOMS_STAT_RATE, 0, 4), (.DOM_STAT_STATE, 2, 0), (.DOM_STAT_STATE, 29, 0), (.LOOMS_STAT_FSUSP, 0, 1)], by decide +kernel⟩,
   ⟨false, true, mk [(.LOOMS_STAT_CONFIGURED, 0, 1), (.LOOMS_STAT_RATE, 0, 4), (.DOM_STAT_STATE, 2, 0), (.DOM_STAT_STATE, 29, 0)], by decide +kernel⟩,
   ⟨mk [(.LOOMS_STAT_CONFIGURED, 0, 1), (.LOOMS_STAT_RATE, 0, 4), (.DOM_STAT_STATE, 2, 0), (.DOM_STAT_STATE, 29, 0), (.LOOMS_STAT_LSTATE, 0, 3)], by decide +kernel⟩,
   ⟨mk [(.LOOMS_STAT_CONFIGURED, 0, 1), (.LOOMS_STAT_RATE, 0, 4), (.DOM_STAT_STATE, 2, 0), (.DOM_STAT_STATE, 29, 0), (.LOOMS_STAT_LSTATE, 0, 3)], by decide +kernel⟩,
   ⟨0, { mk [(.LOOMS_STAT_WAKE_PEND, 0, 1)] with loom := { notifyAt := some 0 } }, by decide +kernel⟩,
   ⟨2000, mk [(.LOOMS_STAT_RATE, 0, 4), (.DOM_STAT_STATE, 2, 0), (.LOOMS_CFG_U1_INIT, 0, 1)], by decide +kernel⟩,
   ⟨mk [(.LOOMS_STAT_RATE, 0, 4), (.DOM_STAT_STATE, 2, 0), (.LOOMS_CFG_U2_INIT, 0, 1)], by decide +kernel⟩⟩

theorem witness_EcraxChannelEvents :
    (∃ (c : Chan) (o : Nat) (bs : List Nat) (p : Packet) (s : State) (t : State), Safety.crcRight c bs s ∧ p = packetOf c o bs ∧ t = s.touch (dCTL s.lead) ∧ (leAt bs 6 2 > 4080 ∨ leAt bs 6 2 ≠ (packetParams c bs).length))
    ∧ (∃ (c : Chan) (o : Nat) (bs : List Nat) (p : Packet) (k : KeptPacket) (st : Nat) (s : State) (t : State), Safety.lengthRight c bs s ∧ p = packetOf c o bs ∧ t = s.touch (dCTL s.lead) ∧ s.kept c = some k ∧ k.seq = p.seq ∧ k.tag = p.tag ∧ k.status = some st)
    ∧ (∃ (c : Chan) (o : Nat) (bs : List Nat) (p : Packet) (k : KeptPacket) (s : State) (t : State), Safety.lengthRight c bs s ∧ p = packetOf c o bs ∧ t = s.touch (dCTL s.lead) ∧ s.kept c = some k ∧ k.seq = p.seq ∧ k.tag = p.tag ∧ k.status = none)
    ∧ (∃ (c : Chan) (o : Nat) (bs : List Nat) (p : Packet) (s : State) (t : State), Safety.isNew c bs s ∧ p = packetOf c o bs ∧ t = (s.touch (dCTL s.lead)).accept p (if bs.getD 4 0 % 256 ≠ 255 ∧ bs.getD 4 0 % 256 ≠ s.idx ∧ s.presentWorker (bs.getD 4 0 % 256) = true then bs.getD 4 0 % 256 else s.idx) ∧ headerRight bs = false)
    ∧ (∃ (c : Chan) (o : Nat) (bs : List Nat) (p : Packet) (s : State) (t : State), Safety.isNew c bs s ∧ p = packetOf c o bs ∧ t = (s.touch (dCTL s.lead)).accept p (if bs.getD 4 0 % 256 ≠ 255 ∧ bs.getD 4 0 % 256 ≠ s.idx ∧ s.presentWorker (bs.getD 4 0 % 256) = true then bs.getD 4 0 % 256 else s.idx) ∧ headerRight bs = true ∧ opcodeDefined p.opcode = false)
    ∧ (∃ (c : Chan) (o : Nat) (bs : List Nat) (p : Packet) (s : State) (t : State), Safety.isNew c bs s ∧ p = packetOf c o bs ∧ t = (s.touch (dCTL s.lead)).accept p (s.idx) ∧ headerRight bs = true ∧ opcodeDefined p.opcode = true ∧ bs.getD 4 0 % 256 ≠ 255 ∧ bs.getD 4 0 % 256 ≠ s.idx ∧ s.presentWorker (bs.getD 4 0 % 256) = false)
    ∧ (∃ (c : Chan) (o : Nat) (bs : List Nat) (p : Packet) (s : State) (t : State), Safety.isNew c bs s ∧ p = packetOf c o bs ∧ t = (s.touch (dCTL s.lead)).accept p (bs.getD 4 0 % 256) ∧ headerRight bs = true ∧ opcodeDefined p.opcode = true ∧ bs.getD 4 0 % 256 ≠ 255 ∧ bs.getD 4 0 % 256 ≠ s.idx ∧ s.presentWorker (bs.getD 4 0 % 256) = true)
    ∧ (∃ (c : Chan) (o : Nat) (bs : List Nat) (p : Packet) (st : Nat) (s : State) (t : State), Safety.isNew c bs s ∧ p = packetOf c o bs ∧ t = (s.touch (dCTL s.lead)).accept p (s.idx) ∧ headerRight bs = true ∧ opcodeDefined p.opcode = true ∧ (bs.getD 4 0 % 256 = 255 ∨ bs.getD 4 0 % 256 = s.idx) ∧ refusalOf t p = some st)
    ∧ (∃ (c : Chan) (o : Nat) (bs : List Nat) (p : Packet) (s : State) (t : State), Safety.isNew c bs s ∧ p = packetOf c o bs ∧ t = (s.touch (dCTL s.lead)).accept p (s.idx) ∧ headerRight bs = true ∧ opcodeDefined p.opcode = true ∧ (bs.getD 4 0 % 256 = 255 ∨ bs.getD 4 0 % 256 = s.idx) ∧ refusalOf t p = none)
    ∧ (∃ (o : Nat) (bs : List Nat) (s : State), 16 ≤ s.held .hierarchy)
    ∧ (∃ (s : State), s.flag .MBOX_STAT_IN_BUSY = false)
    ∧ (∃ (s : State), s.flag .MBOX_STAT_IN_BUSY = true)
    ∧ (∃ (s : State), s.flag .MBOX_STAT_IN_BUSY = true ∧ s.held .mailbox < 16)
    ∧ (∃ (tag : Nat) (c : Chan) (f : Forwarded) (s : State), s.ecx.forwards.find? (fun f => f.pkt.tag == tag && f.pkt.chan == c && f.deadline ≤ s.dt) = some f)
    ∧ (∃ (r : Reply) (rest : List Reply) (s : State), s.ecx.loomOut = r :: rest ∧ s.flag .LOOMS_STAT_CONFIGURED = true) :=
  ⟨⟨.loom, 255, [16, 1, 1, 0, 255, 0, 3, 0, 1, 0, 0, 0, 64, 140, 226, 65], packetOf .loom 255 [16, 1, 1, 0, 255, 0, 3, 0, 1, 0, 0, 0, 64, 140, 226, 65], mk [(.MBOX_STAT_READY, 0, 1)], (let s : State := mk [(.MBOX_STAT_READY, 0, 1)]; let p : Packet := packetOf .loom 255 [16, 1, 1, 0, 255, 0, 3, 0, 1, 0, 0, 0, 64, 140, 226, 65]; let bs : List Nat := [16, 1, 1, 0, 255, 0, 3, 0, 1, 0, 0, 0, 64, 140, 226, 65]; s.touch (dCTL s.lead)), ⟨by decide +kernel, by decide +kernel, by decide +kernel⟩, rfl, rfl, by decide +kernel⟩,
   ⟨.loom, 255, [16, 1, 1, 0, 255, 0, 0, 0, 1, 0, 0, 0, 238, 254, 118, 199], packetOf .loom 255 [16, 1, 1, 0, 255, 0, 0, 0, 1, 0, 0, 0, 238, 254, 118, 199], { seq := 1, tag := 1, opcode := 1, cls := 0, status := some 0, dev := 3 }, 0, { mk [(.MBOX_STAT_READY, 0, 1)] with ecx := { kept := [(.loom, { seq := 1, tag := 1, opcode := 1, cls := 0, status := some 0, dev := 3 })] } }, (let s : State := { mk [(.MBOX_STAT_READY, 0, 1)] with ecx := { kept := [(.loom, { seq := 1, tag := 1, opcode := 1, cls := 0, status := some 0, dev := 3 })] } }; let p : Packet := packetOf .loom 255 [16, 1, 1, 0, 255, 0, 0, 0, 1, 0, 0, 0, 238, 254, 118, 199]; let bs : List Nat := [16, 1, 1, 0, 255, 0, 0, 0, 1, 0, 0, 0, 238, 254, 118, 199]; s.touch (dCTL s.lead)), ⟨⟨by decide +kernel, by decide +kernel, by decide +kernel⟩, by decide +kernel, by decide +kernel⟩, rfl, rfl, by decide +kernel⟩,
   ⟨.loom, 255, [16, 1, 1, 0, 255, 0, 0, 0, 1, 0, 0, 0, 238, 254, 118, 199], packetOf .loom 255 [16, 1, 1, 0, 255, 0, 0, 0, 1, 0, 0, 0, 238, 254, 118, 199], { seq := 1, tag := 1, opcode := 1, cls := 0, status := none, dev := 3 }, { mk [(.MBOX_STAT_READY, 0, 1)] with ecx := { kept := [(.loom, { seq := 1, tag := 1, opcode := 1, cls := 0, status := none, dev := 3 })] } }, (let s : State := { mk [(.MBOX_STAT_READY, 0, 1)] with ecx := { kept := [(.loom, { seq := 1, tag := 1, opcode := 1, cls := 0, status := none, dev := 3 })] } }; let p : Packet := packetOf .loom 255 [16, 1, 1, 0, 255, 0, 0, 0, 1, 0, 0, 0, 238, 254, 118, 199]; let bs : List Nat := [16, 1, 1, 0, 255, 0, 0, 0, 1, 0, 0, 0, 238, 254, 118, 199]; s.touch (dCTL s.lead)), ⟨⟨by decide +kernel, by decide +kernel, by decide +kernel⟩, by decide +kernel, by decide +kernel⟩, rfl, rfl, by decide +kernel⟩,
   ⟨.loom, 255, [32, 1, 1, 0, 255, 0, 0, 0, 1, 0, 0, 0, 234, 200, 95, 211], packetOf .loom 255 [32, 1, 1, 0, 255, 0, 0, 0, 1, 0, 0, 0, 234, 200, 95, 211], mk [(.MBOX_STAT_READY, 0, 1)], (let s : State := mk [(.MBOX_STAT_READY, 0, 1)]; let p : Packet := packetOf .loom 255 [32, 1, 1, 0, 255, 0, 0, 0, 1, 0, 0, 0, 234, 200, 95, 211]; let bs : List Nat := [32, 1, 1, 0, 255, 0, 0, 0, 1, 0, 0, 0, 234, 200, 95, 211]; (s.touch (dCTL s.lead)).accept p (if bs.getD 4 0 % 256 ≠ 255 ∧ bs.getD 4 0 % 256 ≠ s.idx ∧ s.presentWorker (bs.getD 4 0 % 256) = true then bs.getD 4 0 % 256 else s.idx)), ⟨⟨⟨by decide +kernel, by decide +kernel, by decide +kernel⟩, by decide +kernel, by decide +kernel⟩, fun k hk => by cases hk⟩, rfl, rfl, by decide +kernel⟩,
   ⟨.loom, 255, [16, 15, 1, 0, 255, 0, 0, 0, 1, 0, 0, 0, 232, 213, 0, 149], packetOf .loom 255 [16, 15, 1, 0, 255, 0, 0, 0, 1, 0, 0, 0, 232, 213, 0, 149], mk [(.MBOX_STAT_READY, 0, 1)], (let s : State := mk [(.MBOX_STAT_READY, 0, 1)]; let p : Packet := packetOf .loom 255 [16, 15, 1, 0, 255, 0, 0, 0, 1, 0, 0, 0, 232, 213, 0, 149]; let bs : List Nat := [16, 15, 1, 0, 255, 0, 0, 0, 1, 0, 0, 0, 232, 213, 0, 149]; (s.touch (dCTL s.lead)).accept p (if bs.getD 4 0 % 256 ≠ 255 ∧ bs.getD 4 0 % 256 ≠ s.idx ∧ s.presentWorker (bs.getD 4 0 % 256) = true then bs.getD 4 0 % 256 else s.idx)), ⟨⟨⟨by decide +kernel, by decide +kernel, by decide +kernel⟩, by decide +kernel, by decide +kernel⟩, fun k hk => by cases hk⟩, rfl, rfl, by decide +kernel⟩,
   ⟨.loom, 255, [16, 1, 1, 0, 9, 0, 0, 0, 1, 0, 0, 0, 35, 227, 114, 254], packetOf .loom 255 [16, 1, 1, 0, 9, 0, 0, 0, 1, 0, 0, 0, 35, 227, 114, 254], mk [(.MBOX_STAT_READY, 0, 1)], (let s : State := mk [(.MBOX_STAT_READY, 0, 1)]; let p : Packet := packetOf .loom 255 [16, 1, 1, 0, 9, 0, 0, 0, 1, 0, 0, 0, 35, 227, 114, 254]; let bs : List Nat := [16, 1, 1, 0, 9, 0, 0, 0, 1, 0, 0, 0, 35, 227, 114, 254]; (s.touch (dCTL s.lead)).accept p (s.idx)), ⟨⟨⟨by decide +kernel, by decide +kernel, by decide +kernel⟩, by decide +kernel, by decide +kernel⟩, fun k hk => by cases hk⟩, rfl, rfl, by decide +kernel⟩,
   ⟨.loom, 255, [16, 1, 1, 0, 5, 0, 0, 0, 1, 0, 0, 0, 108, 246, 221, 169], packetOf .loom 255 [16, 1, 1, 0, 5, 0, 0, 0, 1, 0, 0, 0, 108, 246, 221, 169], { mk [(.MBOX_STAT_READY, 0, 1)] with hier := { st := some 1, members := [{ idx := 5 }] } }, (let s : State := { mk [(.MBOX_STAT_READY, 0, 1)] with hier := { st := some 1, members := [{ idx := 5 }] } }; let p : Packet := packetOf .loom 255 [16, 1, 1, 0, 5, 0, 0, 0, 1, 0, 0, 0, 108, 246, 221, 169]; let bs : List Nat := [16, 1, 1, 0, 5, 0, 0, 0, 1, 0, 0, 0, 108, 246, 221, 169]; (s.touch (dCTL s.lead)).accept p (bs.getD 4 0 % 256)), ⟨⟨⟨by decide +kernel, by decide +kernel, by decide +kernel⟩, by decide +kernel, by decide +kernel⟩, fun k hk => by cases hk⟩, rfl, rfl, by decide +kernel⟩,
   ⟨.loom, 255, [16, 32, 1, 0, 255, 1, 0, 0, 1, 0, 0, 0, 77, 165, 19, 38], packetOf .loom 255 [16, 32, 1, 0, 255, 1, 0, 0, 1, 0, 0, 0, 77, 165, 19, 38], stBAD_PARAM, mk [(.MBOX_STAT_READY, 0, 1)], (let s : State := mk [(.MBOX_STAT_READY, 0, 1)]; let p : Packet := packetOf .loom 255 [16, 32, 1, 0, 255, 1, 0, 0, 1, 0, 0, 0, 77, 165, 19, 38]; let bs : List Nat := [16, 32, 1, 0, 255, 1, 0, 0, 1, 0, 0, 0, 77, 165, 19, 38]; (s.touch (dCTL s.lead)).accept p (s.idx)), ⟨⟨⟨by decide +kernel, by decide +kernel, by decide +kernel⟩, by decide +kernel, by decide +kernel⟩, fun k hk => by cases hk⟩, rfl, rfl, by decide +kernel⟩,
   ⟨.loom, 255, [16, 1, 1, 0, 255, 0, 0, 0, 1, 0, 0, 0, 238, 254, 118, 199], packetOf .loom 255 [16, 1, 1, 0, 255, 0, 0, 0, 1, 0, 0, 0, 238, 254, 118, 199], mk [(.MBOX_STAT_READY, 0, 1)], (let s : State := mk [(.MBOX_STAT_READY, 0, 1)]; let p : Packet := packetOf .loom 255 [16, 1, 1, 0, 255, 0, 0, 0, 1, 0, 0, 0, 238, 254, 118, 199]; let bs : List Nat := [16, 1, 1, 0, 255, 0, 0, 0, 1, 0, 0, 0, 238, 254, 118, 199]; (s.touch (dCTL s.lead)).accept p (s.idx)), ⟨⟨⟨by decide +kernel, by decide +kernel, by decide +kernel⟩, by decide +kernel, by decide +kernel⟩, fun k hk => by cases hk⟩, rfl, rfl, by decide +kernel⟩,
   ⟨3, [], { State.reset with ecx := { queue := List.replicate 16 { pk [] with chan := .hierarchy } } }, by decide +kernel⟩,
   ⟨State.reset, by decide +kernel⟩,
   ⟨mk [(.MBOX_STAT_IN_BUSY, 0, 1)], by decide +kernel⟩,
   ⟨mk [(.MBOX_STAT_IN_BUSY, 0, 1)], by decide +kernel⟩,
   ⟨1, .mailbox, { pkt := pk [], worker := 5, deadline := 0 }, { State.reset with ecx := { forwards := [{ pkt := pk [], worker := 5, deadline := 0 }] } }, by decide +kernel⟩,
   ⟨{ chan := .loom, opcode := 4, tag := 0, cls := 0, seq := 0, dev := 0, status := 0 }, [], { mk [(.LOOMS_STAT_CONFIGURED, 0, 1)] with ecx := { loomOut := [{ chan := .loom, opcode := 4, tag := 0, cls := 0, seq := 0, dev := 0, status := 0 }] } }, by decide +kernel⟩⟩

end Sys2Proof.Tests
end

section
/-! PROOFS. The scope of the model: a step takes the front of the queue, the idle tick, the clock of Device Time, and the
values at reset (00_scope.md R9 to R13). -/

namespace Sys2Proof.Machine

/-! ### The two arms of a step -/

theorem step_of_cons {s : State} {c : Instr} {rest : List Instr} (h : s.pending = c :: rest) :
    step s = exec c { s with pending := rest } := by
  simp only [step, h]

theorem step_of_nil {s : State} (h : s.pending = []) : step s = .next s.tick := by
  simp only [step, h]

/-- Settles O1: the front of the queue is taken off and run. -/
theorem stepRunsFront : Obligations.StepRunsFront := fun _ _ => step_of_cons rfl

/-- Settles O2: the empty queue is the tick, whose two cases are the levels of `PORST_N`. -/
theorem idleTick : Obligations.IdleTick := by
  intro s hq
  rw [step_of_nil hq]
  constructor
  · intro low
    rw [State.tick, if_pos low]
  · intro high
    rw [State.tick, if_neg (Bool.eq_false_iff.mp high)]

/-! ### Moving Device Time forward -/

@[simp] theorem State.advance_flag (s : State) (n : Nat) (f : Fld) (u : Nat) : (s.advance n).flag f u = s.flag f u := rfl
@[simp] theorem State.advance_dtFrac (s : State) (n : Nat) : (s.advance n).dtFrac = s.dtFrac := rfl
@[simp] theorem State.advance_slew (s : State) (n : Nat) : (s.advance n).hier.slew = s.hier.slew := rfl

/-- A slew backwards takes no more than what the clock adds (00_scope.md R10). -/
theorem State.clock_le_advance_clock (s : State) (n : Nat) : s.clock ≤ (s.advance n).clock := by
  simp only [State.clock, State.advance]
  omega

theorem State.advance_clock_of_no_slew {s : State} (h : s.hier.slew = 0) (n : Nat) :
    (s.advance n).clock = s.clock + n := by
  have due : s.slewDue = 0 := by simp [State.slewDue, h]
  simp only [State.clock, State.advance, due, h, Int.lt_irrefl, if_false]
  omega

/-! ### A tick of the slow clock while DT runs on the time clock -/

/-- DT passes from the time clock to the slow clock at such a tick: the reference runs and nothing needs it any more, or it
is lost and the change is due (13_power_domains.md R307). -/
def State.leavesTimeClock (s : State) : Bool :=
  if s.flag .PWRD_CLK_REF_RUN then !s.refNeeded else s.slowDue

theorem State.leavesTimeClock_iff (s : State) :
    s.leavesTimeClock = true ↔ (s.flag .PWRD_CLK_REF_RUN = false ∧ s.slowDue = true)
      ∨ (s.flag .PWRD_CLK_REF_RUN = true ∧ s.refNeeded = false) := by
  unfold State.leavesTimeClock
  cases s.flag .PWRD_CLK_REF_RUN <;> simp

theorem State.slowBoundary_of_leaves {s : State} (h : s.leavesTimeClock = true) :
    s.slowBoundary =
      { ((s.set .PWRD_CLK_REF_RUN 0 0).set .PWRD_CLK_TCLK_RUN 0 0).set .TIME_STAT_SLOW_ONLY 0 1 with
        slowPhase := 0
        slowDue := false } :=
  if_pos h

theorem State.slowBoundary_of_stays {s : State} (h : s.leavesTimeClock = false) :
    s.slowBoundary = { s with slowDue := false } :=
  if_neg (Bool.eq_false_iff.mp h)

@[simp] theorem State.slowBoundary_clock (s : State) : s.slowBoundary.clock = s.clock := by
  cases h : s.leavesTimeClock with
  | true => rw [State.slowBoundary_of_leaves h]; rfl
  | false => rw [State.slowBoundary_of_stays h]; rfl

@[simp] theorem State.slowBoundary_dtFrac (s : State) : s.slowBoundary.dtFrac = s.dtFrac := by
  cases h : s.leavesTimeClock with
  | true => rw [State.slowBoundary_of_leaves h]; rfl
  | false => rw [State.slowBoundary_of_stays h]

theorem State.leavesTimeClock_of_slowBoundary_slow {s : State} (fast : s.flag .TIME_STAT_SLOW_ONLY = false)
    (slow : s.slowBoundary.flag .TIME_STAT_SLOW_ONLY = true) : s.leavesTimeClock = true := by
  by_contra stays
  rw [State.slowBoundary_of_stays (Bool.eq_false_iff.mpr stays)] at slow
  exact Bool.false_ne_true (fast.symm.trans slow)

/-! ### A tick of the clock: the slow clock, the time clock, and the time clock where the slow clock ticks too -/

theorem State.clockTick_of_slow {s : State} (slow : s.flag .TIME_STAT_SLOW_ONLY = true) :
    s.clockTick = ({ s with dtFrac := (s.dtFrac + 37) % 64 } : State).advance (30517 + (s.dtFrac + 37) / 64) := by
  rw [State.clockTick, if_pos slow]

theorem State.clockTick_of_fast_between {s : State} (fast : s.flag .TIME_STAT_SLOW_ONLY = false)
    (h : s.slowPhase + 1600 < 1953125) :
    s.clockTick = { s.advance 25 with slowPhase := s.slowPhase + 1600 } := by
  simp only [State.clockTick, fast, Bool.false_eq_true, if_false, if_pos h]

theorem State.clockTick_of_fast_boundary {s : State} (fast : s.flag .TIME_STAT_SLOW_ONLY = false)
    (h : 1953125 ≤ s.slowPhase + 1600) :
    s.clockTick = ({ s.advance 25 with slowPhase := s.slowPhase + 1600 - 1953125 } : State).slowBoundary := by
  have late : ¬s.slowPhase + 1600 < 1953125 := Nat.not_lt.mpr h
  simp only [State.clockTick, fast, Bool.false_eq_true, if_false, late]

theorem State.clockTick_fast_clock {s : State} (fast : s.flag .TIME_STAT_SLOW_ONLY = false) :
    s.clockTick.clock = (s.advance 25).clock := by
  rcases Nat.lt_or_ge (s.slowPhase + 1600) 1953125 with h | h
  · rw [State.clockTick_of_fast_between fast h]; rfl
  · rw [State.clockTick_of_fast_boundary fast h, State.slowBoundary_clock, State.clock, State.clock]

theorem State.clockTick_fast_dtFrac {s : State} (fast : s.flag .TIME_STAT_SLOW_ONLY = false) :
    s.clockTick.dtFrac = s.dtFrac := by
  rcases Nat.lt_or_ge (s.slowPhase + 1600) 1953125 with h | h
  · rw [State.clockTick_of_fast_between fast h]; rfl
  · rw [State.clockTick_of_fast_boundary fast h, State.slowBoundary_dtFrac]; rfl

theorem State.clock_le_clockTick_clock (s : State) : s.clock ≤ s.clockTick.clock := by
  cases h : s.flag .TIME_STAT_SLOW_ONLY with
  | false => exact State.clockTick_fast_clock h ▸ s.clock_le_advance_clock 25
  | true => exact State.clockTick_of_slow h ▸ State.clock_le_advance_clock { s with dtFrac := _ } _

theorem State.why_clockTick_slows {s : State} (fast : s.flag .TIME_STAT_SLOW_ONLY = false)
    (slow : s.clockTick.flag .TIME_STAT_SLOW_ONLY = true) :
    1953125 ≤ s.slowPhase + 1600
      ∧ ((s.flag .PWRD_CLK_REF_RUN = false ∧ s.slowDue = true)
        ∨ (s.flag .PWRD_CLK_REF_RUN = true ∧ s.refNeeded = false)) := by
  rcases Nat.lt_or_ge (s.slowPhase + 1600) 1953125 with h | h
  · rw [State.clockTick_of_fast_between fast h] at slow
    exact absurd (fast.symm.trans slow) Bool.false_ne_true
  · rw [State.clockTick_of_fast_boundary fast h] at slow
    have leaves : s.leavesTimeClock = true :=
      State.leavesTimeClock_of_slowBoundary_slow (s := { s.advance 25 with slowPhase := _ }) fast slow
    exact ⟨h, s.leavesTimeClock_iff.mp leaves⟩

/-! ### A run of slow ticks, counted in 1/64 ns -/

/-- Device Time with its accumulator, in 1/64 ns (00_scope.md R11). -/
def State.clock64 (s : State) : Nat := 64 * s.clock + s.dtFrac

/-- DT runs on the slow clock, no slew is under way, and the accumulator holds less than 1 ns. -/
structure State.SlowSteady (s : State) : Prop where
  noSlew : s.hier.slew = 0
  slow : s.flag .TIME_STAT_SLOW_ONLY = true
  frac : s.dtFrac < 64

theorem State.SlowSteady.clockTick {s : State} (h : s.SlowSteady) : s.clockTick.SlowSteady := by
  rw [State.clockTick_of_slow h.slow]
  exact ⟨(State.advance_slew ..).trans h.noSlew, (State.advance_flag ..).trans h.slow, Nat.mod_lt _ (by decide)⟩

theorem State.SlowSteady.clockTick_clock64 {s : State} (h : s.SlowSteady) :
    s.clockTick.clock64 = s.clock64 + 1953125 := by
  have adds := State.advance_clock_of_no_slew (s := { s with dtFrac := (s.dtFrac + 37) % 64 }) h.noSlew
    (30517 + (s.dtFrac + 37) / 64)
  rw [State.clockTick_of_slow h.slow, State.clock64, State.clock64, adds, State.advance_dtFrac]
  simp only [State.clock]
  omega

theorem State.SlowSteady.repeat_clockTick {s : State} (h : s.SlowSteady) (k : Nat) :
    (Nat.repeat State.clockTick k s).SlowSteady
      ∧ (Nat.repeat State.clockTick k s).clock64 = s.clock64 + k * 1953125 := by
  induction k with
  | zero => exact ⟨h, by simp [Nat.repeat]⟩
  | succ k ih =>
    obtain ⟨steady, count⟩ := ih
    refine ⟨steady.clockTick, ?_⟩
    rw [Nat.repeat, steady.clockTick_clock64, count, Nat.succ_mul, Nat.add_assoc]

/-- 64 slow ticks are a whole number of ns, so the accumulator returns to where it was (00_scope.md R11). -/
theorem State.SlowSteady.repeat_clockTick_64 {s : State} (h : s.SlowSteady) :
    (Nat.repeat State.clockTick 64 s).clock = s.clock + 1953125
      ∧ (Nat.repeat State.clockTick 64 s).dtFrac = s.dtFrac := by
  obtain ⟨steady, count⟩ := h.repeat_clockTick 64
  have before := h.frac
  have after := steady.frac
  simp only [State.clock64] at count
  omega

/-- Settles O10: with no slew an advance adds what the clock gives it, 64 slow ticks are counted in 1/64 ns, and the
slow clock is taken at a boundary only. -/
theorem clockTicks : Obligations.ClockTicks := by
  refine ⟨State.clock_le_clockTick_clock, ?_, ?_, fun s => State.why_clockTick_slows⟩
  · intro s noSlew _ fast
    exact ⟨(State.clockTick_fast_clock fast).trans (State.advance_clock_of_no_slew noSlew 25),
      State.clockTick_fast_dtFrac fast⟩
  · intro s noSlew _ slow frac
    exact State.SlowSteady.repeat_clockTick_64 ⟨noSlew, slow, frac⟩

/-! ### The values at reset -/

/-- The store is empty at reset, so every field reads the reset value of its field map. -/
theorem State.reset_get {f : Fld} (h : f ≠ .SHT_STAT_PHYG) (u : Nat) : State.reset.get f u = f.info.rst := by
  change f.reset u = f.info.rst
  unfold Fld.reset
  split
  · exact absurd rfl h
  · rfl

/-- Settles O4: the plain data is as `State.reset` gives it, and each register field reads the reset value of its field
map. -/
theorem resetValues : Obligations.ResetValues := by
  have plain : State.reset.clock = 0 ∧ State.reset.dtFrac = 0 ∧ State.reset.ecx.queue = [] ∧ State.reset.ecx.journal = []
      ∧ State.reset.mbox.inWin = [] ∧ State.reset.hier.st = none := ⟨rfl, rfl, rfl, rfl, rfl, rfl⟩
  simp [Obligations.ResetValues, plain, State.reset_get, Fld.info]

end Sys2Proof.Machine
end

section
/-! PROOFS. The soundness of the state (01_architecture.md R31): it holds at reset, every command keeps it, and so does
the tick, hence every step. -/

namespace Sys2Proof.Laws

open Sys2Proof.Machine

/-! ### At reset -/

theorem reset_ok : Ok [] State.reset :=
  ⟨rfl, rfl, rfl, rfl, rfl, rfl, rfl, rfl, rfl⟩

/-- Settles O3: the stores of the reset state are empty and it lists every unit. -/
theorem resetIsSound : Obligations.ResetIsSound :=
  ((ok_iff [] State.reset).mp reset_ok).symm

/-! ### Over a step -/

/-- Each command passes to the law of its own meaning, as `exec` does: from a sound state it answers a sound one, and it
leaves the queue alone. -/
theorem exec_ok {q : List Instr} {s : State} (h : Ok q s) : (c : Instr) → OutOk q (exec c s)
  | .porstNAssert lowNs => execPorstNAssert_ok lowNs h
  | .porstNRelease straps valid => execPorstNRelease_ok straps valid h
  | .strapPullDisable => execStrapPullDisable_ok h
  | .warmNRelease => execWarmNRelease_ok h
  | .warmNLow lowNs => execWarmNLow_ok lowNs h
  | .warmRestartBegin => execWarmRestartBegin_ok h
  | .vddAonRemoval => execVddAonRemoval_ok h
  | .xspiResetRelease => execXspiResetRelease_ok h
  | .referenceLocked => execReferenceLocked_ok h
  | .otpReadComplete => execOtpReadComplete_ok h
  | .dramInitComplete => execDramInitComplete_ok h
  | .imageVerified slot => execImageVerified_ok slot h
  | .halfBootComplete half digestOk => execHalfBootComplete_ok half digestOk h
  | .tokenGrant => execTokenGrant_ok h
  | .tokenArbitrationTimeout => execTokenArbitrationTimeout_ok h
  | .selfTestComplete failed => execSelfTestComplete_ok failed h
  | .standingProfileApply => execStandingProfileApply_ok h
  | .xtal32Start cycles => execXtal32Start_ok cycles h
  | .xtal32Abandon => execXtal32Abandon_ok h
  | .dfuConnect vbusNs => execDfuConnect_ok vbusNs h
  | .dfuDnload block => execDfuDnload_ok block h
  | .dfuManifest => execDfuManifest_ok h
  | .dfuBusReset => execDfuBusReset_ok h
  | .skeinAonPowerUp skein vinA vinB cdlyA cdlyB => execSkeinAonPowerUp_ok skein vinA vinB cdlyA cdlyB h
  | .skeinAonPowerDown skein vinA vinB => execSkeinAonPowerDown_ok skein vinA vinB h
  | .holdLineAssert skein => execHoldLineAssert_ok skein h
  | .holdLineDeassert skein => execHoldLineDeassert_ok skein h
  | .linkSilentTimeout skein silentNs => execLinkSilentTimeout_ok skein silentNs h
  | .configCheckStart skein => execConfigCheckStart_ok skein h
  | .configCheckDone skein pass link => execConfigCheckDone_ok skein pass link h
  | .trainingComplete src pass => execTrainingComplete_ok src pass h
  | .feedInputQualified feed vin forNs => execFeedInputQualified_ok feed vin forNs h
  | .railReached feed vin rail => execRailReached_ok feed vin rail h
  | .fullEnhancement feed vgsMv => execFullEnhancement_ok feed vgsMv h
  | .shareReached feed ownUv mateUv fullDrive => execShareReached_ok feed ownUv mateUv fullDrive h
  | .feedCurrentLimit feed shuntUv => execFeedCurrentLimit_ok feed shuntUv h
  | .feedLimitExit feed belowNs => execFeedLimitExit_ok feed belowNs h
  | .feedFaultTimerExpiry feed model sensorUv => execFeedFaultTimerExpiry_ok feed model sensorUv h
  | .inrushTimeout feed => execInrushTimeout_ok feed h
  | .feedThermalModelUpdate feed volts shuntUv => execFeedThermalModelUpdate_ok feed volts shuntUv h
  | .feedSensorRead feed uv => execFeedSensorRead_ok feed uv h
  | .feedReverseBlock feed sense => execFeedReverseBlock_ok feed sense h
  | .feedInputOutOfRange feed vin => execFeedInputOutOfRange_ok feed vin h
  | .feedBlockedRejoin feed vin rail => execFeedBlockedRejoin_ok feed vin rail h
  | .inputLost feed vin forNs => execInputLost_ok feed vin forNs h
  | .cdlyCooldownEnd feed => execCdlyCooldownEnd_ok feed h
  | .cdlyCheckMissing feed => execCdlyCheckMissing_ok feed h
  | .cdlyCheckShorted feed => execCdlyCheckShorted_ok feed h
  | .cdlyTestCharge feed charge => execCdlyTestCharge_ok feed charge h
  | .feedStopped feed vgsMv => execFeedStopped_ok feed vgsMv h
  | .feedRetryReload feed => execFeedRetryReload_ok feed h
  | .feedStuckOn feed shuntUv => execFeedStuckOn_ok feed shuntUv h
  | .feedSample feed vinMv shuntUv railMv vgsMv controlled =>
    execFeedSample_ok feed vinMv shuntUv railMv vgsMv controlled h
  | .measurementWindowEnd => execMeasurementWindowEnd_ok h
  | .shareLimitSet feed forNs => execShareLimitSet_ok feed forNs h
  | .shareLimitClear feed forNs => execShareLimitClear_ok feed forNs h
  | .powerGoodSettled skein => execPowerGoodSettled_ok skein h
  | .feedCfgWrite path feed value => execFeedCfgWrite_ok path feed value h
  | .softstartComplete port vbus rail => execSoftstartComplete_ok port vbus rail h
  | .ssTimeout port => execSsTimeout_ok port h
  | .portCurrentLimit port iMa => execPortCurrentLimit_ok port iMa h
  | .portLimitExit port belowNs => execPortLimitExit_ok port belowNs h
  | .portFaultTimerExpiry port shortMa sensor model => execPortFaultTimerExpiry_ok port shortMa sensor model h
  | .shortCircuitTrip port iMa => execShortCircuitTrip_ok port iMa h
  | .portSensorRead port reading => execPortSensorRead_ok port reading h
  | .portModelUpdate port heat => execPortModelUpdate_ok port heat h
  | .portReverseBlock port vbus rail => execPortReverseBlock_ok port vbus rail h
  | .portReverseRelease port vbus rail forNs => execPortReverseRelease_ok port vbus rail forNs h
  | .dischargeComplete port vbus => execDischargeComplete_ok port vbus h
  | .dischargeDisconnect port belowNs => execDischargeDisconnect_ok port belowNs h
  | .retryPeriodExpiry port => execRetryPeriodExpiry_ok port h
  | .retryEnd port vbus => execRetryEnd_ok port vbus h
  | .portRetryReload port => execPortRetryReload_ok port h
  | .portStuckOn port iMa => execPortStuckOn_ok port iMa h
  | .portSample port vbus iMa => execPortSample_ok port vbus iMa h
  | .pwrCfgWrite path port value => execPwrCfgWrite_ok path port value h
  | .allocationPass skein => execAllocationPass_ok skein h
  | .rpLevelApplied port => execRpLevelApplied_ok port h
  | .shedHoldEnd skein => execShedHoldEnd_ok skein h
  | .shedCapRestore skein => execShedCapRestore_ok skein h
  | .complianceCheck port => execComplianceCheck_ok port h
  | .sinkLimitImposed port => execSinkLimitImposed_ok port h
  | .ccOvervoltage port mv belowNs => execCcOvervoltage_ok port mv belowNs h
  | .vbusBackfeedClear port belowNs => execVbusBackfeedClear_ok port belowNs h
  | .ccSample port pat => execCcSample_ok port pat h
  | .typecDebounceComplete port => execTypecDebounceComplete_ok port h
  | .typeaDetect port iMa pullup => execTypeaDetect_ok port iMa pullup h
  | .typeaDebounceComplete port => execTypeaDebounceComplete_ok port h
  | .typecDetach port openNs => execTypecDetach_ok port openNs h
  | .typeaDetach port forNs => execTypeaDetach_ok port forNs h
  | .typeaPullupSeen port => execTypeaPullupSeen_ok port h
  | .qualifyComplete port => execQualifyComplete_ok port h
  | .logicalDetachComplete port => execLogicalDetachComplete_ok port h
  | .modeChangeComplete port => execModeChangeComplete_ok port h
  | .upstreamVbusQualified presentNs => execUpstreamVbusQualified_ok presentNs h
  | .upstreamConnect => execUpstreamConnect_ok h
  | .upstreamVbusAbsent absentNs => execUpstreamVbusAbsent_ok absentNs h
  | .disconnectHoldoffEnd => execDisconnectHoldoffEnd_ok h
  | .setPortPower hubPort => execSetPortPower_ok hubPort h
  | .clearPortPower hubPort => execClearPortPower_ok hubPort h
  | .setPortReset hubPort => execSetPortReset_ok hubPort h
  | .portResetEnd hubPort speed => execPortResetEnd_ok hubPort speed h
  | .clearPortEnable hubPort => execClearPortEnable_ok hubPort h
  | .setPortSuspend hubPort => execSetPortSuspend_ok hubPort h
  | .clearPortSuspend hubPort => execClearPortSuspend_ok hubPort h
  | .setPortTest hubPort mode => execSetPortTest_ok hubPort mode h
  | .setPortIndicator hubPort => execSetPortIndicator_ok hubPort h
  | .clearTtBuffer hubPort dev ep => execClearTtBuffer_ok hubPort dev ep h
  | .resetTt hubPort => execResetTt_ok hubPort h
  | .stopTt hubPort => execStopTt_ok hubPort h
  | .getTtState hubPort => execGetTtState_ok hubPort h
  | .getPortStatus hubPort => execGetPortStatus_ok hubPort h
  | .hubSetInterface alt => execHubSetInterface_ok alt h
  | .upstreamReset => execUpstreamReset_ok h
  | .hubGlobalSuspend idleNs => execHubGlobalSuspend_ok idleNs h
  | .hostResume eop => execHostResume_ok eop h
  | .downstreamRemoteWake hubPort signal => execDownstreamRemoteWake_ok hubPort signal h
  | .portResumeEnd hubPort => execPortResumeEnd_ok hubPort h
  | .microframeBoundary shuttle late => execMicroframeBoundary_ok shuttle late h
  | .downstreamTransaction ctx txn => execDownstreamTransaction_ok ctx txn h
  | .enumResetEnd port route speed => execEnumResetEnd_ok port route speed h
  | .enumRecoveryEnd port route => execEnumRecoveryEnd_ok port route h
  | .enumRequestComplete port route status data => execEnumRequestComplete_ok port route status data h
  | .enumRequestTimeout port route => execEnumRequestTimeout_ok port route h
  | .setAddressTimeout port route => execSetAddressTimeout_ok port route h
  | .enumAttemptTimeout port route => execEnumAttemptTimeout_ok port route h
  | .enumRetryWaitEnd port route => execEnumRetryWaitEnd_ok port route h
  | .enumerationComplete port route => execEnumerationComplete_ok port route h
  | .contextRelease ctx => execContextRelease_ok ctx h
  | .spareLoaded shuttle => execSpareLoaded_ok shuttle h
  | .takeoverConfirm shuttle => execTakeoverConfirm_ok shuttle h
  | .treeIdleTimeout port => execTreeIdleTimeout_ok port h
  | .deviceResumeSignal port => execDeviceResumeSignal_ok port h
  | .treeResumeEnd port => execTreeResumeEnd_ok port h
  | .treeRecoveryEnd port => execTreeRecoveryEnd_ok port h
  | .deviceResetComplete port route descs => execDeviceResetComplete_ok port route descs h
  | .mirrorRebuildComplete => execMirrorRebuildComplete_ok h
  | .laneOutTransfer lane bytes => execLaneOutTransfer_ok lane bytes h
  | .outDmaComplete lane => execOutDmaComplete_ok lane h
  | .hostDataRecord lane => execHostDataRecord_ok lane h
  | .setupRecord lane cfg => execSetupRecord_ok lane cfg h
  | .statusRecord lane => execStatusRecord_ok lane h
  | .abortRecord lane => execAbortRecord_ok lane h
  | .hostAckRecord lane => execHostAckRecord_ok lane h
  | .hostCreditRecord lane => execHostCreditRecord_ok lane h
  | .outRecordComplete handle => execOutRecordComplete_ok handle h
  | .laneInTransfer lane => execLaneInTransfer_ok lane h
  | .ep2InTransfer => execEp2InTransfer_ok h
  | .linkReset lost => execLinkReset_ok lost h
  | .loomSetConfiguration value => execLoomSetConfiguration_ok value h
  | .loomSetInterface alt => execLoomSetInterface_ok alt h
  | .loomClearHalt lane => execLoomClearHalt_ok lane h
  | .functionSuspend suspend u3 wake => execFunctionSuspend_ok suspend u3 wake h
  | .hostU3Exit done => execHostU3Exit_ok done h
  | .wakeNotifyRepeat => execWakeNotifyRepeat_ok h
  | .u1Initiate idleNs => execU1Initiate_ok idleNs h
  | .linkTrained rate => execLinkTrained_ok rate h
  | .loomPacketReceived chan origin bytes => execLoomPacketReceived_ok chan origin bytes h
  | .inRing => execInRing_ok h
  | .mailboxPacketTaken => execMailboxPacketTaken_ok h
  | .outDone => execOutDone_ok h
  | .forwardTimeout tag chan => execForwardTimeout_ok tag chan h
  | .deviceInfo p => execDeviceInfo_ok p h
  | .deviceStatus p => execDeviceStatus_ok p h
  | .connect p => execConnect_ok p h
  | .disconnect p => execDisconnect_ok p h
  | .warmRestart p => execWarmRestart_ok p h
  | .journalRead p => execJournalRead_ok p h
  | .channelMask p => execChannelMask_ok p h
  | .profileWrite p => execProfileWrite_ok p h
  | .profileRead p => execProfileRead_ok p h
  | .profileErase p => execProfileErase_ok p h
  | .portModeSet p => execPortModeSet_ok p h
  | .portDataEnable p => execPortDataEnable_ok p h
  | .portDataDisable p => execPortDataDisable_ok p h
  | .portVbusOn p => execPortVbusOn_ok p h
  | .portVbusOff p => execPortVbusOff_ok p h
  | .portLatchClear p => execPortLatchClear_ok p h
  | .portPwrConfig p => execPortPwrConfig_ok p h
  | .portStatus p => execPortStatus_ok p h
  | .portRescan p => execPortRescan_ok p h
  | .feedEnable p => execFeedEnable_ok p h
  | .feedDisable p => execFeedDisable_ok p h
  | .feedConfig p => execFeedConfig_ok p h
  | .skeinConfig p => execSkeinConfig_ok p h
  | .skeinBudget p => execSkeinBudget_ok p h
  | .powerStatus p => execPowerStatus_ok p h
  | .measPorts p => execMeasPorts_ok p h
  | .measFeeds p => execMeasFeeds_ok p h
  | .snapTrigger p => execSnapTrigger_ok p h
  | .countersRead p => execCountersRead_ok p h
  | .energyRead p => execEnergyRead_ok p h
  | .domainSet p => execDomainSet_ok p h
  | .domainGet p => execDomainGet_ok p h
  | .idlePolicySet p => execIdlePolicySet_ok p h
  | .wakeConfig p => execWakeConfig_ok p h
  | .alarmSet p => execAlarmSet_ok p h
  | .faultStatus p => execFaultStatus_ok p h
  | .faultClear p => execFaultClear_ok p h
  | .faultLogRead p => execFaultLogRead_ok p h
  | .faultInject p => execFaultInject_ok p h
  | .hierRoleSet p => execHierRoleSet_ok p h
  | .hierStatus p => execHierStatus_ok p h
  | .poolDefine p => execPoolDefine_ok p h
  | .poolStatus p => execPoolStatus_ok p h
  | .timeGet p => execTimeGet_ok p h
  | .timeSet p => execTimeSet_ok p h
  | .canAssign p => execCanAssign_ok p h
  | .shuttleDevInfo p => execShuttleDevInfo_ok p h
  | .shuttleShareSet p => execShuttleShareSet_ok p h
  | .shuttleReturn p => execShuttleReturn_ok p h
  | .shuttleResetDevice p => execShuttleResetDevice_ok p h
  | .shuttleIdleSet p => execShuttleIdleSet_ok p h
  | .handleMap p => execHandleMap_ok p h
  | .shuttleStatus p => execShuttleStatus_ok p h
  | .identityReport p => execIdentityReport_ok p h
  | .attest p => execAttest_ok p h
  | .lifecycleAdvance p => execLifecycleAdvance_ok p h
  | .challenge p => execChallenge_ok p h
  | .debugUnlock p => execDebugUnlock_ok p h
  | .debugEnd p => execDebugEnd_ok p h
  | .keyRevoke p => execKeyRevoke_ok p h
  | .fwWrite p => execFwWrite_ok p h
  | .fwVerify p => execFwVerify_ok p h
  | .fwActivate p => execFwActivate_ok p h
  | .fwCommit p => execFwCommit_ok p h
  | .fwStatus p => execFwStatus_ok p h
  | .fwBroadcast p => execFwBroadcast_ok p h
  | .regRead p => execRegRead_ok p h
  | .regWrite p => execRegWrite_ok p h
  | .standbyUpdated verified booted => execStandbyUpdated_ok verified booted h
  | .handover => execHandover_ok h
  | .newLeadRunning => execNewLeadRunning_ok h
  | .formerLeadUpdated => execFormerLeadUpdated_ok h
  | .activationTimeout => execActivationTimeout_ok h
  | .canModeWrite can mode => execCanModeWrite_ok can mode h
  | .canModeChange can => execCanModeChange_ok can h
  | .canSynced can recessiveBits => execCanSynced_ok can recessiveBits h
  | .canTimingWrite can off data => execCanTimingWrite_ok can off data h
  | .txRequest can mask => execTxRequest_ok can mask h
  | .txAbort can mask req => execTxAbort_ok can mask req h
  | .txbWrite can buf off data => execTxbWrite_ok can buf off data h
  | .txChoice can => execTxChoice_ok can h
  | .canTxAttemptEnd can stamp loopDelay fin => execCanTxAttemptEnd_ok can stamp loopDelay fin h
  | .loneSlot can => execLoneSlot_ok can h
  | .canFrameReceived can frame stamp => execCanFrameReceived_ok can frame stamp h
  | .fifoPop can => execFifoPop_ok can h
  | .busoffRecovery can occurrences => execBusoffRecovery_ok can occurrences h
  | .canUseChange can => execCanUseChange_ok can h
  | .listenWindowEnd => execListenWindowEnd_ok h
  | .joinTimeout => execJoinTimeout_ok h
  | .heartbeatSend => execHeartbeatSend_ok h
  | .heartbeat m => execHeartbeat_ok m h
  | .heartbeatLoss => execHeartbeatLoss_ok h
  | .elect m => execElect_ok m h
  | .electionWindowEnd => execElectionWindowEnd_ok h
  | .electionRetry => execElectionRetry_ok h
  | .announce m => execAnnounce_ok m h
  | .join m => execJoin_ok m h
  | .joinAck m => execJoinAck_ok m h
  | .leave m => execLeave_ok m h
  | .wstatusSend => execWstatusSend_ok h
  | .wstatus m => execWstatus_ok m h
  | .memberAbsent idx => execMemberAbsent_ok idx h
  | .tsyncSend => execTsyncSend_ok h
  | .tsync m => execTsync_ok m h
  | .tfollowSend bus => execTfollowSend_ok bus h
  | .tfollow m => execTfollow_ok m h
  | .dreqSend => execDreqSend_ok h
  | .dreq m aheadNs => execDreq_ok m aheadNs h
  | .dresp m => execDresp_ok m h
  | .timeUnlockTimeout => execTimeUnlockTimeout_ok h
  | .cmdSegment m cls => execCmdSegment_ok m cls h
  | .rplSegment m cls => execRplSegment_ok m cls h
  | .segmentTimeout reply src cls => execSegmentTimeout_ok reply src cls h
  | .eventFrame m => execEventFrame_ok m h
  | .loanCompute => execLoanCompute_ok h
  | .loan m => execLoan_ok m h
  | .loanAck m => execLoanAck_ok m h
  | .loanResend idx => execLoanResend_ok idx h
  | .loanRaise => execLoanRaise_ok h
  | .poolSync m => execPoolSync_ok m h
  | .poolSyncPeriodic => execPoolSyncPeriodic_ok h
  | .fwCtrl m => execFwCtrl_ok m h
  | .fwData m => execFwData_ok m h
  | .fwNack m => execFwNack_ok m h
  | .fwNackWindowEnd => execFwNackWindowEnd_ok h
  | .domainStepReady domain sealOk => execDomainStepReady_ok domain sealOk h
  | .domainStepTimeout domain => execDomainStepTimeout_ok domain h
  | .domainEntryComplete domain => execDomainEntryComplete_ok domain h
  | .idleTimeout domain => execIdleTimeout_ok domain h
  | .domReqWrite domain value => execDomReqWrite_ok domain value h
  | .avsAck readMv => execAvsAck_ok readMv h
  | .avsNoAck => execAvsNoAck_ok h
  | .avsRetry => execAvsRetry_ok h
  | .addressMatch addr i3c => execAddressMatch_ok addr i3c h
  | .upstreamResumeDetect lfps => execUpstreamResumeDetect_ok lfps h
  | .wakeInEdge highNs => execWakeInEdge_ok highNs h
  | .alarmFire alarm => execAlarmFire_ok alarm h
  | .alarmArmWrite path alarm high => execAlarmArmWrite_ok path alarm high h
  | .dbgEnRise => execDbgEnRise_ok h
  | .dbgEnFall => execDbgEnFall_ok h
  | .errorPairSet src kind addr => execErrorPairSet_ok src kind addr h
  | .codedMessage word => execCodedMessage_ok word h
  | .codedMessageRepeat word => execCodedMessageRepeat_ok word h
  | .linkMessageTimeout skein => execLinkMessageTimeout_ok skein h
  | .pairBroken src clocks => execPairBroken_ok src clocks h
  | .pairWhole src forNs => execPairWhole_ok src forNs h
  | .faultNotification => execFaultNotification_ok h
  | .geckoClearWrite reg mask => execGeckoClearWrite_ok reg mask h
  | .fltHb half seq handover => execFltHb_ok half seq handover h
  | .leadHeartbeatTimeout => execLeadHeartbeatTimeout_ok h
  | .tokenRecordMismatch c0 c1 c2 => execTokenRecordMismatch_ok c0 c1 c2 h
  | .sharedWriteRefused half => execSharedWriteRefused_ok half h
  | .stateCopyComplete => execStateCopyComplete_ok h
  | .takeoverComplete => execTakeoverComplete_ok h
  | .referenceAbsentTimeout absentNs => execReferenceAbsentTimeout_ok absentNs h
  | .referenceStable stableNs => execReferenceStable_ok stableNs h
  | .otpProgram slot => execOtpProgram_ok slot h
  | .otpProgramDone readBackOk => execOtpProgramDone_ok readBackOk h
  | .challengeExpiry => execChallengeExpiry_ok h
  | .debugAccess acc => execDebugAccess_ok acc h
  | .debugWakeRequest domain state => execDebugWakeRequest_ok domain state h
  | .mgmtWrite i3c bytes => execMgmtWrite_ok i3c bytes h
  | .mgmtRead i3c count => execMgmtRead_ok i3c count h
  | .enec events => execEnec_ok events h
  | .disec events => execDisec_ok events h
  | .rstdaa => execRstdaa_ok h
  | .entdaa addr => execEntdaa_ok addr h
  | .setdasa static addr => execSetdasa_ok static addr h
  | .setnewda addr => execSetnewda_ok addr h
  | .setmwl len => execSetmwl_ok len h
  | .setmrl len => execSetmrl_ok len h
  | .getmwl => execGetmwl_ok h
  | .getmrl => execGetmrl_ok h
  | .getpid => execGetpid_ok h
  | .getbcr => execGetbcr_ok h
  | .getdcr => execGetdcr_ok h
  | .getstatus => execGetstatus_ok h
  | .ibiRetry acked => execIbiRetry_ok acked h
  | .indAddrWrite path value => execIndAddrWrite_ok path value h
  | .indDataRead path => execIndDataRead_ok path h
  | .indDataWrite path value => execIndDataWrite_ok path value h
  | .indSet path value => execIndSet_ok path value h
  | .indClr path value => execIndClr_ok path value h
  | .indTgl path value => execIndTgl_ok path value h
  | .indFetch path => execIndFetch_ok path h
  | .fetchComplete path => execFetchComplete_ok path h
  | .aliasSet path addr value => execAliasSet_ok path addr value h
  | .aliasClear path addr value => execAliasClear_ok path addr value h
  | .aliasToggle path addr value => execAliasToggle_ok path addr value h
  | .registerWrite path addr value => execRegisterWrite_ok path addr value h
  | .rcRead path addr => execRcRead_ok path addr h
  | .lowWordRead path addr => execLowWordRead_ok path addr h
  | .snapCtlTrigger path => execSnapCtlTrigger_ok path h
  | .snapLatch => execSnapLatch_ok h
  | .snapComplete => execSnapComplete_ok h
  | .downstreamConnectChange hubPort pullup => execDownstreamConnectChange_ok hubPort pullup h
  | .linkPowerStateRequest pm => execLinkPowerStateRequest_ok pm h
  | .u2InactivityTimeout => execU2InactivityTimeout_ok h
  | .hubStandardRequest req => execHubStandardRequest_ok req h
  | .enumWaitEnd port route => execEnumWaitEnd_ok port route h
  | .ep1ReplyTransfer => execEp1ReplyTransfer_ok h
  | .domainClockStop domain => execDomainClockStop_ok domain h
  | .collectorSelfTest outcome => execCollectorSelfTest_ok outcome h
  | .xtal32Stop => execXtal32Stop_ok h
  | .canRxError can lec dataPhase eights => execCanRxError_ok can lec dataPhase eights h
  | .workerImageWritten => execWorkerImageWritten_ok h

/-- Taking the front off the queue leaves the rest of the state as it is. -/
theorem ok_takeFront {s : State} (h : Safety.sound s = true) (rest : List Instr) :
    Ok rest { s with pending := rest } :=
  (ok_iff ..).mpr ⟨rfl, h⟩

/-- A step of a sound state answers a sound one, with the rest of the queue waiting: a command does so from the state
without its front, and the tick from the state itself. -/
theorem step_ok {s : State} (h : Safety.sound s = true) : OutOk (s.pending.drop 1) (step s) := by
  cases hq : s.pending with
  | nil =>
    rw [step_of_nil hq]
    exact out_next (tick_ok ((ok_iff ..).mpr ⟨hq, h⟩))
  | cons c rest =>
    rw [step_of_cons hq]
    exact exec_ok (ok_takeFront h rest) c

/-- Settles O6: a step passes to the law of the command it runs, or of the tick. -/
theorem stepKeepsSound : Obligations.StepKeepsSound := by
  intro s t sound next
  exact ((ok_iff ..).mp (out_elim (step_ok sound) t next)).2

end Sys2Proof.Laws
end

section
/-! PROOFS. The package's pins (02_package_and_balls.md R41 to R51): `WAKE_IN`, the two resets, the straps, the flash reset,
the reference and the 32.768 kHz crystal. -/

namespace Sys2Proof.Machine

/-! ### `WAKE_IN` (02_package_and_balls.md R42, 13_power_domains.md R321) -/

/-- The domains that an edge of `WAKE_IN` asks for: those of the CAN controllers in hierarchy use. -/
def State.wakePinDomains (s : State) : List Nat :=
  ((List.range 2).filter (fun c => s.get .CAN_CTL_USE c == 0)).map dCAN

/-- The device is awake for `WAKE_IN`: what an edge asks for is ON, and the clock of the lead half runs. -/
def State.wakePinAwake (s : State) : Bool :=
  s.wakePinDomains.all s.domOn && !s.flag .DOM_STAT_CLK_STOPPED (dCTL s.lead)

theorem State.wakeInEdge_of_awake {s : State} (h : s.wakePinAwake = true) :
    s.wakeInEdge = (s.setBit .PWRD_WAKE_LAST_SRC 0 3).count .PWRD_WAKE_LAST_WAKE_CNT 0 :=
  if_pos h

theorem State.wakeInEdge_of_asleep {s : State} (h : s.wakePinAwake = false) :
    s.wakeInEdge = s.wake 3 s.wakePinDomains :=
  if_neg (Bool.eq_false_iff.mp h)

theorem exec_wakeInEdge_of_recognised {n : Nat} (h : 10000 ≤ n) (s : State) :
    exec (.wakeInEdge n) s = .next s.wakeInEdge := by
  change execWakeInEdge n s = _
  rw [execWakeInEdge, if_neg (by omega), if_pos h]

/-- Between the two bounds a free value decides (notes/assumptions/9.md). -/
theorem exec_wakeInEdge_of_between {n : Nat} (h : 1000 ≤ n) (h' : n < 10000) (s : State) :
    exec (.wakeInEdge n) s = .next (if s.freeVal % 2 == 1 then s.useFree.wakeInEdge else s.useFree) := by
  change execWakeInEdge n s = _
  rw [execWakeInEdge, if_neg (by omega), if_neg (by omega)]

/-- Settles O11: a pulse is ignored, recognised or open by its width, and a recognised edge acts by whether the device is
awake. -/
theorem wakePin : Obligations.WakePin := by
  intro n s ds
  refine ⟨fun short => if_pos short, fun long on runs => ?_, fun long asleep => ?_, fun long short => ?_⟩
  · have awake : s.wakePinAwake = true := Bool.and_eq_true_iff.mpr ⟨on, by rw [runs]; rfl⟩
    rw [exec_wakeInEdge_of_recognised long, State.wakeInEdge_of_awake awake]
  · have asleep : s.wakePinAwake = false := Bool.and_eq_false_iff.mpr (asleep.imp_right (fun h => by rw [h]; rfl))
    rw [exec_wakeInEdge_of_recognised long, State.wakeInEdge_of_asleep asleep]
    rfl
  · rw [exec_wakeInEdge_of_between long short]
    split
    · exact .inr rfl
    · exact .inl rfl

/-! ### What the reset of the loom die leaves alone (02_package_and_balls.md R41) -/

/-- What no write of a register changes, a run of such writes does not change. -/
theorem State.foldl_set_keeps {α β : Type} (view : State → β) (keeps : ∀ s f u v, view (s.set f u v) = view s)
    (l : List α) (f : α → Fld) (u v : α → Nat) (s : State) :
    view (l.foldl (fun t a => t.set (f a) (u a) (v a)) s) = view s := by
  induction l generalizing s with
  | nil => rfl
  | cons a l ih => exact (ih _).trans (keeps ..)

/-- The straps are sampled again, and the pins of the flash and of the core rail are as at reset; every other pin stays. -/
theorem State.loomCleared_pins (s : State) :
    s.loomCleared.pins =
      { s.pins with strapPulls := true, strapIn := true, xspiResetN := false, avsUsed := false, xspiUsed := false } :=
  State.foldl_set_keeps State.pins (fun _ _ _ _ => rfl) ..

theorem State.loomCleared_warmLow (s : State) : s.loomCleared.pins.warmLow = s.pins.warmLow := by
  rw [State.loomCleared_pins]

theorem State.loomCleared_dbgEn (s : State) : s.loomCleared.pins.dbgEn = s.pins.dbgEn := by
  rw [State.loomCleared_pins]

theorem State.loomCleared_freeCtr (s : State) : s.loomCleared.freeCtr = s.freeCtr :=
  State.foldl_set_keeps State.freeCtr (fun _ _ _ _ => rfl) ..

/-- The time that the skein dies count goes on. -/
theorem State.loomCleared_now (s : State) : s.loomCleared.now = s.now :=
  State.foldl_set_keeps State.now (fun _ _ _ _ => rfl) ..

/-! ### `PORST_N` and `WARM_N` (02_package_and_balls.md R41, 16_start_up.md R374, R381) -/

theorem exec_porstNAssert_of_recognised {n : Nat} (h : 1000 ≤ n) (s : State) :
    exec (.porstNAssert n) s = .next (
      let t := ((List.range 8).foldl State.holdSkein s).loomCleared
      { t with pins := { t.pins with porstLow := true } }) := by
  change execPorstNAssert n s = _
  rw [execPorstNAssert, if_neg (by omega), if_pos h]

theorem exec_warmNLow_of_recognised {n : Nat} {s : State} (h : 1000 ≤ n) (high : s.pins.porstLow = false)
    (noHold : s.flt.latch = false) (ready : s.ready = true) :
    exec (.warmNLow n) s = .next
      (({ s with pins := { s.pins with warmLow := true, warmHolds := true } } : State).warmRestart 2) := by
  change execWarmNLow n s = _
  have acts : ¬(s.pins.porstLow || s.flt.latch || !s.ready) = true := by simp [high, noHold, ready]
  rw [execWarmNLow, if_neg (by omega), if_pos h]
  exact congrArg _ (if_neg acts)

theorem exec_warmNRelease_of_waiting {s : State} (waits : s.boot.waitWarm = true) (high : s.pins.porstLow = false) :
    exec .warmNRelease s = .next
      { s with
        pins := { s.pins with warmLow := false, warmHolds := false }
        boot := { s.boot with waitWarm := false, base := s.dt } } := by
  have goesOn : (s.boot.waitWarm && !s.pins.porstLow) = true := by simp [waits, high]
  exact if_pos goesOn

theorem exec_warmRestartBegin_of_due {k : Nat} {s : State} (committed : s.ecx.restart = some k) (due : k ≤ s.dt)
    (noHold : s.flt.latch = false) : exec .warmRestartBegin s = .next (s.warmRestart 3) := by
  change execWarmRestartBegin s = _
  simp only [execWarmRestartBegin, committed, due, noHold, decide_true, Bool.not_false, Bool.and_self, if_true]

/-! ### Steps of the start (02_package_and_balls.md R46, R48, 16_start_up.md R374) -/

theorem exec_strapPullDisable_of_due {s : State} (high : s.pins.porstLow = false) (due : 50000 ≤ s.dt) :
    exec .strapPullDisable s = .next { s with pins := { s.pins with strapPulls := false, strapIn := false } } := by
  have acts : ¬(s.pins.porstLow || decide (s.dt < 50000)) = true := by simp [high, due]
  exact if_neg acts

theorem exec_xspiResetRelease_of_due {s : State} (starts : s.starting = true) (due : s.boot.base + 100000 ≤ s.dt) :
    exec .xspiResetRelease s = .next { s with pins := { s.pins with xspiResetN := true } } := by
  have acts : (s.starting && decide (s.boot.base + 100000 ≤ s.dt)) = true := by simp [starts, due]
  exact if_pos acts

theorem exec_referenceLocked_of_needed {s : State} (high : s.pins.porstLow = false) (goes : s.boot.waitWarm = false)
    (present : s.flt.refAbsentFrom = none) (kept : s.refLost = false) (needed : s.refNeeded = true) :
    exec .referenceLocked s = .next
      { s.rejoin.fastClock with boot := { s.rejoin.fastClock.boot with refLocked := true } } := by
  have acts : ¬(s.pins.porstLow || s.boot.waitWarm || s.flt.refAbsentFrom.isSome || s.refLost || !s.refNeeded) = true := by
    simp [high, goes, present, kept, needed]
  exact if_neg acts

/-! ### The crystal of the slow clock (02_package_and_balls.md R51) -/

theorem State.xtalAbandon_of_late {s : State} (high : s.pins.porstLow = false) (rc : s.flag .AON_CLK_SLOW_SRC = false)
    (runs : s.flag .AON_CLK_XTAL_STOPPED = false) (late : 2000000000 ≤ s.dt) :
    s.xtalAbandon = { s.set .AON_CLK_XTAL_ABANDONED 0 1 with pins := { s.pins with xtalGone := true } } := by
  have acts : ¬(s.pins.porstLow || s.flag .AON_CLK_SLOW_SRC || s.flag .AON_CLK_XTAL_STOPPED
      || decide (s.dt < 2000000000)) = true := by
    simp [high, rc, runs, late]
  exact if_neg acts

theorem exec_xtal32Start_of_early {n : Nat} {s : State} (cycles : 512 ≤ n) (high : s.pins.porstLow = false)
    (tried : s.pins.xtalGone = false) (early : s.dt < 2000000000) (rc : s.flag .AON_CLK_SLOW_SRC = false)
    (runs : s.flag .AON_CLK_XTAL_STOPPED = false) :
    exec (.xtal32Start n) s = .next ((s.set .AON_CLK_SLOW_SRC 0 1).set .TIME_STAT_XTAL32 0 1) := by
  change execXtal32Start n s = _
  have counts : ¬(s.pins.porstLow || decide (n < 512) || s.pins.xtalGone || s.flag .AON_CLK_SLOW_SRC
      || s.flag .AON_CLK_XTAL_STOPPED) = true := by
    simp [high, cycles, tried, rc, runs]
  rw [execXtal32Start, if_neg counts, if_neg (Nat.not_le.mpr early)]

/-- Settles O19: by the lemma of each command, where a pulse under 100 ns and the end of one that was not recognised are the
first arms of their commands. -/
theorem commandsOfResetAndPins : Obligations.CommandsOfResetAndPins := by
  refine ⟨fun n s long => exec_porstNAssert_of_recognised long s, fun n s short => if_pos short, ?notLow, ?release,
    fun s => exec_strapPullDisable_of_due, fun s => exec_warmNRelease_of_waiting,
    fun n s => exec_warmNLow_of_recognised, fun n s short => if_pos short, fun k s => exec_warmRestartBegin_of_due,
    fun s => rfl, fun s => exec_xspiResetRelease_of_due, fun s => exec_referenceLocked_of_needed,
    fun n s => exec_xtal32Start_of_early, ?abandon⟩
  case notLow =>
    intro st v s high
    change execPorstNRelease st v s = _
    rw [execPorstNRelease, high]
    rfl
  case release =>
    -- What the statement reads before the die is cleared, the command reads after it.
    intro st s low
    rw [← s.loomCleared_warmLow, ← s.loomCleared_dbgEn, ← s.loomCleared_freeCtr, ← s.loomCleared_now]
    change execPorstNRelease st true s = _
    rw [execPorstNRelease, low]
    rfl
  case abandon =>
    intro s high rc runs late
    exact congrArg _ (State.xtalAbandon_of_late high rc runs late)

end Sys2Proof.Machine
end

section
/-! PROOFS. The SEC block's programming and challenge, `DBG_EN`, and the accesses of a debugger (15_security_and_debug.md R354,
R363 to R369, 02_package_and_balls.md R43). -/

namespace Sys2Proof.Machine

/-! ### OTP programming and challenges (15_security_and_debug.md R354, R369, 10_ecrax_opcodes.md R252) -/

theorem otpProgram_of_blank {n : Nat} {s : State} (idle : s.flag .SEC_OTP_STAT_BUSY = false) (slot : n < 3)
    (early : s.lifecycle ≤ lcPROVISIONED) (blank : s.sec.otp.programmed n = false) :
    otpProgram n s =
      { s.set .SEC_OTP_STAT_BUSY 0 1 with sec := { s.sec with otpSlot := n, otpData := s.otpDataWord } } := by
  have begins : ¬(s.flag .SEC_OTP_STAT_BUSY || decide (3 ≤ n)) = true := by simp [idle, slot]
  have permitted : ¬(!decide (s.lifecycle ≤ lcPROVISIONED)) = true := by simp [early]
  rw [otpProgram, if_neg begins, if_neg permitted, if_neg (Bool.eq_false_iff.mp blank)]

theorem exec_challengeExpiry_of_due {c : Chal} {s : State} (current : s.sec.chal = some c)
    (due : c.issued + 60000000000 ≤ s.dt) : exec .challengeExpiry s = .next s.dropChallenge := by
  change execChallengeExpiry s = _
  simp only [execChallengeExpiry, current, if_pos due]

/-! ### An access that needs a level and a domain (15_security_and_debug.md R364, R367) -/

/-- What permits the higher level permits the lower one. -/
theorem State.debugMay_mono {s : State} {d : Option Nat} {low high : Nat} (h : low ≤ high)
    (may : s.debugMay d high = true) : s.debugMay d low = true := by
  simp only [State.debugMay, Bool.and_eq_true, decide_eq_true_eq] at may ⊢
  exact ⟨h.trans may.1, may.2⟩

theorem State.debugMay_write_of_read {s : State} {d : Option Nat} (denied : s.debugMay d 1 = false) :
    s.debugMay d 2 = false :=
  Bool.eq_false_iff.mpr (fun may => Bool.eq_false_iff.mp denied (State.debugMay_mono (by decide) may))

/-- The end of an access, with or without an error response. -/
def State.debugEnded (s : State) (error : Bool) : State := { s with sec := { s.sec with dbgError := error } }

theorem State.debugDo_of_allowed {s : State} {d need : Nat} {ok : Bool} (f : State → State) (right : ok = true)
    (may : (s.nameTarget d).debugMay (some d) need = true) : s.debugDo d need ok f = f ((s.nameTarget d).debugEnded false) := by
  simp only [State.debugDo, State.debugEnds, State.debugEnded, right, may, Bool.and_self, if_true, Bool.not_true]

theorem State.debugDo_of_denied {s : State} {d need : Nat} (ok : Bool) (f : State → State)
    (denied : (s.nameTarget d).debugMay (some d) need = false) : s.debugDo d need ok f = (s.nameTarget d).debugEnded true := by
  simp [State.debugDo, State.debugEnds, State.debugEnded, denied]

/-! ### The effect of an access that may be made (15_security_and_debug.md R362, R367) -/

theorem State.debugStore_of_not_field {s : State} (lc : s.lifecycle ≠ lcFIELD) (d a v : Nat) :
    s.debugStore d a v = { s with sec := { s.sec with
      dataWords := s.sec.dataWords.filter (fun w => !(w.1 == d && w.2.1 == a)) ++ [(d, a, v % 2 ^ 32)] } } :=
  if_neg (by simpa using lc)

theorem State.debugData_of_written {s : State} {d a v : Nat} (lc : s.lifecycle ≠ lcFIELD)
    (written : s.sec.dataWords.find? (fun w => w.1 == d && w.2.1 == a) = some (d, a, v)) :
    s.debugData d a = { s with lastRead := v } := by
  have inForce : ¬(s.lifecycle == lcFIELD) = true := by simpa using lc
  rw [State.debugData, if_neg inForce, written]

theorem State.debugRegister_of_read {a : DebugAccess} {s t : State} (what : a.what = .read) (direct : a.ind = false)
    (may : s.permit .debug false a.addr none = (t, true)) :
    s.debugRegister a =
      { (t.directRead .debug false a.addr).1.pathCode .debug a.addr (t.directRead .debug false a.addr).2.2 with
        lastRead := (t.directRead .debug false a.addr).2.1 } := by
  simp [State.debugRegister, what, direct, may]

theorem State.debugRegister_of_write {a : DebugAccess} {v : Nat} {s t : State} (what : a.what = .write v)
    (direct : a.ind = false) (may : s.permit .debug false a.addr (some v) = (t, true)) :
    s.debugRegister a = t.seeInts (fun u =>
      (u.directWrite .debug false a.addr .write v).1.pathCode .debug a.addr
        (u.directWrite .debug false a.addr .write v).2) := by
  simp [State.debugRegister, what, direct, may]

/-! ### Which access is which (15_security_and_debug.md R362, R367): `DBG_EN` is high and the TAP runs -/

section

variable {s : State} (en : s.pins.dbgEn = true) (high : s.pins.porstLow = false) {a : DebugAccess}
include en high

theorem exec_debugAccess_core_halt (place : a.place = .core) (what : a.what = .halt) :
    exec (.debugAccess a) s =
      .next (s.debugDo a.domain 2 (a.domain < 2) (fun s => s.debugCore a.domain true)) := by
  change execDebugAccess a s = _
  simp [execDebugAccess, en, high, place, what]

theorem exec_debugAccess_core_resume (place : a.place = .core) (what : a.what = .resume) :
    exec (.debugAccess a) s =
      .next (s.debugDo a.domain 2 (a.domain < 2) (fun s => s.debugCore a.domain false)) := by
  change execDebugAccess a s = _
  simp [execDebugAccess, en, high, place, what]

theorem exec_debugAccess_register_read (place : a.place = .register) (what : a.what = .read) :
    exec (.debugAccess a) s = .next (s.debugRegister a) := by
  change execDebugAccess a s = _
  simp [execDebugAccess, en, high, place, what]

theorem exec_debugAccess_register_write {v : Nat} (place : a.place = .register) (what : a.what = .write v) :
    exec (.debugAccess a) s = .next (s.debugRegister a) := by
  change execDebugAccess a s = _
  simp [execDebugAccess, en, high, place, what]

theorem exec_debugAccess_memory_read (place : a.place = .dataMemory) (what : a.what = .read) :
    exec (.debugAccess a) s = .next (s.debugDo a.domain 1 true (fun s => s.debugData a.domain a.addr)) := by
  change execDebugAccess a s = _
  simp [execDebugAccess, en, high, place, what]

theorem exec_debugAccess_memory_write {v : Nat} (place : a.place = .dataMemory) (what : a.what = .write v) :
    exec (.debugAccess a) s = .next (s.debugDo a.domain 2 true (fun s => s.debugStore a.domain a.addr v)) := by
  change execDebugAccess a s = _
  simp [execDebugAccess, en, high, place, what]

end

/-- Settles O50: the place and the kind of an access name its effect, and its level and domain say whether that comes or the
error response. -/
theorem securityAndDebugCommands : Obligations.SecurityAndDebugCommands := by
  refine ⟨fun n s idle slot early blank => congrArg _ (otpProgram_of_blank idle slot early blank),
    fun ok s busy => if_pos busy, fun c s => exec_challengeExpiry_of_due, fun s => rfl, fun s => rfl,
    ?halt, ?resume, ?readRegister, ?writeRegister, ?denied, ?writeMemory, ?readMemory⟩
  case halt =>
    rintro a s _ en high place what half rfl may
    rw [exec_debugAccess_core_halt en high place what, State.debugDo_of_allowed _ (decide_eq_true half) may]
    rfl
  case resume =>
    rintro a s _ en high place what half rfl may
    rw [exec_debugAccess_core_resume en high place what, State.debugDo_of_allowed _ (decide_eq_true half) may]
    rfl
  case readRegister =>
    intro a s t en high place what direct may
    rw [exec_debugAccess_register_read en high place what, State.debugRegister_of_read what direct may]
  case writeRegister =>
    intro a v s t en high place what direct may
    rw [exec_debugAccess_register_write en high place what, State.debugRegister_of_write what direct may]
    rfl
  case denied =>
    rintro a s _ en high place (what | ⟨v, what⟩) rfl refused
    · rw [exec_debugAccess_memory_read en high place what, State.debugDo_of_denied _ _ refused]
      rfl
    · rw [exec_debugAccess_memory_write en high place what,
        State.debugDo_of_denied _ _ (State.debugMay_write_of_read refused)]
      rfl
  case writeMemory =>
    rintro a v s _ en high place what rfl may lc
    rw [exec_debugAccess_memory_write en high place what, State.debugDo_of_allowed _ rfl may,
      State.debugStore_of_not_field (s := (s.nameTarget a.domain).debugEnded false) lc]
    rfl
  case readMemory =>
    rintro a v s _ en high place what rfl may lc written
    rw [exec_debugAccess_memory_read en high place what, State.debugDo_of_allowed _ rfl may,
      State.debugData_of_written (s := (s.nameTarget a.domain).debugEnded false) lc written]
    rfl

end Sys2Proof.Machine
end

section
/-! PROOFS. The events of the feed controllers (03_feeds.md R55 to R78): insertion and limit, trips and blocks, the cooldown
pin, the thermal model, the sensor and the samples. -/

namespace Sys2Proof.Machine

/-! ### When a measurement meets the condition of its rule -/

section

variable {s : State} {u : Nat}

theorem State.lt_of_feedRuns (runs : s.feedRuns u = true) : u < 16 :=
  of_decide_eq_true (Bool.and_eq_true_iff.mp runs).1

theorem State.qualifies_iff {v n : Nat} : s.qualifies u v n = true ↔
    s.feedRuns u = true ∧ s.fst u = fWAITING ∧ 10000000 ≤ n ∧ s.vinIn u v = true ∧ s.flag .FEED_CFG_EN u = true
      ∧ s.flag .FEED_CFG_PRESENT u = true ∧ (s.feed u).cdlyHigh = false := by
  simp [State.qualifies, and_assoc]

theorem State.atShare_iff {i j : Int} : s.atShare u i j = true ↔
    100 * s.shuntMa u i - (s.sharePct u : Int) * (s.shuntMa u i + s.shuntMa (feedMate u) j)
        ≤ 5 * (s.shuntMa u i + s.shuntMa (feedMate u) j)
      ∧ -(5 * (s.shuntMa u i + s.shuntMa (feedMate u) j))
        ≤ 100 * s.shuntMa u i - (s.sharePct u : Int) * (s.shuntMa u i + s.shuntMa (feedMate u) j) :=
  decide_eq_true_iff

theorem State.limitHit_iff {v : Int} : s.limitHit u v = true ↔
    s.feedRuns u = true ∧ (s.fst u = fINRUSH ∨ s.fst u = fJOINING ∨ s.fst u = fON)
      ∧ (1000 * s.get .FEED_LIMIT_ILIM_MV u : Nat) ≤ v := by
  simp [State.limitHit, and_assoc, or_assoc]

theorem State.faultTimeUp_iff : s.faultTimeUp u = true ↔
    s.feedRuns u = true ∧ s.tripState u = fLIMIT
      ∧ (s.feed u).limitFrom + 1000000 * s.get .FEED_LIMIT_FTIME_MS u ≤ s.now := by
  simp [State.faultTimeUp, and_assoc]

theorem State.faultTimeUp_eq_false (inTime : s.now < (s.feed u).limitFrom + 1000000 * s.get .FEED_LIMIT_FTIME_MS u) :
    s.faultTimeUp u = false := by
  rw [Bool.eq_false_iff, ne_eq, State.faultTimeUp_iff]
  rintro ⟨_, _, late⟩
  exact Nat.not_le.mpr inTime late

theorem State.inrushTimeUp_iff : s.inrushTimeUp u = true ↔
    s.feedRuns u = true ∧ s.tripState u = fINRUSH ∧ (s.feed u).inrushFrom + 50000000 ≤ s.now := by
  simp [State.inrushTimeUp, and_assoc]

theorem State.reverseHit_iff {v r : Nat} {i : Int} : s.reverseHit u v r i = true ↔
    s.feedRuns u = true ∧ s.fst u = fON ∧ vdsUv v r i < -5000 := by
  simp [State.reverseHit, and_assoc]

theorem State.inputOut_iff {v : Nat} : s.inputOut u v = true ↔
    s.feedRuns u = true ∧ (s.fst u = fON ∨ s.fst u = fJOINING) ∧ s.vinIn u v = false := by
  simp [State.inputOut, and_assoc]

end

/-! ### A feed whose input has qualified (03_feeds.md R55) -/

@[simp] theorem State.fst_modFeed (s : State) (u : Nat) (f : FeedH → FeedH) (w : Nat) : (s.modFeed u f).fst w = s.fst w :=
  rfl

@[simp] theorem State.flag_modFeed (s : State) (u : Nat) (f : FeedH → FeedH) (g : Fld) (w : Nat) :
    (s.modFeed u f).flag g w = s.flag g w := rfl

/-- The input of the feed has qualified at `v` mV. -/
def State.qualify (s : State) (u v : Nat) : State := s.modFeed u (fun f => { f with vin := v, qualified := true })

theorem State.mayInsert_qualify {s : State} {u v n : Nat} (listed : u < s.feeds.length)
    (h : s.qualifies u v n = true) : (s.qualify u v).mayInsert u = true := by
  obtain ⟨_, waits, _, _, enabled, present, low⟩ := State.qualifies_iff.mp h
  simp [State.mayInsert, State.qualify, listed, waits, enabled, present, low]

theorem State.letIn_of_mate_off {s : State} {u : Nat} (may : s.mayInsert u = true)
    (off : feedConducts (s.fst (feedMate u)) = false) :
    s.letIn u = (s.modFeed u (fun f => { f with inrushFrom := s.now, rail := false })).toFeed u fINRUSH := by
  have codes : s.fst (feedMate u) ≠ fON ∧ s.fst (feedMate u) ≠ fLIMIT ∧ s.fst (feedMate u) ≠ fINRUSH
      ∧ s.fst (feedMate u) ≠ fJOINING := by
    refine ⟨?_, ?_, ?_, ?_⟩ <;> (intro code; rw [code] at off; cases off)
  obtain ⟨on, limit, inrush, joining⟩ := codes
  simp [State.letIn, may, on, limit, inrush, joining]

theorem State.letIn_of_mate_on {s : State} {u : Nat} (may : s.mayInsert u = true)
    (on : s.fst (feedMate u) = fON ∨ s.fst (feedMate u) = fLIMIT) : s.letIn u = s.toFeed u fJOINING := by
  simp [State.letIn, may, on]

theorem State.letIn_of_mate_starting {s : State} {u : Nat}
    (starts : s.fst (feedMate u) = fINRUSH ∨ s.fst (feedMate u) = fJOINING) : s.letIn u = s := by
  rcases starts with code | code <;> simp [State.letIn, code, fON, fLIMIT, fINRUSH, fJOINING]

theorem exec_feedInputQualified_of_admitted {u v n : Nat} {s : State} (h : s.qualifies u v n = true)
    (first : s.feedAQualifies u = false) (noCut : s.cutNow (feedMate u) = false) :
    exec (.feedInputQualified u v n) s = .next ((s.qualify u v).letIn u) := by
  have looked : ¬(s.feedAQualifies u || s.cutNow (feedMate u)) = true := by simp [first, noCut]
  change execFeedInputQualified u v n s = _
  rw [execFeedInputQualified, if_pos h]
  exact congrArg _ (if_neg looked)

/-- Feed A that qualifies in the same tick goes first, and one that starts already is waited for: the qualification is kept. -/
theorem exec_feedInputQualified_of_kept {u v n : Nat} {s : State} (h : s.qualifies u v n = true)
    (mate : s.feedAQualifies u = true ∨ s.fst (feedMate u) = fINRUSH ∨ s.fst (feedMate u) = fJOINING) :
    exec (.feedInputQualified u v n) s = .next (s.qualify u v) := by
  change execFeedInputQualified u v n s = _
  rw [execFeedInputQualified, if_pos h]
  refine congrArg _ ?_
  split
  next => rfl
  next looked =>
    have first : ¬s.feedAQualifies u = true := fun a => looked (by simp [a])
    exact State.letIn_of_mate_starting (s := s.qualify u v) (mate.resolve_left first)

/-- Settles O22: each event acts where its measurement meets the rule, and a qualified feed starts, joins or waits by the
state of its mate. -/
theorem feedInsertionEvents : Obligations.FeedInsertionEvents := by
  refine ⟨?starts, ?joins, ?waits, ?rail, ?enhanced, ?fullDrive, ?share, ?limit, ?limitExit, ?reload⟩
  case starts =>
    intro u v n s runs waits time inRange enabled present low sixteen first noCut off
    have h := State.qualifies_iff.mpr ⟨runs, waits, time, inRange, enabled, present, low⟩
    have listed : u < s.feeds.length := sixteen ▸ State.lt_of_feedRuns runs
    rw [exec_feedInputQualified_of_admitted h first noCut, State.letIn_of_mate_off (State.mayInsert_qualify listed h) off]
    rfl
  case joins =>
    intro u v n s runs waits time inRange enabled present low sixteen first noCut on
    have h := State.qualifies_iff.mpr ⟨runs, waits, time, inRange, enabled, present, low⟩
    have listed : u < s.feeds.length := sixteen ▸ State.lt_of_feedRuns runs
    rw [exec_feedInputQualified_of_admitted h first noCut, State.letIn_of_mate_on (State.mayInsert_qualify listed h) on]
    rfl
  case waits =>
    intro u v n s runs waits time inRange enabled present low mate
    exact exec_feedInputQualified_of_kept
      (State.qualifies_iff.mpr ⟨runs, waits, time, inRange, enabled, present, low⟩) mate
  case rail =>
    intro u v r s runs inrush below above
    exact if_pos (by simp [runs, inrush, below, above])
  case enhanced =>
    intro u v s runs inrush rail driven inTime noCut
    exact if_pos (by simp [runs, inrush, rail, driven, inTime, noCut])
  case fullDrive =>
    intro u i j s runs joining noCut
    exact if_pos (by simp [runs, joining, noCut])
  case share =>
    intro u i j s runs joining above below noCut
    have share := State.atShare_iff.mpr ⟨above, below⟩
    exact if_pos (by simp [runs, joining, share, noCut])
  case limit =>
    intro u v s runs limited reached
    exact if_pos (State.limitHit_iff.mpr ⟨runs, limited, reached⟩)
  case limitExit =>
    intro u n s runs limit time inTime noCut
    exact if_pos (by simp [runs, limit, time, State.faultTimeUp_eq_false inTime, noCut])
  case reload =>
    intro u s runs on time noCut
    exact if_pos (by simp [runs, on, time, noCut])

/-! ### Trips, blocks and latches (03_feeds.md R55, R62 to R65) -/

/-- Settles O23: the timers and the reverse block act where their conditions hold, and an input out of range blocks a feed that
conducts and ends the qualification of one that waits. -/
theorem feedTripEvents : Obligations.FeedTripEvents := by
  refine ⟨?faultTimer, ?inrush, ?reverse, ?outConducting, ?outWaiting, ?rejoin, ?lost, ?stuck⟩
  case faultTimer =>
    intro u m x s runs limit time
    exact if_pos (State.faultTimeUp_iff.mpr ⟨runs, limit, time⟩)
  case inrush =>
    intro u s runs inrush time
    exact if_pos (State.inrushTimeUp_iff.mpr ⟨runs, inrush, time⟩)
  case reverse =>
    intro u v s runs on below
    exact if_pos (State.reverseHit_iff.mpr ⟨runs, on, below⟩)
  case outConducting =>
    intro u v s runs conducts out
    exact if_pos (State.inputOut_iff.mpr ⟨runs, conducts, out⟩)
  case outWaiting =>
    intro u v s runs waits out
    have notOut : ¬s.inputOut u v = true := by
      simp [State.inputOut_iff, waits, fWAITING, fON, fJOINING]
    exact (if_neg notOut).trans (if_pos (by simp [runs, waits, out]))
  case rejoin =>
    intro u v r s runs blocked enabled above inRange noCut noMateCut
    exact if_pos (by simp [runs, blocked, enabled, above, inRange, noCut, noMateCut])
  case lost =>
    intro u v n s runs blocked out time
    exact if_pos (by simp [runs, blocked, out, time])
  case stuck =>
    intro u i s runs gateOff current time
    exact if_pos (by simpa [runs, current, time, or_assoc] using gateOff)

/-! ### The cooldown pin and the end of a stop (03_feeds.md R71 to R73) -/

theorem exec_cdlyCooldownEnd_of_cooling {u : Nat} {s : State} (runs : s.feedRuns u = true)
    (high : (s.feed u).cdlyHigh = true) (cools : s.fst u = fCOOLDOWN ∨ s.fst u = fINHERITED) :
    exec (.cdlyCooldownEnd u) s = .next
      ((s.modFeed u (fun f => { f with cdlyHigh := false, charging := false })).afterCooldown u) := by
  have falls : (s.feedRuns u && (s.feed u).cdlyHigh) = true := by simp [runs, high]
  have ends : (s.fst u == fCOOLDOWN || s.fst u == fINHERITED) = true := by simpa using cools
  exact (if_pos falls).trans (if_pos ends)

section

variable {u : Nat} {r : CdlyCharge} {s : State} (runs : s.feedRuns u = true) (tests : (s.feed u).testing = true)
include runs tests

theorem exec_cdlyTestCharge_of_pass (time : (s.feed u).testFrom + 5000000 ≤ s.now) (slow : 20000 ≤ r.riseNs)
    (charged : 400 ≤ r.at5Ms) :
    exec (.cdlyTestCharge u r) s = .next (
      let t := ((s.modFeed u (fun f => { f with testing := false })).set .FEED_STAT_CDLY_FAULT u 0).modFeed u
        (fun f => { f with cdlyHigh := true })
      (takeClear (0x38 + skeinOfFeed u) t).getD t) := by
  have ends : (s.feedRuns u && (s.feed u).testing
      && (decide (r.riseNs < 20000) || decide ((s.feed u).testFrom + 5000000 ≤ s.now))) = true := by
    simp [runs, tests, time]
  have passes : (decide (20000 ≤ r.riseNs) && decide (400 ≤ r.at5Ms)) = true := by simp [slow, charged]
  exact (if_pos ends).trans (if_pos passes)

theorem exec_cdlyTestCharge_of_fail
    (fails : r.riseNs < 20000 ∨ ((s.feed u).testFrom + 5000000 ≤ s.now ∧ r.at5Ms < 400)) :
    exec (.cdlyTestCharge u r) s = .next (s.modFeed u (fun f => { f with testing := false })) := by
  have ends : (s.feedRuns u && (s.feed u).testing
      && (decide (r.riseNs < 20000) || decide ((s.feed u).testFrom + 5000000 ≤ s.now))) = true := by
    simpa [runs, tests] using fails.imp_right And.left
  have failed : ¬(decide (20000 ≤ r.riseNs) && decide (400 ≤ r.at5Ms)) = true := by
    simp only [Bool.and_eq_true, decide_eq_true_eq]
    omega
  exact (if_pos ends).trans (if_neg failed)

end

theorem exec_feedStopped_of_stopped {u v : Nat} {s : State} (runs : s.feedRuns u = true)
    (stopping : s.fst u = fSTOPPING) (off : v < 1000) (time : (s.feed u).gateOff + 100000000 ≤ s.now) :
    exec (.feedStopped u v) s = if s.flag .FEED_STAT_DEFERRED u then
      .next (((s.set .FEED_CFG_EN u 1).toFeed u fWAITING).feedDeferredRan u) else .next (s.toFeed u fOFF) :=
  if_pos (by simp [runs, stopping, off, time])

/-- Settles O24: each check of the pin acts by its time, a test charge by both of its checks, and the end of a stop by whether
an enable was deferred. -/
theorem cooldownPinEvents : Obligations.CooldownPinEvents := by
  refine ⟨fun u s => exec_cdlyCooldownEnd_of_cooling, ?missing, ?shorted, fun u r s => exec_cdlyTestCharge_of_pass,
    fun u r s => exec_cdlyTestCharge_of_fail, ?stopped, ?deferred⟩
  case missing =>
    intro u s runs charges early
    exact if_pos (by simp [runs, charges, early])
  case shorted =>
    intro u s runs charges late
    exact if_pos (by simp [runs, charges, late])
  case stopped =>
    intro u v s runs stopping off time plain
    exact (exec_feedStopped_of_stopped runs stopping off time).trans (if_neg (Bool.eq_false_iff.mp plain))
  case deferred =>
    intro u v s runs stopping off time deferred
    exact (exec_feedStopped_of_stopped runs stopping off time).trans (if_pos deferred)

/-! ### The thermal model and the sensor (03_feeds.md R76 to R78) -/

theorem State.thermalUpdate_eq (s : State) (u : Nat) (x : FeedSense) :
    s.thermalUpdate u x =
      let t := (s.ladder u (s.pDs u x.vinMv x.railMv x.shuntUv)).tjWarn u
      if feedConducts (t.tripState u) = true ∧ (t.get .FEED_TLIM_TJ_TRIP u : Int) * 1000000000 ≤ (t.feed u).t1 then
        t.feedTrip u [1]
      else t := by
  simp only [State.thermalUpdate, Bool.and_eq_true, decide_eq_true_eq]

/-- What an update of a feed's data leaves as it was is read as before, also where the state does not list the feed. -/
theorem State.view_feed_modFeed {α : Type} (view : FeedH → α) {f : FeedH → FeedH} (keeps : ∀ x, view (f x) = view x)
    (s : State) (u w : Nat) : view ((s.modFeed u f).feed w) = view (s.feed w) := by
  by_cases other : u = w
  · subst other
    by_cases listed : u < s.feeds.length
    · rw [State.feed_modFeed_same f listed, keeps]
    · simp [State.feed, State.modFeed, List.modify_eq_self (Nat.le_of_not_lt listed)]
  · rw [State.feed_modFeed_other f other]

/-- The state a trip looks at, from what it depends on. -/
theorem State.tripState_congr {s t : State} {u : Nat} (tick : t.skTick = s.skTick)
    (tripped : (t.feed u).tripTick = (s.feed u).tripTick) (left : (t.feed u).tripFrom = (s.feed u).tripFrom)
    (now : t.fst u = s.fst u) : t.tripState u = s.tripState u := by
  rw [State.tripState, State.tripState, State.trippedNow, State.trippedNow, tick, tripped, left, now]

/-- The reading `r` of the sensor is stored in 0.1 °C. -/
def State.sensorStored (s : State) (u : Nat) (r : Int) : State := s.set .FEED_TJ_SENSOR u (ofInt 16 r)

theorem State.get_sensorStored (s : State) (u : Nat) (r : Int) {f : Fld} (h : .FEED_TJ_SENSOR ≠ f) :
    (s.sensorStored u r).get f u = s.get f u :=
  State.get_set_other s _ (fun same => h same.1)

/-- The reading `r` of the sensor, in 0.1 °C, corrects T3. -/
def FeedH.fuse (r : Int) (f : FeedH) : FeedH := { f with t3 := f.t3 + (r * 100000000 - f.t3) / 16 }

/-- The correction of T3 in the data of the feed. -/
def State.sensorFused (s : State) (u : Nat) (r : Int) : State := s.modFeed u (FeedH.fuse r)

theorem State.tripState_sensorFused (s : State) (u : Nat) (r : Int) :
    ((s.sensorStored u r).sensorFused u r).tripState u = s.tripState u :=
  State.tripState_congr rfl (State.view_feed_modFeed (f := FeedH.fuse r) FeedH.tripTick (fun _ => rfl) ..)
    (State.view_feed_modFeed (f := FeedH.fuse r) FeedH.tripFrom (fun _ => rfl) ..) (s.get_sensorStored u r (by decide))

section

variable {u x : Nat} {s : State} (fitted : s.get .FEED_CFG_TS_TYPE u = 1 ∨ s.get .FEED_CFG_TS_TYPE u = 2)
include fitted

theorem State.sensorRead_of_failed (failed : s.flag .FEED_STAT_TS_FAULT u = true) :
    s.sensorRead u x = s.sensorStored u (s.sensorTenths u x) := by
  have reads : (s.get .FEED_CFG_TS_TYPE u == 1 || s.get .FEED_CFG_TS_TYPE u == 2) = true := by simpa using fitted
  have mark : (s.sensorStored u (s.sensorTenths u x)).flag .FEED_STAT_TS_FAULT u = true := by
    rw [State.flag, State.get_sensorStored _ _ _ (by decide)]
    exact failed
  exact (if_pos reads).trans (if_pos mark)

theorem State.sensorRead_of_working (works : s.flag .FEED_STAT_TS_FAULT u = false) :
    s.sensorRead u x =
      let r := s.sensorTenths u x
      let t := s.sensorStored u r
      if r < -500 ∨ 2000 < r then (t.set .FEED_STAT_TS_FAULT u 1).raiseFeedFault u 7
      else if feedConducts (s.tripState u) = true ∧ (10 * s.get .FEED_TLIM_TS_TRIP u : Nat) ≤ r then
        (t.sensorFused u r).feedTrip u [2]
      else t.sensorFused u r := by
  have reads : (s.get .FEED_CFG_TS_TYPE u == 1 || s.get .FEED_CFG_TS_TYPE u == 2) = true := by simpa using fitted
  have mark : ¬(s.sensorStored u (s.sensorTenths u x)).flag .FEED_STAT_TS_FAULT u = true := by
    rw [State.flag, State.get_sensorStored _ _ _ (by decide)]
    exact Bool.eq_false_iff.mp works
  have limit : ((s.sensorStored u (s.sensorTenths u x)).sensorFused u (s.sensorTenths u x)).get .FEED_TLIM_TS_TRIP u
      = s.get .FEED_TLIM_TS_TRIP u := s.get_sensorStored u _ (by decide)
  refine ((if_pos reads).trans (if_neg mark)).trans ?_
  rw [← State.tripState_sensorFused s u (s.sensorTenths u x), ← limit]
  simp only [Bool.or_eq_true, Bool.and_eq_true, decide_eq_true_eq]
  rfl

end

/-! ### The end of a settle window (03_feeds.md R68, R70) -/

theorem exec_powerGoodSettled_of_due {k t : Nat} {s : State} (skein : k < 8) (settles : (s.skein k).settleFrom = some t)
    (due : t + 2000000 ≤ s.now) (good : s.pgOk k = true) (noCut : (skeinFeeds k).any s.cutNow = false) :
    exec (.powerGoodSettled k) s = .next ((((s.set .SKN_STAT_PG k 1).set .SKN_STAT_SETTLING k 0).modSkein k
      (fun x => { x with settleFrom := none })).skeinEvent k 1) := by
  change execPowerGoodSettled k s = _
  have complete : (decide (k < 8) && decide (t + 2000000 ≤ s.now) && s.pgOk k && !(skeinFeeds k).any s.cutNow) = true := by
    simp only [skein, due, good, noCut, decide_true, Bool.and_self, Bool.not_false]
  simp only [execPowerGoodSettled, settles, complete, if_true]

/-- Settles O25: the thermal update and the sensor by their lemmas, a sample and the end of a window as the model runs them,
and the share limit and power-good by their times. -/
theorem feedMeasurementEvents : Obligations.FeedMeasurementEvents := by
  refine ⟨?thermal, ?failedSensor, ?sensor, ?sample, ?limitSet, ?limitClear,
    fun k t s => exec_powerGoodSettled_of_due, ?windowEnd⟩
  case thermal =>
    intro u v i s runs
    exact (if_pos runs).trans (congrArg _ (s.thermalUpdate_eq u { v with shuntUv := i }))
  case failedSensor =>
    intro u x s runs fitted failed
    exact (if_pos runs).trans (congrArg _ (State.sensorRead_of_failed fitted failed))
  case sensor =>
    intro u x s runs fitted works
    exact (if_pos runs).trans (congrArg _ (State.sensorRead_of_working fitted works))
  case sample =>
    intro u v r g sh c s runs
    refine (if_pos runs).trans ?_
    simp only [Bool.or_eq_true, beq_iff_eq]
    rfl
  case limitSet =>
    intro u n s runs shares time clear
    exact if_pos (by simp [runs, shares, time, clear])
  case limitClear =>
    intro u n s runs time
    exact if_pos (by simp [runs, time])
  case windowEnd =>
    rintro e s rfl due
    exact congrArg _ (if_neg (Nat.not_lt.mpr due))

end Sys2Proof.Machine
end

section
/-! PROOFS. The events of a port's switch, of its measurements and of the skein's budget (04_port_power.md R80 to R103,
18_electrical.md R400). -/

namespace Sys2Proof.Machine

/-! ### The allocation pass and the shed hold and caps (04_port_power.md R97, R99, R101) -/

theorem exec_shedHoldEnd_of_due {k t : Nat} {s : State} (holds : (s.skein k).shedHold = some t) (due : t ≤ s.now) :
    exec (.shedHoldEnd k) s = .next (s.set .SKN_BSTAT_SHED_HOLD k 0) := by
  change execShedHoldEnd k s = _
  rw [execShedHoldEnd, holds]
  exact if_pos due

/-- One cap step of port `n` is removed: the cap rises by one level, and the one that reaches 3 A ends. -/
def State.capRaised (s : State) (n : Nat) : State :=
  let c := ((s.port n).cap).getD 3 + 1
  s.modPort n (fun x => { x with cap := if c < 3 then some c else none })

theorem exec_shedCapRestore_of_due {k t n : Nat} {s : State} (counts : (s.skein k).headroom = some t)
    (capped : s.capPort k = some n) (free : s.skHeld k = false) (due : t + 1000000000 ≤ (s.skein k).window)
    (tested : (s.skein k).headStep = s.capStep n) :
    exec (.shedCapRestore k) s = .next (
      let t := (s.capRaised n).modSkein k (fun x => { x with headroom := none })
      let lvl := t.levelOf n (t.port n).grant
      (t.decideRp n lvl).setB .PWR_STAT_SHED n (lvl < rpCode (t.port n).grant)) := by
  have acts : ¬(s.skHeld k || decide ((s.skein k).window < t + 1000000000) || (s.skein k).headStep != s.capStep n) = true := by
    simp [free, due, tested]
  change execShedCapRestore k s = _
  rw [execShedCapRestore, counts, capped]
  exact if_neg acts

/-- Settles O27: a pass runs where it is due, and the hold and the headroom end at their times. -/
theorem skeinBudgetEvents : Obligations.SkeinBudgetEvents := by
  refine ⟨?pass, fun k t s => exec_shedHoldEnd_of_due, fun k t n s => exec_shedCapRestore_of_due⟩
  intro k s skein powered due free noCut
  exact if_pos (by simp [skein, powered, due, free, noCut])

/-! ### When a measurement of a port meets the condition of its rule (04_port_power.md R80 to R86) -/

section

variable {s : State} {n : Nat}

theorem State.ssTimeUp_iff : s.ssTimeUp n = true ↔
    s.portRuns n = true ∧ s.tripFrom n = 2
      ∧ ((s.port n).ssFrom + 10000000) * s.get .PWR_LIMIT_SLEW n + 20000 * s.get .SKN_CFG_VNOM (skeinOfPort n)
        ≤ s.now * s.get .PWR_LIMIT_SLEW n := by
  simp [State.ssTimeUp, and_assoc]

theorem State.portLimitHit_iff {i : Int} : s.portLimitHit n i = true ↔
    s.portRuns n = true ∧ (s.pwr n = 2 ∨ s.pwr n = 3) ∧ (s.effLimit n : Int) ≤ i := by
  simp [State.portLimitHit, and_assoc]

theorem State.portTimeUp_iff : s.portTimeUp n = true ↔
    s.portRuns n = true ∧ s.tripFrom n = 4 ∧ (s.port n).limitFrom + 500000 * s.get .PWR_LIMIT_FTIME n ≤ s.now := by
  simp [State.portTimeUp, and_assoc]

theorem State.portTimeUp_eq_false (inTime : s.now < (s.port n).limitFrom + 500000 * s.get .PWR_LIMIT_FTIME n) :
    s.portTimeUp n = false := by
  rw [Bool.eq_false_iff, ne_eq, State.portTimeUp_iff]
  rintro ⟨_, _, late⟩
  exact Nat.not_le.mpr inTime late

theorem State.shortHit_iff {i : Int} : s.shortHit n i = true ↔
    s.portRuns n = true ∧ conducting (s.tripFrom n) = true ∧ 7000 ≤ i := by
  simp [State.shortHit, and_assoc]

theorem State.portSensorHit_iff (runs : s.portRuns n = true) {r : Int} : s.portSensorHit n r = true ↔
    conducting (s.tripFrom n) = true ∧ 1600 ≤ r := by
  simp [State.portSensorHit, runs]

theorem State.portModelHit_iff (runs : s.portRuns n = true) {i sub : Int} : s.portModelHit n i sub = true ↔
    conducting (s.tripFrom n) = true ∧ 1500 ≤ s.prediction n i sub := by
  simp [State.portModelHit, runs]

theorem State.portReverseHit_iff {v r : Nat} : s.portReverseHit n v r = true ↔
    s.portRuns n = true ∧ (s.pwr n = 3 ∧ r + 20 ≤ v ∨ conducting (s.pwr n) = true ∧ 6000 < v)
      ∧ s.flag .PWR_STAT_BLOCKED n = false := by
  simp [State.portReverseHit, and_assoc]

end

/-! ### The switch (04_port_power.md R81 to R88) -/

theorem exec_portLimitExit_of_recovered {n b : Nat} {s : State} (runs : s.portRuns n = true) (limited : s.pwr n = 4)
    (time : 1000000 ≤ b) (inTime : s.now < (s.port n).limitFrom + 500000 * s.get .PWR_LIMIT_FTIME n) :
    exec (.portLimitExit n b) s =
      .next (if (s.port n).prev = 2 then s.set .PWR_STAT_STATE n 2 else s.toPower n 3) := by
  have leaves : (s.portRuns n && s.pwr n == 4 && decide (1000000 ≤ b) && !s.portTimeUp n) = true := by
    simp [runs, limited, time, State.portTimeUp_eq_false inTime]
  change execPortLimitExit n b s = _
  rw [execPortLimitExit, if_pos leaves, apply_ite Host.Outcome.next]
  simp only [beq_iff_eq]

/-- Settles O28: each event acts where its measurement and its time meet the rule. -/
theorem portSwitchEvents : Obligations.PortSwitchEvents := by
  refine ⟨?softStart, ?ssTimeout, ?limit, fun n b s => exec_portLimitExit_of_recovered, ?faultTimer, ?short, ?discharged,
    ?disconnect, ?retryTime, ?retryEnd, ?reload, ?stuck⟩
  case softStart =>
    intro n v r s runs starts below above inTime noCut
    exact if_pos (by simp [runs, starts, below, above, inTime, noCut])
  case ssTimeout =>
    intro n s runs starts late
    exact if_pos (State.ssTimeUp_iff.mpr ⟨runs, starts, late⟩)
  case limit =>
    intro n i s runs limited reached
    exact if_pos (State.portLimitHit_iff.mpr ⟨runs, limited, reached⟩)
  case faultTimer =>
    intro n i r x s runs limited late
    exact if_pos (State.portTimeUp_iff.mpr ⟨runs, limited, late⟩)
  case short =>
    intro n i s runs conducts reached
    exact congrArg _ (if_pos (State.shortHit_iff.mpr ⟨runs, conducts, reached⟩))
  case discharged =>
    intro n v s runs discharges low time
    exact if_pos (by simp [runs, discharges, low, time])
  case disconnect =>
    intro n b s runs time off
    exact if_pos (by simp [runs, time, off])
  case retryTime =>
    intro n s runs retries time
    exact if_pos (by simp [runs, retries, time])
  case retryEnd =>
    intro n v s runs retries expired low time cool
    exact if_pos (by simpa [runs, retries, expired, low, time] using cool)
  case reload =>
    intro n s runs on time noCut
    exact if_pos (by simp [runs, on, time, noCut])
  case stuck =>
    intro n i s runs off current time
    exact if_pos (by simpa [runs, current, time, or_assoc] using off)

/-! ### The junction sensor and the thermal model of a port (04_port_power.md R86, R87) -/

@[simp] theorem State.portLoss_set (s : State) (f : Fld) (u v n : Nat) (i sub : Int) :
    (s.set f u v).portLoss n i sub = s.portLoss n i sub := rfl

section

variable {s : State} {n : Nat} (runs : s.portRuns n = true)
include runs

theorem State.portSensor_of_runs (r : Int) :
    s.portSensor n r =
      let t := (s.set .PWR_TJ_SENSOR n (ofInt 16 r)).stressReading n r
      if conducting (s.tripFrom n) = true ∧ 1600 ≤ r then t.portTrip n [2] else t := by
  simp only [State.portSensor, State.portSensorHit_iff runs]

theorem State.portModel_of_runs (h : PortHeat) :
    s.portModel n h =
      let w := s.portLoss n h.iMa h.substrate
      let r := s.prediction n h.iMa h.substrate
      let t := (s.set .PWR_TJ_MODEL n (ofInt 16 r)).modPort n (fun x => { x with poles := polesStep w x.poles })
      if conducting (s.tripFrom n) = true ∧ 1500 ≤ r then t.portTrip n [3] else t := by
  simp only [State.portModel, State.portModelHit_iff runs, State.portLoss_set]

end

/-! ### Reverse block and back-feed (04_port_power.md R83, 18_electrical.md R400) -/

/-- The reverse block opens the switch of port `n`. -/
def State.reverseOpened (s : State) (n : Nat) : State :=
  ((s.modPort n (fun x => { x with cutTick := some s.skTick })).set .PWR_STAT_BLOCKED n 1).powerMoved n 3

theorem exec_portReverseBlock_of_runs {s : State} {n : Nat} (runs : s.portRuns n = true) (v r : Nat) :
    exec (.portReverseBlock n v r) s = .next (
      let on := s.portReverseHit n v r
      let fed := decide (6000 < v) && !(s.port n).backfeed
      let t := if on then s.reverseOpened n else s
      let t := if fed then t.modPort n (fun x => { x with backfeed := true }) else t
      if on || fed then t.powerEvent n 6 else t) := by
  have acts : ¬(!s.portRuns n) = true := by simp [runs]
  exact if_neg acts

theorem exec_vbusBackfeedClear_of_fed {s : State} {n b : Nat} (runs : s.portRuns n = true) (time : 1000000 ≤ b)
    (fed : (s.port n).backfeed = true) :
    exec (.vbusBackfeedClear n b) s = .next (
      let t := s.modPort n (fun x => { x with backfeed := false })
      if s.pwr n = 1 ∧ t.powerRequest n = true ∧ t.feedsReady (skeinOfPort n) = true then t.toPower n 2
      else t.evalPower n) := by
  have clears : (s.portRuns n && (s.port n).backfeed && decide (1000000 ≤ b)) = true := by simp [runs, fed, time]
  refine (if_pos clears).trans ?_
  simp only [Bool.and_eq_true, beq_iff_eq, and_assoc]
  rfl

/-! ### Advertisement and compliance (04_port_power.md R94, R102) -/

theorem State.setRp_now (s : State) (n c : Nat) : (s.setRp n c).now = s.now := by
  rw [State.setRp]
  split <;> rfl

theorem exec_rpLevelApplied_of_decided {s : State} {n c : Nat} (decided : (s.port n).nextRp = some c)
    (runs : s.portRuns n = true) (free : s.skHeld (skeinOfPort n) = false) (noCut : s.portCutNow n = false)
    (inRange : (s.port n).ccOver = false) :
    exec (.rpLevelApplied n) s =
      let old := s.get .PWR_STAT_RP_ADV n
      let t := (s.setRp n c).modPort n (fun x => { x with nextRp := none })
      if c < old then .next (t.modPort n (fun x => { x with tc := some s.now, checked := false }))
      else if old < c then
        .next ((t.modPort n (fun x => { x with tc := none, imposed := none })).set .PWR_STAT_SINK_LIMITED n 0)
      else .next t := by
  have acts : ¬(!s.portRuns n || s.skHeld (skeinOfPort n) || s.portCutNow n || (s.port n).ccOver) = true := by
    simp [runs, free, noCut, inRange]
  -- The command reads the time after the level is set, the statement before.
  rw [← s.setRp_now n c]
  change execRpLevelApplied n s = _
  rw [execRpLevelApplied, decided]
  exact if_neg acts

section

variable {s : State} {n t : Nat} (lowered : (s.port n).tc = some t) (runs : s.portRuns n = true)
include lowered runs

theorem exec_complianceCheck_of_due (first : (s.port n).checked = false) (late : t + 61000000 ≤ (s.port n).winEnd)
    (early : (s.port n).winEnd < t + 62000000) :
    exec (.complianceCheck n) s = .next (
      let u := s.modPort n (fun x => { x with checked := true })
      if (rpThreshold (s.get .PWR_STAT_RP_ADV n) : Int) < (s.port n).iWin then
        (u.count .PWR_NONCOMPLY_CNT n).powerEvent n 7
      else u) := by
  have checks : ¬(!s.portRuns n || (s.port n).checked || decide ((s.port n).winEnd < t + 61000000)
      || decide (t + 62000000 ≤ (s.port n).winEnd)) = true := by
    simp [runs, first, late, early]
  change execComplianceCheck n s = _
  simp only [execComplianceCheck, lowered, if_neg checks]
  exact (apply_ite Host.Outcome.next ..).symm

theorem exec_sinkLimitImposed_of_due (free : s.skHeld (skeinOfPort n) = false) (due : t + 100000000 ≤ s.now)
    (last : t + 99000000 < (s.port n).winEnd) (complete : (s.port n).winEnd ≤ t + 100000000) :
    exec (.sinkLimitImposed n) s = .next (
      let thr := rpThreshold (s.get .PWR_STAT_RP_ADV n)
      let u := s.modPort n (fun x => { x with tc := none })
      if (thr : Int) < (s.port n).iWin then
        ((u.modPort n (fun x => { x with imposed := some thr })).set .PWR_STAT_SINK_LIMITED n 1).powerEvent n 8
      else u) := by
  have decides : ¬(!s.portRuns n || s.skHeld (skeinOfPort n) || decide (s.now < t + 100000000)
      || decide (t + 100000000 < (s.port n).winEnd) || decide ((s.port n).winEnd ≤ t + 99000000)) = true := by
    simp [runs, free, due, last, complete]
  change execSinkLimitImposed n s = _
  simp only [execSinkLimitImposed, lowered, if_neg decides]
  exact (apply_ite Host.Outcome.next ..).symm

end

/-- Settles O29: a reading of a port that runs trips it at its limit; a reverse voltage blocks the switch, feeds it back or
both; a decided level is a lowering or a raise, and its checks run at their windows. -/
theorem portMeasurementEvents : Obligations.PortMeasurementEvents := by
  refine ⟨?sensor, ?model, ?reverse, ?reverseFed, ?fed, ?release, fun n b s => exec_vbusBackfeedClear_of_fed, ?sample,
    ?lowered, ?raised, fun n t s => exec_complianceCheck_of_due, fun n t s => exec_sinkLimitImposed_of_due, ?ccAbove,
    ?ccBelow⟩
  case sensor =>
    intro n r s runs
    exact (if_pos runs).trans (congrArg _ (State.portSensor_of_runs runs r))
  case model =>
    intro n h s runs
    exact (if_pos runs).trans (congrArg _ (State.portModel_of_runs runs h))
  case reverse =>
    intro n v r s runs on above unblocked inRange
    have hit := State.portReverseHit_iff.mpr ⟨runs, .inl ⟨on, above⟩, unblocked⟩
    have notFed : ¬6000 < v := Nat.not_lt.mpr inRange
    simp [exec_portReverseBlock_of_runs runs, hit, notFed, State.reverseOpened]
  case reverseFed =>
    intro n v r s runs conducts unblocked first above
    have hit : s.portReverseHit n v r = true := State.portReverseHit_iff.mpr ⟨runs, .inr ⟨conducts, above⟩, unblocked⟩
    simp [exec_portReverseBlock_of_runs runs, hit, above, first, State.reverseOpened]
  case fed =>
    intro n v r s runs off first above
    have noHit : s.portReverseHit n v r = false := by
      rw [Bool.eq_false_iff, ne_eq, State.portReverseHit_iff]
      rintro ⟨_, ⟨on, _⟩ | ⟨conducts, _⟩, _⟩
      · exact absurd (on ▸ off) (by decide)
      · exact Bool.eq_false_iff.mp off conducts
    simp [exec_portReverseBlock_of_runs runs, noHit, above, first]
  case release =>
    intro n v r t s runs conducts below time
    exact if_pos (by simp [runs, conducts, below, time])
  case sample =>
    intro n v i s runs
    exact if_pos runs
  case lowered =>
    intro n c s decided runs free noCut inRange lower
    exact (exec_rpLevelApplied_of_decided decided runs free noCut inRange).trans (if_pos lower)
  case raised =>
    intro n c s decided runs free noCut inRange higher
    exact (exec_rpLevelApplied_of_decided decided runs free noCut inRange).trans
      ((if_neg (Nat.lt_asymm higher)).trans (if_pos higher))
  case ccAbove =>
    intro n v b s runs above
    exact (if_neg (by simp [runs])).trans (if_pos above)
  case ccBelow =>
    intro n v b s runs below time
    exact (if_neg (by simp [runs])).trans ((if_neg (Nat.not_lt.mpr below)).trans (if_pos time))

end Sys2Proof.Machine
end

section
/-! PROOFS. The events of attach and detach, of the tadpole window, of a mode change and of the upstream connection
(05_port_lifecycle.md R110 to R123). -/

namespace Sys2Proof.Machine

/-! ### What waits for domains that are ON (13_power_domains.md R307, R310) -/

theorem State.wakeFor_of_on {s : State} {ds : List Nat} (on : ds.all s.domOn = true) (cause : Nat) :
    s.wakeFor ds cause = (ds.foldl State.touch s, true) :=
  if_pos on

theorem State.wakeBy_of_on {s : State} {ds : List Nat} (on : ds.all s.domOn = true) (bitNo : Nat) :
    s.wakeBy bitNo ds = (ds.foldl State.touch s, true) :=
  (if_pos (by simp [on])).trans (State.wakeFor_of_on on 3)

@[simp] theorem State.touch_u2 (s : State) (d : Nat) : (s.touch d).u2 = s.u2 :=
  Laws.touch_get s d 0 (by decide)

/-! ### Attach and detach (05_port_lifecycle.md R114 to R116) -/

section

variable {s : State} {n : Nat}

theorem State.detaches_typecDetach_iff {t : Nat} : s.detaches n (.typecDetach n t) = true ↔
    s.portSenses n = true ∧ s.typeA n = false
      ∧ (s.get .PORT_DET_DET n = 2 ∨ s.get .PORT_DET_DET n = 3 ∨ s.get .PORT_DET_DET n = 4)
      ∧ 10000000 ≤ t ∧ s.ccBlind n = false := by
  simp [State.detaches, and_assoc, or_assoc]

theorem State.detaches_typeaDetach_iff {t : Nat} : s.detaches n (.typeaDetach n t) = true ↔
    s.portSenses n = true ∧ s.typeA n = true
      ∧ (s.get .PORT_DET_DET n = 6 ∧ 10000000 ≤ t ∨ s.get .PORT_DET_DET n = 5 ∧ 5000000000 ≤ t) := by
  simp [State.detaches, and_assoc]

section

variable (senses : s.portSenses n = true) (typeC : s.typeA n = false) (sees : s.ccBlind n = false)
include senses typeC sees

/-- An unattached Type-C port that sees its CC pins starts, keeps, restarts or ends its window by the pattern. -/
theorem exec_ccSample_of_sensed (p : CcPat) :
    exec (.ccSample n p) s =
      if s.get .PORT_DET_DET n = 0 then
        if p.attaches = true then .next (s.startDebounce n (fun x => { x with pattern := p })) else .next s
      else if s.get .PORT_DET_DET n = 1 then
        if p = (s.port n).pattern then .next s
        else if p.attaches = true then .next (s.startDebounce n (fun x => { x with pattern := p }))
        else .next ((s.set .PORT_DET_DET n 0).setAtt n 1)
      else .next s := by
  have acts : ¬(!s.portSenses n || s.typeA n || s.ccBlind n) = true := by simp [senses, typeC, sees]
  refine (if_neg acts).trans ?_
  simp only [beq_iff_eq]

theorem exec_typecDebounceComplete_of_due (waits : s.get .PORT_DET_DET n = 1)
    (due : (s.port n).debFrom + 120000000 ≤ s.now) :
    exec (.typecDebounceComplete n) s =
      match (s.port n).pattern with
      | .sink cc2 => .next (s.attach n 2 cc2)
      | .audioAcc => .next (s.attach n 3 false)
      | .debugAcc => .next (s.attach n 4 false)
      | .opened | .other => .next s :=
  if_pos (by simp [senses, typeC, sees, waits, due])

end

section

variable (senses : s.portSenses n = true) (typeA : s.typeA n = true)
include senses typeA

theorem exec_typeaDetect_of_current {i : Int} (free : s.get .PORT_DET_DET n = 0) (current : 50 ≤ i) (l : Bool) :
    exec (.typeaDetect n i l) s =
      .next (s.startDebounce n (fun p => { p with debLine := l && 2 ≤ s.mode n, debCur := true })) := by
  have acts : ¬(!s.portSenses n || !s.typeA n) = true := by simp [senses, typeA]
  refine (if_neg acts).trans ((if_pos (beq_iff_eq.mpr free)).trans ?_)
  simp [current]

theorem exec_typeaDetect_of_gone {i : Int} (waits : s.get .PORT_DET_DET n = 1) (current : i < 50) :
    exec (.typeaDetect n i false) s = .next ((s.set .PORT_DET_DET n 0).setAtt n 1) := by
  have acts : ¬(!s.portSenses n || !s.typeA n) = true := by simp [senses, typeA]
  change execTypeaDetect n i false s = _
  rw [execTypeaDetect, if_neg acts]
  simp [waits, Int.not_le.mpr current]

end

end

/-- Settles O30: a Type-C port acts by its pattern, a Type-A port by its current and its line, and a detach by the time its
pin has read open. -/
theorem attachEvents : Obligations.AttachEvents := by
  refine ⟨?start, ?ends, ?sink, ?debugAcc, ?audioAcc, fun n i l s senses typeA free current =>
    exec_typeaDetect_of_current senses typeA free current l, ?typeaEnds, ?typeaAttach, ?typecDetach, ?typeaDetach, ?pullup⟩
  case start =>
    intro n p s senses typeC sees free attaches
    rw [exec_ccSample_of_sensed senses typeC sees, if_pos free, if_pos attaches]
  case ends =>
    intro n p s senses typeC sees waits differs gone
    rw [exec_ccSample_of_sensed senses typeC sees, if_neg (by rw [waits]; decide), if_pos waits, if_neg differs,
      if_neg (Bool.eq_false_iff.mp gone)]
  case sink =>
    intro n c s senses typeC sees waits due seen
    rw [exec_typecDebounceComplete_of_due senses typeC sees waits due, seen]
  case debugAcc =>
    intro n s senses typeC sees waits due seen
    rw [exec_typecDebounceComplete_of_due senses typeC sees waits due, seen]
  case audioAcc =>
    intro n s senses typeC sees waits due seen
    rw [exec_typecDebounceComplete_of_due senses typeC sees waits due, seen]
  case typeaEnds =>
    rintro n i _ s senses typeA waits current rfl
    exact exec_typeaDetect_of_gone senses typeA waits current
  case typeaAttach =>
    intro n s senses typeA waits due
    exact if_pos (by simp [senses, typeA, waits, due])
  case typecDetach =>
    intro n t s senses typeC attached time sees
    exact if_pos (State.detaches_typecDetach_iff.mpr ⟨senses, typeC, attached, time, sees⟩)
  case typeaDetach =>
    intro n t s senses typeA gone
    exact if_pos (State.detaches_typeaDetach_iff.mpr ⟨senses, typeA, gone⟩)
  case pullup =>
    intro n s senses typeA byCurrent data
    exact if_pos (by simp [senses, typeA, byCurrent, data])

/-! ### The tadpole window (05_port_lifecycle.md R117, R118) -/

/-- The qualify window of port `n` is complete; in this tick the port is in `ON`, is not blocked and does not trip. -/
def State.qualifyDone (s : State) (n : Nat) : Bool :=
  s.portSenses n && s.att n == 5 && s.pwr n == 3 && !s.flag .PWR_STAT_BLOCKED n
    && (s.port n).qualFrom + 1000000 * (s.port n).qualMs ≤ s.dt && !s.portCutNow n

theorem State.qualifyDone_iff {s : State} {n : Nat} : s.qualifyDone n = true ↔
    s.portSenses n = true ∧ s.att n = 5 ∧ s.pwr n = 3 ∧ s.flag .PWR_STAT_BLOCKED n = false
      ∧ (s.port n).qualFrom + 1000000 * (s.port n).qualMs ≤ s.dt ∧ s.portCutNow n = false := by
  simp [State.qualifyDone, and_assoc]

section

variable {s : State} {n : Nat} (done : s.qualifyDone n = true)
include done

theorem exec_qualifyComplete_of_chargeOnly (mode : s.mode n = 1) :
    exec (.qualifyComplete n) s = .next ((s.setAtt n 9).noteTadpole n) :=
  (if_pos done).trans (if_pos (beq_iff_eq.mpr mode))

theorem exec_qualifyComplete_of_transparent (mode : s.mode n = 2) (noHold : s.safeHold = false)
    (unfenced : s.domFenced (dPHY (groupOfPort n)) = false) (on : [dPHY (groupOfPort n), dHUB].all s.domOn = true) :
    exec (.qualifyComplete n) s = .next (
      let t := (s.touch (dPHY (groupOfPort n))).touch dHUB
      (t.reconnect n (fun p => { p with gate := true, pullup := false })).present n (n + 1)) := by
  refine (if_pos done).trans ?_
  simp only [mode, noHold, unfenced, State.wakeBy_of_on on]
  rfl

theorem exec_qualifyComplete_of_terminated {j : Nat} (mode : s.mode n = 3)
    (unfenced : s.domFenced (dPHY (groupOfPort n)) = false) (served : s.serving n = some j)
    (on : [dDRAM, dPHY (groupOfPort n), dSH j].all s.domOn = true) :
    exec (.qualifyComplete n) s =
      .next ((((s.touch dDRAM).touch (dPHY (groupOfPort n))).touch (dSH j)).startEnum n) := by
  refine (if_pos done).trans ?_
  simp only [mode, unfenced, served, State.wakeBy_of_on on]
  rfl

end

/-! ### The end of a mode change (05_port_lifecycle.md R112, R113) -/

theorem exec_modeChangeComplete_of_done {s : State} {n : Nat} (port : n < 96)
    (changing : s.flag .PORT_LIFE_CHANGING n = true) (detached : (s.port n).detaching = false)
    (power : (s.port n).cycled = false ∨ conducting (s.pwr n) = true
      ∨ (s.port n).cycling = false ∧ s.powerRequest n = false)
    (domains : s.mode n ≠ 3 ∨ s.domOn dDRAM = true ∧ s.domOn (dPHY (groupOfPort n)) = true
      ∧ ∀ j, s.serving n = some j → s.domOn (dSH j) = true) :
    exec (.modeChangeComplete n) s = .next ((s.finishMode n).answerUnlock) := by
  refine if_pos ?_
  simpa [port, changing, detached, Option.all_eq_true, or_assoc, and_assoc] using And.intro power domains

/-! ### The upstream connection (05_port_lifecycle.md R122, R123) -/

theorem exec_upstreamConnect_of_permitted {s : State} (ready : s.ready = true) (permit : s.flag .AON_CONN_PERMIT = true)
    (vbus : s.flag .AON_CONN_VBUS_OK = true) (noHoldoff : s.flag .AON_CONN_HOLDOFF = false)
    (lacks : s.up.applied = false ∨ s.up.ssApplied = false) (unfencedLoom : s.domFenced dLOOM = false)
    (unfencedHub : s.domFenced dHUB = false) (on : [dLOOM, dHUB].all s.domOn = true) (detached : s.u2 = 0) :
    exec .upstreamConnect s = .next (
      let t := (s.touch dLOOM).touch dHUB
      (({ t with up := { t.up with applied := true, ssApplied := true } } : State).set
        .HUBS_STAT_U2_STATE 0 1).settleDomains) := by
  have acts : (s.ready && s.flag .AON_CONN_PERMIT && s.flag .AON_CONN_VBUS_OK && !s.flag .AON_CONN_HOLDOFF
      && !(s.up.applied && s.up.ssApplied)) = true := by
    simpa [ready, permit, vbus, noHoldoff, ← Bool.not_eq_true, ← not_and_or] using lacks
  have wakes : s.wakeFor ((if s.domFenced dLOOM then [] else [dLOOM]) ++ (if s.domFenced dHUB then [] else [dHUB]))
      = ((s.touch dLOOM).touch dHUB, true) := by
    simpa [unfencedLoom, unfencedHub] using State.wakeFor_of_on on 3
  have connects : (((s.touch dLOOM).touch dHUB).u2 == 0
      && (((s.touch dLOOM).touch dHUB).up.applied || !s.domFenced dHUB)) = true := by
    simp [detached, unfencedHub]
  refine (if_pos acts).trans ?_
  rw [wakes]
  refine (if_neg (by simp)).trans ?_
  refine (congrArg (fun t : State => Host.Outcome.next t.settleDomains) (if_pos connects)).trans ?_
  simp only [unfencedLoom, unfencedHub, Bool.not_false, Bool.or_true]

theorem exec_disconnectHoldoffEnd_of_due {s : State} {t : Nat} (held : s.up.holdUntil = some t) (due : t ≤ s.dt) :
    exec .disconnectHoldoffEnd s = .next (
      let u := s.markRun s.up.deferBy
      let u := ({ u with up := { u.up with holdUntil := none, deferred := false, deferBy := none } } : State).set
        .AON_CONN_HOLDOFF 0 0
      if s.up.deferred then (u.set .AON_CONN_PERMIT 0 1).settleDomains else u) := by
  change execDisconnectHoldoffEnd s = _
  rw [execDisconnectHoldoffEnd, held]
  exact if_pos due

/-- Settles O31: a qualified port acts by its mode, a logical detach and a mode change complete where nothing is left to
wait for, and the upstream connection follows its VBUS, its permission and its hold-off. -/
theorem presentationEvents : Obligations.PresentationEvents := by
  refine ⟨?chargeOnly, ?transparent, ?terminated, ?detach, ?mode, ?modeDomains, ?modePower, ?vbus, ?connect, ?noVbus,
    fun t s => exec_disconnectHoldoffEnd_of_due⟩
  case chargeOnly =>
    intro n s senses window on unblocked time noCut mode
    have done := State.qualifyDone_iff.mpr ⟨senses, window, on, unblocked, time, noCut⟩
    exact exec_qualifyComplete_of_chargeOnly done mode
  case transparent =>
    intro n s senses window on unblocked time noCut mode noHold unfenced phyOn hubOn
    have done := State.qualifyDone_iff.mpr ⟨senses, window, on, unblocked, time, noCut⟩
    exact exec_qualifyComplete_of_transparent done mode noHold unfenced (by simp [phyOn, hubOn])
  case terminated =>
    intro n j s senses window on unblocked time noCut mode unfenced served dramOn phyOn shuttleOn
    have done := State.qualifyDone_iff.mpr ⟨senses, window, on, unblocked, time, noCut⟩
    exact exec_qualifyComplete_of_terminated done mode unfenced served (by simp [dramOn, phyOn, shuttleOn])
  case detach =>
    intro n s port detaching
    refine (if_pos (by simp [port, detaching])).trans ?_
    simp only [beq_iff_eq, Bool.and_eq_true]
  case mode =>
    intro n s port changing detached noCycle mode
    exact exec_modeChangeComplete_of_done port changing detached (.inl noCycle) (.inl mode)
  case modeDomains =>
    intro n s port changing detached noCycle _ dramOn phyOn shuttleOn
    exact exec_modeChangeComplete_of_done port changing detached (.inl noCycle) (.inr ⟨dramOn, phyOn, shuttleOn⟩)
  case modePower =>
    intro n s port changing detached power mode
    exact exec_modeChangeComplete_of_done port changing detached (.inr power) (.inl mode)
  case vbus =>
    intro t s high time
    exact if_pos (by simp [high, time])
  case connect =>
    intro s ready permit vbus noHoldoff lacks unfencedLoom unfencedHub loomOn hubOn detached
    exact exec_upstreamConnect_of_permitted ready permit vbus noHoldoff lacks unfencedLoom unfencedHub
      (by simp [loomOn, hubOn]) detached
  case noVbus =>
    intro t s high time
    exact if_pos (by simp [high, time])

end Sys2Proof.Machine
end

section
/-! PROOFS. The requests and events of the transparent hub (06_transparent_hub.md R128 to R140) and the link power requests
(08_loom_function.md R180). -/

namespace Sys2Proof.Machine

/-! ### What a write of another field, and an event of the hub, leave alone -/

section

variable (s : State) {f g : Fld}

theorem State.flag_set_other (differs : f ≠ g) (u v w : Nat) : (s.set f u v).flag g w = s.flag g w := by
  rw [State.flag, State.get_set_other s v (fun e => differs e.1), State.flag]

theorem State.skHeld_set (differs : f ≠ .SKN_STAT_HELD) (u v k : Nat) : (s.set f u v).skHeld k = s.skHeld k :=
  s.flag_set_other differs u v k

theorem State.linkDead_set (differs : f ≠ .FLT_GECKO) (u v k : Nat) : (s.set f u v).linkDead k = s.linkDead k := by
  simp only [State.linkDead, State.unitFenced, State.gecko, s.flag_set_other differs, State.skein_set, State.set_flt]

theorem State.ttOwner_set (differs : f ≠ .HUBS_STAT_ALT_MTT) (u v n : Nat) :
    (s.set f u v).ttOwner n = s.ttOwner n := by
  rw [State.ttOwner, s.flag_set_other differs, State.ttOwner]

end

@[simp] theorem State.deliverEvent_hub (s : State) (r : EvRec) : (s.deliverEvent r).hub = s.hub := by
  rw [State.deliverEvent]
  split <;> rfl

@[simp] theorem State.formEvent_hub (s : State) (cls unit code : Nat) (detail : List Nat) :
    (s.formEvent cls unit code detail).hub = s.hub := by
  rw [State.formEvent]
  split
  · rfl
  · exact State.deliverEvent_hub _ _

/-- A wake of the Loom function leaves the hub, or owes its wake upstream. -/
theorem State.flagWake_hub (s : State) : ∃ w, s.flagWake.hub = { s.hub with wakeOf := w } := by
  have same : s.hub = { s.hub with wakeOf := s.hub.wakeOf } := rfl
  unfold State.flagWake State.wakeOn97
  dsimp only
  repeat' split
  · exact ⟨_, same⟩
  · exact ⟨_, (State.formEvent_hub _ _ _ _ _).trans same⟩
  · exact ⟨_, same⟩
  · exact ⟨_, rfl⟩
  · exact ⟨_, same⟩
  · exact ⟨_, same⟩
  · exact ⟨_, (State.formEvent_hub _ _ _ _ _).trans same⟩

theorem State.hubEvent_hub (s : State) (code port : Nat) :
    ∃ w, (s.hubEvent code port).hub = { s.hub with wakeOf := w } := by
  obtain ⟨w, hub⟩ := ((s.setBit .HUBS_EVT 0 code).formEvent 6 0 code (detailOf [(0, 1, port)])).flagWake_hub
  rw [State.formEvent_hub] at hub
  exact ⟨w, hub⟩

@[simp] theorem State.hubEvent_resume (s : State) (code port : Nat) : (s.hubEvent code port).hub.resume = s.hub.resume := by
  obtain ⟨w, hub⟩ := s.hubEvent_hub code port
  rw [hub]

@[simp] theorem State.hubEvent_driving (s : State) (code port : Nat) :
    (s.hubEvent code port).hub.driving = s.hub.driving := by
  obtain ⟨w, hub⟩ := s.hubEvent_hub code port
  rw [hub]

/-! ### Requests for a port of a configured hub (06_transparent_hub.md R130 to R136) -/

/-- Hub port 97 is the Loom function's. -/
theorem ne_loomPort {h : Nat} (last : h ≤ 96) : h ≠ 97 := Nat.ne_of_lt (Nat.lt_succ_of_le last)

section

variable {s : State} (configured : s.u2 = 3) (on : s.domOn dHUB = true)
include configured on

theorem next_hubRequest_of_port {h : Nat} (first : 1 ≤ h) (last : h ≤ 96) {act : Nat → State → State} {t : State}
    (acts : act (h - 1) (s.hubAnswer false []) = t) :
    (.next (s.hubRequest h act) : Host.Outcome State Fault Refusal) = .next t := by
  have served : ¬(!(s.u2 == 3 && s.domOn dHUB && decide (1 ≤ h) && decide (h ≤ 97))) = true := by
    simp [configured, on, first, Nat.le_succ_of_le last]
  have port : ¬(h == 97) = true := by simp [ne_loomPort last]
  exact congrArg _ ((if_neg served).trans ((if_neg port).trans acts))

theorem State.hubRequest_loomPort (act : Nat → State → State) : s.hubRequest 97 act = s.hubAnswer false [] := by
  simp [State.hubRequest, configured, on]

end

theorem State.ttOwner_of_multi {s : State} (multi : s.flag .HUBS_STAT_ALT_MTT = true) (n : Nat) : s.ttOwner n = n :=
  if_pos multi

theorem State.ttOwner_of_single {s : State} (single : s.flag .HUBS_STAT_ALT_MTT = false) (n : Nat) : s.ttOwner n = 0 :=
  if_neg (Bool.eq_false_iff.mp single)

section

variable {s : State} {h o : Nat} (configured : s.u2 = 3) (on : s.domOn dHUB = true) (first : 1 ≤ h) (last : h ≤ 96)
include configured on first last

theorem exec_setPortPower_of_port :
    exec (.setPortPower h) s = .next (
      let t := ((s.hubAnswer false []).set .HUBS_PWRREQ_LAST_PORT 0 h).set .HUBS_PWRREQ_LAST_ON 0 1
      if (s.skHeld (skeinOfPort (h - 1)) || s.linkDead (skeinOfPort (h - 1))) = true then t
      else (t.set .PWR_CFG_PWR_EN (h - 1) 1).evalPower (h - 1)) := by
  refine next_hubRequest_of_port configured on first last ?_
  dsimp only
  rw [State.skHeld_set _ (by decide), State.skHeld_set _ (by decide), State.linkDead_set _ (by decide),
    State.linkDead_set _ (by decide)]
  rfl

section

variable (owner : s.ttOwner (h - 1) = o)
include owner

theorem exec_clearTtBuffer_of_port (d e : Nat) :
    exec (.clearTtBuffer h d e) s = .next (((s.hubAnswer false []).count .HUBS_TTCNT_CLEAR_CNT 0).ttDrop o h
      (fun b => !(b.dev == d && b.ep == e)) false) := by
  subst owner
  exact next_hubRequest_of_port configured on first last rfl

theorem exec_resetTt_of_port :
    exec (.resetTt h) s = .next ((((s.hubAnswer false []).count .HUBS_TTCNT_CLEAR_CNT 0).ttDrop o h
      (fun _ => false) true).modPort o (fun p => { p with tt := { p.tt with stopped := false } })) := by
  subst owner
  refine next_hubRequest_of_port configured on first last ?_
  rw [State.ttClear, State.count, State.ttOwner_set _ (by decide), Nat.sub_add_cancel first]
  rfl

theorem exec_stopTt_of_port :
    exec (.stopTt h) s = .next ((s.hubAnswer false []).modPort o (fun p =>
      { p with tt := { p.tt with stopped := true } })) := by
  subst owner
  exact next_hubRequest_of_port configured on first last rfl

end

end

theorem exec_portResetEnd_of_due {h v t : Nat} {s : State} (first : 1 ≤ h) (last : h ≤ 96) (detected : 1 ≤ v) (known : v ≤ 3)
    (driven : (s.port (h - 1)).hpReset = some t) (due : t + 10000000 ≤ s.dt) :
    exec (.portResetEnd h v) s = .next (
      let u := s.modPort (h - 1) (fun p => { p with hpReset := none })
      let u := if u.hubConn (h - 1) then u.modPort (h - 1) (fun p => { p with hpEnable := true, hpSpeed := v }) else u
      (u.hubChange (h - 1) 4).hubNote (h - 1)) := by
  have acts : ¬(h == 0 || decide (96 < h) || v == 0 || decide (3 < v)) = true := by
    simp [Nat.ne_of_gt first, last, Nat.ne_of_gt detected, known]
  change execPortResetEnd h v s = _
  simp only [execPortResetEnd, if_neg acts, driven]
  exact if_pos due

/-- Settles O32: a configured hub whose domain is ON passes each request to its port, and each translator request to the
translator that serves it; hub port 97 is answered, and reset, on its own. -/
theorem hubPortRequests : Obligations.HubPortRequests := by
  refine ⟨?power, ?powerHeld, ?powerOff, ?reset, ?reset97, fun h v t s => exec_portResetEnd_of_due, ?disable, ?suspend,
    ?resume, ?test, ?testStall, ?indicator, ?clearMulti, ?clearSingle, ?resetMulti, ?resetSingle, ?stopMulti, ?stopSingle,
    ?powerOff97, ?ttState, ?status, ?status97⟩
  case power =>
    intro h s configured on first last free live
    exact (exec_setPortPower_of_port configured on first last).trans (congrArg _ (if_neg (by simp [free, live])))
  case powerHeld =>
    intro h s configured on first last ignored
    exact (exec_setPortPower_of_port configured on first last).trans
      (congrArg _ (if_pos (Bool.or_eq_true_iff.mpr ignored)))
  case powerOff =>
    intro h s configured on first last _
    exact next_hubRequest_of_port configured on first last rfl
  case reset =>
    intro h s configured on first last
    exact (if_neg (by simp [ne_loomPort last])).trans (next_hubRequest_of_port configured on first last rfl)
  case reset97 =>
    intro s configured on connected
    exact congrArg _ (if_pos (by simp [configured, on, connected]))
  case disable =>
    intro h s configured on first last
    exact next_hubRequest_of_port configured on first last rfl
  case suspend =>
    intro h s configured on first last enabled
    exact next_hubRequest_of_port configured on first last (if_pos enabled)
  case resume =>
    intro h s configured on first last suspended idle
    exact next_hubRequest_of_port configured on first last
      (if_pos (Bool.and_eq_true_iff.mpr ⟨suspended, Option.isNone_iff_eq_none.mpr idle⟩))
  case test =>
    intro h m s configured on first last from1 to5
    exact next_hubRequest_of_port configured on first last (if_pos (by simp [from1, to5]))
  case testStall =>
    intro h m s configured on first last outside
    refine next_hubRequest_of_port configured on first last ((if_neg ?_).trans rfl)
    rw [Bool.and_eq_true_iff, decide_eq_true_iff, decide_eq_true_iff]
    omega
  case indicator =>
    intro h s configured on first last
    exact next_hubRequest_of_port configured on first last rfl
  case clearMulti =>
    intro h d e s configured on first last multi
    exact exec_clearTtBuffer_of_port configured on first last (State.ttOwner_of_multi multi _) d e
  case clearSingle =>
    intro h d e s configured on first last single
    exact exec_clearTtBuffer_of_port configured on first last (State.ttOwner_of_single single _) d e
  case resetMulti =>
    intro h s configured on first last multi
    exact exec_resetTt_of_port configured on first last (State.ttOwner_of_multi multi _)
  case resetSingle =>
    intro h s configured on first last single
    exact exec_resetTt_of_port configured on first last (State.ttOwner_of_single single _)
  case stopMulti =>
    intro h s configured on first last multi
    exact exec_stopTt_of_port configured on first last (State.ttOwner_of_multi multi _)
  case stopSingle =>
    intro h s configured on first last single
    exact exec_stopTt_of_port configured on first last (State.ttOwner_of_single single _)
  case powerOff97 =>
    intro s configured on
    exact congrArg _ (State.hubRequest_loomPort configured on _)
  case ttState =>
    intro h s configured on first last
    exact next_hubRequest_of_port configured on first last rfl
  case status =>
    intro h s configured on first last
    exact (if_neg (by simp [ne_loomPort last])).trans (next_hubRequest_of_port configured on first last rfl)
  case status97 =>
    intro s configured on
    exact congrArg _ (if_pos (by simp [configured, on]))

/-! ### Suspend, resume and wake (06_transparent_hub.md R137 to R139) -/

/-- The hub's resume ends: no resume runs, no wake is driven or owed. -/
def State.resumeEnded (s : State) : State :=
  { s with hub := { s.hub with resume := false, driving := false, wakeOf := none } }

/-- The Loom function's USB 2.0 path on hub port 97 resumes with the hub. -/
def State.loomResumed (s : State) : State :=
  if s.get .LOOMS_STAT_RATE = 1 ∧ s.get .LOOMS_STAT_LSTATE = 3 then
    ((s.set .LOOMS_STAT_LSTATE 0 0).set .LOOMS_STAT_WAKE_PEND 0 0).loomEvent 4
  else if s.get .LOOMS_STAT_RATE = 1 ∧ s.get .LOOMS_STAT_LSTATE = 5 then s.set .LOOMS_STAT_LSTATE 0 0
  else s

theorem State.not_awake_of_suspended {s : State} (waits : s.u2 = 4 ∨ s.u2 = 5) : ¬(s.u2 != 4 && s.u2 != 5) = true := by
  simpa [or_iff_not_imp_left] using waits

theorem exec_hostResume_of_eop {s : State} (waits : s.u2 = 4 ∨ s.u2 = 5) (resumes : s.hub.resume = true)
    (on : s.domOn dHUB = true) :
    exec (.hostResume true) s = .next (
      let t := if s.u2 = 4 then ((s.touch dHUB).set .HUBS_STAT_U2_STATE 0 s.hub.fromState).hubEvent 2 0
        else (s.touch dHUB).set .HUBS_STAT_U2_STATE 0 3
      t.resumeEnded.loomResumed) := by
  have driven : ¬(!(s.hub.resume || s.hub.driving)) = true := by simp [resumes]
  have woken : s.wakeBy 1 [dHUB] = (s.touch dHUB, true) := State.wakeBy_of_on (by simp [on]) 1
  refine (if_neg (State.not_awake_of_suspended waits)).trans ((if_neg (by decide)).trans ((if_neg driven).trans ?_))
  rw [woken]
  simp only [Bool.not_true, Bool.false_eq_true, if_false, beq_iff_eq, Bool.and_eq_true]
  rfl

/-- A remote wake signalled by an enabled port: the port is resumed unless the hub's own suspend still holds it. -/
theorem exec_downstreamRemoteWake_of_signal {h : Nat} {s t : State} (first : 1 ≤ h) (last : h ≤ 96)
    (enabled : (s.port (h - 1)).hpEnable = true) (connected : s.u2 ≠ 0) (woken : s.hubWake h = t)
    (resumes : (t.u2 != 4 || t.hub.resume || t.hub.driving || t.hub.wakeOf.isSome) = true) :
    exec (.downstreamRemoteWake h true) s = .next (t.resumePort (h - 1)) := by
  subst woken
  change execDownstreamRemoteWake h true s = _
  simp [execDownstreamRemoteWake, ne_loomPort last, first, last, enabled, connected, resumes]

/-- A hub that may wake the host owes the wake of port `h`. -/
theorem State.hubWake_of_first {s : State} {h : Nat} (suspended : s.u2 = 4) (quiet : s.hub.resume = false)
    (idle : s.hub.driving = false) (enabled : s.flag .HUBS_STAT_RWAKE_EN = true) (unowed : s.hub.wakeOf = none) :
    s.hubWake h = ({ s with hub := { s.hub with wakeOf := some h } } : State).driveWake := by
  have state : s.get .HUBS_STAT_U2_STATE = 4 := suspended
  simp [State.hubWake, state, quiet, idle, enabled, unowed]

theorem State.driveWake_of_early {s : State} {p : Nat} (owed : s.hub.wakeOf = some p) (suspended : s.u2 = 4)
    (early : s.dt < s.hub.suspFrom + 5000000) : s.driveWake = s := by
  have state : s.get .HUBS_STAT_U2_STATE = 4 := suspended
  simp [State.driveWake, owed, state, early]

theorem State.driveWake_of_due {s : State} {p : Nat} (owed : s.hub.wakeOf = some p) (port : p ≠ 97)
    (quiet : s.hub.resume = false) (idle : s.hub.driving = false) (on : s.domOn dHUB = true)
    (due : s.hub.suspFrom + 5000000 ≤ s.dt) :
    s.driveWake = ({ s.touch dHUB with hub := { (s.touch dHUB).hub with driving := true, wakeOf := none } } : State).hubEvent
      3 p := by
  have woken : s.wakeBy 2 [dHUB] = (s.touch dHUB, true) := State.wakeBy_of_on (by simp [on]) 2
  simp [State.driveWake, owed, quiet, idle, due, woken, port]

theorem exec_portResumeEnd_of_due {h t : Nat} {s : State} (first : 1 ≤ h) (last : h ≤ 96)
    (driven : (s.port (h - 1)).hpResume = some t) (due : t + 20000000 ≤ s.dt) :
    exec (.portResumeEnd h) s = .next (((s.modPort (h - 1) (fun p =>
      { p with hpResume := none, hpSusp := false })).hubChange (h - 1) 2).hubNote (h - 1)) := by
  have acts : ¬(h == 0 || decide (96 < h)) = true := by simp [Nat.ne_of_gt first, last]
  change execPortResumeEnd h s = _
  simp only [execPortResumeEnd, if_neg acts, driven]
  exact if_pos due

/-! ### Split transactions (06_transparent_hub.md R134 to R136) -/

section

variable {s : State} {n dev ep : Nat} (passes : s.splits n = true) (runs : (s.port (s.ttOwner n)).tt.stopped = false)
include passes runs

theorem State.startSplit_of_room {data : List Nat} (room : (s.port (s.ttOwner n)).tt.bufs.length < 4)
    (short : data.length ≤ 64) :
    s.startSplit n dev ep none data = s.modPort (s.ttOwner n) (fun p => { p with
      tt := { (s.port (s.ttOwner n)).tt with bufs := (s.port (s.ttOwner n)).tt.bufs ++ [⟨dev, ep, data⟩] } }) := by
  have fits : ¬(decide (4 ≤ (s.port (s.ttOwner n)).tt.bufs.length) || decide (64 < data.length)) = true := by
    simp [room, short]
  exact (if_neg (by simp [passes, runs])).trans (if_neg fits)

theorem State.completeSplit_of_held {b : Split}
    (held : (s.port (s.ttOwner n)).tt.bufs.find? (fun b => b.dev == dev && b.ep == ep) = some b) :
    s.completeSplit n dev ep none = (s.modPort (s.ttOwner n) (fun p => { p with
      tt := { (s.port (s.ttOwner n)).tt with bufs := (s.port (s.ttOwner n)).tt.bufs.erase b } }), some b.data) := by
  refine (if_neg (by simp [passes, runs])).trans ?_
  simp only [held]

end

/-- Settles O33: the events of the hub's own state, of its suspend and of a wake, then the link power requests by the state
they ask for, and the standard requests. -/
theorem hubStateEvents : Obligations.HubStateEvents := by
  refine ⟨?alternate, ?reset, ?suspend, ?resumeStart, ?resumeEnd, ?l1End, ?wakeDriven, ?wakeOwed, ?wakeAbsorbed,
    fun h t s => exec_portResumeEnd_of_due, ?connect, ?u1, ?u2, ?u0, ?l1, ?l0, ?portL1, ?loomL1, ?portL0, ?address,
    ?configure, ?deconfigure, ?remoteWake, ?descriptor, ?startSplit, ?completeSplit⟩
  case alternate =>
    intro a s configured on setting changes
    exact (if_pos (by simp [configured, on, setting])).trans (congrArg _ (if_neg (by simpa using changes)))
  case reset =>
    intro s connected
    refine (if_neg (by simpa using connected)).trans ?_
    simp only [beq_iff_eq]
  case suspend =>
    intro n s idle from1 to3
    refine (if_pos (by simp [idle, from1, to3])).trans ?_
    simp only [beq_iff_eq]
  case resumeStart =>
    intro s waits
    exact (if_neg (State.not_awake_of_suspended waits)).trans (if_pos rfl)
  case resumeEnd =>
    intro s suspended resumes on
    exact (exec_hostResume_of_eop (.inl suspended) resumes on).trans
      (congrArg (fun t : State => Host.Outcome.next t.resumeEnded.loomResumed) (if_pos suspended))
  case l1End =>
    intro s suspended resumes on
    exact (exec_hostResume_of_eop (.inr suspended) resumes on).trans
      (congrArg (fun t : State => Host.Outcome.next t.resumeEnded.loomResumed) (if_neg (by rw [suspended]; decide)))
  case wakeDriven =>
    intro h s first last enabled suspended quiet idle allowed unowed on due
    have driven := State.driveWake_of_due (s := { s with hub := { s.hub with wakeOf := some h } }) rfl
      (ne_loomPort last) quiet idle on due
    exact exec_downstreamRemoteWake_of_signal first last enabled (by rw [suspended]; decide)
      ((State.hubWake_of_first suspended quiet idle allowed unowed).trans driven) (by simp)
  case wakeOwed =>
    intro h s first last enabled suspended quiet idle allowed unowed early
    have kept := State.driveWake_of_early (s := { s with hub := { s.hub with wakeOf := some h } }) rfl suspended early
    exact exec_downstreamRemoteWake_of_signal first last enabled (by rw [suspended]; decide)
      ((State.hubWake_of_first suspended quiet idle allowed unowed).trans kept) (by simp)
  case wakeAbsorbed =>
    intro h s first last enabled waits resumes
    have woken : s.hubWake h = s.hubEvent 4 h := (if_neg (State.not_awake_of_suspended waits)).trans (if_pos resumes)
    exact exec_downstreamRemoteWake_of_signal first last enabled (by omega) woken (by simp [resumes])
  case connect =>
    intro h b s first last transparent gate on
    exact if_pos (by simp [first, last, transparent, gate, on])
  case u1 =>
    intro s rate active
    exact congrArg _ (if_pos (by simp [rate, active]))
  case u2 =>
    intro s rate active
    exact congrArg _ (if_pos (by simp [rate, active]))
  case u0 =>
    intro s rate idle
    exact congrArg _ (if_pos (by simpa [rate] using idle))
  case l1 =>
    intro s configured rate
    exact (if_pos (beq_iff_eq.mpr configured)).trans (congrArg _ (if_pos (beq_iff_eq.mpr rate)))
  case l0 =>
    intro s suspended rate
    exact (if_pos (beq_iff_eq.mpr suspended)).trans (congrArg _ (if_pos (beq_iff_eq.mpr rate)))
  case portL1 =>
    intro h s configured on first last enabled awake
    exact (if_neg (by simp [ne_loomPort last])).trans (next_hubRequest_of_port configured on first last
      (if_pos (Bool.and_eq_true_iff.mpr ⟨enabled, (Bool.not_eq_true' _).mpr awake⟩)))
  case loomL1 =>
    intro s configured on rate active
    exact congrArg _ (if_pos (by simp [configured, on, rate, active]))
  case portL0 =>
    intro h s first last sleeps
    exact (if_neg (by simp [ne_loomPort last])).trans (if_pos (by simp [first, last, sleeps]))
  case address =>
    intro a s on unconfigured
    refine (if_pos (by simpa [on] using unconfigured)).trans ?_
    simp only [beq_iff_eq]
  case configure =>
    intro s on addressed
    exact (if_neg (by simp [on])).trans (if_pos (by simp [addressed]))
  case deconfigure =>
    intro s on configured
    exact (if_neg (by simp [on])).trans ((if_neg (by simp)).trans (if_pos (by simp [configured])))
  case remoteWake =>
    intro b s on from2 to3
    exact if_pos (by simp [on, from2, to3])
  case descriptor =>
    intro f y i n d s answers present
    refine (if_neg (by simp [answers])).trans ?_
    rw [present]
  case startSplit =>
    intro h d e bs s configured on first last passes runs room short
    exact congrArg _ ((if_pos (by simp [configured, on, first, last])).trans
      (State.startSplit_of_room passes runs room short))
  case completeSplit =>
    intro h d e b s configured on first last passes runs held
    refine (if_neg (by simp [configured, on, first, last])).trans ?_
    simp only [State.completeSplit_of_held passes runs held]

end Sys2Proof.Machine
end

section
/-! PROOFS. The events of a device's enumeration and reset (07_shuttle_engines.md R154 to R163, R174). -/

namespace Sys2Proof.Machine

/-! ### A request that ends (07_shuttle_engines.md R154, R157, R177) -/

/-- The three transaction errors of a request that ended in `XACT_ERR` are counted (07_shuttle_engines.md R177). -/
def State.requestErrors (s : State) (port : Nat) (d : Dev) (status : Nat) : State :=
  if status = wXACT_ERR then
    (s.count .SHT_ERR_XACT_ERR_CNT (s.shuttleOf port) 3).modCtx d.ep0 (fun c => { c with errors := satAdd c.errors 3 65535 })
  else s

theorem State.get_requestErrors (s : State) (port : Nat) (d : Dev) (status : Nat) {f : Fld}
    (other : .SHT_ERR_XACT_ERR_CNT ≠ f) (u : Nat) : (s.requestErrors port d status).get f u = s.get f u := by
  rw [State.requestErrors]
  split
  · exact s.get_set_other _ (fun e => other e.1)
  · rfl

@[simp] theorem State.requestErrors_dt (s : State) (port : Nat) (d : Dev) (status : Nat) :
    (s.requestErrors port d status).dt = s.dt := by
  rw [State.requestErrors]
  split <;> rfl

@[simp] theorem State.port_requestErrors (s : State) (port : Nat) (d : Dev) (status n : Nat) :
    (s.requestErrors port d status).port n = s.port n := by
  rw [State.requestErrors]
  split <;> rfl

@[simp] theorem State.enumRuns_requestErrors (s : State) (port : Nat) (d : Dev) (status n : Nat) :
    (s.requestErrors port d status).enumRuns n = s.enumRuns n := by
  simp [State.enumRuns, State.safeHold, State.flag, State.mode, State.att, State.serving, State.servingGroup, State.domOn,
    State.get_requestErrors]

/-- The statuses of a request that succeeds, neither of which counts errors. -/
theorem answered_of_ok {st : Nat} (ok : st = wOK ∨ st = wSHORT) :
    (st == wOK || st == wSHORT) = true ∧ (st == wXACT_ERR) = false := by
  rcases ok with rfl | rfl <;> exact ⟨rfl, rfl⟩

section

variable {s : State} {port route : Nat} {d : Dev} (found : s.dev? port route = some d) (runs : s.enumRuns port = true)
include found runs

/-- A request other than the hub's own that fails, and whose answer is not optional, fails the attempt. -/
theorem exec_enumRequestComplete_of_failed {r : EnumReq} {st : Nat} (data : List Nat) (inTime : d.inTime r s.dt = true)
    (stage : d.stage = .request r) (failed : st = wSTALL ∨ st = wBABBLE ∨ st = wXACT_ERR)
    (needed : r.isString = false) (other : r ≠ .hubSetup) :
    exec (.enumRequestComplete port route st data) s =
      .next (((s.requestErrors port d st).attemptFailed d st).poolService) := by
  have counts : (if s.enumRuns port && d.inTime r s.dt && st == wXACT_ERR && r != .hubSetup then
      (s.count .SHT_ERR_XACT_ERR_CNT (s.shuttleOf port) 3).modCtx d.ep0 (fun c => { c with errors := satAdd c.errors 3 65535 })
      else s) = s.requestErrors port d st := by
    simp [runs, inTime, other, State.requestErrors]
  have known : (st == wOK || st == wSHORT) = false ∧ (st == wSTALL || st == wBABBLE || st == wXACT_ERR) = true := by
    rcases failed with rfl | rfl | rfl <;> exact ⟨rfl, rfl⟩
  change execEnumRequestComplete port route st data s = _
  simp only [execEnumRequestComplete, found, stage, counts]
  simp [runs, inTime, known, needed, other]

end

/-- Settles O56: each step of an enumeration that runs is taken once it is due; an answer is read by its request; the end of a
device's reset is read by whether its descriptors are the cached ones. -/
theorem enumerationEvents : Obligations.EnumerationEvents := by
  refine ⟨?resetEnd, ?recoveryEnd, ?head,
    fun port route r st data d s found runs => exec_enumRequestComplete_of_failed found runs data, ?addressed, ?addressWait,
    ?powerWait, ?requestTimeout, ?addressTimeout, ?attemptTimeout, ?retry, ?complete, ?restored, ?changedRoot, ?changedBelow,
    ?released⟩
  case resetEnd =>
    intro port route speed d s found runs stage due first last
    change execEnumResetEnd port route speed s = _
    simp only [execEnumResetEnd, found, beq_iff_eq]
    exact if_pos (by simp [runs, stage, due, first, last])
  case recoveryEnd =>
    intro port route d s found runs stage due
    change execEnumRecoveryEnd port route s = _
    simp only [execEnumRecoveryEnd, found]
    exact if_pos (by simp [runs, stage, due])
  case head =>
    intro port route st data d s found runs inTime stage ok
    obtain ⟨answered, noErrors⟩ := answered_of_ok ok
    change execEnumRequestComplete port route st data s = _
    simp [execEnumRequestComplete, found, stage, runs, inTime, answered, noErrors, State.enumStore]
  case addressed =>
    intro port route st a data d s found runs inTime stage ok free
    obtain ⟨answered, noErrors⟩ := answered_of_ok ok
    change execEnumRequestComplete port route st data s = _
    simp [execEnumRequestComplete, found, stage, runs, inTime, answered, noErrors, free]
  case addressWait =>
    intro port route d s found runs stage due early
    change execEnumWaitEnd port route s = _
    simp [execEnumWaitEnd, found, runs, stage, due, early]
  case powerWait =>
    intro port route d s found runs stage due early
    change execEnumWaitEnd port route s = _
    simp [execEnumWaitEnd, found, runs, stage, due, early]
  case requestTimeout =>
    intro port route r d s found runs stage notAddress notHub due
    change execEnumRequestTimeout port route s = _
    simp only [execEnumRequestTimeout, found, stage]
    exact (if_pos (by simp [runs, notAddress, notHub, due])).trans (apply_ite Host.Outcome.next ..).symm
  case addressTimeout =>
    intro port route d s found runs stage due
    change execSetAddressTimeout port route s = _
    simp only [execSetAddressTimeout, found]
    exact if_pos (by simp [runs, stage, due])
  case attemptTimeout =>
    intro port route d s found runs stage due
    change execEnumAttemptTimeout port route s = _
    simp only [execEnumAttemptTimeout, found]
    exact if_pos (by simp [runs, stage, due])
  case retry =>
    intro port route d s found runs stage due
    change execEnumRetryWaitEnd port route s = _
    simp only [execEnumRetryWaitEnd, found]
    exact if_pos (by simp [runs, stage, due])
  case complete =>
    intro port route d s found runs stage
    change execEnumerationComplete port route s = _
    simp only [execEnumerationComplete, found]
    exact if_pos (by simp [runs, stage])
  case restored =>
    intro port route ds d s found runs stage due sameDevice sameConfig
    change execDeviceResetComplete port route ds s = _
    simp only [execDeviceResetComplete, found, Bool.and_eq_true, beq_iff_eq]
    exact (if_neg (by simp [runs, stage, due])).trans (if_pos ⟨sameDevice, sameConfig⟩)
  case changedRoot =>
    intro port route ds d s found runs stage due differs root
    change execDeviceResetComplete port route ds s = _
    simp only [execDeviceResetComplete, found]
    exact (if_neg (by simp [runs, stage, due])).trans
      ((if_neg (by simpa [or_iff_not_imp_left] using differs)).trans (if_pos (by simp [root])))
  case changedBelow =>
    intro port route ds d s found runs stage due differs below
    change execDeviceResetComplete port route ds s = _
    simp only [execDeviceResetComplete, found]
    exact (if_neg (by simp [runs, stage, due])).trans
      ((if_neg (by simpa [or_iff_not_imp_left] using differs)).trans (if_neg (by simp [below])))
  case released =>
    intro n c s found device closing empty formed
    change execContextRelease n s = _
    simp only [execContextRelease, found]
    exact if_pos (by simp [device, closing, empty, formed])

end Sys2Proof.Machine
end

section
/-! PROOFS. The events of a Shuttle, of its transactions and of its idle trees (07_shuttle_engines.md R145 to R153, R167 to
R172). -/

namespace Sys2Proof.Machine

/-! ### A transaction at the turn of a handle (07_shuttle_engines.md R147 to R153, R167) -/

/-- It is the turn of the handle of context `n`: a Shuttle serves the enumerated device's port, the context is in the cache, and
there is room for the records of a transaction. -/
structure State.AtTurn (s : State) (n : Nat) (c : Ctx) (d : Dev) : Prop where
  found  : s.ctx? n = some c
  device : s.devByEp0 c.devEp0 = some d
  served : s.served c.port = true
  done   : d.stage = .done
  cached : s.cached c = true
  turn   : s.isTurn c s.microframe = true
  room   : c.recs.length + 3 ≤ 32768

/-- A transaction that is not the report of a hub's status endpoint. -/
def Txn.onHandle : Txn → Bool
  | .hubConnect _ | .hubDisconnect _ => false
  | _ => true

/-- The result of a transaction, which ends the service of its handle: neither a start split nor its `NYET`. -/
def Txn.isResult : Txn → Bool
  | .hubConnect _ | .hubDisconnect _ | .startSplit | .nyet => false
  | _ => true

section

variable {s : State} {n : Nat} {c : Ctx} {d : Dev} {txn : Txn}

theorem exec_downstreamTransaction_of_turn (h : s.AtTurn n c d) (onHandle : txn.onHandle = true) :
    exec (.downstreamTransaction n txn) s = .next (s.serveTurn c d txn) := by
  obtain ⟨found, device, served, done, cached, turn, room⟩ := h
  change execDownstreamTransaction n txn s = _
  simp only [execDownstreamTransaction, found, device]
  refine (if_neg (by simp [served, done])).trans ?_
  cases txn with
  | hubConnect | hubDisconnect => cases onHandle
  | _ => exact (if_neg (by simp [turn, room])).trans (if_neg (by simp [cached]))

/-- A device that no translator serves, or whose translator has taken the start split, has its result. -/
theorem State.serveTurn_of_result (result : txn.isResult = true) (ready : s.ttOf 5 d = none ∨ c.split = true) :
    s.serveTurn c d txn = ((s.modCtx c.num (fun c => { c with split := false })).transact c txn).tookTurn c s.microframe := by
  have ends : ¬((s.ttOf 5 d).isSome && !c.split && !(c.isIso && (txn == .isoMissed || txn == .error))) = true := by
    rcases ready with direct | split
    · simp [direct]
    · simp [split]
  cases txn with
  | hubConnect | hubDisconnect | startSplit | nyet => cases result
  | _ => exact if_neg ends

theorem Txn.onHandle_of_isResult (result : txn.isResult = true) : txn.onHandle = true := by
  cases txn with
  | hubConnect | hubDisconnect => cases result
  | _ => rfl

/-- What a result at a turn leaves is what the rule of its kind leaves, and the turn is taken. -/
theorem exec_downstreamTransaction_of_result {t u : State} (h : s.AtTurn n c d) (ready : s.ttOf 5 d = none ∨ c.split = true)
    (unsplit : t = s.modCtx c.num (fun c => { c with split := false })) (result : txn.isResult = true)
    (leaves : t.transact c txn = u) :
    exec (.downstreamTransaction n txn) s = .next (u.tookTurn c s.microframe) := by
  subst unsplit leaves
  rw [exec_downstreamTransaction_of_turn h (Txn.onHandle_of_isResult result), State.serveTurn_of_result result ready]

end

/-! ### What a result leaves (07_shuttle_engines.md R150 to R153, R167) -/

section

variable {t : State} {c : Ctx} {data : List Nat} (isIn : c.isIn = true)
include isIn

theorem State.transact_inData_of_fits (fits : data.length ≤ c.fullPacket)
    (space : c.typ = 0 ∨ (t.stagePacket c.port data []).hasRoom c = true) :
    t.transact c (.inData data) =
      if c.typ = 0 then (t.stagePacket c.port data []).controlIn c data
      else if c.typ = 2 then (t.stagePacket c.port data []).bulkIn c data
      else (t.stagePacket c.port data []).periodicIn c data := by
  simp only [State.transact, isIn, Nat.not_lt.mpr fits, Bool.not_true, Bool.false_eq_true, if_false, beq_iff_eq]
  split
  · rfl
  · next other => rw [space.resolve_left other]; rfl

theorem State.transact_inData_of_long (long : c.fullPacket < data.length) :
    t.transact c (.inData data) = (t.stagePacket c.port data []).haltEp c.num wBABBLE :=
  (if_neg (by simp [isIn])).trans (if_pos long)

end

theorem State.transact_outAck {t : State} {c : Ctx} (k : Nat)
    (isOut : (c.typ = 1 ∧ c.isIn = false) ∨ c.typ = 0 ∨ (c.typ ≠ 1 ∧ c.epAddr < 128)) :
    t.transact c (.outAck k) = if c.typ = 1 then (t.stageOut c k).isoOut c k else (t.stageOut c k).outPacket c k := by
  simp only [State.transact, beq_iff_eq]
  split
  · next iso => rw [if_neg (by simpa [iso] using isOut)]
  · next other => exact if_pos (by simpa [other] using isOut)

/-! ### Moves of a group between Shuttles (07_shuttle_engines.md R145, R168 to R170) -/

section

variable {s : State} {j a : Nat} (real : j < 13) (on : s.domOn (dSH j) = true) (clock : s.flag .PWRD_CLK_TCLK_RUN = true)
  (passes : (s.shut j).lastMf < s.microframe)
include real on clock passes

theorem exec_microframeBoundary_of_serving (l : Nat) (serves : s.get .SHT_STAT_STATE j = 1 ∨ s.get .SHT_STAT_STATE j = 3) :
    exec (.microframeBoundary j l) s = .next (s.newMicroframe j (s.get .SHT_STAT_PHYG j) s.microframe l) := by
  change execMicroframeBoundary j l s = _
  rw [execMicroframeBoundary]
  refine (if_neg (by simp [real, on, clock, passes])).trans ?_
  rcases serves with serves | serves <;> rw [serves] <;> rfl

/-- A move ends once the group's state is loaded and its time has passed: 60 µs, or from SH12 its last microframe. -/
theorem exec_microframeBoundary_of_moving (l : Nat) (moves : s.get .SHT_STAT_STATE j = 5)
    (start : (s.shut j).moveFrom = some a) :
    exec (.microframeBoundary j l) s =
      let fromSpare := (s.shut j).back && s.get .SHT_STAT_PHYG 12 == s.get .SHT_STAT_PHYG j && s.get .SHT_STAT_STATE 12 == 3
      if (s.shut j).loaded && decide (a + s.stepped + (if fromSpare then 1 else 60000) ≤ s.microframe * 125000)
          && (!fromSpare || decide ((s.shut 12).lastMf < s.microframe)) then
        .next (s.endMove j (s.get .SHT_STAT_PHYG j) l)
      else .next s := by
  change execMicroframeBoundary j l s = _
  simp only [execMicroframeBoundary, start]
  exact (if_neg (by simp [real, on, clock, passes])).trans (if_pos (by simp [moves]))

end

/-- Settles O57: a boundary is read by what its Shuttle does, a result by its own rule at the turn of a handle, and a step of an
idle tree by the tree's state. -/
theorem shuttleEvents : Obligations.ShuttleEvents := by
  refine ⟨fun j l s real on clock passes => exec_microframeBoundary_of_serving real on clock passes l, ?movesOn,
    ?movesBack, ?loaded, ?confirm, ?inData, ?inBabble, ?outAck, ?setupAck, ?statusOk, ?nak, ?stall, ?babble, ?error,
    ?isoError, ?isoMissed, ?startSplit, ?nyet, ?hubConnect, ?hubDisconnect, ?idle, fun n s port => if_pos port, ?resumed,
    ?recovered⟩
  case movesOn =>
    intro j l a s real on clock passes moves start loaded notBack due
    refine (exec_microframeBoundary_of_moving real on clock passes l moves start).trans ?_
    have notSpare : ((s.shut j).back && s.get .SHT_STAT_PHYG 12 == s.get .SHT_STAT_PHYG j
        && s.get .SHT_STAT_STATE 12 == 3) = false := by
      simpa [and_assoc] using notBack
    simp only [notSpare]
    exact if_pos (by simp [loaded, due])
  case movesBack =>
    intro j l a s real on clock passes moves start loaded back group serves due finished
    refine (exec_microframeBoundary_of_moving real on clock passes l moves start).trans ?_
    exact if_pos (by simp [loaded, back, group, serves, finished, due])
  case loaded =>
    intro j s real moves on
    exact if_pos (by simp [real, moves, on])
  case confirm =>
    intro j s real waits group noHold
    change execTakeoverConfirm j s = _
    simp only [execTakeoverConfirm, beq_iff_eq]
    exact (if_pos (by simp [real, waits, group, noHold])).trans (apply_ite Host.Outcome.next ..).symm
  case inData =>
    intro n data c d s t v found device served done cached turn room ready unsplit isIn staged space fits
    subst staged
    exact exec_downstreamTransaction_of_result ⟨found, device, served, done, cached, turn, room⟩ ready unsplit rfl
      (State.transact_inData_of_fits isIn fits space)
  case inBabble =>
    intro n data c d s t found device served done cached turn room ready unsplit isIn long
    exact exec_downstreamTransaction_of_result ⟨found, device, served, done, cached, turn, room⟩ ready unsplit rfl
      (State.transact_inData_of_long isIn long)
  case outAck =>
    intro n k c d s t found device served done cached turn room ready unsplit isOut
    exact exec_downstreamTransaction_of_result ⟨found, device, served, done, cached, turn, room⟩ ready unsplit rfl
      (State.transact_outAck k isOut)
  case setupAck =>
    intro n c d s t found device served done cached turn room ready unsplit control first
    exact exec_downstreamTransaction_of_result ⟨found, device, served, done, cached, turn, room⟩ ready unsplit rfl
      ((if_pos (by simp [control, first])).trans (by simp only [beq_iff_eq] <;> rfl))
  case statusOk =>
    intro n c d s t found device served done cached turn room ready unsplit control
    exact exec_downstreamTransaction_of_result ⟨found, device, served, done, cached, turn, room⟩ ready unsplit rfl
      (if_pos (by simp [control]))
  case nak =>
    intro n c d s t found device served done cached turn room ready unsplit plain
    exact exec_downstreamTransaction_of_result ⟨found, device, served, done, cached, turn, room⟩ ready unsplit rfl
      ((if_neg (by simp [plain])).trans (by simp only [beq_iff_eq]))
  case stall =>
    intro n c d s t found device served done cached turn room ready unsplit plain
    exact exec_downstreamTransaction_of_result ⟨found, device, served, done, cached, turn, room⟩ ready unsplit rfl
      (if_neg (by simp [plain]))
  case babble =>
    intro n c d s t found device served done cached turn room ready unsplit
    exact exec_downstreamTransaction_of_result ⟨found, device, served, done, cached, turn, room⟩ ready unsplit rfl rfl
  case error =>
    intro n c d s t found device served done cached turn room ready unsplit plain
    exact exec_downstreamTransaction_of_result ⟨found, device, served, done, cached, turn, room⟩ ready unsplit rfl
      (if_neg (by simp [plain]))
  case isoError =>
    intro n c d s t found device served done cached turn room ready unsplit iso
    exact exec_downstreamTransaction_of_result ⟨found, device, served, done, cached, turn, room⟩ ready unsplit rfl
      (if_pos iso)
  case isoMissed =>
    intro n c d s t found device served done cached turn room ready unsplit
    exact exec_downstreamTransaction_of_result ⟨found, device, served, done, cached, turn, room⟩ ready unsplit rfl rfl
  case startSplit =>
    intro n c d s found device served done cached turn room translated
    refine (exec_downstreamTransaction_of_turn ⟨found, device, served, done, cached, turn, room⟩ rfl).trans ?_
    exact congrArg _ (if_pos (Option.isSome_iff_ne_none.mpr translated))
  case nyet =>
    intro n c d s found device served done cached turn room
    exact exec_downstreamTransaction_of_turn ⟨found, device, served, done, cached, turn, room⟩ rfl
  case hubConnect =>
    intro n p c d s found device served done hub noHold
    change execDownstreamTransaction n (.hubConnect p) s = _
    simp [execDownstreamTransaction, found, device, served, done, hub, noHold]
  case hubDisconnect =>
    intro n p c d e s found device served done below
    change execDownstreamTransaction n (.hubDisconnect p) s = _
    simp [execDownstreamTransaction, found, device, served, done, below]
  case idle =>
    intro n s port presented served units due
    refine (if_pos (by simp [port, presented, served, units, due])).trans ?_
    exact (apply_ite Host.Outcome.next ..).symm
  case resumed =>
    intro n s resumes first due
    exact if_pos (by simp [resumes, first, due])
  case recovered =>
    intro n s resumes second due
    exact if_pos (by simp [resumes, second, due])

end Sys2Proof.Machine
end

section
/-! PROOFS. The events of the Loom function's link, configuration, suspend and wake (08_loom_function.md R178 to R180, R204 to
R209). -/

namespace Sys2Proof.Machine

/-! ### The link (08_loom_function.md R178, R209) -/

/-- The connection that a rate needs is applied, and the Loom function is not fenced. -/
theorem State.trains_of_applied {r : Nat} {s : State} (applied : (if 2 ≤ r then s.up.ssApplied else s.up.applied) = true)
    (rate : r ≠ 0) (known : r ≤ 5) (unfenced : s.domFenced dLOOM = false) :
    ¬(!(if 2 ≤ r then s.up.ssApplied else s.up.applied) || r == 0 || decide (5 < r) || s.domFenced dLOOM) = true := by
  simp [applied, rate, known, unfenced]

/-- Once the domains are ON the link is in U0; without a pending wake nothing is notified. -/
theorem State.exitU3_of_on {s t : State} (woken : s.wakeBy 1 [dLOOM] = (t, true))
    (quiet : t.flag .LOOMS_STAT_WAKE_PEND = false) :
    s.exitU3 =
      let u := (({ t with loom := { t.loom with u3Exit := false, ownExit := false } } : State).set .LOOMS_STAT_LSTATE 0 0).set
        .HUBS_STAT_SS_STATE 0 1
      if u.flag .LOOMS_STAT_FSUSP then u else u.loomEvent 4 := by
  have still : ((({ t with loom := { t.loom with u3Exit := false, ownExit := false } } : State).set .LOOMS_STAT_LSTATE 0 0).set
      .HUBS_STAT_SS_STATE 0 1).flag .LOOMS_STAT_WAKE_PEND = false := by
    rw [State.flag_set_other _ (by decide), State.flag_set_other _ (by decide)]
    exact quiet
  simp only [State.exitU3, woken, still]
  rfl

/-! ### Function suspend (08_loom_function.md R207) -/

section

variable {s : State} (rate : 2 ≤ s.get .LOOMS_STAT_RATE)
include rate

theorem State.rate_ne_down : ¬(s.get .LOOMS_STAT_RATE == 0) = true := by
  simp [Nat.ne_zero_of_lt rate]

theorem State.rate_ne_highSpeed : ¬(s.get .LOOMS_STAT_RATE == 1) = true := by
  simp [Nat.ne_of_gt rate]

/-- Clearing function suspend of a configured function writes its remote wake first. -/
theorem exec_functionSuspend_of_clear {t : State} (u3 w : Bool) (configured : s.flag .LOOMS_STAT_CONFIGURED = true)
    (written : t = s.setB .LOOMS_STAT_FRWAKE_EN 0 w) :
    exec (.functionSuspend false u3 w) s =
      if !s.flag .LOOMS_STAT_FSUSP then .next t
      else
        let u := (if t.flag .LOOMS_STAT_WAKE_PEND && s.loom.u3Exit && s.loom.notifyAt.isNone then t else t.hostAccess).set
          .LOOMS_STAT_FSUSP 0 0
        .next (if u.get .LOOMS_STAT_LSTATE == 3 then u else u.loomEvent 4) := by
  subst written
  have kept : (s.setB .LOOMS_STAT_FRWAKE_EN 0 w).flag .LOOMS_STAT_FSUSP = s.flag .LOOMS_STAT_FSUSP :=
    s.flag_set_other (by decide) 0 _ 0
  rw [← kept]
  exact (if_neg (State.rate_ne_down rate)).trans ((if_neg (State.rate_ne_highSpeed rate)).trans ((if_neg (by simp)).trans
    ((if_neg (by decide)).trans (if_neg (by simp [configured])))))

end

/-- Settles O59: an event of the link by the rate it has, a configuration request by its value, a suspend request by what it
asks for, and a wake by the state of the link. -/
theorem loomFunctionEvents : Obligations.LoomFunctionEvents := by
  refine ⟨?reset, ?trained, ?recovered, ?onPort97, ?unconfigured, ?configured, ?interface, ?halt, ?u3, ?suspended,
    ?highSpeed, ?cleared, ?wasClear, ?u3Begins, ?u3Ends, ?repeated, ?u1, ?u2⟩
  case reset =>
    intro lost s rate
    refine (if_neg (State.rate_ne_down rate)).trans ?_
    cases lost with
    | true => exact if_pos (by simp [rate])
    | false => rfl
  case trained =>
    intro r s _ ssApplied super known unfenced down
    refine (if_neg (State.trains_of_applied (by rw [if_pos super]; exact ssApplied) (Nat.ne_zero_of_lt super) known
      unfenced)).trans ?_
    refine (if_neg (by simp [down, Nat.ne_zero_of_lt super])).trans ((if_pos super).trans ?_)
    simp only [down]
    rfl
  case recovered =>
    intro r s applied rate known unfenced same notOwn
    refine (if_neg (State.trains_of_applied applied rate known unfenced)).trans ((if_pos (by simp [same])).trans ?_)
    exact congrArg _ (if_neg (by simp [notOwn]))
  case onPort97 =>
    intro s applied unfenced down connected
    refine (if_neg (State.trains_of_applied (r := 1) applied (by decide) (by decide) unfenced)).trans ?_
    exact (if_neg (by simp [down])).trans ((if_neg (by decide)).trans (if_neg (by simpa using connected)))
  case unconfigured =>
    rintro s _ rfl rate on configured
    refine (if_neg (by simp [rate, on])).trans ((if_pos rfl).trans ?_)
    exact congrArg _ (if_pos configured)
  case configured =>
    rintro s _ rfl rate on
    exact (if_neg (by simp [rate, on])).trans ((if_neg (by decide)).trans (if_pos rfl))
  case interface =>
    intro a s configured setting
    refine (if_neg (by simp [configured, setting])).trans ?_
    simp only [beq_iff_eq]
  case halt =>
    intro l s opened
    exact if_pos opened
  case u3 =>
    intro w s rate
    exact (if_neg (State.rate_ne_down rate)).trans ((if_neg (State.rate_ne_highSpeed rate)).trans (if_pos rfl))
  case suspended =>
    intro w s rate configured
    exact (if_neg (State.rate_ne_down rate)).trans ((if_neg (State.rate_ne_highSpeed rate)).trans ((if_neg (by decide)).trans
      ((if_pos rfl).trans (if_neg (by simp [configured])))))
  case highSpeed =>
    intro sus u3 w s rate
    exact (if_neg (by simp [rate])).trans (if_pos (by simp [rate]))
  case cleared =>
    intro u3 w s rate configured suspended noWake
    have noWake : (s.setB .LOOMS_STAT_FRWAKE_EN 0 w).flag .LOOMS_STAT_WAKE_PEND = false :=
      (s.flag_set_other (by decide) 0 _ 0).trans noWake
    refine (exec_functionSuspend_of_clear rate u3 w configured rfl).trans ((if_neg (by simp [suspended])).trans ?_)
    simp only [noWake, beq_iff_eq]
    rfl
  case wasClear =>
    intro u3 w s rate configured clear
    exact (exec_functionSuspend_of_clear rate u3 w configured rfl).trans (if_pos (by simp [clear]))
  case u3Begins =>
    intro s rate inU3 notOwn
    exact (if_neg (by simp [Nat.not_lt.mpr rate, inU3])).trans ((if_neg (by decide)).trans (if_neg (by simp [notOwn])))
  case u3Ends =>
    intro s rate inU3 on quiet
    refine (if_neg (by simpa [Nat.not_lt.mpr rate, or_iff_not_imp_left] using inU3)).trans ((if_pos rfl).trans ?_)
    exact congrArg _ (State.exitU3_of_on (Prod.ext rfl on) quiet)
  case repeated =>
    intro n s notified due pending
    change execWakeNotifyRepeat s = _
    simp only [execWakeNotifyRepeat, notified]
    exact if_pos (by simp [due, pending])
  case u1 =>
    intro n s idle rate inU0 allowed buffers
    exact if_pos (by simp [idle, rate, inU0, allowed, buffers])
  case u2 =>
    intro s rate active allowed
    exact if_pos (by simp [rate, active, allowed])

end Sys2Proof.Machine
end

section
/-! PROOFS. The transfers and records of the Loom function (08_loom_function.md R182, R191 to R202; 07_shuttle_engines.md
R155). -/

namespace Sys2Proof.Machine

/-! ### A record that passes its checks (08_loom_function.md R193) -/

/-- What a SETUP record that has been stored does (07_shuttle_engines.md R155, R174). -/
def State.setupStored (u : State) (c : Ctx) (r : WRec) (cfg : List Nat) : State :=
  if (u.serving c.port).isNone then u.fencedRecord c r
  else match u.devByEp0 c.num with
    | some d =>
      if d.stage == .done then (u.treatSetup { d with later := none } r cfg).poolService
      else u.modDev d.port d.route (fun d => { d with later := some (r, cfg) })
    | none => u

theorem State.setupStored_of_served {u : State} {c : Ctx} {d : Dev} (r : WRec) (cfg : List Nat)
    (served : u.serving c.port ≠ none) (device : u.devByEp0 c.num = some d) :
    u.setupStored c r cfg =
      if d.stage = .done then (u.treatSetup { d with later := none } r cfg).poolService
      else u.modDev d.port d.route (fun d => { d with later := some (r, cfg) }) := by
  refine (if_neg (by simpa using served)).trans ?_
  simp only [device, beq_iff_eq]

section

variable {l : Nat} {r : WRec} {c : Ctx} {s t : State} (passed : Safety.recordAs l r c s t)
include passed

/-- A record that passes has the effect of its type. -/
theorem next_takeRec_of_passed {mine : Nat → Bool} {f : WRec → Ctx → State → State} (isMine : mine r.typ = true) :
    (.next (s.takeRec l mine f) : Host.Outcome State Fault Refusal) = .next (f r c t) :=
  congrArg _ (Laws.takeRec_passed passed isMine)

theorem exec_hostDataRecord_of_passed (data : r.typ = 0) :
    exec (.hostDataRecord l) s = .next (
      let u := t.storeRec c r
      if c.num == 8 then (u.mark 8 r.seq).formRec 8 0 (r.flags % 2) wOK r.data
      else if c.num < 16 || !c.takesData then u.mark c.num r.seq
      else if (u.serving c.port).isNone then u.fencedRecord c r
      else u) :=
  next_takeRec_of_passed passed (by simp [data])

/-- A SETUP record is stored once the transfer before it has ended and the SETUP that waited has gone. -/
theorem exec_setupRecord_of_passed {cfg : List Nat} {u v : State} (setup : r.typ = 1)
    (ended : v = (if c.transferOpen then (t.flushPart c.num).completion c.num wABORT c.xferDone
      else t.flushPart c.num).settleStored c.num)
    (stored : u = (match v.devByEp0 c.num with | some d => v.dropLater d | none => v).storeRec c r) :
    exec (.setupRecord l cfg) s = .next (u.setupStored c r cfg) := by
  subst ended stored
  exact next_takeRec_of_passed passed (by simp [setup])

theorem exec_hostAckRecord_of_passed (ack : r.typ = 5) (unsent : c.sentAt r.seq = none) :
    exec (.hostAckRecord l) s = .next (
      let d := (r.seq + 65536 - c.txAck) % 65536
      if d == 0 || 32768 < d then t.hostRecord c else (t.hostRecord c).count .LOOMS_ERR_GAP_CNT 0) := by
  refine (next_takeRec_of_passed passed (by simp [ack])).trans ?_
  simp only [unsent]

end

/-- Settles O58: a transfer by what its lane holds, and a record by its type and the context it names. -/
theorem loomRecordEvents : Obligations.LoomRecordEvents := by
  refine ⟨?outTransfer, ?outBusy, ?dmaDone, ?data, ?loopback, ?unsent, ?setup, ?setupWaits, ?status, ?abort, ?ack,
    ?ackAgain, ?ackBeyond, ?credit, ?creditIso, ?complete, ?inEmpty, ?inFilled, ?events⟩
  case outTransfer =>
    intro l bs s opened fits free
    exact (if_neg (by simp [opened, fits])).trans (if_neg (by simp [free]))
  case outBusy =>
    intro l bs s opened fits busy
    exact (if_neg (by simp [opened, fits])).trans (if_pos busy)
  case dmaDone =>
    intro l s lane taken
    exact if_pos (by simp [lane, taken])
  case data =>
    intro l r c s t passed data device takes
    have notLoop : c.num ≠ 8 := by omega
    refine (exec_hostDataRecord_of_passed passed data).trans (congrArg _ ?_)
    refine (if_neg (by simp [notLoop])).trans ((if_neg (by simp [takes, device])).trans ?_)
    simp only [Option.isNone_iff_eq_none]
  case loopback =>
    intro l r c s t passed data loop
    exact (exec_hostDataRecord_of_passed passed data).trans (congrArg _ (if_pos (by simp [loop])))
  case unsent =>
    intro l r c s t passed data notLoop ends
    refine (exec_hostDataRecord_of_passed passed data).trans (congrArg _ ?_)
    exact (if_neg (by simp [notLoop])).trans (if_pos (by simpa using ends))
  case setup =>
    intro l cfg d u v r c s t passed setup ended stored served device done
    exact (exec_setupRecord_of_passed passed setup ended stored).trans
      (congrArg _ ((State.setupStored_of_served r cfg served device).trans (if_pos done)))
  case setupWaits =>
    intro l cfg d u v r c s t passed setup ended stored served device resets
    exact (exec_setupRecord_of_passed passed setup ended stored).trans
      (congrArg _ ((State.setupStored_of_served r cfg served device).trans (if_neg resets)))
  case status =>
    rintro l _ e r c s t passed status found rfl
    refine (next_takeRec_of_passed passed (by simp [status])).trans (congrArg _ ?_)
    simp only [found]
  case abort =>
    intro l r c s t passed abort
    exact next_takeRec_of_passed passed (by simp [abort])
  case ack =>
    intro l i r c s t passed ack sent
    refine (next_takeRec_of_passed passed (by simp [ack])).trans (congrArg _ ?_)
    simp only [sent]
  case ackAgain =>
    intro l r c s t passed ack unsent behind
    exact (exec_hostAckRecord_of_passed passed ack unsent).trans (congrArg _ (if_pos (by simpa using behind)))
  case ackBeyond =>
    intro l r c s t passed ack unsent ahead near
    exact (exec_hostAckRecord_of_passed passed ack unsent).trans (congrArg _ (if_neg (by simp [ahead, near])))
  case credit =>
    intro l r c s t passed credit bulk
    refine (next_takeRec_of_passed passed (by simp [credit])).trans (congrArg _ ?_)
    refine (if_neg (by simp [bulk])).trans ?_
    simp only [Bool.and_eq_true] <;> rfl
  case creditIso =>
    intro l r c s t passed credit iso
    exact (next_takeRec_of_passed passed (by simp [credit])).trans (congrArg _ (if_pos iso))
  case complete =>
    intro h c s found own room
    change execOutRecordComplete h s = _
    simp only [execOutRecordComplete, found]
    exact if_pos (by simp [own, room])
  case inEmpty =>
    intro l s opened empty
    exact (if_neg (by simp [opened])).trans (if_pos (by simp [empty]))
  case inFilled =>
    intro l s opened filled
    exact (if_neg (by simp [opened])).trans (if_neg (by simpa using filled))
  case events =>
    intro s configured awake held
    have sends : ¬(!s.flag .LOOMS_STAT_CONFIGURED || s.loomSuspended || (s.ecx.loomEvts.isEmpty && s.ecx.loomLost == 0)) =
        true := by
      simpa [configured, awake] using Classical.not_and_iff_not_or_not.mpr held
    refine (if_neg sends).trans ?_
    simp only [beq_iff_eq]

end Sys2Proof.Machine
end

section
/-! PROOFS. The formats of the Ecrax protocol (09_ecrax_protocol.md R212, R213, R231): bytes and the numbers they spell, the
places of the CRC-32, event records and replies read back, and the CRC-32 itself. -/

namespace Sys2Proof.Machine

/-! ### Numbers as bytes, least significant first (00_scope.md R4) -/

@[simp] theorem length_toLE (n v : Nat) : (toLE n v).length = n := by
  induction n generalizing v with
  | zero => rfl
  | succ n ih => simp [toLE, ih]

theorem ofLE_toLE (n v : Nat) : ofLE (toLE n v) = v % 256 ^ n := by
  induction n generalizing v with
  | zero => simp [toLE, ofLE, Nat.mod_one]
  | succ n ih => rw [toLE, ofLE, ih, Nat.pow_succ', Nat.mod_mul]

@[simp] theorem take_toLE_append (n v : Nat) (l : List Nat) : (toLE n v ++ l).take n = toLE n v :=
  List.take_left' (length_toLE n v)

@[simp] theorem drop_toLE_append {m i : Nat} (v : Nat) (l : List Nat) (h : m ≤ i) :
    (toLE m v ++ l).drop i = l.drop (i - m) := by
  rw [List.drop_append, length_toLE, List.drop_eq_nil_of_le (by simpa using h), List.nil_append]

@[simp] theorem getElem?_toLE_append {m i : Nat} (v : Nat) (l : List Nat) (h : m ≤ i) :
    (toLE m v ++ l)[i]? = l[i - m]? := by
  rw [List.getElem?_append_right (by simpa using h), length_toLE]

/-! ### Where an event record and a reply hold their CRC (09_ecrax_protocol.md R213, R231) -/

theorem EvRec.bytes_eq_append_crc (r : EvRec) : ∃ b, b.length = 28 ∧ r.bytes = b ++ toLE 4 (crc32 b) :=
  ⟨_, by simp, rfl⟩

theorem Reply.bytes_eq_crc_between (r : Reply) :
    ∃ h, h.length = 12 ∧ r.bytes = h ++ (toLE 4 (crc32 (h ++ r.results)) ++ r.results) :=
  ⟨_, by simp, List.append_assoc ..⟩

theorem EvRec.drop_bytes_eq_crc (r : EvRec) :
    r.bytes.length = 32 ∧ r.bytes.drop 28 = toLE 4 (crc32 (r.bytes.take 28)) := by
  obtain ⟨b, long, eq⟩ := r.bytes_eq_append_crc
  rw [eq, List.take_left' long, List.drop_left' long]
  simp [long]

theorem Reply.take_drop_bytes_eq_crc (r : Reply) :
    (r.bytes.drop 12).take 4 = toLE 4 (crc32 (r.bytes.take 12 ++ r.bytes.drop 16)) := by
  obtain ⟨h, long, eq⟩ := r.bytes_eq_crc_between
  have past : r.bytes.drop 16 = r.results := by
    rw [eq, List.drop_append, List.drop_eq_nil_of_le (by omega), long]
    simp
  rw [past, eq, List.drop_left' long, List.take_left' long, take_toLE_append]

/-! ### Reading the bytes back -/

theorem recordOf_bytes {r : EvRec} (seq : r.seq < 2 ^ 16) (unit : r.unit < 2 ^ 16) (dt : r.dt < 2 ^ 64)
    (code : r.code < 2 ^ 16) (detail : r.detail.length = 10) : recordOf r.bytes = r := by
  have fits : r.seq % 65536 = r.seq ∧ r.unit % 65536 = r.unit ∧ r.dt % 18446744073709551616 = r.dt
      ∧ r.code % 65536 = r.code := by omega
  simp [recordOf, EvRec.bytes, leAt, ofLE_toLE, fits, detail]

theorem replyOf_bytes {r : Reply} (tag : r.tag < 2 ^ 16) (status : r.status < 2 ^ 16) (seq : r.seq < 2 ^ 16)
    (results : r.results.length < 2 ^ 16) : replyOf r.chan r.bytes = r := by
  have fits : r.tag % 65536 = r.tag ∧ r.status % 65536 = r.status ∧ r.seq % 65536 = r.seq
      ∧ r.results.length % 65536 = r.results.length := by omega
  have dup : bit (0x11 + 4 * b2n r.dup) 2 = r.dup := by cases r.dup <;> rfl
  simp [replyOf, Reply.bytes, leAt, ofLE_toLE, fits, dup]

/-- Settles O14: each field is read from the bytes that hold it. -/
theorem recordsAndRepliesReadBack : Obligations.RecordsAndRepliesReadBack :=
  ⟨fun _ _ seq _ unit dt code detail => recordOf_bytes seq unit dt code detail,
    fun _ _ tag _ _ status seq results => replyOf_bytes tag status seq results⟩

/-! ### The CRC-32 is the division that R212 words -/

/-- One step of the reflected division, which takes the bit `b` in. -/
def crcStep (c : Nat) (b : Bool) : Nat := if (c % 2 == 1) != b then (c / 2) ^^^ 0xEDB88320 else c / 2

theorem crc32Bit_xor (c x : Nat) : crc32Bit (c ^^^ x) = crcStep c (bit x 0) ^^^ (x / 2) := by
  have odd : (c ^^^ x) % 2 = 1 ↔ ((c % 2 == 1) != bit x 0) = true := by
    rw [Nat.xor_mod_two_eq_one]
    simp [Bool.beq_eq_decide_eq]
  change (if (c ^^^ x) % 2 = 1 then (c ^^^ x) / 2 ^^^ 0xEDB88320 else (c ^^^ x) / 2) = _
  simp only [odd, crcStep, Nat.xor_div_two]
  split
  · exact Nat.xor_right_comm ..
  · rfl

theorem bit_eq_testBit (x i : Nat) : bit x i = x.testBit i := by
  rw [Nat.testBit_eq_decide_div_mod_eq]
  rfl

theorem bit_succ (x i : Nat) : bit x (i + 1) = bit (x / 2) i := by
  rw [bit_eq_testBit, bit_eq_testBit, Nat.testBit_succ]

/-- Adding a byte to the remainder and then dividing is dividing with its bits taken in one by one. -/
theorem iterate_crc32Bit_xor {n x : Nat} (c : Nat) (h : x < 2 ^ n) :
    crc32Bit^[n] (c ^^^ x) = ((List.range n).map (bit x)).foldl crcStep c := by
  induction n generalizing c x with
  | zero =>
    obtain rfl : x = 0 := by omega
    exact Nat.xor_zero c
  | succ n ih =>
    have bits : (List.range n).map (bit x ∘ Nat.succ) = (List.range n).map (bit (x / 2)) :=
      List.map_congr_left fun i _ => bit_succ x i
    rw [Function.iterate_succ_apply, crc32Bit_xor, ih _ (by omega), List.range_succ_eq_map, List.map_cons,
      List.map_map, bits, List.foldl_cons]

theorem crc32Byte_eq_foldl (c b : Nat) : crc32Byte c b = ((List.range 8).map (bit b)).foldl crcStep c := by
  have bits : (List.range 8).map (bit (b % 2 ^ 8)) = (List.range 8).map (bit b) := by
    refine List.map_congr_left fun i hi => ?_
    rw [bit_eq_testBit, bit_eq_testBit, Nat.testBit_mod_two_pow, decide_eq_true (List.mem_range.mp hi), Bool.true_and]
  rw [← bits]
  exact iterate_crc32Bit_xor c (Nat.mod_lt b (Nat.two_pow_pos 8))

theorem reverse_polyStep (c : BitVec 32) (b : Bool) : (polyStep c b).reverse.toNat = crcStep c.reverse.toNat b := by
  have odd : (c.reverse.toNat % 2 == 1) = c.msb := by
    have low : c.reverse.toNat.testBit 0 = c.msb := BitVec.getLsbD_reverse
    rw [← low, Nat.testBit_zero]
    rfl
  have shift : (c <<< 1).reverse = c.reverse >>> 1 := by
    ext i hi
    simp [BitVec.getElem_reverse, BitVec.getLsbD_reverse, BitVec.getMsbD_shiftLeft, Nat.add_comm]
  have dist (x y : BitVec 32) : (x ^^^ y).reverse = x.reverse ^^^ y.reverse := by
    ext i hi
    simp [BitVec.getElem_reverse]
  have poly : (0x04C11DB7#32).reverse.toNat = 0xEDB88320 := by decide +kernel
  have none : (0#32).reverse.toNat = 0 := by rw [BitVec.reverse_eq_zero_iff.mpr rfl]; rfl
  rw [polyStep, crcStep, odd, dist, shift, BitVec.toNat_xor, BitVec.toNat_ushiftRight, Nat.shiftRight_one]
  split
  · rw [poly]
  · rw [none, Nat.xor_zero]

theorem crc32_eq_crcOfSpec (bs : List Nat) : crc32 bs = crcOfSpec bs := by
  have byBits : bs.foldl crc32Byte 0xFFFFFFFF
      = (bs.flatMap fun x => (List.range 8).map (bit x)).foldl crcStep 0xFFFFFFFF := by
    rw [List.foldl_flatMap]
    congr 1
    funext c b
    exact crc32Byte_eq_foldl c b
  have reflected := List.foldl_hom (fun c : BitVec 32 => c.reverse.toNat) (g₁ := polyStep) (g₂ := crcStep)
    (l := bs.flatMap fun x => (List.range 8).map (bit x)) (init := 0xFFFFFFFF#32)
    (fun c b => (reverse_polyStep c b).symm)
  rw [crc32, byBits, crcOfSpec, BitVec.toNat_xor]
  exact congrArg (Nat.xor · 0xFFFFFFFF) reflected

/-! ### Where the CRC decides (09_ecrax_protocol.md R214, R234) -/

theorem packetParams_of_enough {c : Chan} {bs : List Nat} (enough : 16 + min (leAt bs 6 2) 4080 ≤ bs.length)
    (whole : c = .loom → 16 + min (leAt bs 6 2) 4080 = bs.length) :
    packetParams c bs = (bs.drop 16).take (min (leAt bs 6 2) 4080) := by
  by_cases loom : c = .loom
  · have := whole loom
    exact (if_pos (by simp [loom])).trans (List.take_of_length_le (by simp; omega)).symm
  · exact (if_neg (by simpa using loom)).trans (List.take_append_of_le_length (by simp; omega))

theorem exec_loomPacketReceived {c : Chan} (taken : c ≠ .profile) (o : Nat) (bs : List Nat) (s : State) :
    exec (.loomPacketReceived c o bs) s = .next (receivePacket c o bs s) :=
  if_neg (by simpa using taken)

/-- The CRC is the first check of a packet that its channel has room for (09_ecrax_protocol.md R214, R218). -/
theorem receivePacket_of_crcWrong {c : Chan} {bs : List Nat} {s : State} (o : Nat) (room : s.held c < 16)
    (wrong : crc32 (bs.take 12 ++ packetParams c bs) ≠ leAt bs 12 4) :
    receivePacket c o bs s = (s.touch (dCTL s.lead)).bareReply c (bs.getD 1 0 % 256) (leAt bs 2 2) (bs.getD 5 0 % 256)
      (leAt bs 8 4) stCRC_ERROR false s.idx := by
  have below : ¬16 ≤ s.held c := Nat.not_le.mpr room
  refine (if_neg (by simp [below])).trans ((if_neg (by simp [below])).trans ((if_pos (by simpa using wrong)).trans ?_))
  rw [Laws.touch_idx]
  rfl

theorem profileCheck_eq_two_iff {bs : List Nat} (s : State) (structured : profileStructOk bs = true) :
    profileCheck s bs = 2 ↔ crc32 (bs.take (bs.length - 4)) ≠ leAt bs (bs.length - 4) 4 := by
  rw [profileCheck, if_neg (by simp [structured])]
  constructor
  · intro two right
    rw [if_neg (by simp [right])] at two
    revert two
    dsimp only
    (repeat' split) <;> simp
  · intro wrong
    exact if_pos (by simpa using wrong)

/-- Settles O13: the model's CRC takes the bits in one by one, as the reflected remainder of the spec's does. -/
theorem crcOfTheSpec : Obligations.CrcOfTheSpec := by
  refine ⟨crc32_eq_crcOfSpec, by decide +kernel, Reply.take_drop_bytes_eq_crc, EvRec.drop_bytes_eq_crc, ?_,
    fun s bs => profileCheck_eq_two_iff s⟩
  intro c o bs s taken room enough whole wrong
  rw [← packetParams_of_enough enough whole] at wrong
  rw [exec_loomPacketReceived taken, receivePacket_of_crcWrong o room wrong]

end Sys2Proof.Machine
end

section
/-! PROOFS. Commands and packets of the Ecrax channels (09_ecrax_protocol.md R214 to R222): one command a step, the turn of an
opcode and the check that refuses it, a received packet, and the windows and replies of a channel. -/

namespace Sys2Proof.Machine

/-! ### The queue of commands -/

/-- Settles O7: the law of a step gives the queue of the next state with its soundness. -/
theorem stepTakesOneCommand : Obligations.StepTakesOneCommand := by
  intro s t sound next
  exact ((Laws.ok_iff ..).mp (Laws.out_elim (Laws.step_ok sound) t next)).1

/-! ### The turn of an opcode and the checks at its start (09_ecrax_protocol.md R214, R222) -/

/-- The command runs the opcode, with the domains that it needs and an effect of its own. -/
def RunsOpcode (o : Nat) (c : Packet → Instr) : Prop :=
  ∃ (need : Packet → State → List Nat) (eff : Packet → State → OpOut),
    ∀ (p : Packet) (s : State), exec (c p) s = .next (runOp o p need eff s)

theorem runsOpcode_of_mem_opcodeRows : ∀ r ∈ opcodeRows, RunsOpcode r.1 r.2 := by
  simp only [opcodeRows, List.forall_mem_cons]
  repeat' apply And.intro
  case right => exact List.forall_mem_nil _
  all_goals exact ⟨_, _, fun _ _ => rfl⟩

theorem mustWait_of_more_urgent {q : List Packet} {w p : Packet} (waits : w ∈ q) (urgent : w.cls < p.cls)
    (other : samePacket w p = false) : mustWait q p = true :=
  Bool.or_eq_true_iff.mpr (.inl (List.any_eq_true.mpr ⟨w, waits, by simp [urgent, other]⟩))

section

variable {s : State} {p : Packet}

theorem refusalOf_of_responder (held : s.safeHold = true ∨ s.ready = false) (no : responderRuns p = false) :
    refusalOf s p = some (if s.graveClear p = true then stSAFE_HOLD else stINTERNAL) :=
  if_pos (by simpa [no] using held)

variable (free : s.safeHold = false) (ready : s.ready = true)
include free ready

theorem refusalOf_of_channel (no : channelOk p.opcode p.chan = false ∨ s.masked p.opcode p.chan = true) :
    refusalOf s p = some stDENIED_CHANNEL :=
  (if_neg (by simp [free, ready])).trans (if_pos (by simpa using no))

variable (chan : channelOk p.opcode p.chan = true) (unmasked : s.masked p.opcode p.chan = false)
include chan unmasked

theorem refusalOf_of_lifecycle (no : lifecycleOk s.lifecycle p = false) : refusalOf s p = some stDENIED_LIFECYCLE :=
  (if_neg (by simp [free, ready])).trans ((if_neg (by simp [chan, unmasked])).trans (if_pos (by simp [no])))

theorem refusalOf_of_params (lc : lifecycleOk s.lifecycle p = true) (no : paramsOk s p = false) :
    refusalOf s p = some stBAD_PARAM :=
  (if_neg (by simp [free, ready])).trans ((if_neg (by simp [chan, unmasked])).trans ((if_neg (by simp [lc])).trans
    (if_pos (by simp [no]))))

theorem refusalOf_of_unit (lc : lifecycleOk s.lifecycle p = true) (params : paramsOk s p = true)
    (fenced : unitFencedFor s p = true) : refusalOf s p = some stTARGET_FENCED :=
  (if_neg (by simp [free, ready])).trans ((if_neg (by simp [chan, unmasked])).trans ((if_neg (by simp [lc])).trans
    ((if_neg (by simp [params])).trans (if_pos fenced))))

end

/-- Settles O8: every row of the table runs its opcode, so its turn and the first check that fails decide. -/
theorem opcodeTurnsAndRefusals : Obligations.OpcodeTurnsAndRefusals := by
  intro o c row p s q turned
  obtain ⟨need, eff, runs⟩ := runsOpcode_of_mem_opcodeRows _ row
  have waits (h : runOp o p need eff s = s.opWaiting q) : exec (c p) s = .next (s.opWaiting q) :=
    (runs p s).trans (congrArg _ h)
  have refused {st : Nat} (turn : mustWait s.ecx.queue q = false) (lead : s.noLead = false)
      (check : refusalOf s q = some st) : turned st :=
    (runs p s).trans (congrArg _ (Laws.runOp_refused turn lead check))
  refine ⟨?behind, fun noLead => waits (Laws.runOp_waits_lead noLead), ?responder, ?checks⟩
  case behind =>
    intro w waiting urgent other
    exact waits (Laws.runOp_waits (mustWait_of_more_urgent waiting urgent other))
  case responder =>
    intro turn lead held no
    exact refused turn lead (refusalOf_of_responder held no)
  case checks =>
    intro turn lead free ready
    refine ⟨fun no => refused turn lead (refusalOf_of_channel free ready no), fun chan unmasked => ⟨?_, ?_, ?_⟩⟩
    · exact fun no => refused turn lead (refusalOf_of_lifecycle free ready chan unmasked no)
    · exact fun lc no => refused turn lead (refusalOf_of_params free ready chan unmasked lc no)
    · exact fun lc params fenced => refused turn lead (refusalOf_of_unit free ready chan unmasked lc params fenced)

/-! ### The checks of a received packet (09_ecrax_protocol.md R214, R216, R218, R219) -/

/-- The packet names the device itself. -/
def State.isTarget (s : State) (bs : List Nat) : Bool := bs.getD 4 0 % 256 == 255 || bs.getD 4 0 % 256 == s.idx

/-- The packet names a present worker of this manager. -/
def State.sendsAway (s : State) (bs : List Nat) : Bool := !s.isTarget bs && s.presentWorker (bs.getD 4 0 % 256)

/-- The device that is to execute the packet, as its channel keeps it (09_ecrax_protocol.md R213). -/
def State.executor (s : State) (bs : List Nat) : Nat := if s.sendsAway bs then bs.getD 4 0 % 256 else s.idx

/-- A packet for a worker is journaled and kept for it until its class bound (09_ecrax_protocol.md R219). -/
def State.forwardPacket (s : State) (c : Chan) (p : Packet) (bs : List Nat) : State :=
  let u := s.addEntry (entryOf s p stINTERNAL false)
  { u with ecx := { u.ecx with
      forwards := u.ecx.forwards ++
      [{ pkt := p, worker := bs.getD 4 0 % 256, deadline := u.dt + forwardBound p.cls,
         bytes := bs.take 16 ++ packetParams c bs }] } }

/-- What a packet that has passed the checks before the device's own meets: those, or its channel's queue. -/
def State.queuePacket (s : State) (p : Packet) : State :=
  match refusalOf s p with
  | some st => s.refusePacket p st
  | none => { s with ecx := { s.ecx with queue := s.ecx.queue ++ [p] } }

/-- What a packet that repeats the kept one `k` is answered. -/
def State.answerAgain (s : State) (c : Chan) (p : Packet) (k : KeptPacket) : State :=
  match k.status with
  | some st => s.bareReply c k.opcode p.tag k.cls p.seq st true k.dev
  | none => s.await { id := { chan := c, tag := p.tag, cls := k.cls, opcode := k.opcode, seq := p.seq }, dup := true }

/-- What a new packet meets, from the check of its header on. -/
def State.newPacket (s : State) (c : Chan) (p : Packet) (bs : List Nat) : State :=
  let u := s.accept p (s.executor bs)
  if !headerRight bs then u.refusePacket p stBAD_PARAM
  else if !opcodeDefined p.opcode then u.refusePacket p stBAD_OPCODE
  else if s.isTarget bs then u.queuePacket p
  else if s.sendsAway bs then u.forwardPacket c p bs
  else u.refusePacket p stTARGET_ABSENT

/-- The packet repeats the kept one. -/
def repeats (p : Packet) (k : KeptPacket) : Bool := k.seq == p.seq && k.tag == p.tag

@[simp] theorem State.touch_isTarget (s : State) (d : Nat) (bs : List Nat) : (s.touch d).isTarget bs = s.isTarget bs := by
  rw [State.isTarget, Laws.touch_idx, State.isTarget]

@[simp] theorem State.touch_sendsAway (s : State) (d : Nat) (bs : List Nat) :
    (s.touch d).sendsAway bs = s.sendsAway bs := by
  rw [State.sendsAway, State.touch_isTarget, Laws.touch_presentWorker, State.sendsAway]

@[simp] theorem State.touch_executor (s : State) (d : Nat) (bs : List Nat) : (s.touch d).executor bs = s.executor bs := by
  simp only [State.executor, State.touch_sendsAway, Laws.touch_idx]

theorem State.isTarget_iff {s : State} {bs : List Nat} :
    s.isTarget bs = true ↔ bs.getD 4 0 % 256 = 255 ∨ bs.getD 4 0 % 256 = s.idx := by
  simp [State.isTarget]

theorem State.isTarget_eq_false {s : State} {bs : List Nat} (notAny : bs.getD 4 0 % 256 ≠ 255)
    (notOwn : bs.getD 4 0 % 256 ≠ s.idx) : s.isTarget bs = false :=
  Bool.eq_false_iff.mpr fun h => (State.isTarget_iff.mp h).elim notAny notOwn

theorem State.sendsAway_iff {s : State} {bs : List Nat} :
    s.sendsAway bs = true ↔ bs.getD 4 0 % 256 ≠ 255 ∧ bs.getD 4 0 % 256 ≠ s.idx
      ∧ s.presentWorker (bs.getD 4 0 % 256) = true := by
  simp [State.sendsAway, State.isTarget, and_assoc]

theorem State.executor_eq (s : State) (bs : List Nat) :
    s.executor bs = if bs.getD 4 0 % 256 ≠ 255 ∧ bs.getD 4 0 % 256 ≠ s.idx
      ∧ s.presentWorker (bs.getD 4 0 % 256) = true then bs.getD 4 0 % 256 else s.idx :=
  if_congr State.sendsAway_iff rfl rfl

theorem State.executor_of_away {s : State} {bs : List Nat} (away : s.sendsAway bs = true) :
    s.executor bs = bs.getD 4 0 % 256 :=
  if_pos away

theorem State.executor_of_stays {s : State} {bs : List Nat} (stays : s.sendsAway bs = false) : s.executor bs = s.idx :=
  if_neg (Bool.eq_false_iff.mp stays)

theorem State.sendsAway_of_isTarget {s : State} {bs : List Nat} (own : s.isTarget bs = true) : s.sendsAway bs = false := by
  rw [State.sendsAway, own]
  rfl

section

variable {c : Chan} {o : Nat} {bs : List Nat} {s : State}

/-- A full hierarchy channel answers `BUSY` before any check (notes/assumptions/177.md). -/
theorem receivePacket_of_busy (hier : c = .hierarchy) (full : 16 ≤ s.held c) :
    receivePacket c o bs s = (s.touch (dCTL s.lead)).bareReply c (bs.getD 1 0 % 256) (leAt bs 2 2)
      (bs.getD 5 0 % 256) (leAt bs 8 4) stBUSY false s.idx := by
  refine (if_neg (by simp [hier])).trans ((if_pos (by simp [Laws.touch_held, full, beq_iff_eq.mpr hier])).trans ?_)
  rw [Laws.touch_idx]
  rfl

theorem receivePacket_of_badLength {t : State} (right : Safety.crcRight c bs s) (touched : t = s.touch (dCTL s.lead))
    (bad : leAt bs 6 2 > 4080 ∨ leAt bs 6 2 ≠ (packetParams c bs).length) :
    receivePacket c o bs s = (t.addEntry (entryOf t (packetOf c o bs) stBAD_LENGTH false)).bareReply c
      (packetOf c o bs).opcode (packetOf c o bs).tag (packetOf c o bs).cls (packetOf c o bs).seq stBAD_LENGTH false t.idx := by
  obtain ⟨_, room, crc⟩ := right
  have below : ¬16 ≤ s.held c := Nat.not_le.mpr room
  subst touched
  exact (if_neg (by simp [below])).trans ((if_neg (by simp [below])).trans ((if_neg (by simp [crc])).trans
    (if_pos (by simpa using bad))))

/-- A packet of the right length repeats the one its channel keeps, or is new. -/
theorem receivePacket_of_lengthRight (right : Safety.lengthRight c bs s) :
    receivePacket c o bs s =
      match ((s.touch (dCTL s.lead)).kept c).filter (repeats (packetOf c o bs)) with
      | some k => (s.touch (dCTL s.lead)).answerAgain c (packetOf c o bs) k
      | none => (s.touch (dCTL s.lead)).newPacket c (packetOf c o bs) bs := by
  obtain ⟨⟨_, room, crc⟩, short, length⟩ := right
  have below : ¬16 ≤ s.held c := Nat.not_le.mpr room
  refine (if_neg (by simp [below])).trans ((if_neg (by simp [below])).trans ((if_neg (by simp [crc])).trans
    ((if_neg (by simp [short, ← length])).trans ?_)))
  cases (s.touch (dCTL s.lead)).kept c <;> rfl

theorem receivePacket_of_repeat {k : KeptPacket} (right : Safety.lengthRight c bs s) (kept : s.kept c = some k)
    (seq : k.seq = (packetOf c o bs).seq) (tag : k.tag = (packetOf c o bs).tag) :
    receivePacket c o bs s = (s.touch (dCTL s.lead)).answerAgain c (packetOf c o bs) k := by
  have found : ((s.touch (dCTL s.lead)).kept c).filter (repeats (packetOf c o bs)) = some k := by
    simp [kept, Option.filter, repeats, seq, tag]
  rw [receivePacket_of_lengthRight right, found]

theorem receivePacket_of_isNew (new : Safety.isNew c bs s) :
    receivePacket c o bs s = (s.touch (dCTL s.lead)).newPacket c (packetOf c o bs) bs := by
  obtain ⟨right, other⟩ := new
  have found : ((s.touch (dCTL s.lead)).kept c).filter (repeats (packetOf c o bs)) = none := by
    rw [Laws.touch_kept, Option.filter_eq_none_iff]
    intro k kept same
    exact other k kept (by simpa [repeats, packetOf] using same)
  rw [receivePacket_of_lengthRight right, found]

theorem exec_loomPacketReceived_of_repeat {k : KeptPacket} (right : Safety.lengthRight c bs s) (kept : s.kept c = some k)
    (seq : k.seq = (packetOf c o bs).seq) (tag : k.tag = (packetOf c o bs).tag) :
    exec (.loomPacketReceived c o bs) s = .next ((s.touch (dCTL s.lead)).answerAgain c (packetOf c o bs) k) := by
  rw [exec_loomPacketReceived right.1.1, receivePacket_of_repeat right kept seq tag]

theorem exec_loomPacketReceived_of_isNew (new : Safety.isNew c bs s) :
    exec (.loomPacketReceived c o bs) s = .next ((s.touch (dCTL s.lead)).newPacket c (packetOf c o bs) bs) := by
  rw [exec_loomPacketReceived new.1.1.1, receivePacket_of_isNew new]

end

/-! ### A new packet, from the state that has accepted it -/

section

variable {c : Chan} {p : Packet} {bs : List Nat} {s u : State} (accepted : u = s.accept p (s.executor bs))
include accepted

theorem State.newPacket_of_header (wrong : headerRight bs = false) : s.newPacket c p bs = u.refusePacket p stBAD_PARAM := by
  subst accepted
  exact if_pos (by simp [wrong])

variable (header : headerRight bs = true)
include header

theorem State.newPacket_of_opcode (wrong : opcodeDefined p.opcode = false) :
    s.newPacket c p bs = u.refusePacket p stBAD_OPCODE := by
  subst accepted
  exact (if_neg (by simp [header])).trans (if_pos (by simp [wrong]))

variable (opcode : opcodeDefined p.opcode = true)
include opcode

theorem State.newPacket_of_own (own : s.isTarget bs = true) : s.newPacket c p bs = u.queuePacket p := by
  subst accepted
  exact (if_neg (by simp [header])).trans ((if_neg (by simp [opcode])).trans (if_pos own))

theorem State.newPacket_of_away (away : s.sendsAway bs = true) : s.newPacket c p bs = u.forwardPacket c p bs := by
  have notOwn : ¬s.isTarget bs = true := fun own => by simp [State.sendsAway_of_isTarget own] at away
  subst accepted
  exact (if_neg (by simp [header])).trans ((if_neg (by simp [opcode])).trans ((if_neg notOwn).trans (if_pos away)))

theorem State.newPacket_of_absent (notOwn : s.isTarget bs = false) (stays : s.sendsAway bs = false) :
    s.newPacket c p bs = u.refusePacket p stTARGET_ABSENT := by
  subst accepted
  exact (if_neg (by simp [header])).trans ((if_neg (by simp [opcode])).trans
    ((if_neg (by simp [notOwn])).trans (if_neg (by simp [stays]))))

end

/-- A new packet for the device itself meets the device's own checks. -/
theorem exec_loomPacketReceived_of_own {c : Chan} {o : Nat} {bs : List Nat} {s t : State} (new : Safety.isNew c bs s)
    (accepted : t = (s.touch (dCTL s.lead)).accept (packetOf c o bs) s.idx) (header : headerRight bs = true)
    (opcode : opcodeDefined (packetOf c o bs).opcode = true)
    (own : bs.getD 4 0 % 256 = 255 ∨ bs.getD 4 0 % 256 = s.idx) :
    exec (.loomPacketReceived c o bs) s = .next (t.queuePacket (packetOf c o bs)) := by
  have target : s.isTarget bs = true := State.isTarget_iff.mpr own
  rw [← State.executor_of_stays (State.sendsAway_of_isTarget target), ← State.touch_executor] at accepted
  rw [exec_loomPacketReceived_of_isNew new, State.newPacket_of_own accepted header opcode (by simpa)]

/-! ### The mailbox windows, EP1 and a forwarded command (09_ecrax_protocol.md R217, R219, R220) -/

theorem exec_mailboxPacketTaken_of_room {s : State} (busy : s.flag .MBOX_STAT_IN_BUSY = true) (room : s.held .mailbox < 16) :
    exec .mailboxPacketTaken s =
      .next ((receivePacket .mailbox 255 (s.inBytes 4096) s).set .MBOX_STAT_IN_BUSY 0 0) :=
  if_pos (by simp [busy, room])

theorem outDone_eq (s : State) : outDone s =
    (let w := s.mbox.outWin
     let t := if s.flag .MBOX_STAT_OUT_REPLY = true ∧ s.restartReply .mailbox (w.getD 1 0) (leAt w 2 2) (leAt w 10 2) = true
         ∧ bit (w.getD 0 0) 2 = false then s.restartNow else s
     ((t.set .MBOX_STAT_OUT_REPLY 0 0).set .MBOX_STAT_OUT_EVT 0 0).fillMailbox) := by
  simp only [outDone, Bool.and_eq_true, Bool.not_eq_true', and_assoc]

theorem exec_forwardTimeout_of_due {tag : Nat} {c : Chan} {f : Forwarded} {s : State}
    (due : s.ecx.forwards.find? (fun f => f.pkt.tag == tag && f.pkt.chan == c && f.deadline ≤ s.dt) = some f) :
    exec (.forwardTimeout tag c) s = .next (s.forwardLate f) := by
  change execForwardTimeout tag c s = _
  rw [execForwardTimeout, due]

theorem exec_ep1ReplyTransfer_of_configured {r : Reply} {rest : List Reply} {s : State} (ready : s.ecx.loomOut = r :: rest)
    (configured : s.flag .LOOMS_STAT_CONFIGURED = true) :
    exec .ep1ReplyTransfer s = .next (
      let t := { s with ecx := { s.ecx with loomOut := rest } }
      if t.restartReply .loom r.opcode r.tag r.seq = true ∧ r.dup = false then t.restartNow else t) := by
  change execEp1ReplyTransfer s = _
  simp only [execEp1ReplyTransfer, ready, configured, if_true, Bool.and_eq_true, Bool.not_eq_true']

/-- Settles O60: a packet by the first check it fails, and the other events by the state of their window or path. -/
theorem ecraxChannelEvents : Obligations.EcraxChannelEvents := by
  refine ⟨?badLength, ?answered, ?awaited, ?header, ?opcode, ?absent, ?away, ?refused, ?queued, ?busy, ?ring, ?ringLost,
    ?taken, ?outDone, ?late, ?ep1⟩
  case badLength =>
    rintro c o bs _ s t right rfl touched bad
    exact (exec_loomPacketReceived right.1 o bs s).trans (congrArg _ (receivePacket_of_badLength right touched bad))
  case answered =>
    rintro c o bs _ k st s _ right rfl rfl kept seq tag status
    rw [exec_loomPacketReceived_of_repeat right kept seq tag, State.answerAgain, status]
  case awaited =>
    rintro c o bs _ k s _ right rfl rfl kept seq tag status
    rw [exec_loomPacketReceived_of_repeat right kept seq tag, State.answerAgain, status]
  case header =>
    rintro c o bs _ s t new rfl accepted wrong
    rw [← State.executor_eq, ← State.touch_executor] at accepted
    rw [exec_loomPacketReceived_of_isNew new, State.newPacket_of_header accepted wrong]
  case opcode =>
    rintro c o bs _ s t new rfl accepted header wrong
    rw [← State.executor_eq, ← State.touch_executor] at accepted
    rw [exec_loomPacketReceived_of_isNew new, State.newPacket_of_opcode accepted header wrong]
  case absent =>
    rintro c o bs _ s t new rfl accepted header opcode notAny notOwn absent
    have other : s.isTarget bs = false := State.isTarget_eq_false notAny notOwn
    have stays : s.sendsAway bs = false := by rw [State.sendsAway, absent, Bool.and_false]
    rw [← State.executor_of_stays stays, ← State.touch_executor] at accepted
    rw [exec_loomPacketReceived_of_isNew new, State.newPacket_of_absent accepted header opcode (by simpa) (by simpa)]
  case away =>
    rintro c o bs _ s t new rfl accepted header opcode notAny notOwn present
    have away : s.sendsAway bs = true := State.sendsAway_iff.mpr ⟨notAny, notOwn, present⟩
    rw [← State.executor_of_away away, ← State.touch_executor] at accepted
    rw [exec_loomPacketReceived_of_isNew new, State.newPacket_of_away accepted header opcode (by simpa)]
    rfl
  case refused =>
    rintro c o bs _ st s t new rfl accepted header opcode own refused
    rw [exec_loomPacketReceived_of_own new accepted header opcode own, State.queuePacket, refused]
  case queued =>
    rintro c o bs _ s t new rfl accepted header opcode own passed
    rw [exec_loomPacketReceived_of_own new accepted header opcode own, State.queuePacket, passed]
  case busy =>
    intro o bs s full
    rw [exec_loomPacketReceived (by decide), receivePacket_of_busy rfl full]
  case ring => exact fun s idle => congrArg _ (if_neg (Bool.eq_false_iff.mp idle))
  case ringLost => exact fun s busy => congrArg _ (if_pos busy)
  case taken => exact fun s => exec_mailboxPacketTaken_of_room
  case outDone => exact fun s => congrArg (fun t => Host.Outcome.next (State.ibiCheck t)) (outDone_eq s.ibiCheck)
  case late => exact fun tag c f s => exec_forwardTimeout_of_due
  case ep1 => exact fun r rest s => exec_ep1ReplyTransfer_of_configured

end Sys2Proof.Machine
end

section
/-! PROOFS. The opcodes of the Ecrax channels once they run (10_ecrax_opcodes.md R239 to R254), group by group. -/

namespace Sys2Proof.Machine

/-! ### What every opcode that runs does (10_ecrax_opcodes.md R239, 09_ecrax_protocol.md R225) -/

/-- An opcode that runs acts from the state it starts in, and is answered. -/
theorem exec_of_starts {i : Instr} {o : Nat} {p : Packet} {need : Packet → State → List Nat}
    {eff : Packet → State → OpOut} {ds : List Nat} {s t : State} {out : OpOut}
    (opcode : exec i s = .next (runOp o p need eff s)) (wakes : need (opPacket o p) s = ds)
    (starts : Safety.startsAs o ds p s t) (acts : eff (opPacket o p) t = out) :
    exec i s = .next (opEnd (opPacket o p) out) := by
  subst wakes acts
  rw [opcode, Laws.runOp_starts starts]

/-- What an opcode answers whose effect is a state and its status alone. -/
def OpOut.ofStatus (r : State × Nat) : OpOut := { st := r.1, status := r.2 }

/-- Such an opcode answers `OK` where its effect does. -/
theorem OpOut.ofStatus_ok {r : State × Nat} {t : State} (h : r = (t, stOK)) : OpOut.ofStatus r = .ok t := h ▸ rfl

/-! ### The device group (10_ecrax_opcodes.md R241 to R243) -/

/-- What `PROFILE_WRITE` does with the bytes staged up to and with its piece. -/
def profileStaged (last : Bool) (bs : List Nat) (t : State) : OpOut :=
  let u : State := { t with ecx := { t.ecx with staging := bs } }
  let w := u.writeProfile bs
  let v : State := { w.1 with ecx := { w.1.ecx with staging := [] } }
  if last then (if w.2 = 0 then .ok v else { st := v, status := stVERIFY_FAILED, results := [w.2] }) else .ok u

/-- A piece that continues what is staged, or begins anew at offset 0, is taken. -/
theorem exec_profileWrite_of_fits {p : Packet} {s t : State} {old : List Nat} (starts : Safety.startsAs 0x07 [] p s t)
    (flash : t.noFlash = false) (held : (if p.u32 0 = 0 then [] else t.ecx.staging) = old)
    (offset : p.u32 0 = old.length) (fits : old.length + (p.params.drop 8).length ≤ 65536) :
    exec (.profileWrite p) s =
      .next (opEnd (opPacket 0x07 p) (profileStaged (p.u8 4 != 0) (old ++ p.params.drop 8) t)) := by
  subst held
  refine exec_of_starts rfl rfl starts ((if_neg (Bool.eq_false_iff.mp flash)).trans ?_)
  simp only [beq_iff_eq, Laws.opPacket_u32, Laws.opPacket_u8, Laws.opPacket_params]
  refine (if_neg (by simpa [← offset] using fits)).trans ?_
  by_cases last : p.u8 4 = 0 <;> simp [profileStaged, last]

/-- Settles O35: an opcode that reads or sets answers as the model runs it; `CONNECT`, `JOURNAL_READ` and `PROFILE_WRITE` by
the holdoff, the form and the piece they meet. -/
theorem deviceGroupOpcodes : Obligations.DeviceGroupOpcodes := by
  refine ⟨?info, ?status, ?connect, ?deferred, ?disconnect, ?restart, ?journal, ?entry, ?mask, ?first, ?next, ?whole,
    ?last, ?read, ?erase⟩
  case info | status | restart | mask => exact fun p s t starts => exec_of_starts rfl rfl starts rfl
  case disconnect => exact fun p s t starts => exec_of_starts rfl rfl starts (by simp only [State.set_up])
  case connect => exact fun p s t starts free => exec_of_starts rfl rfl starts (if_neg (Bool.eq_false_iff.mp free))
  case deferred => exact fun p s t starts held => exec_of_starts rfl rfl starts (if_pos held)
  case journal => exact fun p s t starts all => exec_of_starts rfl rfl starts (by simp [all])
  case entry => exact fun p s t starts one => exec_of_starts rfl rfl starts (by simp [one])
  case first =>
    intro p s t starts flash new more fits
    rw [exec_profileWrite_of_fits starts flash (if_pos new) new (by simpa using fits), more]
    rfl
  case next =>
    intro p s t starts flash later offset more fits
    rw [exec_profileWrite_of_fits starts flash (if_neg later) offset fits, more]
    rfl
  case whole =>
    intro p s t starts flash new last fits
    rw [exec_profileWrite_of_fits starts flash (if_pos new) new (by simpa using fits), last]
    rfl
  case last =>
    intro p s t starts flash later offset last fits
    rw [exec_profileWrite_of_fits starts flash (if_neg later) offset fits, last]
    rfl
  case read =>
    intro p s t starts flash
    refine exec_of_starts rfl rfl starts ((if_neg (Bool.eq_false_iff.mp flash)).trans ?_)
    simp
  case erase => exact fun p s t starts flash => exec_of_starts rfl rfl starts (if_neg (Bool.eq_false_iff.mp flash))


/-! ### The port group (10_ecrax_opcodes.md R244) -/

/-- A mode that `PORT_MODE_SET` may give is asked for, with `PUBLIC` set first where its value is given (R113, R244). -/
theorem State.setMode_of_accepted {s : State} {n m : Nat} (lc : s.lifecycle ≠ lcRETIRED)
    (linked : s.linkDead (skeinOfPort n) = false) (served : m = 3 → (s.serving n).isSome = true)
    (free : s.skHeld (skeinOfPort n) = false) (given : Bool) (v : Nat) (q : Option ReqId) :
    s.setMode n m (if given then some v else none) q =
      (if given then s.set .PORT_MODE_PUBLIC n v else s).requestMode n m q := by
  have able : ¬(m == 3 && (s.serving n).isNone) = true := by
    rw [Bool.and_eq_true, beq_iff_eq]
    exact fun h => absurd h.2 (by simp [Option.isSome_iff_ne_none.mp (served h.1)])
  refine (if_neg (by simp [lc])).trans ((if_neg (by simp [linked])).trans ((if_neg able).trans
    ((if_neg (by simp [free])).trans ?_)))
  cases given <;> rfl

section

variable {s : State} {n : Nat} (free : s.skHeld (skeinOfPort n) = false)
include free

theorem State.vbusOn_of_unlatched (mode : s.mode n ≠ 0) (notDeferred : s.flag .PWR_STAT_DEFERRED n = false)
    (unlatched : s.pwr n ≠ 7) (q : Option ReqId) :
    s.vbusOn n q =
      if s.pwr n = 5 ∨ s.pwr n = 6 then
        (((s.set .PWR_CFG_PWR_EN n 1).set .PWR_STAT_DEFERRED n 1).modPort n (fun p => { p with deferBy := q }), stDEFERRED)
      else ((s.set .PWR_CFG_PWR_EN n 1).evalPower n, stOK) := by
  refine (if_neg (by simp [free])).trans ((if_neg (by simp [mode])).trans ((if_neg (by simp [unlatched])).trans
    ((if_neg (by simp [notDeferred])).trans ?_)))
  simp only [Bool.or_eq_true, beq_iff_eq]

theorem State.latchClear_of_latched (latched : s.pwr n = 7) :
    s.latchClear n = ((s.set .PWR_STAT_RETRY_LEFT n (s.get .PWR_CFG_RETRIES n)).toPower n 5, stOK) :=
  (if_neg (by simp [free])).trans (if_pos (by simp [latched]))

end

/-- Settles O36: a mode and a power request by what its port meets, the configuration and the rescan by the state of the port,
and the others as the model runs them. -/
theorem portGroupOpcodes : Obligations.PortGroupOpcodes := by
  refine ⟨?mode, ?terminated, ?enable, ?disable, ?on, ?onLater, ?off, ?clear, ?config, ?status, ?rescan⟩
  case mode =>
    intro p s t starts plain lc linked free
    have other : p.u8 1 ≠ 3 := by omega
    exact exec_of_starts rfl (by simp [modeNeeds, other]) starts
      (congrArg OpOut.ofStatus (State.setMode_of_accepted lc linked (absurd · other) free ..))
  case terminated =>
    intro p s t i starts mode held served lc linked servedNow free
    rw [← mode]
    exact exec_of_starts rfl (if_neg (by simp [held, served])) starts
      (congrArg OpOut.ofStatus (State.setMode_of_accepted lc linked (fun _ => by simp [servedNow]) free ..))
  case enable => exact fun p s t starts attached => exec_of_starts rfl rfl starts (if_pos attached)
  case disable | off | status => exact fun p s t starts => exec_of_starts rfl rfl starts rfl
  case on =>
    intro p s t starts free mode notDeferred low
    exact exec_of_starts rfl rfl starts
      (OpOut.ofStatus_ok ((State.vbusOn_of_unlatched free mode notDeferred (by omega) _).trans (if_neg (by omega))))
  case onLater =>
    intro p s t starts free mode notDeferred retries
    exact exec_of_starts rfl rfl starts
      (congrArg OpOut.ofStatus ((State.vbusOn_of_unlatched free mode notDeferred (by omega) _).trans (if_pos retries)))
  case clear =>
    intro p s t starts free latched
    exact exec_of_starts rfl rfl starts (OpOut.ofStatus_ok (State.latchClear_of_latched free latched))
  case config =>
    intro p s t starts free settable
    refine exec_of_starts rfl rfl starts ((if_neg (Bool.eq_false_iff.mp free)).trans (if_neg ?_))
    rw [Bool.and_eq_true, bne_iff_ne]
    exact fun h => settable.elim (fun kept => absurd h.1 (by simp [kept])) h.2
  case rescan =>
    intro p s t i starts mode served modeNow servedNow failed
    refine exec_of_starts rfl ?_ starts ?_
    · simp only [Laws.opPacket_u8, mode, served]
      rfl
    · exact (if_neg (by simp [modeNow])).trans ((if_neg (by simp [servedNow])).trans (if_pos (by simp [failed])))

/-! ### The power and budget group (10_ecrax_opcodes.md R245, R246) -/

section

variable {s : State} {u : Nat} (free : s.skHeld (skeinOfFeed u) = false)
  (notDeferred : s.flag .FEED_STAT_DEFERRED u = false)
include free notDeferred

theorem State.feedEnable_of_off (off : s.fst u = fOFF) (q : Option ReqId) :
    s.feedEnable u q = ((s.set .FEED_CFG_EN u 1).toFeed u fWAITING, stOK) :=
  (if_neg (by simp [free])).trans ((if_neg (by simp [notDeferred, off, fOFF, fSTOPPING])).trans (if_pos (by simp [off])))

theorem State.feedDisable_of_conducting {force : Bool} (conducts : feedConducts (s.fst u) = true)
    (may : s.onlyConducting u = false ∨ force = true) :
    s.feedDisable u force = (((s.set .FEED_CFG_EN u 0).gateOff u).toFeed u fSTOPPING, stOK) := by
  have on : s.fst u ≠ fSTOPPING ∧ s.fst u ≠ fOFF := by
    constructor <;> intro h <;> simp [h, feedConducts, fSTOPPING, fOFF] at conducts
  have forced : ¬(s.onlyConducting u && !force) = true := by
    rcases may with h | h <;> simp [h]
  exact (if_neg (by simp [free])).trans ((if_neg (by simp [notDeferred])).trans ((if_neg (by simp [on])).trans
    ((if_neg forced).trans (if_pos (by simp [conducts])))))

end

theorem State.setBudget_of_rated {s : State} {k ma : Nat} (rated : ma ≤ 1000 * s.get .SKN_CFG_IRATED k) :
    s.setBudget k ma = some ((s.set .SKN_BUDGET_BUDGET_MA k ma).budgetMoved k) :=
  if_neg (Nat.not_lt.mpr rated)

theorem feedConfigWrites_opPacket (o : Nat) (p : Packet) : feedConfigWrites (opPacket o p) = feedConfigWrites p := rfl

/-- Settles O37: a feed by its phase, a configuration or a budget where its skein is free and its values meet the rule, and the
status as the model runs it. -/
theorem powerGroupOpcodes : Obligations.PowerGroupOpcodes := by
  refine ⟨?enable, ?disable, ?feed, ?skein, ?budget, fun p s t starts => exec_of_starts rfl rfl starts rfl⟩
  case enable =>
    intro p s t starts free notDeferred off
    exact exec_of_starts rfl rfl starts (OpOut.ofStatus_ok (State.feedEnable_of_off free notDeferred off _))
  case disable =>
    intro p s t starts free notDeferred conducts may
    have rule := State.feedDisable_of_conducting (force := p.u8 1 == 1) free notDeferred conducts
      (may.imp_right beq_iff_eq.mpr)
    exact exec_of_starts rfl rfl starts (OpOut.ofStatus_ok rule)
  case feed =>
    intro p s t starts free noCfg ladder limit
    refine exec_of_starts rfl rfl starts ?_
    simp only [feedConfigWrites_opPacket, Laws.opPacket_u8, free, ladder, limit, noCfg, Bool.false_eq_true, if_false,
      Bool.and_self, Bool.not_true]
  case skein => exact fun p s t starts free => exec_of_starts rfl rfl starts (if_neg (Bool.eq_false_iff.mp free))
  case budget =>
    intro p s t starts free rated
    refine exec_of_starts rfl rfl starts ((if_neg (Bool.eq_false_iff.mp free)).trans ?_)
    simp only [Laws.opPacket_u8, Laws.opPacket_u16, State.setBudget_of_rated rated]

/-! ### The measurement group and the snapshots (10_ecrax_opcodes.md R247, 17_registers.md R395) -/

/-- Settles O38: a measurement by the window that has ended, a reading by its form, and a snapshot by its phase. -/
theorem measurementGroupOpcodes : Obligations.MeasurementGroupOpcodes := by
  refine ⟨?ports, ?portsLater, ?feeds, ?trigger, ?live, ?kept, ?energyKept, ?energyLive, ?latch, ?complete, ?answer⟩
  case ports => exact fun p s t starts window => exec_of_starts rfl rfl starts (if_neg (by simp [window]))
  case portsLater => exact fun p s t starts first => exec_of_starts rfl rfl starts (if_pos (by simp [first]))
  case feeds => exact fun p s t starts window => exec_of_starts rfl rfl starts (if_neg (by simp [window]))
  case trigger => exact fun p s t starts idle => exec_of_starts rfl rfl starts (if_neg (Bool.eq_false_iff.mp idle))
  case live => exact fun p s t starts live => exec_of_starts rfl rfl starts (by simp [live])
  case kept => exact fun p s t starts snap => exec_of_starts rfl rfl starts (by simp [snap])
  case energyKept => exact fun p s t starts snap => exec_of_starts rfl rfl starts (by simp [snap, State.energyOf])
  case energyLive => exact fun p s t starts live => exec_of_starts rfl rfl starts (by simp [live])
  case latch =>
    intro s busy pending due
    exact congrArg _ (if_pos (by simp [busy, pending, due]))
  case complete =>
    intro s busy latched unasked
    refine (if_pos (by simp [busy, latched])).trans ?_
    rcases unasked with unasked | moved
    · simp only [State.count, State.set_flt, State.set_ecx, State.set_snap, unasked, ite_self]
    · obtain ⟨k, moved⟩ := Option.ne_none_iff_exists'.mp moved
      simp only [State.count, State.set_flt, State.set_ecx, State.set_snap, moved, Option.isSome_some, if_true]
  case answer =>
    intro q s busy latched asked lead
    refine (if_pos (by simp [busy, latched])).trans ?_
    simp only [State.count, State.set_flt, State.set_ecx, State.set_snap, asked, lead, Option.isSome_none,
      Bool.false_eq_true, if_false]

/-! ### The domains and wake group and the faults group (10_ecrax_opcodes.md R248, R249) -/

section

variable {s : State} {d st : Nat} (still : s.flag .DOM_STAT_TRANS d = false) (unfenced : s.domFenced d = false)
  (other : s.get .DOM_STAT_STATE d ≠ st) (allowed : s.domainAllowed d st = true)
include still unfenced other allowed

/-- A request for a domain that rests in another state starts the transition at once (13_power_domains.md R311, R312). -/
theorem State.requestOne_of_still (q : Option ReqId) (wake : Nat) :
    s.requestOne d st 0 q wake = ((s.modDom d (fun x => { x with idleFrom := s.dt })).startTransition d st 0 wake, stOK) := by
  have unmoved (u : Dom → Dom) : (s.modDom d u).domFenced d = false := unfenced
  have permits (u : Dom → Dom) : (s.modDom d u).domainAllowed d st = true := allowed
  simp [State.requestOne, still, unmoved, permits, other]

/-- So does one for ON with nothing to bring up first, and one for another state (13_power_domains.md R310). -/
theorem State.requestDomain_of_still (alone : st = 0 → s.requires d = []) (q : Option ReqId) :
    s.requestDomain d st 0 q = ((s.modDom d (fun x => { x with idleFrom := s.dt })).startTransition d st 0 0, stOK) := by
  rw [← State.requestOne_of_still still unfenced other allowed q 0]
  by_cases on : st = 0
  · subst on
    exact (if_pos (by simp [unfenced, allowed])).trans (by simp [alone, State.bringUp])
  · exact if_neg (by simp [on])

end

/-- A gecko bit whose causes have all ended is cleared, and what it held is released (14_faults_and_takeover.md R337). -/
theorem clearFault_of_ended {src : Nat} {s : State} (isSet : s.gecko src = true)
    (mild : (s.causesOf src).any (fun g => g.cls == 4) = false) (noTraining : needsTraining s src = false)
    (noFree : (s.causesOf src).any (fun g => g.src == 0x49 && g.kind != 0xF) = false)
    (ended : (s.causesOf src).all s.causeEnded = true) :
    clearFault src s = ((s.causesOf src).foldl State.relieve (s.dropGecko src), stOK) := by
  have taken : takeClear src s = some ((s.causesOf src).foldl State.relieve (s.dropGecko src)) := by
    refine if_pos ?_
    simp only [List.any_eq_false, List.all_eq_true, beq_iff_eq] at mild ended
    simpa [isSet] using fun g known => ⟨mild g known, ended g known⟩
  refine (if_neg (by simp [isSet])).trans ((if_neg (by simp [mild])).trans ((if_neg (by simp [noTraining])).trans ?_))
  rw [taken, noFree]
  rfl

/-- Settles O39: a domain by what it rests in, a policy by the table, a clear by the causes, and an injected fault by its kind
and its pair. -/
theorem domainAndFaultOpcodes : Obligations.DomainAndFaultOpcodes := by
  refine ⟨?other, ?on, ?get, ?policy, ?wake, ?alarm, ?status, ?clear, ?log, ?kind, ?pair⟩
  case get | wake | alarm | status | log => exact fun p s t starts => exec_of_starts rfl rfl starts rfl
  case other =>
    intro p s t starts still unfenced notOn other allowed
    exact exec_of_starts rfl rfl starts
      (OpOut.ofStatus_ok (State.requestDomain_of_still still unfenced other allowed (absurd · notOn) _))
  case on =>
    intro p s t starts still unfenced on alone other allowed
    exact exec_of_starts rfl rfl starts (OpOut.ofStatus_ok ((congrArg (t.requestDomain (p.u8 0) · 0 _) on).trans
      (State.requestDomain_of_still still unfenced other allowed (fun _ => alone) _)))
  case policy =>
    intro p s t starts may
    refine exec_of_starts rfl rfl starts (if_neg ?_)
    rcases may with on | may
    · simp [on]
    · simp [may]
  case clear =>
    intro p s t starts isSet mild noTraining noFree ended
    exact exec_of_starts rfl rfl starts (OpOut.ofStatus_ok (clearFault_of_ended isSet mild noTraining noFree ended))
  case kind =>
    intro p s t starts kind
    refine exec_of_starts rfl rfl starts ((if_neg (by simp [kind])).trans ?_)
    simp only [Bool.and_eq_true, Bool.not_eq_true', beq_iff_eq]
    rfl
  case pair =>
    intro p s t starts kind whole
    exact exec_of_starts rfl rfl starts ((if_pos (by simp [kind])).trans (if_neg (Bool.eq_false_iff.mp whole)))

/-! ### The hierarchy group (10_ecrax_opcodes.md R250) -/

/-- No member that a `POOL_DEFINE` names is in another pool (12_hierarchy.md R297). -/
theorem not_inOtherPool {named : List (Nat × Nat)} {of : List (Nat × Nat × Nat)} {n : Nat}
    (free : named.all (fun m => of.all (fun x => x.1 != m.1 || x.2.1 != m.2 || x.2.2 == n)) = true) :
    ¬named.any (fun m => of.any (fun x => x.1 == m.1 && x.2.1 == m.2 && x.2.2 != n)) = true := by
  simp only [List.all_eq_true, List.any_eq_true, Bool.or_eq_true, Bool.and_eq_true, bne_iff_ne, beq_iff_eq] at free ⊢
  rintro ⟨m, isNamed, x, known, ⟨idx, skein⟩, other⟩
  rcases free m isNamed x known with (no | no) | no
  · exact no idx
  · exact no skein
  · exact other no

/-- On the manager the pool takes the members named, none where its cap is 0. -/
theorem exec_poolDefine_of_free {p : Packet} {s t : State} {ms : List (Nat × Nat)} (starts : Safety.startsAs 0x62 [] p s t)
    (manager : t.hier.st = some 1)
    (free : (poolMembersOf p).all (fun m =>
      t.hier.poolOf.all (fun x => x.1 != m.1 || x.2.1 != m.2 || x.2.2 == p.u8 0)) = true)
    (members : (if p.u32 2 == 0 then [] else poolMembersOf p) = ms) :
    exec (.poolDefine p) s = .next (opEnd (opPacket 0x62 p) (
      let gen := (t.hier.poolGen + 1) % 2 ^ 32
      let of := t.hier.poolOf.filter (fun x => x.2.2 != p.u8 0) ++ ms.map (fun m => (m.1, m.2, p.u8 0))
      let u := { t with hier := { t.hier with caps := t.hier.caps.set (p.u8 0) (p.u32 2), poolOf := of, poolGen := gen } }
      .ok (u.sendPools.hierEvent t.idx 15 [(3, 1, p.u8 0), (4, 4, gen)]))) := by
  subst members
  exact exec_of_starts rfl rfl starts ((if_neg (by simp [manager])).trans (if_neg (not_inOtherPool free)))

/-- Settles O40: a role and a time by what the device is, a pool on the manager by its members, and the others as the model runs
them. -/
theorem hierarchyGroupOpcodes : Obligations.HierarchyGroupOpcodes := by
  refine ⟨?role, ?status, ?pool, ?emptied, ?loans, ?time, ?step, ?assign⟩
  case status | time | assign => exact fun p s t starts => exec_of_starts rfl rfl starts rfl
  case role =>
    intro p s t starts may
    refine exec_of_starts rfl rfl starts (if_neg ?_)
    rcases may with worker | eligible
    · simp [worker]
    · simp [eligible]
  case pool =>
    intro p s t starts manager cap free
    exact exec_poolDefine_of_free starts manager free (if_neg (by simp [cap]))
  case emptied =>
    intro p s t starts manager cap free
    rw [exec_poolDefine_of_free starts manager free (if_pos (by simp [cap])), List.map_nil, List.append_nil, cap]
  case loans =>
    intro p s t starts manager
    refine exec_of_starts rfl rfl starts ((if_neg (by simp [manager])).trans ?_)
    simp
  case step =>
    intro p s t starts may later
    have notWorker : t.hier.st ≠ some 0 := by
      rcases may with h | h | h
      · simp [h]
      · simp [h]
      · exact h.1
    refine exec_of_starts rfl rfl starts ((if_neg (by simp [notWorker])).trans ((if_neg ?_).trans
      (if_neg (Nat.not_lt.mpr later))))
    rcases may with h | h | h <;> simp [h]

/-! ### The Shuttle and Loom group (10_ecrax_opcodes.md R251) -/

/-- Settles O41: a handle by the context or the device it names, a Shuttle by its state, and the others as the model runs
them. -/
theorem shuttleAndLoomGroupOpcodes : Obligations.ShuttleAndLoomGroupOpcodes := by
  refine ⟨?info, ?share, ?back, ?reset, ?idle, ?map, fun p s t starts => exec_of_starts rfl rfl starts rfl⟩
  case info =>
    intro p s t d starts named
    refine exec_of_starts rfl rfl starts ?_
    simp only [Laws.opPacket_u32, named]
  case share =>
    intro p s t c starts named
    refine exec_of_starts rfl rfl starts ?_
    simp only [Laws.opPacket_u32, Laws.opPacket_u16, named]
  case back =>
    intro p s t starts away clear awayNow
    refine exec_of_starts rfl (if_pos (beq_iff_eq.mpr away)) starts
      ((if_neg (Bool.eq_false_iff.mp clear)).trans ((if_neg (by simp [awayNow])).trans ?_))
    simp only [beq_iff_eq, Laws.opPacket_u8]
  case reset =>
    intro p s t d e starts named namedNow served
    refine exec_of_starts rfl (by simp only [Laws.opPacket_u32, named]) starts ?_
    simp only [Laws.opPacket_u32, namedNow]
    exact if_neg (by simp [Option.isSome_iff_ne_none.mp served])
  case idle =>
    intro p s t j starts served
    refine exec_of_starts rfl rfl starts ?_
    simp only [Laws.opPacket_u8, Laws.opPacket_u16, served]
  case map =>
    intro p s t c starts named above notNine iso room
    refine exec_of_starts rfl rfl starts ?_
    simp only [Laws.opPacket_u32, Laws.opPacket_u8, named]
    refine (if_neg ?_).trans (if_neg ?_)
    · have lane : (p.u8 4 == 8) = c.isIso := by rw [Bool.eq_iff_iff, beq_iff_eq]; exact iso.symm
      simp [lane, notNine, above]
    · rcases room with same | room
      · simp [same]
      · simp [room]

/-! ### The security group (10_ecrax_opcodes.md R252) -/

theorem ite_bnot {α : Type} (b : Bool) (x y : α) : (if (!b) = true then x else y) = if b = true then y else x := by
  cases b <;> rfl

/-- A debug session has opened at a level (15_security_and_debug.md R363). -/
def State.sessionOpened (s : State) (level : Nat) : State :=
  (((((s.set .SEC_DBG_SESSION 0 1).set .SEC_DBG_LEVEL 0 level).count .SEC_DBG_SESSION_CNT 0).setBit .SEC_EVT 0 1).set
    .SEC_DBG_TARGET_VALID 0 0).set .SEC_DBG_TARGET 0 0

theorem State.lifecycle_set {s : State} {f : Fld} (other : f ≠ .SEC_LC_STATE) (u v : Nat) :
    (s.set f u v).lifecycle = s.lifecycle :=
  State.get_set_other s v (fun h => other h.1)

theorem State.lifecycle_dropChallenge (s : State) : s.dropChallenge.lifecycle = s.lifecycle := by
  change (((s.set .SEC_CHAL_CURRENT 0 0).set .SEC_CHAL_PURPOSE 0 0).set .SEC_CHAL_ARG 0 0).lifecycle = _
  simp [State.lifecycle_set]

theorem State.lifecycle_sessionOpened (s : State) (level : Nat) : (s.sessionOpened level).lifecycle = s.lifecycle := by
  simp [State.sessionOpened, State.count, State.setBit, State.lifecycle_set]

section

variable {p : Packet} {s t : State} {c : Chal} (challenge : t.challenge = some c) (intact : t.sec.secretUpset = false)
include challenge intact

theorem exec_lifecycleAdvance_of_challenge (starts : Safety.startsAs 0x82 [dSEC] p s t)
    (next : (p.u8 0 = t.lifecycle + 1 ∧ p.u8 0 ≤ 3) ∨ p.u8 0 = lcRETIRED) :
    exec (.lifecycleAdvance p) s = .next (opEnd (opPacket 0x82 p) (
      if c.purpose == 1 && c.arg == p.u8 0
          && t.authOk (p.params.drop 4) c (if p.u8 0 == lcRETIRED then .retire else .advance) then
        let u := (t.dropChallenge.endSession 5).superviseAgain.set .SEC_DBG_HB_MASK 0 0
        let u := { u with sec := { u.sec with halted := 0, scan := false } }
        .ok ((((u.blowTransition (if p.u8 0 == lcRETIRED then 3 else p.u8 0 - 1)
          (p.u8 0)).lifecycleEffects (p.u8 0)).setBit .SEC_EVT 0 0).lifecycleOverride)
      else .fail (t.dropChallenge.setBit .SEC_EVT 0 4) stVERIFY_FAILED)) := by
  refine exec_of_starts rfl rfl starts ((if_neg ?_).trans ((if_neg (Bool.eq_false_iff.mp intact)).trans ?_))
  · rcases next with ⟨following, inRange⟩ | retired
    · simp [← following, inRange]
    · simp [retired]
  · rw [challenge]
    exact ite_bnot ..

theorem exec_keyRevoke_of_challenge (starts : Safety.startsAs 0x86 [dSEC] p s t)
    (programmed : t.sec.otp.programmed (p.u8 0) = true)
    (left : (t.lifecycle ≠ lcPROVISIONED ∧ t.lifecycle ≠ lcFIELD)
      ∨ (List.range 3).filter (fun j => t.sec.otp.owner j && j != p.u8 0) ≠ []) :
    exec (.keyRevoke p) s = .next (opEnd (opPacket 0x86 p) (
      if c.purpose == 2 && c.arg == p.u8 0 && t.authOk (p.params.drop 4) c .revoke then
        let o := t.sec.otp
        let u := { t.dropChallenge with sec := { t.dropChallenge.sec with
          otp := { o with revoked := bitOr o.revoked (2 ^ p.u8 0) } } }
        .ok (u.setBit .SEC_EVT 0 3)
      else .fail (t.dropChallenge.setBit .SEC_EVT 0 4) stVERIFY_FAILED)) := by
  refine exec_of_starts rfl rfl starts ((if_neg ?_).trans ((if_neg (Bool.eq_false_iff.mp intact)).trans ?_))
  · rcases left with ⟨notProvisioned, notField⟩ | other
    · simp [programmed, notProvisioned, notField]
    · have other : ((List.range 3).filter (fun j => t.sec.otp.owner j && j != p.u8 0)).isEmpty = false := by
        rwa [← Bool.not_eq_true, List.isEmpty_iff]
      simp only [Laws.opPacket_u8, programmed, other]
      simp
  · rw [challenge]
    exact ite_bnot ..

theorem exec_debugUnlock_of_challenge (starts : Safety.startsAs 0x84 [dSEC] p s t) (unlock : c.purpose = 0)
    (enabled : t.pins.dbgEn = true) :
    exec (.debugUnlock p) s = .next (opEnd (opPacket 0x84 p) (
      if t.authOk p.params c (if c.arg == 1 then .observe else .invasive) then
        let v := t.dropChallenge
        let u := v.sessionOpened c.arg
        if u.lifecycle == lcFIELD && c.arg == 2 then
          let w := u.debugOverride true
          if w.modesSettled then .res w [c.arg]
          else { st := { w with sec := { w.sec with unlockBy := some (opPacket 0x84 p).id } }, results := [c.arg],
                 later := true }
        else .res (if v.flag .SEC_DBG_SESSION && v.lifecycle == lcFIELD && v.get .SEC_DBG_LEVEL == 2 then u.debugOverride false
          else u) [c.arg]
      else .fail (t.dropChallenge.setBit .SEC_EVT 0 4) stVERIFY_FAILED)) := by
  refine exec_of_starts rfl rfl starts ((if_neg (Bool.eq_false_iff.mp intact)).trans ?_)
  rw [challenge]
  have purpose : (c.purpose == 0) = true := beq_iff_eq.mpr unlock
  have pin : t.dropChallenge.pins.dbgEn = true := enabled
  by_cases verified : t.authOk p.params c (if c.arg == 1 then .observe else .invasive) = true
  · rw [if_pos verified]
    simp only [purpose, Laws.opPacket_params, verified, Bool.and_self, if_true, pin, Bool.not_true, Bool.false_eq_true,
      if_false, State.sessionOpened]
    rfl
  · rw [if_neg verified]
    simp only [purpose, Laws.opPacket_params, Bool.true_and, if_neg verified]

end

/-- Settles O42: a report and an attestation by the identity, and an authorisation by the challenge that is current and by what
verifies. -/
theorem securityGroupOpcodes : Obligations.SecurityGroupOpcodes := by
  refine ⟨?identity, ?attest, ?advance, ?challenge, ?unlock, ?invasive, ?finish, ?revoke⟩
  case identity => exact fun p s t starts => exec_of_starts rfl rfl starts (by simp only [beq_iff_eq])
  case challenge | finish => exact fun p s t starts => exec_of_starts rfl rfl starts rfl
  case attest =>
    intro p s t starts notFactory notReturn keyed intact
    exact exec_of_starts rfl rfl starts ((if_neg (by simp [notFactory, notReturn, keyed])).trans
      (if_neg (Bool.eq_false_iff.mp intact)))
  case advance =>
    exact fun p s t c starts next challenge intact => exec_lifecycleAdvance_of_challenge challenge intact starts next
  case unlock =>
    intro p s t c starts challenge unlock enabled plain intact
    have plain : ¬((t.dropChallenge.sessionOpened c.arg).lifecycle == lcFIELD && c.arg == 2) = true := by
      rw [State.lifecycle_sessionOpened, State.lifecycle_dropChallenge, Bool.and_eq_true, beq_iff_eq, beq_iff_eq]
      exact fun h => plain.elim (absurd h.1) (absurd h.2)
    rw [exec_debugUnlock_of_challenge challenge intact starts unlock enabled, if_neg plain]
    simp only [State.sessionOpened]
  case invasive =>
    intro p s t c starts challenge unlock enabled field invasive intact
    have held : ((t.dropChallenge.sessionOpened 2).lifecycle == lcFIELD && 2 == 2) = true := by
      rw [State.lifecycle_sessionOpened, State.lifecycle_dropChallenge, field]
      rfl
    rw [exec_debugUnlock_of_challenge challenge intact starts unlock enabled, invasive, if_pos held]
    simp only [State.sessionOpened]
    rfl
  case revoke =>
    exact fun p s t c starts programmed left challenge intact =>
      exec_keyRevoke_of_challenge challenge intact starts programmed left

/-! ### The firmware group (10_ecrax_opcodes.md R253) -/

/-- A piece that continues what the slot holds, or begins anew at offset 0, is taken. -/
theorem exec_fwWrite_of_fits {p : Packet} {s t : State} {old : List Nat} (starts : Safety.startsAs 0x90 [] p s t)
    (flash : t.noFlash = false) (held : (if p.u32 0 == 0 then [] else (t.slot t.otherSlot).bytes) = old)
    (offset : p.u32 0 = old.length) (fits : old.length + (p.params.drop 8).length ≤ 4194304) :
    exec (.fwWrite p) s = .next (opEnd (opPacket 0x90 p) (
      let u := t.setSlot t.otherSlot { bytes := old ++ p.params.drop 8, state := 1 }
      .ok { u with boot := { u.boot with verified := false } })) := by
  subst held
  refine exec_of_starts rfl rfl starts ((if_neg (Bool.eq_false_iff.mp flash)).trans (if_neg ?_))
  rw [Bool.or_eq_true, bne_iff_ne, decide_eq_true_eq, not_or, not_ne_iff, Nat.not_lt]
  exact ⟨offset, fits⟩

/-- Settles O43: a write by its offset, an image by its checks, an activation by its mode, a commit by the version that runs, and
the status as the model runs it. -/
theorem firmwareGroupOpcodes : Obligations.FirmwareGroupOpcodes := by
  refine ⟨?first, ?next, ?verify, ?mark, ?hot, ?commit, fun p s t starts => exec_of_starts rfl rfl starts rfl⟩
  case first =>
    intro p s t starts flash new fits
    rw [exec_fwWrite_of_fits starts flash (if_pos (by simp [new])) new (by simpa using fits), List.nil_append]
  case next =>
    intro p s t starts flash later offset fits
    rw [exec_fwWrite_of_fits starts flash (if_neg (by simp [later])) offset (by rwa [← offset])]
  case verify =>
    intro p s t starts
    refine exec_of_starts rfl rfl starts ?_
    simp only [beq_iff_eq, State.noteRefused]
  case mark =>
    intro p s t starts verified idle one
    exact exec_of_starts rfl rfl starts ((if_neg (by simp [verified])).trans ((if_neg (by simp [idle])).trans
      (if_pos (by simp [one]))))
  case hot =>
    intro p s t starts verified idle zero standby same on
    refine exec_of_starts rfl rfl starts ((if_neg (by simp [verified])).trans ((if_neg (by simp [idle])).trans
      ((if_neg (by simp [zero])).trans ((if_neg (by simp [standby])).trans ((if_neg (by simpa using same)).trans ?_)))))
    simp only [on, if_true]
  case commit =>
    intro p s t starts first second booted idle
    refine exec_of_starts rfl rfl starts (if_neg ?_)
    simp [first, second, booted, idle]

/-! ### Register access and `FW_BROADCAST` (10_ecrax_opcodes.md R253, R254) -/

/-- What a read answers: the words, or how many were read before the one that fails. -/
def regReadAnswer (r : State × List Nat × Nat) : OpOut :=
  { st := r.1, status := r.2.2, results := if r.2.2 == stOK then r.2.1.flatMap (toLE 4) else toLE 2 r.2.1.length }

/-- What a write answers: nothing, or how many words were written before the one that fails. -/
def regWriteAnswer (r : State × Nat × Nat) : OpOut :=
  { st := r.1.ibiCheck, status := r.2.2, results := if r.2.2 == stOK then [] else toLE 2 r.2.1 }

section

variable {p : Packet} {s t u : State} {e : Nat}

theorem exec_regRead_of_reads {ws : List Nat} (starts : Safety.startsAs 0xA0 [] p s t)
    (reads : (if p.u8 0 = 1 then t.setIndAddr .ecrax (p.u32 4) else t).cmdReads (p.u8 0 == 1) (p.u32 4) (p.u16 2)
      = (u, ws, e)) :
    exec (.regRead p) s = .next (opEnd (opPacket 0xA0 p) (regReadAnswer (u, ws, e))) := by
  rw [← if_congr (beq_iff_eq (a := p.u8 0)) rfl rfl] at reads
  exact exec_of_starts rfl rfl starts (congrArg regReadAnswer reads)

theorem exec_regWrite_of_writes {n : Nat} (starts : Safety.startsAs 0xA1 [] p s t)
    (writes : (if p.u8 0 = 1 then t.setIndAddr .ecrax (p.u32 4) else t).ibiCheck.cmdWrites (p.u8 0 == 1) (p.u32 4)
      (opMode (p.u8 1)) ((List.range (p.u16 2)).map (fun i => p.u32 (8 + 4 * i))) = (u, n, e)) :
    exec (.regWrite p) s = .next (opEnd (opPacket 0xA1 p) (regWriteAnswer (u, n, e))) := by
  rw [← if_congr (beq_iff_eq (a := p.u8 0)) rfl rfl] at writes
  exact exec_of_starts rfl rfl starts (congrArg regWriteAnswer writes)

end

/-- Settles O44: a register command by the status of the words it reads or writes, and a broadcast by the manager and its
image. -/
theorem registerAndBroadcastOpcodes : Obligations.RegisterAndBroadcastOpcodes := by
  refine ⟨?read, ?write, ?readFails, ?writeFails, ?broadcast⟩
  case read => exact fun p s t u ws starts reads => exec_regRead_of_reads starts reads
  case write => exact fun p s t u starts writes => exec_regWrite_of_writes starts writes
  case readFails =>
    intro p s t u ws e starts reads fails
    rw [exec_regRead_of_reads starts reads, regReadAnswer, if_neg (by simp [fails])]
  case writeFails =>
    intro p s t u n e starts writes fails
    rw [exec_regWrite_of_writes starts writes, regWriteAnswer, if_neg (by simp [fails])]
  case broadcast =>
    intro p s t starts manager verified
    refine exec_of_starts rfl rfl starts ((if_neg (by simp [manager])).trans ((if_neg (by simp [verified])).trans ?_))
    simp only [beq_iff_eq, Laws.opPacket_u64]

end Sys2Proof.Machine
end

section
/-! PROOFS. The steps of the start, of DFU recovery and of a skein's hold (16_start_up.md R371 to R380; 02_package_and_balls.md
R41; 15_security_and_debug.md R353, R361). -/

namespace Sys2Proof.Machine

/-- Settles O5: the level of the pin is tested first, then the conditions. -/
theorem invalidReleaseStops : Obligations.InvalidReleaseStops := by
  refine fun x s => ⟨fun low => ?_, fun valid high => if_pos (by simp [high])⟩
  exact (if_neg (by simp [low])).trans (if_pos rfl)

/-! ### The start (16_start_up.md R373 to R377) -/

/-- An image that is tried fails or is taken by its check alone. -/
theorem exec_imageVerified_of_next {k : Nat} {s : State} (starts : s.starting = true) (dram : s.boot.dramInit = true)
    (noImage : s.boot.imageOk = false) (noDfu : s.boot.dfu = .off) (noHold : s.safeHold = false)
    (unfenced : s.domFenced dSEC = false) (cold : s.boot.warm = false) (next : s.nextSlot = some k) :
    exec (.imageVerified k) s = .next (
      let t : State := { s with
        pins := { s.pins with xspiUsed := true }, boot := { s.boot with tried := s.boot.tried ++ [k] } }
      let r := t.imageRefused (imageCheck s (s.slot k).bytes)
      if imageCheck s (s.slot k).bytes = 0 then
        ((t.takeImage (s.slot k).bytes).set .SEC_BOOT_SLOT 0 k).setB .SEC_BOOT_OTHER_SLOT 0 (!s.boot.tried.isEmpty)
      else if r.nextSlot = none then { r with boot := { r.boot with dfu := .recovery } } else r) := by
  refine (if_neg (by simp [starts, dram, noImage, noDfu, noHold, unfenced])).trans ((if_neg (by simp [cold])).trans
    ((if_neg (by simp [next])).trans ?_))
  by_cases good : imageCheck s (s.slot k).bytes = 0
  · rw [if_pos good]
    refine (if_pos (beq_iff_eq.mpr good)).trans ?_
    simp only [cold, Bool.false_and, Bool.or_false]
    rfl
  · rw [if_neg good]
    refine (if_neg (mt beq_iff_eq.mp good)).trans (congrArg _ ?_)
    exact if_congr Option.isNone_iff_eq_none rfl rfl

theorem exec_tokenGrant_of_due {k : Nat} {s : State} (first : s.boot.firstAsk = some k)
    (free : s.flag .FLT_TOKEN_VALID = false) (noDfu : s.boot.dfu = .off) (noHold : s.safeHold = false)
    (due : s.boot.asked = [true, true]
      ∨ (k + 50000000 ≤ s.dt ∧ (s.boot.asked.getD 0 false = true ∨ s.boot.asked.getD 1 false = true))) :
    exec .tokenGrant s = .next (
      let p := s.get .SYS_STRAP_PREFHALF
      (s.setToken (if s.boot.asked.getD p false then p else 1 - p)).setB .FLT_TOKEN_STANDBY_HOT 0
        (s.boot.asked.getD 0 false && s.boot.asked.getD 1 false)) := by
  change execTokenGrant s = _
  simp only [execTokenGrant, first]
  refine if_neg ?_
  rcases due with both | ⟨late, one⟩
  · simp [free, noDfu, noHold, both]
  · have some : (s.boot.asked.getD 0 false || s.boot.asked.getD 1 false) = true := by simpa using one
    rw [some]
    simp [free, noDfu, noHold, late]

/-- Settles O20: each step of the start acts where its own conditions hold. -/
theorem commandsOfBoot : Obligations.CommandsOfBoot := by
  refine ⟨?otp, ?dram, fun k s => exec_imageVerified_of_next, ?half, fun k s => exec_tokenGrant_of_due, ?arbitration,
    ?selfTest⟩
  case otp =>
    intro s starts cold unread locked
    exact (if_pos (by simp [starts, cold, unread, locked])).trans (apply_ite Host.Outcome.next ..).symm
  case dram =>
    intro s starts otp fresh noHold
    exact if_pos (by simp [starts, otp, fresh, noHold])
  case half =>
    intro h s half runs image unfenced secUp noHold fresh may intact
    refine (if_neg ?_).trans ((if_neg (by simp [intact])).trans (if_neg (by decide)))
    have secUp : (s.domFenced dSEC && !s.domOn (dCTL h)) = false := by simpa [← Bool.not_eq_true, imp_iff_not_or] using secUp
    have may : (s.boot.running && !s.boot.warm || s.domOn (dCTL h)) = true := by simpa using may
    rw [secUp, may, fresh]
    simp [half, runs, image, unfenced, noHold]
  case arbitration =>
    intro s runs unasked noDfu free noHold goes late
    exact if_pos (by rw [unasked]; simp [runs, noDfu, free, noHold, goes, late])
  case selfTest =>
    intro fs s runs token first noHold
    exact if_neg (by simp [runs, token, first, noHold])

/-- Settles O34: a warm restart reports ready at once, a cold start rebuilds and applies the profile first. -/
theorem readyCommand : Obligations.ReadyCommand := by
  constructor
  · intro s starts token tested noDfu noHold warm
    exact (if_neg (by simp [starts, token, tested, noDfu, noHold])).trans (if_pos warm)
  · intro s starts token tested noDfu noHold cold
    exact (if_neg (by simp [starts, token, tested, noDfu, noHold])).trans (if_neg (by simp [cold]))

/-! ### Skein power, the hold line, the link and the configuration check (16_start_up.md R372) -/

/-- Settles O26: a skein by its supply, the hold line by its causes, a check by whether it may start and by its result. -/
theorem skeinPowerAndHold : Obligations.SkeinPowerAndHold := by
  refine ⟨?up, ?down, ?assert, ?deassert, ?silent, ?check, ?passed, ?failed⟩
  case up =>
    intro k a b ca cb s skein unpowered high
    exact (if_neg (by simp [unpowered]; omega)).trans (if_pos high)
  case down =>
    intro k a b s skein powered low
    exact (if_neg (by simp [powered]; omega)).trans (if_pos low)
  case assert =>
    intro k s skein cause
    exact if_pos (by simp [skein, cause])
  case deassert =>
    intro k s skein noCause
    exact if_pos (by simp [skein, noCause])
  case silent =>
    intro k n s skein long powered
    exact if_pos (by simp [skein, long, powered])
  case check =>
    intro k s skein powered released due noCause unfenced
    have due : (s.skHeld k || (s.skein k).checkDue) = true := by simpa using due
    exact if_pos (by rw [due]; simp [skein, powered, released, noCause, unfenced])
  case passed =>
    intro k t l s skein runs
    exact if_pos (by simp [skein, runs])
  case failed =>
    intro k t l s skein runs
    exact (if_pos (by simp [skein, runs])).trans (if_neg (by decide))

end Sys2Proof.Machine
end

section
/-! PROOFS. The part of the state that events, requests of domains and the hub's disconnection leave as it was: the clock, the
start, the faults, the hierarchy and every unit but the ports (00_scope.md R10; 13_power_domains.md R311 to R318). -/

namespace Sys2Proof.Machine

/-- The state with the registers, the Ecrax channels and the mailbox, the hub, the Loom function, the domains, the ports and the
upstream connection blanked. -/
def State.frame (s : State) : State :=
  { s with regs := [], ecx := {}, mbox := {}, hub := {}, loom := {}, doms := [], ports := [], up := {} }

section

variable {s t : State} (same : t.frame = s.frame)
include same

theorem State.boot_of_frame : t.boot = s.boot := congrArg (fun u => u.boot) same
theorem State.dt_of_frame : t.dt = s.dt := congrArg (fun u => u.dt) same

end

/-! ### Updates of the parts that it blanks -/

@[simp] theorem State.frame_set (s : State) (f : Fld) (u v : Nat) : (s.set f u v).frame = s.frame := rfl
@[simp] theorem State.frame_setB (s : State) (f : Fld) (u : Nat) (b : Bool) : (s.setB f u b).frame = s.frame := rfl
@[simp] theorem State.frame_setBit (s : State) (f : Fld) (u i : Nat) : (s.setBit f u i).frame = s.frame := rfl
@[simp] theorem State.frame_count (s : State) (f : Fld) (u n : Nat) : (s.count f u n).frame = s.frame := rfl
@[simp] theorem State.frame_resetRegs (s : State) (p : Cell → Bool) : (s.resetRegs p).frame = s.frame := rfl
@[simp] theorem State.frame_modDom (s : State) (d : Nat) (f : Dom → Dom) : (s.modDom d f).frame = s.frame := rfl
@[simp] theorem State.frame_modPort (s : State) (n : Nat) (f : PortH → PortH) : (s.modPort n f).frame = s.frame := rfl
@[simp] theorem State.frame_modLane (s : State) (l : Nat) (f : LaneH → LaneH) : (s.modLane l f).frame = s.frame := rfl

theorem State.frame_withLoom (s : State) (l : Loom) : ({ s with loom := l } : State).frame = s.frame := rfl
theorem State.frame_withHub (s : State) (h : HubH) : ({ s with hub := h } : State).frame = s.frame := rfl

/-- Either of two updates. -/
theorem State.frame_ite {c : Prop} [Decidable c] {s t u : State} (ht : t.frame = s.frame) (hu : u.frame = s.frame) :
    (if c then t else u).frame = s.frame := by
  split
  · exact ht
  · exact hu

/-- What no step of a run changes, the run does not change. -/
theorem State.frame_foldl {α : Type} {f : State → α → State} (keeps : ∀ s a, (f s a).frame = s.frame) (l : List α) (s : State) :
    (l.foldl f s).frame = s.frame := by
  induction l generalizing s with
  | nil => rfl
  | cons a l ih => exact (ih _).trans (keeps ..)

/-! ### Events (09_ecrax_protocol.md R231; 08_loom_function.md R207, R208) -/

@[simp] theorem State.frame_deliverEvent (s : State) (r : EvRec) : (s.deliverEvent r).frame = s.frame := by
  unfold State.deliverEvent
  dsimp only
  split <;> rfl

@[simp] theorem State.frame_formEvent (s : State) (cls unit code : Nat) (detail : List Nat) :
    (s.formEvent cls unit code detail).frame = s.frame := by
  unfold State.formEvent
  split
  · rfl
  · exact State.frame_deliverEvent ..

@[simp] theorem State.frame_loomNote (s : State) (code handle extra : Nat) : (s.loomNote code handle extra).frame = s.frame :=
  State.frame_formEvent ..

@[simp] theorem State.frame_notifyWake (s : State) : s.notifyWake.frame = s.frame := State.frame_loomNote ..

@[simp] theorem State.frame_wakeOn97 (s : State) : s.wakeOn97.frame = s.frame := by
  unfold State.wakeOn97
  split
  · exact State.frame_formEvent ..
  · split <;> rfl

@[simp] theorem State.frame_flagWake (s : State) : s.flagWake.frame = s.frame := by
  unfold State.flagWake
  split
  · rfl
  · dsimp only
    split
    · exact State.frame_wakeOn97 _
    · split
      · rfl
      · split
        · rfl
        · exact State.frame_notifyWake _

@[simp] theorem State.frame_postEvent (s : State) (cls unit code : Nat) (detail : List Nat) :
    (s.postEvent cls unit code detail).frame = s.frame := by
  simp [State.postEvent]

@[simp] theorem State.frame_domainEvent (s : State) (d code : Nat) (detail : List Nat) :
    (s.domainEvent d code detail).frame = s.frame := by
  simp [State.domainEvent]

@[simp] theorem State.frame_hubEvent (s : State) (code port : Nat) : (s.hubEvent code port).frame = s.frame := by
  simp [State.hubEvent]

@[simp] theorem State.frame_loomEvent (s : State) (code handle extra : Nat) :
    (s.loomEvent code handle extra).frame = s.frame := by
  unfold State.loomEvent
  split <;> simp

/-! ### Requests of domains and their transitions (13_power_domains.md R310 to R318) -/

@[simp] theorem State.frame_updateEntry (s : State) (q : ReqId) (f : JEntry → JEntry) : (s.updateEntry q f).frame = s.frame :=
  rfl

@[simp] theorem State.frame_emptyPending (s : State) (d : Nat) : (s.emptyPending d).frame = s.frame := rfl

@[simp] theorem State.frame_keepPending (s : State) (d st cause : Nat) (q : Option ReqId) (wake : Nat) :
    (s.keepPending d st cause q wake).frame = s.frame := rfl

@[simp] theorem State.frame_beginStep (s : State) (d step : Nat) : (s.beginStep d step).frame = s.frame := rfl

@[simp] theorem State.frame_requestDropped (s : State) (d cause wake why st : Nat) :
    (s.requestDropped d cause wake why st).frame = s.frame := State.frame_domainEvent ..

@[simp] theorem State.frame_markRun (s : State) (q : Option ReqId) : (s.markRun q).frame = s.frame := by
  cases q <;> rfl

@[simp] theorem State.frame_startTransition (s : State) (d st cause wake : Nat) :
    (s.startTransition d st cause wake).frame = s.frame := by
  unfold State.startTransition
  dsimp only
  split <;> simp

@[simp] theorem State.frame_noteDiscard (s : State) (r : Reply) : (s.noteDiscard r).frame = s.frame := by
  unfold State.noteDiscard
  split <;> rfl

@[simp] theorem State.frame_fillMailbox (s : State) : s.fillMailbox.frame = s.frame := by
  unfold State.fillMailbox
  split
  · rfl
  · split
    · rfl
    · split <;> rfl

@[simp] theorem State.frame_sendReply (s : State) (r : Reply) : (s.sendReply r).frame = s.frame := by
  unfold State.sendReply
  split
  · exact State.frame_noteDiscard ..
  · split
    · rfl
    · exact State.frame_fillMailbox _
    · rfl
    · rfl

@[simp] theorem State.frame_keepStatus (s : State) (q : ReqId) (status : Nat) : (s.keepStatus q status).frame = s.frame := by
  unfold State.keepStatus
  split
  · rfl
  · split <;> rfl

@[simp] theorem State.frame_displace (s : State) (q : ReqId) : (s.displace q).frame = s.frame := by
  unfold State.displace State.displaceAs
  dsimp only
  split
  · simp
  · exact State.frame_keepStatus ..

@[simp] theorem State.frame_replacePending (s : State) (d : Nat) : (s.replacePending d).frame = s.frame := by
  unfold State.replacePending
  dsimp only
  split <;> simp

@[simp] theorem State.frame_requestOne (s : State) (d st cause : Nat) (q : Option ReqId) (wake : Nat) :
    (s.requestOne d st cause q wake).1.frame = s.frame := by
  unfold State.requestOne
  dsimp only
  repeat' split
  all_goals simp

@[simp] theorem State.frame_bringUp (s : State) (ds own : List Nat) (cause wake : Nat) :
    (s.bringUp ds own cause wake).frame = s.frame :=
  State.frame_foldl (fun t d => by split <;> exact State.frame_requestOne ..) ds s

@[simp] theorem State.frame_requestDomain (s : State) (d st cause : Nat) (q : Option ReqId) (wake : Nat) (own : List Nat) :
    (s.requestDomain d st cause q wake own).1.frame = s.frame := by
  unfold State.requestDomain
  split <;> simp

@[simp] theorem State.frame_renewWaiting (s : State) (d : Nat) : (s.renewWaiting d).frame = s.frame :=
  State.frame_foldl (fun t e => by split <;> rfl) _ s

@[simp] theorem State.frame_startPending (s : State) (d : Nat) : (s.startPending d).frame = s.frame := by
  unfold State.startPending
  dsimp only
  repeat' split
  all_goals simp

@[simp] theorem State.frame_finishOn (s : State) (d : Nat) (sealOk : Bool) : (s.finishOn d sealOk).frame = s.frame := by
  unfold State.finishOn
  dsimp only
  split <;> simp [State.noteSaved]

@[simp] theorem State.frame_forceOn (s : State) (d : Nat) : (s.forceOn d).frame = s.frame := by
  unfold State.forceOn
  repeat' split
  all_goals simp

/-! ### The hub leaves its host (06_transparent_hub.md R131, R141; 08_loom_function.md R180, R205) -/

@[simp] theorem State.frame_ttDrop (s : State) (n h : Nat) (keep : Split → Bool) (pipe : Bool) :
    (s.ttDrop n h keep pipe).frame = s.frame :=
  State.frame_ite rfl (State.frame_hubEvent ..)

@[simp] theorem State.frame_hubPortReset (s : State) (n : Nat) : (s.hubPortReset n).frame = s.frame := by
  unfold State.hubPortReset
  dsimp only
  split <;> rfl

@[simp] theorem State.frame_hubClear (s : State) : s.hubClear.frame = s.frame := by
  unfold State.hubClear State.ttClearAll
  dsimp only
  simp only [State.frame_hubEvent, State.frame_set]
  exact (State.frame_foldl State.frame_hubPortReset ..).trans (State.frame_foldl (fun _ _ => State.frame_ttDrop ..) ..)

@[simp] theorem State.frame_discardReplies (s : State) : s.discardReplies.frame = s.frame :=
  calc s.discardReplies.frame
      = ((s.ecx.loomOut ++ s.readyReplies .loom).foldl State.noteDiscard _).frame := rfl
    _ = s.frame := State.frame_foldl State.frame_noteDiscard ..

@[simp] theorem State.frame_clearLane (s : State) (l : Nat) : (s.clearLane l).frame = s.frame := rfl

@[simp] theorem State.frame_ownHandles (s : State) : s.ownHandles.frame = s.frame := rfl

@[simp] theorem State.frame_unconfigure (s : State) : s.unconfigure.frame = s.frame := by
  have cleared : ((List.range 9).foldl State.clearLane s.discardReplies).frame = s.frame :=
    (State.frame_foldl State.frame_clearLane ..).trans s.frame_discardReplies
  unfold State.unconfigure
  generalize (List.range 9).foldl State.clearLane s.discardReplies = t at cleared ⊢
  exact cleared

@[simp] theorem State.frame_setRate (s : State) (r : Nat) : (s.setRate r).frame = s.frame := by
  unfold State.setRate
  split
  · rfl
  · simp

@[simp] theorem State.frame_loomReset (s : State) : s.loomReset.frame = s.frame := by
  unfold State.loomReset
  refine (State.frame_loomEvent ..).trans ((State.frame_withLoom _ _).trans ?_)
  simp only [State.frame_set, State.frame_unconfigure]

@[simp] theorem State.frame_loomDisconnect (s : State) : s.loomDisconnect.frame = s.frame := by
  unfold State.loomDisconnect
  refine State.frame_ite rfl ?_
  simp only [State.frame_setRate, State.frame_loomReset, State.frame_set]
  exact State.frame_ite rfl rfl

@[simp] theorem State.frame_hubDisconnect (s : State) : s.hubDisconnect.frame = s.frame := by
  have cleared : (({ s with up := { s.up with applied := false } } : State).hubClear).frame = s.frame :=
    State.frame_hubClear _
  unfold State.hubDisconnect
  refine State.frame_ite rfl ?_
  generalize ({ s with up := { s.up with applied := false } } : State).hubClear = t at cleared ⊢
  exact State.frame_ite ((State.frame_loomDisconnect _).trans cleared) cleared

end Sys2Proof.Machine
end

section
/-! PROOFS. DFU recovery (16_start_up.md R379, R380). -/

namespace Sys2Proof.Machine

/-- The connect of DFU recovery, before the image gathered so far is dropped. -/
def State.dfuAttached (s : State) : State :=
  let t := (s.forceOn dLOOM).forceOn dHUB
  let t : State := { t.set .HUBS_STAT_U2_STATE 0 1 with up := { t.up with applied := true } }
  { t.set .HUBS_CONN 97 1 with hub := { t.hub with p97Change := bitOr t.hub.p97Change 1 } }

theorem State.dfuAttached_boot (s : State) : s.dfuAttached.boot = s.boot :=
  State.boot_of_frame ((State.frame_forceOn (s.forceOn dLOOM) dHUB).trans (State.frame_forceOn s dLOOM))

theorem exec_dfuConnect_of_idle {n : Nat} {s : State} (on : s.boot.dfu ≠ .off) (notDone : s.boot.dfu ≠ .manifestWait)
    (free : s.u2 = 0) (long : 10000000 ≤ n) :
    exec (.dfuConnect n) s =
      .next { s.dfuAttached with boot := { s.dfuAttached.boot with dfu := .idle, dfuImg := [] } } := by
  have notDone : ¬(s.dfuAttached.boot.dfu == .manifestWait) = true := by simp [s.dfuAttached_boot, notDone]
  exact (if_pos (by simp [on, free, long])).trans (congrArg _ (if_neg notDone))

/-- The upstream connection ends and the start goes on with the image taken. -/
def State.dfuLeft (s : State) : State :=
  (((s.hubDisconnect).set .HUBS_CONN 97 0).set .SEC_BOOT_DFU 0 1).set .AON_CONN_PERMIT 0 1

theorem State.dfuLeft_dt (s : State) : s.dfuLeft.dt = s.dt := State.dt_of_frame (State.frame_hubDisconnect s)

section

variable {b : List Nat} {s : State} (some : b ≠ []) (fits : b.length ≤ 4096) (connected : s.u2 ≠ 0)
include some fits connected

theorem dfuDnload_taken : ¬(b.isEmpty || decide (4096 < b.length) || s.u2 == 0) = true := by
  simp [some, fits, connected]

theorem exec_dfuDnload_of_first (waits : s.boot.dfu = .idle ∨ s.boot.dfu = .error) :
    exec (.dfuDnload b) s = .next { s with boot := { s.boot with dfu := .dnload, dfuImg := b } } := by
  refine (if_neg (dfuDnload_taken some fits connected)).trans ?_
  rcases waits with idle | error
  · simp only [idle]
  · simp only [error]

theorem exec_dfuDnload_of_next (gathers : s.boot.dfu = .dnload) :
    exec (.dfuDnload b) s = .next { s with boot := { s.boot with dfuImg := s.boot.dfuImg ++ b } } := by
  refine (if_neg (dfuDnload_taken some fits connected)).trans ?_
  simp only [gathers]

end

/-- Settles O21: a connect, a block and a bus reset by the state of DFU, an image by its check. -/
theorem commandsOfDfu : Obligations.CommandsOfDfu := by
  refine ⟨fun n s => exec_dfuConnect_of_idle, fun b s => exec_dfuDnload_of_first, fun b s => exec_dfuDnload_of_next,
    ?manifest, ?busReset⟩
  case manifest =>
    intro s gathers connected unfenced
    refine (if_pos (by simp [gathers, connected, unfenced])).trans ?_
    exact (if_congr beq_iff_eq rfl rfl).trans (apply_ite Host.Outcome.next ..).symm
  case busReset =>
    intro s done connected
    refine (if_pos (by simp [done, connected])).trans ?_
    have clock : (s.takeImage s.boot.dfuImg).dfuLeft.dt = s.dt := State.dfuLeft_dt _
    rw [← clock]
    rfl

end Sys2Proof.Machine
end

section
/-! PROOFS. The loans of a pool (12_hierarchy.md R296). -/

namespace Sys2Proof.Machine

/-- What is lent stays within what was free. -/
theorem sum_shareOut_le (ds : List Demand) (free n : Nat) : ((shareOut ds free n).map (fun l => l.2.2)).sum ≤ free := by
  induction ds generalizing free n with
  | nil => exact Nat.zero_le _
  | cons d ds ih =>
    have fits : min d.demand (free / n) ≤ free := (Nat.min_le_right ..).trans (Nat.div_le_self ..)
    calc min d.demand (free / n)
          + ((shareOut ds (free - min d.demand (free / n)) (n - 1)).map (fun l => l.2.2)).sum
        ≤ min d.demand (free / n) + (free - min d.demand (free / n)) := Nat.add_le_add_left (ih ..) _
      _ = free := Nat.add_sub_cancel' fits

/-- Each loan answers one demand and does not exceed it. -/
theorem exists_demand_of_mem_shareOut {ds : List Demand} {free n : Nat} {l : Nat × Nat × Nat} (lent : l ∈ shareOut ds free n) :
    ∃ d ∈ ds, d.idx = l.1 ∧ d.skein = l.2.1 ∧ l.2.2 ≤ d.demand := by
  induction ds generalizing free n with
  | nil => cases lent
  | cons d ds ih =>
    rcases List.mem_cons.mp lent with rfl | lent
    · exact ⟨d, List.mem_cons_self, rfl, rfl, Nat.min_le_left ..⟩
    · obtain ⟨e, known, idx, skein, bound⟩ := ih lent
      exact ⟨e, List.mem_cons_of_mem _ known, idx, skein, bound⟩

theorem mem_insertBy {α : Type} {lt : α → α → Bool} {x y : α} {l : List α} : y ∈ insertBy lt x l ↔ y = x ∨ y ∈ l := by
  induction l with
  | nil => simp [insertBy]
  | cons z l ih =>
    unfold insertBy
    split
    · simp
    · simp [ih, or_left_comm]

theorem mem_sortBy {α : Type} {lt : α → α → Bool} {x : α} {l : List α} : x ∈ sortBy lt l ↔ x ∈ l := by
  have gathered (a : List α) : x ∈ l.foldl (fun a x => insertBy lt x a) a ↔ x ∈ a ∨ x ∈ l := by
    induction l generalizing a with
    | nil => simp
    | cons y l ih => simp [ih, mem_insertBy, or_assoc, or_left_comm]
  exact (gathered []).trans (by simp)

theorem foldl_add_eq_sum {α : Type} (f : α → Nat) (l : List α) : l.foldl (fun w x => w + f x) 0 = (l.map f).sum := by
  rw [List.sum_eq_foldl, List.foldl_map]

/-- Settles O9: the shares come out of the capacity less what the absent members hold, and each is of a present member. -/
theorem loansWithinCapacity : Obligations.LoansWithinCapacity := by
  intro s p
  constructor
  · have lent : ((s.poolLoans p).map (fun l => l.2.2)).sum ≤ _ := sum_shareOut_le ..
    rw [foldl_add_eq_sum] at lent
    omega
  · intro l lent
    obtain ⟨d, known, idx, skein, bound⟩ := exists_demand_of_mem_shareOut lent
    obtain ⟨x, isMember, rfl⟩ := List.mem_map.mp (mem_sortBy.mp known)
    obtain ⟨isMember, present⟩ := List.mem_filter.mp isMember
    exact ⟨x, isMember, by simpa using present, idx, skein, bound⟩

end Sys2Proof.Machine
end

section
/-! PROOFS. The indirect windows and the shadows of the three paths (17_registers.md R390 to R394), and the accesses that are
refused (17_registers.md R385, R386; 15_security_and_debug.md R366). -/

namespace Sys2Proof.Machine

/-! ### What one path holds -/

/-- The fields of the window registers that hold an address or a fetched word. -/
def windowFields : List Fld := [.IND_ADDR_OFFSET, .IND_ADDR_UNIT, .IND_ADDR_SPACE, .IND_DATA]

/-- The address and the fetched word of a path's window, the access it has in progress, and the path's shadows (17_registers.md
R393, R394). -/
def State.window (s : State) (q : Path) : Nat × Nat × Option WinOp × (Fld → Nat → Bool → Bool → Option Nat) :=
  (s.indAddr q, s.get .IND_DATA q.ix, s.winOp q, s.shadowOf q)

theorem State.window_congr {s t : State} {q : Path} (fields : ∀ f ∈ windowFields, t.get f q.ix = s.get f q.ix)
    (ops : t.winOps = s.winOps) (shadows : t.shadows = s.shadows) : t.window q = s.window q := by
  simp only [windowFields, List.forall_mem_cons] at fields
  obtain ⟨offset, unit, space, data, -⟩ := fields
  have shadowOf : t.shadowOf q = s.shadowOf q := by
    funext f k write bank
    rw [State.shadowOf, shadows, State.shadowOf]
  rw [State.window, State.indAddr, offset, unit, space, data, State.winOp, ops, shadowOf]
  rfl

/-- The first element looked for is kept when others are dropped and some are added behind. -/
theorem find?_filter_append {α : Type} {l r : List α} {keep find : α → Bool} (kept : ∀ x, find x = true → keep x = true)
    (added : ∀ x ∈ r, find x = false) : (l.filter keep ++ r).find? find = l.find? find := by
  have none : r.find? find = none := List.find?_eq_none.mpr (by simpa using added)
  rw [List.find?_append, List.find?_filter, none, Option.or_none]
  congr 1
  funext x
  cases found : find x with
  | false => simp
  | true => simp [kept x found]

theorem Path.ix_injective : Function.Injective Path.ix := by
  intro p q same
  cases p <;> cases q <;> simp [Path.ix] at same ⊢

/-- A register that is no window register of the path is none of what the path holds. -/
theorem State.window_set {s : State} {q : Path} {f : Fld} {u : Nat} (v : Nat) (other : u = q.ix → f ∉ windowFields) :
    (s.set f u v).window q = s.window q :=
  State.window_congr (fun _ window => s.get_set_other v (fun same => other same.2 (same.1 ▸ window))) rfl rfl

theorem State.window_count {s : State} {q : Path} {f : Fld} {u n : Nat} (other : u = q.ix → f ∉ windowFields) :
    (s.count f u n).window q = s.window q :=
  State.window_set _ other

@[simp] theorem State.window_useFree (s : State) (q : Path) : s.useFree.window q = s.window q := rfl

@[simp] theorem State.window_touch (s : State) (d : Nat) (q : Path) : (s.touch d).window q = s.window q := by
  unfold State.touch
  dsimp only
  split
  · rfl
  · split
    · rfl
    · exact State.window_set _ (fun _ => by decide)

@[simp] theorem State.window_touchFor (s : State) (sp : Space) (u off : Nat) (q : Path) :
    (s.touchFor sp u off).window q = s.window q := by
  unfold State.touchFor
  split
  all_goals simp [apply_ite (State.window · q)]

section

variable {p q : Path} (other : p ≠ q)
include other

theorem Path.ix_ne : p.ix ≠ q.ix := fun same => other (Path.ix_injective same)

/-- A field of another path's window registers. -/
theorem State.window_set_other (s : State) (f : Fld) (v : Nat) : (s.set f p.ix v).window q = s.window q :=
  State.window_set v (fun same => absurd same (Path.ix_ne other))

theorem State.window_latch (s : State) (f : Fld) (k : Nat) (write bank : Bool) (w : Nat) :
    (s.latch p f k write bank w).window q = s.window q := by
  have shadowOf : (s.latch p f k write bank w).shadowOf q = s.shadowOf q := by
    funext g j wr b
    refine congrArg (Option.map _) (find?_filter_append (fun x own => ?_) ?_)
    · simp only [Shadow.isOf, Bool.and_eq_true, beq_iff_eq] at own
      simp [Shadow.isOf, own, other.symm]
    · simp [Shadow.isOf, other]
  exact congrArg (fun v => (s.indAddr q, s.get .IND_DATA q.ix, s.winOp q, v)) shadowOf

/-- Accesses of another path's window come and go. -/
theorem State.window_withOps (s : State) (r : List WinOp) (own : ∀ w ∈ r, w.path = p) :
    ({ s with winOps := s.winOps.filter (fun x => x.path != p) ++ r } : State).window q = s.window q := by
  have ops : (s.winOps.filter (fun x => x.path != p) ++ r).find? (fun w => w.path == q) = s.winOp q := by
    refine find?_filter_append (fun x mine => ?_) (fun w isNew => ?_)
    · simpa [beq_iff_eq.mp mine] using other.symm
    · simpa [own w isNew] using other
  exact congrArg (fun o => (s.indAddr q, s.get .IND_DATA q.ix, o, s.shadowOf q)) ops

/-! ### Reads (17_registers.md R386 to R394) -/

omit other in
theorem State.window_clearRC (s : State) (sp : Space) (u off : Nat) : (clearRC s sp u off).window q = s.window q := by
  have cleared : ∀ fe ∈ fieldsOf .RC sp off, fe.1 ∉ windowFields := by
    intro fe listed window
    have rc : fe.1.info.acc = .RC := by simpa using (List.mem_filter.mp listed).2
    revert rc
    exact (by decide : ∀ f ∈ windowFields, f.info.acc ≠ .RC) fe.1 window
  unfold clearRC
  generalize fieldsOf .RC sp off = l at cleared
  induction l generalizing s with
  | nil => rfl
  | cons fe l ih =>
    simp only [List.forall_mem_cons] at cleared
    exact (ih _ cleared.2).trans (State.window_set _ (fun _ => cleared.1))

theorem State.window_readWide (s : State) (bank : Bool) (f : Fld) (u e off v : Nat) :
    (s.readWide p bank f u e off v).1.window q = s.window q := by
  unfold State.readWide
  dsimp only
  split
  · exact State.window_latch other ..
  · rfl

theorem State.window_readBy (s : State) (sp : Space) (u off : Nat) : (s.readBy p sp u off).1.window q = s.window q := by
  unfold State.readBy
  split
  · exact State.window_readWide other ..
  · dsimp only
    split
    · exact (State.window_set _ (fun _ => by decide)).trans (State.window_clearRC ..)
    · exact State.window_clearRC ..

theorem State.window_readBank (s : State) (unit off : Nat) : (s.readBank p unit off).1.window q = s.window q := by
  unfold State.readBank
  split
  · rfl
  · split
    · rfl
    · split
      · exact State.window_readWide other ..
      · rfl

omit other in
theorem State.window_readCtx (s : State) (unit off : Nat) : (s.readCtx unit off).1.window q = s.window q := by
  unfold State.readCtx
  dsimp only
  repeat' split
  all_goals rfl

omit other in
theorem State.window_readRetention (s : State) (unit off : Nat) : (s.readRetention unit off).1.window q = s.window q := by
  unfold State.readRetention
  dsimp only
  repeat' split
  all_goals rfl

theorem State.window_indRead (s : State) (a : Nat) : (s.indRead p a).1.window q = s.window q := by
  unfold State.indRead
  dsimp only
  split
  · exact State.window_readBank other ..
  · split
    · refine (State.window_readCtx ..).trans ?_
      split <;> simp
    · split
      · exact State.window_readRetention ..
      · repeat' split
        · rfl
        · rfl
        · rfl
        · exact (State.window_readBy other ..).trans (State.window_touchFor ..)

/-! ### The window of the path that reads (17_registers.md R390, R391) -/

theorem State.window_indResult (s : State) (code : Nat) : (s.indResult p code).window q = s.window q := by
  unfold State.indResult
  dsimp only
  split
  · exact State.window_set_other other ..
  · exact (State.window_set_other other ..).trans (State.window_set_other other ..)

/-- An access of the window that is not a write takes place. -/
theorem State.window_winFinish (s : State) {w : WinOp} (own : w.path = p) (noWrite : ∀ m a v, w.later ≠ some (.write m a v)) :
    (s.winFinish w).window q = s.window q := by
  subst own
  have begun : (({ s with winOps := s.winOps.filter (fun x => x.path != w.path) } : State).set .IND_STAT_BUSY w.path.ix 0).window q
      = s.window q := by
    refine (State.window_set_other other ..).trans ?_
    simpa using State.window_withOps other s [] (by simp)
  unfold State.winFinish
  dsimp only
  split
  · refine (State.window_indResult other ..).trans ?_
    split
    · exact (State.window_set_other other ..).trans begun
    · exact begun
  · exact (State.window_indResult other ..).trans ((State.window_set_other other ..).trans
      ((State.window_indRead other ..).trans begun))
  · exact absurd (by assumption) (noWrite _ _ _)

theorem State.window_winSettle (s : State) (stretch : Bool)
    (noWrite : ∀ w, s.winOp p = some w → ∀ m a v, w.later ≠ some (.write m a v)) :
    (s.winSettle p stretch).window q = s.window q := by
  unfold State.winSettle
  split
  next w found =>
    split
    · have own : w.path = p := by simpa using List.find?_some found
      exact State.window_winFinish other s own (noWrite w found)
    · rfl
  next => rfl

theorem State.window_winStart (s : State) (fetch : Bool) (bound word res : Nat) :
    (s.winStart p fetch bound word res).window q = s.window q := by
  unfold State.winStart
  dsimp only
  split
  · exact (State.window_withOps other _ _ (by simp)).trans (State.window_set_other other ..)
  · exact State.window_winFinish other _ rfl (by simp)

omit other in
theorem State.window_winLater (notDebug : .debug ≠ q) (s : State) (bound : Nat) (act : WinAct) :
    (s.winLater bound act).window q = s.window q :=
  (State.window_withOps notDebug _ _ (by simp)).trans (State.window_set_other notDebug ..)

theorem State.window_indFetch (s : State) : (s.indFetch p).window q = s.window q := by
  unfold State.indFetch
  dsimp only
  split
  next debug => exact State.window_winLater (beq_iff_eq.mp debug ▸ other) ..
  next => exact (State.window_winStart other ..).trans (State.window_indRead other ..)

theorem State.window_indAdvance (s : State) : (s.indAdvance p).window q = s.window q := by
  unfold State.indAdvance
  dsimp only
  split
  · exact (State.window_set_other other ..).trans (State.window_set_other other ..)
  · exact State.window_set_other other ..

theorem State.window_indDataRead (s : State) (i3c : Bool)
    (noWrite : ∀ w, s.winOp p = some w → ∀ m a v, w.later ≠ some (.write m a v)) :
    (s.indDataRead p i3c).1.window q = s.window q := by
  refine Eq.trans ?_ (State.window_winSettle other s (!i3c || p != .mgmt) noWrite)
  unfold State.indDataRead
  dsimp only
  split
  · exact State.window_indResult other ..
  · split
    · dsimp only
      split
      · exact (State.window_indFetch other _).trans (State.window_indAdvance other _)
      · exact State.window_indAdvance other _
    · rfl

end

/-- Settles O15: a read settles, advances and fetches the window of its own path alone, and latches its own shadows alone. -/
theorem windowsAreSeparate : Obligations.WindowsAreSeparate := by
  intro s p q i3c addr other noWrite
  have same : (s.directRead p i3c addr).1.window q = s.window q := by
    unfold State.directRead
    dsimp only
    split
    next => rfl
    next sp u space =>
      split
      · rfl
      · split
        · rfl
        · split
          next window =>
            have block : addr / 65536 % 256 = 5 := by simp at window; exact window.1
            obtain ⟨rfl, rfl⟩ : Space.IND = sp ∧ p.ix = u := by simpa [block, blockSpace] using space
            exact State.window_indDataRead other s i3c noWrite
          next =>
            repeat' split
            · exact State.window_touchFor ..
            · exact State.window_touchFor ..
            · exact State.window_touchFor ..
            · exact State.window_touchFor ..
            · exact (State.window_readBy other ..).trans (State.window_touchFor ..)
  simp only [State.window, Prod.mk.injEq] at same
  obtain ⟨addrs, data, ops, shadows⟩ := same
  exact ⟨addrs, data, ops, fun f k write bank => congrFun (congrFun (congrFun (congrFun shadows f) k) write) bank⟩

/-! ### Accesses that are refused (17_registers.md R385, R386; 15_security_and_debug.md R366) -/

/-- A block with a domain of its own holds registers. -/
theorem exists_blockSpace_of_blockDomain {block d : Nat} (p : Path) (domain : blockDomain block = some d) :
    ∃ x, blockSpace p block = some x := by
  unfold blockDomain at domain
  repeat' split at domain
  all_goals simp_all [blockSpace]

section

variable {s : State} {addr block d : Nat} (p : Path) (i3c : Bool)

/-- A block that is out of reach is neither read nor written. -/
theorem direct_of_unreached {x : Space × Nat} {r : Nat} (m : WMode) (data : Nat)
    (space : blockSpace p (addr / 65536 % 256) = some x) (reach : s.blockReach (addr / 65536 % 256) = r) (no : r ≠ rOK) :
    s.directRead p i3c addr = (s, 0, r) ∧ s.directWrite p i3c addr m data = (s, r) := by
  have no : (r != rOK) = true := by simpa using no
  constructor
  · unfold State.directRead
    simp only [space, reach, no, if_true]
  · unfold State.directWrite
    simp only [space, reach, no, if_true]

end

theorem blockSpace_of_reserved {block : Nat} (p : Path) (reserved : 0x0E ≤ block) : blockSpace p block = none := by
  obtain ⟨k, rfl⟩ := Nat.exists_eq_add_of_le' reserved
  rfl

/-- The spaces of the ports, the skeins and the feeds are reached by the codes below 6. -/
theorem indWrite_code_of_spaceOf {code unit : Nat} {sp : Space} (space : spaceOf code unit = some sp) : code < 6 := by
  unfold spaceOf at space
  by_contra large
  have none : code ≠ 1 ∧ code ≠ 2 ∧ code ≠ 3 ∧ code ≠ 4 ∧ code ≠ 5 := by omega
  simp [none] at space

/-- Settles O16: the reach of a block is tested before anything is touched, and so is what a debugger may write in FIELD. -/
theorem refusedAccesses : Obligations.RefusedAccesses := by
  refine ⟨?domain, ?reserved, ?denied⟩
  case domain =>
    intro s p i3c addr data d m domain
    obtain ⟨x, space⟩ := exists_blockSpace_of_blockDomain p domain
    refine ⟨fun fenced => ?_, fun unfenced notOn => ?_⟩
    · exact direct_of_unreached p i3c m data space (by simp [State.blockReach, domain, fenced]) (by decide)
    · exact direct_of_unreached p i3c m data space (by simp [State.blockReach, domain, unfenced, notOn]) (by decide)
  case reserved =>
    intro s p i3c addr data m reserved
    have space := blockSpace_of_reserved p reserved
    constructor
    · unfold State.directRead
      simp only [space]
    · unfold State.directWrite
      simp only [space]
  case denied =>
    intro s a data m sp field space listed reach target
    have code := indWrite_code_of_spaceOf space
    have denied : s.debugDenied .debug sp (indOff a) = true := by
      simpa [State.debugDenied, field, or_assoc] using target
    unfold State.indWrite
    simp [space, listed, reach, denied, show indSpace a ≠ 6 ∧ indSpace a ≠ 7 ∧ indSpace a ≠ 8 by omega]

end Sys2Proof.Machine
end

section
/-! PROOFS. The CAN controllers: what the host writes, aborts and attempts, and the events of a bus (11_can_controllers.md R259 to
R276). -/

namespace Sys2Proof.Machine

/-! ### Writes of the host (11_can_controllers.md R259, R261 to R264, R267, R270) -/

/-- A controller that runs, as the commands on it test. -/
theorem canListed {c : Nat} {s : State} (can : c < 2) (on : s.domOn (dCAN c) = true) :
    ¬(decide (2 ≤ c) || !s.domOn (dCAN c)) = true := by
  simp [can, on]

/-- The word at an offset of a CAN block can be written (17_registers.md R387). -/
def canWords (off : Nat) : Bool := !(fieldsOf .RW .CAN off).isEmpty || !(fieldsOf .WO .CAN off).isEmpty

theorem canWords_of_command : ∀ off ∈ [0x08, 0x0C, 0x10, 0x20, 0x34], canWords off = true := by decide +kernel

section

variable {s : State} {c : Nat} (used : s.get .CAN_CTL_USE c ≠ 0)
include used

theorem can_not_hierarchy : ¬(s.get .CAN_CTL_USE c == 0) = true := by simpa using used

/-- A word that is no command, no timing and no word of a buffer that waits takes the write. -/
theorem canWrite_plain {off : Nat} (v : Nat) (plain : off ∉ [0x20, 0x34, 0x08, 0x0C, 0x10])
    (free : 0x100 ≤ off → s.txb c ((off - 0x100) / 0x80) ∉ [1, 2, 6]) :
    (s.canWrite c .write off v).1 = applyWord s .write .CAN c off v := by
  simp only [List.mem_cons, List.not_mem_nil, or_false, not_or] at plain
  obtain ⟨command, pop, nominal, data, delay⟩ := plain
  have free : ¬(decide (0x100 ≤ off) && decide (off < 0x280) && [1, 2, 6].contains (s.txb c ((off - 0x100) / 0x80))) = true := by
    simp only [Bool.and_eq_true, decide_eq_true_eq, List.contains_iff_mem, not_and, and_imp]
    exact fun buffer _ => free buffer
  by_cases own : canWords off = true
  · exact congrArg Prod.fst ((if_neg (ne_of_eq_of_ne (congrArg not own) (by decide))).trans
      ((if_neg (can_not_hierarchy used)).trans ((if_neg (by simpa using command)).trans ((if_neg (by simpa using pop)).trans
        ((if_neg (by simp [nominal, data, delay])).trans (if_neg free))))))
  · exact congrArg Prod.fst (if_pos (congrArg not (Bool.eq_false_iff.mpr own)))

/-- A word of a command or of a timing goes past the two first tests. -/
theorem canWrite_command {off v : Nat} (command : off ∈ [0x08, 0x0C, 0x10, 0x20, 0x34]) :
    (s.canWrite c .write off v).1 =
      (if off == 0x20 then (s.canTxCmd c (bits v 0 3) (bits v 4 3), true)
      else if off == 0x34 then
        (if v % 2 == 0 then s
          else if (s.can c).popped != 0 then s.modCan c (fun x => { x with popped := x.popped - 1 }) else s.popFifo c, true)
      else if off == 0x08 || off == 0x0C || off == 0x10 then
        if s.get .CAN_STAT_MODE_NOW c == 0 && canTimingOk (applyWord s .write .CAN c off v) c then
          (applyWord s .write .CAN c off v, true)
        else (s.canRefuse c, false)
      else if 0x100 ≤ off && off < 0x280 && [1, 2, 6].contains (s.txb c ((off - 0x100) / 0x80)) then (s.canRefuse c, false)
      else (applyWord s .write .CAN c off v, true)).1 :=
  congrArg Prod.fst ((if_neg (ne_of_eq_of_ne (congrArg not (canWords_of_command off command)) (by decide))).trans
    (if_neg (can_not_hierarchy used)))

/-- A timing register takes a write in INIT that leaves a timing the rules allow. -/
theorem canWrite_timing {off : Nat} {v : Nat} (timing : off = 0x08 ∨ off = 0x0C ∨ off = 0x10)
    (init : s.get .CAN_STAT_MODE_NOW c = 0) (allowed : canTimingOk (applyWord s .write .CAN c off v) c = true) :
    (s.canWrite c .write off v).1 = applyWord s .write .CAN c off v := by
  have other : off ≠ 0x20 ∧ off ≠ 0x34 := by omega
  exact (canWrite_command used (by simp; omega)).trans (congrArg Prod.fst ((if_neg (by simp [other])).trans
    ((if_neg (by simp [other])).trans ((if_pos (by simpa [or_assoc] using timing)).trans (if_pos (by simp [init, allowed]))))))

/-- `CAN_TXCMD` takes its request and its abort bits. -/
theorem canWrite_txCmd (v : Nat) : (s.canWrite c .write 0x20 v).1 = s.canTxCmd c (bits v 0 3) (bits v 4 3) :=
  canWrite_command used (by decide)

/-- A `POP` that a store of its clock cycle has let go first is done. -/
theorem canWrite_pop : (s.canWrite c .write 0x34 1).1 =
    if (s.can c).popped ≠ 0 then s.modCan c (fun x => { x with popped := x.popped - 1 }) else s.popFifo c :=
  (canWrite_command used (by decide)).trans (if_congr bne_iff_ne rfl rfl)

end

/-- The buffer that a mask of one bit names. -/
def bufferOf (m : Nat) : Nat := if m = 4 then 2 else m - 1

section

variable {s : State} {c m : Nat} (one : m = 1 ∨ m = 2 ∨ m = 4)
include one

theorem maskBits_of_one : maskBits 3 m = [bufferOf m] := by
  rcases one with rfl | rfl | rfl <;> decide

theorem canTxCmd_of_request : s.canTxCmd c (bits (bits m 0 3) 0 3) (bits (bits m 0 3) 4 3) = s.requestTxb c (bufferOf m) := by
  have cut : bits (bits m 0 3) 0 3 = m ∧ bits (bits m 0 3) 4 3 = 0 := by
    simp only [bits]
    omega
  simp [State.canTxCmd, cut, maskBits_of_one one, show maskBits 3 0 = [] by decide, bitClear]

end

/-- A buffer that neither waits nor is sent takes a request. -/
theorem State.requestTxb_of_free {s : State} {c b : Nat} (free : s.txb c b ∉ [1, 2, 6]) :
    s.requestTxb c b = ((s.setTxb c b 1).set .TXB_ATTEMPTS (3 * c + b) 0).set .TXB_TS_VALID (3 * c + b) 0 :=
  if_neg (by simpa using free)

theorem State.abortTxb_of_waiting {s : State} {c b : Nat} (waits : s.txb c b = 1 ∨ s.txb c b = 6) :
    s.abortTxb c b = (s.setTxb c b 4).canInt c 3 :=
  if_pos (by simpa using waits)

theorem State.abortTxb_of_active {s : State} {c b : Nat} (active : s.txb c b = 2) :
    s.abortTxb c b = s.modCan c (fun x => { x with abortOf := b :: x.abortOf }) :=
  (if_neg (by simp [active])).trans (if_pos (by simp [active]))

theorem State.abortTxb_of_other {s : State} {c b : Nat} (pending : s.txb c b ≠ 1) (lone : s.txb c b ≠ 6)
    (active : s.txb c b ≠ 2) : s.abortTxb c b = s :=
  (if_neg (by simp [pending, lone])).trans (if_neg (by simp [active]))

/-- An abort reaches the controller with the requests of the same access. -/
theorem exec_txAbort_of_used {c m r : Nat} {s : State} (can : c < 2) (on : s.domOn (dCAN c) = true)
    (used : s.get .CAN_CTL_USE c ≠ 0) : exec (.txAbort c m r) s = .next (s.canTxCmd c (bits r 0 3) (bits m 0 3)) := by
  refine (if_neg (canListed can on)).trans (congrArg _ ((canWrite_txCmd used _).trans ?_))
  have cut : bits (bits r 0 3 + 16 * bits m 0 3) 0 3 = bits r 0 3 ∧ bits (bits r 0 3 + 16 * bits m 0 3) 4 3 = bits m 0 3 := by
    simp only [bits]
    omega
  rw [cut.1, cut.2]

theorem exec_txAbort_of_one {c m r : Nat} {s : State} (can : c < 2) (on : s.domOn (dCAN c) = true)
    (used : s.get .CAN_CTL_USE c ≠ 0) (alone : r = 0) (one : m = 1 ∨ m = 2 ∨ m = 4) :
    exec (.txAbort c m r) s = .next (s.abortTxb c (bufferOf m)) := by
  have cut : bits 0 0 3 = 0 ∧ bits m 0 3 = m := by
    simp only [bits]
    omega
  rw [exec_txAbort_of_used can on used, alone, cut.1, cut.2]
  simp [State.canTxCmd, maskBits_of_one one, bitClear, show maskBits 3 0 = [] by decide]

/-- Settles O51: a write by its word, an abort by what its buffer does, a change of mode or use once it may take effect. -/
theorem canHostCommands : Obligations.CanHostCommands := by
  refine ⟨?mode, ?timing, ?request, ?abort, ?abortActive, ?words, ?popped, ?pop, ?modeChange, ?leaves, ?enters⟩
  case mode =>
    intro c m s can on used
    exact (if_neg (canListed can on)).trans (congrArg _ (canWrite_plain used _ (by decide) (fun buffer => absurd buffer (by decide))))
  case timing =>
    intro c off v s can on used timing init allowed
    refine (if_neg ?_).trans (congrArg _ (canWrite_timing used timing init allowed))
    have timing : (off == 0x08 || off == 0x0C || off == 0x10) = true := by simpa [or_assoc] using timing
    simp [can, on, timing]
  case request =>
    intro c m s can on used one free
    refine (if_neg (canListed can on)).trans (congrArg _ ((canWrite_txCmd used _).trans ?_))
    exact (canTxCmd_of_request one).trans (State.requestTxb_of_free free)
  case abort =>
    intro c m r s can on used alone one waits
    exact (exec_txAbort_of_one can on used alone one).trans (congrArg _ (State.abortTxb_of_waiting waits))
  case abortActive =>
    intro c m r s can on used alone one active
    exact (exec_txAbort_of_one can on used alone one).trans (congrArg _ (State.abortTxb_of_active active))
  case words =>
    intro c b off v s can on used buffer word free
    have named : (0x100 + 0x80 * b + off / 4 * 4 - 0x100) / 0x80 = b := by omega
    refine (if_neg (by simp [can, on, buffer, word])).trans (congrArg _ (canWrite_plain used v ?_ (fun _ => ?_)))
    · simp; omega
    · rw [named]; exact free
  case popped =>
    intro c s can on used gone
    exact (if_neg (canListed can on)).trans (congrArg _ ((canWrite_pop used).trans (if_pos gone)))
  case pop =>
    intro c s can on used here
    exact (if_neg (canListed can on)).trans (congrArg _ ((canWrite_pop used).trans (if_neg (not_not.mpr here))))
  case modeChange =>
    intro c s can on idle used other
    refine (if_neg (by simp [can, on, idle, used, other])).trans (congrArg _ ?_)
    simp only [State.takeMode, beq_iff_eq, Bool.and_eq_true]
  case leaves =>
    rintro c u s asked idle other rfl
    change execCanUseChange c s = _
    simp only [execCanUseChange, asked]
    exact (if_neg (by simp [idle])).trans (if_neg (by simpa using other))
  case enters =>
    intro c u s t asked idle other notHierarchy left
    change execCanUseChange c s = _
    simp only [execCanUseChange, asked]
    refine (if_neg (by simp [idle])).trans ((if_neg (by simpa using other)).trans ?_)
    simp [notHierarchy, left]

end Sys2Proof.Machine
end

section
/-! PROOFS. Aborts of transmit buffers and the ends of an attempt (11_can_controllers.md R260, R266, R267). -/

namespace Sys2Proof.Machine

open Sys2Proof.Laws

/-! ### The registers that an event writes (09_ecrax_protocol.md R231; 08_loom_function.md R207, R208) -/

def eventFields : List Fld :=
  [.LOOMS_EVT, .LOOMS_STAT_WAKE_PEND, .HUBS_EVT, .LOOMS_STAT_LSTATE, .HUBS_STAT_SS_STATE]

section

variable (s : State) {f : Fld} (other : f ∉ eventFields) (u : Nat)
include other

/-- A register that an event writes is another one. -/
theorem State.get_set_event {g : Fld} (event : g ∈ eventFields) (k v : Nat) : (s.set g k v).get f u = s.get f u :=
  s.get_set_other v (fun same => other (same.1 ▸ event))

theorem State.get_formEvent (cls unit code : Nat) (detail : List Nat) :
    (s.formEvent cls unit code detail).get f u = s.get f u := by
  unfold State.formEvent
  split
  · rfl
  · unfold State.newEvent State.deliverEvent
    dsimp only
    split
    · rfl
    · exact State.get_set_event _ other u (by decide) ..

theorem State.get_flagWake : s.flagWake.get f u = s.get f u := by
  have pending : (s.set .LOOMS_STAT_WAKE_PEND 0 1).get f u = s.get f u := s.get_set_event other u (by decide) ..
  unfold State.flagWake
  split
  · rfl
  · dsimp only
    refine Eq.trans ?_ pending
    generalize s.set .LOOMS_STAT_WAKE_PEND 0 1 = t
    split
    · unfold State.wakeOn97
      split
      · exact (State.get_formEvent _ other ..).trans (State.get_set_event _ other u (by decide) ..)
      · split <;> rfl
    · split
      · rfl
      · split
        · exact (State.get_set_event _ other u (by decide) ..).trans (State.get_set_event _ other u (by decide) ..)
        · refine (State.get_formEvent _ other ..).trans ?_
          refine (State.get_set_event (g := .LOOMS_EVT) _ other u (by decide) ..).trans ?_
          exact (State.get_set_event (g := .HUBS_STAT_SS_STATE) (t.set .LOOMS_STAT_LSTATE 0 0) other u (by decide) 0 1).trans
            (State.get_set_event (g := .LOOMS_STAT_LSTATE) t other u (by decide) 0 0)

theorem State.get_postEvent (cls unit code : Nat) (detail : List Nat) :
    (s.postEvent cls unit code detail).get f u = s.get f u :=
  (State.get_flagWake _ other u).trans (s.get_formEvent other ..)

end

/-! ### What leaves a buffer alone (11_can_controllers.md R264) -/

/-- A buffer's state and the use of its controller are as they were. -/
structure State.Kept (c b : Nat) (s t : State) : Prop where
  txb : t.txb c b = s.txb c b
  use : t.get .CAN_CTL_USE c = s.get .CAN_CTL_USE c

namespace State.Kept

variable {c b : Nat} {s t u : State}

theorem refl (s : State) : State.Kept c b s s := ⟨rfl, rfl⟩

theorem trans (first : State.Kept c b s t) (second : State.Kept c b t u) : State.Kept c b s u :=
  ⟨second.txb.trans first.txb, second.use.trans first.use⟩

/-- A write of another register. -/
theorem set {f : Fld} (state : f ≠ .TXB_STATE) (use : f ≠ .CAN_CTL_USE) (k v : Nat) : State.Kept c b s (s.set f k v) :=
  ⟨s.get_set_other v (fun same => state same.1), s.get_set_other v (fun same => use same.1)⟩

theorem canInt (d i : Nat) : State.Kept c b s (s.canInt d i) := set (by decide) (by decide) ..

theorem modCan (d : Nat) (f : CanH → CanH) : State.Kept c b s (s.modCan d f) := ⟨rfl, rfl⟩

/-- Another buffer of the controller. -/
theorem setTxb_other {d : Nat} (other : d ≠ b) (v : Nat) : State.Kept c b s (s.setTxb c d v) :=
  ⟨s.get_set_other v (by omega), s.get_set_other v (by simp)⟩

theorem ite {p : Prop} [Decidable p] (yes : State.Kept c b s t) (no : State.Kept c b s u) :
    State.Kept c b s (if p then t else u) := by
  split
  · exact yes
  · exact no

theorem foldl {α : Type} {f : State → α → State} (l : List α) (step : ∀ s, ∀ a ∈ l, State.Kept c b s (f s a)) :
    State.Kept c b s (l.foldl f s) := by
  induction l generalizing s with
  | nil => exact refl s
  | cons a l ih =>
    simp only [List.forall_mem_cons] at step
    exact (step s |>.1).trans (ih (fun s a listed => (step s).2 a listed))

theorem syncFifo (d : Nat) : State.Kept c b s (s.syncFifo d) :=
  ⟨by simp [State.syncFifo, State.txb, State.get_set_other], by simp [State.syncFifo, State.get_set_other]⟩

theorem popFirst (d : Nat) : State.Kept c b s (s.popFirst d) :=
  ite (refl s) ((modCan d _).trans (syncFifo d))

theorem noteEstate (d : Nat) : State.Kept c b s (s.noteEstate d) :=
  ite (refl s) (ite (refl s) ((set (by decide) (by decide) ..).trans (canInt ..)))

/-- The end of LONE takes back the buffers that wait in it alone. -/
theorem leaveLone (waitsNot : s.txb c b ≠ 6) : State.Kept c b s (s.leaveLone c) := by
  have written : State.Kept c b s ((s.set .CAN_STAT_LONE c 0).set .CAN_ERR_ACKFAIL_RUN c 0) :=
    (set (by decide) (by decide) ..).trans (set (by decide) (by decide) ..)
  refine written.trans (foldl _ (fun u d lone => setTxb_other ?_ 1))
  rintro rfl
  have waits : ((s.set .CAN_STAT_LONE c 0).set .CAN_ERR_ACKFAIL_RUN c 0).txb c d = 6 := by
    simpa using (List.mem_filter.mp lone).2
  exact waitsNot (written.txb.symm.trans waits)

theorem endLone (waitsNot : s.txb c b ≠ 6) : State.Kept c b s (s.endLone c) :=
  ite ((leaveLone waitsNot).trans (canInt ..)) (leaveLone waitsNot)

theorem enterBusOff (waitsNot : s.txb c b ≠ 6) : State.Kept c b s (s.enterBusOff c) := by
  have written : State.Kept c b s (((s.set .CAN_STAT_ESTATE c 2).canInt c 7).canInt c 8) :=
    (set (by decide) (by decide) ..).trans ((canInt ..).trans (canInt ..))
  exact written.trans ((leaveLone (written.txb ▸ waitsNot)).trans (modCan ..))

theorem acceptFrame (d : Nat) (f : CanFrame) (stamp : Nat) : State.Kept c b s (s.acceptFrame d f stamp) := by
  refine ite (refl s) ((popFirst d).trans (ite ((set (by decide) (by decide) ..).trans (canInt ..)) ?_))
  dsimp only
  exact ((modCan ..).trans (syncFifo ..)).trans ((ite (canInt ..) (refl _)).trans (ite (canInt ..) (refl _)))

theorem hierEvent (unit code : Nat) (extra : List (Nat × Nat × Nat)) : State.Kept c b s (s.hierEvent unit code extra) :=
  ⟨s.get_postEvent (by decide) .., s.get_postEvent (by decide) ..⟩

/-- A controller that the hierarchy does not use enters LONE without a change of bus (12_hierarchy.md R283). -/
theorem enterLone (used : s.get .CAN_CTL_USE c ≠ 0) : State.Kept c b s (s.enterLone c) := by
  have lone : State.Kept c b s ((s.set .CAN_STAT_LONE c 1).canInt c 9) :=
    (set (by decide) (by decide) ..).trans (canInt ..)
  unfold State.enterLone
  dsimp only
  generalize reported : State.hierEvent _ _ 8 _ = u
  have begun : State.Kept c b s u := reported ▸ (lone.trans (modCan ..)).trans (hierEvent ..)
  have stays : u.noteLone c = u := if_pos (by simp [begun.use, used])
  exact stays.symm ▸ begun

end State.Kept

/-! ### One bit of a register -/

theorem State.bit_setBit {s : State} (wf : regWf s.regs = true) {f : Fld} {u i j : Nat} (held : j < f.info.width) :
    bit ((s.setBit f u i).get f u) j = (bit (s.get f u) j || i == j) := by
  rw [State.setBit, State.get_set_same wf, bit_eq_testBit, bit_eq_testBit, Nat.testBit_mod_two_pow, decide_eq_true held,
    Bool.true_and, bitOr, Nat.testBit_or, Nat.testBit_two_pow,
    beq_eq_decide]

theorem cans_length_of_ok {s : State} {q : List Instr} (ok : Ok q s) : s.cans.length = 2 := by
  obtain ⟨-, -, -, -, -, -, -, cans, -⟩ := ok
  exact cans

/-! ### An abort (11_can_controllers.md R267) -/

/-- What an abort or a request for another buffer leaves: this buffer, its abort that waits, the attempt and `TXABORT`. -/
structure State.KeptTx (c b : Nat) (s t : State) : Prop extends State.Kept c b s t where
  active : t.get .CAN_STAT_TX_ACTIVE c = s.get .CAN_STAT_TX_ACTIVE c
  raised : bit (s.get .CAN_INT c) 3 = true → bit (t.get .CAN_INT c) 3 = true
  waits : b ∈ (s.can c).abortOf → b ∈ (t.can c).abortOf
  on : t.canOn c = s.canOn c

/-- Whether a controller runs does not rest on its own registers. -/
theorem State.canOn_set (s : State) {f : Fld} (other : f ∉ [.DOM_STAT_STATE, .DOM_STAT_FENCED, .PWRD_CLK_TCLK_RUN])
    (k v c : Nat) : (s.set f k v).canOn c = s.canOn c := by
  simp only [List.mem_cons, List.not_mem_nil, or_false, not_or] at other
  obtain ⟨state, fenced, clock⟩ := other
  rw [State.canOn, s.get_set_other v (fun same => state same.1), State.domFenced, s.flag_set_other fenced, s.flag_set_other clock]
  rfl

namespace State.KeptTx

variable {c b : Nat} {s t u : State} {q : List Instr}

theorem refl (s : State) : State.KeptTx c b s s := ⟨.refl s, rfl, id, id, rfl⟩

theorem trans (first : State.KeptTx c b s t) (second : State.KeptTx c b t u) : State.KeptTx c b s u :=
  ⟨first.toKept.trans second.toKept, second.active.trans first.active, second.raised ∘ first.raised,
    second.waits ∘ first.waits, second.on.trans first.on⟩

theorem setTxb_other {d : Nat} (other : d ≠ b) (v : Nat) : State.KeptTx c b s (s.setTxb c d v) := by
  refine ⟨.setTxb_other other v, s.get_set_other v (by simp), fun raised => ?_, id,
    s.canOn_set (by decide) ..⟩
  rwa [State.setTxb, s.get_set_other v (by simp)]

/-- A register of a buffer. -/
theorem set {f : Fld} (other : f ∉ [.TXB_STATE, .CAN_CTL_USE, .CAN_STAT_TX_ACTIVE, .CAN_INT])
    (domain : f ∉ [.DOM_STAT_STATE, .DOM_STAT_FENCED, .PWRD_CLK_TCLK_RUN]) (k v : Nat) :
    State.KeptTx c b s (s.set f k v) := by
  simp only [List.mem_cons, List.not_mem_nil, or_false, not_or] at other
  obtain ⟨state, use, active, int⟩ := other
  refine ⟨.set state use k v, s.get_set_other v (fun same => active same.1), fun raised => ?_, id,
    s.canOn_set domain ..⟩
  rwa [s.get_set_other v (fun same => int same.1)]

theorem canInt (wf : regWf s.regs = true) (i : Nat) : State.KeptTx c b s (s.canInt c i) := by
  refine ⟨.canInt c i, s.get_set_other _ (by simp), fun raised => ?_, id, s.canOn_set (by decide) ..⟩
  rw [State.canInt, State.bit_setBit wf (by decide), raised, Bool.true_or]

theorem abortTxb_other {d : Nat} (can : c < 2) (ok : Ok q s) (other : d ≠ b) : State.KeptTx c b s (s.abortTxb c d) := by
  unfold State.abortTxb
  split
  · exact (setTxb_other other 4).trans (canInt (setTxb_ok c d 4 ok).wf 3)
  · split
    · have listed : c < s.cans.length := (cans_length_of_ok ok).symm ▸ can
      exact ⟨.modCan .., rfl, id, fun waits => by simp [listed, waits], rfl⟩
    · exact refl s

theorem requestTxb_other {d : Nat} (ok : Ok q s) (other : d ≠ b) : State.KeptTx c b s (s.requestTxb c d) := by
  unfold State.requestTxb
  split
  · exact canInt ok.wf 12
  · exact (setTxb_other other 1).trans ((set (by decide) (by decide) ..).trans (set (by decide) (by decide) ..))

theorem foldl {f : State → Nat → State} {l : List Nat} (ok : Ok q s) (keeps : ∀ s d, Ok q s → Ok q (f s d))
    (step : ∀ s, Ok q s → ∀ d ∈ l, State.KeptTx c b s (f s d)) : State.KeptTx c b s (l.foldl f s) := by
  induction l generalizing s with
  | nil => exact refl s
  | cons d l ih =>
    have first := step s ok d List.mem_cons_self
    exact first.trans (ih (keeps s d ok) (fun s ok e listed => step s ok e (List.mem_cons_of_mem _ listed)))

end State.KeptTx

/-- The abort of the buffer itself leaves the use of the controller and whether it runs. -/
theorem State.abortTxb_use_on (s : State) (c b : Nat) :
    (s.abortTxb c b).get .CAN_CTL_USE c = s.get .CAN_CTL_USE c ∧ (s.abortTxb c b).canOn c = s.canOn c := by
  unfold State.abortTxb
  split
  · exact ⟨(State.Kept.canInt (b := b) c 3).use.trans (s.get_set_other 4 (by simp)),
      ((s.setTxb c b 4).canOn_set (by decide) ..).trans (s.canOn_set (by decide) ..)⟩
  · split <;> exact ⟨rfl, rfl⟩

theorem mem_maskBits {n v i : Nat} : i ∈ maskBits n v ↔ i < n ∧ bit v i = true := by
  simp [maskBits]

/-- The abort of one buffer, between those of the others and the requests of the access (11_can_controllers.md R267). -/
theorem State.canTxCmd_of_abort {s : State} {c b req mask : Nat} {q : List Instr} (can : c < 2) (ok : Ok q s) (buffer : b < 3)
    (asked : bit mask b = true) (alone : bit (bitClear req mask) b = false) :
    ∃ t, Ok q t ∧ State.KeptTx c b s t ∧ State.KeptTx c b (t.abortTxb c b) (s.canTxCmd c req mask) := by
  obtain ⟨before, after, parts⟩ := List.append_of_mem (mem_maskBits.mpr ⟨buffer, asked⟩)
  have distinct : (before ++ b :: after).Nodup := parts ▸ List.nodup_range.filter _
  have aborts (t : State) (ok : Ok q t) (l : List Nat) (others : b ∉ l) :
      State.KeptTx c b t (l.foldl (fun t d => t.abortTxb c d) t) :=
    .foldl ok (fun _ d ok => abortTxb_ok c d ok)
      (fun t ok d listed => .abortTxb_other can ok (fun same => others (same ▸ listed)))
  have requests (t : State) (ok : Ok q t) :
      State.KeptTx c b t ((maskBits 3 (bitClear req mask)).foldl (fun t d => t.requestTxb c d) t) :=
    .foldl ok (fun _ d ok => requestTxb_ok c d ok) (fun t ok d listed => .requestTxb_other ok (fun same => by
      simpa [same, alone] using (mem_maskBits.mp listed).2))
  have kept (t : State) (ok : Ok q t) (l : List Nat) : Ok q (l.foldl (fun t d => t.abortTxb c d) t) := by
    induction l generalizing t with
    | nil => exact ok
    | cons d l ih => exact ih _ (abortTxb_ok c d ok)
  have okBefore := kept s ok before
  refine ⟨_, okBefore, aborts s ok before (by grind), ?_⟩
  have okOwn := abortTxb_ok c b okBefore
  unfold State.canTxCmd
  rw [parts, List.foldl_append, List.foldl_cons]
  exact (aborts _ okOwn after (by grind)).trans (requests _ (kept _ okOwn after))

/-! ### The ends of an attempt (11_can_controllers.md R260, R266, R267) -/

theorem State.txb_setTxb {s : State} (wf : regWf s.regs = true) (c b : Nat) {v : Nat} (fits : v < 8) :
    (s.setTxb c b v).txb c b = v :=
  (State.get_set_same wf ..).trans (Nat.mod_eq_of_lt fits)

/-- An abort waits for the buffer of a controller that the hierarchy does not use. -/
structure State.Aborting (c b : Nat) (s : State) : Prop where
  wf : regWf s.regs = true
  used : s.get .CAN_CTL_USE c ≠ 0
  waits : b ∈ (s.can c).abortOf

namespace State.Aborting

variable {c b : Nat} {s t : State}

theorem set (h : State.Aborting c b s) {f : Fld} (other : f ≠ .CAN_CTL_USE) (u v : Nat) : State.Aborting c b (s.set f u v) :=
  ⟨regWf_set h.wf f u v, by rw [s.get_set_other v (fun same => other same.1)]; exact h.used, h.waits⟩

theorem ite {p : Prop} [Decidable p] (yes : State.Aborting c b s) (no : State.Aborting c b t) :
    State.Aborting c b (if p then s else t) := by
  split
  · exact yes
  · exact no

variable (h : State.Aborting c b s)
include h

theorem noteEstate : State.Aborting c b (s.noteEstate c) :=
  ite h (ite h ((h.set (by decide) ..).set (f := .CAN_INT) (by decide) ..))

theorem failAttempt_eq (st : Nat) : s.failAttempt c b st =
    ((s.modCan c (fun x => { x with abortOf := x.abortOf.filter (· != b) })).setTxb c b 4).canInt c 3 :=
  if_pos (by simpa using h.waits)

theorem txb_failAttempt (st : Nat) : (s.failAttempt c b st).txb c b = 4 := by
  rw [h.failAttempt_eq]
  refine (State.Kept.canInt c 3).txb.trans ?_
  exact State.txb_setTxb (s := s.modCan c _) h.wf c b (by decide)

theorem used_failAttempt (st : Nat) : (s.failAttempt c b st).get .CAN_CTL_USE c ≠ 0 := by
  rw [h.failAttempt_eq, (State.Kept.canInt (b := b) c 3).use, State.setTxb, State.get_set_other _ _ (by simp)]
  exact h.used

/-- Whatever an error brings, the buffer ends `ABORTED`. -/
theorem txb_attemptError (lec : Nat) (dp : Bool) (up : Nat) : (s.attemptError c b lec dp up).txb c b = 4 := by
  have noted : State.Aborting c b (((s.set .CAN_ERR_LEC c lec).setB .CAN_ERR_LEC_DATA c dp).canInt c 11) :=
    ((h.set (by decide) ..).set (f := .CAN_ERR_LEC_DATA) (by decide) ..).set (f := .CAN_INT) (by decide) ..
  unfold State.attemptError
  dsimp only
  generalize ((s.set .CAN_ERR_LEC c lec).setB .CAN_ERR_LEC_DATA c dp).canInt c 11 = t at noted ⊢
  have raised : State.Aborting c b (t.raiseTec c up) := noted.set (by decide) ..
  have counted : State.Aborting c b (if lec == 3 then (t.raiseTec c up).count .CAN_ERR_ACKFAIL_RUN c else t.raiseTec c up) :=
    ite (raised.set (by decide) ..) raised
  generalize (if lec == 3 then (t.raiseTec c up).count .CAN_ERR_ACKFAIL_RUN c else t.raiseTec c up) = u at counted ⊢
  split
  · have failed := counted.txb_failAttempt 1
    exact (State.Kept.enterBusOff (by simp [failed])).txb.trans failed
  · split
    · exact (State.Kept.enterLone (counted.noteEstate.used_failAttempt _)).txb.trans (counted.noteEstate.txb_failAttempt _)
    · exact counted.noteEstate.txb_failAttempt _

end State.Aborting

/-- An attempt that succeeds ends `DONE`; only the hierarchy does more with its frame. -/
theorem State.txb_attemptDone {s : State} {c b : Nat} (wf : regWf s.regs = true) (used : s.get .CAN_CTL_USE c ≠ 0)
    (stamp : Nat) : (s.attemptDone c b stamp).txb c b = 3 := by
  have sent : ((s.modCan c (fun x => { x with abortOf := x.abortOf.filter (· != b) })).setTxb c b 3).txb c b = 3 :=
    State.txb_setTxb (s := s.modCan c _) wf c b (by decide)
  have use : ((s.modCan c (fun x => { x with abortOf := x.abortOf.filter (· != b) })).setTxb c b 3).get .CAN_CTL_USE c
      = s.get .CAN_CTL_USE c := State.get_set_other (s.modCan c _) _ (by simp)
  unfold State.attemptDone
  dsimp only
  generalize (s.modCan c (fun x => { x with abortOf := x.abortOf.filter (· != b) })).setTxb c b 3 = t at sent use ⊢
  generalize stamped : State.set _ .CAN_ERR_TEC c _ = u
  have marked : State.Kept c b t u := by
    rw [← stamped]
    exact ((State.Kept.set (by decide) (by decide) ..).trans (.set (by decide) (by decide) ..)).trans
      ((State.Kept.canInt ..).trans (.set (by decide) (by decide) ..))
  generalize taken : (if u.get .CAN_STAT_MODE_NOW c == 3 then _ else _) = v
  have received : State.Kept c b u v := by
    rw [← taken]
    exact .ite (.acceptFrame ..) (.set (f := .CAN_FCNT) (by decide) (by decide) ..)
  have kept := marked.trans received
  have ended := kept.trans ((State.Kept.endLone (by rw [kept.txb, sent]; decide)).trans (.noteEstate c))
  rw [if_neg (by rw [ended.use, use]; simpa using used)]
  exact ended.txb.trans sent

/-! ### The arms of the end of an attempt -/

/-- The attempt has passed the FDF bit with bit-rate switching and compensation, so that the loop delay is measured
(11_can_controllers.md R260). -/
def State.measures (s : State) (c b d : Nat) (fin : TxEnd) : Bool :=
  (s.txFrame c b).brs && s.flag .CAN_CTL_TDC_EN c && fin.pastFdf d && !(s.get .CAN_STAT_MODE_NOW c == 3)

/-- The measured delay puts the secondary sample point past 127 cycles. -/
def State.sspLate (s : State) (c b d : Nat) (fin : TxEnd) : Bool :=
  s.measures c b d fin && 127 < d + s.get .CAN_TDC_TDCO c

/-- The attempt is over, with what it has measured. -/
def State.attemptOver (s : State) (c b d : Nat) (fin : TxEnd) : State :=
  (if s.measures c b d fin then s.set .CAN_TDC_TDCV c (min 127 d) else s).set .CAN_STAT_TX_ACTIVE c 0

/-- The attempt that is over counts, and the bus is idle. -/
def State.attemptCounted (s : State) (c b d : Nat) (fin : TxEnd) : State :=
  ((s.attemptOver c b d fin).count .TXB_ATTEMPTS (3 * c + b)).set .CAN_STAT_BUS_IDLE c 1

section

variable {s : State} {c b : Nat} (can : c < 2) (on : s.canOn c = true) (active : s.flag .CAN_STAT_TX_ACTIVE c = true)
  (sends : (s.txbIn c [2]).head? = some b) (stamp d : Nat)
include can on active sends

theorem exec_canTxAttemptEnd_of_sent (fin : TxEnd) : exec (.canTxAttemptEnd c stamp d fin) s =
    if fin == .lost && !(s.get .CAN_STAT_MODE_NOW c == 3) then
      let t := (s.attemptOver c b d fin).set .CAN_STAT_RX_ACTIVE c 1
      .next (if (t.can c).abortOf.contains b then t.failAttempt c b 1 else t.setTxb c b 1)
    else
      let t := s.attemptCounted c b d fin
      if s.sspLate c b d fin then .next (t.useFree.attemptError c b (4 + t.freeVal % 2) true 8)
      else match fin with
        | .ok | .lost => .next (t.attemptDone c b (t.sofStamp c stamp))
        | .noAck dominant =>
          if s.get .CAN_STAT_MODE_NOW c == 3 then .next (t.attemptDone c b (t.sofStamp c stamp))
          else .next (t.attemptError c b 3 false (if t.get .CAN_STAT_ESTATE c == 1 && !dominant then 0 else 8))
        | .err lec dataPhase eights => .next (t.attemptError c b (lec % 8) dataPhase (8 * eights)) := by
  refine (if_neg (by simp [can, on, active])).trans ?_
  simp only [sends]
  rfl

end

/-- In LOOPBACK nothing is measured. -/
theorem State.sspLate_of_loopback {s : State} {c : Nat} (loopback : s.get .CAN_STAT_MODE_NOW c = 3) (b d : Nat) (fin : TxEnd) :
    s.sspLate c b d fin = false := by
  simp [State.sspLate, State.measures, loopback]

theorem State.sspLate_ok_iff {s : State} {c b d : Nat} (outside : s.get .CAN_STAT_MODE_NOW c ≠ 3) :
    s.sspLate c b d .ok = true ↔
      (s.txFrame c b).brs = true ∧ s.flag .CAN_CTL_TDC_EN c = true ∧ 127 < d + s.get .CAN_TDC_TDCO c := by
  simp [State.sspLate, State.measures, TxEnd.pastFdf, outside, and_assoc]

namespace State.Aborting

variable {c b : Nat} {s : State} (h : State.Aborting c b s) (d : Nat) (fin : TxEnd)
include h

theorem attemptOver : State.Aborting c b (s.attemptOver c b d fin) :=
  (ite (h.set (by decide) ..) h).set (by decide) ..

theorem useFree : State.Aborting c b s.useFree := ⟨h.wf, h.used, h.waits⟩

theorem attemptCounted : State.Aborting c b (s.attemptCounted c b d fin) :=
  ((h.attemptOver d fin).set (f := .TXB_ATTEMPTS) (by decide) ..).set (by decide) ..

end State.Aborting

/-- The end `fin` of the attempt of buffer `b` leaves it in state `st`. -/
def State.endsIn (s : State) (c b stamp d : Nat) (fin : TxEnd) (st : Nat) : Prop :=
  ∃ u, exec (.canTxAttemptEnd c stamp d fin) s = .next u ∧ u.txb c b = st

section

variable {s : State} {c b : Nat} (can : c < 2) (on : s.canOn c = true) (active : s.flag .CAN_STAT_TX_ACTIVE c = true)
  (sends : (s.txbIn c [2]).head? = some b) (h : State.Aborting c b s) (stamp d : Nat)
include can on active sends h

theorem endsIn_of_late {fin : TxEnd} (counts : ¬(fin == .lost && !(s.get .CAN_STAT_MODE_NOW c == 3)) = true)
    (late : s.sspLate c b d fin = true) : s.endsIn c b stamp d fin 4 := by
  refine ⟨_, (exec_canTxAttemptEnd_of_sent can on active sends ..).trans ((if_neg counts).trans (if_pos late)), ?_⟩
  exact (h.attemptCounted d fin).useFree.txb_attemptError ..

theorem endsIn_err (lec : Nat) (dp : Bool) (n : Nat) : s.endsIn c b stamp d (.err lec dp n) 4 := by
  by_cases late : s.sspLate c b d (.err lec dp n) = true
  · exact endsIn_of_late can on active sends h stamp d (by simp) late
  · exact ⟨_, (exec_canTxAttemptEnd_of_sent can on active sends ..).trans ((if_neg (by simp)).trans (if_neg late)),
      (h.attemptCounted ..).txb_attemptError ..⟩

theorem endsIn_ok (inTime : s.sspLate c b d .ok = false) : s.endsIn c b stamp d .ok 3 := by
  refine ⟨_, (exec_canTxAttemptEnd_of_sent can on active sends ..).trans ((if_neg (by simp)).trans (if_neg (by simp [inTime]))),
    ?_⟩
  exact State.txb_attemptDone (h.attemptCounted d .ok).wf (h.attemptCounted d .ok).used _

theorem endsIn_loopback (loopback : s.get .CAN_STAT_MODE_NOW c = 3) {fin : TxEnd} (noError : ∀ lec dp n, fin ≠ .err lec dp n) :
    s.endsIn c b stamp d fin 3 := by
  have inside : ¬(fin == .lost && !(s.get .CAN_STAT_MODE_NOW c == 3)) = true := by simp [loopback]
  have inTime : ¬s.sspLate c b d fin = true := by simp [State.sspLate_of_loopback loopback]
  have runs := (exec_canTxAttemptEnd_of_sent can on active sends stamp d fin).trans ((if_neg inside).trans (if_neg inTime))
  have done : ((s.attemptCounted c b d fin).attemptDone c b ((s.attemptCounted c b d fin).sofStamp c stamp)).txb c b = 3 :=
    State.txb_attemptDone (h.attemptCounted d fin).wf (h.attemptCounted d fin).used _
  cases fin with
  | ok => exact ⟨_, runs, done⟩
  | lost => exact ⟨_, runs, done⟩
  | noAck dom => exact ⟨_, runs.trans (if_pos (by simp [loopback])), done⟩
  | err lec dp n => exact absurd rfl (noError lec dp n)

theorem endsIn_lost (outside : s.get .CAN_STAT_MODE_NOW c ≠ 3) : s.endsIn c b stamp d .lost 4 := by
  have ended := (h.attemptOver d .lost).set (f := .CAN_STAT_RX_ACTIVE) (by decide) c 1
  refine ⟨_, (exec_canTxAttemptEnd_of_sent can on active sends ..).trans (if_pos (by simp [outside])), ?_⟩
  rw [if_pos (by simpa using ended.waits)]
  exact ended.txb_failAttempt 1

theorem endsIn_noAck (outside : s.get .CAN_STAT_MODE_NOW c ≠ 3) (dom : Bool) : s.endsIn c b stamp d (.noAck dom) 4 := by
  by_cases late : s.sspLate c b d (.noAck dom) = true
  · exact endsIn_of_late can on active sends h stamp d (by simp) late
  · exact ⟨_, (exec_canTxAttemptEnd_of_sent can on active sends ..).trans ((if_neg (by simp)).trans ((if_neg late).trans
      (if_neg (by simpa using outside)))), (h.attemptCounted ..).txb_attemptError ..⟩

end

theorem bit_bits {v b n : Nat} (low : b < n) : bit (bits v 0 n) b = bit v b := by
  rw [bit_eq_testBit, bit_eq_testBit, bits, pow_zero, Nat.div_one, Nat.testBit_mod_two_pow, decide_eq_true low, Bool.true_and]

/-- Settles O12: the abort acts by the state of its buffer, and the attempt that goes on ends by it. -/
theorem abortOfTransmitBuffers : Obligations.AbortOfTransmitBuffers := by
  intro c b mask req s can buffer asked sound on used
  have ok : Ok s.pending s := (ok_iff _ _).mpr ⟨rfl, sound⟩
  have asked : bit (bits mask 0 3) b = true := (bit_bits buffer).trans asked
  have alone : bit (bitClear (bits req 0 3) (bits mask 0 3)) b = false :=
    (by decide : ∀ r < 8, ∀ m < 8, ∀ b < 3, bit m b = true → bit (bitClear r m) b = false) _ (Nat.mod_lt _ (by decide)) _
      (Nat.mod_lt _ (by decide)) b buffer asked
  obtain ⟨u, okU, before, after⟩ := State.canTxCmd_of_abort can ok buffer asked alone
  have waiting (st : s.txb c b = 1 ∨ s.txb c b = 6) : (s.canTxCmd c (bits req 0 3) (bits mask 0 3)).txb c b = 4
      ∧ bit ((s.canTxCmd c (bits req 0 3) (bits mask 0 3)).get .CAN_INT c) 3 = true := by
    rw [State.abortTxb_of_waiting (by rw [before.txb]; exact st)] at after
    have aborted : (u.setTxb c b 4).txb c b = 4 := State.txb_setTxb okU.wf c b (by decide)
    refine ⟨(after.txb.trans (State.Kept.canInt c 3).txb).trans aborted, after.raised ?_⟩
    rw [State.canInt, State.bit_setBit (setTxb_ok c b 4 okU).wf (by decide)]
    simp
  have goesOn (st : s.txb c b = 2) : (s.canTxCmd c (bits req 0 3) (bits mask 0 3)).txb c b = 2
      ∧ (s.canTxCmd c (bits req 0 3) (bits mask 0 3)).get .CAN_STAT_TX_ACTIVE c = s.get .CAN_STAT_TX_ACTIVE c
      ∧ b ∈ ((s.canTxCmd c (bits req 0 3) (bits mask 0 3)).can c).abortOf := by
    rw [State.abortTxb_of_active (before.txb.trans st)] at after
    refine ⟨after.txb.trans (before.txb.trans st), after.active.trans before.active, after.waits ?_⟩
    have listed : c < u.cans.length := (cans_length_of_ok okU).symm ▸ can
    simp [listed]
  have other (pending : s.txb c b ≠ 1) (lone : s.txb c b ≠ 6) (active : s.txb c b ≠ 2) :
      (s.canTxCmd c (bits req 0 3) (bits mask 0 3)).txb c b = s.txb c b := by
    rw [State.abortTxb_of_other (before.txb ▸ pending) (before.txb ▸ lone) (before.txb ▸ active)] at after
    exact after.txb.trans before.txb
  have okT : Ok s.pending (s.canTxCmd c (bits req 0 3) (bits mask 0 3)) := canTxCmd_ok c _ _ ok
  have use := after.use.trans ((u.abortTxb_use_on c b).1.trans before.use)
  have runs := after.on.trans ((u.abortTxb_use_on c b).2.trans before.on)
  refine ⟨_, exec_txAbort_of_used can on used, waiting, goesOn, other, fun onS active sends stamp d => ?_⟩
  have sent : (s.canTxCmd c (bits req 0 3) (bits mask 0 3)).txb c b = 2 := by
    have sent : b ∈ (s.canTxCmd c (bits req 0 3) (bits mask 0 3)).txbIn c [2] := sends ▸ List.mem_singleton_self b
    simpa using (List.mem_filter.mp sent).2
  have st : s.txb c b = 2 := by
    by_contra notActive
    by_cases waits : s.txb c b = 1 ∨ s.txb c b = 6
    · exact absurd ((waiting waits).1.symm.trans sent) (by decide)
    · exact notActive ((other (mt .inl waits) (mt .inr waits) notActive).symm.trans sent)
  have aborting : State.Aborting c b (s.canTxCmd c (bits req 0 3) (bits mask 0 3)) :=
    ⟨okT.wf, use.symm ▸ used, (goesOn st).2.2⟩
  have onT := runs.trans onS
  generalize s.canTxCmd c (bits req 0 3) (bits mask 0 3) = t at onT active sends aborting ⊢
  have sends : (t.txbIn c [2]).head? = some b := by rw [sends]; rfl
  refine ⟨endsIn_err can onT active sends aborting stamp d, fun loopback => ⟨?_, ?_, fun dom => ?_⟩,
    fun outside => ⟨endsIn_lost can onT active sends aborting stamp d outside,
      endsIn_noAck can onT active sends aborting stamp d outside, fun inTime => ?_, fun brs tdc late => ?_⟩⟩
  · exact endsIn_loopback can onT active sends aborting stamp d loopback (by simp)
  · exact endsIn_loopback can onT active sends aborting stamp d loopback (by simp)
  · exact endsIn_loopback can onT active sends aborting stamp d loopback (by simp)
  · refine endsIn_ok can onT active sends aborting stamp d (Bool.eq_false_iff.mpr fun late => ?_)
    obtain ⟨brs, tdc, late⟩ := (State.sspLate_ok_iff outside).mp late
    simp [brs, tdc, Nat.not_le.mpr late] at inTime
  · exact endsIn_of_late can onT active sends aborting stamp d (by simp) ((State.sspLate_ok_iff outside).mpr ⟨brs, tdc, late⟩)

end Sys2Proof.Machine
end

section
/-! PROOFS. The events of a CAN bus (11_can_controllers.md R260, R265, R266, R268, R270 to R272). -/

namespace Sys2Proof.Machine

/-! ### The ends of an attempt, by whether the loop delay is measured (11_can_controllers.md R260, R266) -/

section

variable {s : State} {c b d : Nat} {fin : TxEnd}

theorem State.measures_eq_false (no : (s.txFrame c b).brs = false ∨ s.flag .CAN_CTL_TDC_EN c = false
    ∨ s.get .CAN_STAT_MODE_NOW c = 3) : s.measures c b d fin = false := by
  rcases no with no | no | no <;> simp [State.measures, no]

theorem State.measures_of_past (brs : (s.txFrame c b).brs = true) (tdc : s.flag .CAN_CTL_TDC_EN c = true)
    (outside : s.get .CAN_STAT_MODE_NOW c ≠ 3) (past : fin.pastFdf d = true) : s.measures c b d fin = true := by
  simp [State.measures, brs, tdc, outside, past]

theorem State.sspLate_of_unmeasured (no : s.measures c b d fin = false) : ¬s.sspLate c b d fin = true := by
  simp [State.sspLate, no]

theorem State.sspLate_of_early (early : d + s.get .CAN_TDC_TDCO c ≤ 127) : ¬s.sspLate c b d fin = true := by
  simp [State.sspLate, early]

theorem State.attemptCounted_of_unmeasured (no : s.measures c b d fin = false) :
    s.attemptCounted c b d fin =
      ((s.set .CAN_STAT_TX_ACTIVE c 0).count .TXB_ATTEMPTS (3 * c + b)).set .CAN_STAT_BUS_IDLE c 1 := by
  rw [State.attemptCounted, State.attemptOver, no]
  rfl

theorem State.attemptCounted_of_measured (yes : s.measures c b d fin = true) :
    s.attemptCounted c b d fin =
      (((s.set .CAN_TDC_TDCV c (min 127 d)).set .CAN_STAT_TX_ACTIVE c 0).count .TXB_ATTEMPTS (3 * c + b)).set
        .CAN_STAT_BUS_IDLE c 1 := by
  rw [State.attemptCounted, State.attemptOver, yes]
  rfl

variable (can : c < 2) (on : s.canOn c = true) (active : s.flag .CAN_STAT_TX_ACTIVE c = true)
  (sends : (s.txbIn c [2]).head? = some b) (stamp : Nat)
include can on active sends

theorem exec_canTxAttemptEnd_ok {t : State} (counted : s.attemptCounted c b d .ok = t) (inTime : ¬s.sspLate c b d .ok = true) :
    exec (.canTxAttemptEnd c stamp d .ok) s = .next (t.attemptDone c b (t.sofStamp c stamp)) := by
  subst counted
  exact (exec_canTxAttemptEnd_of_sent can on active sends ..).trans ((if_neg (by simp)).trans (if_neg inTime))

theorem exec_canTxAttemptEnd_noAck {t : State} {dom : Bool} (counted : s.attemptCounted c b d (.noAck dom) = t)
    (outside : s.get .CAN_STAT_MODE_NOW c ≠ 3) (inTime : ¬s.sspLate c b d (.noAck dom) = true) :
    exec (.canTxAttemptEnd c stamp d (.noAck dom)) s =
      .next (t.attemptError c b 3 false (if t.get .CAN_STAT_ESTATE c = 1 ∧ dom = false then 0 else 8)) := by
  subst counted
  refine (exec_canTxAttemptEnd_of_sent can on active sends ..).trans ((if_neg (by simp)).trans ((if_neg inTime).trans
    ((if_neg (by simpa using outside)).trans ?_)))
  simp only [Bool.and_eq_true, beq_iff_eq, Bool.not_eq_true']

theorem exec_canTxAttemptEnd_err {t : State} {lec n : Nat} {dp : Bool} (counted : s.attemptCounted c b d (.err lec dp n) = t)
    (inTime : ¬s.sspLate c b d (.err lec dp n) = true) :
    exec (.canTxAttemptEnd c stamp d (.err lec dp n)) s = .next (t.attemptError c b (lec % 8) dp (8 * n)) := by
  subst counted
  exact (exec_canTxAttemptEnd_of_sent can on active sends ..).trans ((if_neg (by simp)).trans (if_neg inTime))

end

/-! ### A frame received (11_can_controllers.md R268, R270, R272) -/

/-- The frame counts, before REC falls. -/
def State.frameCounted (s : State) (c : Nat) : State :=
  ((s.set .CAN_STAT_RX_ACTIVE c 0).set .CAN_STAT_BUS_IDLE c 1).addTo .CAN_FCNT c 1

theorem State.frameCounted_rec (s : State) (c : Nat) : (s.frameCounted c).get .CAN_ERR_REC c = s.get .CAN_ERR_REC c := by
  simp [State.frameCounted, State.addTo, State.get_set_other]

/-- REC falls by one, or from above 127 to a free value between 119 and 127. -/
def State.recFallen (s : State) (c : Nat) : State :=
  if 127 < s.get .CAN_ERR_REC c then (s.set .CAN_ERR_REC c (119 + s.freeVal % 9)).useFree
  else s.set .CAN_ERR_REC c (s.get .CAN_ERR_REC c - 1)

/-- The frame ends LONE and may end error passive, and the hierarchy's bus has delivered it. -/
def State.frameHeard (s : State) (c : Nat) : State :=
  let t := (s.endLone c).noteEstate c
  if t.get .CAN_CTL_USE c == 0 then { t with hier := { t.hier with busLast := t.hier.busLast.set c t.dt } } else t

theorem State.leaveLone_clock (s : State) (c : Nat) : (s.leaveLone c).clock = s.clock :=
  State.foldl_set_keeps State.clock (fun _ _ _ _ => rfl) ..

theorem State.endLone_clock (s : State) (c : Nat) : (s.endLone c).clock = s.clock := by
  unfold State.endLone
  dsimp only
  split
  · exact s.leaveLone_clock c
  · exact s.leaveLone_clock c

theorem State.noteEstate_clock (s : State) (c : Nat) : (s.noteEstate c).clock = s.clock := by
  unfold State.noteEstate
  dsimp only
  repeat' split
  all_goals rfl

theorem State.frameHeard_clock (s : State) (c : Nat) : (s.frameHeard c).clock = s.clock := by
  refine Eq.trans ?_ (((s.endLone c).noteEstate_clock c).trans (s.endLone_clock c))
  unfold State.frameHeard
  dsimp only
  split <;> rfl

theorem exec_canFrameReceived_of_heard {c stamp : Nat} {f : CanFrame} {s t : State} (can : c < 2) (hears : s.canHears c = true)
    (form : f.fdf = false ∨ (s.flag .CAN_CTL_FD_EN c = true ∧ f.rtr = false))
    (fell : (s.frameCounted c).recFallen c = t) (clock : t.clock = s.clock) :
    exec (.canFrameReceived c f stamp) s = .next (
      let u := (t.endLone c).noteEstate c
      let u := if u.get .CAN_CTL_USE c = 0 then { u with hier := { u.hier with busLast := u.hier.busLast.set c u.dt } } else u
      u.acceptFrame c f (s.clock - (s.clock - stamp) / 25 * 25)) := by
  have known : ¬(f.fdf && (!s.flag .CAN_CTL_FD_EN c || f.rtr)) = true := by
    rcases form with classic | ⟨fd, data⟩
    · simp [classic]
    · simp [fd, data]
  have runs : exec (.canFrameReceived c f stamp) s
      = .next ((t.frameHeard c).acceptFrame c f ((t.frameHeard c).edgeStamp stamp)) := by
    subst fell
    unfold State.frameHeard State.recFallen State.frameCounted
    exact (if_neg (by simp [can, hears])).trans (if_neg known)
  rw [runs, State.edgeStamp, t.frameHeard_clock, clock, State.frameHeard]
  simp only [beq_iff_eq]

/-- Settles O52: an attempt that ends by what it has measured, a frame by the fall of REC, and the other events by the state of
their controller. -/
theorem canBusCommands : Obligations.CanBusCommands := by
  refine ⟨?synced, ?choice, ?lone, ?ok, ?lost, ?noAck, ?err, ?okMeasured, ?noAckMeasured, ?errMeasured, ?late, ?rxError,
    ?frame, ?frameHigh, ?form, ?recovered⟩
  case synced =>
    intro c n s can on runs long first
    exact if_neg (by simp [can, on, runs, long, first])
  case choice =>
    intro c b s can may notLone chosen
    refine (if_neg (by simp [can, may])).trans ((if_neg (by simp [notLone])).trans ?_)
    simp only [chosen]
    rfl
  case lone =>
    rintro c b m s can may lone rfl later fresh chosen
    refine (if_neg (by simp [can, may, lone])).trans ((if_neg ?_).trans ?_)
    · simp only [Bool.or_eq_true, beq_iff_eq, decide_eq_true_eq, not_or]
      exact ⟨later, Nat.not_le.mpr fresh⟩
    · simp only [chosen]
  case ok =>
    intro c b stamp d s can on active sends no
    have no := State.measures_eq_false (d := d) (fin := .ok) no
    exact exec_canTxAttemptEnd_ok can on active sends stamp (State.attemptCounted_of_unmeasured no)
      (State.sspLate_of_unmeasured no)
  case lost =>
    intro c b stamp d s can on active sends outside
    have no : s.measures c b d .lost = false := by simp [State.measures, TxEnd.pastFdf]
    refine (exec_canTxAttemptEnd_of_sent can on active sends ..).trans ((if_pos (by simp [outside])).trans ?_)
    rw [State.attemptOver, no]
    simp only [List.contains_iff_mem]
    rfl
  case noAck =>
    intro c b stamp d dom s can on active sends outside no
    have no := State.measures_eq_false (d := d) (fin := .noAck dom) (no.imp_right Or.inl)
    exact exec_canTxAttemptEnd_noAck can on active sends stamp (State.attemptCounted_of_unmeasured no) outside
      (State.sspLate_of_unmeasured no)
  case err =>
    intro c b stamp d lec n dp s can on active sends no
    have no := State.measures_eq_false (d := d) (fin := .err lec dp n) no
    exact exec_canTxAttemptEnd_err can on active sends stamp (State.attemptCounted_of_unmeasured no)
      (State.sspLate_of_unmeasured no)
  case okMeasured =>
    intro c b stamp d s can on active sends brs tdc outside early
    exact exec_canTxAttemptEnd_ok can on active sends stamp
      (State.attemptCounted_of_measured (State.measures_of_past brs tdc outside rfl)) (State.sspLate_of_early early)
  case noAckMeasured =>
    intro c b stamp d dom s can on active sends brs tdc outside early
    exact exec_canTxAttemptEnd_noAck can on active sends stamp
      (State.attemptCounted_of_measured (State.measures_of_past brs tdc outside rfl)) outside (State.sspLate_of_early early)
  case errMeasured =>
    intro c b stamp d lec n dp s can on active sends brs tdc outside past early
    have past : TxEnd.pastFdf (.err lec dp n) d = true := by simpa [TxEnd.pastFdf] using past
    exact exec_canTxAttemptEnd_err can on active sends stamp
      (State.attemptCounted_of_measured (State.measures_of_past brs tdc outside past)) (State.sspLate_of_early early)
  case late =>
    intro c b stamp d s can on active sends brs tdc outside late
    have late := (State.sspLate_ok_iff (d := d) outside).mpr ⟨brs, tdc, late⟩
    refine (exec_canTxAttemptEnd_of_sent can on active sends ..).trans ((if_neg (by simp)).trans ((if_pos late).trans ?_))
    rw [State.attemptCounted_of_measured (State.measures_of_past brs tdc outside rfl)]
  case rxError =>
    intro c lec n dp s can hears
    exact if_neg (by simp [can, hears])
  case frame =>
    intro c stamp f s can hears form low
    exact exec_canFrameReceived_of_heard can hears form (if_neg (by rw [s.frameCounted_rec]; omega)) rfl
  case frameHigh =>
    intro c stamp f s can hears form high
    exact exec_canFrameReceived_of_heard can hears form (if_pos (by rw [s.frameCounted_rec]; exact high)) rfl
  case form =>
    intro c stamp f s can hears fd no
    refine (if_neg (by simp [can, hears])).trans (if_pos ?_)
    simpa [fd] using no
  case recovered =>
    intro c n s can on off runs long may
    refine if_neg ?_
    have may : (s.flag .CAN_CTL_AUTO_RECOVER c || (s.can c).recover) = true := by simpa using may
    rw [may]
    simp [can, on, off, runs, long]

end Sys2Proof.Machine
end

section
/-! PROOFS. The management port: its transfers and its CCCs (17_registers.md R382 to R385, R397). -/

namespace Sys2Proof.Machine

@[simp] theorem touch_mgmt (s : State) (d : Nat) : (s.touch d).mgmt = s.mgmt := by
  unfold State.touch
  dsimp only
  repeat' split
  all_goals rfl

section

variable {s : State} (high : s.pins.porstLow = false) (on : s.domOn dMIF = true)
include high on

theorem mgmtHears : ¬(s.pins.porstLow || !s.domOn dMIF) = true := by simp [high, on]

/-- An aligned write sets the pointer and writes its words. -/
theorem exec_mgmtWrite_of_aligned (i3c : Bool) {bytes : List Nat} {a : Nat} (addressed : 3 ≤ bytes.length)
    (address : leAt (bytes.map (· % 256)) 0 3 = a) (aligned : a % 4 = 0) :
    exec (.mgmtWrite i3c bytes) s = .next (State.writeWords
      { s.touch dMIF with mgmt := { s.mgmt with pointer := a, past := false, busy := false } } i3c
      (wordsOf (bytes.drop 3))) := by
  subst address
  refine (if_neg (mgmtHears high on)).trans ((if_neg (Nat.not_lt.mpr addressed)).trans ?_)
  have word : leAt (bytes.map (· % 256)) 0 3 / 4 * 4 = leAt (bytes.map (· % 256)) 0 3 :=
    Nat.div_mul_cancel (Nat.dvd_of_mod_eq_zero aligned)
  simp only [aligned, word]
  rfl

variable (unfenced : s.domFenced dMIF = false)
include unfenced

/-- A CCC that the target hears acts on the port's own record. -/
theorem State.ccc_of_on (f : Mgmt → Mgmt) :
    s.ccc f = { s.touch dMIF with mgmt := f { (s.touch dMIF).mgmt with busy := false } } := by
  rw [touch_mgmt]
  exact (if_neg (by simp [high, unfenced])).trans (if_neg (by simp [on]))

end

/-- Settles O45: a transfer by its alignment, and each CCC as the record of the port takes it. -/
theorem managementTransfers : Obligations.ManagementTransfers := by
  refine ⟨?write, ?read, ?enec, ?disec, ?rstdaa, ?getmwl, ?getmrl, ?getpid, ?getbcr, ?getdcr, ?setmwl, ?setmrl, ?entdaa,
    ?setdasa, ?setnewda, ?getstatus, ?ibi⟩
  case write =>
    intro i3c bytes s high on addressed aligned _
    simp only [touch_mgmt]
    exact exec_mgmtWrite_of_aligned high on i3c addressed rfl aligned
  case read =>
    intro i3c n s high on
    exact if_neg (mgmtHears high on)
  case enec | disec =>
    intro e s high on unfenced odd
    exact congrArg _ ((State.ccc_of_on high on unfenced _).trans (by simp [odd]))
  case rstdaa | getpid | getbcr | getdcr =>
    intro s high on unfenced
    exact congrArg _ (State.ccc_of_on high on unfenced _)
  case getmwl | getmrl =>
    intro s high on unfenced
    exact congrArg _ ((State.ccc_of_on high on unfenced _).trans (by simp only [touch_mgmt]))
  case setmwl | setmrl =>
    intro n s high on unfenced least most
    exact congrArg _ ((State.ccc_of_on high on unfenced _).trans (by simp [least, most]))
  case entdaa =>
    intro a s high on unfenced free
    exact congrArg _ ((State.ccc_of_on high on unfenced _).trans (by simp [free]))
  case setdasa =>
    intro b a s high on unfenced free named
    exact congrArg _ ((State.ccc_of_on high on unfenced _).trans (by simp [free, named]))
  case setnewda =>
    intro a s high on unfenced has
    exact congrArg _ ((State.ccc_of_on high on unfenced _).trans (by simp [Option.isSome_iff_ne_none, has]))
  case getstatus =>
    intro s high on unfenced
    exact congrArg (fun t : State => Host.Outcome.next t.useFree) (State.ccc_of_on high on unfenced _)
  case ibi =>
    intro s sent on
    exact if_pos (by simp [Option.isSome_iff_ne_none, sent, on])

end Sys2Proof.Machine
end

section
/-! PROOFS. Device Time: its messages and the loss of its lock (12_hierarchy.md R299 to R302). -/

namespace Sys2Proof.Machine

/-- A command whose message is heard ends where the message's own effect does. -/
theorem next_of_heard {typ : Nat} {m : HMsg} {f : State → State} {s t u : State} (heard : Safety.heardAs typ m s t)
    (acts : f t = u) : (.next (receiveMsg typ m s f) : Host.Outcome State Fault Refusal) = .next u :=
  congrArg _ ((Laws.receiveMsg_heard heard).trans acts)

/-- Settles O54: a message by the conditions its rule judges in the state in which it is heard. -/
theorem deviceTimeEvents : Obligations.DeviceTimeEvents := by
  refine ⟨?tsyncSend, ?tsync, ?tfollowSend, ?tfollow, ?dreqSend, ?dreq, ?dresp, ?unlock⟩
  case tsyncSend =>
    intro s manager due
    exact if_neg (by simp [manager, due])
  case tsync =>
    intro m s t heard fromManager
    exact next_of_heard heard (if_pos fromManager)
  case tfollowSend =>
    intro b t1 s sent manager bus
    change execTfollowSend b s = _
    simp only [execTfollowSend, sent]
    exact if_neg (by simp [manager, bus])
  case tfollow =>
    rintro m t2 v s t heard rfl fromManager fresh stamped
    refine next_of_heard heard ((if_neg (by simp [fromManager, fresh])).trans ?_)
    simp only [stamped]
    refine (if_neg (by simp)).trans ?_
    simp only [Bool.or_eq_true, beq_iff_eq]
    rfl
  case dreqSend =>
    intro d s due worker managed time
    change execDreqSend s = _
    simp only [execDreqSend, due]
    exact if_neg (by simp [worker, managed, time])
  case dreq =>
    intro m a s t heard mine manager
    exact next_of_heard heard (if_neg (by simp [mine, manager]))
  case dresp =>
    intro m a t3 s t heard fromManager mine answers diff stamp
    refine next_of_heard heard ((if_neg (by simp [fromManager, mine, answers])).trans ?_)
    simp only [diff, stamp, List.isEmpty_iff]
  case unlock =>
    intro s locked late
    exact congrArg _ (if_pos (by simp [locked, late]))

end Sys2Proof.Machine
end

section
/-! PROOFS. Joining, heartbeats, elections and membership (12_hierarchy.md R277, R278, R284 to R286, R288 to R290, R294). -/

namespace Sys2Proof.Machine

section

variable {s : State} {t : Nat} (role : s.hier.st = some 4) (due : s.hier.tL + 20000000 ≤ t)
include role due

/-- A candidate that heard no frame becomes an island (12_hierarchy.md R286). -/
theorem State.electionWindowEnd_of_silent (silent : s.hier.frames = false) :
    s.electionWindowEnd t = (s.hwithdraw tELECT).becomeIsland true := by
  rw [State.electionWindowEnd]
  exact (if_neg (by simp [role, due])).trans (if_pos (by simp [silent]))

/-- A candidate that was not outranked becomes the manager and announces itself (12_hierarchy.md R286). -/
theorem State.electionWindowEnd_of_won (frames : s.hier.frames = true) (candidate : s.hier.candidate = true) :
    s.electionWindowEnd t =
      let u := (s.hwithdraw tELECT).becomeManager
      let u := { u with hier := { u.hier with
        elections := s.hier.elections + 1, lendFrom := s.hier.tL + 221000000,
        members := u.hier.members.map (fun (m : Member) => { m with absent := true }) } }
      let u := u.hsend tANNOUNCE 0 63 ([s.hier.rank, 0, 0, 0] ++ toLE 4 u.hier.elections)
      u.hierEvent u.idx 3 [(3, 1, s.hier.mgr)] := by
  rw [State.electionWindowEnd]
  exact (if_neg (by simp [role, due])).trans ((if_neg (by simp [frames])).trans (if_pos candidate))

end

/-- Settles O53: a message by the state of the device that hears it, and each timer by its state and its time. -/
theorem membershipEvents : Obligations.MembershipEvents := by
  refine ⟨?listen, ?joinTimeout, ?beat, ?ofManager, ?toManager, ?toCandidate, ?toJoiner, ?loss, ?elect, ?electHeard, ?island,
    ?won, ?retry, ?annWorker, ?annJoiner, ?annCandidate, ?annManager, ?joinAgain, ?join, ?joinAck, ?leave, ?status, ?wstatus,
    ?absent⟩
  case listen =>
    intro s joining lone new due
    exact congrArg _ (if_neg (by simp [joining, lone, new, due]))
  case joinTimeout =>
    intro s joining lone unheard due
    exact congrArg _ (if_neg (by simp [joining, lone, unheard, due]))
  case beat =>
    intro s beats due
    exact if_neg (by simp [beats, due])
  case ofManager =>
    intro m s t heard all worker manager
    refine next_of_heard heard ((if_neg (by simp [HMsg.toAll, all])).trans ?_)
    simp only [worker]
    exact if_pos (by simp [manager])
  case toManager =>
    intro m s t heard all role
    refine next_of_heard heard ((if_neg (by simp [HMsg.toAll, all])).trans ?_)
    simp only [role]
    rfl
  case toCandidate =>
    intro m s t heard all role
    refine next_of_heard heard ((if_neg (by simp [HMsg.toAll, all])).trans ?_)
    simp only [role]
  case toJoiner =>
    intro m s t heard all role
    refine next_of_heard heard ((if_neg (by simp [HMsg.toAll, all])).trans ?_)
    simp only [role, Bool.and_eq_true, decide_eq_true_eq]
  case loss =>
    intro s worker due
    exact congrArg _ (if_pos (by simp [worker, due]))
  case elect =>
    intro m s t heard role candidate outranked
    refine next_of_heard heard ?_
    simp only [role]
    exact if_pos (by simp [candidate, outranked])
  case electHeard | annJoiner | annCandidate =>
    intro m s t heard role
    refine next_of_heard heard ?_
    simp only [role]
  case annManager =>
    intro m s t heard role
    refine next_of_heard heard ?_
    simp only [role]
    rfl
  case island =>
    intro s role due silent
    exact congrArg Host.Outcome.next (State.electionWindowEnd_of_silent role due silent)
  case won =>
    intro s role due frames candidate
    exact congrArg Host.Outcome.next (State.electionWindowEnd_of_won role due frames candidate)
  case retry =>
    intro s role frames due
    exact congrArg _ (if_neg (by simp [role, frames, due]))
  case annWorker =>
    intro m s t heard role manager
    refine next_of_heard heard ?_
    simp only [role]
    exact if_pos (by simp [manager])
  case joinAgain =>
    intro m s t heard mine role present
    refine next_of_heard heard ((if_neg (by simp [mine, State.beats, role])).trans ?_)
    simp [role, present]
  case join =>
    intro m s t heard mine role absent
    refine next_of_heard heard ((if_neg (by simp [mine, State.beats, role])).trans ?_)
    simp [role, absent]
  case joinAck =>
    intro m s t heard mine role accepted
    exact next_of_heard heard ((if_neg (by simp [mine, accepted])).trans ((if_neg (by simp [State.fromMgr, role])).trans
      (if_neg (by simp [role]))))
  case leave =>
    intro m s t heard mine present
    exact next_of_heard heard (if_pos (by simp [mine, present]))
  case status =>
    rintro w s rfl role managed due
    exact if_neg (by simp [role, managed, due])
  case wstatus =>
    intro m s t heard mine role
    refine next_of_heard heard ((if_neg (by simpa [mine, or_iff_not_imp_left] using role)).trans ?_)
    simp only [Option.isSome_iff_ne_none, ne_eq, ite_not]
  case absent =>
    intro i s role late
    exact congrArg _ (if_pos (by simpa only [late, Bool.and_true, Bool.or_eq_true, beq_iff_eq] using role))

end Sys2Proof.Machine
end

section
/-! PROOFS. Forwarded packets, event frames, loans, pools and a firmware distribution (12_hierarchy.md R291 to R293, R296 to
R298, R303 to R305). -/

namespace Sys2Proof.Machine

/-! ### Loans (12_hierarchy.md R297) -/

theorem filter_or_eq_nil {ks : List Nat} {p q : Nat → Bool} (none : ks.all (fun k => !p k && !q k) = true) :
    ks.filter (fun k => p k || q k) = [] := by
  rw [List.filter_eq_nil_iff]
  intro k mem
  have clear := List.all_eq_true.mp none k mem
  simpa using clear

theorem any_waiting_eq_false {ms : List Member}
    (idle : ms.all (fun m => m.absent || (m.sentAt.isNone && m.falls == 0)) = true) :
    ms.any (fun m => !m.absent && (m.sentAt.isSome || m.falls != 0)) = false := by
  rw [List.any_eq_false]
  intro m mem
  have settled := List.all_eq_true.mp idle m mem
  simpa [or_iff_not_imp_left] using settled

theorem ite_or_else {α : Type} {a b : Bool} {x y : α} :
    (if a = true then x else if b = true then x else y) = if (a || b) = true then x else y := by
  cases a <;> rfl

/-- Where nothing waits for a lower loan, the loans that fit are raised (12_hierarchy.md R297). -/
theorem exec_loanRaise_of_idle {s : State} (manager : s.hier.st = some 1)
    (idle : s.hier.members.all (fun m => m.absent || (m.sentAt.isNone && m.falls == 0)) = true)
    (low : s.hier.lowAt = 0 ∨ s.hier.lowAt + 100000000 ≤ s.dt) (lends : s.hier.lendFrom ≤ s.dt) :
    exec .loanRaise s = .next (
      let own : Member := { s.selfMember with target := s.hier.ownTarget }
      let r := s.fitRaises own []
      let out := s.hier.members.foldl (fun (acc : State × List (Nat × Nat)) (m : Member) =>
        if m.absent || m.rises == 0 || (s.fitRaises m acc.2).1 == 0 then acc
        else (acc.1.nextGen.1.sendLoan m (s.fitRaises m acc.2).1 acc.1.nextGen.2, (s.fitRaises m acc.2).2)) (s, r.2)
      (maskBits 8 r.1).foldl (fun s k => s.setLoan k (own.target.getD k 0)) out.1) := by
  refine (if_neg ?_).trans ?_
  · rw [any_waiting_eq_false idle]
    simpa [manager, lends, or_iff_not_imp_left] using low
  · dsimp only
    simp only [ite_or_else]

section

variable {m : HMsg} {s t : State} (heard : Safety.heardAs tFW_CTRL m s t) (fromManager : t.fromMgr m = true)
  (gathers : t.hier.fw.gather = true) (hears : t.hier.fw.deaf = false)
include heard fromManager gathers hears

/-- The end of a round closes the distribution where no chunk is lacking (12_hierarchy.md R304). -/
theorem exec_fwCtrl_of_whole (op : m.u8 0 = 3) (unwritten : t.hier.fw.writing = false) (whole : t.hier.fw.lacks = []) :
    exec (.fwCtrl m) s
      = .next (t.modFw (fun f => { f with rounds := m.u8 1 + 1, segs := [], cur := 65535, writing := true })) := by
  refine next_of_heard heard ((if_neg (by simp [fromManager])).trans ((if_neg (by simp [op])).trans
    ((if_neg (by simp [gathers, hears])).trans ((if_neg (by simp [op])).trans ((if_pos (by simp [op])).trans ?_)))))
  exact (if_neg (by simp [unwritten])).trans (if_pos (by simp [whole]))

/-- It asks for the chunks that are lacking, and the last round gives up (12_hierarchy.md R304). -/
theorem exec_fwCtrl_of_lacking (op : m.u8 0 = 3) (unwritten : t.hier.fw.writing = false) (lacking : t.hier.fw.lacks ≠ []) :
    exec (.fwCtrl m) s = .next (
      let u := t.modFw (fun f => { f with rounds := m.u8 1 + 1, segs := [], cur := 65535 })
      let u := u.sendNack (m.u8 1) 0 (t.hier.fw.lacks.take 30)
      if 7 ≤ m.u8 1 then (u.modFw (fun _ => {})).hierEvent (u.modFw (fun _ => {})).idx 14 [(3, 1, 0)] else u) := by
  refine next_of_heard heard ((if_neg (by simp [fromManager])).trans ((if_neg (by simp [op])).trans
    ((if_neg (by simp [gathers, hears])).trans ((if_neg (by simp [op])).trans ((if_pos (by simp [op])).trans ?_)))))
  exact (if_neg (by simp [unwritten])).trans (if_neg (by simp [lacking]))

end

/-- The last part of a newer pool image is taken over (12_hierarchy.md R298). -/
theorem exec_poolSync_of_whole {m : HMsg} {parts : List (Nat × List Nat)} {img : List Nat} {s t : State}
    (heard : Safety.heardAs tPOOL_SYNC m s t) (role : t.hier.st ≠ some 0 ∨ m.src = t.hier.mgr)
    (joined : parts = (if t.hier.poolSrc = m.src then t.hier.poolSegs else []).filter (fun x => x.1 != m.seg && m.seg != 0)
      ++ [(m.seg, m.data)])
    (image : img = (List.range 10).flatMap (fun i => ((parts.find? (fun x => x.1 == i)).map (fun x => x.2)).getD []))
    (long : 580 ≤ img.length) (whole : (List.range 10).all (fun i => parts.any (fun x => x.1 == i)) = true)
    (newer : t.hier.poolGen < leAt img 0 4) :
    exec (.poolSync m) s = .next (
      let of := (List.range 512).filterMap (fun j =>
        if img.getD (68 + j) 255 ≤ 15 then some (j / 8, j % 8, img.getD (68 + j) 255) else none)
      { t with hier := { t.hier with
          poolSegs := [], poolGen := leAt img 0 4, poolOf := of,
          caps := (List.range 16).map (fun p => leAt img (4 + 4 * p) 4) } }) := by
  refine next_of_heard heard ((if_neg (by simpa [or_iff_not_imp_left] using role)).trans ?_)
  simp only [beq_iff_eq, ← joined, ← image]
  exact (if_pos (by simp only [long, whole, decide_true, Bool.and_self])).trans (if_pos newer)

/-- The image that a worker has gathered is judged and reported (12_hierarchy.md R305). -/
theorem exec_workerImageWritten_of_flash {img : List Nat} {s t : State} {c : Nat} (writing : s.hier.fw.writing = true)
    (image : img = ((List.range s.hier.fw.count).flatMap (fun c =>
      ((s.hier.fw.chunks.find? (fun x => x.1 == c)).map (fun x => x.2)).getD [])).take s.hier.fw.len)
    (cleared : t = s.modFw (fun _ => {})) (flash : t.noFlash = false)
    (judged : (if crc32 img != s.hier.fw.crc then 1 else imageCheck t img) = c) :
    exec .workerImageWritten s = .next (
      let f := s.hier.fw
      let u := t.setSlot t.otherSlot { bytes := img, state := if c = 0 then 2 else 1 }
      let u := { u with boot := { u.boot with verified := c == 0 } }
      let u := if c = 0 then u else (u.set .SEC_BOOT_FAIL 0 c).setBit .SEC_EVT 0 4
      let r := if c = 0 then 1 else if c = 5 then 3 else 2
      let u := u.sendNack (f.rounds - 1) r []
      if c = 0 then u.hierEvent u.idx 13 [(3, 1, f.rounds), (4, 4, f.version)] else u.hierEvent u.idx 14 [(3, 1, r)]) := by
  subst cleared
  refine (if_neg (by simp [writing])).trans ((if_neg (by simp [flash])).trans ?_)
  simp only [← image, judged]
  rcases eq_or_ne c 0 with rfl | bad
  · rfl
  · have refused : ¬(if c = 5 then 3 else 2) = 1 := by split <;> decide
    simp only [beq_iff_eq, bad, refused, if_false]

/-- Settles O55: a message by its checks and by what it carries, and each timer by its state and its time. -/
theorem forwardingLoanAndFirmwareEvents : Obligations.ForwardingLoanAndFirmwareEvents := by
  refine ⟨?cmd, ?rplPart, ?rplInTime, ?rplLate, ?rplDeferred, ?segTimeout, ?event, ?compute, ?loan, ?ack, ?resend, ?raise,
    ?pool, ?poolTimer, ?fwOther, ?fwStart, ?fwChunk, ?fwWhole, ?fwLacking, ?fwStop, ?fwData, ?fwNack, ?fwRound, ?fwDone,
    ?written⟩
  case cmd =>
    intro m cls s t heard fromManager mine class3
    refine next_of_heard heard ((if_neg (by simp [fromManager, mine, class3])).trans ?_)
    rfl
  case rplPart =>
    intro m cls u s t heard mine role class3 part
    refine next_of_heard heard ((if_neg (by simpa [mine, class3, or_iff_not_imp_left] using role)).trans ?_)
    simp only [part]
  case rplInTime =>
    intro m cls u bs f s t heard mine role class3 whole awaited inTime
    refine next_of_heard heard ((if_neg (by simpa [mine, class3, or_iff_not_imp_left] using role)).trans ?_)
    simp only [whole, awaited]
    exact if_neg (Nat.not_le.mpr inTime)
  case rplLate =>
    intro m cls u bs f s t heard mine role class3 whole awaited late
    refine next_of_heard heard ((if_neg (by simpa [mine, class3, or_iff_not_imp_left] using role)).trans ?_)
    simp only [whole, awaited]
    exact if_pos late
  case rplDeferred =>
    intro m cls u bs f s t heard mine role class3 whole unawaited replaced deferred
    refine next_of_heard heard ((if_neg (by simpa [mine, class3, or_iff_not_imp_left] using role)).trans ?_)
    simp only [whole, unawaited, replaced, beq_self_eq_true, if_true, deferred]
  case segTimeout =>
    intro r src cls s
    rfl
  case event =>
    intro m s t heard mine role
    exact next_of_heard heard (if_neg (by simpa [mine, or_iff_not_imp_left] using role))
  case compute =>
    rintro s t manager due lends rfl
    exact (if_neg (by simp [manager, due])).trans (if_neg (Nat.not_lt.mpr lends))
  case loan =>
    intro m s t heard fromManager mine clear
    refine next_of_heard heard ((if_neg (by simp [fromManager, mine])).trans ?_)
    simp only [filter_or_eq_nil clear, List.contains_nil, Bool.false_eq_true, if_false, List.foldl_nil]
  case ack =>
    intro m x a s t heard mine member sent inTime same
    refine next_of_heard heard ?_
    rw [member]
    exact if_neg (by rw [mine, sent, Option.any_some, decide_eq_true inTime, same]; simp)
  case resend =>
    intro i a m s member sent manager present late lends
    change execLoanResend i s = _
    simp only [execLoanResend, member, sent]
    exact if_neg (by simp [manager, present, late, lends])
  case raise =>
    intro s manager idle low lends
    exact exec_loanRaise_of_idle manager idle low lends
  case pool =>
    intro m parts img s t heard role joined image long whole newer
    exact exec_poolSync_of_whole heard role joined image long whole newer
  case poolTimer =>
    intro s manager due
    exact if_pos (by simp [manager, due])
  case fwOther =>
    intro m s t heard fromManager op other
    exact next_of_heard heard ((if_neg (by simp [fromManager])).trans ((if_pos (by simp [op])).trans (if_neg (by simp [other]))))
  case fwStart =>
    intro m s t heard fromManager op named
    exact next_of_heard heard ((if_neg (by simp [fromManager])).trans ((if_pos (by simp [op])).trans (if_pos named)))
  case fwChunk =>
    intro m s t heard fromManager gathers hears op
    exact next_of_heard heard ((if_neg (by simp [fromManager])).trans ((if_neg (by simp [op])).trans
      ((if_neg (by simp [gathers, hears])).trans (if_pos (by simp [op])))))
  case fwWhole =>
    intro m s t heard fromManager gathers hears op unwritten whole
    exact exec_fwCtrl_of_whole heard fromManager gathers hears op unwritten whole
  case fwLacking =>
    intro m s t heard fromManager gathers hears op unwritten lacking
    exact exec_fwCtrl_of_lacking heard fromManager gathers hears op unwritten lacking
  case fwStop =>
    intro m s t heard fromManager gathers hears op
    exact next_of_heard heard ((if_neg (by simp [fromManager])).trans ((if_neg (by simp [op])).trans
      ((if_neg (by simp [gathers, hears])).trans ((if_neg (by simp [op])).trans ((if_neg (by simp [op])).trans
        (if_pos (by simp [op])))))))
  case fwData =>
    rintro m segs s t heard fromManager gathers hears within rfl
    refine next_of_heard heard ((if_neg (by simp [fromManager, gathers, hears, within])).trans ?_)
    simp only [beq_iff_eq]
  case fwNack =>
    intro m s t heard mine manager sending round kind window
    exact next_of_heard heard (if_neg (by simpa [mine, manager, sending, round, kind, or_iff_not_imp_left] using window))
  case fwRound =>
    intro s sending ended closes closed lacking rounds
    exact (if_neg (by simp [sending, ended, closes, closed])).trans (if_neg (by simp [lacking, rounds]))
  case fwDone =>
    intro s sending ended closes closed done
    exact (if_neg (by simp [sending, ended, closes, closed])).trans (if_pos (by simpa using done))
  case written =>
    intro img s t writing image cleared flash
    exact exec_workerImageWritten_of_flash writing image cleared flash rfl

end Sys2Proof.Machine
end

section
/-! PROOFS. The fault collector (14_faults_and_takeover.md R328 to R331, R334 to R338, R347). -/

namespace Sys2Proof.Machine

/-! ### The coded messages and the pair that waits for one (14_faults_and_takeover.md R335, R336) -/

theorem State.pairLate_of_late {s : State} {k t : Nat} (waits : s.pairWaits k = some t) (late : t + 10000 ≤ s.dt) :
    s.pairLate k = (((s.dropPair k).raiseFault (0x40 + k) 0xB 0 false).detectedAt t (0x40 + k) 0xB 0).notifyWaiting := by
  rw [State.pairLate, waits]
  exact if_pos late

section

variable {w : Nat} {s : State} (good : crc8 (codedBytes w) = bits w 0 8) (known : srcReserved (codedSrc w) = false)
include good known

/-- A good message of an error that is not open yet raises it. -/
theorem exec_codedMessage_of_new {t : State} (plain : skeinOfSrc (codedSrc w) = none)
    (left : t = { s with flt := { s.flt with coded := s.flt.coded.filter (fun c => c.word != w) } })
    (new : t.sameError (codedSrc w) (codedKind w) (codedAddr w) = false) :
    exec (.codedMessage w) s = .next ((t.raiseFault (codedSrc w) (codedKind w) (codedAddr w)).detectedAt t.dt (codedSrc w)
      (codedKind w) (codedAddr w)).notifyWaiting := by
  subst left
  change execCodedMessage w s = _
  simp only [execCodedMessage, good, bne_self_eq_false, Bool.false_eq_true, if_false, plain, known, new, Bool.or_self,
    Option.bind_none, Option.isNone_none, Option.getD_none]

/-- One that names the source of a skein's combined pair takes the time at which the pair was set. -/
theorem exec_codedMessage_of_skein {k : Nat} {t : State} (skein : skeinOfSrc (codedSrc w) = some k)
    (left : t = ({ s with flt := { s.flt with coded := s.flt.coded.filter (fun c => c.word != w) } } : State).pairLate k)
    (new : (t.dropPair k).sameError (codedSrc w) (codedKind w) (codedAddr w) = false) :
    exec (.codedMessage w) s = .next ((((t.dropPair k).raiseFault (codedSrc w) (codedKind w) (codedAddr w)
      (t.pairWaits k).isNone).detectedAt ((t.pairWaits k).getD (t.dropPair k).dt) (codedSrc w) (codedKind w)
        (codedAddr w)).notifyWaiting) := by
  subst left
  change execCodedMessage w s = _
  simp only [execCodedMessage, good, bne_self_eq_false, Bool.false_eq_true, if_false, skein, known, new, Bool.or_self,
    Option.bind_some]

end

theorem ite_or_isSome {α β : Type} {b : Bool} {o : Option β} {x y : α} :
    (if (b || o.isSome) = true then x else y) = if b = false ∧ o = none then y else x := by
  cases b <;> cases o <;> simp

/-- A training that passes drops the causes it clears; one that fails leaves them (14_faults_and_takeover.md R347). -/
theorem endTraining_of_trains {src : Nat} {s : State} (pass : Bool) (trains : s.flt.training.any (fun t => t.1 == src) = true) :
    endTraining src pass s = (
      let t := { s with flt := { s.flt with training := s.flt.training.filter (fun t => t.1 != src) } }
      if pass = false then t
      else
        let t := t.dropCauses src (fun g => !(g.kind == 0xF && t.flag .FLT_PAIR src))
        if src = 0x06 ∨ src = 0x07 then (t.unfenceDomain dDRAM).dramChannelBack (src - 6)
        else (if t.gecko (0x30 + (src - 0x40)) then t else t.unfenceDomain (dSKL (src - 0x40))).linkTrained
          (src - 0x40)) := by
  refine (if_pos trains).trans ?_
  cases pass
  case false => rfl
  case true => exact (if_pos rfl).trans ((if_congr (by simp) rfl rfl).trans (if_neg (by simp)).symm)

/-- Settles O47: each event of the collector by the source it names and by what waits there. -/
theorem faultCommands : Obligations.FaultCommands := by
  refine ⟨?pair, ?skeinPair, ?coded, ?codedSkein, ?firstSend, ?nextSend, ?linkTimeout, ?broken, ?whole, ?notify, ?notifyWaits,
    ?clear, ?noReference, ?reference, ?outvoted, ?failed, ?xtal, ?training, ?rebuilt⟩
  case pair =>
    intro src kind addr s known inUse counts plain
    refine (if_neg (by simp [known, Nat.lt_of_succ_le counts])).trans ?_
    simp only [plain]
    exact congrArg _ (if_neg (by simp [inUse]))
  case skeinPair =>
    intro src kind addr k s known counts skein
    refine (if_neg (by simp [known, Nat.lt_of_succ_le counts])).trans ?_
    simp only [skein]
    exact congrArg _ ite_or_isSome
  case coded =>
    intro w s good known plain new
    exact exec_codedMessage_of_new good known plain rfl new
  case codedSkein =>
    intro w k s t good known skein left new
    exact exec_codedMessage_of_skein good known skein left new
  case firstSend =>
    intro w s new
    change execCodedMessageRepeat w s = _
    rw [execCodedMessageRepeat, new]
  case nextSend =>
    intro w c s known due few
    change execCodedMessageRepeat w s = _
    rw [execCodedMessageRepeat, known]
    refine (if_neg (Nat.not_lt.mpr due)).trans ((if_neg (by omega)).trans ?_)
    simp only [beq_iff_eq]
  case linkTimeout =>
    intro k t s skein waits late
    exact (if_pos skein).trans (congrArg _ (State.pairLate_of_late waits late))
  case broken =>
    intro src n s long known intact
    exact if_neg (by simp [known, intact, long])
  case whole =>
    intro src n s long
    exact if_neg (Nat.not_lt.mpr long)
  case notify =>
    intro w s opened alone free
    have closes : ¬(s.flt.takeover.isSome && !s.safeHold) = true := by simpa [imp_iff_not_or] using free
    refine congrArg Host.Outcome.next ((if_neg (by simp [alone])).trans ?_)
    simp only [opened]
    exact if_neg closes
  case notifyWaits =>
    intro s waits
    exact congrArg _ (if_pos (by simpa using waits))
  case clear =>
    intro r m s reg
    change Host.Outcome.next (clearGeckos r m s) = _
    simp only [clearGeckos, reg, decide_true, Bool.and_true]
  case noReference =>
    intro n s long runs
    exact if_neg (by simp [long, runs])
  case reference =>
    intro n s long
    exact if_neg (Nat.not_lt.mpr long)
  case outvoted | failed =>
    intro s
    rfl
  case xtal =>
    intro s slow
    exact if_pos slow
  case training =>
    intro src pass s trains
    exact congrArg _ (endTraining_of_trains pass trains)
  case rebuilt =>
    intro s rebuilding
    exact if_pos rebuilding

end Sys2Proof.Machine
end

section
/-! PROOFS. The token arbiter, a takeover and a hitless update (14_faults_and_takeover.md R340, R342 to R345, R351). -/

namespace Sys2Proof.Machine

theorem State.rerunCommands_eq (s : State) : s.rerunCommands = if s.ecx.snapBy = none then s else s.startSnap := by
  unfold State.rerunCommands
  cases s.ecx.snapBy <;> simp

theorem State.activationLate_of_early {s : State} (early : s.dt < s.boot.phaseFrom + 1000000000) : s.activationLate = s :=
  if_neg (by simp [early])

/-- A window without a heartbeat of a lead half that runs is counted, and the third raises TIMEOUT (14_faults_and_takeover.md
R340). -/
theorem State.heartbeatMiss_of_late {s : State} (valid : s.flag .FLT_TOKEN_VALID = true) (runs : s.safeHold = false)
    (on : s.domOn (dCTL s.lead) = true) (unmasked : s.flag .SEC_DBG_HB_MASK = false ∨ bit s.sec.halted s.lead = false)
    (late : s.flt.lastHb + 100000 * (s.flt.missRun + 1) ≤ s.dt) :
    s.heartbeatMiss =
      let t := s.count .FLT_HB_MISSED_CNT 0
      let t := { t with flt := { t.flt with missRun := s.flt.missRun + 1 } }
      if s.flt.missRun < 2 then t else t.raiseFault (t.lead + 1) 3 0 false := by
  have watched : (s.flag .SEC_DBG_HB_MASK && bit s.sec.halted s.lead) = false := by
    rcases unmasked with plain | runs <;> simp [*]
  rw [State.heartbeatMiss]
  refine (if_neg (by simp only [valid, runs, on, watched]; decide)).trans ((if_neg (Nat.not_lt.mpr late)).trans ?_)
  exact if_congr Nat.succ_lt_succ_iff rfl rfl

/-- A value that two of three copies hold is the majority. -/
theorem majority {a b c m : Nat} (two : (a = b ∧ m = a) ∨ (a = c ∧ m = a) ∨ (b = c ∧ m = b)) :
    (if a == b || a == c then some a else if b == c then some b else none) = some m := by
  simp only [Bool.or_eq_true, beq_iff_eq]
  grind

theorem exec_tokenRecordMismatch_of_majority {a b c m : Nat} {s : State} (split : ¬(a = b ∧ b = c))
    (two : (a = b ∧ m = a) ∨ (a = c ∧ m = a) ∨ (b = c ∧ m = b)) :
    exec (.tokenRecordMismatch a b c) s = .next ((s.voteToken m).raiseFault 0x03 0xD 0) := by
  refine (if_neg (by simpa using split)).trans ?_
  simp only [majority two]

theorem exec_tokenRecordMismatch_of_preferred {a b c h : Nat} {s t : State} (ab : a ≠ b) (bc : b ≠ c) (ac : a ≠ c)
    (prefers : h = s.get .SYS_STRAP_PREFHALF) (used : (s.set .FLT_TOKEN_PREF_USED 0 1).raiseFault 0x03 0xD 0 = t)
    (usable : t.domFenced (dCTL h) = false) :
    exec (.tokenRecordMismatch a b c) s = .next (t.setToken h) := by
  subst prefers used
  have apart : (if a == b || a == c then some a else if b == c then some b else none) = none := by simp [ab, bc, ac]
  refine (if_neg (by simp [ab])).trans ?_
  simp only [apart]
  exact if_pos (by simp [usable])

/-- The standby half takes the image where it passes the check, is verified and boots (14_faults_and_takeover.md R345). -/
theorem exec_standbyUpdated_of_due {s : State} (v b : Bool) (phase : s.boot.phase = 1) (fresh : s.boot.updated = false)
    (early : s.dt < s.boot.phaseFrom + 1000000000) (on : s.domOn (dCTL (1 - s.lead)) = true)
    (unfenced : s.domFenced dSEC = false) :
    exec (.standbyUpdated v b) s = .next (
      let c := imageCheck s (s.slot s.otherSlot).bytes
      if c ≠ 0 then (s.imageRefused c).bootAgain stVERIFY_FAILED
      else if v = false then ((s.set .SEC_BOOT_FAIL 0 6).setBit .SEC_EVT 0 4).bootAgain stVERIFY_FAILED
      else if b = false then s.bootAgain stINTERNAL
      else { s.set .FLT_TOKEN_STANDBY_HOT 0 1 with
        boot := { s.boot with updated := true, versions := s.boot.versions.set (1 - s.lead) (s.slotVersion s.otherSlot) } }) := by
  change execStandbyUpdated v b s = _
  rw [execStandbyUpdated, State.activationLate_of_early early]
  refine (if_neg (by simp [phase, fresh, on, unfenced])).trans ?_
  rcases eq_or_ne (imageCheck s (s.slot s.otherSlot).bytes) 0 with passes | fails
  · refine (if_neg (by simp [passes])).trans (Eq.trans ?_ (congrArg Host.Outcome.next (if_neg (not_not.mpr passes)).symm))
    cases v
    case false => rfl
    case true => cases b <;> rfl
  · exact (if_pos (by simp [fails])).trans (congrArg Host.Outcome.next (if_pos fails).symm)

/-- Settles O48: each event by the token it finds and by the phase of the update. -/
theorem tokenAndUpdateCommands : Obligations.TokenAndUpdateCommands := by
  refine ⟨?heartbeat, ?missed, ?majority, ?preferred, ?refused, ?copied, ?takeover, ?standby, ?handover, ?newLead, ?former,
    ?timeout⟩
  case heartbeat =>
    rintro half seq ho s t rfl valid lead runs awake
    exact if_pos (by simp [valid, lead, runs, awake])
  case missed =>
    intro s valid runs on unmasked late
    exact congrArg _ (State.heartbeatMiss_of_late valid runs on unmasked late)
  case majority =>
    intro a b c m s split two
    exact exec_tokenRecordMismatch_of_majority split two
  case preferred =>
    intro a b c h s ab bc ac prefers usable
    exact exec_tokenRecordMismatch_of_preferred ab bc ac prefers rfl usable
  case refused =>
    intro half s valid other half2
    exact if_pos (by simp [valid, other, half2])
  case copied =>
    intro s valid booted on
    exact if_pos (by simp only [valid, booted, on, Bool.and_self])
  case takeover =>
    intro s takes on runs
    refine (if_pos (by simp [Option.isSome_iff_ne_none, takes, on, runs])).trans ?_
    rw [State.rerunCommands_eq]
  case standby =>
    intro v b s phase fresh early on unfenced
    exact exec_standbyUpdated_of_due v b phase fresh early on unfenced
  case handover =>
    intro s phase updated hot valid unfenced
    exact if_pos (by simp [phase, updated, hot, valid, unfenced])
  case newLead =>
    intro s phase
    refine (if_pos (by simp [phase])).trans ?_
    rw [State.rerunCommands_eq]
  case former =>
    intro s phase unfenced
    exact if_pos (by simp [phase, unfenced])
  case timeout =>
    intro s phase fresh late
    exact congrArg _ (if_pos (by simp [phase, fresh, late]))

end Sys2Proof.Machine
end

section
/-! PROOFS. A register access by a path that may make it and that the register accepts (17_registers.md R386, R387). -/

namespace Sys2Proof.Machine

section

variable {s u t : State} {p : Path} {addr v : Nat}

/-- An access that is accepted leaves no error word. -/
theorem State.pathCode_ok (s : State) (p : Path) (addr : Nat) : s.pathCode p addr rOK = s := by
  cases p <;> rfl

theorem State.seeInts_of {f : State → State} (acts : f u.ibiCheck = t) : u.seeInts f = t.ibiCheck := by
  rw [State.seeInts, acts]

theorem State.pathWrite_of_ok {m : WMode} (may : s.permit p false addr (some v) = (u, true))
    (takes : u.ibiCheck.directWrite p s.inI3c addr m v = (t, rOK)) : s.pathWrite p addr m v = t.ibiCheck := by
  rw [State.pathWrite, may]
  refine (if_pos rfl).trans (State.seeInts_of ?_)
  dsimp only
  rw [takes]
  exact t.pathCode_ok p _

theorem State.pathRead_of_ok (may : s.permit p false addr none = (u, true))
    (takes : u.directRead p s.inI3c addr = (t, v, rOK)) : s.pathRead p addr = { t with lastRead := v } := by
  rw [State.pathRead, may]
  refine (if_pos rfl).trans ?_
  dsimp only
  rw [takes]
  dsimp only
  rw [t.pathCode_ok p]

theorem State.pathInd_of_permit (may : s.permit p true addr (some v) = (u, true)) :
    s.pathInd p addr v = ((u.ibiCheck.indWrite p addr .write v).1).ibiCheck := by
  rw [State.pathInd, may]
  rfl

end

end Sys2Proof.Machine
end

section
/-! PROOFS. The domain controller, the rail, the wake sources and the alarms (13_power_domains.md R307, R311 to R313, R315,
R317, R318, R320 to R322, R326). -/

namespace Sys2Proof.Machine

/-! ### A step of a transition towards ON (13_power_domains.md R311, R312) -/

section

variable {d : Nat} {s : State} (domain : d < 42) (moves : s.flag .DOM_STAT_TRANS d = true)
include domain moves

section

variable (up : s.get .DOM_STAT_TARGET d = 0)
include up

theorem exec_domainStepReady_of_due {ok : Bool} {r : Host.Outcome State Fault Refusal} (inTime : s.dt < (s.dom d).stepEnd)
    (acts : (
      let st := s.get .DOM_STAT_STEP d
      if st == 1 then
        if s.standing d && !(railDomain d && s.flag .PWRD_AVS_LOW_RAIL) && !(d ≤ 1 && (s.dom d).fromSt == 2 && s.domFenced dSEC) then
          .next (s.beginStep d 2)
        else .next s
      else if st == 2 then
        if needsRef d && !s.flag .PWRD_CLK_REF_RUN && !((d ≤ 1 || d == dSEC) && s.refLost) then .next s else .next (s.beginStep d 3)
      else if st == 3 then .next (s.beginStep d 4)
      else
        let failed := (s.dom d).saved.isSome && !ok
        let u := s.finishOn d ok
        let u := if failed then u.raiseFault 0x48 6 (listOffset d) else u
        let u := u.domainCameOn d
        let u := if d == dSEC then u.recheckLifecycle else u
        .next (u.startPending d)) = r) :
    exec (.domainStepReady d ok) s = r :=
  (if_pos (by simp [domain, moves, up])).trans ((if_neg (Nat.not_le.mpr inTime)).trans acts)

theorem exec_domainStepTimeout_of_late {r : Host.Outcome State Fault Refusal} (late : (s.dom d).stepEnd ≤ s.dt)
    (stands : s.get .DOM_STAT_STEP d ≠ 1 ∨ s.standing d = true) (unheld : s.get .DOM_STAT_STEP d ≠ 2 ∨ s.refHeld d = false)
    (acts : (
      if (s.dom d).fails == 0 then
        .next (s.modDom d (fun x => { x with fails := 1, stepEnd := s.stepDue d (s.get .DOM_STAT_STEP d) }))
      else
        let x := s.dom d
        let u := s.domainEvent d 2
          (domDetail x.fromSt 0 (s.get .DOM_STAT_LAST_CAUSE d) x.wakeBit (s.get .DOM_STAT_STEP d) 0)
        .next ((u.raiseFault (srcOfDomain d) 5 0).fenceDomain d)) = r) :
    exec (.domainStepTimeout d) s = r := by
  refine (if_pos (by simp [domain, moves, up, late])).trans ((if_neg ?_).trans ((if_neg ?_).trans acts))
  · rcases stands with other | stands <;> simp [*]
  · rcases unheld with other | unheld <;> simp [*]

end

variable (down : s.get .DOM_STAT_TARGET d ≠ 0)
include down

theorem exec_domainEntryComplete_of_quiet {t : State} (quiet : s.sessionCheck.quiesced d = (t, true)) :
    exec (.domainEntryComplete d) s = .next ((((t.finishEntry d).domainLeftOn d).startPending d).avsRequest) := by
  refine (if_pos (by simp [domain, moves, down])).trans ?_
  simp only [quiet]
  rfl

end

/-! ### The rail (13_power_domains.md R317, R318) -/

theorem State.avsRequest_avsIdle (s : State) : s.avsRequest.avsIdle = s.avsIdle := by
  unfold State.avsRequest
  split <;> rfl

section

variable {a : Nat} {s t : State} (driven : s.avsRequest.avsIdle = false)
  (counted : t = s.avsRequest.count .PWRD_AVS_RETRY_CNT 0) (asked : t.avsAt = some a) (late : a + 200000 ≤ t.dt)
  (normal : t.flag .PWRD_AVS_FALLBACK = false)
include driven counted asked late normal

theorem exec_avsNoAck_of_late :
    exec .avsNoAck s = .next (
      if t.avsTries + 1 < 4 then { t with avsTries := t.avsTries + 1, avsAt := some t.dt }
      else t.avsFallback.raiseFault 0x0B 0xC 0) := by
  subst counted
  have unanswered : s.avsRequest.avsAt.any (fun x => x + 200000 ≤ s.avsRequest.dt) = true := by
    rw [show s.avsRequest.avsAt = some a from asked, Option.any_some]
    exact decide_eq_true late
  refine (if_neg (by rw [driven, unanswered]; decide)).trans ((if_neg (by simp [normal])).trans ?_)
  exact (apply_ite Host.Outcome.next _ _ _).symm

end

theorem b2n_beq (a b : Nat) : b2n (a == b) = if a = b then 1 else 0 := by
  unfold b2n
  exact if_congr beq_iff_eq rfl rfl

/-- Settles O49: each event by the state of its domain, of the rail or of its source. -/
theorem domainCommands : Obligations.DomainCommands := by
  refine ⟨?stands, ?clock, ?reset, ?last, ?firstLate, ?secondLate, ?entry, ?canEntry, ?stop, ?idle, ?request, ?ack, ?noAck,
    ?fallback, ?retry, ?addressed, ?wakes, ?resume, ?edge, ?alarm, ?arm, ?debug⟩
  case stands =>
    intro d ok s domain moves up inTime step stands rail other
    refine exec_domainStepReady_of_due domain moves up inTime ((if_pos (by simp [step])).trans (if_pos ?_))
    have apart : ¬d ≤ 1 := Nat.not_le.mpr other
    rcases rail with fixed | full <;> simp [*]
  case clock =>
    intro d ok s domain moves up inTime step clock
    refine exec_domainStepReady_of_due domain moves up inTime ((if_neg (by simp [step])).trans ((if_pos (by simp [step])).trans
      (if_neg ?_)))
    rcases clock with free | runs | ⟨rfl | rfl | rfl, lost⟩ <;> simp [*]
  case reset =>
    intro d ok s domain moves up inTime step
    exact exec_domainStepReady_of_due domain moves up inTime ((if_neg (by simp [step])).trans ((if_neg (by simp [step])).trans
      (if_pos (by simp [step]))))
  case last =>
    intro d ok s domain moves up inTime step sealed
    refine exec_domainStepReady_of_due domain moves up inTime ((if_neg (by simp [step])).trans ((if_neg (by simp [step])).trans
      ((if_neg (by simp [step])).trans ?_)))
    have sound : ((s.dom d).saved.isSome && !ok) = false := by rcases sealed with blank | rfl <;> simp [*]
    simp only [sound, Bool.false_eq_true, if_false, beq_iff_eq]
  case firstLate =>
    intro d s domain moves up late stands unheld first
    exact exec_domainStepTimeout_of_late domain moves up late stands unheld (if_pos (by simp [first]))
  case secondLate =>
    intro d s domain moves up late stands unheld again
    exact exec_domainStepTimeout_of_late domain moves up late stands unheld (if_neg (by simp [again]))
  case entry =>
    intro d s domain can0 can1 moves down
    exact exec_domainEntryComplete_of_quiet domain moves down (if_neg (by simp [can0, can1]))
  case canEntry =>
    intro d s t can moves down quiet
    exact exec_domainEntryComplete_of_quiet (by omega) moves down quiet
  case stop =>
    intro d s domain on
    exact if_pos (by simp [domain, on])
  case idle =>
    rintro d s t domain set state late rfl
    refine (if_pos (by simp [domain, set, state, late])).trans ?_
    exact (apply_ite Host.Outcome.next _ _ _).symm
  case request =>
    intro d v s domain legal _ _ _
    exact congrArg _ (if_pos (by simp [domain, legal]))
  case ack =>
    rintro mv s t driven rfl waits low high
    refine (if_neg (by simp [driven])).trans ((if_pos (by simp [waits, low, high])).trans ?_)
    simp only [State.setB, b2n_beq]
    exact (apply_ite Host.Outcome.next _ _ _).symm
  case noAck =>
    intro a s t driven counted asked late normal few
    exact (exec_avsNoAck_of_late driven counted asked late normal).trans (congrArg _ (if_pos (by omega)))
  case fallback =>
    intro a s t driven counted asked late normal last
    exact (exec_avsNoAck_of_late driven counted asked late normal).trans (congrArg _ (if_neg (by omega)))
  case retry =>
    intro s fallback driven late
    exact if_pos (by simp [fallback, driven, late])
  case addressed =>
    intro a i3c s high own unfenced on
    refine (if_neg ?_).trans ((if_neg (by simp [unfenced])).trans (if_pos on))
    rcases own with broadcast | strap | dynamic <;> simp [*]
  case wakes =>
    intro a i3c s high direct own unfenced asleep
    refine (if_neg ?_).trans ((if_neg (by simp [unfenced])).trans ((if_neg (by simp [asleep])).trans
      (if_neg (by simpa using direct))))
    rcases own with strap | dynamic <;> simp [*]
  case resume =>
    intro lfps s
    refine congrArg (fun ds => Host.Outcome.next (s.wake 1 ds)) ?_
    simp only [beq_iff_eq]
    cases lfps
    case true => rfl
    case false => by_cases linked : s.get .LOOMS_STAT_RATE = 1 <;> simp [linked]
  case edge =>
    intro n s long
    exact (if_neg (by omega)).trans ((if_pos long).trans (congrArg _ (if_congr (by simp) rfl rfl)))
  case alarm =>
    intro i s four set due
    exact if_pos (by simp [four, set, due])
  case arm =>
    intro path i high s u t four may takes
    exact congrArg _ ((if_pos four).trans (State.pathWrite_of_ok may takes))
  case debug =>
    intro d st s domain state may factory kept
    exact (if_pos (by simp [domain, state, may])).trans (congrArg _ (if_pos (by simp [kept])))

end Sys2Proof.Machine
end

section
/-! PROOFS. What leaves the controls of the indirect windows alone (17_registers.md R393). IND_FETCH writes a control word with
the window's own bits, so the command needs to know that neither the permission of its path, which may end a debugger's session
and recompute the ports, nor the check of the management port's interrupt has changed them. -/

namespace Sys2Proof.Machine

/-- The controls of a window: AUTOINC and RD_AHEAD. -/
def indCtl (r : List Cell) (k : Nat) : Nat × Nat := (regGet r .IND_CTL_AUTOINC k, regGet r .IND_CTL_RD_AHEAD k)

@[simp] theorem State.indCtl_set (s : State) {f : Fld} (u v : Nat)
    (step : f ≠ .IND_CTL_AUTOINC) (ahead : f ≠ .IND_CTL_RD_AHEAD) :
    indCtl (s.set f u v).regs = indCtl s.regs := by
  funext k
  exact Prod.ext (s.get_set_other v (fun same => step same.1)) (s.get_set_other v (fun same => ahead same.1))

@[simp] theorem State.indCtl_ite {c : Prop} [Decidable c] (s t : State) :
    indCtl (if c then s else t).regs = if c then indCtl s.regs else indCtl t.regs :=
  apply_ite (fun u : State => indCtl u.regs) c s t

@[simp] theorem State.indCtl_fst_ite {α : Type} {c : Prop} [Decidable c] (p q : State × α) :
    indCtl (if c then p else q).1.regs = if c then indCtl p.1.regs else indCtl q.1.regs :=
  apply_ite (fun r : State × α => indCtl r.1.regs) c p q

@[simp] theorem State.indCtl_foldl {α : Type} {f : State → α → State} (l : List α) (s : State)
    (keeps : ∀ s a, indCtl (f s a).regs = indCtl s.regs) : indCtl (l.foldl f s).regs = indCtl s.regs := by
  induction l generalizing s with
  | nil => rfl
  | cons a l ih => exact (ih (f s a)).trans (keeps s a)

@[simp] theorem State.indCtl_setBit (s : State) {f : Fld} (u i : Nat)
    (step : f ≠ .IND_CTL_AUTOINC) (ahead : f ≠ .IND_CTL_RD_AHEAD) :
    indCtl (s.setBit f u i).regs = indCtl s.regs := s.indCtl_set u _ step ahead

@[simp] theorem State.indCtl_setB (s : State) {f : Fld} (u : Nat) (b : Bool)
    (step : f ≠ .IND_CTL_AUTOINC) (ahead : f ≠ .IND_CTL_RD_AHEAD) :
    indCtl (s.setB f u b).regs = indCtl s.regs := s.indCtl_set u _ step ahead

@[simp] theorem State.indCtl_count (s : State) {f : Fld} (u n : Nat)
    (step : f ≠ .IND_CTL_AUTOINC) (ahead : f ≠ .IND_CTL_RD_AHEAD) :
    indCtl (s.count f u n).regs = indCtl s.regs := s.indCtl_set u _ step ahead

/-! ### Changes of the hidden state -/

section

variable (s : State)

@[simp] theorem State.regs_modPort (n : Nat) (f : PortH → PortH) : (s.modPort n f).regs = s.regs := rfl
@[simp] theorem State.regs_modDom (d : Nat) (f : Dom → Dom) : (s.modDom d f).regs = s.regs := rfl
@[simp] theorem State.regs_modLane (l : Nat) (f : LaneH → LaneH) : (s.modLane l f).regs = s.regs := rfl
@[simp] theorem State.regs_modSkein (k : Nat) (f : SkeinH → SkeinH) : (s.modSkein k f).regs = s.regs := rfl
@[simp] theorem State.regs_modCtx (n : Nat) (f : Ctx → Ctx) : (s.modCtx n f).regs = s.regs := rfl
@[simp] theorem State.regs_modDev (port route : Nat) (f : Dev → Dev) : (s.modDev port route f).regs = s.regs := rfl
@[simp] theorem State.regs_updateEntry (q : ReqId) (f : JEntry → JEntry) : (s.updateEntry q f).regs = s.regs := rfl
@[simp] theorem State.regs_setKept (c : Chan) (k : KeptPacket) : (s.setKept c k).regs = s.regs := rfl
@[simp] theorem State.regs_commitCtx (n : Nat) : (s.commitCtx n).regs = s.regs := rfl
@[simp] theorem State.regs_dropDev (port route : Nat) : (s.dropDev port route).regs = s.regs := rfl
@[simp] theorem State.regs_hubChange (n i : Nat) : (s.hubChange n i).regs = s.regs := rfl
@[simp] theorem State.regs_stage (lane : Nat) (r : WRec) : (s.stage lane r).regs = s.regs := rfl

end

@[simp] theorem State.indCtl_newEvent (s : State) {put : State → EvRec → State} (cls unit code : Nat) (detail : List Nat)
    (keeps : ∀ s r, indCtl (put s r).regs = indCtl s.regs) :
    indCtl (s.newEvent put cls unit code detail).regs = indCtl s.regs := keeps ..

@[simp] theorem State.indCtl_noteOver (s : State) (n : Nat) {f : State → State}
    (keeps : ∀ s, indCtl (f s).regs = indCtl s.regs) : indCtl (s.noteOver n f).regs = indCtl s.regs := by
  simp [State.noteOver, keeps]

section

variable (s : State)

/-! ### Events (09_ecrax_protocol.md R231; 08_loom_function.md R207, R208) -/

@[simp] theorem State.indCtl_placeEvent (r : EvRec) : indCtl (s.placeEvent r).regs = indCtl s.regs := by
  simp [State.placeEvent]

@[simp] theorem State.indCtl_deliverEvent (r : EvRec) : indCtl (s.deliverEvent r).regs = indCtl s.regs := by
  simp [State.deliverEvent]

@[simp] theorem State.indCtl_formEvent (cls unit code : Nat) (detail : List Nat) :
    indCtl (s.formEvent cls unit code detail).regs = indCtl s.regs := by
  simp [State.formEvent]

@[simp] theorem State.indCtl_wakeOn97 : indCtl s.wakeOn97.regs = indCtl s.regs := by
  simp [State.wakeOn97]

@[simp] theorem State.indCtl_loomNote (code : Nat) (handle : Nat) (extra : Nat) :
    indCtl (s.loomNote code handle extra).regs = indCtl s.regs := by
  simp [State.loomNote]

@[simp] theorem State.indCtl_notifyWake : indCtl s.notifyWake.regs = indCtl s.regs := by
  simp [State.notifyWake]

@[simp] theorem State.indCtl_flagWake : indCtl s.flagWake.regs = indCtl s.regs := by
  simp [State.flagWake]

@[simp] theorem State.indCtl_postEvent (cls unit code : Nat) (detail : List Nat) :
    indCtl (s.postEvent cls unit code detail).regs = indCtl s.regs := by
  simp [State.postEvent]

@[simp] theorem State.indCtl_lifeEvent (n code : Nat) (detail : List (Nat × Nat × Nat)) :
    indCtl (s.lifeEvent n code detail).regs = indCtl s.regs := by
  simp [State.lifeEvent]

@[simp] theorem State.indCtl_showOverride (n : Nat) : indCtl (s.showOverride n).regs = indCtl s.regs := by
  simp [State.showOverride]

@[simp] theorem State.indCtl_settleRole (n : Nat) : indCtl (s.settleRole n).regs = indCtl s.regs := by
  simp [State.settleRole]

/-! ### Requests to domains (13_power_domains.md R311 to R315) -/

@[simp] theorem State.indCtl_domainEvent (d code : Nat) (detail : List Nat) :
    indCtl (s.domainEvent d code detail).regs = indCtl s.regs := by
  simp [State.domainEvent]

@[simp] theorem State.indCtl_requestDropped (d cause wake why st : Nat) :
    indCtl (s.requestDropped d cause wake why st).regs = indCtl s.regs := by
  simp [State.requestDropped]

@[simp] theorem State.indCtl_beginStep (d step : Nat) : indCtl (s.beginStep d step).regs = indCtl s.regs := by
  simp [State.beginStep]

@[simp] theorem State.indCtl_startTransition (d st cause wake : Nat) :
    indCtl (s.startTransition d st cause wake).regs = indCtl s.regs := by
  simp [State.startTransition]

@[simp] theorem State.indCtl_keepStatus (q : ReqId) (status : Nat) :
    indCtl (s.keepStatus q status).regs = indCtl s.regs := by
  unfold State.keepStatus
  split <;> simp

@[simp] theorem State.indCtl_noteDiscard (r : Reply) : indCtl (s.noteDiscard r).regs = indCtl s.regs := by
  simp [State.noteDiscard]

@[simp] theorem State.indCtl_fillMailbox : indCtl s.fillMailbox.regs = indCtl s.regs := by
  unfold State.fillMailbox
  dsimp only
  repeat' split
  all_goals simp

@[simp] theorem State.indCtl_sendReply (r : Reply) : indCtl (s.sendReply r).regs = indCtl s.regs := by
  unfold State.sendReply
  split
  · simp
  · split <;> simp

@[simp] theorem State.indCtl_displaceAs (q : ReqId) (r : Reply) :
    indCtl (s.displaceAs q r).regs = indCtl s.regs := by
  simp [State.displaceAs]

@[simp] theorem State.indCtl_displace (q : ReqId) : indCtl (s.displace q).regs = indCtl s.regs := by
  simp [State.displace]

@[simp] theorem State.indCtl_emptyPending (d : Nat) : indCtl (s.emptyPending d).regs = indCtl s.regs := by
  simp [State.emptyPending]

@[simp] theorem State.indCtl_replacePending (d : Nat) : indCtl (s.replacePending d).regs = indCtl s.regs := by
  simp only [State.replacePending]
  split <;> simp

@[simp] theorem State.indCtl_keepPending (d st cause : Nat) (q : Option ReqId) (wake : Nat) :
    indCtl (s.keepPending d st cause q wake).regs = indCtl s.regs := by
  simp [State.keepPending]

@[simp] theorem State.indCtl_requestOne (d st cause : Nat) (q : Option ReqId) (wake : Nat) :
    indCtl (s.requestOne d st cause q wake).1.regs = indCtl s.regs := by
  simp [State.requestOne]

@[simp] theorem State.indCtl_bringUp (ds own : List Nat) (cause wake : Nat) :
    indCtl (s.bringUp ds own cause wake).regs = indCtl s.regs := by
  simp [State.bringUp]

@[simp] theorem State.indCtl_requestDomain (d st cause : Nat) (q : Option ReqId) (wake : Nat) (own : List Nat) :
    indCtl (s.requestDomain d st cause q wake own).1.regs = indCtl s.regs := by
  simp [State.requestDomain]

@[simp] theorem State.indCtl_requestOn (ds : List Nat) (cause : Nat) (wake : Nat) :
    indCtl (s.requestOn ds cause wake).regs = indCtl s.regs := by
  simp [State.requestOn]

/-! ### The hub and its wake (06_transparent_hub.md R138, R139) -/

@[simp] theorem State.indCtl_hubEvent (code port : Nat) : indCtl (s.hubEvent code port).regs = indCtl s.regs := by
  simp [State.hubEvent]

@[simp] theorem State.indCtl_ttDrop (n hubPort : Nat) (keep : Split → Bool) (pipe : Bool) :
    indCtl (s.ttDrop n hubPort keep pipe).regs = indCtl s.regs := by
  simp [State.ttDrop]

@[simp] theorem State.indCtl_ttClear (n : Nat) : indCtl (s.ttClear n).regs = indCtl s.regs := by
  simp [State.ttClear]

@[simp] theorem State.indCtl_touch (d : Nat) : indCtl (s.touch d).regs = indCtl s.regs := by
  simp [State.touch]

@[simp] theorem State.indCtl_wakeFor (ds : List Nat) (cause : Nat) :
    indCtl (s.wakeFor ds cause).1.regs = indCtl s.regs := by
  simp [State.wakeFor]

@[simp] theorem State.indCtl_wakeBy (bitNo : Nat) (ds : List Nat) :
    indCtl (s.wakeBy bitNo ds).1.regs = indCtl s.regs := by
  simp [State.wakeBy]

@[simp] theorem State.indCtl_driveWake : indCtl s.driveWake.regs = indCtl s.regs := by
  unfold State.driveWake
  split <;> simp

@[simp] theorem State.indCtl_hubWake (hubPort : Nat) : indCtl (s.hubWake hubPort).regs = indCtl s.regs := by
  simp [State.hubWake]

@[simp] theorem State.indCtl_hubNote (n : Nat) : indCtl (s.hubNote n).regs = indCtl s.regs := by
  simp [State.hubNote]

@[simp] theorem State.indCtl_reconnect (n : Nat) (f : PortH → PortH) :
    indCtl (s.reconnect n f).regs = indCtl s.regs := by
  simp [State.reconnect]

/-! ### The contexts of the Loom function (08_loom_function.md R182 to R202) -/

@[simp] theorem State.indCtl_setFree (v : Nat) : indCtl (s.setFree v).regs = indCtl s.regs := by
  simp [State.setFree]

@[simp] theorem State.indCtl_freeReserve (d : Dev) : indCtl (s.freeReserve d).regs = indCtl s.regs := by
  simp [State.freeReserve]

@[simp] theorem State.indCtl_notePages : indCtl s.notePages.regs = indCtl s.regs := by
  simp [State.notePages]

@[simp] theorem State.indCtl_numberRec (n : Nat) (r : WRec) : indCtl (s.numberRec n r).regs = indCtl s.regs := by
  simp [State.numberRec]

@[simp] theorem State.indCtl_formAt (n typ flags status : Nat) (data : List Nat) (stamp : Nat) :
    indCtl (s.formAt n typ flags status data stamp).regs = indCtl s.regs := by
  unfold State.formAt
  split <;> simp

@[simp] theorem State.indCtl_formRec (n typ flags status : Nat) (data : List Nat) :
    indCtl (s.formRec n typ flags status data).regs = indCtl s.regs := by
  simp [State.formRec]

@[simp] theorem State.indCtl_flushPart (n : Nat) : indCtl (s.flushPart n).regs = indCtl s.regs := by
  unfold State.flushPart
  split <;> simp

@[simp] theorem State.indCtl_noteXfer (c : Ctx) (bytes : Nat) :
    indCtl (s.noteXfer c bytes).regs = indCtl s.regs := by
  unfold State.noteXfer
  dsimp only
  repeat' split
  all_goals simp

@[simp] theorem State.indCtl_completionAt (n status bytes stamp : Nat) :
    indCtl (s.completionAt n status bytes stamp).regs = indCtl s.regs := by
  unfold State.completionAt
  split <;> simp

@[simp] theorem State.indCtl_completion (n status bytes : Nat) :
    indCtl (s.completion n status bytes).regs = indCtl s.regs := by
  simp [State.completion]

@[simp] theorem State.indCtl_stageLater (c : Ctx) : indCtl (s.stageLater c).regs = indCtl s.regs := by
  simp [State.stageLater]

@[simp] theorem State.indCtl_stageAck (c : Ctx) (burst bcount : Nat) :
    indCtl (s.stageAck c burst bcount).regs = indCtl s.regs := by
  simp [State.stageAck]

@[simp] theorem State.indCtl_stageCredit (n : Nat) : indCtl (s.stageCredit n).regs = indCtl s.regs := by
  unfold State.stageCredit
  split <;> simp

@[simp] theorem State.indCtl_grant (n : Nat) : indCtl (s.grant n).regs = indCtl s.regs := by
  unfold State.grant
  dsimp only
  repeat' split
  all_goals simp

@[simp] theorem State.indCtl_grantAll : indCtl s.grantAll.regs = indCtl s.regs := by
  simp [State.grantAll]

@[simp] theorem State.indCtl_recordDone (n : Nat) : indCtl (s.recordDone n).regs = indCtl s.regs := by
  unfold State.recordDone
  dsimp only
  repeat' split
  all_goals simp

@[simp] theorem State.indCtl_recordsDone (n k : Nat) : indCtl (s.recordsDone n k).regs = indCtl s.regs := by
  induction k generalizing s with
  | zero => rfl
  | succ k ih => exact (ih _).trans (s.indCtl_recordDone n)

@[simp] theorem State.indCtl_settleStored (n : Nat) : indCtl (s.settleStored n).regs = indCtl s.regs := by
  unfold State.settleStored
  split <;> simp

@[simp] theorem State.indCtl_formEventRec (n code : Nat) (data : List Nat) :
    indCtl (s.formEventRec n code data).regs = indCtl s.regs := by
  simp [State.formEventRec]

@[simp] theorem State.indCtl_closeHandle (n cause : Nat) :
    indCtl (s.closeHandle n cause).regs = indCtl s.regs := by
  unfold State.closeHandle
  dsimp only
  repeat' split
  all_goals simp

@[simp] theorem State.indCtl_releaseCtx (n : Nat) : indCtl (s.releaseCtx n).regs = indCtl s.regs := by
  simp [State.releaseCtx]

@[simp] theorem State.indCtl_dropContexts (p : Ctx → Bool) (cause : Nat) :
    indCtl (s.dropContexts p cause).regs = indCtl s.regs := by
  refine State.indCtl_foldl _ _ (fun u c => ?_)
  dsimp only
  split <;> simp

@[simp] theorem State.indCtl_noteWaiting : indCtl s.noteWaiting.regs = indCtl s.regs := by
  simp [State.noteWaiting]

@[simp] theorem State.indCtl_endDev (d : Dev) (cause : Nat) : indCtl (s.endDev d cause).regs = indCtl s.regs := by
  simp [State.endDev]

@[simp] theorem State.indCtl_endTree (port cause : Nat) : indCtl (s.endTree port cause).regs = indCtl s.regs := by
  simp [State.endTree]

/-! ### Ports, their power and their modes (04_port_power.md R80 to R88; 05_port_lifecycle.md R110 to R123) -/

@[simp] theorem State.indCtl_startDetach (n cause : Nat) :
    indCtl (s.startDetach n cause).regs = indCtl s.regs := by
  simp [State.startDetach]

@[simp] theorem State.indCtl_setAtt (n a : Nat) : indCtl (s.setAtt n a).regs = indCtl s.regs := by
  simp [State.setAtt]

@[simp] theorem State.indCtl_noteAlloc (k : Nat) : indCtl (s.noteAlloc k).regs = indCtl s.regs := by
  simp [State.noteAlloc]

@[simp] theorem State.indCtl_setRp (n code : Nat) : indCtl (s.setRp n code).regs = indCtl s.regs := by
  simp [State.setRp]

@[simp] theorem State.indCtl_duePass (k : Nat) : indCtl (s.duePass k).regs = indCtl s.regs := by
  simp [State.duePass]

@[simp] theorem State.indCtl_raiseDetach (n : Nat) : indCtl (s.raiseDetach n).regs = indCtl s.regs := by
  simp [State.raiseDetach]

@[simp] theorem State.indCtl_startQualify (n : Nat) : indCtl (s.startQualify n).regs = indCtl s.regs := by
  simp [State.startQualify]

@[simp] theorem State.indCtl_powerMoved (n old : Nat) : indCtl (s.powerMoved n old).regs = indCtl s.regs := by
  simp [State.powerMoved]

@[simp] theorem State.indCtl_toPower (n p : Nat) : indCtl (s.toPower n p).regs = indCtl s.regs := by
  simp [State.toPower]

@[simp] theorem State.indCtl_switchOff (n : Nat) : indCtl (s.switchOff n).regs = indCtl s.regs := by
  simp [State.switchOff]

@[simp] theorem State.indCtl_evalPower (n : Nat) : indCtl (s.evalPower n).regs = indCtl s.regs := by
  simp [State.evalPower]

@[simp] theorem State.indCtl_markRun (q : Option ReqId) : indCtl (s.markRun q).regs = indCtl s.regs := by
  unfold State.markRun
  split <;> simp

@[simp] theorem State.indCtl_runDeferred (n : Nat) : indCtl (s.runDeferred n).regs = indCtl s.regs := by
  simp [State.runDeferred]

@[simp] theorem State.indCtl_reachOff (n : Nat) : indCtl (s.reachOff n).regs = indCtl s.regs := by
  simp [State.reachOff]

@[simp] theorem State.indCtl_cycleVbus (n : Nat) : indCtl (s.cycleVbus n).regs = indCtl s.regs := by
  simp [State.cycleVbus]

@[simp] theorem State.indCtl_settleDomains : indCtl s.settleDomains.regs = indCtl s.regs := by
  simp [State.settleDomains]

@[simp] theorem State.indCtl_noteShuttle (j : Nat) : indCtl (s.noteShuttle j).regs = indCtl s.regs := by
  simp [State.noteShuttle]

@[simp] theorem State.indCtl_noteServing (n : Nat) : indCtl (s.noteServing n).regs = indCtl s.regs := by
  unfold State.noteServing
  split <;> simp

@[simp] theorem State.indCtl_enterMode (n m : Nat) (override : Bool) :
    indCtl (s.enterMode n m override).regs = indCtl s.regs := by
  simp [State.enterMode]

@[simp] theorem State.indCtl_startMode (n m : Nat) : indCtl (s.startMode n m).regs = indCtl s.regs := by
  simp [State.startMode]

@[simp] theorem State.indCtl_recompute (n : Nat) : indCtl (s.recompute n).regs = indCtl s.regs := by
  simp [State.recompute]

@[simp] theorem State.indCtl_recomputeAll : indCtl s.recomputeAll.regs = indCtl s.regs := by
  simp [State.recomputeAll]

/-! ### The debugger's session and the management port's interrupt (15_security_and_debug.md R363 to R366; 17_registers.md R397) -/

@[simp] theorem State.indCtl_superviseAgain : indCtl s.superviseAgain.regs = indCtl s.regs := by
  simp [State.superviseAgain]

@[simp] theorem State.indCtl_debugOverride (_on : Bool) : indCtl (s.debugOverride _on).regs = indCtl s.regs := by
  simp [State.debugOverride]

@[simp] theorem State.indCtl_endSession (cause : Nat) : indCtl (s.endSession cause).regs = indCtl s.regs := by
  simp [State.endSession]

@[simp] theorem State.indCtl_sessionCheck : indCtl s.sessionCheck.regs = indCtl s.regs := by
  simp [State.sessionCheck]

@[simp] theorem State.indCtl_nameTarget (d : Nat) : indCtl (s.nameTarget d).regs = indCtl s.regs := by
  simp [State.nameTarget]

@[simp] theorem State.indCtl_nameFor (d : Option Nat) : indCtl (s.nameFor d).regs = indCtl s.regs := by
  unfold State.nameFor
  split <;> simp

@[simp] theorem State.indCtl_ibiCheck : indCtl s.ibiCheck.regs = indCtl s.regs := by
  simp [State.ibiCheck]

theorem State.indCtl_permit (p : Path) (ind : Bool) (addr : Nat) (write : Option Nat) :
    indCtl (s.permit p ind addr write).1.regs = indCtl s.regs := by
  unfold State.permit
  cases p <;> simp [State.debugEnds]

end

end Sys2Proof.Machine
end

section
/-! PROOFS. Single register accesses and the commands of the indirect windows (17_registers.md R386, R387, R390, R391, R394,
R395). -/

namespace Sys2Proof.Machine

/-! ### A field that a write leaves as it was -/

/-- The number of cells a store lists for a register: at most one where the store is canonical. -/
def cellCount (l : List Cell) (f : Fld) (u : Nat) : Nat := l.countP (fun c => c.fld = f ∧ c.unit = u)

section

variable {f g : Fld} {u w : Nat}

theorem cellCount_cons (c : Cell) (r : List Cell) :
    cellCount (c :: r) f u = cellCount r f u + if c.fld = f ∧ c.unit = u then 1 else 0 := by
  simp [cellCount, List.countP_cons]

theorem cellCount_erase_same (l : List Cell) : cellCount (regErase l f u) f u = cellCount l f u - 1 := by
  induction l with
  | nil => rfl
  | cons c r ih => by_cases own : c.fld = f ∧ c.unit = u <;> simp [regErase, cellCount_cons, own, ih]

section

variable (apart : ¬(f = g ∧ u = w))
include apart

theorem cellCount_erase_other (l : List Cell) : cellCount (regErase l f u) g w = cellCount l g w := by
  induction l with
  | nil => rfl
  | cons c r ih => by_cases own : c.fld = f ∧ c.unit = u <;> simp [regErase, cellCount_cons, own, apart, ih]

theorem cellCount_insert_other (l : List Cell) (v : Nat) : cellCount (regInsert l f u v) g w = cellCount l g w := by
  induction l with
  | nil => simp [cellCount, regInsert, apart]
  | cons c r ih =>
    by_cases own : c.fld = f ∧ c.unit = u
    · simp [regInsert, cellCount_cons, own, apart]
    · by_cases before : keyLt c.fld c.unit f u = true <;> simp [regInsert, cellCount_cons, own, before, apart, ih]

theorem cellCount_set_other (l : List Cell) (v : Nat) : cellCount (regSet l f u v) g w = cellCount l g w := by
  unfold regSet
  dsimp only
  split
  · exact cellCount_erase_other apart l
  · exact cellCount_insert_other apart l _

end

theorem regGet_of_cellCount {l : List Cell} (none : cellCount l f u = 0) : regGet l f u = f.reset u :=
  regGet_notIn (by simpa [cellCount, List.countP_eq_zero] using none)

/-- A write that keeps the number of cells reads back, in every store: where it erases a cell, none was there. -/
theorem regGet_set_of_cellCount {l : List Cell} {v : Nat} (kept : cellCount (regSet l f u v) f u = cellCount l f u) :
    regGet (regSet l f u v) f u = low f.info.width v := by
  unfold regSet at kept ⊢
  dsimp only at kept ⊢
  split at kept
  case isTrue reset =>
    rw [cellCount_erase_same] at kept
    rw [if_pos reset, reset]
    exact regGet_of_cellCount (by rw [cellCount_erase_same]; omega)
  case isFalse moved =>
    rw [if_neg moved]
    exact regGet_insert_same ..

end

/-- Two writes of different registers that leave the state as it was wrote what the registers held. -/
theorem State.get_of_set_set {s : State} {f g : Fld} {u a b : Nat} (apart : f ≠ g) (same : (s.set f u a).set g u b = s) :
    s.get f u = low f.info.width a ∧ s.get g u = low g.info.width b := by
  have regs : regSet (regSet s.regs f u a) g u b = s.regs := congrArg State.regs same
  have first : regGet (regSet s.regs f u a) f u = regGet s.regs f u := by
    rw [← regGet_set_other (regSet s.regs f u a) b (fun both : g = f ∧ u = u => apart both.1.symm), regs]
  constructor
  · refine first.symm.trans (regGet_set_of_cellCount ?_)
    rw [← cellCount_set_other (fun both : g = f ∧ u = u => apart both.1.symm) (regSet s.regs f u a) b, regs]
  · refine (congrArg (fun r => regGet r g u) regs).symm.trans (regGet_set_of_cellCount ?_)
    rw [regs, cellCount_set_other (fun both : f = g ∧ u = u => apart both.1)]

/-! ### The window registers (17_registers.md R390) -/

theorem indCtl_fields : fieldsOf .RW .IND 0x14 = [(.IND_CTL_AUTOINC, 0), (.IND_CTL_RD_AHEAD, 0)]
    ∧ fieldsOf .W1C .IND 0x14 = [] := by
  decide +kernel

theorem exists_applyWord_indCtl (s : State) (k v : Nat) : ∃ a b,
    applyWord s .write .IND k 0x14 v = (s.set .IND_CTL_AUTOINC k a).set .IND_CTL_RD_AHEAD k b := by
  obtain ⟨writable, cleared⟩ := indCtl_fields
  have step : keyOf .IND_CTL_AUTOINC k 0 = k := Nat.mul_one k
  have ahead : keyOf .IND_CTL_RD_AHEAD k 0 = k := Nat.mul_one k
  simp only [applyWord, writable, cleared, List.foldl_cons, List.foldl_nil, step, ahead]
  exact ⟨_, _, rfl⟩

/-- The controls of a window that a write of its own control word leaves alone are single bits. -/
theorem State.indCtl_le_of_applyWord {s : State} {k v : Nat} (kept : Machine.applyWord s .write .IND k 0x14 v = s) :
    s.get .IND_CTL_AUTOINC k ≤ 1 ∧ s.get .IND_CTL_RD_AHEAD k ≤ 1 := by
  obtain ⟨a, b, wrote⟩ := exists_applyWord_indCtl s k v
  obtain ⟨step, ahead⟩ := State.get_of_set_set (by decide) (wrote.symm.trans kept)
  rw [step, ahead]
  exact ⟨Nat.le_of_lt_succ (Nat.mod_lt _ (by decide)), Nat.le_of_lt_succ (Nat.mod_lt _ (by decide))⟩

/-- A control word with FETCH set has its bit 2 set. -/
theorem bit_fetch {a b : Nat} (step : a ≤ 1) (ahead : b ≤ 1) : bit (4 + a + 2 * b) 2 = true := by
  simp only [bit, beq_iff_eq]
  omega

/-- A write of the control word that its own bits do not change sets FETCH where its other bits are those of the window. -/
theorem bit_fetch_of_kept {s t : State} {k v : Nat} (same : indCtl t.regs = indCtl s.regs)
    (word : v = 4 + s.get .IND_CTL_AUTOINC k + 2 * s.get .IND_CTL_RD_AHEAD k)
    (kept : applyWord t .write .IND k 0x14 v = t) : bit v 2 = true := by
  obtain ⟨step, ahead⟩ := State.indCtl_le_of_applyWord kept
  obtain ⟨stepSame, aheadSame⟩ := Prod.mk.inj (congrFun same k)
  rw [word]
  exact bit_fetch (stepSame.symm.trans_le step) (aheadSame.symm.trans_le ahead)

section

variable {s u w : State} {p : Path} {v : Nat}

theorem State.winSettle_of_idle (idle : w.winOp p = none) (stretch : Bool) : w.winSettle p stretch = w := by
  rw [State.winSettle, idle]

theorem State.indEarly_of_idle (idle : w.winOp p = none) (i3c : Bool) : w.indEarly p i3c = false := by
  simp [State.indEarly, idle]

/-- The offsets of the registers of a window. -/
def indOffsets : List Nat := [0x00, 0x04, 0x08, 0x0C, 0x10, 0x14]

theorem indOffsets_mapped {off : Nat} (mapped : off ∈ indOffsets) :
    off % 4 = 0 ∧ off < 0x4000 ∧ (fieldsAt .IND off).isEmpty = false := by
  have all : ∀ o ∈ indOffsets, o % 4 = 0 ∧ o < 0x4000 ∧ (fieldsAt .IND o).isEmpty = false := by decide +kernel
  exact all off mapped

section

variable (on : w.domOn dMIF = true) (unfenced : w.domFenced dMIF = false)
include on unfenced

theorem State.blockReach_mif : w.blockReach 5 = rOK := by
  simp [State.blockReach, blockDomain, on, unfenced]

theorem State.directWrite_ind {off : Nat} (mapped : off ∈ indOffsets) (i3c : Bool) :
    w.directWrite p i3c (0x050000 + off) .write v = w.indRegWrite p i3c off v := by
  obtain ⟨aligned, short, -⟩ := indOffsets_mapped mapped
  have block : (0x050000 + off) / 65536 % 256 = 5 := by omega
  have inBlock : (0x050000 + off) % 65536 / 4 * 4 = off := by omega
  have plain : aliasOf .write off = (.write, off) := by simp [aliasOf, short, Nat.mod_eq_of_lt short]
  simp only [State.directWrite, block, inBlock, plain, blockSpace, State.blockReach_mif on unfenced, State.touchFor]
  rfl

theorem State.directRead_indData (i3c : Bool) :
    w.directRead p i3c 0x050004 = ((w.indDataRead p i3c).1, (w.indDataRead p i3c).2, rOK) := by
  simp only [State.directRead, blockSpace, State.blockReach_mif on unfenced, State.touchFor]
  rfl

end

section

variable (idle : w.winOp p = none)
include idle

/-- What a write of a window register does where the window has no access in progress. -/
theorem State.indRegWrite_of_idle {off : Nat} (mapped : off ∈ indOffsets) (i3c : Bool) :
    w.indRegWrite p i3c off v = (
      if off == 0 then
        let t := w.setIndAddr p v
        (if t.flag .IND_CTL_RD_AHEAD p.ix then t.indFetch p else t, rOK)
      else if off == 4 then (w.indTarget p .write v, rOK)
      else if off == 8 then (w.indTarget p .setBits v, rOK)
      else if off == 0xC then (w.indTarget p .clearBits v, rOK)
      else if off == 0x10 then (w.indTarget p .toggle v, rOK)
      else
        let t := Machine.applyWord w .write .IND p.ix off v
        (if off == 0x14 && bit v 2 then t.indFetch p else t, rOK)) := by
  obtain ⟨-, -, named⟩ := indOffsets_mapped mapped
  rw [State.indRegWrite, State.winSettle_of_idle idle]
  exact (if_neg (by simp [named])).trans (if_neg (by simp [State.indEarly_of_idle idle]))

theorem State.indDataRead_of_idle (i3c : Bool) :
    w.indDataRead p i3c = (
      if w.flag .IND_CTL_AUTOINC p.ix then
        let t := w.indAdvance p
        (if t.flag .IND_CTL_RD_AHEAD p.ix then t.indFetch p else t, w.get .IND_DATA p.ix)
      else (w, w.get .IND_DATA p.ix)) := by
  rw [State.indDataRead, State.winSettle_of_idle idle]
  exact if_neg (by simp [State.indEarly_of_idle idle])

end

/-- A write of a window register by a path that may make it, where MIF is ON. -/
theorem State.windowReg_of_mapped {off : Nat} {t : State} (may : s.permit p false (0x050000 + off) (some v) = (u, true))
    (noted : u.ibiCheck = w) (on : w.domOn dMIF = true) (unfenced : w.domFenced dMIF = false) (mapped : off ∈ indOffsets)
    (acts : w.indRegWrite p s.inI3c off v = (t, rOK)) :
    s.windowReg p off v = t.ibiCheck := by
  refine State.pathWrite_of_ok may ?_
  rw [noted, State.directWrite_ind on unfenced mapped]
  exact acts

theorem State.pathRead_indData {r : State × Nat} (may : s.permit p false 0x050004 none = (u, true)) (on : u.domOn dMIF = true)
    (unfenced : u.domFenced dMIF = false) (idle : u.winOp p = none)
    (acts : (
      if u.flag .IND_CTL_AUTOINC p.ix then
        let t := u.indAdvance p
        (if t.flag .IND_CTL_RD_AHEAD p.ix then t.indFetch p else t, u.get .IND_DATA p.ix)
      else (u, u.get .IND_DATA p.ix)) = r) :
    s.pathRead p 0x050004 = { r.1 with lastRead := r.2 } := by
  refine State.pathRead_of_ok may ?_
  rw [State.directRead_indData on unfenced, State.indDataRead_of_idle idle, acts]

end

/-! ### A trigger of the snapshot (17_registers.md R395) -/

theorem State.directWrite_snapTrigger {w : State} (quiet : w.flag .SNAP_STAT_BUSY = false) (p : Path) (i3c : Bool) :
    w.directWrite p i3c 0x060000 .write 1 = (w.startSnap, rOK) := by
  have named : (fieldsAt .SNAP 0).isEmpty = false := by decide +kernel
  have starts : w.snapTrigger = w.startSnap := if_neg (by simp [quiet])
  rw [← starts]
  change (if (fieldsAt .SNAP 0).isEmpty then (w, rRESERVED) else w.blockWrite p .write 6 .SNAP 0 0 1) = _
  exact if_neg (by simp [named])

/-- Settles O46: an access by what the path's permission and the register's own write or read give. -/
theorem registerAccessCommands : Obligations.RegisterAccessCommands := by
  refine ⟨?write, ?set, ?clear, ?toggle, ?read, ?low, ?snap, ?feed, ?power, ?addr, ?data, ?dataNext, ?put, ?setBits, ?clearBits,
    ?toggleBits, ?fetch, ?completed⟩
  case write | set | clear | toggle =>
    intro path addr v s u t may takes
    exact congrArg _ (State.pathWrite_of_ok may takes)
  case read | low =>
    intro path addr v s u t may takes
    exact congrArg _ (State.pathRead_of_ok may takes)
  case snap =>
    intro path s u may quiet
    exact congrArg _ (State.pathWrite_of_ok may (State.directWrite_snapTrigger quiet path _))
  case feed | power =>
    intro path n v s u t named may takes
    refine (if_pos named).trans (congrArg _ ((State.pathInd_of_permit may).trans ?_))
    rw [takes]
  case addr =>
    intro path v s u w may noted on unfenced idle
    exact congrArg _ (State.windowReg_of_mapped may noted on unfenced (by decide) (State.indRegWrite_of_idle idle (by decide) _))
  case data =>
    intro path s u may on unfenced idle fixed
    exact congrArg _ (State.pathRead_indData may on unfenced idle (if_neg (by simp [fixed])))
  case dataNext =>
    intro path s u may on unfenced idle steps
    exact congrArg _ (State.pathRead_indData may on unfenced idle (if_pos steps))
  case put | setBits | clearBits | toggleBits =>
    intro path v s u w may noted on unfenced idle
    exact congrArg _ (State.windowReg_of_mapped may noted on unfenced (by decide) (State.indRegWrite_of_idle idle (by decide) _))
  case fetch =>
    rintro path v s u w word may rfl on unfenced idle kept
    have permitted := s.indCtl_permit path false (0x050000 + 0x14) (some v)
    rw [may] at permitted
    have fetches := bit_fetch_of_kept (u.indCtl_ibiCheck.trans permitted) word kept
    have acts : u.ibiCheck.indRegWrite path s.inI3c 0x14 v = (u.ibiCheck.indFetch path, rOK) := by
      rw [State.indRegWrite_of_idle idle (by decide), kept, fetches]
      simp only [Nat.reduceBEq, Bool.false_eq_true, if_false, Bool.and_self, if_true]
    have runs : exec (.indFetch path) s = .next (s.windowReg path 0x14 v) := by
      rw [word]
      rfl
    exact runs.trans (congrArg _ (State.windowReg_of_mapped may rfl on unfenced (by decide) acts))
  case completed =>
    intro path w s waits
    have settles : s.ibiCheck.winSettle path true = s.ibiCheck.winFinish w := by
      rw [State.winSettle, waits]
      exact if_pos rfl
    exact congrArg Host.Outcome.next (State.seeInts_of settles)

end Sys2Proof.Machine
end
